-- ==== Sys2Proof/Word.lean ====
section
/-! DEFINITION. The words of the model: bytes, 64-bit words, and the block of 4,096 data bytes with its 16
metadata bytes (R50, R58, R162), which is one bit vector so that XOR over blocks is one operation. -/

namespace Sys2Proof

/-- One byte. -/
abbrev Byte := BitVec 8

/-- One logical block as members hold it: bits [32767:0] are the 4,096 data bytes, byte 0 lowest, and bits
[32895:32768] the 16 metadata bytes, zero where the array has META 0. -/
abbrev Block := BitVec 32896

end Sys2Proof
end

