-- ==== Sys2Proof/Syntax.lean ====
section
/-! DEFINITION. The commands of the block: one constructor of `Instr` per row of spec/opcode_table.json, with the
row's operands, and the types those operands have. A command is a bus access, a host or mailbox command, a frame, a
drive answer, a pin event or an expiry; the device's own tasks appear as the rows that the spec names for them. -/

namespace Sys2Proof

/-- An NVMe command's place: controller, queue (0 is the admin queue) and command identifier. -/
structure IoHdr where
  ctrl : Nat
  q : Nat
  cid : Nat
deriving DecidableEq, Repr

/-- A Sanitize command of the erase kind: its header and its Sanitize Action, of which 010b alone is Block Erase (R158). -/
structure SaniHdr where
  hdr : IoHdr
  sanact : Nat
deriving DecidableEq, Repr

/-- What a JOIN or CENSUS report tells the Reel of its sender, beside SLOT and peer: CONFIG_GEN, its namespaces, its first fabric address (R288). -/
structure UnitInfo where
  configGen : Nat
  nsCount : Nat
  family : Nat
  addr : Nat
deriving DecidableEq, Repr

/-- What a PTP Announce says of UTC: currentUtcOffset, and that the day ends with a leap second (R40). -/
structure UtcInfo where
  offset : Nat
  leap : Bool
deriving DecidableEq, Repr

/-- A member read that meets unreadable blocks (R116): the one of a member command, or one that a background step makes on a drive. -/
inductive RdOf where
  | cmd (id : Nat)
  | step (drv : Nat)
deriving DecidableEq, Repr

/-- What an I/O command carries beside its range: reserved field set (R151 row 2), SGL length wrong (row 6), host
transfer failed (row 13), and the protection information fields PRACT, PRCHK, application and reference tag (R162). -/
structure IoFlags where
  resv : Bool
  sglBad : Bool
  xferErr : Bool
  pract : Bool
  prchk : Nat
  appTag : Nat
  refTag : Nat
deriving DecidableEq, Repr

/-- The sender of a mailbox request: the MBX bank of a link, or an MCTP endpoint with the link that it acts for
(R386, R392; SMBus acts for link 0). Links: 0 HP0.0, 1 HP0.1, 2 HP1.0, 3 HP1.1. -/
inductive MbxSrc where
  | bank (link : Nat)
  | mctp (ep : Nat) (link : Nat)
deriving DecidableEq, Repr

/-- A mailbox request's header (R387): sender, TAG, LENGTH, and whether a reserved bit of the header or payload is
set or a field encoding illegal that the operands cannot show (check 3 of R388). -/
structure MbxHdr where
  src : MbxSrc
  tag : Nat
  len : Nat
  resvBad : Bool
deriving DecidableEq, Repr

/-- An authorization token (R335): the key slot that signed it, whether its signature verifies, and the nonce, device
and opcode it carries. -/
structure Token where
  slot : Nat
  sigOk : Bool
  nonce : Nat
  device : Nat
  opcode : Nat
deriving DecidableEq, Repr

/-- The answer of a drive to a member command. -/
inductive MStatus where
  | ok
  | failed
deriving DecidableEq, Repr

/-- One member loss of Table 5.1: array, member index, row of the table. -/
structure Loss where
  array : Nat
  member : Nat
  row : Nat
deriving DecidableEq, Repr

/-- What Identify and the probe tell of a drive (R55, R235): NGUID, block count, metadata bytes, whether the LBA
format and protection settings fit, whether deallocated blocks read as zeros, reservation support, Sanitize Block
Erase support, percentage of its endurance used (R167). -/
structure DriveDesc where
  nguid : Nat
  blocks : Nat
  metaBytes : Nat
  fmtOk : Bool
  zeroOk : Bool
  resvOk : Bool
  sanOk : Bool
  used : Nat
deriving DecidableEq, Repr

/-- The body of a journal record (Tables 4.5 to 4.9). -/
inductive RecBody where
  | stripe (array stripe op firstCol colCount wmask upto saveAddr idx0 idx1 : Nat)
  | basket (array ns count slba addr dcrc : Nat) (companion : Bool)
  | done (array status intentSeq stripe : Nat)
  | ckpt (sub upto ckptNum arrayMask shortMask : Nat)
  | clm (role cause claim prev peer : Nat)
  | progress (opkind array target wm total pstate : Nat)
  | unreadable
deriving DecidableEq, Repr

/-- A journal record (Table 4.4). `crcOk` says whether its CRC-32C matches (R83). -/
structure Rec where
  seq : Nat
  unit : Nat
  epoch : Nat
  carried : Bool
  mirrored : Bool
  origSeq : Nat
  crcOk : Bool
  body : RecBody
deriving DecidableEq, Repr

/-- A configuration register item (R326): offset and value. -/
structure CfgItem where
  off : Nat
  val : Nat
deriving DecidableEq, Repr

/-- A Plisasum image as its checks and its contents matter (R323 to R327): `magicOk` check 1 of Table 13.9, KEY_SLOT, `keyHash` the
SHA-384 of PUBKEY, `sigOk` check 4, `bindOk` check 5, SVN, `sectsOk` the digests and the NOLJO signature of check 7, NOLJO_VERSION, SPAR_MIN
and SPAR_MAX, CONFIG_GEN, BUILD_EPOCH, KIND, the TYPEs of its sections, their register items and tables, the digest of its contents. -/
structure Image where
  magicOk : Bool
  keySlot : Nat
  keyHash : Nat
  sigOk : Bool
  bindOk : Bool
  svn : Nat
  sectsOk : Bool
  version : Nat
  sparMin : Nat
  sparMax : Nat
  gen : Nat
  build : Nat
  kind : Nat
  types : List Nat
  items : List CfgItem
  tables : List (Nat × List Nat)
  digest : Nat
deriving DecidableEq, Repr

/-- A fabrics Connect (R140, R239): queue pair, queue id, SQSIZE, host NQN and host identifier, controller named by an
I/O connect, discovery service or not, keep-alive timeout, SQ flow control disabled. -/
structure ConnectReq where
  qp : Nat
  cid : Nat
  qid : Nat
  sqsize : Nat
  hostNqn : Nat
  hostId : Nat
  cntlid : Nat
  discovery : Bool
  kato : Nat
  noFlow : Bool
deriving DecidableEq, Repr

/-- The kind of Envelope line an uncorrectable SRAM error hits (Table 7.7). -/
inductive SramLine where
  | clean (key : Nat)
  | skirt (key : Nat)
  | evbOffer (key : Nat)
  | dirtyIndex (key : Nat)
  | dirtyLostMap (key : Nat)
  | dirtyBitmap (key : Nat)
  | dirtyOverflow (key : Nat)
  | heldBefore (ctx : Nat)
  | heldAfter (ctx : Nat)
  | scratch (link : Nat) (offset : Nat) (spool : Bool)
deriving DecidableEq, Repr

/-- What a Basket beat's check finds (R200, R201). -/
inductive EccKind where
  | corrected
  | uncorrectable
  | uncorrectableBothIndex
deriving DecidableEq, Repr

/-- The link events that reset a host link (R226). -/
inductive LinkReset where
  | perst
  | hotReset
  | linkDisable
  | linkDown
deriving DecidableEq, Repr

/-- Drive-port link events (R234). -/
inductive LinkEvent where
  | down
  | uncorrectable
  | correctable
deriving DecidableEq, Repr

/-- Fabric subport events (R236). -/
inductive FabEvent where
  | up
  | down
  | localFault
  | remoteFault
deriving DecidableEq, Repr

/-- How a Spool request ended: with bytes (64 for a descriptor fetched from a host space, the burst's bytes for a host
source; a request to the device's own spaces returns what they hold), or with a bus error of R266, by cause and
direction (Table 10.11). -/
inductive BurstRes where
  | ok (data : List Nat)
  | busErr (cause dir : Nat)
deriving DecidableEq, Repr

/-- The header of a String frame as received (Table 11.1): the port (0 west, 1 east), sender, addressee (0xFFFF broadcast),
SEQ, HOPS, direction (true westward), WRAPPED, UNCAL, and whether its CRC matches. -/
structure StrHdr where
  port : Nat
  src : Nat
  dst : Nat
  seq : Nat
  hops : Nat
  west : Bool
  wrapped : Bool
  uncal : Bool
  crcOk : Bool
deriving DecidableEq, Repr

/-- The payload of an EPOCH frame (Table 11.4), and the offset of its sender's boundary from this device's own, in ns,
as the timestamps of R279 give it. -/
structure EpochFrame where
  epoch : Nat
  corrPs : Nat
  reelKey : Nat
  size : Nat
  todValid : Bool
  reelLocked : Bool
  taiUtc : Nat
  sysGen : Nat
  dirGen : Nat
  offsetNs : Int
deriving DecidableEq, Repr

/-- A directory entry (Table 11.6). -/
structure DirEntry where
  slot : Nat
  unit : Nat
  flags : Nat
  role : Nat
  peer : Nat
  claim : Nat
  configGen : Nat
  nsCount : Nat
  family : Nat
  addr : Nat
  seen : Nat
deriving DecidableEq, Repr

/-- A SUMMARY body (Table 11.8). -/
structure Summary where
  unit : Nat
  worstCode : Nat
  lastSeq : Nat
  newRecords : Nat
  notOptimal : Nat
  down : Nat
  lostTotal : Nat
  tj : Nat
  tet : Nat
  bal : Nat
  role : Nat
  epoch : Nat
deriving DecidableEq, Repr

/-- A HELLO frame of the pair (R315): the sender's UNIT, its configured PEER_UNIT and HOME, LAST_CLAIM, highest SEQ, last
role (Table 4.8), whether its evidence is its Gondola or its Ballast journal copy, whether it was SYNCED, whether its
MRAM is sound, whether the condition of R293 on configuration holds between the two, the VERSION of its frame, and whether the sender's
image accepts this unit's Spar protocol version. -/
structure Hello where
  unit : Nat
  peer : Nat
  home : Bool
  lastClaim : Nat
  highSeq : Nat
  role : Nat
  evidence : Bool
  synced : Bool
  mramOk : Bool
  cfgMatch : Bool
  version : Nat
  accepts : Bool
deriving DecidableEq, Repr

/-- Where an uncorrectable MRAM error lies (R81). -/
inductive MramWhere where
  | ring (slot : Nat)
  | root (copy : Nat)
  | persistent
  | windsock (word : Nat)
  | user (offset : Nat)
deriving DecidableEq, Repr

/-- An SPDM request's sender (transport as for the mailbox) and whether its version field is 1.2. -/
structure SpdmReq where
  src : MbxSrc
  verOk : Bool
deriving DecidableEq, Repr

/-- The test-port instructions of R416, and any other code. -/
inductive JtagIns where
  | bypass
  | idcode
  | samplePreload
  | extest (outs : List (Nat × Bool))
  | highz
  | clamp
  | debug (code : Nat)
  | trst
deriving DecidableEq, Repr

/-- The commands, one constructor per row of the operation table, in the table's order; each line ends with the rule that
the table names for the row. -/
inductive Instr where
  | epochBoundary  -- R38
  | tailCopyCheckpoint  -- R108
  | tailCopyDone (a : Nat) (reached : Nat)  -- R108
  | regionMapUpdateDone (a : Nat) (region : Nat)  -- R108
  | sealCheckpoint  -- R90
  | soloRateRefresh (a : Nat) (reb : Nat) (pat : Nat) (cb : Nat) (dst : Nat)  -- R42
  | gaugeStoreWrite  -- R345
  | duskEnter  -- R359
  | duskExit  -- R359
  | sourceSignalPresent (src : Nat)  -- R33
  | sourceRetry  -- R33
  | ptpSync (offsetNs : Int)  -- R29
  | ptpAnnounce (rank : Nat) (utcOffset : UtcInfo)  -- R30, R40
  | ppsEdge  -- R31
  | sourceLockCriterionMet (src : Nat) (offsetNs : Int)  -- R33
  | sourceLoss (src : Nat)  -- R33
  | holdMaxExpire  -- R33
  | forceStep  -- R36
  | acquire  -- R33
  | tetClrErr  -- R48
  | todArm (v : Nat)  -- R31
  | alarmArm (n : Nat) (reg : Nat) (v : Nat)  -- R47
  | dayOverrideWrite (v : Nat)  -- R41
  | sqFetch (c : Nat) (q : Nat) (avail : Nat)  -- R141
  | capsuleReceipt (c : Nat) (q : Nat) (bytes : Nat)  -- R142
  | creditWithdraw (c : Nat) (q : Nat)  -- R142
  | contextGrant  -- R144
  | adminContextGrant  -- R146
  | stripeLockGrant  -- R94
  | basketAdmit  -- R205
  | sparShareAdmit  -- R300
  | ringSpaceAdmit  -- R86
  | envAllocationGrant  -- R174
  | evictionBufferGrant  -- R178
  | savePageGrant  -- R98
  | orderedStart (c : Nat) (q : Nat)  -- R150
  | read (h : IoHdr) (nsid : Nat) (slba : Nat) (nlb : Nat) (f : IoFlags)  -- R11
  | write (h : IoHdr) (nsid : Nat) (slba : Nat) (data : List Block) (f : IoFlags)  -- R13
  | orderedWrite (h : IoHdr) (nsid : Nat) (slba : Nat) (data : List Block) (f : IoFlags)  -- R150
  | orderedRead (h : IoHdr) (nsid : Nat) (slba : Nat) (nlb : Nat) (f : IoFlags)  -- R150
  | flush (h : IoHdr) (nsid : Nat)  -- R153
  | writeZeroes (h : IoHdr) (nsid : Nat) (slba : Nat) (nlb : Nat) (deac : Bool) (f : IoFlags)  -- R161
  | datasetManagement (h : IoHdr) (nsid : Nat) (ad : Bool) (ranges : List (Nat × Nat)) (f : IoFlags)  -- R161
  | reservationRegister (h : IoHdr) (nsid : Nat) (rrega : Nat) (iekey : Bool) (crkey : Nat) (nrkey : Nat) (cptpl : Nat)  -- R163
  | reservationReport (h : IoHdr) (nsid : Nat)  -- R163
  | reservationAcquire (h : IoHdr) (nsid : Nat) (racqa : Nat) (rtype : Nat) (crkey : Nat) (prkey : Nat) (iekey : Bool)  -- R163
  | reservationRelease (h : IoHdr) (nsid : Nat) (rrela : Nat) (rtype : Nat) (crkey : Nat) (iekey : Bool)  -- R163
  | getLogPage (h : IoHdr) (nsid : Nat) (lid : Nat) (offset : Nat) (len : Nat)  -- R167
  | identify (h : IoHdr) (cns : Nat) (nsid : Nat)  -- R164
  | abort (h : IoHdr) (sq : Nat) (cid : Nat)  -- R152
  | setFeatures (h : IoHdr) (fid : Nat) (nsid : Nat) (v : Nat) (save : Bool)  -- R166
  | getFeatures (h : IoHdr) (fid : Nat) (v : Nat)  -- R166
  | asynchronousEventRequest (h : IoHdr)  -- R146
  | invalidOpcode (h : IoHdr) (opc : Nat)  -- R151
  | firmwareImageDownload (h : IoHdr) (offset : Nat) (len : Nat) (img : Image)  -- R156
  | firmwareCommit (h : IoHdr) (slot : Nat) (action : Nat)  -- R156
  | fwActivationCheckDone (ok : Bool)  -- R156
  | fwActivationDrainDone  -- R156
  | fwActivationResume (pauseMs : Nat)  -- R156
  | formatNvm (h : IoHdr) (nsid : Nat) (lbaf : Nat) (ses : Nat)  -- R157
  | formatProgressStep  -- R157
  | sanitizeBlockErase (h : SaniHdr)  -- R158
  | sanitizeOverwrite (h : IoHdr) (owpass : Nat) (oipbp : Bool) (ovrpat : Nat)  -- R158
  | sanitizeExitFailureMode (h : IoHdr)  -- R158
  | sanitizeProgressStep  -- R158
  | createIoSq (h : IoHdr) (qid : Nat) (qsize : Nat) (cqid : Nat)  -- R145
  | deleteIoSq (h : IoHdr) (qid : Nat)  -- R155
  | createIoCq (h : IoHdr) (qid : Nat) (qsize : Nat) (iv : Nat)  -- R163
  | deleteIoCq (h : IoHdr) (qid : Nat)  -- R155
  | keepAlive (h : IoHdr)  -- R146
  | keepAliveTimeout (c : Nat)  -- R154
  | connect (r : ConnectReq)  -- R140
  | propertyGet (h : IoHdr) (ofst : Nat)  -- R163
  | propertySet (h : IoHdr) (ofst : Nat) (v : Nat)  -- R163
  | disconnect (h : IoHdr)  -- R155
  | ccEnSet (c : Nat)  -- R225
  | controllerReset (c : Nat)  -- R154
  | memberCompletion (id : Nat) (status : MStatus)  -- R17
  | memberReadError (id : RdOf) (lbas : List Nat)  -- R116
  | readRepair (a : Nat) (stripe : Nat) (writeOk : Bool)  -- R116
  | hedgeExpire (id : Nat)  -- R117
  | memberTimeout (id : Nat)  -- R118
  | memberControllerReadyTimeout (drv : Nat)  -- R118
  | memberMissing (losses : List Loss)  -- R119
  | sliceResidueFail (slice : Nat) (rerunFails : Bool)  -- R70
  | engineJobRetire (slice : Nat)  -- R18
  | destageStep (a : Nat) (stripe : Nat)  -- R207
  | rebuildTargetAssign (a : Nat) (member : Nat) (drv : Nat)  -- R123
  | rebuildStep (a : Nat) (slot : Nat)  -- R125
  | rebuildComplete (a : Nat) (slot : Nat)  -- R128
  | mapCopy (a : Nat) (member : Nat)  -- R72
  | copybackStep (a : Nat)  -- R130
  | copybackSwap (a : Nat)  -- R133
  | copybackAutoStart (a : Nat) (member : Nat)  -- R132
  | patrolStep (a : Nat)  -- R135
  | resyncStep (a : Nat)  -- R111
  | arrayOffline (h : MbxHdr) (a : Nat)  -- R76
  | arrayOnline (h : MbxHdr) (a : Nat)  -- R76
  | arrayForce (h : MbxHdr) (a : Nat)  -- R76
  | arrayReplace (h : MbxHdr) (a : Nat) (member : Nat) (port : Nat) (sub : Nat)  -- R129
  | arrayCopyback (h : MbxHdr) (a : Nat) (member : Nat) (port : Nat) (sub : Nat)  -- R132
  | arrayCopybackStop (h : MbxHdr) (a : Nat)  -- R134
  | patrolRestart (h : MbxHdr) (a : Nat)  -- R135
  | nsCreate (h : MbxHdr) (a : Nat) (flags : Nat) (lbaf : Nat) (nsze : Nat) (base : Nat)  -- R59
  | nsDelete (h : MbxHdr) (nsid : Nat)  -- R60
  | nsList (h : MbxHdr) (first : Nat) (count : Nat)  -- R392
  | envEvictionConfirm (key : Nat)  -- R180
  | envOffer (key : Nat)  -- R181
  | skirtFillReturn (key : Nat)  -- R184
  | skirtStreamExpire (ns : Nat) (next : Nat)  -- R182
  | envMaintClean (v : Nat)  -- R185
  | envMaintInvalidate (v : Nat)  -- R185
  | envMaintCleanInval (v : Nat)  -- R185
  | scratchOn (v : Nat)  -- R188
  | scratchOff (v : Nat)  -- R188
  | envDisableWrite (v : Nat)  -- R191
  | envCleanFirstDone  -- R191
  | envClrErr  -- R195
  | scratchWindowAccess (link : Nat) (offset : Nat) (bytes : List Nat) (wr : Bool) (len : Nat)  -- R189
  | sramUe (kind : SramLine)  -- R194
  | sramCe (count : Nat)  -- R194
  | basketEccError (channel : Nat) (lane : Nat) (page : Nat) (kind : EccKind)  -- R201
  | scrubPass  -- R201
  | scrubNow  -- R201
  | bskClrErr  -- R221
  | bankRefresh  -- R198
  | calibrate  -- R198
  | pfailRecognised  -- R213
  | dumpComplete (ms : Nat) (ok : Bool)  -- R213
  | dumpSelfReset  -- R213
  | vaultDriveFailure (n : Nat)  -- R220
  | ballastRestore (ms : Nat) (badUnits : List Nat)  -- R216
  | discard  -- R219
  | balClrErr  -- R221
  | hostLinkReset (link : Nat) (kind : LinkReset)  -- R226
  | hostLinkUp (link : Nat) (speed : Nat) (width : Nat) (flit : Bool)  -- R225
  | flrFunction1 (link : Nat)  -- R226
  | hostCompletionTimeout (h : IoHdr)  -- R227
  | msixUnmask (link : Nat) (vec : Nat)  -- R384
  | intStatusW1c (link : Nat) (source : Nat) (v : Nat)  -- R384
  | drivePresence (port : Nat) (sub : Nat) (d : DriveDesc)  -- R231
  | driveBringupTimer (port : Nat) (sub : Nat)  -- R231
  | driveLinkUp (port : Nat) (sub : Nat) (speed : Nat) (width : Nat)  -- R231
  | driveReady (port : Nat) (sub : Nat)  -- R231
  | driveRemoval (port : Nat) (sub : Nat)  -- R232
  | driveOff (port : Nat) (sub : Nat)  -- R233
  | driveOn (port : Nat) (sub : Nat)  -- R233
  | driveLinkEvent (port : Nat) (sub : Nat) (kind : LinkEvent)  -- R234
  | driveLinkRetrainTimeout (port : Nat) (sub : Nat)  -- R234
  | reservationConflict (a : Nat) (member : Nat) (holder : Nat)  -- R306
  | cmConnectRequest (host : Nat) (p : Nat) (sub : Nat)  -- R237
  | qpRetryExhausted (qp : Nat)  -- R237
  | ecnCeReceived (qp : Nat)  -- R242
  | cnpReceived (qp : Nat)  -- R242
  | ccRecover (qp : Nat)  -- R242
  | pfcXoff (p : Nat) (sub : Nat) (prio : Nat)  -- R243
  | pfcXon (p : Nat) (sub : Nat) (prio : Nat)  -- R243
  | pfcPauseRefresh (p : Nat) (sub : Nat) (prio : Nat)  -- R243
  | pfcStorm (p : Nat) (sub : Nat) (prio : Nat)  -- R244
  | pfcStormEnd (p : Nat) (sub : Nat) (prio : Nat)  -- R244
  | pauseReceived (p : Nat) (sub : Nat) (prio : Nat) (quanta : Nat)  -- R244
  | fabricLinkEvent (p : Nat) (sub : Nat) (ev : FabEvent)  -- R236
  | splStart (ch : Nat)  -- R257
  | splStop (ch : Nat)  -- R257
  | splResume (ch : Nat)  -- R267
  | splAbort (ch : Nat)  -- R267
  | splTrigger (ch : Nat)  -- R258
  | splTimerTick (k : Nat)  -- R258
  | splTimerWrite (k : Nat) (v : Nat)  -- R258
  | splDescFetch (ch : Nat) (res : BurstRes)  -- R253
  | splSerialTurn  -- R262
  | splBurstDone (ch : Nat) (res : BurstRes)  -- R254
  | splDescDone (ch : Nat) (res : BurstRes)  -- R259
  | splChainLimit (ch : Nat)  -- R260
  | splRequestTimeout (ch : Nat) (dir : Nat)  -- R266
  | splClrErr  -- R268
  | stringLinkUp (port : Nat)  -- R272
  | stringLinkDown (port : Nat) (foreign : Bool)  -- R282
  | epochFrame (h : StrHdr) (f : EpochFrame)  -- R279
  | delayMeasure  -- R279
  | delayReq (h : StrHdr) (t1 : Nat)  -- R279
  | delayResp (h : StrHdr) (t1 : Nat) (t2 : Nat) (t3 : Nat) (t4 : Nat)  -- R279
  | candidate (h : StrHdr) (key : Nat) (unit : Nat)  -- R283
  | ringState (h : StrHdr) (size : Nat) (breaks : List Nat)  -- R282
  | linkFrame (h : StrHdr) (stringId : Nat) (unit : Nat) (slot : Nat)  -- R272
  | ack (h : StrHdr) (acked : Nat) (result : Nat)  -- R286
  | offer (h : StrHdr) (gen : Nat) (size : Nat) (applyEpoch : Nat) (digestOk : Bool)  -- R290
  | config (h : StrHdr) (gen : Nat) (chunk : Nat) (items : List CfgItem) (tables : List (Nat × List Nat))  -- R290
  | stringClaim (h : StrHdr) (role : Nat) (cause : Nat) (clm : Nat) (prev : Nat) (peer : Nat)  -- R288
  | directory (h : StrHdr) (e : DirEntry) (dirGen : Nat)  -- R288
  | reportJoin (h : StrHdr) (slot : Nat) (peer : Nat) (sysGen : UnitInfo)  -- R280
  | reportLeave (h : StrHdr) (night : Bool)  -- R280
  | reportLinkDown (h : StrHdr) (east : Bool)  -- R282
  | reportLinkUp (h : StrHdr) (east : Bool)  -- R282
  | reportCensus (h : StrHdr) (slot : Nat) (sysGen : UnitInfo) (upTo : Nat)  -- R288
  | reportGenReady (h : StrHdr) (gen : Nat)  -- R290
  | reportGenReject (h : StrHdr) (gen : Nat) (code : Nat)  -- R290
  | reportChunkNak (h : StrHdr) (gen : Nat) (missing : List Nat)  -- R290
  | reportPublish (h : StrHdr) (size : Nat) (items : List CfgItem) (tables : List (Nat × List Nat))  -- R290
  | reportSummary (h : StrHdr) (body : Summary)  -- R287
  | reportRetry  -- R286
  | summaryDue  -- R287
  | trainingTimeout  -- R280
  | leaveTimeout  -- R280
  | reelLost  -- R284
  | electionEnd  -- R283
  | censusEnd  -- R284
  | reelect  -- R283
  | stgClrErr  -- R292
  | stgWake (target : Nat)  -- R291
  | wakeSequenceSend (target : Nat)  -- R291
  | sparLinkUp (lanes : Nat)  -- R296
  | sparLinkDown  -- R296
  | page (addr : Nat) (blk : Block) (sync : Bool)  -- R298
  | records (rs : List Rec) (sync : Bool)  -- R298
  | cut (epoch : Nat) (firstSeq : Nat) (lastSeq : Nat) (pages : Nat) (records : Nat) (crcOk : Bool)  -- R299
  | confirm (epoch : Nat) (lastSeq : Nat)  -- R299
  | deltaNak  -- R299
  | health (word : Nat)  -- R303
  | sparClaim (role : Nat) (cause : Nat) (clm : Nat) (prev : Nat) (peer : Nat)  -- R298
  | fetchReq (addr : Nat)  -- R301
  | fetchData (addr : Nat) (blk : Block)  -- R301
  | handbackReq  -- R312
  | handingDrainDone  -- R312
  | release (clm : Nat)  -- R312
  | releaseTimeout  -- R312
  | relinquish  -- R307
  | actBegin  -- R314
  | actDone  -- R314
  | syncBegin (seq : Nat)  -- R302
  | bulkCopyEnd  -- R302
  | syncDone  -- R302
  | hello (h : Hello)  -- R315
  | activeLostDetect  -- R307
  | preemptComplete  -- R308
  | preemptDeadline  -- R307
  | soloWaitExpire  -- R310
  | holdoffExpire  -- R312
  | peerWaitExpire  -- R315
  | rearm  -- R313
  | sprClrErr  -- R317
  | pairForce (h : MbxHdr) (tok : Token)  -- R311
  | pairSwitchover (h : MbxHdr)  -- R312
  | pairUnpair (h : MbxHdr)  -- R316
  | powerOn (beyond : Bool) (straps : Nat)  -- R371
  | rstN (asserted : Bool)  -- R371
  | watchdog  -- R318
  | powerGood (ok : Bool)  -- R318
  | otpRead (ok : Bool)  -- R318
  | romSelftest (ok : Bool)  -- R318
  | headerRead (ok : Bool)  -- R323
  | signature (ok : Bool)  -- R323
  | fwLoad (ok : Bool)  -- R323
  | basketTrain (chans : Nat) (retained : Bool)  -- R199
  | mramCheck (ok : Bool) (banks : Nat)  -- R318
  | replayScan (ok : Bool)  -- R105
  | configApply (ok : Bool)  -- R328
  | serdesCal (fails : Nat)  -- R318
  | portTrain (v0 : Bool) (v1 : Bool)  -- R318
  | pairNegotiate  -- R315
  | stringJoin (timeout : Bool)  -- R280
  | timeLock (timeout : Bool)  -- R318
  | arrayAssembly  -- R419
  | replayRepair  -- R106
  | serviceOpen  -- R318
  | clearFails  -- R320
  | restart  -- R321
  | dwnClrErr  -- R340
  | secClrErr  -- R340
  | gonClrErr  -- R113
  | forceTail  -- R113
  | mramUe (place : MramWhere)  -- R81
  | strClrErr  -- R79
  | hptCeClrErr  -- R169
  | hptClrErr  -- R246
  | fabClrErr  -- R246
  | drvClrErr  -- R246
  | wskClrErr  -- R357
  | pwrClrErr  -- R375
  | glbClrErr  -- R381
  | mbxClrErr (link : Nat)  -- R389
  | bar0RegisterWrite (link : Nat) (offset : Nat) (size : Nat) (v : Nat)  -- R379
  | mbxReplyBufferWrite (link : Nat)  -- R389
  | wskWindowWrite (link : Nat)  -- R354
  | wskEvent  -- R350
  | wskQueueRoom  -- R350
  | wskRecordCommit  -- R351
  | wskRead (h : MbxHdr) (offset : Nat) (len : Nat)  -- R354
  | wskClear (h : MbxHdr) (scope : Nat) (tok : Token)  -- R356
  | pwrCtrlNight  -- R360
  | night (h : MbxHdr)  -- R360
  | nightPreparationStep  -- R361
  | nightAbort (cause : Nat)  -- R361
  | nightCommit  -- R362
  | nightEntryComplete (us : Nat)  -- R362
  | wakeEvent (src : Nat)  -- R363
  | nightExitComplete (us : Nat) (failedBanks : Nat)  -- R365
  | shutdown (h : MbxHdr)  -- R420
  | thermTrip (tj : Nat)  -- R372
  | thermTripRelease  -- R372
  | thermWarn (tj : Nat)  -- R372
  | regRead (h : MbxHdr) (offset : Nat) (count : Nat)  -- R392
  | regWrite (h : MbxHdr) (offset : Nat) (v : Nat)  -- R392
  | stepLogRead (h : MbxHdr) (first : Nat) (count : Nat)  -- R392
  | shadowWrite (h : MbxHdr) (items : List CfgItem)  -- R329
  | shadowTable (h : MbxHdr) (table : Nat) (total : Nat) (offset : Nat) (data : List Nat)  -- R329
  | shadowRead (h : MbxHdr) (target : Nat) (offset : Nat) (count : Nat)  -- R392
  | shadowReset (h : MbxHdr)  -- R329
  | launch (h : MbxHdr)  -- R330
  | persistExport (h : MbxHdr) (offset : Nat)  -- R332
  | persist (h : MbxHdr) (total : Nat) (offset : Nat) (len : Nat) (img : Image)  -- R332
  | imageWrite (h : MbxHdr) (slot : Nat) (prefer : Nat) (total : Nat) (offset : Nat) (len : Nat) (img : Image)  -- R392
  | publish (h : MbxHdr) (total : Nat) (offset : Nat) (len : Nat) (img : Image)  -- R290
  | summaryRead (h : MbxHdr) (first : Nat) (count : Nat)  -- R392
  | directoryRead (h : MbxHdr) (first : Nat) (count : Nat)  -- R392
  | getNonce (h : MbxHdr)  -- R335
  | keyProvision (h : MbxHdr) (slot : Nat) (key : Nat) (tok : Token)  -- R334
  | keyRevoke (h : MbxHdr) (slot : Nat) (tok : Token)  -- R334
  | hostkeyEnroll (h : MbxHdr) (key : Nat) (tok : Token)  -- R334
  | svnAdvance (h : MbxHdr) (tok : Token)  -- R334
  | getVersion (r : SpdmReq)  -- R338
  | getCapabilities (r : SpdmReq)  -- R338
  | negotiateAlgorithms (r : SpdmReq)  -- R338
  | getDigests (r : SpdmReq)  -- R338
  | getCertificate (r : SpdmReq) (slot : Nat) (offset : Nat) (len : Nat)  -- R338
  | challenge (r : SpdmReq) (slot : Nat)  -- R338
  | getMeasurements (r : SpdmReq) (index : Nat) (sign : Bool)  -- R339
  | respondIfReady (r : SpdmReq)  -- R338
  | powerLoss  -- R399
  | mramCe (count : Nat)  -- R81
  | maintDone  -- R185
  | commandParityError (channel : Nat) (page : Nat) (second : Bool)  -- R198
  | loRegisterRead (link : Nat) (offset : Nat)  -- R373
  | standbyRejoin  -- R309
  | stringFrameForward (h : StrHdr) (ftype : Nat)  -- R276
  | hostCompletionError (h : IoHdr)  -- R227
  | fecUncorrectable (p : Nat)  -- R246
  | mbxUnsupportedOpcode (h : MbxHdr) (opc : Nat)  -- R388
  | spdmUnsupportedRequest (r : SpdmReq) (code : Nat)  -- R338
  | busMasterEnable (link : Nat) (on : Bool)  -- R249
  | flashWriteComplete (ok : Bool)  -- R332
  | otpProgramComplete (ok : Bool)  -- R334
  | jtagInstruction (i : JtagIns)  -- R416
deriving DecidableEq, Repr

end Sys2Proof
end

