-- ==== Sys2Proof/Decode.lean ====
section
/-! DEFINITION. The commands that words spell. Every row of spec/opcode_table.json gives no field bits: the block has no
instruction words, its commands arrive as bus accesses, messages and events. -/

namespace Sys2Proof

/-- The command that a word spells by the table's bits: none, since no row gives bits. -/
def decodeTableWord (_nbits _w : Nat) : Option Instr := none

end Sys2Proof
end

