-- ==== Sys2Proof/Machine/Gf.lean ====
section
/-! DEFINITION. The arithmetic of P and Q (R61 to R66), byte by byte and over whole blocks, the CRC-32C of Gondola
and drive formats (Table 4.3) and the 64-bit guard of protection information (R162). -/

namespace Sys2Proof.Machine

/-- Multiplication by g = 2 in GF(2^8) with 0x11D, on one byte. -/
def gfDouble (a : Nat) : Nat := if a % 256 ≥ 128 then (2 * (a % 256)) ^^^ 0x11D else 2 * (a % 256)

/-- Shift and add over the bits of `b`, lowest first. -/
def gfMulN : Nat → Nat → Nat → Nat
  | 0, _, _ => 0
  | n + 1, a, b => (if b % 2 = 1 then a % 256 else 0) ^^^ gfMulN n (gfDouble a) (b / 2)

/-- The product of two bytes in GF(2^8) (R61). -/
def gfMul (a b : Nat) : Nat := gfMulN 8 a b

/-- g^k. -/
def gfPow : Nat → Nat
  | 0 => 1
  | k + 1 => gfDouble (gfPow k)

/-- The square, `n` times. -/
def gfSq : Nat → Nat → Nat
  | 0, a => a
  | n + 1, a => gfSq n (gfMul a a)

/-- The inverse a^254 = a^2 · a^4 · … · a^128. -/
def gfInv (a : Nat) : Nat :=
  [1, 2, 3, 4, 5, 6, 7].foldl (fun r n => gfMul r (gfSq n a)) 1

/-- 0x01 in every byte of a block. -/
def onesBlock : Block := BitVec.ofNat 32896 ((2 ^ 32896 - 1) / 255)

/-- Bit 7 of every byte of a block. -/
def topBits (x : Block) : Block := x &&& (onesBlock <<< 7)

/-- Multiplication by g of every byte of a block. -/
def blkDouble (x : Block) : Block :=
  ((x ^^^ topBits x) <<< 1) ^^^ ((topBits x >>> 7) * 0x1D#32896)

/-- Every byte of a block times a constant, over the constant's bits. -/
def blkMulN : Nat → Nat → Block → Block
  | 0, _, _ => 0
  | n + 1, c, x => (if c % 2 = 1 then x else 0) ^^^ blkMulN n (c / 2) (blkDouble x)

/-- Every byte of a block times the constant c. -/
def blkMul (c : Nat) (x : Block) : Block := blkMulN 8 c x

/-- The XOR of a list of blocks. -/
def xorAll : List Block → Block
  | [] => 0
  | x :: xs => x ^^^ xorAll xs

/-- ⊕ g^(i+k)·D_k over a list whose first element has data index i. -/
def qSum : Nat → List Block → Block
  | _, [] => 0
  | i, x :: xs => blkMul (gfPow i) x ^^^ qSum (i + 1) xs

/-- P of a column (R62). -/
def parityP (ds : List Block) : Block := xorAll ds

/-- Q of a column (R62). -/
def parityQ (ds : List Block) : Block := qSum 0 ds

/-- New P when data strip i changes by `delta` (R63). -/
def updateP (p delta : Block) : Block := p ^^^ delta

/-- New Q when data strip i changes by `delta` (R63). -/
def updateQ (q : Block) (i : Nat) (delta : Block) : Block := q ^^^ blkMul (gfPow i) delta

/-- A column as read: the d data strips in index order, P and Q; none where the strip is erased (R114). -/
structure Column where
  ds : List (Option Block)
  p : Option Block
  q : Option Block
deriving DecidableEq, Repr

/-- Erased strips of a column. -/
def Column.erasures (c : Column) : Nat :=
  (c.ds.filter (·.isNone)).length + (if c.p.isNone then 1 else 0) + (if c.q.isNone then 1 else 0)

/-- The indexes of the erased data strips, from index i. -/
def erasedIdx : Nat → List (Option Block) → List Nat
  | _, [] => []
  | i, some _ :: xs => erasedIdx (i + 1) xs
  | i, none :: xs => i :: erasedIdx (i + 1) xs

/-- The data with the erased strips filled in. -/
def fillData (fills : List (Nat × Block)) : Nat → List (Option Block) → List Block
  | _, [] => []
  | i, some x :: xs => x :: fillData fills (i + 1) xs
  | i, none :: xs => ((fills.find? (·.1 = i)).map (·.2)).getD 0 :: fillData fills (i + 1) xs

/-- The whole column with its erased strips reconstructed as Table 3.5 states; none beyond two erasures. -/
def Column.recon (c : Column) : Option (List Block × Block × Block) :=
  let known := c.ds.map (·.getD 0)
  let pk := c.p.getD 0 ^^^ parityP known
  let qk := c.q.getD 0 ^^^ parityQ known
  if c.erasures > 2 then none else
  let fills : List (Nat × Block) :=
    match erasedIdx 0 c.ds with
    | [] => []
    | [x] => if c.p.isSome then [(x, pk)] else [(x, blkMul (gfInv (gfPow x)) qk)]
    | x :: y :: _ =>
      let dx := blkMul (gfInv (gfPow x ^^^ gfPow y)) (qk ^^^ blkMul (gfPow y) pk)
      [(x, dx), (y, pk ^^^ dx)]
  let full := fillData fills 0 c.ds
  some (full, c.p.getD (parityP full), c.q.getD (parityQ full))

/-- A column verdict (R66). -/
inductive Verdict where
  | clean
  | pErr (sp : Block)
  | qErr (sq : Block)
  | dataErr (z : Nat) (sp : Block)
  | multi
deriving DecidableEq, Repr

/-- The verdict on a column with no erasure (R65, R66): every position agrees on P, Q or one data strip, or MULTI. -/
def verdict (ds : List Block) (p q : Block) : Verdict :=
  let sp := p ^^^ parityP ds
  let sq := q ^^^ parityQ ds
  if sp = 0 then (if sq = 0 then .clean else .qErr sq)
  else if sq = 0 then .pErr sp
  else match (List.range ds.length).find? fun z => blkMul (gfPow z) sp = sq with
    | some z => .dataErr z sp
    | none => .multi

/-- One byte into the reflected CRC with a reflected polynomial. -/
def crcBits (poly : Nat) : Nat → Nat → Nat
  | 0, c => c
  | n + 1, c => crcBits poly n (if c % 2 = 1 then (c / 2) ^^^ poly else c / 2)

/-- A CRC register over a list of bytes. -/
def crcBytes (poly : Nat) (c : Nat) : List Nat → Nat
  | [] => c
  | b :: bs => crcBytes poly (crcBits poly 8 (c ^^^ (b % 256))) bs

/-- CRC-32C: Castagnoli polynomial, initial value all ones, final complement (Table 4.3). -/
def crc32c (bs : List Nat) : Nat := crcBytes 0x82F63B78 0xFFFFFFFF bs ^^^ 0xFFFFFFFF

/-- The 64-bit guard of protection information. -/
def crc64 (bs : List Nat) : Nat :=
  crcBytes 0x9A6C9329AC4BC9B5 0xFFFFFFFFFFFFFFFF bs ^^^ 0xFFFFFFFFFFFFFFFF

/-- The low `n` bytes of a number, lowest first. -/
def natBytes : Nat → Nat → List Nat
  | 0, _ => []
  | n + 1, v => v % 256 :: natBytes n (v / 256)

/-- The 4,096 data bytes of a block. -/
def blkData (x : Block) : List Nat := natBytes 4096 x.toNat

/-- The 16 metadata bytes of a block as a number, byte 0 lowest. -/
def blkMeta (x : Block) : Nat := x.toNat / 2 ^ 32768

/-- A block with its metadata replaced. -/
def blkWithMeta (x : Block) (m : Nat) : Block := BitVec.ofNat 32896 (x.toNat % 2 ^ 32768 + (m % 2 ^ 128) * 2 ^ 32768)

/-- DCRC of an INTENT (Table 4.5): the data of the blocks, followed by their metadata when META is 16. -/
def dcrc (metaOn : Bool) (bs : List Block) : Nat :=
  crc32c (bs.flatMap blkData ++ if metaOn then bs.flatMap (fun b => natBytes 16 (blkMeta b)) else [])

end Sys2Proof.Machine
end

