-- ==== Sys2Proof/Config.lean ====
section
/-! DEFINITION. The free values of the model: constants without a body, so that no proof can see what they are.
Each stands for a value the spec leaves undefined or does not state (the assumption log names every use). -/

namespace Sys2Proof.Config

/-- The value the hardware happens to give at the n-th place where the spec leaves a value open, w bits wide.
`n` is the counter `freeCtr` of the state, which every use reads and advances. -/
opaque freeValue (w : Nat) (n : Nat) : BitVec w

/-- SHA-384 of a sequence of numbers (R339): a function, whose values no rule needs. -/
opaque digest (content : List Nat) : BitVec 384

end Sys2Proof.Config
end

