-- ==== Sys2Proof/Machine/RegTable.lean ====
section
/-! DEFINITION. The BAR0 register map (R376 and the register tables of every block chapter, Tables 2.5 to 16.7):
one named field per row of the spec's layout tables, and the list of register families that `readReg` and
`writeReg` walk. A field's value lives in the register store of the state under `Fld.key`. -/

namespace Sys2Proof.Machine

/-- The access codes of R8. -/
inductive Acc where
  | ro | rw | rwl | wo | w1c
deriving DecidableEq, Repr

/-- One field of one register: BAR0 offset, lowest bit, width, reset value. -/
structure Fld where
  off : Nat
  lo : Nat
  w : Nat
  rst : Nat
deriving DecidableEq, Repr

/-- The field's place in the register store. -/
def Fld.key (f : Fld) : Nat := f.off * 32 + f.lo

/-- A field with its access code, as a layout lists it. -/
structure LFld where
  fld : Fld
  acc : Acc
deriving DecidableEq, Repr

/-- A family of registers: its first offset, up to two index ranges with their strides, and its layout. -/
structure RegFam where
  base : Nat
  n1 : Nat
  s1 : Nat
  n2 : Nat
  s2 : Nat
  banked : Bool
  lay : Nat → Nat → List LFld

/-- The registers of the mailbox and WSK_CURSOR are banked per link (R386, R355): bank `b` of the register
at BAR0 offset `off` is held at `bankOff b + off`. -/
def bankOff (b : Nat) : Nat := (b + 1) * 0x10000000

namespace R

def GLB_ID_PART : Fld := ⟨0x0, 0, 16, 38400⟩
def GLB_ID_REV : Fld := ⟨0x0, 16, 8, 177⟩
def GLB_ID_MAP_VER : Fld := ⟨0x0, 24, 8, 1⟩
def GLB_FW_NOLJO_VERSION : Fld := ⟨0x4, 0, 32, 0⟩
def GLB_CTRL_CLR_ERR : Fld := ⟨0x8, 0, 1, 0⟩
def GLB_STATUS_READY : Fld := ⟨0xC, 0, 1, 0⟩
def GLB_STATUS_SAFE : Fld := ⟨0xC, 1, 1, 0⟩
def GLB_STATUS_STALE : Fld := ⟨0xC, 2, 1, 0⟩
def GLB_STATUS_LAST_ERR : Fld := ⟨0xC, 8, 8, 0⟩
def GLB_STATUS_LINK : Fld := ⟨0xC, 16, 2, 0⟩
def GLB_SCRATCH_SCRATCH : Fld := ⟨0x10, 0, 32, 0⟩
def GLB_ERR_PARTIAL : Fld := ⟨0x14, 0, 16, 0⟩
def GLB_ERR_UNMAPPED : Fld := ⟨0x14, 16, 16, 0⟩
def GLB_SMBUS_ADDR : Fld := ⟨0x18, 0, 7, 0x58⟩
def GLB_INT_PEND_PEND : Fld := ⟨0x20, 0, 25, 0⟩
def GLB_INT_PEND_STALE : Fld := ⟨0x20, 31, 1, 0⟩
def GLB_VEC_LVL_LO_LVL_LO : Fld := ⟨0x24, 0, 32, 0⟩
def GLB_VEC_LVL_HI_LVL_HI : Fld := ⟨0x28, 0, 32, 0⟩
def GLB_INT_MAPs_VECTOR (n : Nat) : Fld := ⟨0x40 + 0x4 * n, 0, 6, n⟩
def GLB_INT_MAPs_ROUTE (n : Nat) : Fld := ⟨0x40 + 0x4 * n, 8, 4, 5⟩
def TET_CTRL_SOURCE : Fld := ⟨0x100000, 0, 2, 3⟩
def TET_CTRL_ALT_SOURCE : Fld := ⟨0x100000, 2, 2, 3⟩
def TET_CTRL_AUTO_STEP : Fld := ⟨0x100000, 4, 1, 1⟩
def TET_CTRL_FORCE_STEP : Fld := ⟨0x100000, 8, 1, 0⟩
def TET_CTRL_ACQUIRE : Fld := ⟨0x100000, 9, 1, 0⟩
def TET_CTRL_CLR_ERR : Fld := ⟨0x100000, 10, 1, 0⟩
def TET_STATUS_STATE : Fld := ⟨0x100004, 0, 2, 0⟩
def TET_STATUS_SRC_ACT : Fld := ⟨0x100004, 2, 2, 3⟩
def TET_STATUS_TOD_VALID : Fld := ⟨0x100004, 4, 1, 0⟩
def TET_STATUS_EVER_LOCKED : Fld := ⟨0x100004, 5, 1, 0⟩
def TET_STATUS_TIME_FAULT : Fld := ⟨0x100004, 6, 1, 0⟩
def TET_STATUS_STALE : Fld := ⟨0x100004, 7, 1, 0⟩
def TET_STATUS_LAST_ERR : Fld := ⟨0x100004, 8, 8, 0⟩
def TET_EPOCH_LO_EPOCH_LO : Fld := ⟨0x100008, 0, 32, 0⟩
def TET_EPOCH_HI_EPOCH_HI : Fld := ⟨0x10000C, 0, 16, 0⟩
def TET_EPOCH_HI_STALE : Fld := ⟨0x10000C, 31, 1, 0⟩
def TET_PHASE_CYCLE : Fld := ⟨0x100010, 0, 16, 0⟩
def TET_OFFSET_OFFSET_NS : Fld := ⟨0x100014, 0, 32, 0⟩
def TET_SRC_CFG_PTP_DOMAIN : Fld := ⟨0x100018, 0, 8, 0⟩
def TET_SRC_CFG_PTP_TRANSPORT : Fld := ⟨0x100018, 8, 2, 1⟩
def TET_SRC_CFG_PTP_DELAY : Fld := ⟨0x100018, 10, 1, 0⟩
def TET_SRC_CFG_FP0_SUB : Fld := ⟨0x100018, 12, 2, 0⟩
def TET_LOCAL_UTC_OFS : Fld := ⟨0x10001C, 0, 12, 0⟩
def TET_LOCAL_TAI_UTC : Fld := ⟨0x10001C, 16, 8, 37⟩
def TET_LIMITS_HOLD_MAX : Fld := ⟨0x100020, 0, 16, 60⟩
def TET_LIMITS_STEP_LIMIT : Fld := ⟨0x100020, 16, 8, 1⟩
def TET_LIMITS_CRIT_FLOOR : Fld := ⟨0x100020, 24, 7, 25⟩
def TET_TOD_LO_TOD_LO : Fld := ⟨0x100024, 0, 32, 0⟩
def TET_TOD_HI_TOD_HI : Fld := ⟨0x100028, 0, 16, 0⟩
def TET_DAY_CUR_SLOT : Fld := ⟨0x10002C, 0, 7, 0⟩
def TET_DAY_CUR_FALLBACK : Fld := ⟨0x10002C, 8, 1, 1⟩
def TET_DAY_CUR_OVERRIDE : Fld := ⟨0x10002C, 9, 1, 0⟩
def TET_DAY_OVR_SLOT : Fld := ⟨0x100030, 0, 7, 0⟩
def TET_DAY_OVR_EN : Fld := ⟨0x100030, 31, 1, 0⟩
def TET_INT_STATUS_LOCKED : Fld := ⟨0x100034, 0, 1, 0⟩
def TET_INT_STATUS_HOLDOVER : Fld := ⟨0x100034, 1, 1, 0⟩
def TET_INT_STATUS_FREE_RUN : Fld := ⟨0x100034, 2, 1, 0⟩
def TET_INT_STATUS_TIME_FAULT : Fld := ⟨0x100034, 3, 1, 0⟩
def TET_INT_STATUS_SLOT_CHG : Fld := ⟨0x100034, 4, 1, 0⟩
def TET_INT_STATUS_STEPPED : Fld := ⟨0x100034, 5, 1, 0⟩
def TET_INT_STATUS_STEP_WAIT : Fld := ⟨0x100034, 6, 1, 0⟩
def TET_INT_STATUS_ALARM : Fld := ⟨0x100034, 8, 8, 0⟩
def TET_INT_ENABLE_LOCKED : Fld := ⟨0x100038, 0, 1, 0⟩
def TET_INT_ENABLE_HOLDOVER : Fld := ⟨0x100038, 1, 1, 0⟩
def TET_INT_ENABLE_FREE_RUN : Fld := ⟨0x100038, 2, 1, 0⟩
def TET_INT_ENABLE_TIME_FAULT : Fld := ⟨0x100038, 3, 1, 0⟩
def TET_INT_ENABLE_SLOT_CHG : Fld := ⟨0x100038, 4, 1, 0⟩
def TET_INT_ENABLE_STEPPED : Fld := ⟨0x100038, 5, 1, 0⟩
def TET_INT_ENABLE_STEP_WAIT : Fld := ⟨0x100038, 6, 1, 0⟩
def TET_INT_ENABLE_ALARM : Fld := ⟨0x100038, 8, 8, 0⟩
def TET_ALARMn_CTRL_EN (n : Nat) : Fld := ⟨0x100040 + 0x10 * n, 0, 1, 0⟩
def TET_ALARMn_CTRL_T_INT (n : Nat) : Fld := ⟨0x100040 + 0x10 * n, 1, 1, 0⟩
def TET_ALARMn_CTRL_T_SPOOL (n : Nat) : Fld := ⟨0x100040 + 0x10 * n, 2, 1, 0⟩
def TET_ALARMn_CTRL_T_WAKE (n : Nat) : Fld := ⟨0x100040 + 0x10 * n, 3, 1, 0⟩
def TET_ALARMn_CTRL_PERIOD (n : Nat) : Fld := ⟨0x100040 + 0x10 * n, 4, 24, 0⟩
def TET_ALARMn_EPOCH_LO_TARGET_LO (n : Nat) : Fld := ⟨0x100044 + 0x10 * n, 0, 32, 0⟩
def TET_ALARMn_EPOCH_HI_TARGET_HI (n : Nat) : Fld := ⟨0x100048 + 0x10 * n, 0, 16, 0⟩
def TET_DAYk_REBUILD (n : Nat) : Fld := ⟨0x100400 + 0x4 * n, 0, 7, 80⟩
def TET_DAYk_PATROL (n : Nat) : Fld := ⟨0x100400 + 0x4 * n, 8, 7, 5⟩
def TET_DAYk_DESTAGE (n : Nat) : Fld := ⟨0x100400 + 0x4 * n, 16, 7, 10⟩
def TET_DAYk_COPYBACK (n : Nat) : Fld := ⟨0x100400 + 0x4 * n, 24, 7, 15⟩
def TET_DAYk_IDLE_FILL (n : Nat) : Fld := ⟨0x100400 + 0x4 * n, 31, 1, 1⟩
def TET_DAY_FALLBACK_REBUILD : Fld := ⟨0x100580, 0, 7, 80⟩
def TET_DAY_FALLBACK_PATROL : Fld := ⟨0x100580, 8, 7, 5⟩
def TET_DAY_FALLBACK_DESTAGE : Fld := ⟨0x100580, 16, 7, 10⟩
def TET_DAY_FALLBACK_COPYBACK : Fld := ⟨0x100580, 24, 7, 15⟩
def TET_DAY_FALLBACK_IDLE_FILL : Fld := ⟨0x100580, 31, 1, 1⟩
def STR_CTRL_AUTO_REBUILD : Fld := ⟨0x200000, 0, 1, 1⟩
def STR_CTRL_CLR_ERR : Fld := ⟨0x200000, 8, 1, 0⟩
def STR_STATUS_ARRAYS : Fld := ⟨0x200004, 0, 5, 0⟩
def STR_STATUS_LAST_ERR : Fld := ⟨0x200004, 8, 8, 0⟩
def STR_ENG_STATUS_SLICE_OFF : Fld := ⟨0x200008, 0, 4, 0⟩
def STR_ENG_STATUS_SLICE_BUSY : Fld := ⟨0x200008, 4, 4, 0⟩
def STR_ENG_STATUS_FAULTS : Fld := ⟨0x200008, 8, 8, 0⟩
def STR_INT_ARRAY_STATE_CHG : Fld := ⟨0x20000C, 0, 16, 0⟩
def STR_INT_ARRAY_LOST_CHG : Fld := ⟨0x20000C, 16, 16, 0⟩
def STR_INT_ARRAY_EN_STATE_CHG : Fld := ⟨0x200010, 0, 16, 0⟩
def STR_INT_ARRAY_EN_LOST_CHG : Fld := ⟨0x200010, 16, 16, 0⟩
def STR_INT_DEV_SLICE_FAIL : Fld := ⟨0x200014, 0, 4, 0⟩
def STR_INT_DEV_SPARE_TAKEN : Fld := ⟨0x200014, 4, 1, 0⟩
def STR_INT_DEV_NO_SPARE : Fld := ⟨0x200014, 5, 1, 0⟩
def STR_INT_DEV_LABEL_ERR : Fld := ⟨0x200014, 6, 1, 0⟩
def STR_INT_DEV_CREATE_FAIL : Fld := ⟨0x200014, 7, 1, 0⟩
def STR_INT_DEV_EN_SLICE_FAIL : Fld := ⟨0x200018, 0, 4, 0⟩
def STR_INT_DEV_EN_SPARE_TAKEN : Fld := ⟨0x200018, 4, 1, 0⟩
def STR_INT_DEV_EN_NO_SPARE : Fld := ⟨0x200018, 5, 1, 0⟩
def STR_INT_DEV_EN_LABEL_ERR : Fld := ⟨0x200018, 6, 1, 0⟩
def STR_INT_DEV_EN_CREATE_FAIL : Fld := ⟨0x200018, 7, 1, 0⟩
def STR_GFMUL_A : Fld := ⟨0x20001C, 0, 8, 0⟩
def STR_GFMUL_B : Fld := ⟨0x20001C, 8, 8, 0⟩
def STR_GFMUL_PRODUCT : Fld := ⟨0x20001C, 16, 8, 0⟩
def STR_ENG_CNTj_INPUT_4K (n : Nat) : Fld := ⟨0x200020 + 0x4 * n, 0, 32, 0⟩
def STR_SPAREk_PORT (n : Nat) : Fld := ⟨0x200040 + 0x4 * n, 0, 5, 0⟩
def STR_SPAREk_SUB (n : Nat) : Fld := ⟨0x200040 + 0x4 * n, 5, 1, 0⟩
def STR_SPAREk_META (n : Nat) : Fld := ⟨0x200040 + 0x4 * n, 6, 1, 0⟩
def STR_SPAREk_VALID (n : Nat) : Fld := ⟨0x200040 + 0x4 * n, 7, 1, 0⟩
def STR_SPAREk_SPARE_STATE (n : Nat) : Fld := ⟨0x200040 + 0x4 * n, 8, 2, 0⟩
def STR_SPAREk_ARRAY (n : Nat) : Fld := ⟨0x200040 + 0x4 * n, 16, 4, 0⟩
def STR_An_GEOM_MEMBERS (n : Nat) : Fld := ⟨0x201000 + 0x100 * n, 0, 6, 0⟩
def STR_An_GEOM_STRIP (n : Nat) : Fld := ⟨0x201000 + 0x100 * n, 8, 3, 2⟩
def STR_An_GEOM_META (n : Nat) : Fld := ⟨0x201000 + 0x100 * n, 12, 1, 0⟩
def STR_An_GEOM_EN (n : Nat) : Fld := ⟨0x201000 + 0x100 * n, 15, 1, 0⟩
def STR_An_STATUS_STATE (n : Nat) : Fld := ⟨0x201004 + 0x100 * n, 0, 3, 7⟩
def STR_An_STATUS_MISSING (n : Nat) : Fld := ⟨0x201004 + 0x100 * n, 4, 2, 0⟩
def STR_An_STATUS_REBUILD_ACT (n : Nat) : Fld := ⟨0x201004 + 0x100 * n, 6, 1, 0⟩
def STR_An_STATUS_UNVERIFIED (n : Nat) : Fld := ⟨0x201004 + 0x100 * n, 7, 1, 0⟩
def STR_An_STATUS_REASON (n : Nat) : Fld := ⟨0x201004 + 0x100 * n, 8, 4, 0⟩
def STR_An_STATUS_LOST_ANY (n : Nat) : Fld := ⟨0x201004 + 0x100 * n, 12, 1, 0⟩
def STR_An_STRIPES_LO_S_LO (n : Nat) : Fld := ⟨0x201008 + 0x100 * n, 0, 32, 0⟩
def STR_An_STRIPES_HI_S_HI (n : Nat) : Fld := ⟨0x20100C + 0x100 * n, 0, 1, 0⟩
def STR_An_LOST_LOST (n : Nat) : Fld := ⟨0x201010 + 0x100 * n, 0, 32, 0⟩
def STR_An_MISSMAP_MISS (n : Nat) : Fld := ⟨0x201014 + 0x100 * n, 0, 32, 0⟩
def STR_An_NSCOUNT_NS (n : Nat) : Fld := ⟨0x201018 + 0x100 * n, 0, 13, 0⟩
def STR_An_MEMBERk_PORT (n k : Nat) : Fld := ⟨0x201040 + 0x100 * n + 0x4 * k, 0, 5, 0⟩
def STR_An_MEMBERk_SUB (n k : Nat) : Fld := ⟨0x201040 + 0x100 * n + 0x4 * k, 5, 1, 0⟩
def STR_An_MEMBERk_VALID (n k : Nat) : Fld := ⟨0x201040 + 0x100 * n + 0x4 * k, 7, 1, 0⟩
def STR_An_MEMBERk_MAPHOLD (n k : Nat) : Fld := ⟨0x201040 + 0x100 * n + 0x4 * k, 8, 1, 0⟩
def STR_An_MEMBERk_MISSING (n k : Nat) : Fld := ⟨0x201040 + 0x100 * n + 0x4 * k, 9, 1, 0⟩
def STR_An_POLICY_PATROL_FIX (n : Nat) : Fld := ⟨0x2010C0 + 0x100 * n, 0, 2, 2⟩
def STR_An_POLICY_PATROL_EN (n : Nat) : Fld := ⟨0x2010C0 + 0x100 * n, 2, 1, 1⟩
def STR_An_POLICY_CB_AUTO (n : Nat) : Fld := ⟨0x2010C0 + 0x100 * n, 3, 1, 1⟩
def STR_An_POLICY_CB_MEDIA (n : Nat) : Fld := ⟨0x2010C0 + 0x100 * n, 4, 1, 1⟩
def STR_An_POLICY_HEDGE_MS (n : Nat) : Fld := ⟨0x2010C0 + 0x100 * n, 8, 8, 20⟩
def STR_An_POLICY_MEMBER_TMO (n : Nat) : Fld := ⟨0x2010C0 + 0x100 * n, 16, 8, 80⟩
def STR_An_POLICY_MEDIA_LIMIT (n : Nat) : Fld := ⟨0x2010C0 + 0x100 * n, 24, 8, 64⟩
def STR_An_RB0_WM_LO_WM_LO (n : Nat) : Fld := ⟨0x2010C4 + 0x100 * n, 0, 32, 0⟩
def STR_An_RB0_HI_WM_HI (n : Nat) : Fld := ⟨0x2010C8 + 0x100 * n, 0, 1, 0⟩
def STR_An_RB0_HI_END_HI (n : Nat) : Fld := ⟨0x2010C8 + 0x100 * n, 1, 1, 0⟩
def STR_An_RB0_HI_TARGET (n : Nat) : Fld := ⟨0x2010C8 + 0x100 * n, 8, 5, 0⟩
def STR_An_RB0_HI_RSTATE (n : Nat) : Fld := ⟨0x2010C8 + 0x100 * n, 13, 2, 0⟩
def STR_An_RB0_HI_JOINED (n : Nat) : Fld := ⟨0x2010C8 + 0x100 * n, 15, 1, 0⟩
def STR_An_RB0_HI_TWO_ERASE (n : Nat) : Fld := ⟨0x2010C8 + 0x100 * n, 16, 1, 0⟩
def STR_An_RB0_HI_SHORT (n : Nat) : Fld := ⟨0x2010C8 + 0x100 * n, 17, 1, 0⟩
def STR_An_RB1_WM_LO_WM_LO (n : Nat) : Fld := ⟨0x2010CC + 0x100 * n, 0, 32, 0⟩
def STR_An_RB1_HI_WM_HI (n : Nat) : Fld := ⟨0x2010D0 + 0x100 * n, 0, 1, 0⟩
def STR_An_RB1_HI_END_HI (n : Nat) : Fld := ⟨0x2010D0 + 0x100 * n, 1, 1, 0⟩
def STR_An_RB1_HI_TARGET (n : Nat) : Fld := ⟨0x2010D0 + 0x100 * n, 8, 5, 0⟩
def STR_An_RB1_HI_RSTATE (n : Nat) : Fld := ⟨0x2010D0 + 0x100 * n, 13, 2, 0⟩
def STR_An_RB1_HI_JOINED (n : Nat) : Fld := ⟨0x2010D0 + 0x100 * n, 15, 1, 0⟩
def STR_An_RB1_HI_TWO_ERASE (n : Nat) : Fld := ⟨0x2010D0 + 0x100 * n, 16, 1, 0⟩
def STR_An_RB1_HI_SHORT (n : Nat) : Fld := ⟨0x2010D0 + 0x100 * n, 17, 1, 0⟩
def STR_An_RB_END_LO_END_LO (n : Nat) : Fld := ⟨0x2010D4 + 0x100 * n, 0, 32, 0⟩
def STR_An_CB_WM_LO_WM_LO (n : Nat) : Fld := ⟨0x2010D8 + 0x100 * n, 0, 32, 0⟩
def STR_An_CB_HI_WM_HI (n : Nat) : Fld := ⟨0x2010DC + 0x100 * n, 0, 1, 0⟩
def STR_An_CB_HI_SOURCE (n : Nat) : Fld := ⟨0x2010DC + 0x100 * n, 8, 5, 0⟩
def STR_An_CB_HI_DEST_PORT (n : Nat) : Fld := ⟨0x2010DC + 0x100 * n, 13, 5, 0⟩
def STR_An_CB_HI_DEST_SUB (n : Nat) : Fld := ⟨0x2010DC + 0x100 * n, 18, 1, 0⟩
def STR_An_CB_HI_CSTATE (n : Nat) : Fld := ⟨0x2010DC + 0x100 * n, 19, 2, 0⟩
def STR_An_CB_HI_CAUSE (n : Nat) : Fld := ⟨0x2010DC + 0x100 * n, 21, 2, 0⟩
def STR_An_RS_WM_LO_WM_LO (n : Nat) : Fld := ⟨0x2010E0 + 0x100 * n, 0, 32, 0⟩
def STR_An_RS_HI_WM_HI (n : Nat) : Fld := ⟨0x2010E4 + 0x100 * n, 0, 1, 0⟩
def STR_An_RS_HI_SCOPE (n : Nat) : Fld := ⟨0x2010E4 + 0x100 * n, 1, 1, 0⟩
def STR_An_RS_HI_ACTIVE (n : Nat) : Fld := ⟨0x2010E4 + 0x100 * n, 2, 1, 0⟩
def STR_An_PT_WM_LO_WM_LO (n : Nat) : Fld := ⟨0x2010E8 + 0x100 * n, 0, 32, 0⟩
def STR_An_PT_HI_WM_HI (n : Nat) : Fld := ⟨0x2010EC + 0x100 * n, 0, 1, 0⟩
def STR_An_PT_HI_PSTATE (n : Nat) : Fld := ⟨0x2010EC + 0x100 * n, 1, 2, 0⟩
def STR_An_PT_HI_CYCLES (n : Nat) : Fld := ⟨0x2010EC + 0x100 * n, 16, 16, 0⟩
def STR_An_PT_FIX_DATA_FIXED (n : Nat) : Fld := ⟨0x2010F0 + 0x100 * n, 0, 16, 0⟩
def STR_An_PT_FIX_PARITY_FIXED (n : Nat) : Fld := ⟨0x2010F0 + 0x100 * n, 16, 16, 0⟩
def STR_An_PT_MULTI_MULTI (n : Nat) : Fld := ⟨0x2010F4 + 0x100 * n, 0, 16, 0⟩
def STR_An_PT_MULTI_UNFIXED (n : Nat) : Fld := ⟨0x2010F4 + 0x100 * n, 16, 16, 0⟩
def STR_An_REPAIR_READ_REPAIRED (n : Nat) : Fld := ⟨0x2010F8 + 0x100 * n, 0, 16, 0⟩
def STR_An_REPAIR_HEDGED (n : Nat) : Fld := ⟨0x2010F8 + 0x100 * n, 16, 16, 0⟩
def STR_An_MEDIA_WARN_WARN (n : Nat) : Fld := ⟨0x2010FC + 0x100 * n, 0, 32, 0⟩
def GON_CTRL_TAIL_EN : Fld := ⟨0x300000, 0, 1, 1⟩
def GON_CTRL_FORCE_TAIL : Fld := ⟨0x300000, 8, 1, 0⟩
def GON_CTRL_CLR_ERR : Fld := ⟨0x300000, 9, 1, 0⟩
def GON_STATUS_MRAM_OK : Fld := ⟨0x300004, 0, 1, 0⟩
def GON_STATUS_CLEAN_START : Fld := ⟨0x300004, 1, 1, 0⟩
def GON_STATUS_EVIDENCE : Fld := ⟨0x300004, 2, 2, 0⟩
def GON_STATUS_REPLAY_ACT : Fld := ⟨0x300004, 4, 1, 0⟩
def GON_STATUS_STALE : Fld := ⟨0x300004, 5, 1, 0⟩
def GON_STATUS_LAST_ERR : Fld := ⟨0x300004, 8, 8, 0⟩
def GON_SEQ_LO_SEQ_LO : Fld := ⟨0x300008, 0, 32, 0⟩
def GON_SEQ_HI_SEQ_HI : Fld := ⟨0x30000C, 0, 32, 0⟩
def GON_RING_FREE_FREE : Fld := ⟨0x300010, 0, 18, 229376⟩
def GON_RING_CFG_RING_LOW : Fld := ⟨0x300014, 0, 18, 16384⟩
def GON_OPEN_OPEN : Fld := ⟨0x300018, 0, 17, 0⟩
def GON_INT_STATUS_RING_LOW : Fld := ⟨0x30001C, 0, 1, 0⟩
def GON_INT_STATUS_CARRY : Fld := ⟨0x30001C, 1, 1, 0⟩
def GON_INT_STATUS_TAIL_FAIL : Fld := ⟨0x30001C, 2, 1, 0⟩
def GON_INT_STATUS_MRAM_CE : Fld := ⟨0x30001C, 3, 1, 0⟩
def GON_INT_STATUS_MRAM_UE : Fld := ⟨0x30001C, 4, 1, 0⟩
def GON_INT_STATUS_REPLAY_LOSS : Fld := ⟨0x30001C, 5, 1, 0⟩
def GON_INT_ENABLE_RING_LOW : Fld := ⟨0x300020, 0, 1, 0⟩
def GON_INT_ENABLE_CARRY : Fld := ⟨0x300020, 1, 1, 0⟩
def GON_INT_ENABLE_TAIL_FAIL : Fld := ⟨0x300020, 2, 1, 0⟩
def GON_INT_ENABLE_MRAM_CE : Fld := ⟨0x300020, 3, 1, 0⟩
def GON_INT_ENABLE_MRAM_UE : Fld := ⟨0x300020, 4, 1, 0⟩
def GON_INT_ENABLE_REPLAY_LOSS : Fld := ⟨0x300020, 5, 1, 0⟩
def GON_TAIL_CKPT_NUM : Fld := ⟨0x300024, 0, 32, 0⟩
def GON_MRAM_ERR_CE : Fld := ⟨0x300028, 0, 16, 0⟩
def GON_MRAM_ERR_UE : Fld := ⟨0x300028, 16, 16, 0⟩
def GON_REPLAY0_RECORDS : Fld := ⟨0x300030, 0, 32, 0⟩
def GON_REPLAY1_REPAIRED : Fld := ⟨0x300034, 0, 16, 0⟩
def GON_REPLAY1_LOST : Fld := ⟨0x300034, 16, 16, 0⟩
def GON_REPLAY2_REINSERTED : Fld := ⟨0x300038, 0, 32, 0⟩
def ENV_CTRL_CLR_ERR : Fld := ⟨0x400000, 0, 1, 0⟩
def ENV_STATUS_MODE : Fld := ⟨0x400004, 0, 2, 0⟩
def ENV_STATUS_SCRATCH : Fld := ⟨0x400004, 2, 1, 0⟩
def ENV_STATUS_INIT : Fld := ⟨0x400004, 3, 1, 1⟩
def ENV_STATUS_MAINT_BUSY : Fld := ⟨0x400004, 4, 1, 0⟩
def ENV_STATUS_STALE : Fld := ⟨0x400004, 5, 1, 0⟩
def ENV_STATUS_LAST_ERR : Fld := ⟨0x400004, 8, 8, 0⟩
def ENV_STATUS_RET_FAIL : Fld := ⟨0x400004, 16, 4, 0⟩
def ENV_CFG_OFFER : Fld := ⟨0x400008, 0, 2, 1⟩
def ENV_CFG_SKIRT_EN : Fld := ⟨0x400008, 2, 1, 1⟩
def ENV_CFG_DIRTY_MAX : Fld := ⟨0x400008, 16, 8, 64⟩
def ENV_SKIRT_CFG_DEPTH : Fld := ⟨0x40000C, 0, 6, 2⟩
def ENV_SKIRT_CFG_STREAMS : Fld := ⟨0x40000C, 8, 7, 64⟩
def ENV_SKIRT_CFG_WINDOW : Fld := ⟨0x40000C, 16, 5, 16⟩
def ENV_SKIRT_CFG_PREF_RECON : Fld := ⟨0x40000C, 24, 1, 1⟩
def ENV_DISABLE_DISABLE : Fld := ⟨0x400010, 0, 1, 0⟩
def ENV_DISABLE_CLEAN_FIRST : Fld := ⟨0x400010, 1, 1, 0⟩
def ENV_MAINT_OP : Fld := ⟨0x400014, 0, 4, 0⟩
def ENV_MAINT_FORM : Fld := ⟨0x400014, 4, 1, 0⟩
def ENV_MAINT_ALL_SETS : Fld := ⟨0x400014, 5, 1, 0⟩
def ENV_MAINT_COUNT : Fld := ⟨0x400014, 8, 17, 1⟩
def ENV_MAINT_START : Fld := ⟨0x400014, 31, 1, 0⟩
def ENV_MAINT_KEY_LO_KEY_LO : Fld := ⟨0x400018, 0, 32, 0⟩
def ENV_MAINT_KEY_HI_KEY_HI : Fld := ⟨0x40001C, 0, 32, 0⟩
def ENV_MAINT_RES_CLEANED : Fld := ⟨0x400020, 0, 16, 0⟩
def ENV_MAINT_RES_SKIPPED : Fld := ⟨0x400020, 16, 16, 0⟩
def ENV_OCC_VALID : Fld := ⟨0x400024, 0, 15, 0⟩
def ENV_OCC_DIRTY : Fld := ⟨0x400024, 16, 14, 0⟩
def ENV_OCC_STALE : Fld := ⟨0x400024, 31, 1, 0⟩
def ENV_OCC2_SKIRT : Fld := ⟨0x400028, 0, 10, 0⟩
def ENV_OCC2_EVB : Fld := ⟨0x400028, 16, 7, 0⟩
def ENV_OCC2_STALE : Fld := ⟨0x400028, 31, 1, 0⟩
def ENV_INT_STATUS_MAINT_DONE : Fld := ⟨0x40002C, 0, 1, 0⟩
def ENV_INT_STATUS_DISABLE_DONE : Fld := ⟨0x40002C, 1, 1, 0⟩
def ENV_INT_STATUS_ECC_CE : Fld := ⟨0x40002C, 2, 1, 0⟩
def ENV_INT_STATUS_ECC_UE : Fld := ⟨0x40002C, 3, 1, 0⟩
def ENV_INT_STATUS_RET_FAIL : Fld := ⟨0x40002C, 4, 1, 0⟩
def ENV_INT_STATUS_WIN_OFF : Fld := ⟨0x40002C, 5, 1, 0⟩
def ENV_INT_STATUS_EVB_FULL : Fld := ⟨0x40002C, 6, 1, 0⟩
def ENV_INT_ENABLE_MAINT_DONE : Fld := ⟨0x400030, 0, 1, 0⟩
def ENV_INT_ENABLE_DISABLE_DONE : Fld := ⟨0x400030, 1, 1, 0⟩
def ENV_INT_ENABLE_ECC_CE : Fld := ⟨0x400030, 2, 1, 0⟩
def ENV_INT_ENABLE_ECC_UE : Fld := ⟨0x400030, 3, 1, 0⟩
def ENV_INT_ENABLE_RET_FAIL : Fld := ⟨0x400030, 4, 1, 0⟩
def ENV_INT_ENABLE_WIN_OFF : Fld := ⟨0x400030, 5, 1, 0⟩
def ENV_INT_ENABLE_EVB_FULL : Fld := ⟨0x400030, 6, 1, 0⟩
def ENV_ECC_CE : Fld := ⟨0x400034, 0, 16, 0⟩
def ENV_ECC_UE : Fld := ⟨0x400034, 16, 16, 0⟩
def ENV_CNTj_COUNT (n : Nat) : Fld := ⟨0x400040 + 0x4 * n, 0, 32, 0⟩
def BSK_CTRL_CLR_ERR : Fld := ⟨0x500000, 0, 1, 0⟩
def BSK_CTRL_SCRUB_NOW : Fld := ⟨0x500000, 1, 1, 0⟩
def BSK_STATUS_MODE : Fld := ⟨0x500004, 0, 2, 0⟩
def BSK_STATUS_RETAINED : Fld := ⟨0x500004, 2, 1, 0⟩
def BSK_STATUS_HALF : Fld := ⟨0x500004, 3, 1, 0⟩
def BSK_STATUS_LAYOUT_HELD : Fld := ⟨0x500004, 4, 1, 0⟩
def BSK_STATUS_STALE : Fld := ⟨0x500004, 5, 1, 0⟩
def BSK_STATUS_LAST_ERR : Fld := ⟨0x500004, 8, 8, 0⟩
def BSK_STATUS_WT_CAUSE : Fld := ⟨0x500004, 16, 2, 0⟩
def BSK_POP_CHANNELS : Fld := ⟨0x500008, 0, 1, 1⟩
def BSK_POP_RANKS : Fld := ⟨0x500008, 1, 1, 1⟩
def BSK_POP_DENSITY : Fld := ⟨0x500008, 2, 1, 1⟩
def BSK_POP_RL : Fld := ⟨0x500008, 8, 5, 12⟩
def BSK_POP_CONSERVATIVE : Fld := ⟨0x500008, 16, 1, 0⟩
def BSK_LAYOUT_WS_UNITS : Fld := ⟨0x50000C, 0, 7, 0⟩
def BSK_LAYOUT_USER_UNITS : Fld := ⟨0x50000C, 8, 7, 0⟩
def BSK_LAYOUT_WS_ACT : Fld := ⟨0x50000C, 16, 7, 0⟩
def BSK_DIRTY_CFG_LIMIT_GIB : Fld := ⟨0x500010, 0, 5, 8⟩
def BSK_DIRTY_CFG_HWM_PCT : Fld := ⟨0x500010, 8, 7, 50⟩
def BSK_DIRTY_CFG_DELAY : Fld := ⟨0x500010, 16, 12, 156⟩
def BSK_DIRTY_CFG_CLEAN_MAX_GIB : Fld := ⟨0x500010, 28, 4, 4⟩
def BSK_DIRTY_DIRTY_PAGES : Fld := ⟨0x500014, 0, 23, 0⟩
def BSK_DIRTY_CLEAN_UNITS : Fld := ⟨0x500014, 24, 7, 0⟩
def BSK_DIRTY_STALE : Fld := ⟨0x500014, 31, 1, 0⟩
def BSK_SCRUB_HOURS : Fld := ⟨0x500018, 0, 8, 24⟩
def BSK_SCRUB_PASSES : Fld := ⟨0x500018, 16, 16, 0⟩
def BSK_INT_STATUS_ECC_CE : Fld := ⟨0x50001C, 0, 1, 0⟩
def BSK_INT_STATUS_ECC_UE : Fld := ⟨0x50001C, 1, 1, 0⟩
def BSK_INT_STATUS_LANE_FAIL : Fld := ⟨0x50001C, 2, 1, 0⟩
def BSK_INT_STATUS_CH_FAIL : Fld := ⟨0x50001C, 3, 1, 0⟩
def BSK_INT_STATUS_WT_ENTER : Fld := ⟨0x50001C, 4, 1, 0⟩
def BSK_INT_STATUS_HWM : Fld := ⟨0x50001C, 5, 1, 0⟩
def BSK_INT_STATUS_LIMIT : Fld := ⟨0x50001C, 6, 1, 0⟩
def BSK_INT_STATUS_NOT_RETAINED : Fld := ⟨0x50001C, 7, 1, 0⟩
def BSK_INT_STATUS_SCRUB_DONE : Fld := ⟨0x50001C, 8, 1, 0⟩
def BSK_INT_ENABLE_ECC_CE : Fld := ⟨0x500020, 0, 1, 0⟩
def BSK_INT_ENABLE_ECC_UE : Fld := ⟨0x500020, 1, 1, 0⟩
def BSK_INT_ENABLE_LANE_FAIL : Fld := ⟨0x500020, 2, 1, 0⟩
def BSK_INT_ENABLE_CH_FAIL : Fld := ⟨0x500020, 3, 1, 0⟩
def BSK_INT_ENABLE_WT_ENTER : Fld := ⟨0x500020, 4, 1, 0⟩
def BSK_INT_ENABLE_HWM : Fld := ⟨0x500020, 5, 1, 0⟩
def BSK_INT_ENABLE_LIMIT : Fld := ⟨0x500020, 6, 1, 0⟩
def BSK_INT_ENABLE_NOT_RETAINED : Fld := ⟨0x500020, 7, 1, 0⟩
def BSK_INT_ENABLE_SCRUB_DONE : Fld := ⟨0x500020, 8, 1, 0⟩
def BSK_ECC_CE : Fld := ⟨0x500024, 0, 16, 0⟩
def BSK_ECC_UE : Fld := ⟨0x500024, 16, 16, 0⟩
def BSK_UE_ADDR_PAGE : Fld := ⟨0x500028, 0, 24, 0⟩
def BSK_UE_ADDR_CHANNEL : Fld := ⟨0x500028, 24, 4, 0⟩
def BSK_UE_ADDR_REGION : Fld := ⟨0x500028, 28, 3, 0⟩
def BSK_UE_ADDR_VALID : Fld := ⟨0x500028, 31, 1, 0⟩
def BSK_CHc_LANE (n : Nat) : Fld := ⟨0x500040 + 0x4 * n, 0, 7, 127⟩
def BSK_CHc_TRAIN_OK (n : Nat) : Fld := ⟨0x500040 + 0x4 * n, 7, 1, 0⟩
def BSK_CHc_FAILED (n : Nat) : Fld := ⟨0x500040 + 0x4 * n, 8, 1, 0⟩
def BSK_CHc_CE (n : Nat) : Fld := ⟨0x500040 + 0x4 * n, 16, 16, 0⟩
def BAL_CTRL_CLR_ERR : Fld := ⟨0x600000, 0, 1, 0⟩
def BAL_CTRL_DISCARD : Fld := ⟨0x600000, 1, 1, 0⟩
def BAL_STATUS_STATE : Fld := ⟨0x600004, 0, 3, 0⟩
def BAL_STATUS_VAULT0 : Fld := ⟨0x600004, 3, 1, 0⟩
def BAL_STATUS_VAULT1 : Fld := ⟨0x600004, 4, 1, 0⟩
def BAL_STATUS_STALE : Fld := ⟨0x600004, 5, 1, 0⟩
def BAL_STATUS_LAST_ERR : Fld := ⟨0x600004, 8, 8, 0⟩
def BAL_STATUS_REASON : Fld := ⟨0x600004, 16, 4, 0⟩
def BAL_CFG_EN : Fld := ⟨0x600008, 0, 1, 1⟩
def BAL_CFG_MODE : Fld := ⟨0x600008, 1, 1, 0⟩
def BAL_CFG_HOLDUP_MS : Fld := ⟨0x600008, 4, 12, 800⟩
def BAL_NEED_NEED_MS : Fld := ⟨0x60000C, 0, 16, 388⟩
def BAL_SEQ_DUMP_SEQ : Fld := ⟨0x600010, 0, 32, 0⟩
def BAL_LAST_DUMP_MS : Fld := ⟨0x600014, 0, 16, 0⟩
def BAL_LAST_RESTORE_MS : Fld := ⟨0x600014, 16, 16, 0⟩
def BAL_LAST_PAGES_PAGES : Fld := ⟨0x600018, 0, 23, 0⟩
def BAL_LAST_PAGES_PARTIAL : Fld := ⟨0x600018, 23, 1, 0⟩
def BAL_INT_STATUS_ARMED : Fld := ⟨0x60001C, 0, 1, 0⟩
def BAL_INT_STATUS_DISARMED : Fld := ⟨0x60001C, 1, 1, 0⟩
def BAL_INT_STATUS_RESTORED : Fld := ⟨0x60001C, 2, 1, 0⟩
def BAL_INT_STATUS_RESTORE_LOSS : Fld := ⟨0x60001C, 3, 1, 0⟩
def BAL_INT_STATUS_VAULT_ERR : Fld := ⟨0x60001C, 4, 1, 0⟩
def BAL_INT_STATUS_HELD : Fld := ⟨0x60001C, 5, 1, 0⟩
def BAL_INT_ENABLE_ARMED : Fld := ⟨0x600020, 0, 1, 0⟩
def BAL_INT_ENABLE_DISARMED : Fld := ⟨0x600020, 1, 1, 0⟩
def BAL_INT_ENABLE_RESTORED : Fld := ⟨0x600020, 2, 1, 0⟩
def BAL_INT_ENABLE_RESTORE_LOSS : Fld := ⟨0x600020, 3, 1, 0⟩
def BAL_INT_ENABLE_VAULT_ERR : Fld := ⟨0x600020, 4, 1, 0⟩
def BAL_INT_ENABLE_HELD : Fld := ⟨0x600020, 5, 1, 0⟩
def HPT_CTRL_CLR_ERR : Fld := ⟨0x700000, 0, 1, 0⟩
def HPT_STATUS_STALE : Fld := ⟨0x700004, 0, 1, 0⟩
def HPT_STATUS_LAST_ERR : Fld := ⟨0x700004, 8, 8, 0⟩
def HPT_ID_DEVICE : Fld := ⟨0x700008, 0, 16, 38400⟩
def HPT_ID_REV : Fld := ⟨0x700008, 16, 8, 177⟩
def HPT_Pn_CFG_BIF (n : Nat) : Fld := ⟨0x700010 + 0x10 * n, 0, 1, 0⟩
def HPT_Pn_CFG_MAX_SPEED (n : Nat) : Fld := ⟨0x700010 + 0x10 * n, 1, 3, 6⟩
def HPT_Pn_CFG_L0P_EN (n : Nat) : Fld := ⟨0x700010 + 0x10 * n, 4, 1, 1⟩
def HPT_Pn_CFG_L1_EN (n : Nat) : Fld := ⟨0x700010 + 0x10 * n, 5, 1, 1⟩
def HPT_Pn_LINK_UP0 (n : Nat) : Fld := ⟨0x700014 + 0x10 * n, 0, 1, 0⟩
def HPT_Pn_LINK_SPEED0 (n : Nat) : Fld := ⟨0x700014 + 0x10 * n, 1, 3, 0⟩
def HPT_Pn_LINK_WIDTH0 (n : Nat) : Fld := ⟨0x700014 + 0x10 * n, 4, 5, 0⟩
def HPT_Pn_LINK_FLIT0 (n : Nat) : Fld := ⟨0x700014 + 0x10 * n, 9, 1, 0⟩
def HPT_Pn_LINK_UP1 (n : Nat) : Fld := ⟨0x700014 + 0x10 * n, 16, 1, 0⟩
def HPT_Pn_LINK_SPEED1 (n : Nat) : Fld := ⟨0x700014 + 0x10 * n, 17, 3, 0⟩
def HPT_Pn_LINK_WIDTH1 (n : Nat) : Fld := ⟨0x700014 + 0x10 * n, 20, 5, 0⟩
def HPT_Pn_LINK_FLIT1 (n : Nat) : Fld := ⟨0x700014 + 0x10 * n, 25, 1, 0⟩
def HPT_Pn_LINK_STALE (n : Nat) : Fld := ⟨0x700014 + 0x10 * n, 31, 1, 0⟩
def HPT_Pn_ERR_CORR (n : Nat) : Fld := ⟨0x700018 + 0x10 * n, 0, 16, 0⟩
def HPT_Pn_ERR_UNCORR (n : Nat) : Fld := ⟨0x700018 + 0x10 * n, 16, 16, 0⟩
def HPT_Pn_CNT_LINK_DOWN (n : Nat) : Fld := ⟨0x70001C + 0x10 * n, 0, 16, 0⟩
def HPT_Pn_CNT_PERST (n : Nat) : Fld := ⟨0x70001C + 0x10 * n, 16, 16, 0⟩
def HPT_INT_STATUS_LINK_UP (p : Nat) : Fld := ⟨0x700030, 8 * p + 0, 1, 0⟩
def HPT_INT_STATUS_LINK_DOWN (p : Nat) : Fld := ⟨0x700030, 8 * p + 1, 1, 0⟩
def HPT_INT_STATUS_PERST (p : Nat) : Fld := ⟨0x700030, 8 * p + 2, 1, 0⟩
def HPT_INT_STATUS_UNCORR (p : Nat) : Fld := ⟨0x700030, 8 * p + 3, 1, 0⟩
def HPT_INT_STATUS_DEGRADED (p : Nat) : Fld := ⟨0x700030, 8 * p + 4, 1, 0⟩
def HPT_INT_ENABLE_LINK_UP (p : Nat) : Fld := ⟨0x700034, 8 * p + 0, 1, 0⟩
def HPT_INT_ENABLE_LINK_DOWN (p : Nat) : Fld := ⟨0x700034, 8 * p + 1, 1, 0⟩
def HPT_INT_ENABLE_PERST (p : Nat) : Fld := ⟨0x700034, 8 * p + 2, 1, 0⟩
def HPT_INT_ENABLE_UNCORR (p : Nat) : Fld := ⟨0x700034, 8 * p + 3, 1, 0⟩
def HPT_INT_ENABLE_DEGRADED (p : Nat) : Fld := ⟨0x700034, 8 * p + 4, 1, 0⟩
def HPT_CE_CTRL_CLR_ERR : Fld := ⟨0x708000, 0, 1, 0⟩
def HPT_CE_STATUS_FETCH_STOPPED : Fld := ⟨0x708004, 0, 1, 0⟩
def HPT_CE_STATUS_SANITIZING : Fld := ⟨0x708004, 1, 1, 0⟩
def HPT_CE_STATUS_STALE : Fld := ⟨0x708004, 2, 1, 0⟩
def HPT_CE_STATUS_LAST_ERR : Fld := ⟨0x708004, 8, 8, 0⟩
def HPT_CE_POOL_CFG_RSV_DEFAULT : Fld := ⟨0x708008, 0, 6, 2⟩
def HPT_CE_POOL_CFG_Q_CAP : Fld := ⟨0x708008, 8, 13, 4096⟩
def HPT_CE_POOL_FLOOR_SHARED_FLOOR : Fld := ⟨0x70800C, 0, 15, 4096⟩
def HPT_CE_POOL_FLOOR_LOW_MARK : Fld := ⟨0x70800C, 16, 15, 512⟩
def HPT_CE_POOL_USE_IN_USE : Fld := ⟨0x708010, 0, 15, 0⟩
def HPT_CE_POOL_USE_RESERVED : Fld := ⟨0x708010, 16, 15, 0⟩
def HPT_CE_POOL_USE_STALE : Fld := ⟨0x708010, 31, 1, 0⟩
def HPT_CE_WAIT0_BASKET : Fld := ⟨0x708014, 0, 15, 0⟩
def HPT_CE_WAIT0_SPAR : Fld := ⟨0x708014, 16, 15, 0⟩
def HPT_CE_WAIT0_STALE : Fld := ⟨0x708014, 31, 1, 0⟩
def HPT_CE_WAIT1_DRIVE : Fld := ⟨0x708018, 0, 15, 0⟩
def HPT_CE_WAIT1_LOCK : Fld := ⟨0x708018, 16, 15, 0⟩
def HPT_CE_WAIT1_STALE : Fld := ⟨0x708018, 31, 1, 0⟩
def HPT_CE_WAIT2_RING : Fld := ⟨0x70801C, 0, 15, 0⟩
def HPT_CE_WAIT2_ORDERED : Fld := ⟨0x70801C, 16, 15, 0⟩
def HPT_CE_WAIT2_STALE : Fld := ⟨0x70801C, 31, 1, 0⟩
def HPT_CE_INT_STATUS_POOL_LOW : Fld := ⟨0x708020, 0, 1, 0⟩
def HPT_CE_INT_STATUS_SQ_THROTTLE : Fld := ⟨0x708020, 1, 1, 0⟩
def HPT_CE_INT_STATUS_RNR : Fld := ⟨0x708020, 2, 1, 0⟩
def HPT_CE_INT_STATUS_ACT_START : Fld := ⟨0x708020, 3, 1, 0⟩
def HPT_CE_INT_STATUS_ACT_DONE : Fld := ⟨0x708020, 4, 1, 0⟩
def HPT_CE_INT_STATUS_ACT_FAIL : Fld := ⟨0x708020, 5, 1, 0⟩
def HPT_CE_INT_STATUS_FORMAT_DONE : Fld := ⟨0x708020, 6, 1, 0⟩
def HPT_CE_INT_STATUS_SANITIZE_DONE : Fld := ⟨0x708020, 7, 1, 0⟩
def HPT_CE_INT_STATUS_SANITIZE_FAIL : Fld := ⟨0x708020, 8, 1, 0⟩
def HPT_CE_INT_STATUS_QUEUE_REFUSED : Fld := ⟨0x708020, 9, 1, 0⟩
def HPT_CE_INT_ENABLE_POOL_LOW : Fld := ⟨0x708024, 0, 1, 0⟩
def HPT_CE_INT_ENABLE_SQ_THROTTLE : Fld := ⟨0x708024, 1, 1, 0⟩
def HPT_CE_INT_ENABLE_RNR : Fld := ⟨0x708024, 2, 1, 0⟩
def HPT_CE_INT_ENABLE_ACT_START : Fld := ⟨0x708024, 3, 1, 0⟩
def HPT_CE_INT_ENABLE_ACT_DONE : Fld := ⟨0x708024, 4, 1, 0⟩
def HPT_CE_INT_ENABLE_ACT_FAIL : Fld := ⟨0x708024, 5, 1, 0⟩
def HPT_CE_INT_ENABLE_FORMAT_DONE : Fld := ⟨0x708024, 6, 1, 0⟩
def HPT_CE_INT_ENABLE_SANITIZE_DONE : Fld := ⟨0x708024, 7, 1, 0⟩
def HPT_CE_INT_ENABLE_SANITIZE_FAIL : Fld := ⟨0x708024, 8, 1, 0⟩
def HPT_CE_INT_ENABLE_QUEUE_REFUSED : Fld := ⟨0x708024, 9, 1, 0⟩
def HPT_CE_ACT_PHASE : Fld := ⟨0x708028, 0, 3, 0⟩
def HPT_CE_ACT_PAIR_WAIT : Fld := ⟨0x708028, 3, 1, 0⟩
def HPT_CE_ACT_LAST_STATUS : Fld := ⟨0x708028, 8, 8, 0⟩
def HPT_CE_ACT_LAST_PAUSE_MS : Fld := ⟨0x708028, 16, 16, 0⟩
def HPT_CE_SANI_SSTAT : Fld := ⟨0x70802C, 0, 3, 0⟩
def HPT_CE_SANI_ACTION : Fld := ⟨0x70802C, 4, 3, 0⟩
def HPT_CE_SANI_SPROG : Fld := ⟨0x70802C, 16, 16, 0⟩
def HPT_CE_CNT_THROTTLE_EPOCHS : Fld := ⟨0x708030, 0, 32, 0⟩
def HPT_CE_CNT_RNR_RNR : Fld := ⟨0x708034, 0, 32, 0⟩
def HPT_CE_CNT_ABORT_ABORTS : Fld := ⟨0x708038, 0, 32, 0⟩
def HPT_CE_CNT_ORDERED_ORDERED : Fld := ⟨0x70803C, 0, 32, 0⟩
def FAB_CTRL_CLR_ERR : Fld := ⟨0x800000, 0, 1, 0⟩
def FAB_STATUS_STALE : Fld := ⟨0x800004, 0, 1, 0⟩
def FAB_STATUS_LAST_ERR : Fld := ⟨0x800004, 8, 8, 0⟩
def FAB_CFG_ACL_MODE : Fld := ⟨0x800008, 0, 1, 1⟩
def FAB_CFG_REFERRALS : Fld := ⟨0x800008, 1, 1, 1⟩
def FAB_CC_CUT : Fld := ⟨0x80000C, 0, 8, 64⟩
def FAB_CC_RECOVER : Fld := ⟨0x80000C, 8, 8, 4⟩
def FAB_CC_STEP : Fld := ⟨0x80000C, 16, 8, 8⟩
def FAB_CC_CNP_GAP : Fld := ⟨0x80000C, 24, 8, 1⟩
def FAB_QP_QPS : Fld := ⟨0x800010, 0, 13, 0⟩
def FAB_QP_CTRLS : Fld := ⟨0x800010, 16, 10, 0⟩
def FAB_QP_STALE : Fld := ⟨0x800010, 31, 1, 0⟩
def FAB_INT_STATUS_LINK_UP (p : Nat) : Fld := ⟨0x800014, 4 * p + 0, 1, 0⟩
def FAB_INT_STATUS_LINK_DOWN (p : Nat) : Fld := ⟨0x800014, 4 * p + 1, 1, 0⟩
def FAB_INT_STATUS_FEC_UE (p : Nat) : Fld := ⟨0x800014, 4 * p + 2, 1, 0⟩
def FAB_INT_STATUS_PFC_STORM (p : Nat) : Fld := ⟨0x800014, 4 * p + 3, 1, 0⟩
def FAB_INT_STATUS_ACL_REJECT : Fld := ⟨0x800014, 16, 1, 0⟩
def FAB_INT_STATUS_DISC_CHG : Fld := ⟨0x800014, 17, 1, 0⟩
def FAB_INT_STATUS_QP_ERROR : Fld := ⟨0x800014, 18, 1, 0⟩
def FAB_INT_ENABLE_LINK_UP (p : Nat) : Fld := ⟨0x800018, 4 * p + 0, 1, 0⟩
def FAB_INT_ENABLE_LINK_DOWN (p : Nat) : Fld := ⟨0x800018, 4 * p + 1, 1, 0⟩
def FAB_INT_ENABLE_FEC_UE (p : Nat) : Fld := ⟨0x800018, 4 * p + 2, 1, 0⟩
def FAB_INT_ENABLE_PFC_STORM (p : Nat) : Fld := ⟨0x800018, 4 * p + 3, 1, 0⟩
def FAB_INT_ENABLE_ACL_REJECT : Fld := ⟨0x800018, 16, 1, 0⟩
def FAB_INT_ENABLE_DISC_CHG : Fld := ⟨0x800018, 17, 1, 0⟩
def FAB_INT_ENABLE_QP_ERROR : Fld := ⟨0x800018, 18, 1, 0⟩
def FAB_Pp_CFG_BREAKOUT (n : Nat) : Fld := ⟨0x800100 + 0x40 * n, 0, 2, 0⟩
def FAB_Pp_CFG_MEDIA (n : Nat) : Fld := ⟨0x800100 + 0x40 * n, 2, 1, 0⟩
def FAB_Pp_CFG_ECN_EN (n : Nat) : Fld := ⟨0x800100 + 0x40 * n, 3, 1, 1⟩
def FAB_Pp_CFG_ROCE_PRIO (n : Nat) : Fld := ⟨0x800100 + 0x40 * n, 4, 3, 3⟩
def FAB_Pp_CFG_PFC_MASK (n : Nat) : Fld := ⟨0x800100 + 0x40 * n, 8, 8, 8⟩
def FAB_Pp_CFG_CABLE_M (n : Nat) : Fld := ⟨0x800100 + 0x40 * n, 16, 11, 100⟩
def FAB_Pp_LINK_UP (n : Nat) : Fld := ⟨0x800104 + 0x40 * n, 0, 4, 0⟩
def FAB_Pp_LINK_LFAULT (n : Nat) : Fld := ⟨0x800104 + 0x40 * n, 4, 4, 0⟩
def FAB_Pp_LINK_RFAULT (n : Nat) : Fld := ⟨0x800104 + 0x40 * n, 8, 4, 0⟩
def FAB_Pp_LINK_PAUSED (n : Nat) : Fld := ⟨0x800104 + 0x40 * n, 12, 4, 0⟩
def FAB_Pp_LINK_STALE (n : Nat) : Fld := ⟨0x800104 + 0x40 * n, 31, 1, 0⟩
def FAB_Pp_PFC_HEADROOM (n : Nat) : Fld := ⟨0x800108 + 0x40 * n, 0, 12, 112⟩
def FAB_Pp_PFC_XOFF (n : Nat) : Fld := ⟨0x800108 + 0x40 * n, 12, 12, 1936⟩
def FAB_Pp_FEC_CE_CE (n : Nat) : Fld := ⟨0x80010C + 0x40 * n, 0, 32, 0⟩
def FAB_Pp_FEC_UE_UE (n : Nat) : Fld := ⟨0x800110 + 0x40 * n, 0, 32, 0⟩
def FAB_Pp_PAUSE_TX_EPOCHS (n : Nat) : Fld := ⟨0x800114 + 0x40 * n, 0, 32, 0⟩
def FAB_Pp_PAUSE_RX_EPOCHS (n : Nat) : Fld := ⟨0x800118 + 0x40 * n, 0, 32, 0⟩
def FAB_Pp_CNP_TX (n : Nat) : Fld := ⟨0x80011C + 0x40 * n, 0, 16, 0⟩
def FAB_Pp_CNP_RX (n : Nat) : Fld := ⟨0x80011C + 0x40 * n, 16, 16, 0⟩
def DRV_CTRL_CLR_ERR : Fld := ⟨0x900000, 0, 1, 0⟩
def DRV_STATUS_STALE : Fld := ⟨0x900004, 0, 1, 0⟩
def DRV_STATUS_LAST_ERR : Fld := ⟨0x900004, 8, 8, 0⟩
def DRV_INT_ADD_PORTS : Fld := ⟨0x900010, 0, 32, 0⟩
def DRV_INT_REMOVE_PORTS : Fld := ⟨0x900014, 0, 32, 0⟩
def DRV_INT_LINK_PORTS : Fld := ⟨0x900018, 0, 32, 0⟩
def DRV_INT_FENCE_PORTS : Fld := ⟨0x90001C, 0, 32, 0⟩
def DRV_INT_ADD_EN_PORTS : Fld := ⟨0x900030, 0, 32, 0⟩
def DRV_INT_REMOVE_EN_PORTS : Fld := ⟨0x900034, 0, 32, 0⟩
def DRV_INT_LINK_EN_PORTS : Fld := ⟨0x900038, 0, 32, 0⟩
def DRV_INT_FENCE_EN_PORTS : Fld := ⟨0x90003C, 0, 32, 0⟩
def DRV_Pp_CFG_BIF (n : Nat) : Fld := ⟨0x900100 + 0x10 * n, 0, 1, 0⟩
def DRV_Pp_CFG_MAX_SPEED (n : Nat) : Fld := ⟨0x900100 + 0x10 * n, 1, 3, 5⟩
def DRV_Pp_CFG_L1SS_EN (n : Nat) : Fld := ⟨0x900100 + 0x10 * n, 4, 1, 1⟩
def DRV_Pp_S0_PRESENT (n : Nat) : Fld := ⟨0x900104 + 0x10 * n, 0, 1, 0⟩
def DRV_Pp_S0_POWERED (n : Nat) : Fld := ⟨0x900104 + 0x10 * n, 1, 1, 0⟩
def DRV_Pp_S0_LINK_UP (n : Nat) : Fld := ⟨0x900104 + 0x10 * n, 2, 1, 0⟩
def DRV_Pp_S0_SPEED (n : Nat) : Fld := ⟨0x900104 + 0x10 * n, 3, 3, 0⟩
def DRV_Pp_S0_WIDTH (n : Nat) : Fld := ⟨0x900104 + 0x10 * n, 6, 3, 0⟩
def DRV_Pp_S0_USE (n : Nat) : Fld := ⟨0x900104 + 0x10 * n, 9, 3, 0⟩
def DRV_Pp_S0_NOFENCE (n : Nat) : Fld := ⟨0x900104 + 0x10 * n, 12, 1, 0⟩
def DRV_Pp_S0_DEGRADED_LINK (n : Nat) : Fld := ⟨0x900104 + 0x10 * n, 13, 1, 0⟩
def DRV_Pp_S0_LINK_FAIL (n : Nat) : Fld := ⟨0x900104 + 0x10 * n, 14, 1, 0⟩
def DRV_Pp_S0_STALE (n : Nat) : Fld := ⟨0x900104 + 0x10 * n, 31, 1, 0⟩
def DRV_Pp_S1_PRESENT (n : Nat) : Fld := ⟨0x900108 + 0x10 * n, 0, 1, 0⟩
def DRV_Pp_S1_POWERED (n : Nat) : Fld := ⟨0x900108 + 0x10 * n, 1, 1, 0⟩
def DRV_Pp_S1_LINK_UP (n : Nat) : Fld := ⟨0x900108 + 0x10 * n, 2, 1, 0⟩
def DRV_Pp_S1_SPEED (n : Nat) : Fld := ⟨0x900108 + 0x10 * n, 3, 3, 0⟩
def DRV_Pp_S1_WIDTH (n : Nat) : Fld := ⟨0x900108 + 0x10 * n, 6, 3, 0⟩
def DRV_Pp_S1_USE (n : Nat) : Fld := ⟨0x900108 + 0x10 * n, 9, 3, 0⟩
def DRV_Pp_S1_NOFENCE (n : Nat) : Fld := ⟨0x900108 + 0x10 * n, 12, 1, 0⟩
def DRV_Pp_S1_DEGRADED_LINK (n : Nat) : Fld := ⟨0x900108 + 0x10 * n, 13, 1, 0⟩
def DRV_Pp_S1_LINK_FAIL (n : Nat) : Fld := ⟨0x900108 + 0x10 * n, 14, 1, 0⟩
def DRV_Pp_S1_STALE (n : Nat) : Fld := ⟨0x900108 + 0x10 * n, 31, 1, 0⟩
def DRV_Pp_CTRL_ATTN0 (n : Nat) : Fld := ⟨0x90010C + 0x10 * n, 0, 1, 0⟩
def DRV_Pp_CTRL_ATTN1 (n : Nat) : Fld := ⟨0x90010C + 0x10 * n, 1, 1, 0⟩
def DRV_Pp_CTRL_OFF0 (n : Nat) : Fld := ⟨0x90010C + 0x10 * n, 4, 1, 0⟩
def DRV_Pp_CTRL_OFF1 (n : Nat) : Fld := ⟨0x90010C + 0x10 * n, 5, 1, 0⟩
def DRV_Pp_CTRL_ON0 (n : Nat) : Fld := ⟨0x90010C + 0x10 * n, 8, 1, 0⟩
def DRV_Pp_CTRL_ON1 (n : Nat) : Fld := ⟨0x90010C + 0x10 * n, 9, 1, 0⟩
def DRV_BPn_PRESENT (n : Nat) : Fld := ⟨0x900300 + 0x4 * n, 0, 1, 0⟩
def DRV_BPn_POWERED (n : Nat) : Fld := ⟨0x900300 + 0x4 * n, 1, 1, 0⟩
def DRV_BPn_LINK_UP (n : Nat) : Fld := ⟨0x900300 + 0x4 * n, 2, 1, 0⟩
def DRV_BPn_SPEED (n : Nat) : Fld := ⟨0x900300 + 0x4 * n, 3, 3, 0⟩
def DRV_BPn_WIDTH (n : Nat) : Fld := ⟨0x900300 + 0x4 * n, 6, 3, 0⟩
def DRV_BPn_USE (n : Nat) : Fld := ⟨0x900300 + 0x4 * n, 9, 3, 0⟩
def DRV_BPn_NOFENCE (n : Nat) : Fld := ⟨0x900300 + 0x4 * n, 12, 1, 0⟩
def DRV_BPn_DEGRADED_LINK (n : Nat) : Fld := ⟨0x900300 + 0x4 * n, 13, 1, 0⟩
def DRV_BPn_LINK_FAIL (n : Nat) : Fld := ⟨0x900300 + 0x4 * n, 14, 1, 0⟩
def DRV_BPn_STALE (n : Nat) : Fld := ⟨0x900300 + 0x4 * n, 31, 1, 0⟩
def SPL_CTRL_CLR_ERR : Fld := ⟨0xA00000, 0, 1, 0⟩
def SPL_STATUS_RUNNING : Fld := ⟨0xA00004, 0, 7, 0⟩
def SPL_STATUS_STALE : Fld := ⟨0xA00004, 7, 1, 0⟩
def SPL_STATUS_LAST_ERR : Fld := ⟨0xA00004, 8, 8, 0⟩
def SPL_STATUS_WAITING : Fld := ⟨0xA00004, 16, 7, 0⟩
def SPL_CFG_HOST_MASK : Fld := ⟨0xA00008, 0, 4, 15⟩
def SPL_INT_DONE_LO_DONE : Fld := ⟨0xA00010, 0, 32, 0⟩
def SPL_INT_DONE_HI_DONE : Fld := ⟨0xA00014, 0, 32, 0⟩
def SPL_INT_ERR_LO_ERR : Fld := ⟨0xA00018, 0, 32, 0⟩
def SPL_INT_ERR_HI_ERR : Fld := ⟨0xA0001C, 0, 32, 0⟩
def SPL_INT_DONE_LO_EN_DONE : Fld := ⟨0xA00020, 0, 32, 0⟩
def SPL_INT_DONE_HI_EN_DONE : Fld := ⟨0xA00024, 0, 32, 0⟩
def SPL_INT_ERR_LO_EN_ERR : Fld := ⟨0xA00028, 0, 32, 0⟩
def SPL_INT_ERR_HI_EN_ERR : Fld := ⟨0xA0002C, 0, 32, 0⟩
def SPL_TMRk_PERIOD (n : Nat) : Fld := ⟨0xA00040 + 0x4 * n, 0, 31, 0⟩
def SPL_TMRk_ALIGN (n : Nat) : Fld := ⟨0xA00040 + 0x4 * n, 31, 1, 0⟩
def SPL_CHc_CTRL_START (n : Nat) : Fld := ⟨0xA01000 + 0x40 * n, 0, 1, 0⟩
def SPL_CHc_CTRL_STOP (n : Nat) : Fld := ⟨0xA01000 + 0x40 * n, 1, 1, 0⟩
def SPL_CHc_CTRL_RESUME (n : Nat) : Fld := ⟨0xA01000 + 0x40 * n, 2, 1, 0⟩
def SPL_CHc_CTRL_ABORT (n : Nat) : Fld := ⟨0xA01000 + 0x40 * n, 3, 1, 0⟩
def SPL_CHc_CFG_PRIO (n : Nat) : Fld := ⟨0xA01004 + 0x40 * n, 0, 2, 1⟩
def SPL_CHc_CFG_TRIG_SRC (n : Nat) : Fld := ⟨0xA01004 + 0x40 * n, 4, 3, 0⟩
def SPL_CHc_CFG_TRIG_SEL (n : Nat) : Fld := ⟨0xA01004 + 0x40 * n, 8, 6, 0⟩
def SPL_CHc_LIMIT_CHAIN_LIMIT (n : Nat) : Fld := ⟨0xA01008 + 0x40 * n, 0, 21, 65536⟩
def SPL_CHc_STATUS_STATE (n : Nat) : Fld := ⟨0xA0100C + 0x40 * n, 0, 3, 0⟩
def SPL_CHc_STATUS_STATUS (n : Nat) : Fld := ⟨0xA0100C + 0x40 * n, 4, 3, 7⟩
def SPL_CHc_STATUS_PENDING (n : Nat) : Fld := ⟨0xA0100C + 0x40 * n, 8, 1, 0⟩
def SPL_CHc_STATUS_DEVICE (n : Nat) : Fld := ⟨0xA0100C + 0x40 * n, 9, 1, (if (52 ≤ n ∧ n ≤ 55) ∨ n = 63 then 1 else 0)⟩
def SPL_CHc_STATUS_MISSED (n : Nat) : Fld := ⟨0xA0100C + 0x40 * n, 16, 8, 0⟩
def SPL_CHc_STATUS_STALE (n : Nat) : Fld := ⟨0xA0100C + 0x40 * n, 31, 1, 0⟩
def SPL_CHc_DESC_LO_SPACE (n : Nat) : Fld := ⟨0xA01010 + 0x40 * n, 0, 4, 0⟩
def SPL_CHc_DESC_LO_ADDR_LO (n : Nat) : Fld := ⟨0xA01010 + 0x40 * n, 6, 26, 0⟩
def SPL_CHc_DESC_HI_ADDR_HI (n : Nat) : Fld := ⟨0xA01014 + 0x40 * n, 0, 32, 0⟩
def SPL_CHc_COMPL_LO_SPACE (n : Nat) : Fld := ⟨0xA01018 + 0x40 * n, 0, 4, 7⟩
def SPL_CHc_COMPL_LO_ADDR_LO (n : Nat) : Fld := ⟨0xA01018 + 0x40 * n, 4, 28, 0⟩
def SPL_CHc_COMPL_HI_ADDR_HI (n : Nat) : Fld := ⟨0xA0101C + 0x40 * n, 0, 32, 0⟩
def SPL_CHc_DONE_DESC_COUNT (n : Nat) : Fld := ⟨0xA01020 + 0x40 * n, 0, 32, 0⟩
def SPL_CHc_BYTES_BYTES (n : Nat) : Fld := ⟨0xA01024 + 0x40 * n, 0, 24, 0⟩
def SPL_CHc_ERR_ADDR_LO_ADDR_LO (n : Nat) : Fld := ⟨0xA01028 + 0x40 * n, 0, 32, 0⟩
def SPL_CHc_ERR_ADDR_HI_ADDR_HI (n : Nat) : Fld := ⟨0xA0102C + 0x40 * n, 0, 32, 0⟩
def SPL_CHc_ERR_INFO_SPACE (n : Nat) : Fld := ⟨0xA01030 + 0x40 * n, 0, 4, 0⟩
def SPL_CHc_ERR_INFO_DIR (n : Nat) : Fld := ⟨0xA01030 + 0x40 * n, 4, 3, 0⟩
def SPL_CHc_ERR_INFO_CAUSE (n : Nat) : Fld := ⟨0xA01030 + 0x40 * n, 8, 3, 0⟩
def SPL_CHc_ERR_INFO_VALID (n : Nat) : Fld := ⟨0xA01030 + 0x40 * n, 31, 1, 0⟩
def STG_CTRL_CLR_ERR : Fld := ⟨0xB00000, 0, 1, 0⟩
def STG_CTRL_REELECT : Fld := ⟨0xB00000, 1, 1, 0⟩
def STG_STATUS_STATE : Fld := ⟨0xB00004, 0, 3, 0⟩
def STG_STATUS_REEL : Fld := ⟨0xB00004, 3, 1, 0⟩
def STG_STATUS_WRAPPED : Fld := ⟨0xB00004, 4, 1, 0⟩
def STG_STATUS_GEN_BEHIND : Fld := ⟨0xB00004, 5, 1, 0⟩
def STG_STATUS_STALE : Fld := ⟨0xB00004, 6, 1, 0⟩
def STG_STATUS_LAST_ERR : Fld := ⟨0xB00004, 8, 8, 0⟩
def STG_STATUS_REFUSE : Fld := ⟨0xB00004, 16, 3, 0⟩
def STG_CFG_EN : Fld := ⟨0xB00008, 0, 1, 0⟩
def STG_CFG_REEL_PRIO : Fld := ⟨0xB00008, 8, 8, 128⟩
def STG_ID_UNIT : Fld := ⟨0xB0000C, 0, 16, 0⟩
def STG_ID_SLOT : Fld := ⟨0xB0000C, 16, 10, 0⟩
def STG_STRING_ID_STRING_ID : Fld := ⟨0xB00010, 0, 32, 0⟩
def STG_RING_POS : Fld := ⟨0xB00014, 0, 10, 0⟩
def STG_RING_SIZE : Fld := ⟨0xB00014, 16, 11, 0⟩
def STG_RING_STALE : Fld := ⟨0xB00014, 31, 1, 0⟩
def STG_REEL_REEL_UNIT : Fld := ⟨0xB00018, 0, 16, 65535⟩
def STG_REEL_HOPS : Fld := ⟨0xB00018, 16, 10, 0⟩
def STG_REEL_DIR : Fld := ⟨0xB00018, 26, 1, 0⟩
def STG_REEL_STALE : Fld := ⟨0xB00018, 31, 1, 0⟩
def STG_COLLECT_DEPTH : Fld := ⟨0xB0001C, 0, 11, 0⟩
def STG_COLLECT_PEAK : Fld := ⟨0xB0001C, 16, 11, 0⟩
def STG_COLLECT_STALE : Fld := ⟨0xB0001C, 31, 1, 0⟩
def STG_PORT_W_LINK : Fld := ⟨0xB00020, 0, 2, 0⟩
def STG_PORT_W_LOCK : Fld := ⟨0xB00020, 2, 2, 0⟩
def STG_PORT_W_INVERT : Fld := ⟨0xB00020, 4, 2, 0⟩
def STG_PORT_W_DELAY_NS : Fld := ⟨0xB00020, 16, 12, 0⟩
def STG_PORT_W_STALE : Fld := ⟨0xB00020, 31, 1, 0⟩
def STG_PORT_E_LINK : Fld := ⟨0xB00024, 0, 2, 0⟩
def STG_PORT_E_LOCK : Fld := ⟨0xB00024, 2, 2, 0⟩
def STG_PORT_E_INVERT : Fld := ⟨0xB00024, 4, 2, 0⟩
def STG_PORT_E_DELAY_NS : Fld := ⟨0xB00024, 16, 12, 0⟩
def STG_PORT_E_STALE : Fld := ⟨0xB00024, 31, 1, 0⟩
def STG_ERR_W_CRC : Fld := ⟨0xB00028, 0, 16, 0⟩
def STG_ERR_W_DOWN : Fld := ⟨0xB00028, 16, 16, 0⟩
def STG_ERR_E_CRC : Fld := ⟨0xB0002C, 0, 16, 0⟩
def STG_ERR_E_DOWN : Fld := ⟨0xB0002C, 16, 16, 0⟩
def STG_INT_STATUS_JOINED : Fld := ⟨0xB00030, 0, 1, 0⟩
def STG_INT_STATUS_REFUSED : Fld := ⟨0xB00030, 1, 1, 0⟩
def STG_INT_STATUS_WRAP : Fld := ⟨0xB00030, 2, 1, 0⟩
def STG_INT_STATUS_UNWRAP : Fld := ⟨0xB00030, 3, 1, 0⟩
def STG_INT_STATUS_REEL_LOST : Fld := ⟨0xB00030, 4, 1, 0⟩
def STG_INT_STATUS_REEL_CHG : Fld := ⟨0xB00030, 5, 1, 0⟩
def STG_INT_STATUS_GEN_APPLIED : Fld := ⟨0xB00030, 6, 1, 0⟩
def STG_INT_STATUS_GEN_REJECTED : Fld := ⟨0xB00030, 7, 1, 0⟩
def STG_INT_STATUS_DIR_CHG : Fld := ⟨0xB00030, 8, 1, 0⟩
def STG_INT_STATUS_FOREIGN : Fld := ⟨0xB00030, 9, 1, 0⟩
def STG_INT_ENABLE_JOINED : Fld := ⟨0xB00034, 0, 1, 0⟩
def STG_INT_ENABLE_REFUSED : Fld := ⟨0xB00034, 1, 1, 0⟩
def STG_INT_ENABLE_WRAP : Fld := ⟨0xB00034, 2, 1, 0⟩
def STG_INT_ENABLE_UNWRAP : Fld := ⟨0xB00034, 3, 1, 0⟩
def STG_INT_ENABLE_REEL_LOST : Fld := ⟨0xB00034, 4, 1, 0⟩
def STG_INT_ENABLE_REEL_CHG : Fld := ⟨0xB00034, 5, 1, 0⟩
def STG_INT_ENABLE_GEN_APPLIED : Fld := ⟨0xB00034, 6, 1, 0⟩
def STG_INT_ENABLE_GEN_REJECTED : Fld := ⟨0xB00034, 7, 1, 0⟩
def STG_INT_ENABLE_DIR_CHG : Fld := ⟨0xB00034, 8, 1, 0⟩
def STG_INT_ENABLE_FOREIGN : Fld := ⟨0xB00034, 9, 1, 0⟩
def STG_WAKE_TARGET : Fld := ⟨0xB00038, 0, 16, 0⟩
def STG_WAKE_SEND : Fld := ⟨0xB00038, 31, 1, 0⟩
def SPR_CTRL_CLR_ERR : Fld := ⟨0xC00000, 0, 1, 0⟩
def SPR_CTRL_REARM : Fld := ⟨0xC00000, 1, 1, 0⟩
def SPR_STATUS_STATE : Fld := ⟨0xC00004, 0, 3, 0⟩
def SPR_STATUS_READY : Fld := ⟨0xC00004, 3, 1, 0⟩
def SPR_STATUS_FLAPPING : Fld := ⟨0xC00004, 4, 1, 0⟩
def SPR_STATUS_CLAIM_LOST : Fld := ⟨0xC00004, 5, 1, 0⟩
def SPR_STATUS_STALE : Fld := ⟨0xC00004, 6, 1, 0⟩
def SPR_STATUS_LAST_ERR : Fld := ⟨0xC00004, 8, 8, 0⟩
def SPR_STATUS_REASON : Fld := ⟨0xC00004, 16, 4, 0⟩
def SPR_CFG_EN : Fld := ⟨0xC00008, 0, 1, 0⟩
def SPR_CFG_HOME : Fld := ⟨0xC00008, 1, 1, 0⟩
def SPR_CFG_AUTO_BACK : Fld := ⟨0xC00008, 2, 1, 1⟩
def SPR_CFG_HOLDOFF_S : Fld := ⟨0xC00008, 4, 12, 300⟩
def SPR_CFG_PEER_UNIT : Fld := ⟨0xC00008, 16, 16, 65535⟩
def SPR_TIMING_DETECT_EPOCHS : Fld := ⟨0xC0000C, 0, 4, 4⟩
def SPR_TIMING_SOLO_WAIT : Fld := ⟨0xC0000C, 8, 8, 64⟩
def SPR_TIMING_FLAP_MIN : Fld := ⟨0xC0000C, 16, 8, 60⟩
def SPR_TIMING_PEER_WAIT_S : Fld := ⟨0xC0000C, 24, 8, 10⟩
def SPR_CLAIM_LO_CLAIM_LO : Fld := ⟨0xC00010, 0, 32, 0⟩
def SPR_CLAIM_HI_CLAIM_HI : Fld := ⟨0xC00014, 0, 32, 0⟩
def SPR_PEER_CLAIM_LO_CLAIM_LO : Fld := ⟨0xC00018, 0, 32, 0⟩
def SPR_PEER_CLAIM_HI_CLAIM_HI : Fld := ⟨0xC0001C, 0, 32, 0⟩
def SPR_HEALTH_LO_HEALTH_LO : Fld := ⟨0xC00020, 0, 32, 0⟩
def SPR_HEALTH_HI_HEALTH_HI : Fld := ⟨0xC00024, 0, 32, 0⟩
def SPR_LINK_LANES : Fld := ⟨0xC00028, 0, 4, 0⟩
def SPR_LINK_UP : Fld := ⟨0xC00028, 4, 1, 0⟩
def SPR_LINK_STALE : Fld := ⟨0xC00028, 7, 1, 0⟩
def SPR_LINK_CAP_GBS : Fld := ⟨0xC00028, 8, 8, 0⟩
def SPR_LINK_CRC : Fld := ⟨0xC00028, 16, 16, 0⟩
def SPR_MIRROR_CONFIRMED : Fld := ⟨0xC0002C, 0, 32, 0⟩
def SPR_SYNC_PCT : Fld := ⟨0xC00030, 0, 7, 0⟩
def SPR_SYNC_STALE : Fld := ⟨0xC00030, 31, 1, 0⟩
def SPR_INT_STATUS_TAKEOVER : Fld := ⟨0xC00034, 0, 1, 0⟩
def SPR_INT_STATUS_FENCED : Fld := ⟨0xC00034, 1, 1, 0⟩
def SPR_INT_STATUS_HANDBACK : Fld := ⟨0xC00034, 2, 1, 0⟩
def SPR_INT_STATUS_SPAR_DOWN : Fld := ⟨0xC00034, 3, 1, 0⟩
def SPR_INT_STATUS_SPAR_UP : Fld := ⟨0xC00034, 4, 1, 0⟩
def SPR_INT_STATUS_SYNCED : Fld := ⟨0xC00034, 5, 1, 0⟩
def SPR_INT_STATUS_PEER_NOT_READY : Fld := ⟨0xC00034, 6, 1, 0⟩
def SPR_INT_STATUS_SPLIT : Fld := ⟨0xC00034, 7, 1, 0⟩
def SPR_INT_STATUS_SEPARATED : Fld := ⟨0xC00034, 8, 1, 0⟩
def SPR_INT_STATUS_FLAPPING : Fld := ⟨0xC00034, 9, 1, 0⟩
def SPR_INT_STATUS_DEGRADED_LINK : Fld := ⟨0xC00034, 10, 1, 0⟩
def SPR_INT_ENABLE_TAKEOVER : Fld := ⟨0xC00038, 0, 1, 0⟩
def SPR_INT_ENABLE_FENCED : Fld := ⟨0xC00038, 1, 1, 0⟩
def SPR_INT_ENABLE_HANDBACK : Fld := ⟨0xC00038, 2, 1, 0⟩
def SPR_INT_ENABLE_SPAR_DOWN : Fld := ⟨0xC00038, 3, 1, 0⟩
def SPR_INT_ENABLE_SPAR_UP : Fld := ⟨0xC00038, 4, 1, 0⟩
def SPR_INT_ENABLE_SYNCED : Fld := ⟨0xC00038, 5, 1, 0⟩
def SPR_INT_ENABLE_PEER_NOT_READY : Fld := ⟨0xC00038, 6, 1, 0⟩
def SPR_INT_ENABLE_SPLIT : Fld := ⟨0xC00038, 7, 1, 0⟩
def SPR_INT_ENABLE_SEPARATED : Fld := ⟨0xC00038, 8, 1, 0⟩
def SPR_INT_ENABLE_FLAPPING : Fld := ⟨0xC00038, 9, 1, 0⟩
def SPR_INT_ENABLE_DEGRADED_LINK : Fld := ⟨0xC00038, 10, 1, 0⟩
def SPR_CNT_TAKEOVERS : Fld := ⟨0xC0003C, 0, 16, 0⟩
def SPR_CNT_HANDBACKS : Fld := ⟨0xC0003C, 16, 16, 0⟩
def SPR_LAST_TAKEOVER_EPOCHS : Fld := ⟨0xC00040, 0, 8, 0⟩
def DWN_CTRL_CLR_ERR : Fld := ⟨0xD00000, 0, 1, 0⟩
def DWN_CTRL_CLEAR_FAILS : Fld := ⟨0xD00000, 1, 1, 0⟩
def DWN_CTRL_RESTART : Fld := ⟨0xD00000, 2, 1, 0⟩
def DWN_STATUS_STEP : Fld := ⟨0xD00004, 0, 5, 0⟩
def DWN_STATUS_RUNNING : Fld := ⟨0xD00004, 5, 1, 1⟩
def DWN_STATUS_SAFE : Fld := ⟨0xD00004, 6, 1, 0⟩
def DWN_STATUS_STALE : Fld := ⟨0xD00004, 7, 1, 0⟩
def DWN_STATUS_LAST_ERR : Fld := ⟨0xD00004, 8, 8, 0⟩
def DWN_STATUS_IMAGE_SLOT : Fld := ⟨0xD00004, 16, 1, 0⟩
def DWN_STATUS_CFG_SRC : Fld := ⟨0xD00004, 17, 1, 0⟩
def DWN_STATUS_CONFIG_OLDER : Fld := ⟨0xD00004, 18, 1, 0⟩
def DWN_CFG_LOCK_WAIT_S : Fld := ⟨0xD00008, 0, 8, 5⟩
def DWN_CFG_DRIVE_WAIT_S : Fld := ⟨0xD00008, 8, 8, 20⟩
def DWN_START_START_NO : Fld := ⟨0xD0000C, 0, 32, 0⟩
def DWN_FAIL_STEP : Fld := ⟨0xD00010, 0, 5, 31⟩
def DWN_FAIL_DETAIL : Fld := ⟨0xD00010, 16, 16, 0⟩
def DWN_FAILMASK_FAILED : Fld := ⟨0xD00014, 0, 18, 0⟩
def DWN_ALTMASK_ALT : Fld := ⟨0xD00018, 0, 18, 0⟩
def DWN_TIME_S11_MS : Fld := ⟨0xD0001C, 0, 16, 0⟩
def DWN_TIME_S17_100MS : Fld := ⟨0xD0001C, 16, 16, 0⟩
def DWN_GEN_LO_GEN_LO : Fld := ⟨0xD00020, 0, 32, 0⟩
def DWN_GEN_HI_GEN_HI : Fld := ⟨0xD00024, 0, 32, 0⟩
def DWN_LAUNCH_PENDING : Fld := ⟨0xD00028, 0, 1, 0⟩
def DWN_LAUNCH_SHADOW_DIFF : Fld := ⟨0xD00028, 1, 1, 0⟩
def DWN_LAUNCH_LAST_CODE : Fld := ⟨0xD00028, 8, 8, 0⟩
def DWN_LAUNCH_ERR_WHERE : Fld := ⟨0xD0002C, 0, 26, 0⟩
def DWN_LAUNCH_ERR_IS_TABLE : Fld := ⟨0xD0002C, 26, 1, 0⟩
def DWN_INT_STATUS_DAWN_DONE : Fld := ⟨0xD00030, 0, 1, 0⟩
def DWN_INT_STATUS_STEP_FAIL : Fld := ⟨0xD00030, 1, 1, 0⟩
def DWN_INT_STATUS_SAFE_STATE : Fld := ⟨0xD00030, 2, 1, 0⟩
def DWN_INT_STATUS_LAUNCH_DONE : Fld := ⟨0xD00030, 3, 1, 0⟩
def DWN_INT_STATUS_LAUNCH_REJECT : Fld := ⟨0xD00030, 4, 1, 0⟩
def DWN_INT_STATUS_PERSIST_DONE : Fld := ⟨0xD00030, 5, 1, 0⟩
def DWN_INT_STATUS_CONFIG_OLDER : Fld := ⟨0xD00030, 6, 1, 0⟩
def DWN_INT_ENABLE_DAWN_DONE : Fld := ⟨0xD00034, 0, 1, 0⟩
def DWN_INT_ENABLE_STEP_FAIL : Fld := ⟨0xD00034, 1, 1, 0⟩
def DWN_INT_ENABLE_SAFE_STATE : Fld := ⟨0xD00034, 2, 1, 0⟩
def DWN_INT_ENABLE_LAUNCH_DONE : Fld := ⟨0xD00034, 3, 1, 0⟩
def DWN_INT_ENABLE_LAUNCH_REJECT : Fld := ⟨0xD00034, 4, 1, 0⟩
def DWN_INT_ENABLE_PERSIST_DONE : Fld := ⟨0xD00034, 5, 1, 0⟩
def DWN_INT_ENABLE_CONFIG_OLDER : Fld := ⟨0xD00034, 6, 1, 0⟩
def SEC_CTRL_CLR_ERR : Fld := ⟨0xE00000, 0, 1, 0⟩
def SEC_STATUS_SECURE_BOOT : Fld := ⟨0xE00004, 0, 1, 1⟩
def SEC_STATUS_DEBUG_LOCKED : Fld := ⟨0xE00004, 1, 1, 0⟩
def SEC_STATUS_IMAGE_KEY : Fld := ⟨0xE00004, 2, 2, 0⟩
def SEC_STATUS_HOSTKEY : Fld := ⟨0xE00004, 4, 1, 0⟩
def SEC_STATUS_PERSIST_MODE : Fld := ⟨0xE00004, 5, 1, 0⟩
def SEC_STATUS_STALE : Fld := ⟨0xE00004, 6, 1, 0⟩
def SEC_STATUS_LAST_ERR : Fld := ⟨0xE00004, 8, 8, 0⟩
def SEC_KEYS_PROGRAMMED : Fld := ⟨0xE00008, 0, 4, 1⟩
def SEC_KEYS_DAMAGED : Fld := ⟨0xE00008, 4, 4, 0⟩
def SEC_KEYS_REVOKED : Fld := ⟨0xE00008, 8, 4, 0⟩
def SEC_SVN_OTP_SVN : Fld := ⟨0xE0000C, 0, 8, 0⟩
def SEC_SVN_RUN_SVN : Fld := ⟨0xE0000C, 8, 8, 0⟩
def SEC_SVN_OTHER_SVN : Fld := ⟨0xE0000C, 16, 8, 255⟩
def SEC_DEVIDn_DEVID (n : Nat) : Fld := ⟨0xE00010 + 0x4 * n, 0, 32, 0⟩
def SEC_SPDM_REQUESTS : Fld := ⟨0xE00020, 0, 16, 0⟩
def SEC_SPDM_ERRORS : Fld := ⟨0xE00020, 16, 16, 0⟩
def SEC_INT_STATUS_AUTH_FAIL : Fld := ⟨0xE00024, 0, 1, 0⟩
def SEC_INT_STATUS_ROLLBACK : Fld := ⟨0xE00024, 1, 1, 0⟩
def SEC_INT_STATUS_REVOKED : Fld := ⟨0xE00024, 2, 1, 0⟩
def SEC_INT_STATUS_OTP_WRITE : Fld := ⟨0xE00024, 3, 1, 0⟩
def SEC_INT_STATUS_MEAS_CHG : Fld := ⟨0xE00024, 4, 1, 0⟩
def SEC_INT_ENABLE_AUTH_FAIL : Fld := ⟨0xE00028, 0, 1, 0⟩
def SEC_INT_ENABLE_ROLLBACK : Fld := ⟨0xE00028, 1, 1, 0⟩
def SEC_INT_ENABLE_REVOKED : Fld := ⟨0xE00028, 2, 1, 0⟩
def SEC_INT_ENABLE_OTP_WRITE : Fld := ⟨0xE00028, 3, 1, 0⟩
def SEC_INT_ENABLE_MEAS_CHG : Fld := ⟨0xE00028, 4, 1, 0⟩
def WSK_CTRL_CLR_ERR : Fld := ⟨0xF00000, 0, 1, 0⟩
def WSK_STATUS_STAGING : Fld := ⟨0xF00004, 0, 1, 0⟩
def WSK_STATUS_FIXED_FULL : Fld := ⟨0xF00004, 1, 1, 0⟩
def WSK_STATUS_WRAPPED : Fld := ⟨0xF00004, 2, 1, 0⟩
def WSK_STATUS_STALE : Fld := ⟨0xF00004, 3, 1, 0⟩
def WSK_STATUS_LAST_ERR : Fld := ⟨0xF00004, 8, 8, 0⟩
def WSK_CFG_ACCESS : Fld := ⟨0xF00008, 0, 1, 0⟩
def WSK_CFG_GAUGES_EN : Fld := ⟨0xF00008, 1, 1, 1⟩
def WSK_CURSOR_PAGE (b : Nat) : Fld := ⟨bankOff b + 0xF0000C, 0, 8, 0⟩
def WSK_COMMIT_LO_NEXT_SEQ : Fld := ⟨0xF00010, 0, 32, 0⟩
def WSK_COMMIT_HI_HEAD : Fld := ⟨0xF00014, 0, 16, 0⟩
def WSK_COMMIT_HI_TAIL : Fld := ⟨0xF00014, 16, 16, 65535⟩
def WSK_LAST_SEQ_SEQ : Fld := ⟨0xF00018, 0, 32, 0⟩
def WSK_QUEUE_DEPTH : Fld := ⟨0xF0001C, 0, 9, 0⟩
def WSK_QUEUE_PEAK : Fld := ⟨0xF0001C, 16, 9, 0⟩
def WSK_QUEUE_STALE : Fld := ⟨0xF0001C, 31, 1, 0⟩
def WSK_INT_STATUS_RECORD : Fld := ⟨0xF00020, 0, 1, 0⟩
def WSK_INT_STATUS_ERROR_RECORD : Fld := ⟨0xF00020, 1, 1, 0⟩
def WSK_INT_STATUS_FIXED_FULL : Fld := ⟨0xF00020, 2, 1, 0⟩
def WSK_INT_STATUS_WRAPPED : Fld := ⟨0xF00020, 3, 1, 0⟩
def WSK_INT_STATUS_CLEARED : Fld := ⟨0xF00020, 4, 1, 0⟩
def WSK_INT_STATUS_REINIT : Fld := ⟨0xF00020, 5, 1, 0⟩
def WSK_INT_STATUS_QUEUE_WAIT : Fld := ⟨0xF00020, 6, 1, 0⟩
def WSK_INT_ENABLE_RECORD : Fld := ⟨0xF00024, 0, 1, 0⟩
def WSK_INT_ENABLE_ERROR_RECORD : Fld := ⟨0xF00024, 1, 1, 0⟩
def WSK_INT_ENABLE_FIXED_FULL : Fld := ⟨0xF00024, 2, 1, 0⟩
def WSK_INT_ENABLE_WRAPPED : Fld := ⟨0xF00024, 3, 1, 0⟩
def WSK_INT_ENABLE_CLEARED : Fld := ⟨0xF00024, 4, 1, 0⟩
def WSK_INT_ENABLE_REINIT : Fld := ⟨0xF00024, 5, 1, 0⟩
def WSK_INT_ENABLE_QUEUE_WAIT : Fld := ⟨0xF00024, 6, 1, 0⟩
def PWR_CTRL_CLR_ERR : Fld := ⟨0x1000000, 0, 1, 0⟩
def PWR_CTRL_NIGHT : Fld := ⟨0x1000000, 1, 1, 0⟩
def PWR_STATUS_STATE : Fld := ⟨0x1000004, 0, 3, 0⟩
def PWR_STATUS_STALE : Fld := ⟨0x1000004, 3, 1, 0⟩
def PWR_STATUS_PREP_STEP : Fld := ⟨0x1000004, 4, 3, 0⟩
def PWR_STATUS_LAST_ERR : Fld := ⟨0x1000004, 8, 8, 0⟩
def PWR_CFG_DUSK_EN : Fld := ⟨0x1000008, 0, 1, 1⟩
def PWR_CFG_ONLINE_ON_WAKE : Fld := ⟨0x1000008, 1, 1, 1⟩
def PWR_CFG_DUSK_IDLE : Fld := ⟨0x1000008, 8, 8, 16⟩
def PWR_CFG_DUSK_CMDS : Fld := ⟨0x1000008, 16, 16, 64⟩
def PWR_WAKE_EN_PIN : Fld := ⟨0x100000C, 0, 1, 1⟩
def PWR_WAKE_EN_STRING : Fld := ⟨0x100000C, 1, 1, 0⟩
def PWR_WAKE_EN_ALARM : Fld := ⟨0x100000C, 2, 1, 0⟩
def PWR_WAKE_EN_SMBUS : Fld := ⟨0x100000C, 3, 1, 0⟩
def PWR_WAKE_SRC_SRC : Fld := ⟨0x1000010, 0, 4, 0⟩
def PWR_WAKE_SRC_WAKES : Fld := ⟨0x1000010, 16, 16, 0⟩
def PWR_RET_STATUS_FAILED : Fld := ⟨0x1000014, 0, 24, 0⟩
def PWR_RET_STATUS_VALID : Fld := ⟨0x1000014, 31, 1, 0⟩
def PWR_RESET_CAUSE_POWER_ON : Fld := ⟨0x1000018, 0, 1, 1⟩
def PWR_RESET_CAUSE_RST_N : Fld := ⟨0x1000018, 1, 1, 0⟩
def PWR_RESET_CAUSE_WATCHDOG : Fld := ⟨0x1000018, 2, 1, 0⟩
def PWR_RESET_CAUSE_RESTART : Fld := ⟨0x1000018, 3, 1, 0⟩
def PWR_RESET_CAUSE_DUMP_RESET : Fld := ⟨0x1000018, 4, 1, 0⟩
def PWR_RESET_CAUSE_THERM_TRIP : Fld := ⟨0x1000018, 5, 1, 0⟩
def PWR_RESET_CAUSE_RET_RESTART : Fld := ⟨0x1000018, 6, 1, 0⟩
def PWR_TIMES_ENTRY_US : Fld := ⟨0x100001C, 0, 16, 0⟩
def PWR_TIMES_EXIT_US : Fld := ⟨0x100001C, 16, 16, 0⟩
def PWR_THERM_TJ : Fld := ⟨0x1000020, 0, 8, 0⟩
def PWR_THERM_TJ_MAX : Fld := ⟨0x1000020, 8, 8, 0⟩
def PWR_THERM_TRIPS : Fld := ⟨0x1000020, 16, 16, 0⟩
def PWR_INT_STATUS_DUSK_ENTER : Fld := ⟨0x1000024, 0, 1, 0⟩
def PWR_INT_STATUS_DUSK_EXIT : Fld := ⟨0x1000024, 1, 1, 0⟩
def PWR_INT_STATUS_WAKE : Fld := ⟨0x1000024, 2, 1, 0⟩
def PWR_INT_STATUS_RET_FAIL : Fld := ⟨0x1000024, 3, 1, 0⟩
def PWR_INT_STATUS_NIGHT_ABORT : Fld := ⟨0x1000024, 4, 1, 0⟩
def PWR_INT_STATUS_THERM_WARN : Fld := ⟨0x1000024, 5, 1, 0⟩
def PWR_INT_ENABLE_DUSK_ENTER : Fld := ⟨0x1000028, 0, 1, 0⟩
def PWR_INT_ENABLE_DUSK_EXIT : Fld := ⟨0x1000028, 1, 1, 0⟩
def PWR_INT_ENABLE_WAKE : Fld := ⟨0x1000028, 2, 1, 0⟩
def PWR_INT_ENABLE_RET_FAIL : Fld := ⟨0x1000028, 3, 1, 0⟩
def PWR_INT_ENABLE_NIGHT_ABORT : Fld := ⟨0x1000028, 4, 1, 0⟩
def PWR_INT_ENABLE_THERM_WARN : Fld := ⟨0x1000028, 5, 1, 0⟩
def MBX_CTRL_CLR_ERR (b : Nat) : Fld := ⟨bankOff b + 0x1100000, 0, 1, 0⟩
def MBX_CTRL_DOORBELL (b : Nat) : Fld := ⟨bankOff b + 0x1100000, 1, 1, 0⟩
def MBX_STATUS_BUSY (b : Nat) : Fld := ⟨bankOff b + 0x1100004, 0, 1, 0⟩
def MBX_STATUS_DONE (b : Nat) : Fld := ⟨bankOff b + 0x1100004, 1, 1, 0⟩
def MBX_STATUS_STALE (b : Nat) : Fld := ⟨bankOff b + 0x1100004, 2, 1, 0⟩
def MBX_STATUS_LAST_ERR (b : Nat) : Fld := ⟨bankOff b + 0x1100004, 8, 8, 0⟩
def MBX_STATUS_LAST_CODE (b : Nat) : Fld := ⟨bankOff b + 0x1100004, 16, 8, 0⟩
def MBX_INT_STATUS_DONE (b : Nat) : Fld := ⟨bankOff b + 0x1100008, 0, 1, 0⟩
def MBX_INT_STATUS_FAILED (b : Nat) : Fld := ⟨bankOff b + 0x1100008, 1, 1, 0⟩
def MBX_INT_ENABLE_DONE (b : Nat) : Fld := ⟨bankOff b + 0x110000C, 0, 1, 0⟩
def MBX_INT_ENABLE_FAILED (b : Nat) : Fld := ⟨bankOff b + 0x110000C, 1, 1, 0⟩

end R

/-- Register families of the GLB block. -/
def famsGLB0 : List RegFam := [
  ⟨0x0, 1, 0x0, 1, 0x0, false, fun _ _ =>
    [⟨R.GLB_ID_PART, .ro⟩, ⟨R.GLB_ID_REV, .ro⟩, ⟨R.GLB_ID_MAP_VER, .ro⟩]⟩,
  ⟨0x4, 1, 0x0, 1, 0x0, false, fun _ _ =>
    [⟨R.GLB_FW_NOLJO_VERSION, .ro⟩]⟩,
  ⟨0x8, 1, 0x0, 1, 0x0, false, fun _ _ =>
    [⟨R.GLB_CTRL_CLR_ERR, .wo⟩]⟩,
  ⟨0xC, 1, 0x0, 1, 0x0, false, fun _ _ =>
    [⟨R.GLB_STATUS_READY, .ro⟩, ⟨R.GLB_STATUS_SAFE, .ro⟩, ⟨R.GLB_STATUS_STALE, .ro⟩, ⟨R.GLB_STATUS_LAST_ERR, .ro⟩, ⟨R.GLB_STATUS_LINK, .ro⟩]⟩,
  ⟨0x10, 1, 0x0, 1, 0x0, false, fun _ _ =>
    [⟨R.GLB_SCRATCH_SCRATCH, .rw⟩]⟩,
  ⟨0x14, 1, 0x0, 1, 0x0, false, fun _ _ =>
    [⟨R.GLB_ERR_PARTIAL, .ro⟩, ⟨R.GLB_ERR_UNMAPPED, .ro⟩]⟩,
  ⟨0x18, 1, 0x0, 1, 0x0, false, fun _ _ =>
    [⟨R.GLB_SMBUS_ADDR, .ro⟩]⟩,
  ⟨0x20, 1, 0x0, 1, 0x0, false, fun _ _ =>
    [⟨R.GLB_INT_PEND_PEND, .ro⟩, ⟨R.GLB_INT_PEND_STALE, .ro⟩]⟩]

/-- Register families of the GLB block. -/
def famsGLB1 : List RegFam := [
  ⟨0x24, 1, 0x0, 1, 0x0, false, fun _ _ =>
    [⟨R.GLB_VEC_LVL_LO_LVL_LO, .ro⟩]⟩,
  ⟨0x28, 1, 0x0, 1, 0x0, false, fun _ _ =>
    [⟨R.GLB_VEC_LVL_HI_LVL_HI, .ro⟩]⟩,
  ⟨0x40, 25, 0x4, 1, 0x0, false, fun i _ =>
    [⟨R.GLB_INT_MAPs_VECTOR i, .rw⟩, ⟨R.GLB_INT_MAPs_ROUTE i, .rw⟩]⟩]

/-- Register families of the TET block. -/
def famsTET0 : List RegFam := [
  ⟨0x100000, 1, 0x0, 1, 0x0, false, fun _ _ =>
    [⟨R.TET_CTRL_SOURCE, .rwl⟩, ⟨R.TET_CTRL_ALT_SOURCE, .rwl⟩, ⟨R.TET_CTRL_AUTO_STEP, .rwl⟩, ⟨R.TET_CTRL_FORCE_STEP, .wo⟩, ⟨R.TET_CTRL_ACQUIRE, .wo⟩, ⟨R.TET_CTRL_CLR_ERR, .wo⟩]⟩,
  ⟨0x100004, 1, 0x0, 1, 0x0, false, fun _ _ =>
    [⟨R.TET_STATUS_STATE, .ro⟩, ⟨R.TET_STATUS_SRC_ACT, .ro⟩, ⟨R.TET_STATUS_TOD_VALID, .ro⟩, ⟨R.TET_STATUS_EVER_LOCKED, .ro⟩, ⟨R.TET_STATUS_TIME_FAULT, .ro⟩, ⟨R.TET_STATUS_STALE, .ro⟩, ⟨R.TET_STATUS_LAST_ERR, .ro⟩]⟩,
  ⟨0x100008, 1, 0x0, 1, 0x0, false, fun _ _ =>
    [⟨R.TET_EPOCH_LO_EPOCH_LO, .ro⟩]⟩,
  ⟨0x10000C, 1, 0x0, 1, 0x0, false, fun _ _ =>
    [⟨R.TET_EPOCH_HI_EPOCH_HI, .ro⟩, ⟨R.TET_EPOCH_HI_STALE, .ro⟩]⟩,
  ⟨0x100010, 1, 0x0, 1, 0x0, false, fun _ _ =>
    [⟨R.TET_PHASE_CYCLE, .ro⟩]⟩,
  ⟨0x100014, 1, 0x0, 1, 0x0, false, fun _ _ =>
    [⟨R.TET_OFFSET_OFFSET_NS, .ro⟩]⟩,
  ⟨0x100018, 1, 0x0, 1, 0x0, false, fun _ _ =>
    [⟨R.TET_SRC_CFG_PTP_DOMAIN, .rwl⟩, ⟨R.TET_SRC_CFG_PTP_TRANSPORT, .rwl⟩, ⟨R.TET_SRC_CFG_PTP_DELAY, .rwl⟩, ⟨R.TET_SRC_CFG_FP0_SUB, .rwl⟩]⟩,
  ⟨0x10001C, 1, 0x0, 1, 0x0, false, fun _ _ =>
    [⟨R.TET_LOCAL_UTC_OFS, .rwl⟩, ⟨R.TET_LOCAL_TAI_UTC, .rwl⟩]⟩]

/-- Register families of the TET block. -/
def famsTET1 : List RegFam := [
  ⟨0x100020, 1, 0x0, 1, 0x0, false, fun _ _ =>
    [⟨R.TET_LIMITS_HOLD_MAX, .rwl⟩, ⟨R.TET_LIMITS_STEP_LIMIT, .rwl⟩, ⟨R.TET_LIMITS_CRIT_FLOOR, .rwl⟩]⟩,
  ⟨0x100024, 1, 0x0, 1, 0x0, false, fun _ _ =>
    [⟨R.TET_TOD_LO_TOD_LO, .wo⟩]⟩,
  ⟨0x100028, 1, 0x0, 1, 0x0, false, fun _ _ =>
    [⟨R.TET_TOD_HI_TOD_HI, .wo⟩]⟩,
  ⟨0x10002C, 1, 0x0, 1, 0x0, false, fun _ _ =>
    [⟨R.TET_DAY_CUR_SLOT, .ro⟩, ⟨R.TET_DAY_CUR_FALLBACK, .ro⟩, ⟨R.TET_DAY_CUR_OVERRIDE, .ro⟩]⟩,
  ⟨0x100030, 1, 0x0, 1, 0x0, false, fun _ _ =>
    [⟨R.TET_DAY_OVR_SLOT, .rw⟩, ⟨R.TET_DAY_OVR_EN, .rw⟩]⟩,
  ⟨0x100034, 1, 0x0, 1, 0x0, false, fun _ _ =>
    [⟨R.TET_INT_STATUS_LOCKED, .w1c⟩, ⟨R.TET_INT_STATUS_HOLDOVER, .w1c⟩, ⟨R.TET_INT_STATUS_FREE_RUN, .w1c⟩, ⟨R.TET_INT_STATUS_TIME_FAULT, .w1c⟩, ⟨R.TET_INT_STATUS_SLOT_CHG, .w1c⟩, ⟨R.TET_INT_STATUS_STEPPED, .w1c⟩, ⟨R.TET_INT_STATUS_STEP_WAIT, .w1c⟩, ⟨R.TET_INT_STATUS_ALARM, .w1c⟩]⟩,
  ⟨0x100038, 1, 0x0, 1, 0x0, false, fun _ _ =>
    [⟨R.TET_INT_ENABLE_LOCKED, .rw⟩, ⟨R.TET_INT_ENABLE_HOLDOVER, .rw⟩, ⟨R.TET_INT_ENABLE_FREE_RUN, .rw⟩, ⟨R.TET_INT_ENABLE_TIME_FAULT, .rw⟩, ⟨R.TET_INT_ENABLE_SLOT_CHG, .rw⟩, ⟨R.TET_INT_ENABLE_STEPPED, .rw⟩, ⟨R.TET_INT_ENABLE_STEP_WAIT, .rw⟩, ⟨R.TET_INT_ENABLE_ALARM, .rw⟩]⟩,
  ⟨0x100040, 8, 0x10, 1, 0x0, false, fun i _ =>
    [⟨R.TET_ALARMn_CTRL_EN i, .rw⟩, ⟨R.TET_ALARMn_CTRL_T_INT i, .rw⟩, ⟨R.TET_ALARMn_CTRL_T_SPOOL i, .rw⟩, ⟨R.TET_ALARMn_CTRL_T_WAKE i, .rw⟩, ⟨R.TET_ALARMn_CTRL_PERIOD i, .rw⟩]⟩]

/-- Register families of the TET block. -/
def famsTET2 : List RegFam := [
  ⟨0x100044, 8, 0x10, 1, 0x0, false, fun i _ =>
    [⟨R.TET_ALARMn_EPOCH_LO_TARGET_LO i, .rw⟩]⟩,
  ⟨0x100048, 8, 0x10, 1, 0x0, false, fun i _ =>
    [⟨R.TET_ALARMn_EPOCH_HI_TARGET_HI i, .rw⟩]⟩,
  ⟨0x100400, 96, 0x4, 1, 0x0, false, fun i _ =>
    [⟨R.TET_DAYk_REBUILD i, .rwl⟩, ⟨R.TET_DAYk_PATROL i, .rwl⟩, ⟨R.TET_DAYk_DESTAGE i, .rwl⟩, ⟨R.TET_DAYk_COPYBACK i, .rwl⟩, ⟨R.TET_DAYk_IDLE_FILL i, .rwl⟩]⟩,
  ⟨0x100580, 1, 0x0, 1, 0x0, false, fun _ _ =>
    [⟨R.TET_DAY_FALLBACK_REBUILD, .rwl⟩, ⟨R.TET_DAY_FALLBACK_PATROL, .rwl⟩, ⟨R.TET_DAY_FALLBACK_DESTAGE, .rwl⟩, ⟨R.TET_DAY_FALLBACK_COPYBACK, .rwl⟩, ⟨R.TET_DAY_FALLBACK_IDLE_FILL, .rwl⟩]⟩]

/-- Register families of the STR block. -/
def famsSTR0 : List RegFam := [
  ⟨0x200000, 1, 0x0, 1, 0x0, false, fun _ _ =>
    [⟨R.STR_CTRL_AUTO_REBUILD, .rwl⟩, ⟨R.STR_CTRL_CLR_ERR, .wo⟩]⟩,
  ⟨0x200004, 1, 0x0, 1, 0x0, false, fun _ _ =>
    [⟨R.STR_STATUS_ARRAYS, .ro⟩, ⟨R.STR_STATUS_LAST_ERR, .ro⟩]⟩,
  ⟨0x200008, 1, 0x0, 1, 0x0, false, fun _ _ =>
    [⟨R.STR_ENG_STATUS_SLICE_OFF, .ro⟩, ⟨R.STR_ENG_STATUS_SLICE_BUSY, .ro⟩, ⟨R.STR_ENG_STATUS_FAULTS, .ro⟩]⟩,
  ⟨0x20000C, 1, 0x0, 1, 0x0, false, fun _ _ =>
    [⟨R.STR_INT_ARRAY_STATE_CHG, .w1c⟩, ⟨R.STR_INT_ARRAY_LOST_CHG, .w1c⟩]⟩,
  ⟨0x200010, 1, 0x0, 1, 0x0, false, fun _ _ =>
    [⟨R.STR_INT_ARRAY_EN_STATE_CHG, .rw⟩, ⟨R.STR_INT_ARRAY_EN_LOST_CHG, .rw⟩]⟩,
  ⟨0x200014, 1, 0x0, 1, 0x0, false, fun _ _ =>
    [⟨R.STR_INT_DEV_SLICE_FAIL, .w1c⟩, ⟨R.STR_INT_DEV_SPARE_TAKEN, .w1c⟩, ⟨R.STR_INT_DEV_NO_SPARE, .w1c⟩, ⟨R.STR_INT_DEV_LABEL_ERR, .w1c⟩, ⟨R.STR_INT_DEV_CREATE_FAIL, .w1c⟩]⟩,
  ⟨0x200018, 1, 0x0, 1, 0x0, false, fun _ _ =>
    [⟨R.STR_INT_DEV_EN_SLICE_FAIL, .rw⟩, ⟨R.STR_INT_DEV_EN_SPARE_TAKEN, .rw⟩, ⟨R.STR_INT_DEV_EN_NO_SPARE, .rw⟩, ⟨R.STR_INT_DEV_EN_LABEL_ERR, .rw⟩, ⟨R.STR_INT_DEV_EN_CREATE_FAIL, .rw⟩]⟩,
  ⟨0x20001C, 1, 0x0, 1, 0x0, false, fun _ _ =>
    [⟨R.STR_GFMUL_A, .rw⟩, ⟨R.STR_GFMUL_B, .rw⟩, ⟨R.STR_GFMUL_PRODUCT, .ro⟩]⟩]

/-- Register families of the STR block. -/
def famsSTR1 : List RegFam := [
  ⟨0x200020, 4, 0x4, 1, 0x0, false, fun i _ =>
    [⟨R.STR_ENG_CNTj_INPUT_4K i, .ro⟩]⟩,
  ⟨0x200040, 8, 0x4, 1, 0x0, false, fun i _ =>
    [⟨R.STR_SPAREk_PORT i, .rwl⟩, ⟨R.STR_SPAREk_SUB i, .rwl⟩, ⟨R.STR_SPAREk_META i, .rwl⟩, ⟨R.STR_SPAREk_VALID i, .rwl⟩, ⟨R.STR_SPAREk_SPARE_STATE i, .ro⟩, ⟨R.STR_SPAREk_ARRAY i, .ro⟩]⟩,
  ⟨0x201000, 16, 0x100, 1, 0x0, false, fun i _ =>
    [⟨R.STR_An_GEOM_MEMBERS i, .rwl⟩, ⟨R.STR_An_GEOM_STRIP i, .rwl⟩, ⟨R.STR_An_GEOM_META i, .rwl⟩, ⟨R.STR_An_GEOM_EN i, .rwl⟩]⟩,
  ⟨0x201004, 16, 0x100, 1, 0x0, false, fun i _ =>
    [⟨R.STR_An_STATUS_STATE i, .ro⟩, ⟨R.STR_An_STATUS_MISSING i, .ro⟩, ⟨R.STR_An_STATUS_REBUILD_ACT i, .ro⟩, ⟨R.STR_An_STATUS_UNVERIFIED i, .ro⟩, ⟨R.STR_An_STATUS_REASON i, .ro⟩, ⟨R.STR_An_STATUS_LOST_ANY i, .ro⟩]⟩,
  ⟨0x201008, 16, 0x100, 1, 0x0, false, fun i _ =>
    [⟨R.STR_An_STRIPES_LO_S_LO i, .ro⟩]⟩,
  ⟨0x20100C, 16, 0x100, 1, 0x0, false, fun i _ =>
    [⟨R.STR_An_STRIPES_HI_S_HI i, .ro⟩]⟩,
  ⟨0x201010, 16, 0x100, 1, 0x0, false, fun i _ =>
    [⟨R.STR_An_LOST_LOST i, .ro⟩]⟩,
  ⟨0x201014, 16, 0x100, 1, 0x0, false, fun i _ =>
    [⟨R.STR_An_MISSMAP_MISS i, .ro⟩]⟩]

/-- Register families of the STR block. -/
def famsSTR2 : List RegFam := [
  ⟨0x201018, 16, 0x100, 1, 0x0, false, fun i _ =>
    [⟨R.STR_An_NSCOUNT_NS i, .ro⟩]⟩,
  ⟨0x201040, 16, 0x100, 32, 0x4, false, fun i j =>
    [⟨R.STR_An_MEMBERk_PORT i j, .rwl⟩, ⟨R.STR_An_MEMBERk_SUB i j, .rwl⟩, ⟨R.STR_An_MEMBERk_VALID i j, .rwl⟩, ⟨R.STR_An_MEMBERk_MAPHOLD i j, .ro⟩, ⟨R.STR_An_MEMBERk_MISSING i j, .ro⟩]⟩,
  ⟨0x2010C0, 16, 0x100, 1, 0x0, false, fun i _ =>
    [⟨R.STR_An_POLICY_PATROL_FIX i, .rwl⟩, ⟨R.STR_An_POLICY_PATROL_EN i, .rwl⟩, ⟨R.STR_An_POLICY_CB_AUTO i, .rwl⟩, ⟨R.STR_An_POLICY_CB_MEDIA i, .rwl⟩, ⟨R.STR_An_POLICY_HEDGE_MS i, .rwl⟩, ⟨R.STR_An_POLICY_MEMBER_TMO i, .rwl⟩, ⟨R.STR_An_POLICY_MEDIA_LIMIT i, .rwl⟩]⟩,
  ⟨0x2010C4, 16, 0x100, 1, 0x0, false, fun i _ =>
    [⟨R.STR_An_RB0_WM_LO_WM_LO i, .ro⟩]⟩,
  ⟨0x2010C8, 16, 0x100, 1, 0x0, false, fun i _ =>
    [⟨R.STR_An_RB0_HI_WM_HI i, .ro⟩, ⟨R.STR_An_RB0_HI_END_HI i, .ro⟩, ⟨R.STR_An_RB0_HI_TARGET i, .ro⟩, ⟨R.STR_An_RB0_HI_RSTATE i, .ro⟩, ⟨R.STR_An_RB0_HI_JOINED i, .ro⟩, ⟨R.STR_An_RB0_HI_TWO_ERASE i, .ro⟩, ⟨R.STR_An_RB0_HI_SHORT i, .ro⟩]⟩,
  ⟨0x2010CC, 16, 0x100, 1, 0x0, false, fun i _ =>
    [⟨R.STR_An_RB1_WM_LO_WM_LO i, .ro⟩]⟩,
  ⟨0x2010D0, 16, 0x100, 1, 0x0, false, fun i _ =>
    [⟨R.STR_An_RB1_HI_WM_HI i, .ro⟩, ⟨R.STR_An_RB1_HI_END_HI i, .ro⟩, ⟨R.STR_An_RB1_HI_TARGET i, .ro⟩, ⟨R.STR_An_RB1_HI_RSTATE i, .ro⟩, ⟨R.STR_An_RB1_HI_JOINED i, .ro⟩, ⟨R.STR_An_RB1_HI_TWO_ERASE i, .ro⟩, ⟨R.STR_An_RB1_HI_SHORT i, .ro⟩]⟩,
  ⟨0x2010D4, 16, 0x100, 1, 0x0, false, fun i _ =>
    [⟨R.STR_An_RB_END_LO_END_LO i, .ro⟩]⟩]

/-- Register families of the STR block. -/
def famsSTR3 : List RegFam := [
  ⟨0x2010D8, 16, 0x100, 1, 0x0, false, fun i _ =>
    [⟨R.STR_An_CB_WM_LO_WM_LO i, .ro⟩]⟩,
  ⟨0x2010DC, 16, 0x100, 1, 0x0, false, fun i _ =>
    [⟨R.STR_An_CB_HI_WM_HI i, .ro⟩, ⟨R.STR_An_CB_HI_SOURCE i, .ro⟩, ⟨R.STR_An_CB_HI_DEST_PORT i, .ro⟩, ⟨R.STR_An_CB_HI_DEST_SUB i, .ro⟩, ⟨R.STR_An_CB_HI_CSTATE i, .ro⟩, ⟨R.STR_An_CB_HI_CAUSE i, .ro⟩]⟩,
  ⟨0x2010E0, 16, 0x100, 1, 0x0, false, fun i _ =>
    [⟨R.STR_An_RS_WM_LO_WM_LO i, .ro⟩]⟩,
  ⟨0x2010E4, 16, 0x100, 1, 0x0, false, fun i _ =>
    [⟨R.STR_An_RS_HI_WM_HI i, .ro⟩, ⟨R.STR_An_RS_HI_SCOPE i, .ro⟩, ⟨R.STR_An_RS_HI_ACTIVE i, .ro⟩]⟩,
  ⟨0x2010E8, 16, 0x100, 1, 0x0, false, fun i _ =>
    [⟨R.STR_An_PT_WM_LO_WM_LO i, .ro⟩]⟩,
  ⟨0x2010EC, 16, 0x100, 1, 0x0, false, fun i _ =>
    [⟨R.STR_An_PT_HI_WM_HI i, .ro⟩, ⟨R.STR_An_PT_HI_PSTATE i, .ro⟩, ⟨R.STR_An_PT_HI_CYCLES i, .ro⟩]⟩,
  ⟨0x2010F0, 16, 0x100, 1, 0x0, false, fun i _ =>
    [⟨R.STR_An_PT_FIX_DATA_FIXED i, .ro⟩, ⟨R.STR_An_PT_FIX_PARITY_FIXED i, .ro⟩]⟩,
  ⟨0x2010F4, 16, 0x100, 1, 0x0, false, fun i _ =>
    [⟨R.STR_An_PT_MULTI_MULTI i, .ro⟩, ⟨R.STR_An_PT_MULTI_UNFIXED i, .ro⟩]⟩]

/-- Register families of the STR block. -/
def famsSTR4 : List RegFam := [
  ⟨0x2010F8, 16, 0x100, 1, 0x0, false, fun i _ =>
    [⟨R.STR_An_REPAIR_READ_REPAIRED i, .ro⟩, ⟨R.STR_An_REPAIR_HEDGED i, .ro⟩]⟩,
  ⟨0x2010FC, 16, 0x100, 1, 0x0, false, fun i _ =>
    [⟨R.STR_An_MEDIA_WARN_WARN i, .ro⟩]⟩]

/-- Register families of the GON block. -/
def famsGON0 : List RegFam := [
  ⟨0x300000, 1, 0x0, 1, 0x0, false, fun _ _ =>
    [⟨R.GON_CTRL_TAIL_EN, .rwl⟩, ⟨R.GON_CTRL_FORCE_TAIL, .wo⟩, ⟨R.GON_CTRL_CLR_ERR, .wo⟩]⟩,
  ⟨0x300004, 1, 0x0, 1, 0x0, false, fun _ _ =>
    [⟨R.GON_STATUS_MRAM_OK, .ro⟩, ⟨R.GON_STATUS_CLEAN_START, .ro⟩, ⟨R.GON_STATUS_EVIDENCE, .ro⟩, ⟨R.GON_STATUS_REPLAY_ACT, .ro⟩, ⟨R.GON_STATUS_STALE, .ro⟩, ⟨R.GON_STATUS_LAST_ERR, .ro⟩]⟩,
  ⟨0x300008, 1, 0x0, 1, 0x0, false, fun _ _ =>
    [⟨R.GON_SEQ_LO_SEQ_LO, .ro⟩]⟩,
  ⟨0x30000C, 1, 0x0, 1, 0x0, false, fun _ _ =>
    [⟨R.GON_SEQ_HI_SEQ_HI, .ro⟩]⟩,
  ⟨0x300010, 1, 0x0, 1, 0x0, false, fun _ _ =>
    [⟨R.GON_RING_FREE_FREE, .ro⟩]⟩,
  ⟨0x300014, 1, 0x0, 1, 0x0, false, fun _ _ =>
    [⟨R.GON_RING_CFG_RING_LOW, .rwl⟩]⟩,
  ⟨0x300018, 1, 0x0, 1, 0x0, false, fun _ _ =>
    [⟨R.GON_OPEN_OPEN, .ro⟩]⟩,
  ⟨0x30001C, 1, 0x0, 1, 0x0, false, fun _ _ =>
    [⟨R.GON_INT_STATUS_RING_LOW, .w1c⟩, ⟨R.GON_INT_STATUS_CARRY, .w1c⟩, ⟨R.GON_INT_STATUS_TAIL_FAIL, .w1c⟩, ⟨R.GON_INT_STATUS_MRAM_CE, .w1c⟩, ⟨R.GON_INT_STATUS_MRAM_UE, .w1c⟩, ⟨R.GON_INT_STATUS_REPLAY_LOSS, .w1c⟩]⟩]

/-- Register families of the GON block. -/
def famsGON1 : List RegFam := [
  ⟨0x300020, 1, 0x0, 1, 0x0, false, fun _ _ =>
    [⟨R.GON_INT_ENABLE_RING_LOW, .rw⟩, ⟨R.GON_INT_ENABLE_CARRY, .rw⟩, ⟨R.GON_INT_ENABLE_TAIL_FAIL, .rw⟩, ⟨R.GON_INT_ENABLE_MRAM_CE, .rw⟩, ⟨R.GON_INT_ENABLE_MRAM_UE, .rw⟩, ⟨R.GON_INT_ENABLE_REPLAY_LOSS, .rw⟩]⟩,
  ⟨0x300024, 1, 0x0, 1, 0x0, false, fun _ _ =>
    [⟨R.GON_TAIL_CKPT_NUM, .ro⟩]⟩,
  ⟨0x300028, 1, 0x0, 1, 0x0, false, fun _ _ =>
    [⟨R.GON_MRAM_ERR_CE, .ro⟩, ⟨R.GON_MRAM_ERR_UE, .ro⟩]⟩,
  ⟨0x300030, 1, 0x0, 1, 0x0, false, fun _ _ =>
    [⟨R.GON_REPLAY0_RECORDS, .ro⟩]⟩,
  ⟨0x300034, 1, 0x0, 1, 0x0, false, fun _ _ =>
    [⟨R.GON_REPLAY1_REPAIRED, .ro⟩, ⟨R.GON_REPLAY1_LOST, .ro⟩]⟩,
  ⟨0x300038, 1, 0x0, 1, 0x0, false, fun _ _ =>
    [⟨R.GON_REPLAY2_REINSERTED, .ro⟩]⟩]

/-- Register families of the ENV block. -/
def famsENV0 : List RegFam := [
  ⟨0x400000, 1, 0x0, 1, 0x0, false, fun _ _ =>
    [⟨R.ENV_CTRL_CLR_ERR, .wo⟩]⟩,
  ⟨0x400004, 1, 0x0, 1, 0x0, false, fun _ _ =>
    [⟨R.ENV_STATUS_MODE, .ro⟩, ⟨R.ENV_STATUS_SCRATCH, .ro⟩, ⟨R.ENV_STATUS_INIT, .ro⟩, ⟨R.ENV_STATUS_MAINT_BUSY, .ro⟩, ⟨R.ENV_STATUS_STALE, .ro⟩, ⟨R.ENV_STATUS_LAST_ERR, .ro⟩, ⟨R.ENV_STATUS_RET_FAIL, .ro⟩]⟩,
  ⟨0x400008, 1, 0x0, 1, 0x0, false, fun _ _ =>
    [⟨R.ENV_CFG_OFFER, .rwl⟩, ⟨R.ENV_CFG_SKIRT_EN, .rwl⟩, ⟨R.ENV_CFG_DIRTY_MAX, .rwl⟩]⟩,
  ⟨0x40000C, 1, 0x0, 1, 0x0, false, fun _ _ =>
    [⟨R.ENV_SKIRT_CFG_DEPTH, .rwl⟩, ⟨R.ENV_SKIRT_CFG_STREAMS, .rwl⟩, ⟨R.ENV_SKIRT_CFG_WINDOW, .rwl⟩, ⟨R.ENV_SKIRT_CFG_PREF_RECON, .rwl⟩]⟩,
  ⟨0x400010, 1, 0x0, 1, 0x0, false, fun _ _ =>
    [⟨R.ENV_DISABLE_DISABLE, .rw⟩, ⟨R.ENV_DISABLE_CLEAN_FIRST, .wo⟩]⟩,
  ⟨0x400014, 1, 0x0, 1, 0x0, false, fun _ _ =>
    [⟨R.ENV_MAINT_OP, .rw⟩, ⟨R.ENV_MAINT_FORM, .rw⟩, ⟨R.ENV_MAINT_ALL_SETS, .rw⟩, ⟨R.ENV_MAINT_COUNT, .rw⟩, ⟨R.ENV_MAINT_START, .wo⟩]⟩,
  ⟨0x400018, 1, 0x0, 1, 0x0, false, fun _ _ =>
    [⟨R.ENV_MAINT_KEY_LO_KEY_LO, .rw⟩]⟩,
  ⟨0x40001C, 1, 0x0, 1, 0x0, false, fun _ _ =>
    [⟨R.ENV_MAINT_KEY_HI_KEY_HI, .rw⟩]⟩]

/-- Register families of the ENV block. -/
def famsENV1 : List RegFam := [
  ⟨0x400020, 1, 0x0, 1, 0x0, false, fun _ _ =>
    [⟨R.ENV_MAINT_RES_CLEANED, .ro⟩, ⟨R.ENV_MAINT_RES_SKIPPED, .ro⟩]⟩,
  ⟨0x400024, 1, 0x0, 1, 0x0, false, fun _ _ =>
    [⟨R.ENV_OCC_VALID, .ro⟩, ⟨R.ENV_OCC_DIRTY, .ro⟩, ⟨R.ENV_OCC_STALE, .ro⟩]⟩,
  ⟨0x400028, 1, 0x0, 1, 0x0, false, fun _ _ =>
    [⟨R.ENV_OCC2_SKIRT, .ro⟩, ⟨R.ENV_OCC2_EVB, .ro⟩, ⟨R.ENV_OCC2_STALE, .ro⟩]⟩,
  ⟨0x40002C, 1, 0x0, 1, 0x0, false, fun _ _ =>
    [⟨R.ENV_INT_STATUS_MAINT_DONE, .w1c⟩, ⟨R.ENV_INT_STATUS_DISABLE_DONE, .w1c⟩, ⟨R.ENV_INT_STATUS_ECC_CE, .w1c⟩, ⟨R.ENV_INT_STATUS_ECC_UE, .w1c⟩, ⟨R.ENV_INT_STATUS_RET_FAIL, .w1c⟩, ⟨R.ENV_INT_STATUS_WIN_OFF, .w1c⟩, ⟨R.ENV_INT_STATUS_EVB_FULL, .w1c⟩]⟩,
  ⟨0x400030, 1, 0x0, 1, 0x0, false, fun _ _ =>
    [⟨R.ENV_INT_ENABLE_MAINT_DONE, .rw⟩, ⟨R.ENV_INT_ENABLE_DISABLE_DONE, .rw⟩, ⟨R.ENV_INT_ENABLE_ECC_CE, .rw⟩, ⟨R.ENV_INT_ENABLE_ECC_UE, .rw⟩, ⟨R.ENV_INT_ENABLE_RET_FAIL, .rw⟩, ⟨R.ENV_INT_ENABLE_WIN_OFF, .rw⟩, ⟨R.ENV_INT_ENABLE_EVB_FULL, .rw⟩]⟩,
  ⟨0x400034, 1, 0x0, 1, 0x0, false, fun _ _ =>
    [⟨R.ENV_ECC_CE, .ro⟩, ⟨R.ENV_ECC_UE, .ro⟩]⟩,
  ⟨0x400040, 8, 0x4, 1, 0x0, false, fun i _ =>
    [⟨R.ENV_CNTj_COUNT i, .ro⟩]⟩]

/-- Register families of the BSK block. -/
def famsBSK0 : List RegFam := [
  ⟨0x500000, 1, 0x0, 1, 0x0, false, fun _ _ =>
    [⟨R.BSK_CTRL_CLR_ERR, .wo⟩, ⟨R.BSK_CTRL_SCRUB_NOW, .wo⟩]⟩,
  ⟨0x500004, 1, 0x0, 1, 0x0, false, fun _ _ =>
    [⟨R.BSK_STATUS_MODE, .ro⟩, ⟨R.BSK_STATUS_RETAINED, .ro⟩, ⟨R.BSK_STATUS_HALF, .ro⟩, ⟨R.BSK_STATUS_LAYOUT_HELD, .ro⟩, ⟨R.BSK_STATUS_STALE, .ro⟩, ⟨R.BSK_STATUS_LAST_ERR, .ro⟩, ⟨R.BSK_STATUS_WT_CAUSE, .ro⟩]⟩,
  ⟨0x500008, 1, 0x0, 1, 0x0, false, fun _ _ =>
    [⟨R.BSK_POP_CHANNELS, .rwl⟩, ⟨R.BSK_POP_RANKS, .rwl⟩, ⟨R.BSK_POP_DENSITY, .rwl⟩, ⟨R.BSK_POP_RL, .rwl⟩, ⟨R.BSK_POP_CONSERVATIVE, .ro⟩]⟩,
  ⟨0x50000C, 1, 0x0, 1, 0x0, false, fun _ _ =>
    [⟨R.BSK_LAYOUT_WS_UNITS, .rwl⟩, ⟨R.BSK_LAYOUT_USER_UNITS, .rwl⟩, ⟨R.BSK_LAYOUT_WS_ACT, .ro⟩]⟩,
  ⟨0x500010, 1, 0x0, 1, 0x0, false, fun _ _ =>
    [⟨R.BSK_DIRTY_CFG_LIMIT_GIB, .rwl⟩, ⟨R.BSK_DIRTY_CFG_HWM_PCT, .rwl⟩, ⟨R.BSK_DIRTY_CFG_DELAY, .rwl⟩, ⟨R.BSK_DIRTY_CFG_CLEAN_MAX_GIB, .rwl⟩]⟩,
  ⟨0x500014, 1, 0x0, 1, 0x0, false, fun _ _ =>
    [⟨R.BSK_DIRTY_DIRTY_PAGES, .ro⟩, ⟨R.BSK_DIRTY_CLEAN_UNITS, .ro⟩, ⟨R.BSK_DIRTY_STALE, .ro⟩]⟩,
  ⟨0x500018, 1, 0x0, 1, 0x0, false, fun _ _ =>
    [⟨R.BSK_SCRUB_HOURS, .rwl⟩, ⟨R.BSK_SCRUB_PASSES, .ro⟩]⟩,
  ⟨0x50001C, 1, 0x0, 1, 0x0, false, fun _ _ =>
    [⟨R.BSK_INT_STATUS_ECC_CE, .w1c⟩, ⟨R.BSK_INT_STATUS_ECC_UE, .w1c⟩, ⟨R.BSK_INT_STATUS_LANE_FAIL, .w1c⟩, ⟨R.BSK_INT_STATUS_CH_FAIL, .w1c⟩, ⟨R.BSK_INT_STATUS_WT_ENTER, .w1c⟩, ⟨R.BSK_INT_STATUS_HWM, .w1c⟩, ⟨R.BSK_INT_STATUS_LIMIT, .w1c⟩, ⟨R.BSK_INT_STATUS_NOT_RETAINED, .w1c⟩, ⟨R.BSK_INT_STATUS_SCRUB_DONE, .w1c⟩]⟩]

/-- Register families of the BSK block. -/
def famsBSK1 : List RegFam := [
  ⟨0x500020, 1, 0x0, 1, 0x0, false, fun _ _ =>
    [⟨R.BSK_INT_ENABLE_ECC_CE, .rw⟩, ⟨R.BSK_INT_ENABLE_ECC_UE, .rw⟩, ⟨R.BSK_INT_ENABLE_LANE_FAIL, .rw⟩, ⟨R.BSK_INT_ENABLE_CH_FAIL, .rw⟩, ⟨R.BSK_INT_ENABLE_WT_ENTER, .rw⟩, ⟨R.BSK_INT_ENABLE_HWM, .rw⟩, ⟨R.BSK_INT_ENABLE_LIMIT, .rw⟩, ⟨R.BSK_INT_ENABLE_NOT_RETAINED, .rw⟩, ⟨R.BSK_INT_ENABLE_SCRUB_DONE, .rw⟩]⟩,
  ⟨0x500024, 1, 0x0, 1, 0x0, false, fun _ _ =>
    [⟨R.BSK_ECC_CE, .ro⟩, ⟨R.BSK_ECC_UE, .ro⟩]⟩,
  ⟨0x500028, 1, 0x0, 1, 0x0, false, fun _ _ =>
    [⟨R.BSK_UE_ADDR_PAGE, .ro⟩, ⟨R.BSK_UE_ADDR_CHANNEL, .ro⟩, ⟨R.BSK_UE_ADDR_REGION, .ro⟩, ⟨R.BSK_UE_ADDR_VALID, .ro⟩]⟩,
  ⟨0x500040, 16, 0x4, 1, 0x0, false, fun i _ =>
    [⟨R.BSK_CHc_LANE i, .ro⟩, ⟨R.BSK_CHc_TRAIN_OK i, .ro⟩, ⟨R.BSK_CHc_FAILED i, .ro⟩, ⟨R.BSK_CHc_CE i, .ro⟩]⟩]

/-- Register families of the BAL block. -/
def famsBAL0 : List RegFam := [
  ⟨0x600000, 1, 0x0, 1, 0x0, false, fun _ _ =>
    [⟨R.BAL_CTRL_CLR_ERR, .wo⟩, ⟨R.BAL_CTRL_DISCARD, .wo⟩]⟩,
  ⟨0x600004, 1, 0x0, 1, 0x0, false, fun _ _ =>
    [⟨R.BAL_STATUS_STATE, .ro⟩, ⟨R.BAL_STATUS_VAULT0, .ro⟩, ⟨R.BAL_STATUS_VAULT1, .ro⟩, ⟨R.BAL_STATUS_STALE, .ro⟩, ⟨R.BAL_STATUS_LAST_ERR, .ro⟩, ⟨R.BAL_STATUS_REASON, .ro⟩]⟩,
  ⟨0x600008, 1, 0x0, 1, 0x0, false, fun _ _ =>
    [⟨R.BAL_CFG_EN, .rwl⟩, ⟨R.BAL_CFG_MODE, .rwl⟩, ⟨R.BAL_CFG_HOLDUP_MS, .rwl⟩]⟩,
  ⟨0x60000C, 1, 0x0, 1, 0x0, false, fun _ _ =>
    [⟨R.BAL_NEED_NEED_MS, .ro⟩]⟩,
  ⟨0x600010, 1, 0x0, 1, 0x0, false, fun _ _ =>
    [⟨R.BAL_SEQ_DUMP_SEQ, .ro⟩]⟩,
  ⟨0x600014, 1, 0x0, 1, 0x0, false, fun _ _ =>
    [⟨R.BAL_LAST_DUMP_MS, .ro⟩, ⟨R.BAL_LAST_RESTORE_MS, .ro⟩]⟩,
  ⟨0x600018, 1, 0x0, 1, 0x0, false, fun _ _ =>
    [⟨R.BAL_LAST_PAGES_PAGES, .ro⟩, ⟨R.BAL_LAST_PAGES_PARTIAL, .ro⟩]⟩,
  ⟨0x60001C, 1, 0x0, 1, 0x0, false, fun _ _ =>
    [⟨R.BAL_INT_STATUS_ARMED, .w1c⟩, ⟨R.BAL_INT_STATUS_DISARMED, .w1c⟩, ⟨R.BAL_INT_STATUS_RESTORED, .w1c⟩, ⟨R.BAL_INT_STATUS_RESTORE_LOSS, .w1c⟩, ⟨R.BAL_INT_STATUS_VAULT_ERR, .w1c⟩, ⟨R.BAL_INT_STATUS_HELD, .w1c⟩]⟩]

/-- Register families of the BAL block. -/
def famsBAL1 : List RegFam := [
  ⟨0x600020, 1, 0x0, 1, 0x0, false, fun _ _ =>
    [⟨R.BAL_INT_ENABLE_ARMED, .rw⟩, ⟨R.BAL_INT_ENABLE_DISARMED, .rw⟩, ⟨R.BAL_INT_ENABLE_RESTORED, .rw⟩, ⟨R.BAL_INT_ENABLE_RESTORE_LOSS, .rw⟩, ⟨R.BAL_INT_ENABLE_VAULT_ERR, .rw⟩, ⟨R.BAL_INT_ENABLE_HELD, .rw⟩]⟩]

/-- Register families of the HPT block. -/
def famsHPT0 : List RegFam := [
  ⟨0x700000, 1, 0x0, 1, 0x0, false, fun _ _ =>
    [⟨R.HPT_CTRL_CLR_ERR, .wo⟩]⟩,
  ⟨0x700004, 1, 0x0, 1, 0x0, false, fun _ _ =>
    [⟨R.HPT_STATUS_STALE, .ro⟩, ⟨R.HPT_STATUS_LAST_ERR, .ro⟩]⟩,
  ⟨0x700008, 1, 0x0, 1, 0x0, false, fun _ _ =>
    [⟨R.HPT_ID_DEVICE, .ro⟩, ⟨R.HPT_ID_REV, .ro⟩]⟩,
  ⟨0x700010, 2, 0x10, 1, 0x0, false, fun i _ =>
    [⟨R.HPT_Pn_CFG_BIF i, .rwl⟩, ⟨R.HPT_Pn_CFG_MAX_SPEED i, .rwl⟩, ⟨R.HPT_Pn_CFG_L0P_EN i, .rwl⟩, ⟨R.HPT_Pn_CFG_L1_EN i, .rwl⟩]⟩,
  ⟨0x700014, 2, 0x10, 1, 0x0, false, fun i _ =>
    [⟨R.HPT_Pn_LINK_UP0 i, .ro⟩, ⟨R.HPT_Pn_LINK_SPEED0 i, .ro⟩, ⟨R.HPT_Pn_LINK_WIDTH0 i, .ro⟩, ⟨R.HPT_Pn_LINK_FLIT0 i, .ro⟩, ⟨R.HPT_Pn_LINK_UP1 i, .ro⟩, ⟨R.HPT_Pn_LINK_SPEED1 i, .ro⟩, ⟨R.HPT_Pn_LINK_WIDTH1 i, .ro⟩, ⟨R.HPT_Pn_LINK_FLIT1 i, .ro⟩, ⟨R.HPT_Pn_LINK_STALE i, .ro⟩]⟩,
  ⟨0x700018, 2, 0x10, 1, 0x0, false, fun i _ =>
    [⟨R.HPT_Pn_ERR_CORR i, .ro⟩, ⟨R.HPT_Pn_ERR_UNCORR i, .ro⟩]⟩,
  ⟨0x70001C, 2, 0x10, 1, 0x0, false, fun i _ =>
    [⟨R.HPT_Pn_CNT_LINK_DOWN i, .ro⟩, ⟨R.HPT_Pn_CNT_PERST i, .ro⟩]⟩,
  ⟨0x700030, 1, 0x0, 1, 0x0, false, fun _ _ =>
    [⟨R.HPT_INT_STATUS_LINK_UP 0, .w1c⟩, ⟨R.HPT_INT_STATUS_LINK_UP 1, .w1c⟩, ⟨R.HPT_INT_STATUS_LINK_DOWN 0, .w1c⟩, ⟨R.HPT_INT_STATUS_LINK_DOWN 1, .w1c⟩, ⟨R.HPT_INT_STATUS_PERST 0, .w1c⟩, ⟨R.HPT_INT_STATUS_PERST 1, .w1c⟩, ⟨R.HPT_INT_STATUS_UNCORR 0, .w1c⟩, ⟨R.HPT_INT_STATUS_UNCORR 1, .w1c⟩, ⟨R.HPT_INT_STATUS_DEGRADED 0, .w1c⟩, ⟨R.HPT_INT_STATUS_DEGRADED 1, .w1c⟩]⟩]

/-- Register families of the HPT block. -/
def famsHPT1 : List RegFam := [
  ⟨0x700034, 1, 0x0, 1, 0x0, false, fun _ _ =>
    [⟨R.HPT_INT_ENABLE_LINK_UP 0, .rw⟩, ⟨R.HPT_INT_ENABLE_LINK_UP 1, .rw⟩, ⟨R.HPT_INT_ENABLE_LINK_DOWN 0, .rw⟩, ⟨R.HPT_INT_ENABLE_LINK_DOWN 1, .rw⟩, ⟨R.HPT_INT_ENABLE_PERST 0, .rw⟩, ⟨R.HPT_INT_ENABLE_PERST 1, .rw⟩, ⟨R.HPT_INT_ENABLE_UNCORR 0, .rw⟩, ⟨R.HPT_INT_ENABLE_UNCORR 1, .rw⟩, ⟨R.HPT_INT_ENABLE_DEGRADED 0, .rw⟩, ⟨R.HPT_INT_ENABLE_DEGRADED 1, .rw⟩]⟩]

/-- Register families of the HPT_CE block. -/
def famsHPTCE0 : List RegFam := [
  ⟨0x708000, 1, 0x0, 1, 0x0, false, fun _ _ =>
    [⟨R.HPT_CE_CTRL_CLR_ERR, .wo⟩]⟩,
  ⟨0x708004, 1, 0x0, 1, 0x0, false, fun _ _ =>
    [⟨R.HPT_CE_STATUS_FETCH_STOPPED, .ro⟩, ⟨R.HPT_CE_STATUS_SANITIZING, .ro⟩, ⟨R.HPT_CE_STATUS_STALE, .ro⟩, ⟨R.HPT_CE_STATUS_LAST_ERR, .ro⟩]⟩,
  ⟨0x708008, 1, 0x0, 1, 0x0, false, fun _ _ =>
    [⟨R.HPT_CE_POOL_CFG_RSV_DEFAULT, .rwl⟩, ⟨R.HPT_CE_POOL_CFG_Q_CAP, .rwl⟩]⟩,
  ⟨0x70800C, 1, 0x0, 1, 0x0, false, fun _ _ =>
    [⟨R.HPT_CE_POOL_FLOOR_SHARED_FLOOR, .rwl⟩, ⟨R.HPT_CE_POOL_FLOOR_LOW_MARK, .rwl⟩]⟩,
  ⟨0x708010, 1, 0x0, 1, 0x0, false, fun _ _ =>
    [⟨R.HPT_CE_POOL_USE_IN_USE, .ro⟩, ⟨R.HPT_CE_POOL_USE_RESERVED, .ro⟩, ⟨R.HPT_CE_POOL_USE_STALE, .ro⟩]⟩,
  ⟨0x708014, 1, 0x0, 1, 0x0, false, fun _ _ =>
    [⟨R.HPT_CE_WAIT0_BASKET, .ro⟩, ⟨R.HPT_CE_WAIT0_SPAR, .ro⟩, ⟨R.HPT_CE_WAIT0_STALE, .ro⟩]⟩,
  ⟨0x708018, 1, 0x0, 1, 0x0, false, fun _ _ =>
    [⟨R.HPT_CE_WAIT1_DRIVE, .ro⟩, ⟨R.HPT_CE_WAIT1_LOCK, .ro⟩, ⟨R.HPT_CE_WAIT1_STALE, .ro⟩]⟩,
  ⟨0x70801C, 1, 0x0, 1, 0x0, false, fun _ _ =>
    [⟨R.HPT_CE_WAIT2_RING, .ro⟩, ⟨R.HPT_CE_WAIT2_ORDERED, .ro⟩, ⟨R.HPT_CE_WAIT2_STALE, .ro⟩]⟩]

/-- Register families of the HPT_CE block. -/
def famsHPTCE1 : List RegFam := [
  ⟨0x708020, 1, 0x0, 1, 0x0, false, fun _ _ =>
    [⟨R.HPT_CE_INT_STATUS_POOL_LOW, .w1c⟩, ⟨R.HPT_CE_INT_STATUS_SQ_THROTTLE, .w1c⟩, ⟨R.HPT_CE_INT_STATUS_RNR, .w1c⟩, ⟨R.HPT_CE_INT_STATUS_ACT_START, .w1c⟩, ⟨R.HPT_CE_INT_STATUS_ACT_DONE, .w1c⟩, ⟨R.HPT_CE_INT_STATUS_ACT_FAIL, .w1c⟩, ⟨R.HPT_CE_INT_STATUS_FORMAT_DONE, .w1c⟩, ⟨R.HPT_CE_INT_STATUS_SANITIZE_DONE, .w1c⟩, ⟨R.HPT_CE_INT_STATUS_SANITIZE_FAIL, .w1c⟩, ⟨R.HPT_CE_INT_STATUS_QUEUE_REFUSED, .w1c⟩]⟩,
  ⟨0x708024, 1, 0x0, 1, 0x0, false, fun _ _ =>
    [⟨R.HPT_CE_INT_ENABLE_POOL_LOW, .rw⟩, ⟨R.HPT_CE_INT_ENABLE_SQ_THROTTLE, .rw⟩, ⟨R.HPT_CE_INT_ENABLE_RNR, .rw⟩, ⟨R.HPT_CE_INT_ENABLE_ACT_START, .rw⟩, ⟨R.HPT_CE_INT_ENABLE_ACT_DONE, .rw⟩, ⟨R.HPT_CE_INT_ENABLE_ACT_FAIL, .rw⟩, ⟨R.HPT_CE_INT_ENABLE_FORMAT_DONE, .rw⟩, ⟨R.HPT_CE_INT_ENABLE_SANITIZE_DONE, .rw⟩, ⟨R.HPT_CE_INT_ENABLE_SANITIZE_FAIL, .rw⟩, ⟨R.HPT_CE_INT_ENABLE_QUEUE_REFUSED, .rw⟩]⟩,
  ⟨0x708028, 1, 0x0, 1, 0x0, false, fun _ _ =>
    [⟨R.HPT_CE_ACT_PHASE, .ro⟩, ⟨R.HPT_CE_ACT_PAIR_WAIT, .ro⟩, ⟨R.HPT_CE_ACT_LAST_STATUS, .ro⟩, ⟨R.HPT_CE_ACT_LAST_PAUSE_MS, .ro⟩]⟩,
  ⟨0x70802C, 1, 0x0, 1, 0x0, false, fun _ _ =>
    [⟨R.HPT_CE_SANI_SSTAT, .ro⟩, ⟨R.HPT_CE_SANI_ACTION, .ro⟩, ⟨R.HPT_CE_SANI_SPROG, .ro⟩]⟩,
  ⟨0x708030, 1, 0x0, 1, 0x0, false, fun _ _ =>
    [⟨R.HPT_CE_CNT_THROTTLE_EPOCHS, .ro⟩]⟩,
  ⟨0x708034, 1, 0x0, 1, 0x0, false, fun _ _ =>
    [⟨R.HPT_CE_CNT_RNR_RNR, .ro⟩]⟩,
  ⟨0x708038, 1, 0x0, 1, 0x0, false, fun _ _ =>
    [⟨R.HPT_CE_CNT_ABORT_ABORTS, .ro⟩]⟩,
  ⟨0x70803C, 1, 0x0, 1, 0x0, false, fun _ _ =>
    [⟨R.HPT_CE_CNT_ORDERED_ORDERED, .ro⟩]⟩]

/-- Register families of the FAB block. -/
def famsFAB0 : List RegFam := [
  ⟨0x800000, 1, 0x0, 1, 0x0, false, fun _ _ =>
    [⟨R.FAB_CTRL_CLR_ERR, .wo⟩]⟩,
  ⟨0x800004, 1, 0x0, 1, 0x0, false, fun _ _ =>
    [⟨R.FAB_STATUS_STALE, .ro⟩, ⟨R.FAB_STATUS_LAST_ERR, .ro⟩]⟩,
  ⟨0x800008, 1, 0x0, 1, 0x0, false, fun _ _ =>
    [⟨R.FAB_CFG_ACL_MODE, .rwl⟩, ⟨R.FAB_CFG_REFERRALS, .rwl⟩]⟩,
  ⟨0x80000C, 1, 0x0, 1, 0x0, false, fun _ _ =>
    [⟨R.FAB_CC_CUT, .rwl⟩, ⟨R.FAB_CC_RECOVER, .rwl⟩, ⟨R.FAB_CC_STEP, .rwl⟩, ⟨R.FAB_CC_CNP_GAP, .rwl⟩]⟩,
  ⟨0x800010, 1, 0x0, 1, 0x0, false, fun _ _ =>
    [⟨R.FAB_QP_QPS, .ro⟩, ⟨R.FAB_QP_CTRLS, .ro⟩, ⟨R.FAB_QP_STALE, .ro⟩]⟩,
  ⟨0x800014, 1, 0x0, 1, 0x0, false, fun _ _ =>
    [⟨R.FAB_INT_STATUS_LINK_UP 0, .w1c⟩, ⟨R.FAB_INT_STATUS_LINK_UP 1, .w1c⟩, ⟨R.FAB_INT_STATUS_LINK_UP 2, .w1c⟩, ⟨R.FAB_INT_STATUS_LINK_UP 3, .w1c⟩, ⟨R.FAB_INT_STATUS_LINK_DOWN 0, .w1c⟩, ⟨R.FAB_INT_STATUS_LINK_DOWN 1, .w1c⟩, ⟨R.FAB_INT_STATUS_LINK_DOWN 2, .w1c⟩, ⟨R.FAB_INT_STATUS_LINK_DOWN 3, .w1c⟩, ⟨R.FAB_INT_STATUS_FEC_UE 0, .w1c⟩, ⟨R.FAB_INT_STATUS_FEC_UE 1, .w1c⟩, ⟨R.FAB_INT_STATUS_FEC_UE 2, .w1c⟩, ⟨R.FAB_INT_STATUS_FEC_UE 3, .w1c⟩, ⟨R.FAB_INT_STATUS_PFC_STORM 0, .w1c⟩, ⟨R.FAB_INT_STATUS_PFC_STORM 1, .w1c⟩, ⟨R.FAB_INT_STATUS_PFC_STORM 2, .w1c⟩, ⟨R.FAB_INT_STATUS_PFC_STORM 3, .w1c⟩, ⟨R.FAB_INT_STATUS_ACL_REJECT, .w1c⟩, ⟨R.FAB_INT_STATUS_DISC_CHG, .w1c⟩, ⟨R.FAB_INT_STATUS_QP_ERROR, .w1c⟩]⟩,
  ⟨0x800018, 1, 0x0, 1, 0x0, false, fun _ _ =>
    [⟨R.FAB_INT_ENABLE_LINK_UP 0, .rw⟩, ⟨R.FAB_INT_ENABLE_LINK_UP 1, .rw⟩, ⟨R.FAB_INT_ENABLE_LINK_UP 2, .rw⟩, ⟨R.FAB_INT_ENABLE_LINK_UP 3, .rw⟩, ⟨R.FAB_INT_ENABLE_LINK_DOWN 0, .rw⟩, ⟨R.FAB_INT_ENABLE_LINK_DOWN 1, .rw⟩, ⟨R.FAB_INT_ENABLE_LINK_DOWN 2, .rw⟩, ⟨R.FAB_INT_ENABLE_LINK_DOWN 3, .rw⟩, ⟨R.FAB_INT_ENABLE_FEC_UE 0, .rw⟩, ⟨R.FAB_INT_ENABLE_FEC_UE 1, .rw⟩, ⟨R.FAB_INT_ENABLE_FEC_UE 2, .rw⟩, ⟨R.FAB_INT_ENABLE_FEC_UE 3, .rw⟩, ⟨R.FAB_INT_ENABLE_PFC_STORM 0, .rw⟩, ⟨R.FAB_INT_ENABLE_PFC_STORM 1, .rw⟩, ⟨R.FAB_INT_ENABLE_PFC_STORM 2, .rw⟩, ⟨R.FAB_INT_ENABLE_PFC_STORM 3, .rw⟩, ⟨R.FAB_INT_ENABLE_ACL_REJECT, .rw⟩, ⟨R.FAB_INT_ENABLE_DISC_CHG, .rw⟩, ⟨R.FAB_INT_ENABLE_QP_ERROR, .rw⟩]⟩,
  ⟨0x800100, 4, 0x40, 1, 0x0, false, fun i _ =>
    [⟨R.FAB_Pp_CFG_BREAKOUT i, .rwl⟩, ⟨R.FAB_Pp_CFG_MEDIA i, .rwl⟩, ⟨R.FAB_Pp_CFG_ECN_EN i, .rwl⟩, ⟨R.FAB_Pp_CFG_ROCE_PRIO i, .rwl⟩, ⟨R.FAB_Pp_CFG_PFC_MASK i, .rwl⟩, ⟨R.FAB_Pp_CFG_CABLE_M i, .rwl⟩]⟩]

/-- Register families of the FAB block. -/
def famsFAB1 : List RegFam := [
  ⟨0x800104, 4, 0x40, 1, 0x0, false, fun i _ =>
    [⟨R.FAB_Pp_LINK_UP i, .ro⟩, ⟨R.FAB_Pp_LINK_LFAULT i, .ro⟩, ⟨R.FAB_Pp_LINK_RFAULT i, .ro⟩, ⟨R.FAB_Pp_LINK_PAUSED i, .ro⟩, ⟨R.FAB_Pp_LINK_STALE i, .ro⟩]⟩,
  ⟨0x800108, 4, 0x40, 1, 0x0, false, fun i _ =>
    [⟨R.FAB_Pp_PFC_HEADROOM i, .ro⟩, ⟨R.FAB_Pp_PFC_XOFF i, .ro⟩]⟩,
  ⟨0x80010C, 4, 0x40, 1, 0x0, false, fun i _ =>
    [⟨R.FAB_Pp_FEC_CE_CE i, .ro⟩]⟩,
  ⟨0x800110, 4, 0x40, 1, 0x0, false, fun i _ =>
    [⟨R.FAB_Pp_FEC_UE_UE i, .ro⟩]⟩,
  ⟨0x800114, 4, 0x40, 1, 0x0, false, fun i _ =>
    [⟨R.FAB_Pp_PAUSE_TX_EPOCHS i, .ro⟩]⟩,
  ⟨0x800118, 4, 0x40, 1, 0x0, false, fun i _ =>
    [⟨R.FAB_Pp_PAUSE_RX_EPOCHS i, .ro⟩]⟩,
  ⟨0x80011C, 4, 0x40, 1, 0x0, false, fun i _ =>
    [⟨R.FAB_Pp_CNP_TX i, .ro⟩, ⟨R.FAB_Pp_CNP_RX i, .ro⟩]⟩]

/-- Register families of the DRV block. -/
def famsDRV0 : List RegFam := [
  ⟨0x900000, 1, 0x0, 1, 0x0, false, fun _ _ =>
    [⟨R.DRV_CTRL_CLR_ERR, .wo⟩]⟩,
  ⟨0x900004, 1, 0x0, 1, 0x0, false, fun _ _ =>
    [⟨R.DRV_STATUS_STALE, .ro⟩, ⟨R.DRV_STATUS_LAST_ERR, .ro⟩]⟩,
  ⟨0x900010, 1, 0x0, 1, 0x0, false, fun _ _ =>
    [⟨R.DRV_INT_ADD_PORTS, .w1c⟩]⟩,
  ⟨0x900014, 1, 0x0, 1, 0x0, false, fun _ _ =>
    [⟨R.DRV_INT_REMOVE_PORTS, .w1c⟩]⟩,
  ⟨0x900018, 1, 0x0, 1, 0x0, false, fun _ _ =>
    [⟨R.DRV_INT_LINK_PORTS, .w1c⟩]⟩,
  ⟨0x90001C, 1, 0x0, 1, 0x0, false, fun _ _ =>
    [⟨R.DRV_INT_FENCE_PORTS, .w1c⟩]⟩,
  ⟨0x900030, 1, 0x0, 1, 0x0, false, fun _ _ =>
    [⟨R.DRV_INT_ADD_EN_PORTS, .rw⟩]⟩,
  ⟨0x900034, 1, 0x0, 1, 0x0, false, fun _ _ =>
    [⟨R.DRV_INT_REMOVE_EN_PORTS, .rw⟩]⟩]

/-- Register families of the DRV block. -/
def famsDRV1 : List RegFam := [
  ⟨0x900038, 1, 0x0, 1, 0x0, false, fun _ _ =>
    [⟨R.DRV_INT_LINK_EN_PORTS, .rw⟩]⟩,
  ⟨0x90003C, 1, 0x0, 1, 0x0, false, fun _ _ =>
    [⟨R.DRV_INT_FENCE_EN_PORTS, .rw⟩]⟩,
  ⟨0x900100, 32, 0x10, 1, 0x0, false, fun i _ =>
    [⟨R.DRV_Pp_CFG_BIF i, .rwl⟩, ⟨R.DRV_Pp_CFG_MAX_SPEED i, .rwl⟩, ⟨R.DRV_Pp_CFG_L1SS_EN i, .rwl⟩]⟩,
  ⟨0x900104, 32, 0x10, 1, 0x0, false, fun i _ =>
    [⟨R.DRV_Pp_S0_PRESENT i, .ro⟩, ⟨R.DRV_Pp_S0_POWERED i, .ro⟩, ⟨R.DRV_Pp_S0_LINK_UP i, .ro⟩, ⟨R.DRV_Pp_S0_SPEED i, .ro⟩, ⟨R.DRV_Pp_S0_WIDTH i, .ro⟩, ⟨R.DRV_Pp_S0_USE i, .ro⟩, ⟨R.DRV_Pp_S0_NOFENCE i, .ro⟩, ⟨R.DRV_Pp_S0_DEGRADED_LINK i, .ro⟩, ⟨R.DRV_Pp_S0_LINK_FAIL i, .ro⟩, ⟨R.DRV_Pp_S0_STALE i, .ro⟩]⟩,
  ⟨0x900108, 32, 0x10, 1, 0x0, false, fun i _ =>
    [⟨R.DRV_Pp_S1_PRESENT i, .ro⟩, ⟨R.DRV_Pp_S1_POWERED i, .ro⟩, ⟨R.DRV_Pp_S1_LINK_UP i, .ro⟩, ⟨R.DRV_Pp_S1_SPEED i, .ro⟩, ⟨R.DRV_Pp_S1_WIDTH i, .ro⟩, ⟨R.DRV_Pp_S1_USE i, .ro⟩, ⟨R.DRV_Pp_S1_NOFENCE i, .ro⟩, ⟨R.DRV_Pp_S1_DEGRADED_LINK i, .ro⟩, ⟨R.DRV_Pp_S1_LINK_FAIL i, .ro⟩, ⟨R.DRV_Pp_S1_STALE i, .ro⟩]⟩,
  ⟨0x90010C, 32, 0x10, 1, 0x0, false, fun i _ =>
    [⟨R.DRV_Pp_CTRL_ATTN0 i, .rw⟩, ⟨R.DRV_Pp_CTRL_ATTN1 i, .rw⟩, ⟨R.DRV_Pp_CTRL_OFF0 i, .wo⟩, ⟨R.DRV_Pp_CTRL_OFF1 i, .wo⟩, ⟨R.DRV_Pp_CTRL_ON0 i, .wo⟩, ⟨R.DRV_Pp_CTRL_ON1 i, .wo⟩]⟩,
  ⟨0x900300, 2, 0x4, 1, 0x0, false, fun i _ =>
    [⟨R.DRV_BPn_PRESENT i, .ro⟩, ⟨R.DRV_BPn_POWERED i, .ro⟩, ⟨R.DRV_BPn_LINK_UP i, .ro⟩, ⟨R.DRV_BPn_SPEED i, .ro⟩, ⟨R.DRV_BPn_WIDTH i, .ro⟩, ⟨R.DRV_BPn_USE i, .ro⟩, ⟨R.DRV_BPn_NOFENCE i, .ro⟩, ⟨R.DRV_BPn_DEGRADED_LINK i, .ro⟩, ⟨R.DRV_BPn_LINK_FAIL i, .ro⟩, ⟨R.DRV_BPn_STALE i, .ro⟩]⟩]

/-- Register families of the SPL block. -/
def famsSPL0 : List RegFam := [
  ⟨0xA00000, 1, 0x0, 1, 0x0, false, fun _ _ =>
    [⟨R.SPL_CTRL_CLR_ERR, .wo⟩]⟩,
  ⟨0xA00004, 1, 0x0, 1, 0x0, false, fun _ _ =>
    [⟨R.SPL_STATUS_RUNNING, .ro⟩, ⟨R.SPL_STATUS_STALE, .ro⟩, ⟨R.SPL_STATUS_LAST_ERR, .ro⟩, ⟨R.SPL_STATUS_WAITING, .ro⟩]⟩,
  ⟨0xA00008, 1, 0x0, 1, 0x0, false, fun _ _ =>
    [⟨R.SPL_CFG_HOST_MASK, .rwl⟩]⟩,
  ⟨0xA00010, 1, 0x0, 1, 0x0, false, fun _ _ =>
    [⟨R.SPL_INT_DONE_LO_DONE, .w1c⟩]⟩,
  ⟨0xA00014, 1, 0x0, 1, 0x0, false, fun _ _ =>
    [⟨R.SPL_INT_DONE_HI_DONE, .w1c⟩]⟩,
  ⟨0xA00018, 1, 0x0, 1, 0x0, false, fun _ _ =>
    [⟨R.SPL_INT_ERR_LO_ERR, .w1c⟩]⟩,
  ⟨0xA0001C, 1, 0x0, 1, 0x0, false, fun _ _ =>
    [⟨R.SPL_INT_ERR_HI_ERR, .w1c⟩]⟩,
  ⟨0xA00020, 1, 0x0, 1, 0x0, false, fun _ _ =>
    [⟨R.SPL_INT_DONE_LO_EN_DONE, .rw⟩]⟩]

/-- Register families of the SPL block. -/
def famsSPL1 : List RegFam := [
  ⟨0xA00024, 1, 0x0, 1, 0x0, false, fun _ _ =>
    [⟨R.SPL_INT_DONE_HI_EN_DONE, .rw⟩]⟩,
  ⟨0xA00028, 1, 0x0, 1, 0x0, false, fun _ _ =>
    [⟨R.SPL_INT_ERR_LO_EN_ERR, .rw⟩]⟩,
  ⟨0xA0002C, 1, 0x0, 1, 0x0, false, fun _ _ =>
    [⟨R.SPL_INT_ERR_HI_EN_ERR, .rw⟩]⟩,
  ⟨0xA00040, 16, 0x4, 1, 0x0, false, fun i _ =>
    [⟨R.SPL_TMRk_PERIOD i, .rw⟩, ⟨R.SPL_TMRk_ALIGN i, .rw⟩]⟩,
  ⟨0xA01000, 64, 0x40, 1, 0x0, false, fun i _ =>
    [⟨R.SPL_CHc_CTRL_START i, .wo⟩, ⟨R.SPL_CHc_CTRL_STOP i, .wo⟩, ⟨R.SPL_CHc_CTRL_RESUME i, .wo⟩, ⟨R.SPL_CHc_CTRL_ABORT i, .wo⟩]⟩,
  ⟨0xA01004, 64, 0x40, 1, 0x0, false, fun i _ =>
    [⟨R.SPL_CHc_CFG_PRIO i, .rw⟩, ⟨R.SPL_CHc_CFG_TRIG_SRC i, .rw⟩, ⟨R.SPL_CHc_CFG_TRIG_SEL i, .rw⟩]⟩,
  ⟨0xA01008, 64, 0x40, 1, 0x0, false, fun i _ =>
    [⟨R.SPL_CHc_LIMIT_CHAIN_LIMIT i, .rw⟩]⟩,
  ⟨0xA0100C, 64, 0x40, 1, 0x0, false, fun i _ =>
    [⟨R.SPL_CHc_STATUS_STATE i, .ro⟩, ⟨R.SPL_CHc_STATUS_STATUS i, .ro⟩, ⟨R.SPL_CHc_STATUS_PENDING i, .ro⟩, ⟨R.SPL_CHc_STATUS_DEVICE i, .ro⟩, ⟨R.SPL_CHc_STATUS_MISSED i, .ro⟩, ⟨R.SPL_CHc_STATUS_STALE i, .ro⟩]⟩]

/-- Register families of the SPL block. -/
def famsSPL2 : List RegFam := [
  ⟨0xA01010, 64, 0x40, 1, 0x0, false, fun i _ =>
    [⟨R.SPL_CHc_DESC_LO_SPACE i, .rw⟩, ⟨R.SPL_CHc_DESC_LO_ADDR_LO i, .rw⟩]⟩,
  ⟨0xA01014, 64, 0x40, 1, 0x0, false, fun i _ =>
    [⟨R.SPL_CHc_DESC_HI_ADDR_HI i, .rw⟩]⟩,
  ⟨0xA01018, 64, 0x40, 1, 0x0, false, fun i _ =>
    [⟨R.SPL_CHc_COMPL_LO_SPACE i, .rw⟩, ⟨R.SPL_CHc_COMPL_LO_ADDR_LO i, .rw⟩]⟩,
  ⟨0xA0101C, 64, 0x40, 1, 0x0, false, fun i _ =>
    [⟨R.SPL_CHc_COMPL_HI_ADDR_HI i, .rw⟩]⟩,
  ⟨0xA01020, 64, 0x40, 1, 0x0, false, fun i _ =>
    [⟨R.SPL_CHc_DONE_DESC_COUNT i, .ro⟩]⟩,
  ⟨0xA01024, 64, 0x40, 1, 0x0, false, fun i _ =>
    [⟨R.SPL_CHc_BYTES_BYTES i, .ro⟩]⟩,
  ⟨0xA01028, 64, 0x40, 1, 0x0, false, fun i _ =>
    [⟨R.SPL_CHc_ERR_ADDR_LO_ADDR_LO i, .ro⟩]⟩,
  ⟨0xA0102C, 64, 0x40, 1, 0x0, false, fun i _ =>
    [⟨R.SPL_CHc_ERR_ADDR_HI_ADDR_HI i, .ro⟩]⟩]

/-- Register families of the SPL block. -/
def famsSPL3 : List RegFam := [
  ⟨0xA01030, 64, 0x40, 1, 0x0, false, fun i _ =>
    [⟨R.SPL_CHc_ERR_INFO_SPACE i, .ro⟩, ⟨R.SPL_CHc_ERR_INFO_DIR i, .ro⟩, ⟨R.SPL_CHc_ERR_INFO_CAUSE i, .ro⟩, ⟨R.SPL_CHc_ERR_INFO_VALID i, .ro⟩]⟩]

/-- Register families of the STG block. -/
def famsSTG0 : List RegFam := [
  ⟨0xB00000, 1, 0x0, 1, 0x0, false, fun _ _ =>
    [⟨R.STG_CTRL_CLR_ERR, .wo⟩, ⟨R.STG_CTRL_REELECT, .wo⟩]⟩,
  ⟨0xB00004, 1, 0x0, 1, 0x0, false, fun _ _ =>
    [⟨R.STG_STATUS_STATE, .ro⟩, ⟨R.STG_STATUS_REEL, .ro⟩, ⟨R.STG_STATUS_WRAPPED, .ro⟩, ⟨R.STG_STATUS_GEN_BEHIND, .ro⟩, ⟨R.STG_STATUS_STALE, .ro⟩, ⟨R.STG_STATUS_LAST_ERR, .ro⟩, ⟨R.STG_STATUS_REFUSE, .ro⟩]⟩,
  ⟨0xB00008, 1, 0x0, 1, 0x0, false, fun _ _ =>
    [⟨R.STG_CFG_EN, .rwl⟩, ⟨R.STG_CFG_REEL_PRIO, .rwl⟩]⟩,
  ⟨0xB0000C, 1, 0x0, 1, 0x0, false, fun _ _ =>
    [⟨R.STG_ID_UNIT, .rwl⟩, ⟨R.STG_ID_SLOT, .rwl⟩]⟩,
  ⟨0xB00010, 1, 0x0, 1, 0x0, false, fun _ _ =>
    [⟨R.STG_STRING_ID_STRING_ID, .rwl⟩]⟩,
  ⟨0xB00014, 1, 0x0, 1, 0x0, false, fun _ _ =>
    [⟨R.STG_RING_POS, .ro⟩, ⟨R.STG_RING_SIZE, .ro⟩, ⟨R.STG_RING_STALE, .ro⟩]⟩,
  ⟨0xB00018, 1, 0x0, 1, 0x0, false, fun _ _ =>
    [⟨R.STG_REEL_REEL_UNIT, .ro⟩, ⟨R.STG_REEL_HOPS, .ro⟩, ⟨R.STG_REEL_DIR, .ro⟩, ⟨R.STG_REEL_STALE, .ro⟩]⟩,
  ⟨0xB0001C, 1, 0x0, 1, 0x0, false, fun _ _ =>
    [⟨R.STG_COLLECT_DEPTH, .ro⟩, ⟨R.STG_COLLECT_PEAK, .ro⟩, ⟨R.STG_COLLECT_STALE, .ro⟩]⟩]

/-- Register families of the STG block. -/
def famsSTG1 : List RegFam := [
  ⟨0xB00020, 1, 0x0, 1, 0x0, false, fun _ _ =>
    [⟨R.STG_PORT_W_LINK, .ro⟩, ⟨R.STG_PORT_W_LOCK, .ro⟩, ⟨R.STG_PORT_W_INVERT, .ro⟩, ⟨R.STG_PORT_W_DELAY_NS, .ro⟩, ⟨R.STG_PORT_W_STALE, .ro⟩]⟩,
  ⟨0xB00024, 1, 0x0, 1, 0x0, false, fun _ _ =>
    [⟨R.STG_PORT_E_LINK, .ro⟩, ⟨R.STG_PORT_E_LOCK, .ro⟩, ⟨R.STG_PORT_E_INVERT, .ro⟩, ⟨R.STG_PORT_E_DELAY_NS, .ro⟩, ⟨R.STG_PORT_E_STALE, .ro⟩]⟩,
  ⟨0xB00028, 1, 0x0, 1, 0x0, false, fun _ _ =>
    [⟨R.STG_ERR_W_CRC, .ro⟩, ⟨R.STG_ERR_W_DOWN, .ro⟩]⟩,
  ⟨0xB0002C, 1, 0x0, 1, 0x0, false, fun _ _ =>
    [⟨R.STG_ERR_E_CRC, .ro⟩, ⟨R.STG_ERR_E_DOWN, .ro⟩]⟩,
  ⟨0xB00030, 1, 0x0, 1, 0x0, false, fun _ _ =>
    [⟨R.STG_INT_STATUS_JOINED, .w1c⟩, ⟨R.STG_INT_STATUS_REFUSED, .w1c⟩, ⟨R.STG_INT_STATUS_WRAP, .w1c⟩, ⟨R.STG_INT_STATUS_UNWRAP, .w1c⟩, ⟨R.STG_INT_STATUS_REEL_LOST, .w1c⟩, ⟨R.STG_INT_STATUS_REEL_CHG, .w1c⟩, ⟨R.STG_INT_STATUS_GEN_APPLIED, .w1c⟩, ⟨R.STG_INT_STATUS_GEN_REJECTED, .w1c⟩, ⟨R.STG_INT_STATUS_DIR_CHG, .w1c⟩, ⟨R.STG_INT_STATUS_FOREIGN, .w1c⟩]⟩,
  ⟨0xB00034, 1, 0x0, 1, 0x0, false, fun _ _ =>
    [⟨R.STG_INT_ENABLE_JOINED, .rw⟩, ⟨R.STG_INT_ENABLE_REFUSED, .rw⟩, ⟨R.STG_INT_ENABLE_WRAP, .rw⟩, ⟨R.STG_INT_ENABLE_UNWRAP, .rw⟩, ⟨R.STG_INT_ENABLE_REEL_LOST, .rw⟩, ⟨R.STG_INT_ENABLE_REEL_CHG, .rw⟩, ⟨R.STG_INT_ENABLE_GEN_APPLIED, .rw⟩, ⟨R.STG_INT_ENABLE_GEN_REJECTED, .rw⟩, ⟨R.STG_INT_ENABLE_DIR_CHG, .rw⟩, ⟨R.STG_INT_ENABLE_FOREIGN, .rw⟩]⟩,
  ⟨0xB00038, 1, 0x0, 1, 0x0, false, fun _ _ =>
    [⟨R.STG_WAKE_TARGET, .wo⟩, ⟨R.STG_WAKE_SEND, .wo⟩]⟩]

/-- Register families of the SPR block. -/
def famsSPR0 : List RegFam := [
  ⟨0xC00000, 1, 0x0, 1, 0x0, false, fun _ _ =>
    [⟨R.SPR_CTRL_CLR_ERR, .wo⟩, ⟨R.SPR_CTRL_REARM, .wo⟩]⟩,
  ⟨0xC00004, 1, 0x0, 1, 0x0, false, fun _ _ =>
    [⟨R.SPR_STATUS_STATE, .ro⟩, ⟨R.SPR_STATUS_READY, .ro⟩, ⟨R.SPR_STATUS_FLAPPING, .ro⟩, ⟨R.SPR_STATUS_CLAIM_LOST, .ro⟩, ⟨R.SPR_STATUS_STALE, .ro⟩, ⟨R.SPR_STATUS_LAST_ERR, .ro⟩, ⟨R.SPR_STATUS_REASON, .ro⟩]⟩,
  ⟨0xC00008, 1, 0x0, 1, 0x0, false, fun _ _ =>
    [⟨R.SPR_CFG_EN, .rwl⟩, ⟨R.SPR_CFG_HOME, .rwl⟩, ⟨R.SPR_CFG_AUTO_BACK, .rwl⟩, ⟨R.SPR_CFG_HOLDOFF_S, .rwl⟩, ⟨R.SPR_CFG_PEER_UNIT, .rwl⟩]⟩,
  ⟨0xC0000C, 1, 0x0, 1, 0x0, false, fun _ _ =>
    [⟨R.SPR_TIMING_DETECT_EPOCHS, .rwl⟩, ⟨R.SPR_TIMING_SOLO_WAIT, .rwl⟩, ⟨R.SPR_TIMING_FLAP_MIN, .rwl⟩, ⟨R.SPR_TIMING_PEER_WAIT_S, .rwl⟩]⟩,
  ⟨0xC00010, 1, 0x0, 1, 0x0, false, fun _ _ =>
    [⟨R.SPR_CLAIM_LO_CLAIM_LO, .ro⟩]⟩,
  ⟨0xC00014, 1, 0x0, 1, 0x0, false, fun _ _ =>
    [⟨R.SPR_CLAIM_HI_CLAIM_HI, .ro⟩]⟩,
  ⟨0xC00018, 1, 0x0, 1, 0x0, false, fun _ _ =>
    [⟨R.SPR_PEER_CLAIM_LO_CLAIM_LO, .ro⟩]⟩,
  ⟨0xC0001C, 1, 0x0, 1, 0x0, false, fun _ _ =>
    [⟨R.SPR_PEER_CLAIM_HI_CLAIM_HI, .ro⟩]⟩]

/-- Register families of the SPR block. -/
def famsSPR1 : List RegFam := [
  ⟨0xC00020, 1, 0x0, 1, 0x0, false, fun _ _ =>
    [⟨R.SPR_HEALTH_LO_HEALTH_LO, .ro⟩]⟩,
  ⟨0xC00024, 1, 0x0, 1, 0x0, false, fun _ _ =>
    [⟨R.SPR_HEALTH_HI_HEALTH_HI, .ro⟩]⟩,
  ⟨0xC00028, 1, 0x0, 1, 0x0, false, fun _ _ =>
    [⟨R.SPR_LINK_LANES, .ro⟩, ⟨R.SPR_LINK_UP, .ro⟩, ⟨R.SPR_LINK_STALE, .ro⟩, ⟨R.SPR_LINK_CAP_GBS, .ro⟩, ⟨R.SPR_LINK_CRC, .ro⟩]⟩,
  ⟨0xC0002C, 1, 0x0, 1, 0x0, false, fun _ _ =>
    [⟨R.SPR_MIRROR_CONFIRMED, .ro⟩]⟩,
  ⟨0xC00030, 1, 0x0, 1, 0x0, false, fun _ _ =>
    [⟨R.SPR_SYNC_PCT, .ro⟩, ⟨R.SPR_SYNC_STALE, .ro⟩]⟩,
  ⟨0xC00034, 1, 0x0, 1, 0x0, false, fun _ _ =>
    [⟨R.SPR_INT_STATUS_TAKEOVER, .w1c⟩, ⟨R.SPR_INT_STATUS_FENCED, .w1c⟩, ⟨R.SPR_INT_STATUS_HANDBACK, .w1c⟩, ⟨R.SPR_INT_STATUS_SPAR_DOWN, .w1c⟩, ⟨R.SPR_INT_STATUS_SPAR_UP, .w1c⟩, ⟨R.SPR_INT_STATUS_SYNCED, .w1c⟩, ⟨R.SPR_INT_STATUS_PEER_NOT_READY, .w1c⟩, ⟨R.SPR_INT_STATUS_SPLIT, .w1c⟩, ⟨R.SPR_INT_STATUS_SEPARATED, .w1c⟩, ⟨R.SPR_INT_STATUS_FLAPPING, .w1c⟩, ⟨R.SPR_INT_STATUS_DEGRADED_LINK, .w1c⟩]⟩,
  ⟨0xC00038, 1, 0x0, 1, 0x0, false, fun _ _ =>
    [⟨R.SPR_INT_ENABLE_TAKEOVER, .rw⟩, ⟨R.SPR_INT_ENABLE_FENCED, .rw⟩, ⟨R.SPR_INT_ENABLE_HANDBACK, .rw⟩, ⟨R.SPR_INT_ENABLE_SPAR_DOWN, .rw⟩, ⟨R.SPR_INT_ENABLE_SPAR_UP, .rw⟩, ⟨R.SPR_INT_ENABLE_SYNCED, .rw⟩, ⟨R.SPR_INT_ENABLE_PEER_NOT_READY, .rw⟩, ⟨R.SPR_INT_ENABLE_SPLIT, .rw⟩, ⟨R.SPR_INT_ENABLE_SEPARATED, .rw⟩, ⟨R.SPR_INT_ENABLE_FLAPPING, .rw⟩, ⟨R.SPR_INT_ENABLE_DEGRADED_LINK, .rw⟩]⟩,
  ⟨0xC0003C, 1, 0x0, 1, 0x0, false, fun _ _ =>
    [⟨R.SPR_CNT_TAKEOVERS, .ro⟩, ⟨R.SPR_CNT_HANDBACKS, .ro⟩]⟩]

/-- Register families of the SPR block. -/
def famsSPR2 : List RegFam := [
  ⟨0xC00040, 1, 0x0, 1, 0x0, false, fun _ _ =>
    [⟨R.SPR_LAST_TAKEOVER_EPOCHS, .ro⟩]⟩]

/-- Register families of the DWN block. -/
def famsDWN0 : List RegFam := [
  ⟨0xD00000, 1, 0x0, 1, 0x0, false, fun _ _ =>
    [⟨R.DWN_CTRL_CLR_ERR, .wo⟩, ⟨R.DWN_CTRL_CLEAR_FAILS, .wo⟩, ⟨R.DWN_CTRL_RESTART, .wo⟩]⟩,
  ⟨0xD00004, 1, 0x0, 1, 0x0, false, fun _ _ =>
    [⟨R.DWN_STATUS_STEP, .ro⟩, ⟨R.DWN_STATUS_RUNNING, .ro⟩, ⟨R.DWN_STATUS_SAFE, .ro⟩, ⟨R.DWN_STATUS_STALE, .ro⟩, ⟨R.DWN_STATUS_LAST_ERR, .ro⟩, ⟨R.DWN_STATUS_IMAGE_SLOT, .ro⟩, ⟨R.DWN_STATUS_CFG_SRC, .ro⟩, ⟨R.DWN_STATUS_CONFIG_OLDER, .ro⟩]⟩,
  ⟨0xD00008, 1, 0x0, 1, 0x0, false, fun _ _ =>
    [⟨R.DWN_CFG_LOCK_WAIT_S, .rwl⟩, ⟨R.DWN_CFG_DRIVE_WAIT_S, .rwl⟩]⟩,
  ⟨0xD0000C, 1, 0x0, 1, 0x0, false, fun _ _ =>
    [⟨R.DWN_START_START_NO, .ro⟩]⟩,
  ⟨0xD00010, 1, 0x0, 1, 0x0, false, fun _ _ =>
    [⟨R.DWN_FAIL_STEP, .ro⟩, ⟨R.DWN_FAIL_DETAIL, .ro⟩]⟩,
  ⟨0xD00014, 1, 0x0, 1, 0x0, false, fun _ _ =>
    [⟨R.DWN_FAILMASK_FAILED, .ro⟩]⟩,
  ⟨0xD00018, 1, 0x0, 1, 0x0, false, fun _ _ =>
    [⟨R.DWN_ALTMASK_ALT, .ro⟩]⟩,
  ⟨0xD0001C, 1, 0x0, 1, 0x0, false, fun _ _ =>
    [⟨R.DWN_TIME_S11_MS, .ro⟩, ⟨R.DWN_TIME_S17_100MS, .ro⟩]⟩]

/-- Register families of the DWN block. -/
def famsDWN1 : List RegFam := [
  ⟨0xD00020, 1, 0x0, 1, 0x0, false, fun _ _ =>
    [⟨R.DWN_GEN_LO_GEN_LO, .ro⟩]⟩,
  ⟨0xD00024, 1, 0x0, 1, 0x0, false, fun _ _ =>
    [⟨R.DWN_GEN_HI_GEN_HI, .ro⟩]⟩,
  ⟨0xD00028, 1, 0x0, 1, 0x0, false, fun _ _ =>
    [⟨R.DWN_LAUNCH_PENDING, .ro⟩, ⟨R.DWN_LAUNCH_SHADOW_DIFF, .ro⟩, ⟨R.DWN_LAUNCH_LAST_CODE, .ro⟩]⟩,
  ⟨0xD0002C, 1, 0x0, 1, 0x0, false, fun _ _ =>
    [⟨R.DWN_LAUNCH_ERR_WHERE, .ro⟩, ⟨R.DWN_LAUNCH_ERR_IS_TABLE, .ro⟩]⟩,
  ⟨0xD00030, 1, 0x0, 1, 0x0, false, fun _ _ =>
    [⟨R.DWN_INT_STATUS_DAWN_DONE, .w1c⟩, ⟨R.DWN_INT_STATUS_STEP_FAIL, .w1c⟩, ⟨R.DWN_INT_STATUS_SAFE_STATE, .w1c⟩, ⟨R.DWN_INT_STATUS_LAUNCH_DONE, .w1c⟩, ⟨R.DWN_INT_STATUS_LAUNCH_REJECT, .w1c⟩, ⟨R.DWN_INT_STATUS_PERSIST_DONE, .w1c⟩, ⟨R.DWN_INT_STATUS_CONFIG_OLDER, .w1c⟩]⟩,
  ⟨0xD00034, 1, 0x0, 1, 0x0, false, fun _ _ =>
    [⟨R.DWN_INT_ENABLE_DAWN_DONE, .rw⟩, ⟨R.DWN_INT_ENABLE_STEP_FAIL, .rw⟩, ⟨R.DWN_INT_ENABLE_SAFE_STATE, .rw⟩, ⟨R.DWN_INT_ENABLE_LAUNCH_DONE, .rw⟩, ⟨R.DWN_INT_ENABLE_LAUNCH_REJECT, .rw⟩, ⟨R.DWN_INT_ENABLE_PERSIST_DONE, .rw⟩, ⟨R.DWN_INT_ENABLE_CONFIG_OLDER, .rw⟩]⟩]

/-- Register families of the SEC block. -/
def famsSEC : List RegFam := [
  ⟨0xE00000, 1, 0x0, 1, 0x0, false, fun _ _ =>
    [⟨R.SEC_CTRL_CLR_ERR, .wo⟩]⟩,
  ⟨0xE00004, 1, 0x0, 1, 0x0, false, fun _ _ =>
    [⟨R.SEC_STATUS_SECURE_BOOT, .ro⟩, ⟨R.SEC_STATUS_DEBUG_LOCKED, .ro⟩, ⟨R.SEC_STATUS_IMAGE_KEY, .ro⟩, ⟨R.SEC_STATUS_HOSTKEY, .ro⟩, ⟨R.SEC_STATUS_PERSIST_MODE, .ro⟩, ⟨R.SEC_STATUS_STALE, .ro⟩, ⟨R.SEC_STATUS_LAST_ERR, .ro⟩]⟩,
  ⟨0xE00008, 1, 0x0, 1, 0x0, false, fun _ _ =>
    [⟨R.SEC_KEYS_PROGRAMMED, .ro⟩, ⟨R.SEC_KEYS_DAMAGED, .ro⟩, ⟨R.SEC_KEYS_REVOKED, .ro⟩]⟩,
  ⟨0xE0000C, 1, 0x0, 1, 0x0, false, fun _ _ =>
    [⟨R.SEC_SVN_OTP_SVN, .ro⟩, ⟨R.SEC_SVN_RUN_SVN, .ro⟩, ⟨R.SEC_SVN_OTHER_SVN, .ro⟩]⟩,
  ⟨0xE00010, 4, 0x4, 1, 0x0, false, fun i _ =>
    [⟨R.SEC_DEVIDn_DEVID i, .ro⟩]⟩,
  ⟨0xE00020, 1, 0x0, 1, 0x0, false, fun _ _ =>
    [⟨R.SEC_SPDM_REQUESTS, .ro⟩, ⟨R.SEC_SPDM_ERRORS, .ro⟩]⟩,
  ⟨0xE00024, 1, 0x0, 1, 0x0, false, fun _ _ =>
    [⟨R.SEC_INT_STATUS_AUTH_FAIL, .w1c⟩, ⟨R.SEC_INT_STATUS_ROLLBACK, .w1c⟩, ⟨R.SEC_INT_STATUS_REVOKED, .w1c⟩, ⟨R.SEC_INT_STATUS_OTP_WRITE, .w1c⟩, ⟨R.SEC_INT_STATUS_MEAS_CHG, .w1c⟩]⟩,
  ⟨0xE00028, 1, 0x0, 1, 0x0, false, fun _ _ =>
    [⟨R.SEC_INT_ENABLE_AUTH_FAIL, .rw⟩, ⟨R.SEC_INT_ENABLE_ROLLBACK, .rw⟩, ⟨R.SEC_INT_ENABLE_REVOKED, .rw⟩, ⟨R.SEC_INT_ENABLE_OTP_WRITE, .rw⟩, ⟨R.SEC_INT_ENABLE_MEAS_CHG, .rw⟩]⟩]

/-- Register families of the WSK block. -/
def famsWSK0 : List RegFam := [
  ⟨0xF00000, 1, 0x0, 1, 0x0, false, fun _ _ =>
    [⟨R.WSK_CTRL_CLR_ERR, .wo⟩]⟩,
  ⟨0xF00004, 1, 0x0, 1, 0x0, false, fun _ _ =>
    [⟨R.WSK_STATUS_STAGING, .ro⟩, ⟨R.WSK_STATUS_FIXED_FULL, .ro⟩, ⟨R.WSK_STATUS_WRAPPED, .ro⟩, ⟨R.WSK_STATUS_STALE, .ro⟩, ⟨R.WSK_STATUS_LAST_ERR, .ro⟩]⟩,
  ⟨0xF00008, 1, 0x0, 1, 0x0, false, fun _ _ =>
    [⟨R.WSK_CFG_ACCESS, .rwl⟩, ⟨R.WSK_CFG_GAUGES_EN, .rwl⟩]⟩,
  ⟨0xF0000C, 1, 0x0, 1, 0x0, true, fun i _ =>
    [⟨R.WSK_CURSOR_PAGE i, .rw⟩]⟩,
  ⟨0xF00010, 1, 0x0, 1, 0x0, false, fun _ _ =>
    [⟨R.WSK_COMMIT_LO_NEXT_SEQ, .ro⟩]⟩,
  ⟨0xF00014, 1, 0x0, 1, 0x0, false, fun _ _ =>
    [⟨R.WSK_COMMIT_HI_HEAD, .ro⟩, ⟨R.WSK_COMMIT_HI_TAIL, .ro⟩]⟩,
  ⟨0xF00018, 1, 0x0, 1, 0x0, false, fun _ _ =>
    [⟨R.WSK_LAST_SEQ_SEQ, .ro⟩]⟩,
  ⟨0xF0001C, 1, 0x0, 1, 0x0, false, fun _ _ =>
    [⟨R.WSK_QUEUE_DEPTH, .ro⟩, ⟨R.WSK_QUEUE_PEAK, .ro⟩, ⟨R.WSK_QUEUE_STALE, .ro⟩]⟩]

/-- Register families of the WSK block. -/
def famsWSK1 : List RegFam := [
  ⟨0xF00020, 1, 0x0, 1, 0x0, false, fun _ _ =>
    [⟨R.WSK_INT_STATUS_RECORD, .w1c⟩, ⟨R.WSK_INT_STATUS_ERROR_RECORD, .w1c⟩, ⟨R.WSK_INT_STATUS_FIXED_FULL, .w1c⟩, ⟨R.WSK_INT_STATUS_WRAPPED, .w1c⟩, ⟨R.WSK_INT_STATUS_CLEARED, .w1c⟩, ⟨R.WSK_INT_STATUS_REINIT, .w1c⟩, ⟨R.WSK_INT_STATUS_QUEUE_WAIT, .w1c⟩]⟩,
  ⟨0xF00024, 1, 0x0, 1, 0x0, false, fun _ _ =>
    [⟨R.WSK_INT_ENABLE_RECORD, .rw⟩, ⟨R.WSK_INT_ENABLE_ERROR_RECORD, .rw⟩, ⟨R.WSK_INT_ENABLE_FIXED_FULL, .rw⟩, ⟨R.WSK_INT_ENABLE_WRAPPED, .rw⟩, ⟨R.WSK_INT_ENABLE_CLEARED, .rw⟩, ⟨R.WSK_INT_ENABLE_REINIT, .rw⟩, ⟨R.WSK_INT_ENABLE_QUEUE_WAIT, .rw⟩]⟩]

/-- Register families of the PWR block. -/
def famsPWR0 : List RegFam := [
  ⟨0x1000000, 1, 0x0, 1, 0x0, false, fun _ _ =>
    [⟨R.PWR_CTRL_CLR_ERR, .wo⟩, ⟨R.PWR_CTRL_NIGHT, .wo⟩]⟩,
  ⟨0x1000004, 1, 0x0, 1, 0x0, false, fun _ _ =>
    [⟨R.PWR_STATUS_STATE, .ro⟩, ⟨R.PWR_STATUS_STALE, .ro⟩, ⟨R.PWR_STATUS_PREP_STEP, .ro⟩, ⟨R.PWR_STATUS_LAST_ERR, .ro⟩]⟩,
  ⟨0x1000008, 1, 0x0, 1, 0x0, false, fun _ _ =>
    [⟨R.PWR_CFG_DUSK_EN, .rwl⟩, ⟨R.PWR_CFG_ONLINE_ON_WAKE, .rwl⟩, ⟨R.PWR_CFG_DUSK_IDLE, .rwl⟩, ⟨R.PWR_CFG_DUSK_CMDS, .rwl⟩]⟩,
  ⟨0x100000C, 1, 0x0, 1, 0x0, false, fun _ _ =>
    [⟨R.PWR_WAKE_EN_PIN, .rw⟩, ⟨R.PWR_WAKE_EN_STRING, .rw⟩, ⟨R.PWR_WAKE_EN_ALARM, .rw⟩, ⟨R.PWR_WAKE_EN_SMBUS, .rw⟩]⟩,
  ⟨0x1000010, 1, 0x0, 1, 0x0, false, fun _ _ =>
    [⟨R.PWR_WAKE_SRC_SRC, .ro⟩, ⟨R.PWR_WAKE_SRC_WAKES, .ro⟩]⟩,
  ⟨0x1000014, 1, 0x0, 1, 0x0, false, fun _ _ =>
    [⟨R.PWR_RET_STATUS_FAILED, .ro⟩, ⟨R.PWR_RET_STATUS_VALID, .ro⟩]⟩,
  ⟨0x1000018, 1, 0x0, 1, 0x0, false, fun _ _ =>
    [⟨R.PWR_RESET_CAUSE_POWER_ON, .w1c⟩, ⟨R.PWR_RESET_CAUSE_RST_N, .w1c⟩, ⟨R.PWR_RESET_CAUSE_WATCHDOG, .w1c⟩, ⟨R.PWR_RESET_CAUSE_RESTART, .w1c⟩, ⟨R.PWR_RESET_CAUSE_DUMP_RESET, .w1c⟩, ⟨R.PWR_RESET_CAUSE_THERM_TRIP, .w1c⟩, ⟨R.PWR_RESET_CAUSE_RET_RESTART, .w1c⟩]⟩,
  ⟨0x100001C, 1, 0x0, 1, 0x0, false, fun _ _ =>
    [⟨R.PWR_TIMES_ENTRY_US, .ro⟩, ⟨R.PWR_TIMES_EXIT_US, .ro⟩]⟩]

/-- Register families of the PWR block. -/
def famsPWR1 : List RegFam := [
  ⟨0x1000020, 1, 0x0, 1, 0x0, false, fun _ _ =>
    [⟨R.PWR_THERM_TJ, .ro⟩, ⟨R.PWR_THERM_TJ_MAX, .ro⟩, ⟨R.PWR_THERM_TRIPS, .ro⟩]⟩,
  ⟨0x1000024, 1, 0x0, 1, 0x0, false, fun _ _ =>
    [⟨R.PWR_INT_STATUS_DUSK_ENTER, .w1c⟩, ⟨R.PWR_INT_STATUS_DUSK_EXIT, .w1c⟩, ⟨R.PWR_INT_STATUS_WAKE, .w1c⟩, ⟨R.PWR_INT_STATUS_RET_FAIL, .w1c⟩, ⟨R.PWR_INT_STATUS_NIGHT_ABORT, .w1c⟩, ⟨R.PWR_INT_STATUS_THERM_WARN, .w1c⟩]⟩,
  ⟨0x1000028, 1, 0x0, 1, 0x0, false, fun _ _ =>
    [⟨R.PWR_INT_ENABLE_DUSK_ENTER, .rw⟩, ⟨R.PWR_INT_ENABLE_DUSK_EXIT, .rw⟩, ⟨R.PWR_INT_ENABLE_WAKE, .rw⟩, ⟨R.PWR_INT_ENABLE_RET_FAIL, .rw⟩, ⟨R.PWR_INT_ENABLE_NIGHT_ABORT, .rw⟩, ⟨R.PWR_INT_ENABLE_THERM_WARN, .rw⟩]⟩]

/-- Register families of the MBX block. -/
def famsMBX : List RegFam := [
  ⟨0x1100000, 1, 0x0, 1, 0x0, true, fun i _ =>
    [⟨R.MBX_CTRL_CLR_ERR i, .wo⟩, ⟨R.MBX_CTRL_DOORBELL i, .wo⟩]⟩,
  ⟨0x1100004, 1, 0x0, 1, 0x0, true, fun i _ =>
    [⟨R.MBX_STATUS_BUSY i, .ro⟩, ⟨R.MBX_STATUS_DONE i, .ro⟩, ⟨R.MBX_STATUS_STALE i, .ro⟩, ⟨R.MBX_STATUS_LAST_ERR i, .ro⟩, ⟨R.MBX_STATUS_LAST_CODE i, .ro⟩]⟩,
  ⟨0x1100008, 1, 0x0, 1, 0x0, true, fun i _ =>
    [⟨R.MBX_INT_STATUS_DONE i, .w1c⟩, ⟨R.MBX_INT_STATUS_FAILED i, .w1c⟩]⟩,
  ⟨0x110000C, 1, 0x0, 1, 0x0, true, fun i _ =>
    [⟨R.MBX_INT_ENABLE_DONE i, .rw⟩, ⟨R.MBX_INT_ENABLE_FAILED i, .rw⟩]⟩]

/-- Every register family of BAR0 (R376). -/
def regFams : List RegFam :=
  famsGLB0 ++
  famsGLB1 ++
  famsTET0 ++
  famsTET1 ++
  famsTET2 ++
  famsSTR0 ++
  famsSTR1 ++
  famsSTR2 ++
  famsSTR3 ++
  famsSTR4 ++
  famsGON0 ++
  famsGON1 ++
  famsENV0 ++
  famsENV1 ++
  famsBSK0 ++
  famsBSK1 ++
  famsBAL0 ++
  famsBAL1 ++
  famsHPT0 ++
  famsHPT1 ++
  famsHPTCE0 ++
  famsHPTCE1 ++
  famsFAB0 ++
  famsFAB1 ++
  famsDRV0 ++
  famsDRV1 ++
  famsSPL0 ++
  famsSPL1 ++
  famsSPL2 ++
  famsSPL3 ++
  famsSTG0 ++
  famsSTG1 ++
  famsSPR0 ++
  famsSPR1 ++
  famsSPR2 ++
  famsDWN0 ++
  famsDWN1 ++
  famsSEC ++
  famsWSK0 ++
  famsWSK1 ++
  famsPWR0 ++
  famsPWR1 ++
  famsMBX
/-- The offsets of the cause and enable register of each interrupt source (Table 16.4). -/
def intSources : List (Nat × Nat) := [
  (0x100034, 0x100038),
  (0x20000C, 0x200010),
  (0x200014, 0x200018),
  (0x30001C, 0x300020),
  (0x40002C, 0x400030),
  (0x50001C, 0x500020),
  (0x60001C, 0x600020),
  (0x700030, 0x700034),
  (0x708020, 0x708024),
  (0x800014, 0x800018),
  (0x900010, 0x900030),
  (0x900014, 0x900034),
  (0x900018, 0x900038),
  (0x90001C, 0x90003C),
  (0xA00010, 0xA00020),
  (0xA00014, 0xA00024),
  (0xA00018, 0xA00028),
  (0xA0001C, 0xA0002C),
  (0xB00030, 0xB00034),
  (0xC00034, 0xC00038),
  (0xD00030, 0xD00034),
  (0xE00024, 0xE00028),
  (0xF00020, 0xF00024),
  (0x1000024, 0x1000028),
  (0x1100008, 0x110000C)]


/-- The register at a BAR0 offset: its family's layout with the indexes the offset gives, or none where the map
lists no register (R376, R7). -/
def famAt (off : Nat) (f : RegFam) : Option (Nat × Nat) :=
  if off < f.base then none else
  let d := off - f.base
  if f.n1 = 1 ∧ f.n2 = 1 then (if d = 0 then some (0, 0) else none) else
  let i := d / f.s1
  let r := d % f.s1
  if i ≥ f.n1 then none else
  if f.n2 = 1 then (if r = 0 then some (i, 0) else none) else
  if r % f.s2 = 0 ∧ r / f.s2 < f.n2 then some (i, r / f.s2) else none

/-- Search a list of families for the one that holds `off`; `link` chooses the bank of a banked register. -/
def findReg (link off : Nat) : List RegFam → Option (List LFld)
  | [] => none
  | f :: fs =>
    match famAt off f with
    | some (i, j) => some (f.lay (if f.banked then link else i) j)
    | none => findReg link off fs

/-- The layout of the register at `off`, seen from `link`. -/
def layoutAt (link off : Nat) : Option (List LFld) := findReg link off regFams

end Sys2Proof.Machine
end

