-- ==== Sys2Proof/Machine/Sparse.lean ====
section
/-! DEFINITION. Sparse maps from addresses to values: a list of (address, value) pairs with strictly rising
addresses and no pair equal to the default, so that equal maps are equal lists. Every memory, register store and
table of the state is held in this form. -/

namespace Sys2Proof.Machine

/-- A sparse map as plain data. -/
abbrev SMap (α : Type) := List (Nat × α)

/-- The value at `k`, `d` where nothing is listed. -/
def SMap.get {α : Type} (d : α) (k : Nat) : SMap α → α
  | [] => d
  | (k', v) :: t => if k' = k then v else SMap.get d k t

/-- The map without an entry at `k`. -/
def SMap.erase {α : Type} (k : Nat) : SMap α → SMap α
  | [] => []
  | (k', v) :: t => if k' = k then SMap.erase k t else (k', v) :: SMap.erase k t

/-- `(k, v)` placed before the first larger address. -/
def SMap.insert {α : Type} (k : Nat) (v : α) : SMap α → SMap α
  | [] => [(k, v)]
  | (k', v') :: t => if k < k' then (k, v) :: (k', v') :: t else (k', v') :: SMap.insert k v t

/-- Write `v` at `k`; writing the default removes the entry. -/
def SMap.set {α : Type} [DecidableEq α] (d : α) (k : Nat) (v : α) (m : SMap α) : SMap α :=
  if v = d then SMap.erase k m else SMap.insert k v (SMap.erase k m)

/-- The addresses from `k` up that are listed lie strictly rising and no value is the default. -/
def SMap.wfFrom {α : Type} [DecidableEq α] (d : α) (lo : Nat) : SMap α → Bool
  | [] => true
  | (k, v) :: t => decide (lo ≤ k) && decide (v ≠ d) && SMap.wfFrom d (k + 1) t

/-- The canonical form of a sparse map. -/
def SMap.wf {α : Type} [DecidableEq α] (d : α) (m : SMap α) : Bool := SMap.wfFrom d 0 m

/-- The values at `n` addresses from `k`, in order. -/
def SMap.read {α : Type} (d : α) (k : Nat) : Nat → SMap α → List α
  | 0, _ => []
  | n + 1, m => SMap.get d k m :: SMap.read d (k + 1) n m

/-- Write a list of values from `k` up. -/
def SMap.write {α : Type} [DecidableEq α] (d : α) (k : Nat) : List α → SMap α → SMap α
  | [], m => m
  | v :: vs, m => SMap.write d (k + 1) vs (SMap.set d k v m)

/-- Drop every entry of the `n` addresses from `k`: those addresses read as the default again. -/
def SMap.clear {α : Type} (k n : Nat) (m : SMap α) : SMap α :=
  m.filter fun e => e.1 < k || k + n ≤ e.1

end Sys2Proof.Machine
end

