-- ==== Sys2Proof/Machine/State.lean ====
section
/-! DEFINITION. The state of the block as plain data: the queue of waiting commands, the register store, and every
structure, buffer, memory and pin that the spec gives the device; the faults and refusals; the state after reset.
The parts that survive a reset with power held are grouped: `nv` (Gondola, flash, fuses), `ext` (the attached drives,
hosts and pins) and the AON registers. -/

namespace Sys2Proof.Machine

/-! ### Outputs -/

/-- What the device sends to the outside, one entry per message, completion, frame or pin change. -/
inductive OutEv where
  /-- MSI-X message of a vector of function 1 on a link (R384). -/
  | msix (link vec : Nat)
  /-- NVMe completion: controller, queue, command, status type and code, DNR, Dword 0, data blocks returned, head pointer of the
  submission queue (R141). -/
  | cqe (ctrl q cid sct sc : Nat) (dnr : Bool) (dw0 : Nat) (data : List Block) (head : Nat)
  /-- NVMe completion that returns a data structure as a list of values, in the field order of its table, with the head pointer. -/
  | cqeInfo (ctrl q cid : Nat) (vals : List Nat) (head : Nat)
  /-- Asynchronous event posted to a controller: type/information and log page. -/
  | aen (ctrl info logPage : Nat)
  /-- Mailbox reply: sender, opcode, code, tag, detail, payload values. -/
  | reply (src : MbxSrc) (opcode code tag detail : Nat) (payload : List Nat)
  /-- SPDM response code and its values. -/
  | spdm (src : MbxSrc) (code : Nat) (vals : List Nat)
  /-- String frame sent out of a port (0 west, 1 east): TYPE and its values. -/
  | string (port type : Nat) (vals : List Nat)
  /-- Spar frame sent: TYPE of Table 12.2 and its values. -/
  | spar (type : Nat) (vals : List Nat)
  /-- A block carried by a Spar frame (PAGE, FETCH_DATA). -/
  | sparBlock (type addr : Nat) (blk : Block)
  /-- Records carried by a RECORDS frame. -/
  | sparRecs (rs : List Rec)
  /-- Ethernet control frame: port, subport, kind (0 PFC pause, 1 CNP, 2 RNR NAK, 3 CM refuse, 4 CM accept,
  5 acknowledgement with the queue pair and its end-to-end credit count, R142), values. -/
  | eth (port sub kind : Nat) (vals : List Nat)
  /-- A command to a drive outside the member path: drive, kind, values. -/
  | drive (drv kind : Nat) (vals : List Nat)
  /-- A posted write of Spool to a host space (R248): space, address, bytes. -/
  | hostWr (space addr : Nat) (bytes : List Nat)
  /-- The test port's IDCODE (R416). -/
  | tdo (code : Nat)
  /-- A pin driven: name code and level. -/
  | pin (code : Nat) (level : Bool)
  /-- Data returned by a window read, or a poisoned completion. -/
  | window (link : Nat) (vals : List Nat) (poison : Bool)
deriving DecidableEq, Repr

/-! ### Drives (the media of members, spares and vault drives) -/

/-- One copy of the array label (Table 3.3). `crcOk`, `magicOk` are the checks of R52. -/
structure Label where
  crcOk : Bool
  magicOk : Bool
  member : Nat
  members : Nat
  strip : Nat
  metaB : Nat
  arrayNum : Nat
  arrayId : Nat
  createClaim : Nat
  configGen : Nat
  stripes : Nat
  seq : Nat
  ids : List Nat
  mapMembers : List Nat
  missing : Nat
deriving DecidableEq, Repr

/-- Array-state entry of Gondola persistent state (Table 4.2): identifier, state, lost count, rebuild slots (target, watermark, end),
copyback, resync and patrol watermarks as of the last root write, copyback source, destination (0xFF none) and cause, the members
missing (bit m), the scope of a resynchronisation (region size, 0 for every stripe, and regions). -/
structure ArrEntry where
  arrayId : Nat
  state : Nat
  lost : Nat
  rb : List (Nat × Nat × Nat)
  cb : Nat
  rs : Nat
  pt : Nat
  cbSrc : Nat
  cbDest : Nat
  cbCause : Nat
  miss : Nat
  rsSize : Nat
  rsRegions : List Nat
deriving DecidableEq, Repr

/-- A root block (Table 4.3). -/
structure Root where
  ok : Bool
  cleanStop : Bool
  gen : Nat
  stopSeq : Nat
  reclaim : Nat
  sealUpto : Nat
  lastEpoch : Nat
  lastClaim : Nat
  configGen : Nat
deriving DecidableEq, Repr

/-- A namespace (R57, R59, R157): index, system-wide NSID, NGUID, array, BASE, stripes, NSZE, LBA format. -/
structure Ns where
  idx : Nat
  nsid : Nat
  nguid : Nat
  array : Nat
  base : Nat
  stripes : Nat
  nsze : Nat
  lbaf : Nat
deriving DecidableEq, Repr

/-- A long operation's progress entry (Table 4.2, R157, R158): kind 4 FORMAT, 5 SANITIZE. -/
structure Prog where
  kind : Nat
  ns : Nat
  done : Nat
  total : Nat
  lbaf : Nat
deriving DecidableEq, Repr

/-- A Dawn step log entry (Table 13.2). -/
structure StepEntry where
  startNo : Nat
  step : Nat
  outcome : Nat
  detail : Nat
  epoch : Nat
deriving DecidableEq, Repr

/-- The persistent state partition (Table 4.2) as tail copies and dumps carry it: the root in force, the array-state
entries, the progress entries, the namespace table, the root copy not in force and the Dawn step log. -/
structure Persist where
  root : Root
  arrEntries : List ArrEntry
  progs : List Prog
  nsTable : List Ns
  other : Root
  stepLog : SMap (Option StepEntry)
deriving DecidableEq, Repr

/-- An unreleased extent of the write store (R96): its Basket INTENT's SEQ, the blocks of it that are the newest copy,
the highest SEQ that superseded any of its blocks, and whether the standby has confirmed it. -/
structure Extent where
  seq : Nat
  array : Nat
  ns : Nat
  slba : Nat
  count : Nat
  addr : Nat
  companion : Bool
  epoch : Nat
  dcrc : Nat
  live : List Nat
  supBy : Nat
  writeBack : Bool
deriving DecidableEq, Repr

/-- Saved columns of a destage (R98): first page, pages, the INTENT that names them. -/
structure Saved where
  addr : Nat
  count : Nat
  owner : Nat
  cols : List (Nat × Nat × Nat)
deriving DecidableEq, Repr

/-- A tail copy on a member (R107, Table 4.13). -/
structure Tail where
  ok : Bool
  clean : Bool
  array : Nat
  arrayId : Nat
  ckpt : Nat
  labelSeq : Nat
  upto : Nat
  regionGen : Nat
  regionSize : Nat
  regions : List Nat
  recs : List Rec
  pers : Persist
deriving DecidableEq, Repr

/-- A drive attached to a drive port or vault port. Its number is 2 × port + subport for DP, 64 + n for BPn. -/
structure Drive where
  desc : DriveDesc
  media : SMap Block
  bad : List Nat
  labelA : Option Label
  labelB : Option Label
  tailA : Option Tail
  tailB : Option Tail
  lostMap : List Nat
  keys : List Nat
  holder : Nat
  sanitized : Nat
  corr : Nat
  resetAt : Option Nat
  resetting : Bool
deriving DecidableEq, Repr

/-- The vault header of a vault drive (Table 8.7) and what the drive holds of the dump it names. -/
structure Vault where
  nguid : Nat
  present : Bool
  passes : Bool
  hdrOk : Bool
  complete : Bool
  mirror : Bool
  seq : Nat
  epoch : Nat
  device : Nat
  pop : Nat
  layout : Nat
  pages : Nat
  journalSeal : Bool
  indexSeal : Bool
  sealSeq : Nat
  ring : SMap (Option Rec)
  pers : Persist
  units : List (Nat × List (Nat × Block))
  index : List Extent
  saved : List Saved
deriving DecidableEq, Repr

/-! ### Gondola and persistent state -/

/-- An OTP key slot (Table 13.10). -/
structure KeySlot where
  programmed : Bool
  damaged : Bool
  revoked : Bool
  key : Nat
deriving DecidableEq, Repr

/-- A copy of the boot record with a valid CRC (R322). -/
structure BootRec where
  seq : Nat
  preferred : Nat
deriving DecidableEq, Repr

/-- A Sanitize in execution (R158): action 2 Block Erase or 3 Overwrite, passes to run, inversion between passes,
pattern, passes done, array and stripe reached. -/
structure Sani where
  action : Nat
  passes : Nat
  invert : Bool
  pattern : Nat
  pass : Nat
  arr : Nat
  st : Nat
deriving DecidableEq, Repr

/-- What survives without power: Gondola MRAM, SPI flash and fuses. `wsk` holds the Windsock store's 64-bit words as the
bitwise exclusive or with what they hold when the device leaves manufacture (R418). -/
structure Nv where
  ring : SMap (Option Rec)
  rootA : Root
  rootB : Root
  arrEntries : List ArrEntry
  progs : List Prog
  sani : Option Sani
  saniStat : Nat
  saniAct : Nat
  saniFail : Bool
  stepLog : SMap (Option StepEntry)
  stepNext : Nat
  startNo : Nat
  nsTable : List Ns
  pairSynced : Bool
  dirtyMap : List (Nat × Nat)
  marker : Nat
  dumpStart : Option (Nat × Nat × Nat)
  dumpMs : Nat
  armedSeq : Nat
  wsk : SMap Nat
  user : SMap Nat
  flashA : Option Image
  flashB : Option Image
  shadowA : Option Image
  shadowB : Option Image
  bootA : Option BootRec
  bootB : Option BootRec
  clearFails : Bool
  clearBoot : Bool
  slots : List KeySlot
  hostKey : KeySlot
  fwSvn : Nat
  deviceId : Nat
  secureBoot : Bool
  debugLock : Bool
  persistMode : Bool
  otpFail : Bool
  serial : Nat
  macBase : Nat
  certChain : List Nat
deriving DecidableEq, Repr

/-! ### Tether -/

/-- The Tether (R25 to R47): the epoch counter and what the sources and the boundary need. -/
structure Tether where
  epoch : Nat
  measuring : Option Nat
  signals : List Nat
  stepAhead : Nat
  forceStep : Bool
  awaiting : Option (Nat × Nat)
  stepWaited : Bool
  tod : Option Nat
  todHi : Nat
  ppsSeconds : Nat
  ptpUtc : Nat
  ptpRank : Nat
  syncRun : Nat
  frozen : Bool
  entryWasDisciplined : Bool
  window : Nat
  dayEntry : Nat
  budgets : List (Nat × Nat × Nat × Nat × Nat)
  solo : List (Nat × Nat × Nat × Nat × Nat)
  leapAt : Option Nat
  reelTod : Bool
deriving DecidableEq, Repr

/-! ### Arrays -/

/-- A rebuild slot (R123): TARGET, WM, END, JOINED, the stripe at which joining started, stripes completed ahead of
WM, the target's drive, and the further range of its valid set that an earlier slot wrote (R124, R127). -/
structure Slot where
  act : Bool
  target : Nat
  wm : Nat
  fin : Nat
  joined : Bool
  joinFrom : Nat
  ahead : List Nat
  drv : Nat
  exLo : Nat
  exHi : Nat
deriving DecidableEq, Repr

/-- A copyback (R130): source member, destination drive, watermark, cause. -/
structure Copyback where
  src : Nat
  dest : Nat
  wm : Nat
  cause : Nat
deriving DecidableEq, Repr

/-- A resynchronisation (R110): watermark, region size (0 for every stripe), regions in scope, stripes verified
ahead, stripes marked lost so far. -/
structure Resync where
  wm : Nat
  regionSize : Nat
  regions : List Nat
  verified : List Nat
  lost : Nat
deriving DecidableEq, Repr

/-- One array's working state; its configuration and status are registers. -/
structure Arr where
  arrayId : Nat
  stripes : Nat
  createClaim : Nat
  lost : List Nat
  mapMembers : List Nat
  rb0 : Slot
  rb1 : Slot
  cb : Option Copyback
  rs : Option Resync
  pt : Nat
  mediaCount : List (Nat × Nat)
  taken : List (Nat × Nat)
  waiting : List (Nat × Nat)
  labelSeq : Nat
  places : List (Nat × Nat)
  tailJob : Option (Tail × List Nat × Bool)
  tailForced : Bool
  regionGen : Nat
  regions : List (Nat × Nat)
  repairs : List (Nat × Nat × Nat)
  reconReads : Nat
  patrolled : Nat
deriving DecidableEq, Repr

/-! ### Journal, write store, stripe operations -/

/-- The journal's working state: next SEQ, the open stripe INTENTs with their records, UPTO_SEQ and SEQ of the newest
SEAL, the next SEQ at the last root write. -/
structure Jrn where
  nextSeq : Nat
  opens : List Rec
  sealUpto : Nat
  sealSeq : Nat
  rootSeq : Nat
  low : Bool
  progDue : List (Nat × Nat × Nat)
deriving DecidableEq, Repr

/-- The Basket: pages of every region, extents, saved columns, clean entries, ECC counts per lane and channel, the
fetch waits of R201, the scrub, the layout in force (pages of the write store and of the user region), and the pages of the resync
verified-ahead bitmaps (R202), each with its array and range. -/
structure Bsk where
  pages : SMap Block
  extents : List Extent
  saved : List Saved
  clean : List (Nat × Nat × Nat)
  user : SMap Nat
  w : Nat
  u : Nat
  cap : Nat
  laneCe : List (Nat × Nat × Nat)
  chanUe : List (Nat × Nat)
  fetching : List Nat
  scrubbing : Bool
  refresh : Nat
  selfRefresh : Bool
  destaged : Nat
  bitmaps : List (Nat × Nat × Nat)
deriving DecidableEq, Repr

/-- What a stripe operation does (OP of Table 4.5; `zero` is the deallocation of a Write Zeroes under a FULL INTENT, `trim` that of a
Dataset Management). -/
inductive SKind where
  | full
  | rmw
  | rcw
  | coalesce
  | repair
  | zero
  | trim
deriving DecidableEq, Repr

/-- The phase of a stripe operation. -/
inductive SPhase where
  | lock
  | verify
  | reads
  | engine
  | save
  | ring
  | region
  | mirror
  | writes
deriving DecidableEq, Repr

/-- A stripe operation that journals one column range of one stripe: owner context (0 for a destage), kind, place,
INTENT, saved columns, phase, the member commands outstanding. -/
structure SOp where
  id : Nat
  owner : Nat
  kind : SKind
  array : Nat
  stripe : Nat
  first : Nat
  cols : Nat
  wmask : Nat
  seq : Nat
  upto : Nat
  saveAddr : Nat
  saveIdx : List Nat
  phase : SPhase
  outst : List Nat
  data : List (Nat × Nat × Block)
  erased : List (Nat × Nat)
  mirEpoch : Nat
  compan : Nat
deriving DecidableEq, Repr

/-- A member command: the drive port's queue entry. `owner` is a context for reads of a command and `sop` a stripe
operation (0 for none). `issued` is false while the drive's 1,024 places are taken. -/
structure MCmd where
  id : Nat
  array : Nat
  member : Nat
  drv : Nat
  lba : Nat
  count : Nat
  wr : Bool
  dealloc : Bool
  data : List (Nat × Block)
  owner : Nat
  sop : Nat
  issued : Bool
  hedged : Bool
  reissued : Bool
deriving DecidableEq, Repr

/-! ### Command engine -/

/-- The kinds of I/O command that hold a context. -/
inductive IoOp where
  | read
  | write
  | zeroes (deac : Bool)
  | flush
  | dsm (ranges : List (Nat × Nat))
deriving DecidableEq, Repr

/-- Where a command in a context waits (Table 6.1), or what it does. -/
inductive CPhase where
  | ordered
  | lock
  | basket
  | spar
  | ring
  | alloc
  | evb
  | fill
  | verify
  | member
  | engine
  | mirror
  | destage
  | flushWait
deriving DecidableEq, Repr

/-- A command in a context; `ns` is the device index of its namespace (4096 for none or for all), `compan` the SEQ of the companion
that a through-path write has committed, 0 where it takes none (R95). -/
structure Ctx where
  id : Nat
  h : IoHdr
  op : IoOp
  nsid : Nat
  ns : Nat
  slba : Nat
  nlb : Nat
  data : List Block
  flags : IoFlags
  phase : CPhase
  need : List Nat
  held : List Nat
  shared : Bool
  bparts : List (Nat × Nat)
  stripes : List Nat
  wantKeys : List Nat
  outst : List Nat
  seqs : List Nat
  ordered : Bool
  order : Nat
  erased : List (Nat × Nat)
  mirEpoch : Nat
  sops : List Nat
  compan : Option Nat
deriving DecidableEq, Repr

/-- A stripe lock entry (R94): holders (each shared or exclusive) and waiters in arrival order. A holder or waiter
is (owner, shared); owners below 2^32 are contexts, others 2^32 + stripe operation. -/
structure LockE where
  idx : Nat
  holders : List (Nat × Bool)
  waiters : List (Nat × Bool)
deriving DecidableEq, Repr

/-- An I/O queue of a controller. `arrivals` counts the commands that have arrived, `fetched` those fetched or received for which
the command's own row is still to come, so that the head pointer is their sum modulo `size`; `noFlow` is set where Connect disabled flow
control. -/
structure Queue where
  ctrl : Nat
  qid : Nat
  size : Nat
  cq : Nat
  r : Nat
  credits : Nat
  fetched : Nat
  waiting : Nat
  usedLast : Bool
  idle : Nat
  arrivals : Nat
  completed : Nat
  throttledFull : Bool
  qp : Nat
  noFlow : Bool
deriving DecidableEq, Repr

/-- A completion queue of a PCIe controller. -/
structure CQueue where
  ctrl : Nat
  qid : Nat
  size : Nat
  iv : Nat
deriving DecidableEq, Repr

/-- An NVMe controller. Numbers 0 and 1 are function 0 of HP0 and HP1; 16 and above are fabric controllers. `aSize` is the size of
its admin queue, 0 on PCIe, where no command carries it; `aDone` counts the admin commands completed. -/
structure Ctrl where
  id : Nat
  fabric : Bool
  en : Bool
  rdy : Bool
  shst : Nat
  pp : Bool
  discovery : Bool
  hostNqn : Nat
  hostId : Nat
  kato : Nat
  aer : List Nat
  aenMask : Nat
  numQueues : Option (Nat × Nat)
  features : List (Nat × Nat)
  noFlow : Bool
  logs : List Nat
  cc : Nat
  aenPend : List Nat
  rdBlk : Nat
  wrBlk : Nat
  rdCmd : Nat
  wrCmd : Nat
  aSize : Nat
  aDone : Nat
deriving DecidableEq, Repr

/-- Reservation on a namespace (R163): registrants (host identifier, key), holder host, type. -/
structure NsResv where
  ns : Nat
  regs : List (Nat × Nat)
  holder : Nat
  rtype : Nat
  gen : Nat
  notices : List (Nat × Nat)
deriving DecidableEq, Repr

/-- A Firmware Commit in execution (R156): header (none once its controller was reset), image slot, action. -/
structure Commit where
  h : Option IoHdr
  slot : Nat
  action : Nat
deriving DecidableEq, Repr

/-- An image that a Firmware Commit writes to a slot of the flash (R156): header, image slot, action, image. -/
structure FwWrite where
  h : Option IoHdr
  slot : Nat
  action : Nat
  img : Image
deriving DecidableEq, Repr

/-- A Format NVM command in execution (R157): header (none once its controller was reset, or resumed at Dawn), the
namespace indexes still to format, the LBA format, and the contexts outstanding when it arrived. -/
structure FmtJob where
  h : Option IoHdr
  todo : List Nat
  lbaf : Nat
  wait : List Nat
deriving DecidableEq, Repr

/-- A job of the stripe engine (R67, R70): its slice, its input in units of 4 KiB, the operation it belongs to (a context's number, a
stripe operation's owner number, or from 2^33 up a step of the device's own), and whether it failed its check once. -/
structure Job where
  slice : Nat
  units : Nat
  op : Nat
  tried : Bool
deriving DecidableEq, Repr

/-- The command engine. `jobs` are the jobs in the slices' queues, the oldest first, `jobWait` those whose submitter waits while the
queues are full (operation, units). `cmdsEpoch` counts the commands completed in this epoch, `waitEpochs` the epochs in which some queue
waited since that gauge was last sampled. -/
structure Ce where
  ctxs : List Ctx
  nextId : Nat
  queues : List Queue
  cqs : List CQueue
  ctrls : List Ctrl
  locks : List LockE
  sops : List SOp
  mcmds : List MCmd
  adminWait : List Instr
  rr : Nat
  resvs : List NsResv
  download : List (Nat × Nat)
  dlImage : Option Image
  commit : Option Commit
  fwWrites : List FwWrite
  actReady : Bool
  formats : List FmtJob
  cmdsEpoch : Nat
  waitEpochs : Nat
  ctrlSeq : Nat
  nsGone : List (MbxHdr × Nat)
  jobs : List Job
  jobWait : List (Nat × Nat)
  sliceFails : List (Nat × Nat)
  errs : List (Nat × Nat × Nat × Nat × Nat)
  anaGen : Nat
deriving DecidableEq, Repr

/-! ### Envelope -/

/-- Line states of Table 7.2. -/
inductive LineSt where
  | invalid
  | fill
  | clean
  | dirty
  | held
deriving DecidableEq, Repr

/-- An Envelope line: set, way, state, key, filled by reconstruction, hits. A line's contents are those at home. -/
structure Line where
  set : Nat
  way : Nat
  st : LineSt
  key : Nat
  recon : Bool
  hits : Nat
deriving DecidableEq, Repr

/-- A Skirt line: key, whether its fill has returned, whether the generation is still valid. The oldest stands first. -/
structure SkirtLine where
  key : Nat
  filled : Bool
  valid : Bool
deriving DecidableEq, Repr

/-- A sequential read stream (R182). -/
structure Stream where
  ns : Nat
  next : Nat
  last : Nat
deriving DecidableEq, Repr

/-- The Envelope and Skirt. -/
structure Env where
  lines : List Line
  plru : SMap Nat
  evb : List (Nat × Bool)
  allocQ : List (Nat × Nat)
  evbQ : List (Nat × Nat)
  skirt : List SkirtLine
  streams : List Stream
  scratch : SMap Nat
  scratchOn : Bool
  maint : Option (Nat × Nat × Nat × Nat × Nat)
deriving DecidableEq, Repr

/-! ### Windsock -/

/-- An event waiting for the recorder (R350): code, source, payload bytes, epoch. -/
structure WEv where
  code : Nat
  source : Nat
  payload : List Nat
  epoch : Nat
deriving DecidableEq, Repr

/-- The record being staged (R351). -/
structure WStage where
  unit : Nat
  units : Nat
  code : Nat
  source : Nat
  orig : Nat
  count : Nat
deriving DecidableEq, Repr

/-- One gauge's working copy (R343). -/
structure Gauge where
  id : Nat
  samples : Nat
  min : Nat
  max : Nat
  minE : Nat
  maxE : Nat
  sum : Nat
  bins : List (Nat × Nat)
deriving DecidableEq, Repr

/-- The recorder: queue, producers waiting for room, staged record, the last committed record's place, gauges. -/
structure Wsk where
  queue : List WEv
  blocked : List WEv
  staged : Option WStage
  last : Option WStage
  gauges : List Gauge
  clearing : Option (MbxHdr × Nat × Nat)
  nextSeqCopy : Nat
  bad : List Nat
  worst : Nat
  worstSeq : Nat
deriving DecidableEq, Repr

/-! ### Mailbox, links, interrupts -/

/-- A mailbox command that runs until a later event completes it: header, opcode. -/
structure MbxRun where
  h : MbxHdr
  opcode : Nat
deriving DecidableEq, Repr

/-- A mailbox request's command with its payload (Table 16.8). -/
inductive MbxOp where
  | regRead (offset count : Nat)
  | regWrite (offset v : Nat)
  | stepLogRead (first count : Nat)
  | shutdown
  | shadowWrite (items : List CfgItem)
  | shadowTable (table total offset : Nat) (data : List Nat)
  | shadowRead (target offset count : Nat)
  | shadowReset
  | launch
  | persistExport (offset : Nat)
  | persist (total offset len : Nat) (img : Image)
  | imageWrite (slot pref total offset len : Nat) (img : Image)
  | publish (total offset len : Nat) (img : Image)
  | nsCreate (a flags lbaf nsze base : Nat)
  | nsDelete (nsid : Nat)
  | nsList (first count : Nat)
  | arrayOffline (a : Nat)
  | arrayOnline (a : Nat)
  | arrayForce (a : Nat)
  | arrayReplace (a member port sub : Nat)
  | arrayCopyback (a member port sub : Nat)
  | arrayCopybackStop (a : Nat)
  | patrolRestart (a : Nat)
  | pairForce (tok : Token)
  | pairSwitchover
  | pairUnpair
  | summaryRead (first count : Nat)
  | directoryRead (first count : Nat)
  | getNonce
  | keyProvision (slot key : Nat) (tok : Token)
  | keyRevoke (slot : Nat) (tok : Token)
  | hostkeyEnroll (key : Nat) (tok : Token)
  | svnAdvance (tok : Token)
  | wskRead (offset len : Nat)
  | wskClear (scope : Nat) (tok : Token)
  | night
  | unsupported (opc : Nat)
deriving DecidableEq, Repr

/-- A mailbox request: its header and its command. -/
structure MbxReq where
  h : MbxHdr
  op : MbxOp
deriving DecidableEq, Repr

/-- The mailbox: the request and reply buffers as bytes (bank times 4,096 plus offset), running commands, waiting
commands in arrival order, and the banks whose doorbell was written and whose request is not yet taken. -/
structure Mbx where
  req : SMap Nat
  rep : SMap Nat
  run : List MbxRun
  wait : List MbxReq
  rung : List Nat
deriving DecidableEq, Repr

/-- A host link: up, training values, function 1's MSI-X enable, function mask, per-vector mask and pending bits,
levels, bus master enable. -/
structure HLink where
  up : Bool
  msixEn : Bool
  fmask : Bool
  vmask : List Nat
  pend : List Nat
  levels : List Nat
  bme : Bool
deriving DecidableEq, Repr

/-! ### Fabric -/

/-- An RDMA queue pair (R237, R242): host, controller and queue it serves (0xFFFF none yet), the subport rate and its own
rate R in Gb/s × 2^16, and, each as epoch plus 1 with 0 for never, the last notification received, the last cut, the
last rise and the last notification sent; error state. -/
structure Qp where
  id : Nat
  host : Nat
  ctrl : Nat
  qid : Nat
  port : Nat
  full : Nat
  rate : Nat
  lastRx : Nat
  lastCut : Nat
  lastUp : Nat
  lastCnp : Nat
  err : Bool
deriving DecidableEq, Repr

/-- A priority of a fabric subport (R243, R244): whether pause is being sent, and since which epoch; a pause storm and the
epoch in which the buffer last reached XOFF; whether received pause holds it, since which epoch and up to which epoch,
the epoch of the last frame, and whether received pause is dropped. -/
structure Pfc where
  port : Nat
  sub : Nat
  prio : Nat
  sending : Bool
  since : Nat
  storm : Bool
  lastXoff : Nat
  held : Bool
  heldFrom : Nat
  heldTo : Nat
  lastRx : Nat
  drop : Bool
deriving DecidableEq, Repr

/-- The fabric ports. `txSeen` and `rxSeen` are the last epoch (plus 1) counted in PAUSE_TX and PAUSE_RX per port, `txMark` is
PAUSE_TX per port when its gauge was last sampled. -/
structure Fab where
  qps : List Qp
  nextQp : Nat
  pfc : List Pfc
  discGen : Nat
  acl : List (Nat × Nat)
  txSeen : List Nat
  rxSeen : List Nat
  txMark : List Nat
deriving DecidableEq, Repr

/-! ### Spool -/

/-- A Spool descriptor (Tables 10.2 and 10.3). `fmtOk` is false where MAGIC or a reserved bit or byte is wrong. -/
structure SplDesc where
  fmtOk : Bool
  length : Nat
  last : Bool
  wait : Bool
  signal : Bool
  fence : Bool
  crcMode : Nat
  crcCont : Bool
  crcStore : Bool
  srcSpace : Nat
  dstSpace : Nat
  srcRing : Nat
  dstRing : Nat
  crcSpace : Nat
  srcAddr : Nat
  dstAddr : Nat
  nextSpace : Nat
  nextAddr : Nat
  crcAddr : Nat
  user : Nat
deriving DecidableEq, Repr

/-- What a RUNNING or HALTED Spool channel does next (R254, R259, R267). -/
inductive SplPhase where
  | fetch
  | data
  | store
  | fence
  | record
deriving DecidableEq, Repr

/-- A Spool channel's working state beside its registers: the descriptor in progress, the running CRC before its final
complement, the CRC_MODE of the previous descriptor of the chain, descriptors fetched since the last start or trigger
(R260), a STOP that waits for the descriptor boundary, what comes next. -/
structure SplCh where
  desc : Option SplDesc
  crc : Nat
  prevMode : Option Nat
  budget : Nat
  stopReq : Bool
  phase : SplPhase
deriving DecidableEq, Repr

/-- Spool: 64 channels, the pacing timers whose first tick waits for an epoch boundary (ALIGN), and the bursts in flight in the order in
which the rounds issued them (R254, R261): channel, place of the burst in its transfer, length. -/
structure Spl where
  ch : List SplCh
  align : List Nat
  flight : List (Nat × Nat × Nat)
deriving DecidableEq, Repr

/-! ### String -/

/-- A REPORT of this device in its queue (R286): SUB (0 JOIN, 1 LEAVE, 2 LINK_DOWN, 3 LINK_UP, 4 CENSUS, 5 GEN_READY,
6 GEN_REJECT, 7 CHUNK_NAK, 8 PUBLISH, 9 SUMMARY), values, SEQ, the epoch in which it was last sent. -/
structure Report where
  sub : Nat
  vals : List Nat
  seq : Nat
  sent : Option Nat
deriving DecidableEq, Repr

/-- A copy of the Reel's EPOCH frame received in this epoch: port, HOPS, direction, whether it counts toward lock (R279),
the offset it gives. -/
structure EpochCopy where
  port : Nat
  hops : Nat
  west : Bool
  counts : Bool
  offsetNs : Int
deriving DecidableEq, Repr

/-- A system-configuration set offered by the Reel (R290): generation, size, APPLY_EPOCH, whether its digest fits,
chunks received, its items and tables so far, and whether this device is READY (1) or has rejected it (2). -/
structure Offer where
  gen : Nat
  size : Nat
  applyEpoch : Nat
  digestOk : Bool
  chunks : List Nat
  items : List CfgItem
  tables : List (Nat × List Nat)
  verdict : Nat
deriving DecidableEq, Repr

/-- A distribution that this device runs as the Reel (R290): its set, the next chunk, the units that reported. -/
structure Dist where
  gen : Nat
  size : Nat
  applyEpoch : Nat
  items : List CfgItem
  tables : List (Nat × List Nat)
  next : Nat
  ready : List Nat
  rejected : List (Nat × Nat)
  again : List Nat
  sent : Nat
deriving DecidableEq, Repr

/-- The String state (R272 to R291). `members` are the other joined devices as the Reel knows them: UNIT, SLOT, and a key
that orders them by POS: HOPS + 1 of a report that travelled west, 4,096 − HOPS of one that travelled east. `acks` holds
the last report acknowledged per unit: UNIT, SEQ, RESULT. -/
structure Str where
  bypassClosed : Bool
  seqs : List (Nat × Nat)
  seen : List (Nat × Nat × Nat)
  reports : List Report
  trainFrom : Nat
  firstUp : Option Nat
  lastRx : Nat
  copies : List EpochCopy
  leaveAt : Option Nat
  leaveNight : Bool
  leaveAcked : Bool
  merge : Option (Nat × Nat)
  electFrom : Nat
  best : Nat
  reelKey : Nat
  breaks : List Nat
  dir : List DirEntry
  dirGen : Nat
  reelGen : Nat
  delays : List (Nat × List Nat)
  offer : Option Offer
  members : List (Nat × Nat × Nat)
  acks : List (Nat × Nat × Nat)
  processed : Nat
  collector : List (Nat × Nat × Instr)
  summaries : List Summary
  census : Option Nat
  heard : List Nat
  dist : Option Dist
  pub : Option (MbxHdr × Nat)
  newRecs : Nat
  summaryBy : Option Nat
  fetch : Option (Nat × Nat)
deriving DecidableEq, Repr

/-! ### Pair -/

/-- The pair state (R293 to R316). `unconf` lists the deltas that the standby has not confirmed: CUT_EPOCH, FIRST_SEQ,
LAST_SEQ, page numbers; `stagedP` and `stagedR` are what the standby has received of the delta in progress. `testFails`
holds the epochs of failed self-tests, `readySince` the epoch since which READY has been 1, `bulk` the pages that the
bulk copy still has to send and their number at its start. -/
structure Pair where
  claim : Nat
  lastClaim : Nat
  peerClaim : Nat
  lastCutRx : Nat
  lastRx : Nat
  deltaPages : Nat
  deltaRecs : Nat
  deltaBytes : Nat
  deltaFirst : Nat
  deltaAddrs : List Nat
  confirmed : Nat
  naks : Nat
  unconf : List (Nat × Nat × Nat × List Nat)
  stagedP : List (Nat × Block)
  stagedR : List Rec
  synced : Bool
  bulk : Nat × Nat
  health : Nat
  testItem : Nat
  testFails : List Nat
  readySince : Option Nat
  preempting : List Nat
  preempted : Bool
  dEpoch : Nat
  cause : Nat
  takeFrom : Option Nat
  handing : Bool
  releaseEpoch : Nat
  released : Bool
  actUntil : Nat
  second : Bool
  helloRx : Option Hello
  peerGone : Bool
  lastHandback : Option Nat
  fenceMember : Nat
  unpairing : Bool
  mbxWait : Option MbxHdr
  mbxOp : Nat
deriving DecidableEq, Repr

/-! ### Dawn, configuration, security, power -/

/-- Dawn and the configuration sets (R318 to R340). `step` is the step that runs (18 when Dawn is complete), `redo` the
steps that remain of the selected ones after NIGHT (R368); `fresh` says which failures of earlier starts do not count
(bit 0 all, bit 1 those of DAWN_S03 to DAWN_S05); `exported` is the image of the last PERSIST_EXPORT with its
generation; `dead` holds the SerDes groups that failed DAWN_S10. `evidence` is the
evidence of each array (R104): 0 Gondola, 1 Ballast journal copy, 2 tail copy, 3 none. -/
structure Dwn where
  step : Nat
  redo : List Nat
  slot : Nat
  image : Option Image
  tried : Bool
  fresh : Nat
  dead : Nat
  jrnBad : Bool
  rawEpoch : Bool
  launch : Option MbxHdr
  shadowTables : List (Nat × List Nat)
  tables : List (Nat × List Nat)
  chunk : Option (Nat × Nat × List Nat)
  exported : Option (Nat × List Nat)
  upload : Option (Nat × Nat × Nat)
  flashOp : Option (Nat × MbxHdr × Image × Nat)
  otpOp : Option (Nat × MbxHdr × Nat × Nat)
  nonce : Option Nat
  configGen : Nat
  evidence : List Nat
  tails : List (Option Tail)
  ballastHeld : Bool
  discard : Option (Bool × List Extent)
  restored : Bool
  needsRestore : Bool
deriving DecidableEq, Repr

/-- Power management (R359 to R368, R420). `prepDone` says that step 6 of R361 has ended, `shutStep` is the step of a
SHUTDOWN, `engMark` the sum of the engine's job counters at the last boundary, `reassemble` and `rearm` say that after a wake the arrays are to be reassembled and the Ballast armed. -/
structure Pwr where
  idleEpochs : Nat
  engMark : Nat
  latch : Nat
  nightReq : Option MbxHdr
  prepDone : Bool
  shutdownDone : Bool
  shutdownReq : Option MbxHdr
  shutStep : Nat
  reassemble : Bool
  rearm : Bool
  rstHeld : Bool
  pendingRst : Nat
  pfail : Bool
  dumping : Bool
  dumpCodes : Nat
  given : List Nat
  tripHeld : Bool
  inNight : Bool
  powered : Bool
  offArrays : List Nat
deriving DecidableEq, Repr

/-- The test port (R416): instruction held (0 IDCODE, 1 BYPASS, 2 SAMPLE/PRELOAD, 3 EXTEST, 4 HIGHZ, 5 CLAMP), values in the
boundary chain, outputs at high impedance. -/
structure Jtag where
  ins : Nat
  outs : List (Nat × Bool)
  highz : Bool
deriving DecidableEq, Repr

/-- A drive that is present but not ready (Table 9.4). Phases: 0 waits for DAWN_S11, 1 debounce, 2 powered, 3 to 5 link
training (first try and two more), 6 link up, 7 LINK_FAIL, 8 powered off. Numbers 64 and 65 are the vault ports. -/
structure Coming where
  drv : Nat
  phase : Nat
  drive : Drive
deriving DecidableEq, Repr

/-- What is attached to the device: the drives that are ready, by number, those that are present but not ready, drives that
have been removed (they keep what they hold), the vault drives, straps. -/
structure Ext where
  drives : SMap (Option Drive)
  coming : List Coming
  loose : List Drive
  vaults : List Vault
  straps : Nat
deriving DecidableEq, Repr

/-! ### The state -/

/-- The whole machine. `pending` is the queue of commands that wait, first in, first out. `regs` holds every register
field as the difference (bitwise exclusive or) of its value from its reset value, so that a field at reset is not
listed; `shadow` holds the shadow values of RWL fields in the same form; `latch` holds the _HI latches per link
(R373). `freeCtr` is the model's own counter of free values. -/
structure State where
  pending : List Instr
  regs : SMap Nat
  shadow : SMap Nat
  latch : SMap Nat
  out : List OutEv
  freeCtr : Nat
  kicks : List Nat
  tet : Tether
  arrs : List Arr
  ns : List Ns
  jrn : Jrn
  bsk : Bsk
  ce : Ce
  env : Env
  wsk : Wsk
  mbx : Mbx
  links : List HLink
  fab : Fab
  spl : Spl
  str : Str
  pair : Pair
  dwn : Dwn
  pwr : Pwr
  jtag : Jtag
  nv : Nv
  ext : Ext
deriving DecidableEq, Repr

/-! ### Reset values -/

/-- A rebuild slot that does not run. -/
def Slot.idle : Slot := ⟨false, 0, 0, 0, false, 0, [], 0, 0, 0⟩

/-- An array that is not enabled. -/
def Arr.none : Arr :=
  ⟨0, 0, 0, [], [], Slot.idle, Slot.idle, Option.none, Option.none, 0, [], [], [], 0, [], Option.none, false, 0, [], [], 0, 0⟩

/-- An array-state entry never written. -/
def ArrEntry.none : ArrEntry := ⟨0, 7, 0, [], 0, 0, 0, 0, 0xFF, 0, 0, 0, []⟩

/-- A root copy never written. -/
def Root.blank : Root := ⟨false, false, 0, 0, 0, 0, 0, 0, 0⟩

/-- A host link that is down. -/
def HLink.down : HLink := ⟨false, false, false, [], [], [], false⟩

/-- An idle Spool channel. -/
def SplCh.idle : SplCh := ⟨Option.none, 0, Option.none, 0, false, .fetch⟩

/-- An empty copy of the persistent state partition. -/
def Persist.none : Persist := ⟨Root.blank, [], [], [], Root.blank, []⟩

/-- An empty vault port. -/
def Vault.absent : Vault :=
  ⟨0, false, false, false, false, false, 0, 0, 0, 0, 0, 0, false, false, 0, [], Persist.none, [], [], []⟩

/-- The Tether after reset: epoch 0, free-running, no source (Tables 2.6, 2.7). -/
def Tether.reset : Tether :=
  ⟨0, Option.none, [], 0, false, Option.none, false, Option.none, 0, 0, 37, 0, 0, false, false, 0, 96, [], [], Option.none, false⟩

/-- The command engine after reset: both PCIe controllers disabled, no queue, no context. -/
def Ce.reset : Ce :=
  { ctxs := [], nextId := 1, queues := [], cqs := [],
    ctrls := [⟨0, false, false, false, 0, false, false, 0, 0, 0, [], 0, Option.none, [], false, [], 0, [], 0, 0, 0, 0, 0, 0⟩,
              ⟨1, false, false, false, 0, false, false, 0, 0, 0, [], 0, Option.none, [], false, [], 0, [], 0, 0, 0, 0, 0, 0⟩],
    locks := [], sops := [], mcmds := [], adminWait := [], rr := 0, resvs := [], download := [],
    dlImage := Option.none, commit := Option.none, fwWrites := [], actReady := false, formats := [], cmdsEpoch := 0, waitEpochs := 0, ctrlSeq := 16, nsGone := [], jobs := [], jobWait := [], sliceFails := [], errs := [], anaGen := 0 }

/-- The String after reset: bypass closed, nothing joined (R280). -/
def Str.reset : Str :=
  { bypassClosed := true, seqs := [], seen := [], reports := [], trainFrom := 0, firstUp := Option.none, lastRx := 0,
    copies := [], leaveAt := Option.none, leaveNight := false, leaveAcked := false, merge := Option.none, electFrom := 0, best := 0, reelKey := 0, breaks := [], dir := [],
    dirGen := 0, reelGen := 0, delays := [], offer := Option.none, members := [], acks := [], processed := 0, collector := [], summaries := [],
    census := Option.none, heard := [], dist := Option.none, pub := Option.none, newRecs := 0,
    summaryBy := Option.none, fetch := Option.none }

/-- The pair state after reset. -/
def Pair.reset : Pair :=
  { claim := 0, lastClaim := 0, peerClaim := 0, lastCutRx := 0, lastRx := 0, deltaPages := 0, deltaRecs := 0,
    deltaBytes := 0, deltaFirst := 1, deltaAddrs := [], confirmed := 0, naks := 0, unconf := [], stagedP := [],
    stagedR := [], synced := false, bulk := (0, 0), health := 0, testItem := 0, testFails := [],
    readySince := Option.none, preempting := [], preempted := false, dEpoch := 0, cause := 0, takeFrom := Option.none,
    handing := false, releaseEpoch := 0, released := false, actUntil := 0, second := false, helloRx := Option.none,
    peerGone := false, lastHandback := Option.none, fenceMember := 0, unpairing := false, mbxWait := Option.none,
    mbxOp := 0 }

/-- Dawn before its first step. -/
def Dwn.reset : Dwn :=
  { step := 0, redo := [], slot := 0, image := Option.none, tried := false, fresh := 0, dead := 0, jrnBad := false,
    rawEpoch := false, launch := Option.none, shadowTables := [], tables := [], chunk := Option.none,
    exported := Option.none, upload := Option.none, flashOp := Option.none, otpOp := Option.none, nonce := Option.none,
    configGen := 0, evidence := [], tails := [], ballastHeld := false, discard := Option.none,
    restored := false, needsRestore := false }

/-- Power management at NOON. -/
def Pwr.reset : Pwr :=
  { idleEpochs := 0, engMark := 0, latch := 0, nightReq := Option.none, prepDone := false, shutdownDone := false,
    shutdownReq := Option.none, shutStep := 0, reassemble := false, rearm := false, rstHeld := false, pendingRst := 0, pfail := false, dumping := false, dumpCodes := 0,
    given := [], tripHeld := false, inNight := false, powered := true, offArrays := [] }

/-- The Envelope after reset: no line (the walk of R192 clears every set). -/
def Env.reset : Env :=
  ⟨[], [], [], [], [], [], [], [], false, Option.none⟩

/-- The Basket after reset: no page listed. -/
def Bsk.reset : Bsk :=
  ⟨[], [], [], [], [], 0, 0, 0, [], [], [], false, 0, false, 0, []⟩

/-- The Gondola, flash and fuses as the device leaves manufacture (R418, Table 13.10): no record written, the
Windsock header valid, key slot 0 programmed. -/
def Nv.factory0 : Nv :=
  { ring := [], rootA := Root.blank, rootB := Root.blank, arrEntries := [], progs := [], sani := Option.none,
    saniStat := 0, saniAct := 0, saniFail := false, stepLog := [], stepNext := 0,
    startNo := 0, nsTable := [], pairSynced := false, dirtyMap := [], marker := 0, dumpStart := Option.none, dumpMs := 0, armedSeq := 0,
    wsk := [], user := [], flashA := Option.none, flashB := Option.none, shadowA := Option.none,
    shadowB := Option.none, bootA := Option.none, bootB := Option.none, clearFails := false, clearBoot := false,
    slots := [⟨true, false, false, 0⟩, ⟨false, false, false, 0⟩, ⟨false, false, false, 0⟩, ⟨false, false, false, 0⟩],
    hostKey := ⟨false, false, false, 0⟩, fwSvn := 0, deviceId := 0, secureBoot := true, debugLock := false,
    persistMode := false, otpFail := false, serial := 0, macBase := 0, certChain := [] }

/-- The machine right after power-on reset: every register at its reset value, nothing attached. -/
def State.reset : State :=
  { pending := [], regs := [], shadow := [], latch := [], out := [], freeCtr := 0, kicks := [],
    tet := Tether.reset,
    arrs := List.replicate 16 Arr.none,
    ns := [],
    jrn := ⟨1, [], 0, 0, 1, false, []⟩,
    bsk := Bsk.reset, ce := Ce.reset, env := Env.reset,
    wsk := ⟨[], [], Option.none, Option.none, [], Option.none, 0, [], 0, 0⟩,
    mbx := ⟨[], [], [], [], []⟩,
    links := List.replicate 4 HLink.down,
    fab := ⟨[], 1, [], 0, [], [0, 0, 0, 0], [0, 0, 0, 0], [0, 0, 0, 0]⟩,
    spl := ⟨List.replicate 64 SplCh.idle, [], []⟩,
    str := Str.reset, pair := Pair.reset, dwn := Dwn.reset, pwr := Pwr.reset,
    jtag := ⟨0, [], false⟩,
    nv := Nv.factory0,
    ext := ⟨[], [], [], [Vault.absent, Vault.absent], 0⟩ }

/-! ### Stops -/

/-- The faults of the model. -/
inductive Fault where
  /-- POWER_ON with a supply beyond its absolute maximum rating: the spec gives the device no behaviour there
  (R400). Safe: the model stops where the hardware may be damaged. -/
  | outsideRatings
deriving DecidableEq, Repr

/-- The refusals of the model. -/
inductive Refusal where
  /-- A command whose meaning is not written yet; raised by `exec` alone. Safe: no claim can be proved of it. -/
  | notModelled (mnemonic : String)
deriving DecidableEq, Repr

end Sys2Proof.Machine
end

