-- ==== Sys2Proof/Machine/Ops.lean ====
section
/-! DEFINITION. The named operations over registers, outputs, interrupts and the recorder that every meaning uses. -/

namespace Sys2Proof.Machine

/-! ### Error codes (Table 16.9) -/

def eOk : Nat := 0x00
def eField : Nat := 0x01
def eRange : Nat := 0x02
def eState : Nat := 0x03
def eBusy : Nat := 0x04
def eAuth : Nat := 0x05
def eNospace : Nat := 0x06
def eUnsup : Nat := 0x07
def eDirty : Nat := 0x08
def eClaim : Nat := 0x09
def eTime : Nat := 0x0A
def eInternal : Nat := 0x0B

/-! ### Registers -/

/-- A register field's value: its reset value with the listed difference (R8). -/
def State.rd (s : State) (f : Fld) : Nat := SMap.get 0 f.key s.regs ^^^ f.rst

/-- Set a register field, cut to its width. -/
def State.wr (s : State) (f : Fld) (v : Nat) : State :=
  { s with regs := SMap.set 0 f.key ((v % 2 ^ f.w) ^^^ f.rst) s.regs }

/-- Set an RWL field in the active set and in the shadow set: a change that the device itself makes (R380). -/
def State.wrSet (s : State) (f : Fld) (v : Nat) : State :=
  { s.wr f v with shadow := SMap.set 0 f.key ((v % 2 ^ f.w) ^^^ f.rst) s.shadow }

/-- A one-bit field as a truth value. -/
def State.on (s : State) (f : Fld) : Bool := s.rd f ≠ 0

/-- Set bits of a field: the way an event raises a cause (R383). -/
def State.raise (s : State) (f : Fld) (mask : Nat := 1) : State := s.wr f (s.rd f ||| mask)

/-- Clear bits of a field. -/
def State.clr (s : State) (f : Fld) (mask : Nat) : State :=
  s.wr f (s.rd f - (s.rd f &&& mask))

/-- Count up, saturating at the field's width. -/
def State.incSat (s : State) (f : Fld) (n : Nat := 1) : State := s.wr f (min (s.rd f + n) (2 ^ f.w - 1))

/-- Count up, wrapping at the field's width. -/
def State.incWrap (s : State) (f : Fld) (n : Nat := 1) : State := s.wr f (s.rd f + n)

/-- Bit `i` of a number. -/
def bit (v i : Nat) : Bool := v / 2 ^ i % 2 = 1

/-- The bits [hi:lo] of a number, `w` wide. -/
def bits (v lo w : Nat) : Nat := v / 2 ^ lo % 2 ^ w

/-- A truth value as a bit. -/
def b2n (b : Bool) : Nat := if b then 1 else 0

/-! ### Free values and outputs -/

/-- A value the spec leaves open: the next free value of the run, and the counter advanced. -/
def State.freeNat (s : State) (w : Nat) : Nat := (Config.freeValue w s.freeCtr).toNat

/-- The state after one free value has been used. -/
def State.useFree (s : State) : State := { s with freeCtr := s.freeCtr + 1 }

/-- Change the vaults. -/
def State.modVaults (s : State) (f : Nat → Vault → Vault) : State :=
  { s with ext.vaults := ((List.range s.ext.vaults.length).zip s.ext.vaults).map fun p => f p.1 p.2 }

/-- Send something to the outside; the newest output stands first. -/
def State.emit (s : State) (e : OutEv) : State := { s with out := e :: s.out }

/-! ### Windsock events (R350) -/

/-- The size of the event queue. -/
def wskQueueMax : Nat := 256

/-- An event reaches the recorder's queue; a producer that finds it full waits and QUEUE_WAIT is raised (R350).
No record is written while a dump runs (R213). -/
def State.event (s : State) (code source : Nat) (payload : List Nat) : State :=
  if s.pwr.dumping then s else
  let e : WEv := ⟨code, source, payload, s.tet.epoch⟩
  if s.wsk.queue.length < wskQueueMax then
    let s := { s with wsk.queue := s.wsk.queue ++ [e] }
    s.wr R.WSK_QUEUE_PEAK (max (s.rd R.WSK_QUEUE_PEAK) s.wsk.queue.length)
  else
    ({ s with wsk.blocked := s.wsk.blocked ++ [e] }).raise R.WSK_INT_STATUS_QUEUE_WAIT

/-- SOURCE of a record (Table 14.5): an array. -/
def srcArr (a : Nat) : Nat := 0x20 + a % 32
/-- A drive port. -/
def srcDrv (p : Nat) : Nat := 0x40 + p % 32
/-- A retention bank. -/
def srcBank (b : Nat) : Nat := 0xC0 + b % 32
/-- A Dawn step. -/
def srcStep (d : Nat) : Nat := 0xE0 + d % 32

/-- A number as `n` little-endian bytes (R6). -/
def leBytes : Nat → Nat → List Nat
  | 0, _ => []
  | n + 1, v => v % 256 :: leBytes n (v / 256)

/-- Little-endian bytes as a number. -/
def leNat : List Nat → Nat
  | [] => 0
  | b :: bs => b % 256 + 256 * leNat bs

/-! ### The boot record (R322) -/

/-- The copy of the boot record in force, the one with the higher SEQ; `true` names copy 1. -/
def bootInForce (n : Nv) : Option (Bool × BootRec) :=
  match n.bootA, n.bootB with
  | some a, some b => if a.seq < b.seq then some (true, b) else some (false, a)
  | some a, none => some (false, a)
  | none, some b => some (true, b)
  | none, none => none

/-- PREFERRED: slot A with no valid copy. -/
def Nv.preferred (n : Nv) : Nat := ((bootInForce n).map (·.2.preferred)).getD 0

/-! ### Gauges (R344) -/

/-- One sample into a list of working gauges. -/
def gaugeAdd (g v e : Nat) : List Gauge → List Gauge
  | [] => [⟨g, 1, v, v, e, e, v, [(Nat.log2 v, 1)]⟩]
  | x :: xs =>
    if x.id = g then
      let k := Nat.log2 v
      let bins := if x.bins.any (·.1 = k) then x.bins.map fun p => if p.1 = k then (k, min (p.2 + 1) 0xFFFFFFFF) else p
        else x.bins ++ [(k, 1)]
      { x with
        samples := min (x.samples + 1) (2 ^ 64 - 1), sum := min (x.sum + v) (2 ^ 64 - 1), bins := bins,
        min := if x.samples = 0 ∨ v < x.min then v else x.min,
        minE := if x.samples = 0 ∨ v < x.min then e else x.minE,
        max := if x.samples = 0 ∨ v > x.max then v else x.max,
        maxE := if x.samples = 0 ∨ v > x.max then e else x.maxE } :: xs
    else x :: gaugeAdd g v e xs

/-- Gauges sample from the end of DAWN_S17 and while GAUGES_EN is 1 (R344). -/
def State.gauge (s : State) (g v : Nat) : State :=
  if s.on R.GLB_STATUS_READY ∧ s.on R.WSK_CFG_GAUGES_EN then
    { s with wsk.gauges := gaugeAdd g (v % 2 ^ 32) s.tet.epoch s.wsk.gauges }
  else s

/-- A latency sample: the model has no clock below the epoch, so the sample is a free value. -/
def State.gaugeTime (s : State) (g : Nat) : State := (s.gauge g (s.freeNat 32)).useFree

/-! ### Lists -/

/-- Replace the element at an index by a function of it. -/
def modAt {α : Type} (i : Nat) (f : α → α) : List α → List α
  | [] => []
  | x :: xs => match i with
    | 0 => f x :: xs
    | i + 1 => x :: modAt i f xs

/-- Insert into a rising list of numbers without repeats. -/
def insNat (n : Nat) : List Nat → List Nat
  | [] => [n]
  | x :: xs => if n < x then n :: x :: xs else if n = x then x :: xs else x :: insNat n xs

/-- The numbers lo, lo+1, … (n of them). -/
def rangeFrom (lo n : Nat) : List Nat := (List.range n).map (· + lo)

/-- The first element that satisfies a test, with the rest of the list. -/
def takeFirst {α : Type} (p : α → Bool) : List α → Option (α × List α)
  | [] => none
  | x :: xs => if p x then some (x, xs) else
    match takeFirst p xs with
    | some (y, ys) => some (y, x :: ys)
    | none => none

/-- Repeat a state change over a list. -/
def State.each {α : Type} (s : State) (l : List α) (f : State → α → State) : State := l.foldl f s

/-! ### Interrupt aggregation (R382 to R384) -/

/-- The bitwise AND of two registers of the same layout is not zero. -/
def layAnd (s : State) : List LFld → List LFld → Bool
  | a :: as, b :: bs => (s.rd a.fld &&& s.rd b.fld) ≠ 0 || layAnd s as bs
  | _, _ => false

/-- Source `n` is pending, seen from `link` (only source 24 is banked). -/
def srcPending (s : State) (link n : Nat) : Bool :=
  match intSources[n]? with
  | some (st, en) =>
    match layoutAt link st, layoutAt link en with
    | some a, some b => layAnd s a b
    | _, _ => false
  | none => false

/-- Source `n` drives `link`: bit `link` of ROUTE, but source 24 drives only the link of its bank. -/
def srcRouted (s : State) (link n : Nat) : Bool := n = 24 || bit (s.rd (R.GLB_INT_MAPs_ROUTE n)) link

/-- The vectors whose level is 1 on a link. -/
def vecLevels (s : State) (link : Nat) : List Nat :=
  ((List.range 25).filter fun n => srcRouted s link n && srcPending s link n).foldl
    (fun l n => insNat (s.rd (R.GLB_INT_MAPs_VECTOR n)) l) []

/-- How `kicks` names a W1C write to source `n` on `link`: source 24 is that link's bank alone. -/
def kickOf (link n : Nat) : Nat := if n = 24 then 32 * (link + 1) + 24 else n

/-- The vectors that `kicks` (sources written by W1C in this command) send a message for: level still 1. -/
def kickVecs (s : State) (link : Nat) (levels : List Nat) : List Nat :=
  let ns := (s.kicks.filter fun k => decide (k < 32) || k / 32 = link + 1).map (· % 32)
  (ns.filter fun n => srcRouted s link n && srcPending s link n).foldl
    (fun l n => if levels.contains (s.rd (R.GLB_INT_MAPs_VECTOR n)) then insNat (s.rd (R.GLB_INT_MAPs_VECTOR n)) l else l) []

/-- One link's levels, pending bits and messages brought up to date. -/
def settleLink (s : State) (out : List OutEv) (link : Nat) (l : HLink) : HLink × List OutEv :=
  let lv := vecLevels s link
  let send := (kickVecs s link lv).foldl (fun a v => insNat v a) (lv.filter fun v => ¬ l.levels.contains v)
  let masked := fun v => l.fmask || l.vmask.contains v
  let pend := (l.pend.filter fun v => lv.contains v)
  if l.msixEn then
    ({ l with levels := lv, pend := (send.filter masked).foldl (fun a v => insNat v a) pend },
      ((send.filter fun v => ¬ masked v).map (OutEv.msix link)).reverse ++ out)
  else ({ l with levels := lv, pend := pend }, out)

/-- All four links, link 0 first. -/
def settleLinks (s : State) : List HLink → Nat → List OutEv → List HLink × List OutEv
  | [], _, out => ([], out)
  | l :: ls, i, out =>
    let r := settleLink s out i l
    let rs := settleLinks s ls (i + 1) r.2
    (r.1 :: rs.1, rs.2)

/-- The aggregation stage after a command: levels, MSI-X messages, pending bits (R384). Nothing else changes. -/
def settle (s : State) : State :=
  let r := settleLinks s s.links 0 s.out
  { s with links := r.1, out := r.2, kicks := [] }

/-- The outcome of a command. -/
abbrev Out := Host.Outcome State Fault Refusal

/-- Every meaning ends here: the next state, with the interrupt aggregation brought up to date. -/
def fin (s : State) : Out := .next (settle s)

/-- The device takes part in nothing: no power, reset or trip held, or NIGHT from its commit to the end of exit (R358,
R362, R371, R372). -/
def deviceOff (s : State) : Bool := ¬ s.pwr.powered || s.pwr.rstHeld || s.pwr.tripHeld || s.pwr.inNight

/-- A meaning of a command that reaches nothing while the device takes part in nothing: the next state is `t`, or `s`
itself. -/
def live (s t : State) : Out := fin (if deviceOff s then s else t)

/-! ### Device-wide conditions -/

/-- Service is open: DAWN_S17 has passed and the device is not in the safe state. -/
def State.ready (s : State) : Bool := s.on R.GLB_STATUS_READY

/-- The safe state (R321). -/
def State.safe (s : State) : Bool := s.on R.DWN_STATUS_SAFE

/-- The unit identifier (R294): STG_ID.UNIT. -/
def State.unit (s : State) : Nat := s.rd R.STG_ID_UNIT

/-- The unit forms a pair and is not SOLO or SEPARATED: SPR STATE codes are those of Table 12.1. -/
def State.pairState (s : State) : Nat := s.rd R.SPR_STATUS_STATE

end Sys2Proof.Machine
end

