-- ==== Sys2Proof/Machine/Geom.lean ====
section
/-! DEFINITION. Array geometry (R50 to R60), member addresses, the drives behind members, columns with their
erasures (R114, R124), and the mapping of namespace blocks. -/

namespace Sys2Proof.Machine

/-! ### Geometry -/

/-- n, the members of array `a`. -/
def memN (s : State) (a : Nat) : Nat := s.rd (R.STR_An_GEOM_MEMBERS a)

/-- b, the blocks of one strip (Table 3.1). -/
def strB (s : State) (a : Nat) : Nat := 16 * 2 ^ s.rd (R.STR_An_GEOM_STRIP a)

/-- d, the data strips of a stripe. -/
def dataN (s : State) (a : Nat) : Nat := memN s a - 2

/-- b × d, the data blocks of a stripe. -/
def perStripe (s : State) (a : Nat) : Nat := strB s a * dataN s a

/-- The member that holds P of stripe `st` in an array of `n` members (R56). -/
def pMem (n st : Nat) : Nat := n - 1 - st % n

/-- The member that holds Q (R56). -/
def qMem (n st : Nat) : Nat := (pMem n st + 1) % n

/-- The member that holds data index `i` (R56). -/
def dMem (n st i : Nat) : Nat := (qMem n st + 1 + i) % n

/-- The data index that member `m` holds, where it holds data (R56). -/
def dIdx (n st m : Nat) : Nat := (m + 2 * n - qMem n st - 1) % n

/-- The first member LBA of the data region (R51). -/
def dataLba : Nat := 262144

/-- The member LBA of column `k` of stripe `st` (R57). -/
def memLba (b st k : Nat) : Nat := dataLba + st * b + k

/-- The largest number of stripes (R53). -/
def maxStripes : Nat := 8313110528

/-- S for a smallest member of `c` blocks (R53). -/
def stripesFor (c b : Nat) : Nat := min ((c - dataLba) / b) maxStripes

/-- Where a namespace block lies: stripe, data index, column (R57). -/
structure Place where
  stripe : Nat
  idx : Nat
  col : Nat
deriving DecidableEq, Repr

/-- The place of namespace block `l` (R57). -/
def placeOf (s : State) (ns : Ns) (l : Nat) : Place :=
  let b := strB s ns.array
  let bd := perStripe s ns.array
  let a := ns.base * bd + l
  ⟨a / bd, a % bd / b, a % bd % b⟩

/-- The namespace LBA of data index `i`, column `k` of stripe `st` of a namespace. -/
def lbaOf (s : State) (ns : Ns) (st i k : Nat) : Nat :=
  (st - ns.base) * perStripe s ns.array + i * strB s ns.array + k

/-- The namespace whose stripes include `st` of array `a`. -/
def nsOfStripe (s : State) (a st : Nat) : Option Ns :=
  s.ns.find? fun x => x.array = a && decide (x.base ≤ st) && decide (st < x.base + x.stripes)

/-! ### Arrays and members -/

/-- Array `a`'s working state. -/
def State.arr (s : State) (a : Nat) : Arr := s.arrs.getD a Arr.none

/-- Change array `a`'s working state. -/
def State.modArr (s : State) (a : Nat) (f : Arr → Arr) : State := { s with arrs := modAt a f s.arrs }

/-- Array `a` is enabled. -/
def arrOn (s : State) (a : Nat) : Bool := a < 16 && s.on (R.STR_An_GEOM_EN a)

/-- The state code of array `a` (Table 3.8). -/
def arrState (s : State) (a : Nat) : Nat := s.rd (R.STR_An_STATUS_STATE a)

def aOptimal : Nat := 0
def aDegraded : Nat := 1
def aCritical : Nat := 2
def aRebuilding : Nat := 3
def aResyncing : Nat := 4
def aFailed : Nat := 5
def aOffline : Nat := 6
def aNone : Nat := 7

/-- The array serves I/O (Table 3.8). -/
def arrServes (s : State) (a : Nat) : Bool := arrOn s a && arrState s a < 5

/-- Member `m` is missing or under rebuild. -/
def missing (s : State) (a m : Nat) : Bool := bit (s.rd (R.STR_An_MISSMAP_MISS a)) m

/-- The members missing. -/
def missMembers (s : State) (a : Nat) : List Nat := (List.range (memN s a)).filter (missing s a)

/-- The number of members missing. -/
def missCount (s : State) (a : Nat) : Nat := (missMembers s a).length

/-- The drive number of member `m`: twice the port plus the subport (R54). -/
def memDrv (s : State) (a m : Nat) : Nat :=
  2 * s.rd (R.STR_An_MEMBERk_PORT a m) + s.rd (R.STR_An_MEMBERk_SUB a m)

/-- The array and member index that drive `d` holds. -/
def memberOf (s : State) (d : Nat) : Option (Nat × Nat) :=
  ((List.range 16).flatMap fun a => if arrOn s a then (List.range (memN s a)).map fun m => (a, m) else []).find?
    fun p => memDrv s p.1 p.2 = d

/-- The two rebuild slots of array `a`. -/
def slots (s : State) (a : Nat) : List Slot := [(s.arr a).rb0, (s.arr a).rb1]

/-- The slot that rebuilds member `m`. -/
def slotOf (s : State) (a m : Nat) : Option Slot := (slots s a).find? fun x => x.act && x.target = m

/-- Stripe `st` is in the valid set of the target of slot `x`, the other slot being `y` (R124). -/
def validIn (x y : Slot) (st : Nat) : Bool :=
  decide (st < x.wm) || x.ahead.contains st || (decide (x.exLo ≤ st) && decide (st < x.exHi)) ||
  (y.act && y.joined && decide (y.joinFrom ≤ st) && (decide (st < y.wm) || y.ahead.contains st))

/-- Member `m` holds a target that is valid at stripe `st`. -/
def validTarget (s : State) (a m st : Nat) : Bool :=
  let r := s.arr a
  (r.rb0.act && r.rb0.target = m && validIn r.rb0 r.rb1 st) || (r.rb1.act && r.rb1.target = m && validIn r.rb1 r.rb0 st)

/-- The strip of member `m` in stripe `st` can be read: present, or a target inside its valid set (R114, R124). -/
def stripUp (s : State) (a m st : Nat) : Bool := ¬ missing s a m || validTarget s a m st

/-- The drives that a member write of member `m` in stripe `st` goes to: the member or its valid target, and a
copyback destination below its watermark (R124, R131). -/
def writeDrvs (s : State) (a m st : Nat) : List Nat :=
  if stripUp s a m st then
    memDrv s a m :: (match (s.arr a).cb with
      | some c => if c.src = m ∧ st < c.wm then [c.dest] else []
      | none => [])
  else []

/-- The members of stripe `st` that take member writes. -/
def writeMembers (s : State) (a st : Nat) : List Nat := (List.range (memN s a)).filter fun m => stripUp s a m st

/-- Bits of a list of member indexes. -/
def maskOf (l : List Nat) : Nat := l.foldl (fun m i => m ||| 2 ^ i) 0

/-! ### Drives and media -/

/-- The drive at a place. -/
def driveAt (s : State) (d : Nat) : Option Drive := SMap.get none d s.ext.drives

/-- Change the drive at a place. -/
def State.modDrive (s : State) (d : Nat) (f : Drive → Drive) : State :=
  match driveAt s d with
  | some x => { s with ext.drives := SMap.set none d (some (f x)) s.ext.drives }
  | none => s

/-- Read one block of a drive: none where the drive is absent or the block unreadable. -/
def mediaRead (s : State) (d lba : Nat) : Option Block :=
  match driveAt s d with
  | some x => if x.bad.contains lba then none else some (SMap.get 0 lba x.media)
  | none => none

/-- Write one block of a drive; the drive replaces an unreadable block. -/
def mediaWrite (d lba : Nat) (v : Block) (s : State) : State :=
  s.modDrive d fun x => { x with media := SMap.set 0 lba v x.media, bad := x.bad.filter (· ≠ lba) }

/-- Deallocate blocks of a drive: they read as zeros (R55). -/
def mediaClear (d lba n : Nat) (s : State) : State :=
  s.modDrive d fun x =>
    { x with media := SMap.clear lba n x.media, bad := x.bad.filter fun l => l < lba || lba + n ≤ l }

/-- A pending read repair (array state, R116) of these blocks is dropped: the device has written them. -/
def repairsGone (d lba n : Nat) (s : State) : State :=
  { s with arrs := s.arrs.map fun r =>
      { r with repairs := r.repairs.filter fun p => p.1 ≠ d || p.2.1 < lba || lba + n ≤ p.2.1 } }

/-- Member write of one block: the media of every drive that the member stands for, and the repairs it ends. -/
def memberWrite (a m st k : Nat) (v : Block) (s : State) : State :=
  let lba := memLba (strB s a) st k
  s.each (writeDrvs s a m st) fun s d => repairsGone d lba 1 (mediaWrite d lba v s)

/-- Deallocate stripes [st, st + cnt) of array `a` on every present member and target, and on a copyback destination (R60, R131). -/
def stripesClear (a st cnt : Nat) (s : State) : State :=
  let b := strB s a
  let s := match (s.arr a).cb with
    | some c => mediaClear c.dest (memLba b st 0) (cnt * b) s
    | none => s
  s.each (List.range (memN s a)) fun s m =>
    if missing s a m ∧ slotOf s a m = none then s
    else
      let d := memDrv s a m
      repairsGone d (memLba b st 0) (cnt * b) (mediaClear d (memLba b st 0) (cnt * b) s)

/-! ### Columns -/

/-- The strip of member `m` at column `k` of stripe `st`; `ex` lists (drive, LBA) pairs taken as erased. -/
def stripAt (s : State) (a st k : Nat) (ex : List (Nat × Nat)) (m : Nat) : Option Block :=
  if stripUp s a m st then
    let lba := memLba (strB s a) st k
    if ex.contains (memDrv s a m, lba) then none else mediaRead s (memDrv s a m) lba
  else none

/-- Column `k` of stripe `st` as it can be read (R114). -/
def columnAt (s : State) (a st k : Nat) (ex : List (Nat × Nat)) : Column :=
  let n := memN s a
  ⟨(List.range (dataN s a)).map fun i => stripAt s a st k ex (dMem n st i),
    stripAt s a st k ex (pMem n st), stripAt s a st k ex (qMem n st)⟩

/-- Data block `i` of a column, reconstructed where erased; none beyond two erasures. -/
def dataAt (s : State) (a st k i : Nat) (ex : List (Nat × Nat)) : Option Block :=
  match stripAt s a st k ex (dMem (memN s a) st i) with
  | some v => some v
  | none => match (columnAt s a st k ex).recon with
    | some r => r.1[i]?
    | none => none

/-- The surviving members that reconstruction of data index `i` reads: d of them (R115). -/
def survivors (s : State) (a st k : Nat) (ex : List (Nat × Nat)) : List Nat :=
  let n := memN s a
  let ds := ((List.range (dataN s a)).map (dMem n st)).filter fun m => (stripAt s a st k ex m).isSome
  let p := if (stripAt s a st k ex (pMem n st)).isSome then [pMem n st] else []
  let q := if (stripAt s a st k ex (qMem n st)).isSome then [qMem n st] else []
  (ds ++ p ++ q).take (dataN s a)

/-- The number of erasures of a column. -/
def erasuresAt (s : State) (a st k : Nat) (ex : List (Nat × Nat)) : Nat := (columnAt s a st k ex).erasures

/-- Stripe `st` is marked lost. -/
def isLost (s : State) (a st : Nat) : Bool := (s.arr a).lost.contains st

/-- Stripe `st` is resynchronised (R110): no resync runs, it is out of scope, below the watermark or verified ahead. -/
def synced (s : State) (a st : Nat) : Bool :=
  match (s.arr a).rs with
  | none => true
  | some r => decide (st < r.wm) || r.verified.contains st ||
      (r.regionSize ≠ 0 && ¬ r.regions.contains (st / r.regionSize))

/-! ### The stripe engine (R67, R70) -/

/-- The queue of a slice holds this many jobs (R67). -/
def sliceJobs : Nat := 64

/-- The online slice with the fewest queued input units among those that `p` names and whose queue has room, the lowest number on a tie. -/
def slicePick (p : Nat → Bool) (s : State) : Option Nat :=
  let load := fun j => ((s.ce.jobs.filter fun x => x.slice = j).map (·.units)).sum
  ((List.range 4).filter fun j => p j && ¬ bit (s.rd R.STR_ENG_STATUS_SLICE_OFF) j && decide ((s.ce.jobs.filter fun x => x.slice = j).length < sliceJobs)).foldl
    (fun b j => match b with
      | none => some j
      | some i => if load j < load i then some j else some i) none

/-- SLICE_BUSY shows the slices with queued jobs. -/
def sliceBusy (s : State) : State :=
  s.wr R.STR_ENG_STATUS_SLICE_BUSY (((List.range 4).filter fun j => s.ce.jobs.any fun x => x.slice = j).foldl (fun m j => m ||| 2 ^ j) 0)

/-- A job goes to a slice; none answers where all four queues are full or no slice is online. -/
def jobPlace (op units : Nat) (tried : Bool) (s : State) : Option State :=
  (slicePick (fun _ => true) s).map fun x => { s with ce.jobs := s.ce.jobs ++ [⟨x, units, op, tried⟩] }

/-- Some slice is online. -/
def engineOn (s : State) : Bool := s.rd R.STR_ENG_STATUS_SLICE_OFF ≠ 15

/-- Submit an operation over `cols` columns with `inputs` input strips: jobs of at most 64 KiB per strip, in units of 4 KiB of
input. While the queues are full its jobs wait behind those that wait already (R67). -/
def engine (op cols inputs : Nat) (s : State) : State :=
  if ¬ engineOn s then s else
  sliceBusy (s.each (List.range ((cols + 15) / 16)) fun s j =>
    let units := min 16 (cols - 16 * j) * inputs
    match (if s.ce.jobWait.isEmpty then jobPlace op units false s else none) with
    | some t => t
    | none => { s with ce.jobWait := s.ce.jobWait ++ [(op, units)] })

/-- The operation has jobs that are not retired. -/
def engineBusy (s : State) (op : Nat) : Bool := s.ce.jobs.any (fun x => x.op = op) || s.ce.jobWait.any fun x => x.1 = op

/-- Jobs that waited go to slices, in their order, while there is room. -/
def jobsAdmit : Nat → State → State
  | 0, s => s
  | n + 1, s => match s.ce.jobWait with
    | [] => s
    | x :: xs => match jobPlace x.1 x.2 false { s with ce.jobWait := xs } with
      | some t => jobsAdmit n t
      | none => s

/-- The jobs of an operation that has ended without them are discarded. -/
def jobsDrop (op : Nat) (s : State) : State :=
  if ¬ engineBusy s op then s else
  let s := { s with ce.jobs := s.ce.jobs.filter fun x => x.op ≠ op, ce.jobWait := s.ce.jobWait.filter fun x => x.1 ≠ op }
  sliceBusy (jobsAdmit s.ce.jobWait.length s)

/-! ### Keys of Envelope lines (R171) -/

/-- The MEMBER key of a member block. -/
def memKey (a m lba : Nat) : Nat := lba % 2 ^ 40 + m % 32 * 2 ^ 40 + a % 16 * 2 ^ 45

/-- The BASKET key of a Basket page. -/
def bskKey (p : Nat) : Nat := 2 ^ 62 + p % 2 ^ 24

/-- The MEMBER key of data index `i`, column `k` of stripe `st`. -/
def dataKey (s : State) (a st i k : Nat) : Nat := memKey a (dMem (memN s a) st i) (memLba (strB s a) st k)

/-- The lock-table index of stripe `st` of array `a` (R93). -/
def lockIdx (a st : Nat) : Nat :=
  (st % 65536) ^^^ (st / 65536 % 65536) ^^^ (st / 2 ^ 32 % 2 * 0x8000) ^^^ (a * 0x1111)

end Sys2Proof.Machine
end

