-- ==== Sys2Proof/Machine/Journal.lean ====
section
/-! DEFINITION. The Gondola journal (spec/04_write_path_gondola.md): records, the ring and its reclaim point, carrying,
the root block, PROGRESS and CLAIM records. -/

namespace Sys2Proof.Machine

/-- Slots of the journal ring (Table 4.1). -/
def ringSlots : Nat := 229376

/-- The device mirrors its delta: ACTIVE, or HANDING until RELEASE (R295, R298). -/
def mirroring (s : State) : Bool := s.pairState = 3 || (s.pairState = 5 && ¬ s.pair.released)

/-- The records in the ring, in slot order. -/
def ringRecs (s : State) : List Rec := s.nv.ring.filterMap fun e => e.2

/-- The SEQs that a carried record in the ring replaces (R85). -/
def carriedSeqs (s : State) : List Nat := (ringRecs s).filterMap fun r => if r.carried then some r.origSeq else none

/-- A record is needed (R84). -/
def needed (s : State) (carried : List Nat) (r : Rec) : Bool :=
  ¬ carried.contains r.seq &&
  match r.body with
  | .stripe .. => s.jrn.opens.any fun o => o.seq = r.seq
  | .basket .. => decide (s.jrn.sealUpto < r.seq)
  | .clm .. => decide (s.jrn.rootSeq ≤ r.seq)
  | .progress .. => decide (s.jrn.rootSeq ≤ r.seq)
  | .ckpt sub .. => sub = 0 && r.seq = s.jrn.sealSeq
  | _ => false

/-- The needed records in ascending SEQ. -/
def neededRecs (s : State) : List Rec :=
  ((ringRecs s).filter (needed s (carriedSeqs s))).foldl
    (fun l r => (l.filter fun x => x.seq < r.seq) ++ r :: l.filter fun x => ¬ x.seq < r.seq) []

/-- The reclaim point: the lowest needed SEQ (R84). -/
def reclaim (s : State) : Nat :=
  ((ringRecs s).filter (needed s (carriedSeqs s))).foldl (fun m r => min m r.seq) s.jrn.nextSeq

/-- GON_RING_FREE: free slots, less one for the DONE of each open stripe INTENT (R84, R86). -/
def ringFree (s : State) : Nat := ringSlots - (s.jrn.nextSeq - reclaim s) - s.jrn.opens.length

/-- No INTENT is written while the free count is below RING_LOW (R86). -/
def ringShort (s : State) : Bool := decide (ringFree s < s.rd R.GON_RING_CFG_RING_LOW)

/-- Write one record at the head (R83) with the epoch in which it was first written (R87); send it in the delta when mirroring (R298). -/
def putRec (epoch : Nat) (body : RecBody) (carried : Bool) (orig : Nat) (s : State) : State :=
  let r : Rec := ⟨s.jrn.nextSeq, s.unit, epoch, carried, false, orig, true, body⟩
  let s := { s with nv.ring := SMap.set none (r.seq % ringSlots) (some r) s.nv.ring, jrn.nextSeq := r.seq + 1 }
  if mirroring s then
    { s.emit (.sparRecs [r]) with pair.deltaRecs := s.pair.deltaRecs + 1, pair.deltaBytes := s.pair.deltaBytes + 64 }
  else s

/-- Carry a record forward (R85): rewritten at the head with the epoch in which it was first written; a later DONE names the new
SEQ, and a carried SEAL stays the newest one. DESIGN CHOICE (log entry 69): the extent of a carried Basket INTENT keeps the SEQ of its first
record, which is its place in the order of the writes (R96). -/
def carryRec (r : Rec) (s : State) : State :=
  let q := s.jrn.nextSeq
  let s := (putRec r.epoch r.body true r.seq s).raise R.GON_INT_STATUS_CARRY
  { s with
    jrn.sealSeq := if s.jrn.sealSeq = r.seq then q else s.jrn.sealSeq,
    jrn.opens := s.jrn.opens.map fun o => if o.seq = r.seq then { o with seq := q, carried := true, origSeq := r.seq } else o,
    ce.sops := s.ce.sops.map fun o => if o.seq = r.seq then { o with seq := q } else o,
    bsk.saved := s.bsk.saved.map fun x => if x.owner = r.seq then { x with owner := q } else x }

/-- The device carries every needed record that lies more than 172,032 slots behind the next SEQ, the oldest first (R85). -/
def carryOld (s : State) : State :=
  s.each (neededRecs s) fun s r => if s.jrn.nextSeq - r.seq > 172032 then carryRec r s else s

/-- RING_LOW is raised when the free count first falls below the threshold (R86). -/
def ringLowCheck (s : State) : State :=
  if ringShort s then
    if s.jrn.low then s else ({ s with jrn.low := true }).raise R.GON_INT_STATUS_RING_LOW
  else { s with jrn.low := false }

/-- Write a record, with the carrying and the back-pressure event that it can cause. -/
def record (body : RecBody) (s : State) : State := ringLowCheck (carryOld (putRec s.tet.epoch body false 0 s))

/-- An INTENT has been written since SEQ `q` (R88). -/
def intentSince (q : Nat) (s : State) : Bool :=
  (rangeFrom q (s.jrn.nextSeq - q)).any fun i => match SMap.get none (i % ringSlots) s.nv.ring with
    | some r => match r.body with
      | .stripe .. => ¬ r.carried
      | .basket .. => ¬ r.carried
      | _ => false
    | none => false

/-- A step of the device's own work from `s` to `t` that writes an INTENT does not run while the ring is short (R86). -/
def unlessShort (s t : State) : State := if ringShort s ∧ intentSince s.jrn.nextSeq t then s else t

/-- Write a stripe INTENT and open it (R88); `kind` is OP of Table 4.5. -/
def openStripe (a st op first cols wmask upto save i0 i1 : Nat) (s : State) : State :=
  let q := s.jrn.nextSeq
  let body := RecBody.stripe a st op first cols wmask upto save i0 i1
  let s := { s with jrn.opens := s.jrn.opens ++ [⟨q, s.unit, s.tet.epoch, false, false, 0, true, body⟩] }
  record body s

/-- Write the DONE record that closes an INTENT (R89); STATUS of Table 4.6. -/
def closeStripe (a st q status : Nat) (s : State) : State :=
  record (.done a status q st) { s with jrn.opens := s.jrn.opens.filter fun o => o.seq ≠ q }

/-- OP code of a stripe operation (Table 4.5); a Write Zeroes of whole stripes is a FULL INTENT (R161). -/
def SKind.code : SKind → Nat
  | .full => 0
  | .rmw => 1
  | .rcw => 2
  | .coalesce => 3
  | .repair => 4
  | .zero => 0
  | .trim => 0

/-- The watermark and total of a long operation (Table 4.9). -/
def progressOf (s : State) (kind a target : Nat) : Nat × Nat :=
  let r := s.arr a
  match kind with
  | 0 => match slotOf s a target with
    | some x => (x.wm, x.fin)
    | none => (0, r.stripes)
  | 1 => ((r.cb.map (·.wm)).getD 0, r.stripes)
  | 2 => ((r.rs.map (·.wm)).getD 0, r.stripes)
  | 3 => (r.pt, r.stripes)
  | _ => match s.nv.progs.find? fun p => p.kind = kind && p.ns = target with
    | some p => (p.done, p.total)
    | none => (0, 0)

/-- Write a PROGRESS record (R92). -/
def progress (kind a target pstate : Nat) (s : State) : State :=
  let (wm, total) := progressOf s kind a target
  record (.progress kind a target wm total pstate) s

/-- A watermark has moved: its PROGRESS record is written at the next boundary (R92). -/
def progressDue (kind a target : Nat) (s : State) : State :=
  if s.jrn.progDue.contains (kind, a, target) then s else { s with jrn.progDue := s.jrn.progDue ++ [(kind, a, target)] }

/-- The long operation still stands: one that has completed or has been aborted wrote its last record then (R92). -/
def progressLive (s : State) (p : Nat × Nat × Nat) : Bool :=
  match p.1 with
  | 0 => (slotOf s p.2.1 p.2.2).isSome
  | 1 => ((s.arr p.2.1).cb.map (·.src)) = some p.2.2
  | 2 => (s.arr p.2.1).rs.isSome
  | 3 => arrOn s p.2.1 && arrState s p.2.1 ≠ aFailed
  | k => s.nv.progs.any fun x => x.kind = k && x.ns = p.2.2

/-- The PROGRESS records of an epoch. -/
def progressWrite (s : State) : State :=
  s.each (s.jrn.progDue.filter (progressLive s)) (fun s p => progress p.1 p.2.1 p.2.2 0 s) |> fun s => { s with jrn.progDue := [] }

/-- The array-state entry of array `a` as it stands (Table 4.2); its state byte holds the state and, above, the REASON
that an OFFLINE array keeps through a Dawn. An array whose labels could not be used keeps the entry it had. -/
def arrEntryNow (s : State) (a : Nat) : ArrEntry :=
  if arrOn s a ∧ arrState s a = aOffline ∧ s.rd (R.STR_An_STATUS_REASON a) = 5 then s.nv.arrEntries.getD a ArrEntry.none
  else if arrOn s a then
    let r := s.arr a
    ⟨r.arrayId, arrState s a + 8 * s.rd (R.STR_An_STATUS_REASON a), r.lost.length,
      ((slots s a).filter (·.act)).map fun x => (x.target, x.wm, x.fin),
      (r.cb.map (·.wm)).getD 0, (r.rs.map (·.wm)).getD 0, r.pt,
      (r.cb.map (·.src)).getD 0, (r.cb.map (·.dest)).getD 0xFF, (r.cb.map (·.cause)).getD 0,
      s.rd (R.STR_An_MISSMAP_MISS a), (r.rs.map (·.regionSize)).getD 0, (r.rs.map (·.regions)).getD []⟩
  else ArrEntry.none

/-- The root copy in force: valid with the higher generation (R82). -/
def rootNow (s : State) : Root :=
  if s.nv.rootB.ok ∧ (¬ s.nv.rootA.ok ∨ s.nv.rootA.gen < s.nv.rootB.gen) then s.nv.rootB else s.nv.rootA

/-- The root and the array-state entries are written, to the copy not in force (R82). -/
def rootWrite (clean : Bool) (stopSeq : Nat) (s : State) : State :=
  let old := rootNow s
  let r : Root := ⟨true, clean, old.gen + 1, if clean then stopSeq else 0, reclaim s, s.jrn.sealUpto, s.tet.epoch,
    s.pair.lastClaim, s.dwn.configGen⟩
  let s := { s with nv.arrEntries := (List.range 16).map (arrEntryNow s), jrn.rootSeq := s.jrn.nextSeq }
  if old = s.nv.rootA then { s with nv.rootB := r } else { s with nv.rootA := r }

/-- The root of a unit that is not serving, or does not journal, at a checkpoint boundary or a stop: the one in force with the epoch
(R26, R27, R82). -/
def rootStamp (s : State) : State :=
  let old := rootNow s
  if ¬ old.ok then s else
  let r := { old with gen := old.gen + 1, lastEpoch := s.tet.epoch }
  if old = s.nv.rootA then { s with nv.rootB := r } else { s with nv.rootA := r }

/-- Keep what the array-state entry of `a` holds beside its watermarks: ARRAY_ID, state, lost count, missing members, the identity of a
copyback (R130) and the scope of a resynchronisation; the watermark of a rebuild that has ended goes. -/
def entryKeep (a : Nat) (s : State) : State :=
  let es := (List.range 16).map fun i => (s.nv.arrEntries.getD i ArrEntry.none)
  let n := arrEntryNow s a
  { s with nv.arrEntries := modAt a (fun e =>
      if e.arrayId = n.arrayId then { e with
        state := n.state, lost := n.lost, miss := n.miss, rsSize := n.rsSize, rsRegions := n.rsRegions,
        rb := e.rb.filter fun x => n.rb.any fun y => y.1 = x.1 && y.2.2 = x.2.2, cbSrc := n.cbSrc, cbDest := n.cbDest, cbCause := n.cbCause,
        cb := if e.cbDest = n.cbDest ∧ e.cbSrc = n.cbSrc then e.cb else n.cb }
      else n) es }

/-- Keep the Gondola count of lost stripes of array `a` (R72, R73). -/
def lostCountKeep (a : Nat) (s : State) : State :=
  let es := (List.range 16).map fun i => (s.nv.arrEntries.getD i ArrEntry.none)
  { s with nv.arrEntries := modAt a (fun e => { e with lost := (s.arr a).lost.length }) es }

end Sys2Proof.Machine
end

