-- ==== Sys2Proof/Machine/Lines.lean ====
section
/-! DEFINITION. Envelope lines and the Skirt (spec/07_envelope_cache.md): sets, lookup, tree pseudo-LRU, allocation,
the eviction buffer, offers, dirty metadata lines, invalidation. A line's contents are those at home (R176), so lines
carry no data. -/

namespace Sys2Proof.Machine

/-- The set of a key (R172). -/
def envSet (k : Nat) : Nat :=
  bits k 0 10 ^^^ bits k 10 10 ^^^ bits k 20 10 ^^^ bits k 30 10 ^^^ bits k 40 10 ^^^ bits k 50 10 ^^^ (bits k 60 4 * 64)

/-- Caching is on: MODE is ENABLED (R190, R191). -/
def envOn (s : State) : Bool := s.rd R.ENV_STATUS_MODE = 0

/-- Levels of the pseudo-LRU tree: 16 ways, or 8 once the ways of the scratch window have left the cache (R178, R187,
R188). -/
def envLevels (s : State) : Nat := if s.env.scratchOn then 3 else 4

/-- Cache ways. -/
def envWays (s : State) : Nat := 2 ^ envLevels s

/-- The busy limit of a set (R174). -/
def busyLimit (s : State) : Nat := if s.env.scratchOn then 6 else 12

/-- Busy lines are in FILL or HELD (R174). -/
def LineSt.busy : LineSt → Bool
  | .fill => true
  | .held => true
  | _ => false

/-- The line with a key. -/
def envFind (s : State) (k : Nat) : Option Line := s.env.lines.find? fun l => l.key = k

/-- Change the lines with a key. -/
def State.modLine (s : State) (k : Nat) (f : Line → Line) : State :=
  { s with env.lines := s.env.lines.map fun l => if l.key = k then f l else l }

/-- Drop lines. -/
def dropLines (p : Line → Bool) (s : State) : State := { s with env.lines := s.env.lines.filter fun l => ¬ p l }

/-- Point the tree of a set away from a way: walk from the root, each node to the other side. -/
def plruTouch : Nat → Nat → Nat → Nat → Nat
  | 0, _, t, _ => t
  | n + 1, node, t, way =>
    let b := way / 2 ^ n % 2
    plruTouch n (2 * node + b) (if b = 0 then t ||| 2 ^ node else t - (t &&& 2 ^ node)) way

/-- The victim of the walk among eligible ways; a subtree with none is passed over (R178). -/
def plruVictim (elig : Nat → Bool) : Nat → Nat → Nat → Nat → Option Nat
  | 0, _, lo, _ => if elig lo then some lo else none
  | n + 1, node, lo, t =>
    let r := bit t node
    match plruVictim elig n (2 * node + if r then 1 else 0) (if r then lo + 2 ^ n else lo) t with
    | some v => some v
    | none => plruVictim elig n (2 * node + if r then 0 else 1) (if r then lo else lo + 2 ^ n) t

/-- A hit or an allocation at a way. DESIGN CHOICE (log entry 83): SCRATCH_ON and SCRATCH_OFF change the depth of a set's tree and keep its
stored bits. -/
def envTouch (set way : Nat) (s : State) : State :=
  { s with env.plru := SMap.set 0 set (plruTouch (envLevels s) 1 (SMap.get 0 set s.env.plru) way) s.env.plru }

/-- Entries of the eviction buffer. -/
def evbMax : Nat := 64

/-- A CLEAN victim is offered to Basket (R181). -/
def offered (s : State) (l : Line) : Bool :=
  envOn s && l.key < 2 ^ 62 &&
  (s.rd R.ENV_CFG_OFFER = 1 && l.recon || s.rd R.ENV_CFG_OFFER = 2 && (l.recon || decide (2 ≤ l.hits)))

/-- The outcome of an allocation: made, at the busy limit, or waiting for an eviction buffer entry. -/
inductive AllocRes where
  | made
  | busy
  | evb
deriving DecidableEq, Repr

/-- Evict a victim line: DIRTY through the eviction buffer, CLEAN dropped or offered. -/
def evict (l : Line) (s : State) : State :=
  let s := dropLines (fun x => x.set = l.set && x.way = l.way) s
  match l.st with
  | .dirty => { s.incWrap (R.ENV_CNTj_COUNT 5) with env.evb := s.env.evb ++ [(l.key, false)] }
  | _ => if offered s l ∧ s.env.evb.length < evbMax then { s with env.evb := s.env.evb ++ [(l.key, true)] } else s

/-- Place a new line at a way. -/
def placeLine (k : Nat) (st : LineSt) (recon : Bool) (way : Nat) (s : State) : State :=
  let s := { s with env.lines := s.env.lines ++ [(⟨envSet k, way, st, k, recon, 0⟩ : Line)] }
  envTouch (envSet k) way (s.incWrap (R.ENV_CNTj_COUNT 1))

/-- Allocate a line for a key (R174, R178). A key that has a line takes the new state in it, and the tree points away from its way; a key
that is being evicted waits until its eviction has completed (R180). With caching off only staging uses lines (R190). -/
def envAlloc (k : Nat) (st : LineSt) (recon : Bool) (s : State) : AllocRes × State :=
  if ¬ envOn s ∧ ¬ st.busy then (.made, s) else
  match envFind s k with
  | some x =>
    let s := if st = .fill then s else s.incWrap (R.ENV_CNTj_COUNT 0)
    (.made, envTouch x.set x.way (s.modLine k fun l => { l with st := st, recon := recon }))
  | none =>
    if s.env.evb.any (fun e => e.1 = k && ¬ e.2) then (.evb, s.incWrap (R.ENV_CNTj_COUNT 6)) else
    let ls := s.env.lines.filter fun l => l.set = envSet k && l.way < envWays s
    if st.busy ∧ (ls.filter (·.st.busy)).length ≥ busyLimit s then (.busy, s) else
    match (List.range (envWays s)).find? fun w => ¬ ls.any fun l => l.way = w with
    | some w => (.made, placeLine k st recon w s)
    | none =>
      match plruVictim (fun w => ls.any fun l => l.way = w && ¬ l.st.busy) (envLevels s) 1 0
          (SMap.get 0 (envSet k) s.env.plru) with
      | none => (.busy, s)
      | some w =>
        match ls.find? fun l => l.way = w with
        | some l =>
          if l.st = .dirty ∧ s.env.evb.length ≥ evbMax then
            (.evb, (s.incWrap (R.ENV_CNTj_COUNT 5)).raise R.ENV_INT_STATUS_EVB_FULL)
          else (.made, placeLine k st recon w (evict l s))
        | none => (.busy, s)

/-- Allocate lines for several keys; the first that cannot be made stops the rest and names the key. -/
def envAllocAll (st : LineSt) (recon : Nat → Bool) : List Nat → State → Option (AllocRes × Nat) × State
  | [], s => (none, s)
  | k :: ks, s =>
    match envAlloc k st (recon k) s with
    | (.made, s') => envAllocAll st recon ks s'
    | (r, s') => (some (r, k), s')

/-- The allocation wait queue holds this many entries (R174). -/
def allocQMax : Nat := 256

/-- The lookup ports accept no new lookup while the allocation wait queue is full; the commands concerned wait behind it (R174). -/
def lookupsStopped (s : State) : Bool := decide (allocQMax ≤ s.env.allocQ.length)

/-- A lookup for a read: hit counts, the tree, and the eviction buffer (R178, R180). -/
def envLookup (k : Nat) (s : State) : Bool × State :=
  match envFind s k with
  | some l => if l.st = .held then (false, s) else
      (true, envTouch l.set l.way ((s.modLine k fun x => { x with hits := x.hits + 1 }).incWrap (R.ENV_CNTj_COUNT 0)))
  | none => if s.env.evb.any (·.1 = k) then (true, s.incWrap (R.ENV_CNTj_COUNT 6)) else (false, s)

/-- The DIRTY lines now. -/
def dirtyLines (s : State) : Nat := (s.env.lines.filter (·.st = .dirty)).length

/-- A metadata page changed in place becomes DIRTY (R174), or is written through at the limit or with caching off or
being cleaned (R175, R190, R191); a write that hits the eviction buffer waits (R180). -/
def envDirty (k : Nat) (s : State) : State :=
  if ¬ envOn s then s else
    let st : LineSt := match envFind s k with
      | some l => if l.st = .dirty ∨ dirtyLines s < s.rd R.ENV_CFG_DIRTY_MAX * 64 then .dirty else .clean
      | none => if dirtyLines s < s.rd R.ENV_CFG_DIRTY_MAX * 64 then .dirty else .clean
    match envAlloc k st false s with
    | (.made, s') => s'
    | (.busy, s') => { s' with env.allocQ := s'.env.allocQ ++ [(0, k)] }
    | (.evb, s') => { s' with env.evbQ := s'.env.evbQ ++ [(0, k)] }

/-- Clean lines: DIRTY becomes CLEAN. -/
def envClean (p : Line → Bool) (s : State) : State :=
  { s with env.lines := s.env.lines.map fun l => if p l ∧ l.st = .dirty then { l with st := .clean } else l }

/-- A FILL line on which another request waits (R179). -/
def fillWanted (s : State) (l : Line) : Bool := l.st = .fill && s.env.allocQ.any fun e => e.2 = l.key

/-- An operation's keyed lines come to rest: FILL and HELD become CLEAN, or INVALID where it failed, their way has left the cache, or
caching is off, but for a FILL that another request waits on (R174, R188, R190). With caching off a line so kept ends with its use. -/
def envSettle (ks : List Nat) (good : Bool) (s : State) : State :=
  let w := fun l => envOn s || fillWanted s l
  let s := dropLines (fun l => ks.contains l.key && l.st.busy && (! good || decide (envWays s ≤ l.way) || ! w l)) s
  let s := { s with env.lines := s.env.lines.map fun l => if ks.contains l.key ∧ l.st.busy then { l with st := .clean } else l }
  if s.rd R.ENV_STATUS_MODE = 2 then
    dropLines (fun l => l.st = .clean && ! (ks.contains l.key && s.env.allocQ.any fun e => e.2 = l.key)) s
  else s

/-- The contents of these MEMBER keys changed or ended: CLEAN lines, Skirt entries and clean entries go, and fills in
flight are voided (R176, R184). -/
def keysGone (p : Nat → Bool) (s : State) : State :=
  let s := dropLines (fun l => l.key < 2 ^ 62 && p l.key && l.st = .clean) s
  { s with
    env.skirt := (s.env.skirt.filter fun l => ¬ (l.filled && p l.key)).map fun l => if p l.key then { l with valid := false } else l,
    env.evb := s.env.evb.filter fun e => ¬ (e.2 && p e.1),
    bsk.clean := s.bsk.clean.filter fun c => ¬ p c.1 }

/-- A MEMBER key of stripe `st` of array `a`, on any member. -/
def inStripe (s : State) (a st k : Nat) : Bool :=
  k < 2 ^ 62 && bits k 45 4 = a && decide (memLba (strB s a) st 0 ≤ bits k 0 40) &&
  decide (bits k 0 40 < memLba (strB s a) (st + 1) 0)

/-- Everything cached of a stripe goes (R176). -/
def stripeGone (a st : Nat) (s : State) : State := keysGone (inStripe s a st) s

/-- The BASKET lines of pages go (R176). -/
def pagesGone (addr n : Nat) (s : State) : State :=
  dropLines (fun l => decide (bskKey 0 ≤ l.key) && decide (addr ≤ bits l.key 0 24) && decide (bits l.key 0 24 < addr + n) &&
    ¬ l.st.busy) s

/-- The invalidation walk (R192): every set, the Skirt and the eviction buffer. -/
def envWalk (s : State) : State :=
  (({ s with env := Env.reset }.wr R.ENV_STATUS_SCRATCH 0).wr R.ENV_STATUS_INIT 0).wr R.ENV_STATUS_MAINT_BUSY 0

end Sys2Proof.Machine
end

