-- ==== Sys2Proof/Machine/Basket.lean ====
section
/-! DEFINITION. The Basket write store (spec/08_basket_ballast.md and R88 to R100): page allocation, the commit of a
Basket-path write, the index, release, lost marks with their Basket entries, write-through. -/

namespace Sys2Proof.Machine

/-- Pages in 1 GiB. -/
def gib : Nat := 262144

/-- A namespace by its device index. -/
def nsAt (s : State) (i : Nat) : Option Ns := s.ns.find? fun x => x.idx = i

/-- A namespace by its system-wide NSID. -/
def nsById (s : State) (nsid : Nat) : Option Ns :=
  s.ns.find? fun x => x.nsid = nsid && ¬ s.ce.nsGone.any fun p => p.2 = x.idx

/-- Dirty write-store pages (R205): unreleased extents and saved columns. -/
def dirtyPages (s : State) : Nat :=
  (s.bsk.extents.map (·.count)).sum + (s.bsk.saved.map (·.count)).sum

/-- The dirty limit in pages; with HALF at most the write store less 1 GiB (R199, R205). -/
def dirtyLimit (s : State) : Nat :=
  let l := s.rd R.BSK_DIRTY_CFG_LIMIT_GIB * gib
  if s.on R.BSK_STATUS_HALF then min l (s.bsk.w - gib) else l

/-- The high-water mark in pages. DESIGN CHOICE (log entry 70): HWM_PCT of the limit is rounded down to whole pages. -/
def hwm (s : State) : Nat := dirtyLimit s * s.rd R.BSK_DIRTY_CFG_HWM_PCT / 100

/-- The dirty count is at or above the high-water mark (R207). -/
def aboveHwm (s : State) : Bool := decide (hwm s ≤ dirtyPages s)

/-- The Basket is in write-back. -/
def writeBack (s : State) : Bool := s.rd R.BSK_STATUS_MODE = 1

/-- Used page ranges: extents, saved columns, clean entries. -/
def usedRuns (s : State) : List (Nat × Nat) :=
  s.bsk.extents.map (fun e => (e.addr, e.count)) ++ s.bsk.saved.map (fun x => (x.addr, x.count)) ++
  s.bsk.clean.map fun c => (c.2.1, 1)

/-- Free write-store pages. -/
def freePages (s : State) : Nat := s.bsk.w - ((usedRuns s).map (·.2)).sum

/-- A run of `n` pages from `c` is free. -/
def runFree (s : State) (n c : Nat) : Bool :=
  decide (c + n ≤ s.bsk.w) && (usedRuns s).all fun r => decide (c + n ≤ r.1) || decide (r.1 + r.2 ≤ c)

/-- The lowest free run of `n` pages (the choice of place is the model's). -/
def freeRun (s : State) (n : Nat) : Option Nat :=
  ((0 :: (usedRuns s).map fun r => r.1 + r.2).filter (runFree s n)).foldl
    (fun m c => match m with
      | some x => some (min x c)
      | none => some c) none

/-- Drop the oldest clean entry (R208). -/
def cleanDrop (s : State) : State :=
  match s.bsk.clean with
  | [] => s
  | c :: cs => pagesGone c.2.1 1 { s with bsk.clean := cs }

/-- Find room for `n` pages, discarding clean entries oldest first where they stand in the way. -/
def roomFor (n : Nat) : Nat → State → Option Nat × State
  | 0, s => (freeRun s n, s)
  | f + 1, s => match freeRun s n with
    | some c => (some c, s)
    | none => roomFor n f (cleanDrop s)

/-- Clean entries are discarded while free pages stand at the reserve of R208. -/
def cleanTrim : Nat → State → State
  | 0, s => s
  | f + 1, s =>
    if s.bsk.clean ≠ [] ∧ freePages s ≤ (dirtyLimit s - dirtyPages s) + gib then cleanTrim f (cleanDrop s) else s

/-- HWM and LIMIT are raised when the count reaches them (R205). -/
def dirtyEvents (before : Nat) (s : State) : State :=
  let s := if before < hwm s ∧ aboveHwm s then s.raise R.BSK_INT_STATUS_HWM else s
  if before < dirtyLimit s ∧ dirtyLimit s ≤ dirtyPages s then s.raise R.BSK_INT_STATUS_LIMIT else s

/-- Write one page, and send it in the delta when mirroring (R298). -/
def pageWrite (s : State) (p : Nat × Block) : State :=
  let s := { s with bsk.pages := SMap.set 0 p.1 p.2 s.bsk.pages }
  if mirroring s then
    { s.emit (.sparBlock 1 p.1 p.2) with pair.deltaPages := s.pair.deltaPages + 1, pair.deltaAddrs := s.pair.deltaAddrs ++ [p.1], pair.deltaBytes := s.pair.deltaBytes + 4144 }
  else s

/-- Write blocks to consecutive pages. -/
def pagesWrite (addr : Nat) (bs : List Block) (s : State) : State :=
  s.each ((List.range bs.length).zip bs) fun s p => pageWrite s (addr + p.1, p.2)

/-- The page of the write-store index, copy A, that holds a page's entry (Table 8.4). -/
def indexPage (s : State) (p : Nat) : Nat := s.bsk.w + p / 256

/-- The index pages of a run become DIRTY (R175). -/
def indexDirty (addr n : Nat) (s : State) : State :=
  s.each (rangeFrom (addr / 256) ((addr + n - 1) / 256 - addr / 256 + 1)) fun s i => envDirty (bskKey (s.bsk.w + i)) s

/-- The newest copy of a namespace block in the write store: its extent (R96). -/
def bskFind (s : State) (ns lba : Nat) : Option Extent :=
  s.bsk.extents.find? fun e => ¬ e.companion && e.ns = ns && e.live.contains lba

/-- The page of a block of an extent. -/
def Extent.page (e : Extent) (lba : Nat) : Nat := e.addr + (lba - e.slba)

/-- The contents of a page. -/
def pageAt (s : State) (p : Nat) : Block := SMap.get 0 p s.bsk.pages

/-- The newest Basket contents of a namespace block. -/
def bskRead (s : State) (ns lba : Nat) : Option Block := (bskFind s ns lba).map fun e => pageAt s (e.page lba)

/-- Regions of R209: G stripes each. -/
def regionG (s : State) (a : Nat) : Nat := max 1 (((s.arr a).stripes + 65535) / 65536)

/-- Release an extent: its pages are free, their BASKET lines go (R176). -/
def bskRelease (e : Extent) (s : State) : State :=
  pagesGone e.addr e.count { s with bsk.extents := s.bsk.extents.filter fun x => x.seq ≠ e.seq }

/-- Blocks of a namespace are superseded at `q`: the older entries are no longer the newest copy (R96). -/
def supersede (ns : Nat) (p : Nat → Bool) (q : Nat) (s : State) : State :=
  { s with bsk.extents := s.bsk.extents.map fun e =>
      if e.ns = ns ∧ ¬ e.companion ∧ e.live.any p then
        { e with live := e.live.filter (fun l => ¬ p l), supBy := max e.supBy q }
      else e }

/-- The stripe of a block of a namespace index. -/
def stripeOf (s : State) (ns lba : Nat) : Option Nat := (nsAt s ns).map fun n => (placeOf s n lba).stripe

/-- The MEMBER keys of a run of namespace blocks. -/
def nsKeys (s : State) (ns : Ns) (slba n : Nat) : List Nat :=
  (rangeFrom slba n).map fun l => let p := placeOf s ns l; dataKey s ns.array p.stripe p.idx p.col

/-- The dirty regions of the stripes of a write are marked (R209). -/
def markRegions (ns : Ns) (slba n : Nat) (s : State) : State :=
  s.each ((rangeFrom slba n).map fun l => (placeOf s ns l).stripe / regionG s ns.array) fun s r =>
    if s.nv.dirtyMap.contains (ns.array, r) then s else { s with nv.dirtyMap := s.nv.dirtyMap ++ [(ns.array, r)] }

/-- Commit data in the write store at `addr` (R15 steps 1 and 2, R88, R96): pages, then the INTENT. -/
def bskCommitAt (ns : Ns) (slba addr : Nat) (data : List Block) (companion : Bool) (s : State) : State :=
  let before := dirtyPages s
  let q := s.jrn.nextSeq
  let n := data.length
  let crc := dcrc (s.on (R.STR_An_GEOM_META ns.array)) data
  let s := pagesWrite addr data s
  let s := if writeBack s ∧ ¬ companion then markRegions ns slba n s else s
  let s := record (.basket ns.array ns.idx n slba addr crc companion) s
  let s := if companion then s else supersede ns.idx (fun l => decide (slba ≤ l) && decide (l < slba + n)) q s
  let e : Extent := ⟨q, ns.array, ns.idx, slba, n, addr, companion, s.tet.epoch, crc,
    if companion then [] else rangeFrom slba n, 0, writeBack s⟩
  let s := { s with bsk.extents := s.bsk.extents ++ [e] }
  let s := if companion then s else
    let ks := nsKeys s ns slba n
    indexDirty addr n (keysGone (fun k => ks.contains k) s)
  dirtyEvents before (cleanTrim s.bsk.clean.length s)

/-- Extents released when a SEAL reaches their superseding SEQ (R96). -/
def releaseSealed (upto : Nat) (s : State) : State :=
  s.each (s.bsk.extents.filter fun e => ¬ e.companion && e.live.isEmpty && decide (e.supBy ≤ upto)) fun s e => bskRelease e s

/-- An extent lies wholly in a stripe. -/
def extentIn (s : State) (e : Extent) (st : Nat) : Bool :=
  stripeOf s e.ns e.slba = some st && stripeOf s e.ns (e.slba + e.count - 1) = some st

/-- The DONE of an RMW, RCW or COALESCE releases the stripe's entries with SEQ ≤ UPTO (R89). -/
def releaseStripe (a st upto doneSeq : Nat) (s : State) : State :=
  let mine := s.bsk.extents.filter fun e => e.array = a && ¬ e.companion && decide (e.seq ≤ upto) &&
    (extentIn s e st || e.live.any fun l => stripeOf s e.ns l = some st)
  s.each mine fun s e =>
    if extentIn s e st then bskRelease e s
    else { s with bsk.extents := s.bsk.extents.map fun x =>
      if x.seq = e.seq then
        { x with live := x.live.filter (fun l => stripeOf s x.ns l ≠ some st), supBy := max x.supBy doneSeq }
      else x }

/-- The DONE of a FULL INTENT ends every older entry of its stripe (R89). -/
def endStripe (a st doneSeq : Nat) (s : State) : State :=
  { s with bsk.extents := s.bsk.extents.map fun e =>
      if e.array = a ∧ ¬ e.companion ∧ e.seq < doneSeq ∧ e.live.any (fun l => stripeOf s e.ns l = some st) then
        { e with live := e.live.filter (fun l => stripeOf s e.ns l ≠ some st), supBy := max e.supBy doneSeq }
      else e }

/-- The companion with a SEQ is released. -/
def releaseCompanion (q : Nat) (s : State) : State :=
  s.each (s.bsk.extents.filter fun e => e.companion && e.seq = q && q ≠ 0) fun s e => bskRelease e s

/-- Saved columns of an INTENT are released. -/
def releaseSaved (q : Nat) (s : State) : State :=
  { s with bsk.saved := s.bsk.saved.filter fun x => x.owner ≠ q }

/-- The Basket entries of a stripe are discarded (R100, R161). -/
def discardStripe (a st : Nat) (s : State) : State :=
  let mine := s.bsk.extents.filter fun e => e.array = a && ¬ e.companion && e.live.any fun l => stripeOf s e.ns l = some st
  s.each mine fun s e =>
    let left := e.live.filter fun l => stripeOf s e.ns l ≠ some st
    if left.isEmpty then bskRelease e s
    else
      let s := s.each (e.live.filter fun l => stripeOf s e.ns l = some st) fun s l => pagesGone (e.page l) 1 s
      { s with bsk.extents := s.bsk.extents.map fun x => if x.seq = e.seq then { x with live := left } else x }

/-! ### Dirty blocks of a stripe -/

/-- The namespace block at a place of a stripe, where one exists. -/
def blockAt (s : State) (a st i k : Nat) : Option (Ns × Nat) :=
  match nsOfStripe s a st with
  | some n => let l := lbaOf s n st i k; if l < n.nsze then some (n, l) else none
  | none => none

/-- The newest Basket contents of a place of a stripe with SEQ at most `upto`. -/
def overlayAt (s : State) (a st i k upto : Nat) : Option Block :=
  match blockAt s a st i k with
  | some (n, l) => match bskFind s n.idx l with
    | some e => if e.seq ≤ upto then some (pageAt s (e.page l)) else none
    | none => none
  | none => none

/-- The dirty places (data index, column) of a stripe. -/
def dirtyPlaces (s : State) (a st : Nat) : List (Nat × Nat) :=
  match nsOfStripe s a st with
  | none => []
  | some n =>
    (s.bsk.extents.filter fun e => ¬ e.companion && e.ns = n.idx).flatMap fun e =>
      (e.live.filter fun l => (placeOf s n l).stripe = st).map fun l => ((placeOf s n l).idx, (placeOf s n l).col)

/-- The Basket covers every data block of the stripe; blocks beyond NSZE count as covered (Table 4.10). -/
def coversAll (s : State) (a st : Nat) : Bool :=
  match nsOfStripe s a st with
  | none => false
  | some n =>
    let ps := dirtyPlaces s a st
    let want := min (perStripe s a) (n.nsze - (st - n.base) * perStripe s a)
    decide (want ≤ ps.eraseDups.length) && decide (0 < ps.length)

/-- The highest SEQ among the entries of a stripe. -/
def stripeUpto (s : State) (a st : Nat) : Nat :=
  match nsOfStripe s a st with
  | none => 0
  | some n => (s.bsk.extents.filter fun e => ¬ e.companion && e.ns = n.idx &&
      e.live.any fun l => (placeOf s n l).stripe = st).foldl (fun m e => max m e.seq) 0

/-- The new contents of column `k` of a stripe from a list of data blocks: data, P and Q per member. -/
def columnWrites (s : State) (a st k : Nat) (ds : List Block) : List (Nat × Nat × Block) :=
  let n := memN s a
  ((List.range ds.length).zip ds).map (fun p => (dMem n st p.1, k, p.2)) ++
  [(pMem n st, k, parityP ds), (qMem n st, k, parityQ ds)]

/-! ### Lost marks (R72, R73, R100) -/

/-- Members that hold the lost-stripe map. -/
def mapHolders (s : State) (a : Nat) : List Nat :=
  (List.range (memN s a)).filter fun m => s.on (R.STR_An_MEMBERk_MAPHOLD a m)

/-- The lost count of array `a` changed: register, Gondola, LOST_CHG. -/
def lostChanged (a : Nat) (s : State) : State :=
  let n := (s.arr a).lost.length
  (((lostCountKeep a s).wr (R.STR_An_LOST_LOST a) n).wr (R.STR_An_STATUS_LOST_ANY a) (if n = 0 then 0 else 1)).raise
    R.STR_INT_ARRAY_LOST_CHG (2 ^ a)

/-- The map block of a stripe is cached in Basket at this key (Table 8.4; the place within the region is the model's). -/
def mapKey (s : State) (a st : Nat) : Nat := bskKey (s.bsk.w * 259 / 256 + (a * 1024 + st / 32768) % 16384)

/-- Set or clear the bit of a stripe in the cache and on every map member. -/
def lostBit (a st : Nat) (v : Bool) (s : State) : State :=
  let f := fun l : List Nat => if v then insNat st l else l.filter (· ≠ st)
  let s := envDirty (mapKey s a st) (s.modArr a fun r => { r with lost := f r.lost })
  lostChanged a (s.each (mapHolders s a) fun s m => s.modDrive (memDrv s a m) fun d => { d with lostMap := f d.lostMap })

/-! ### The region map of the tail copies (R108) -/

/-- Stripes per region of the tail-copy region map (Table 4.13). -/
def tailR (s : State) (a : Nat) : Nat := max 1 (((s.arr a).stripes + 4095) / 4096)

/-- A tail copy of the array stands on some member. -/
def hasTail (s : State) (a : Nat) : Bool :=
  (List.range (memN s a)).any fun m => match driveAt s (memDrv s a m) with
    | some d => (d.tailA.map (·.arrayId)) = some (s.arr a).arrayId || (d.tailB.map (·.arrayId)) = some (s.arr a).arrayId
    | none => false

/-- The region is marked in the newest tail copy, or no copy stands that a mark could go to. -/
def regionMarked (s : State) (a r : Nat) : Bool := ¬ hasTail s a || (s.arr a).regions.any fun p => p.1 = r

/-- A member write touches a marked region in this checkpoint interval. -/
def regionTouch (a r : Nat) (s : State) : State :=
  s.modArr a fun x => { x with regions := x.regions.map fun p => if p.1 = r then (r, s.tet.epoch / 1024) else p }

/-- The header of the newest copy is rewritten on its present members with the bit of the region set and REGION_GEN one higher. -/
def regionSet (a r : Nat) (s : State) : State :=
  let gen := (s.arr a).regionGen + 1
  let s := s.modArr a fun x => { x with regionGen := gen, regions := (r, s.tet.epoch / 1024) :: x.regions.filter fun p => p.1 ≠ r }
  let newest := (List.range (memN s a)).foldl (fun b m => match driveAt s (memDrv s a m) with
    | some d => max b (max ((d.tailA.map (·.ckpt)).getD 0) ((d.tailB.map (·.ckpt)).getD 0))
    | none => b) 0
  let up : Option Tail → Option Tail := fun t => t.map fun (x : Tail) =>
    if x.arrayId = (s.arr a).arrayId ∧ x.ckpt = newest then { x with regions := insNat r x.regions, regionGen := gen } else x
  s.each ((List.range (memN s a)).filter fun m => ¬ missing s a m) fun s m =>
    s.modDrive (memDrv s a m) fun d => { d with tailA := up d.tailA, tailB := up d.tailB }

/-- The region of a stripe is marked before the member writes of an operation that is one locked step (log entry 8). -/
def regionMark (a st : Nat) (s : State) : State :=
  let r := st / tailR s a
  if regionMarked s a r then regionTouch a r s else regionSet a r s

/-- The new contents of every column of a stripe that the Basket covers; blocks beyond NSZE are zeros (R59, R97). -/
def coalesceData (s : State) (a st upto : Nat) : List (Nat × Nat × Block) :=
  (List.range (strB s a)).flatMap fun k =>
    columnWrites s a st k ((List.range (dataN s a)).map fun i => (overlayAt s a st i k upto).getD 0)

/-- Write a whole stripe from its Basket entries by COALESCE within one locked step (R100). -/
def coalesceNow (a st : Nat) (s : State) : State :=
  let b := strB s a
  let upto := stripeUpto s a st
  let q := s.jrn.nextSeq
  let s := regionMark a st (openStripe a st 3 0 b (maskOf (writeMembers s a st)) upto 0 0xFF 0xFF s)
  let s := s.each (coalesceData s a st upto) fun s w => memberWrite a w.1 st w.2.1 w.2.2 s
  let s := stripeGone a st s
  let dq := s.jrn.nextSeq
  releaseStripe a st upto dq (closeStripe a st q 0 s)

/-- The owner number of a stripe operation of the device's own. -/
def sopOwner (i : Nat) : Nat := 2 ^ 32 + i

/-- A stripe operation takes over an entry that the step which starts it holds exclusively (R100). -/
def lockJoin (owner idx : Nat) (s : State) : State :=
  if s.ce.locks.any fun e => e.idx = idx then
    { s with ce.locks := s.ce.locks.map fun e => if e.idx = idx then { e with holders := e.holders ++ [(owner, false)] } else e }
  else { s with ce.locks := s.ce.locks ++ [(⟨idx, [(owner, false)], []⟩ : LockE)] }

/-- The same COALESCE as a stripe operation that holds the lock until its DONE: its parity is computed by the engine (R67), its INTENT
waits for ring room (R86), its member writes for the mirror (R99). -/
def coalesceLater (a st : Nat) (s : State) : State :=
  let upto := stripeUpto s a st
  let i := s.ce.nextId
  let data := (coalesceData s a st upto).filter fun w => stripUp s a w.1 st
  let o : SOp := ⟨i, 0, .coalesce, a, st, 0, strB s a, maskOf (writeMembers s a st), 0, upto, 0, [], .engine, [], data, [], 0, 0⟩
  let s := lockJoin (sopOwner i) (lockIdx a st) { s with ce.nextId := i + 1, ce.sops := s.ce.sops ++ [o] }
  engine (sopOwner i) (strB s a) (dataN s a) s

/-- The engine operation of a background step holds the stripe's lock entry until its last job is retired (R68). -/
def engineStep (a st cols inputs : Nat) (s : State) : State :=
  let op := 2 ^ 33 + s.ce.nextId
  if ¬ engineOn s then s else engine op cols inputs (lockJoin op (lockIdx a st) { s with ce.nextId := s.ce.nextId + 1 })

/-- A COALESCE that a lost stripe calls for is already on its way. -/
def coalescing (s : State) (a st : Nat) : Bool := s.ce.sops.any fun o => o.array = a && o.stripe = st && o.kind = .coalesce

/-- Mark a stripe lost (R73, R100). Entries that cover it whole are destaged by COALESCE under the same lock and no mark remains;
otherwise they are discarded, an open INTENT is closed with STATUS LOST, and LOST_MARKED is recorded with its cause. -/
def markLost (a st cause : Nat) (s : State) : State :=
  if isLost s a st ∨ coalescing s a st then s
  else if coversAll s a st then
    if s.ready ∧ engineOn s then coalesceLater a st s else coalesceNow a st s
  else
    let s := lostBit a st true s
    let s := discardStripe a st (stripeGone a st s)
    let opens := s.jrn.opens.filter fun r => match r.body with
      | .stripe a' st' .. => a' = a && st' = st
      | _ => false
    let s := s.each opens fun s r => releaseSaved r.seq (closeStripe a st r.seq 1 s)
    s.event 0x8203 (srcArr a) (leBytes 8 st ++ [cause])

/-- Clear a lost mark (R73). -/
def clearLost (a st : Nat) (s : State) : State := if isLost s a st then lostBit a st false s else s

/-! ### Write-back and write-through (R206) -/

/-- The first cause of R206 that holds: 1 Ballast not armed, 2 channel failed, 3 write store too small; 0 none. -/
def wtCause (s : State) : Nat :=
  if s.rd R.BAL_STATUS_STATE ≠ 1 then 1
  else if (List.range 16).any fun c => s.on (R.BSK_CHc_FAILED c) then 2
  else if s.on R.BSK_STATUS_HALF ∧ s.bsk.w < 2 * gib then 3
  else 0

/-- Bring MODE and WT_CAUSE up to date while service is open; WT_ENTER on a change to write-through. -/
def wtUpdate (s : State) : State :=
  let c := wtCause s
  let was := s.rd R.BSK_STATUS_MODE
  let s := (s.wr R.BSK_STATUS_MODE (if c = 0 then 1 else 2)).wr R.BSK_STATUS_WT_CAUSE c
  if c ≠ 0 ∧ was ≠ 2 then s.raise R.BSK_INT_STATUS_WT_ENTER else s

end Sys2Proof.Machine
end

