-- ==== Sys2Proof/Machine/Cmd.lean ====
section
/-! DEFINITION. Commands and their waits: completions, asynchronous events, ANA states, the checks of Table 6.2,
reservations, protection information, stripe locks (R94), member commands and their queues. -/

namespace Sys2Proof.Machine

/-! ### Controllers and queues -/

/-- A controller. -/
def ctrlOf (s : State) (c : Nat) : Option Ctrl := s.ce.ctrls.find? fun x => x.id = c

/-- Change a controller. -/
def State.modCtrl (s : State) (c : Nat) (f : Ctrl → Ctrl) : State :=
  { s with ce.ctrls := s.ce.ctrls.map fun x => if x.id = c then f x else x }

/-- A queue. -/
def queueOf (s : State) (c q : Nat) : Option Queue := s.ce.queues.find? fun x => x.ctrl = c && x.qid = q

/-- Change a queue. -/
def State.modQueue (s : State) (c q : Nat) (f : Queue → Queue) : State :=
  { s with ce.queues := s.ce.queues.map fun x => if x.ctrl = c ∧ x.qid = q then f x else x }

/-- A queue waits: it has a command that it cannot start, or, of a fabric, used its last credit within this epoch or has none left (R142,
R143). -/
def qWaits (q : Queue) : Bool := decide (0 < q.waiting) || q.usedLast || (decide (16 ≤ q.ctrl) && q.credits = 0)

/-- Some queue waits for a context. -/
def queueWaiting (s : State) : Bool := s.ce.queues.any qWaits

/-- An acknowledgement on a fabric queue advertises its credits (R142). -/
def ackCredits (c q : Nat) (s : State) : State :=
  match queueOf s c q with
  | some x => if 16 ≤ c then s.emit (.eth (((s.fab.qps.find? fun p => p.id = x.qp).map (·.port)).getD 0) 0 5 [x.qp, x.credits]) else s
  | none => s

/-- A SEND beyond the credits is answered by RNR NAK on its queue pair (R142). -/
def rnrNak (qp : Nat) (s : State) : State :=
  ((s.emit (.eth (((s.fab.qps.find? fun p => p.id = qp).map (·.port)).getD 0) 0 2 [qp])).raise R.HPT_CE_INT_STATUS_RNR).incWrap
    R.HPT_CE_CNT_RNR_RNR

/-- Commands are taken: service is open, no dump runs, no activation drains (R156, R213), fetch is not stopped for a
stop of the device. -/
def taking (s : State) : Bool :=
  s.ready && ¬ s.pwr.dumping && ¬ s.on R.HPT_CE_STATUS_FETCH_STOPPED && s.pwr.shutdownReq.isNone && ¬ s.pwr.shutdownDone &&
  ¬ [4, 5, 6].contains s.pairState

/-! ### The context pool (R143, R144) -/

/-- Contexts of the pool. -/
def poolSize : Nat := 16384

/-- h_q: the commands of a queue in contexts, those fetched for it, and its backed credits. -/
def heldBy (s : State) (q : Queue) : Nat :=
  (s.ce.ctxs.filter fun c => c.h.ctrl = q.ctrl && c.h.q = q.qid).length + q.credits + q.fetched

/-- The reserve: the sum of max(h_q, r_q). -/
def reserveSum (s : State) : Nat := (s.ce.queues.map fun q => max (heldBy s q) q.r).sum

/-- The shared free count. -/
def sharedFree (s : State) : Nat := poolSize - reserveSum s

/-- A queue may take one more context (R144 rules 1, 2 and 4). -/
def mayHold (s : State) (q : Queue) : Bool :=
  let h := heldBy s q
  decide (h + 1 < q.size) && (decide (h < q.r) || (decide (h < q.r + s.rd R.HPT_CE_POOL_CFG_Q_CAP) && decide (0 < sharedFree s)))

/-- POOL_LOW: the shared free count fell below LOW_MARK. -/
def lowCheck (before : Nat) (s : State) : State :=
  let m := s.rd R.HPT_CE_POOL_FLOOR_LOW_MARK
  if m ≤ before ∧ sharedFree s < m then s.raise R.HPT_CE_INT_STATUS_POOL_LOW else s

/-- An I/O command can arrive on this queue: it has been fetched or its capsule accepted, or a context can be granted
to its queue now. -/
def ioOpen (s : State) (h : IoHdr) : Bool :=
  taking s && h.q ≠ 0 && ((ctrlOf s h.ctrl).map (·.rdy)).getD false &&
  match queueOf s h.ctrl h.q with
  | some q => decide (0 < q.fetched) || mayHold s q
  | none => false

/-- An admin command can arrive on this controller. -/
def adminOpen (s : State) (h : IoHdr) : Bool :=
  taking s && ((ctrlOf s h.ctrl).map fun c => c.en && c.rdy).getD false

/-- An error log entry of a controller (log page 01h): error count, queue, command, status; 256 are kept. -/
def errLog (h : IoHdr) (sct sc : Nat) (s : State) : State :=
  let mine := s.ce.errs.filter fun e => e.1 = h.ctrl
  let n := match mine with
    | e :: _ => e.2.1 + 1
    | [] => 1
  { s with ce.errs := ((h.ctrl, n, h.q, h.cid, sct * 512 + sc * 2) :: mine.take 255) ++ s.ce.errs.filter fun e => e.1 ≠ h.ctrl }

/-- The admin command of a header belongs to a controller. -/
def instrCtrl : Instr → Option Nat
  | .getLogPage h .. => some h.ctrl
  | .identify h .. => some h.ctrl
  | .abort h .. => some h.ctrl
  | .setFeatures h .. => some h.ctrl
  | .getFeatures h .. => some h.ctrl
  | .asynchronousEventRequest h => some h.ctrl
  | .invalidOpcode h _ => some h.ctrl
  | .firmwareImageDownload h .. => some h.ctrl
  | .firmwareCommit h .. => some h.ctrl
  | .formatNvm h .. => some h.ctrl
  | .sanitizeBlockErase h => some h.hdr.ctrl
  | .sanitizeOverwrite h .. => some h.ctrl
  | .sanitizeExitFailureMode h => some h.ctrl
  | .createIoSq h .. => some h.ctrl
  | .deleteIoSq h .. => some h.ctrl
  | .createIoCq h .. => some h.ctrl
  | .deleteIoCq h .. => some h.ctrl
  | _ => none

/-- Admin commands of a controller that wait for an admin context. -/
def adminWaiting (s : State) (c : Nat) : Nat := (s.ce.adminWait.filter fun i => instrCtrl i = some c).length

/-- Admin commands of a controller that hold an admin context (R146). -/
def adminHolds (s : State) (c : Nat) : Nat :=
  let mine := fun h : Option IoHdr => (h.map (·.ctrl)) = some c
  (s.ce.commit.filter fun x => mine x.h).toList.length + (s.ce.fwWrites.filter fun w => mine w.h).length +
    (s.ce.formats.filter fun j => mine j.h).length

/-- The head pointer that a completion reports: commands fetched or received so far, modulo the size of the queue (R141). DESIGN CHOICE
(log entry 79): the admin queue of a PCIe controller, whose size no command carries, reports the number itself; where Connect disabled
flow control the field is FFFFh. -/
def sqHead (s : State) (h : IoHdr) : Nat :=
  match queueOf s h.ctrl h.q, ctrlOf s h.ctrl with
  | some x, _ => if x.noFlow then 0xFFFF else (x.arrivals + x.fetched) % max 1 x.size
  | none, some c =>
    let n := c.aDone + 1 + c.aer.length + adminHolds s h.ctrl
    if c.noFlow then 0xFFFF else if c.aSize = 0 then n % 65536 else n % c.aSize
  | none, none => 0

/-- One more admin command of a controller is complete. -/
def adminDone (h : IoHdr) (s : State) : State :=
  if h.q = 0 then s.modCtrl h.ctrl fun c => { c with aDone := c.aDone + 1 } else s

/-- Post a completion. A status other than Success enters the controller's error log. -/
def cqe (h : IoHdr) (sct sc : Nat) (dnr : Bool) (dw0 : Nat) (data : List Block) (s : State) : State :=
  let s := adminDone h (s.emit (.cqe h.ctrl h.q h.cid sct sc dnr dw0 data (sqHead s h)))
  if sct = 0 ∧ sc = 0 then s else errLog h sct sc s

/-- A status: type, code, DNR. -/
abbrev Status := Nat × Nat × Bool

def stOk : Status := (0, 0, false)
def stField : Status := (0, 2, true)
def stNs : Status := (0, 0xB, true)
def stSeq : Status := (0, 0xC, true)
def stUre : Status := (2, 0x81, true)
def stInternal : Status := (0, 6, false)

/-- Post a completion with a status. -/
def cqeSt (h : IoHdr) (st : Status) (s : State) : State := cqe h st.1 st.2.1 st.2.2 0 [] s

/-- Post a completion that returns values. -/
def cqeInfo (h : IoHdr) (vals : List Nat) (s : State) : State := adminDone h (s.emit (.cqeInfo h.ctrl h.q h.cid vals (sqHead s h)))

/-! ### Asynchronous events -/

/-- Post an asynchronous event to one controller: Dword 0 has the type, information and log page. An event whose log
page was reported and not read since is not repeated; one that finds no request outstanding is kept. -/
def postAen (c dw0 : Nat) (s : State) : State :=
  match ctrlOf s c with
  | some x =>
    if x.logs.contains (dw0 / 65536) then s else
    match x.aer with
    | cid :: rest => cqe ⟨c, 0, cid⟩ 0 0 false dw0 [] (s.modCtrl c fun y => { y with aer := rest, logs := y.logs ++ [dw0 / 65536] })
    | [] => s.modCtrl c fun y => { y with aenPend := if y.aenPend.contains dw0 then y.aenPend else y.aenPend ++ [dw0] }
  | none => s

/-- Post a notice (type 2) to every controller that enabled the bit of OAES. -/
def notice (enableBit info logPage : Nat) (s : State) : State :=
  s.each (s.ce.ctrls.filter fun c => c.rdy && bit c.aenMask enableBit) fun s c =>
    postAen c.id (2 + info * 256 + logPage * 65536) s

/-- Namespace Attribute Changed, Firmware Activation Starting, ANA Change, Discovery Log Change notices. -/
def noticeNs (s : State) : State := notice 8 0 4 s
def noticeFw (s : State) : State := notice 9 1 3 s
def noticeAna (s : State) : State := notice 11 3 0xC { s with ce.anaGen := s.ce.anaGen + 1 }
def noticeDisc (s : State) : State := notice 31 0xF0 0x70 s

/-! ### ANA (Table 9.7) -/

/-- ANA state of an array's group: 1 optimized, 2 non-optimized, 3 inaccessible, 4 persistent loss, 15 change. -/
def anaState (s : State) (a : Nat) : Nat :=
  match s.pairState with
  | 4 => 15
  | 5 => 15
  | 0 | 3 =>
    if ¬ arrOn s a then 3 else
    match arrState s a with
    | 0 | 1 | 3 => 1
    | 2 | 4 => 2
    | 5 => 4
    | _ => 3
  | _ => 3

/-- Set the pair state (Table 12.1); ANA Change notices where a group's state changes. -/
def setPair (v : Nat) (s : State) : State :=
  let before := (List.range 16).map (anaState s)
  let s := s.wr R.SPR_STATUS_STATE v
  if before = (List.range 16).map (anaState s) then s else noticeAna s

/-- RESYNC_START (Table 14.6): SCOPE and the stripes marked lost so far. -/
def resyncStarts (a : Nat) (s : State) : State :=
  s.event 0x4306 (srcArr a) (b2n (((s.arr a).rs.map (·.regionSize)).getD 0 ≠ 0) :: leBytes 8 (((s.arr a).rs.map (·.lost)).getD 0))

/-- Set an array's state with its REASON, kept in the Gondola; STATE_CHG, the Windsock record and ANA Change notices on a change. -/
def setArr (a v reason : Nat) (s : State) : State :=
  let old := arrState s a
  let ana := anaState s a
  let s := entryKeep a ((s.wr (R.STR_An_STATUS_STATE a) v).wr (R.STR_An_STATUS_REASON a) reason)
  if old = v then s else
  let s := (s.raise R.STR_INT_ARRAY_STATE_CHG (2 ^ a)).event 0x4200 (srcArr a)
    ([old, v, reason] ++ leBytes 4 (s.rd (R.STR_An_MISSMAP_MISS a)))
  let s := if v = aResyncing then resyncStarts a s else s
  if anaState s a = ana then s else noticeAna s

/-! ### Reservations (R163) -/

/-- The host identifier of a controller. -/
def hostOf (s : State) (c : Nat) : Nat := ((ctrlOf s c).map (·.hostId)).getD 0

/-- The reservation of a namespace. -/
def resvOf (s : State) (ns : Nat) : NsResv := (s.ce.resvs.find? fun r => r.ns = ns).getD ⟨ns, [], 0, 0, 0, []⟩

/-- A reservation held by another host blocks a read or a write: Write Exclusive and Exclusive Access with their
registrants-only and all-registrants forms. -/
def resvBlocks (s : State) (c ns : Nat) (wr : Bool) : Bool :=
  let r := resvOf s ns
  let host := hostOf s c
  let reg := r.regs.any fun p => p.1 = host
  match r.rtype with
  | 0 => false
  | 1 => wr && r.holder ≠ host
  | 2 => r.holder ≠ host
  | 3 => wr && ¬ reg
  | 5 => wr && ¬ reg
  | _ => ¬ reg

/-! ### The checks of an I/O command (Table 6.2) -/

/-- A Format of the namespace runs (R157), also one resumed at Dawn (R159). -/
def formatting (s : State) (ns : Nat) : Bool := s.nv.progs.any (fun p => p.kind = 4 && p.ns = ns) || s.ce.formats.any fun j => j.todo.contains ns

/-- A Sanitize runs, or the device is in sanitize failure mode (R158). -/
def sanitizing (s : State) : Bool := s.on R.HPT_CE_STATUS_SANITIZING

/-- A Format refuses a command with Format In Progress, except one that was outstanding when it arrived, for which it waits (R157). -/
def formatHolds (s : State) (ctx ns : Nat) : Bool :=
  formatting s ns && ¬ s.ce.formats.any fun j => j.todo.contains ns && j.wait.contains ctx

/-- Rows 2 to 12 of Table 6.2 for a command on namespace `n` of `nlb` blocks that ends before namespace LBA `past`; `limit` says
whether MDTS applies. -/
def ioCheck (s : State) (ctx : Nat) (h : IoHdr) (n : Option Ns) (nlb past : Nat) (wr limit : Bool) (f : IoFlags) : Option Status :=
  if f.resv then some stField else
  match n with
  | none => some stNs
  | some ns =>
    if limit ∧ nlb > 512 then some stField
    else if past > ns.nsze then some (0, 0x80, true)
    else if f.sglBad then some (0, 0xF, true)
    else if anaState s ns.array = 4 then some (3, 1, true)
    else if anaState s ns.array = 3 then some (3, 2, false)
    else if anaState s ns.array = 15 then some (3, 3, false)
    else if resvBlocks s h.ctrl ns.idx wr then some (0, 0x83, true)
    else if formatHolds s ctx ns.idx then some (0, 0x84, false)
    else if sanitizing s then some (0, 0x1D, false)
    else none

/-! ### Protection information (R162): Type 1, 64-bit guard, application tag, 48-bit reference tag, big-endian -/

/-- A number as `n` big-endian bytes. -/
def beBytes (n v : Nat) : List Nat := (leBytes n v).reverse

/-- The metadata of a block with these tags. -/
def piMeta (v : Block) (app ref : Nat) : Nat := leNat (beBytes 8 (crc64 (blkData v)) ++ beBytes 2 app ++ beBytes 6 ref)

/-- Guard, application tag and reference tag of a block's metadata. -/
def piFields (v : Block) : Nat × Nat × Nat :=
  let m := leBytes 16 (blkMeta v)
  (leNat (m.take 8).reverse, leNat ((m.drop 8).take 2).reverse, leNat (m.drop 10).reverse)

/-- The status of the first failed check of a block: PRCHK bit 2 guard, bit 1 application tag, bit 0 reference tag; an
application tag of FFFFh disables the checks. -/
def piErr (prchk app ref : Nat) (v : Block) : Option Status :=
  let p := piFields v
  if p.2.1 = 0xFFFF then none
  else if bit prchk 2 ∧ p.1 ≠ crc64 (blkData v) then some (2, 0x82, true)
  else if bit prchk 1 ∧ p.2.1 ≠ app then some (2, 0x83, true)
  else if bit prchk 0 ∧ p.2.2 ≠ ref % 2 ^ 48 then some (2, 0x84, true)
  else none

/-- The first failed check of blocks with rising reference tags. -/
def piErrs (prchk app : Nat) : Nat → List Block → Option Status
  | _, [] => none
  | ref, v :: vs => match piErr prchk app ref v with
    | some e => some e
    | none => piErrs prchk app (ref + 1) vs

/-- Data of a write as stored: format 0 stores zero metadata; format 1 with PRACT takes generated information. -/
def piStore (lbaf : Nat) (f : IoFlags) (data : List Block) : List Block :=
  if lbaf = 0 then data.map fun v => blkWithMeta v 0
  else if f.pract then ((List.range data.length).zip data).map fun p => blkWithMeta p.2 (piMeta p.2 f.appTag (f.refTag + p.1))
  else data

/-- The check of a write's information, which PRACT leaves out. -/
def piCheckWrite (lbaf : Nat) (f : IoFlags) (data : List Block) : Option Status :=
  if lbaf = 0 ∨ f.pract then none else piErrs f.prchk f.appTag f.refTag data

/-- What a read returns: PRACT strips the information. -/
def piReturn (lbaf : Nat) (f : IoFlags) (data : List Block) : List Block :=
  if lbaf = 0 ∨ f.pract then data.map fun v => blkWithMeta v 0 else data

/-! ### Contexts -/

/-- A context by its number. -/
def ctxOf (s : State) (i : Nat) : Option Ctx := s.ce.ctxs.find? fun c => c.id = i

/-- Replace a context. -/
def State.putCtx (s : State) (c : Ctx) : State :=
  { s with ce.ctxs := s.ce.ctxs.map fun x => if x.id = c.id then c else x }

/-! ### Stripe locks (R94) -/

/-- Request a lock entry: granted at once where it is free, or shared with no earlier waiter; else the request waits. -/
def lockReq (owner : Nat) (shared : Bool) (idx : Nat) (s : State) : Bool × State :=
  match s.ce.locks.find? fun e => e.idx = idx with
  | none => (true, { s with ce.locks := s.ce.locks ++ [(⟨idx, [(owner, shared)], []⟩ : LockE)] })
  | some e =>
    let ok := e.waiters.isEmpty && (e.holders.isEmpty || (shared && e.holders.all (·.2)))
    (ok, { s with ce.locks := s.ce.locks.map fun x =>
      if x.idx = idx then
        if ok then { x with holders := x.holders ++ [(owner, shared)] } else { x with waiters := x.waiters ++ [(owner, shared)] }
      else x })

/-- Give up one entry. -/
def unlock (owner idx : Nat) (s : State) : State :=
  let ls := s.ce.locks.map fun x => if x.idx = idx then { x with holders := x.holders.filter fun p => p.1 ≠ owner } else x
  { s with ce.locks := ls.filter fun x => ¬ (x.holders.isEmpty && x.waiters.isEmpty) }

/-- Give up every entry and every request of an owner. -/
def unlockAll (owner : Nat) (s : State) : State :=
  let ls := s.ce.locks.map fun x =>
    { x with holders := x.holders.filter (fun p => p.1 ≠ owner), waiters := x.waiters.filter fun p => p.1 ≠ owner }
  { s with ce.locks := ls.filter fun x => ¬ (x.holders.isEmpty && x.waiters.isEmpty) }

/-- The entry of a stripe is free: a background step can take it. -/
def lockFree (s : State) (a st : Nat) : Bool := ¬ s.ce.locks.any fun e => e.idx = lockIdx a st

/-- The waiter that a lock entry can now be granted to. -/
def grantable (e : LockE) : Option (Nat × Bool) :=
  match e.waiters with
  | w :: _ => if e.holders.isEmpty || (w.2 && e.holders.all (·.2)) then some w else none
  | [] => none

/-! ### Member commands -/

/-- Member commands issued to a drive. -/
def issuedTo (s : State) (d : Nat) : Nat := (s.ce.mcmds.filter fun m => m.drv = d && m.issued).length

/-- Outstanding commands that a drive takes: 1,024, or 512 on a subport of a bifurcated port (R17, R229). -/
def drvDepth (s : State) (d : Nat) : Nat := if s.on (R.DRV_Pp_CFG_BIF (d / 2)) then 512 else 1024

/-- A new number for a context, operation or member command. -/
def State.fresh (s : State) : State := { s with ce.nextId := s.ce.nextId + 1 }

/-- Queue a member command; it is issued while its drive has fewer than its depth outstanding (R22, R229). -/
def addMCmd (m : MCmd) (s : State) : State :=
  { s with ce.mcmds := s.ce.mcmds ++ [{ m with issued := decide (issuedTo s m.drv < drvDepth s m.drv) }] }

/-- Issue the next waiting command of a drive. -/
def issueNext (d : Nat) (s : State) : State :=
  if issuedTo s d < drvDepth s d then
    match s.ce.mcmds.find? fun m => m.drv = d && ¬ m.issued with
    | some x => { s with ce.mcmds := s.ce.mcmds.map fun m => if m.id = x.id then { m with issued := true } else m }
    | none => s
  else s

/-- Take a member command off its queue. -/
def dropMCmd (i d : Nat) (s : State) : State :=
  issueNext d { s with ce.mcmds := s.ce.mcmds.filter fun m => m.id ≠ i }

/-- Consecutive runs of a rising list of numbers, as (first, count). -/
def runsOf : List Nat → List (Nat × Nat)
  | [] => []
  | x :: xs => match runsOf xs with
    | (y, n) :: rs => if x + 1 = y then (x, n + 1) :: rs else (x, 1) :: (y, n) :: rs
    | [] => [(x, 1)]

/-- Issue member reads of columns `ks` of stripe `st` on the members of a list, for an owner; answers the numbers. -/
def readCols (a st owner sop : Nat) (want : List (Nat × Nat)) (s : State) : List Nat × State :=
  let b := strB s a
  let members := (want.map (·.1)).eraseDups
  members.foldl (fun (acc : List Nat × State) m =>
    let ks := (want.filter fun w => w.1 = m).foldl (fun l w => insNat w.2 l) []
    (runsOf ks).foldl (fun (acc : List Nat × State) r =>
      let i := acc.2.ce.nextId
      (acc.1 ++ [i], addMCmd ⟨i, a, m, memDrv acc.2 a m, memLba b st r.1, r.2, false, false, [], owner, sop, false, false, false⟩
        acc.2.fresh)) acc) ([], s)

end Sys2Proof.Machine
end

