-- ==== Sys2Proof/Machine/Stripe.lean ====
section
/-! DEFINITION. Whole-stripe operations under the exclusive lock: repairs, resynchronisation (R111), CHECKFIX (R136),
rebuild (R125), copyback (R130) and the repair of an open stripe INTENT (Table 4.12). -/

namespace Sys2Proof.Machine

/-- The strip of member `m` in a whole column. -/
def roleVal (n st m : Nat) (c : List Block × Block × Block) : Block :=
  if m = pMem n st then c.2.1 else if m = qMem n st then c.2.2 else c.1.getD (dIdx n st m) 0

/-- Corrections to one stripe, written under an INTENT with OP REPAIR whose WMASK names the corrected members (R116,
R136); the write of member `bad` fails. -/
def writeFixesBut (bad : Option Nat) (a st : Nat) (fixes : List (Nat × Nat × Block)) (s : State) : State :=
  match fixes with
  | [] => s
  | x :: _ =>
    let lo := fixes.foldl (fun m f => min m f.2.1) x.2.1
    let hi := fixes.foldl (fun m f => max m f.2.1) x.2.1
    let q := s.jrn.nextSeq
    let s := regionMark a st (openStripe a st 4 lo (hi - lo + 1) (maskOf (fixes.map (·.1))) 0 0 0xFF 0xFF s)
    let s := s.each (fixes.filter fun f => bad ≠ some f.1) fun s f => memberWrite a f.1 st f.2.1 f.2.2 s
    let b := strB s a
    let s := keysGone (fun k => (fixes.any fun f => k = memKey a f.1 (memLba b st f.2.1))) s
    closeStripe a st q 0 s

/-- Corrections that are all written. -/
def writeFixes (a st : Nat) (fixes : List (Nat × Nat × Block)) (s : State) : State := writeFixesBut none a st fixes s

/-! ### Media counts (R119) -/

/-- One repaired or corrected block of member `m`; MEDIA_WARN at MEDIA_LIMIT × 64. -/
def mediaCount (a m : Nat) (s : State) : State :=
  let n := (((s.arr a).mediaCount.find? fun p => p.1 = m).map (·.2)).getD 0 + 1
  let s := s.modArr a fun r => { r with mediaCount := (m, n) :: r.mediaCount.filter fun p => p.1 ≠ m }
  let lim := s.rd (R.STR_An_POLICY_MEDIA_LIMIT a) * 64
  if lim ≠ 0 ∧ lim ≤ n then s.raise (R.STR_An_MEDIA_WARN_WARN a) (2 ^ m) else s

/-- Unreadable strips of a column on members that are up. -/
def unreadable (s : State) (a st k : Nat) : List Nat :=
  (List.range (memN s a)).filter fun m => stripUp s a m st && (stripAt s a st k [] m).isNone

/-- Rewrite the unreadable blocks of a column with their reconstructed values (R116); they count for their members. The write of
member `bad` fails. -/
def repairBut (bad : Option Nat) (a st k : Nat) (s : State) : State :=
  match unreadable s a st k, (columnAt s a st k []).recon with
  | [], _ => s
  | ms, some c =>
    let s := writeFixesBut bad a st (ms.map fun m => (m, k, roleVal (memN s a) st m c)) s
    let ok := ms.filter fun m => bad ≠ some m
    (s.each ok fun s m => mediaCount a m s).incSat (R.STR_An_REPAIR_READ_REPAIRED a) ok.length
  | _, none => s

/-- The same where every write succeeds. -/
def repairColumn (a st k : Nat) (s : State) : State := repairBut none a st k s

/-- Some column of the stripe has more than two erasures (R114). -/
def beyond (s : State) (a st : Nat) : Bool := (List.range (strB s a)).any fun k => decide (2 < erasuresAt s a st k [])

/-! ### Resynchronisation (R110, R111) -/

/-- What resync writes in a column; none where VERIFY finds a MISMATCH or the column is beyond repair. -/
def resyncColumn (s : State) (a st k : Nat) : Option (List (Nat × Nat × Block)) :=
  let n := memN s a
  let c := columnAt s a st k []
  match c.recon with
  | none => none
  | some f =>
    let lostData := c.ds.any (·.isNone)
    let p := parityP f.1
    let q := parityQ f.1
    if lostData ∧ c.p.isSome ∧ c.q.isSome ∧ (p ≠ f.2.1 ∨ q ≠ f.2.2) then none
    else
      some ((if c.p.isSome ∧ p ≠ f.2.1 ∧ ¬ lostData then [(pMem n st, k, p)] else []) ++
        (if c.q.isSome ∧ q ≠ f.2.2 ∧ ¬ lostData then [(qMem n st, k, q)] else []))

/-- All columns of a stripe; none where one of them is none. -/
def resyncFixes (s : State) (a st : Nat) : Nat → Option (List (Nat × Nat × Block))
  | 0 => some []
  | k + 1 => match resyncFixes s a st k, resyncColumn s a st k with
    | some l, some r => some (l ++ r)
    | _, _ => none

/-- The BASKET key of a page of the verified-ahead bitmaps (Table 8.4). -/
def bitmapKey (s : State) (slot : Nat) : Nat := bskKey (s.bsk.w * 259 / 256 + 16384 + slot)

/-- A bitmap page goes: the stripes that it names are verified again (R110, R201, R202). -/
def bitmapDrop (x : Nat × Nat × Nat) (s : State) : State :=
  let s := { s with bsk.bitmaps := s.bsk.bitmaps.filter (· ≠ x) }
  s.modArr x.2.1 fun r => { r with rs := r.rs.map fun y => { y with verified := y.verified.filter fun st => st / 32768 ≠ x.2.2 } }

/-- The bitmap page with a key is lost. -/
def bitmapLost (key : Nat) (s : State) : State :=
  s.each (s.bsk.bitmaps.filter fun x => bitmapKey s x.1 = key) fun s x => bitmapDrop x s

/-- The bitmap page (place, array, page of the array's bitmap) that holds the bit of a stripe. It is made where none stands; where the region
of 16,384 pages is full, the oldest page is dropped (R202). -/
def bitmapPage (a st : Nat) (s : State) : Nat × State :=
  match s.bsk.bitmaps.find? fun x => x.2.1 = a && x.2.2 = st / 32768 with
  | some x => (x.1, s)
  | none =>
    let used := s.bsk.bitmaps.filter fun x => ((s.arr x.2.1).rs.map fun r => r.verified.any fun t => t / 32768 = x.2.2).getD false
    let s := { s with bsk.bitmaps := used }
    let s := if used.length < 16384 then s else
      match used with
      | x :: _ => bitmapDrop x s
      | [] => s
    let slot := ((List.range (s.bsk.bitmaps.length + 1)).find? fun i => ¬ s.bsk.bitmaps.any fun x => x.1 = i).getD 0
    (slot, { s with bsk.bitmaps := s.bsk.bitmaps ++ [(slot, a, st / 32768)] })

/-- Record a stripe as verified ahead of the watermark (R110, R112). -/
def setVerified (a st : Nat) (s : State) : State :=
  if (s.arr a).rs.isNone then s else
  let p := bitmapPage a st s
  let s := envDirty (bitmapKey p.2 p.1) p.2
  s.modArr a fun r => { r with rs := r.rs.map fun x => { x with verified := insNat st x.verified } }

/-- The resync step of one stripe (R111), its CHECK or VERIFY an engine operation of `op`: correct the parity, or mark the stripe lost. -/
def resyncStripe (op a st : Nat) (s : State) : State :=
  if isLost s a st then setVerified a st s else
  let s := engine op (strB s a) (memN s a) s
  match resyncFixes s a st (strB s a) with
  | some fixes => setVerified a st (writeFixes a st fixes s)
  | none =>
    let s := markLost a st 3 s
    let s := s.modArr a fun r => { r with rs := r.rs.map fun x => { x with lost := x.lost + 1 } }
    setVerified a st s

/-! ### CHECKFIX (R135 to R138) -/

/-- Patrol acts on one column's verdict (Table 5.6). -/
def patrolColumn (a st k : Nat) (s : State) : State :=
  let n := memN s a
  let fix := s.rd (R.STR_An_POLICY_PATROL_FIX a)
  let c := columnAt s a st k []
  if c.erasures ≠ 0 then s else
  let ds := c.ds.map (·.getD 0)
  let p := c.p.getD 0
  let q := c.q.getD 0
  match verdict ds p q with
  | .clean => s
  | .pErr sp =>
    if fix = 0 then s.incSat (R.STR_An_PT_MULTI_UNFIXED a)
    else (writeFixes a st [(pMem n st, k, p ^^^ sp)] s).incSat (R.STR_An_PT_FIX_PARITY_FIXED a)
  | .qErr sq =>
    if fix = 0 then s.incSat (R.STR_An_PT_MULTI_UNFIXED a)
    else (writeFixes a st [(qMem n st, k, q ^^^ sq)] s).incSat (R.STR_An_PT_FIX_PARITY_FIXED a)
  | .dataErr z sp =>
    if fix = 2 then
      let m := dMem n st z
      let s := writeFixes a st [(m, k, ds.getD z 0 ^^^ sp)] s
      (mediaCount a m s).incSat (R.STR_An_PT_FIX_DATA_FIXED a)
    else s.incSat (R.STR_An_PT_MULTI_UNFIXED a)
  | .multi => s.incSat (R.STR_An_PT_MULTI_MULTI a)

/-- Patrol of one stripe: unreadable blocks are repaired first (R138); with more than two in a column the stripe is lost (R114). -/
def patrolStripe (a st : Nat) (s : State) : State :=
  if beyond s a st then markLost a st 0 s
  else (engineStep a st (strB s a) (memN s a) s).each (List.range (strB s a)) fun s k => patrolColumn a st k (repairColumn a st k s)

/-! ### Rebuild (R125, R127) and copyback (R130) of one stripe -/

/-- Write the strips of members `ms` of a stripe onto the drives that are their targets: reconstructed contents, or
zeros in a lost stripe. -/
def targetWrite (a st : Nat) (ms : List Nat) (s : State) : State :=
  let b := strB s a
  let n := memN s a
  let lost := isLost s a st
  s.each (List.range b) fun s k =>
    let c := (columnAt s a st k []).recon
    s.each ms fun s m =>
      let v : Block := match c with
        | some c => if lost then 0 else roleVal n st m c
        | none => 0
      mediaWrite (memDrv s a m) (memLba b st k) v s

/-- One rebuild stripe for the targets of members `ms`: unreadable blocks are repaired where two erasures or fewer
remain; beyond that the stripe is marked lost and its target strips are zeroed. -/
def rebuildStripe (a st : Nat) (ms : List Nat) (s : State) : State :=
  if nsOfStripe s a st = none then s else
  let s := s.each (List.range (strB s a)) fun s k => repairColumn a st k s
  let s := if ¬ isLost s a st ∧ beyond s a st then markLost a st 0 s else s
  if coalescing s a st then s else
  let s := s.modArr a fun r => { r with reconReads := r.reconReads + dataN s a }
  targetWrite a st ms (engineStep a st (strB s a) (dataN s a) s)

/-- One copyback stripe: the source strip to the destination; an unreadable source block is reconstructed by the engine and
repaired (R130); with more than two erasures in its column the stripe is lost (R114). -/
def copyStripe (a st src dest : Nat) (s : State) : State :=
  if nsOfStripe s a st = none then s else
  let b := strB s a
  let bad := (List.range b).filter fun k => (stripAt s a st k [] src).isNone
  let s := if bad.isEmpty then s else engineStep a st bad.length (dataN s a) s
  let s := if bad.any fun k => decide (2 < erasuresAt s a st k []) then markLost a st 0 s else s
  s.each (List.range b) fun s k =>
    let s := if (stripAt s a st k [] src).isNone then repairColumn a st k s else s
    match stripAt s a st k [] src with
    | some v => mediaWrite dest (memLba b st k) v s
    | none => s

/-! ### Repair of an open stripe INTENT (Table 4.12) -/

/-- The extent's pages match its DCRC. -/
def extentOk (s : State) (e : Extent) : Bool :=
  dcrc (s.on (R.STR_An_GEOM_META e.array)) ((List.range e.count).map fun i => pageAt s (e.addr + i)) = e.dcrc

/-- Close a stripe INTENT whose stripe is marked lost. -/
def repairLost (a st q : Nat) (s : State) : State :=
  let s := markLost a st 1 s
  let s := if s.jrn.opens.any fun o => o.seq = q then closeStripe a st q 1 s else s
  releaseSaved q (s.incSat R.GON_REPLAY1_LOST)

/-- Close a stripe INTENT as written. -/
def repairDone (a st q status : Nat) (s : State) : State :=
  (closeStripe a st q status (stripeGone a st s)).incSat R.GON_REPLAY1_REPAIRED

/-- The companion of a FULL INTENT that has been closed is released, unless another open INTENT names it still (R95, R102). -/
def companionEnd (q : Nat) (s : State) : State :=
  let named := s.jrn.opens.any fun r => match r.body with
    | .stripe _ _ op _ _ _ upto .. => op = 0 && upto = q
    | _ => false
  if named then s else releaseCompanion q s

/-- The companion that a FULL INTENT names, present and matching. -/
def companionOf (s : State) (upto : Nat) : Option Extent :=
  s.bsk.extents.find? fun e => e.companion && e.seq = upto && upto ≠ 0 && extentOk s e

/-- A FULL INTENT. -/
def repairFull (a st q upto : Nat) (s : State) : State :=
  let b := strB s a
  match companionOf s upto, nsOfStripe s a st with
  | some e, some n =>
    let s := s.each (List.range b) fun s k =>
      let ds := (List.range (dataN s a)).map fun i => pageAt s (e.page (lbaOf s n st i k))
      s.each (columnWrites s a st k ds) fun s w => memberWrite a w.1 st w.2.1 w.2.2 s
    let s := repairDone a st q 0 (clearLost a st s)
    companionEnd e.seq (endStripe a st (s.jrn.nextSeq - 1) s)
  | _, _ =>
    if missCount s a = 0 ∧ (List.range b).all (fun k => (columnAt s a st k []).ds.all (·.isSome)) then
      let s := s.each (List.range b) fun s k =>
        let ds := (columnAt s a st k []).ds.map (·.getD 0)
        memberWrite a (qMem (memN s a) st) st k (parityQ ds) (memberWrite a (pMem (memN s a) st) st k (parityP ds) s)
      companionEnd upto (repairDone a st q 3 s)
    else companionEnd upto (repairLost a st q s)

/-- The data block of a column that the repair of an RMW, RCW or COALESCE takes: an entry up to UPTO, zeros beyond NSZE for a
COALESCE (R97), a saved column, or the present strip. -/
def repairVal (s : State) (a st k i op first cols upto save i0 i1 : Nat) : Option Block :=
  match overlayAt s a st i k upto with
  | some v => some v
  | none =>
    if op = 3 ∧ (blockAt s a st i k).isNone then some 0 else
    let held := s.bsk.saved.any fun x => x.addr = save && decide (0 < x.count)
    if i = i0 then (if held then some (pageAt s (save + (k - first))) else none)
    else if i = i1 then (if held then some (pageAt s (save + cols + (k - first))) else none)
    else stripAt s a st k [] (dMem (memN s a) st i)

/-- An RMW, RCW or COALESCE INTENT: all new where every data block of the range is known, else lost. -/
def repairDestage (a st q op first cols wmask upto save i0 i1 : Nat) (s : State) : State :=
  let d := dataN s a
  let ks := rangeFrom first cols
  let vals := ks.map fun k => (k, (List.range d).map fun i => repairVal s a st k i op first cols upto save i0 i1)
  let entries := ks.any fun k => (List.range d).any fun i => (overlayAt s a st i k upto).isSome
  if entries ∧ vals.all (fun v => v.2.all (·.isSome)) then
    let s := s.each vals fun s v =>
      s.each ((columnWrites s a st v.1 (v.2.map (·.getD 0))).filter fun w => bit wmask w.1) fun s w =>
        memberWrite a w.1 st w.2.1 w.2.2 s
    let s := repairDone a st q 0 s
    releaseSaved q (releaseStripe a st upto (s.jrn.nextSeq - 1) s)
  else repairLost a st q s

/-- VERIFY of one column (Table 3.7): what is erased is reconstructed, and the parity that is present agrees with the data. -/
def verifyColumn (s : State) (a st k : Nat) : Bool :=
  let c := columnAt s a st k []
  match c.recon with
  | none => false
  | some f => (c.p.isNone || parityP f.1 = f.2.1) && (c.q.isNone || parityQ f.1 = f.2.2)

/-- A REPAIR INTENT. -/
def repairRepair (a st q first cols : Nat) (s : State) : State :=
  let ks := rangeFrom first cols
  if missCount s a = 0 ∧ ks.all (fun k => erasuresAt s a st k [] = 0) then
    repairDone a st q 0 (s.each ks fun s k => patrolColumn a st k s)
  else if ks.all (verifyColumn s a st) then
    repairDone a st q 0 (s.each ks fun s k => repairColumn a st k s)
  else repairLost a st q s

/-- Repair one open stripe INTENT. -/
def repairGo (r : Rec) (s : State) : State :=
  match r.body with
  | .stripe a st op first cols wmask upto save i0 i1 =>
    match op with
    | 0 => repairFull a st r.seq upto s
    | 4 => repairRepair a st r.seq first cols s
    | _ => repairDestage a st r.seq op first cols wmask upto save i0 i1 s
  | _ => s

/-- Repair one open stripe INTENT; it stays open while its array is FAILED, OFFLINE or not enabled. -/
def repairIntent (r : Rec) (s : State) : State :=
  match r.body with
  | .stripe a .. => if arrServes s a then repairGo r s else s
  | _ => s

end Sys2Proof.Machine
end

