-- ==== Sys2Proof/Machine/IoPath.lean ====
section
/-! DEFINITION. The read path (R10 to R12, R114, R177), the two write paths (R13 to R15, R95 to R99), destage (R97),
stripe operations and their phases, completion of commands. Every wait keeps its context or operation in the state
until the row that ends it. -/

namespace Sys2Proof.Machine

/-! ### Completion -/

/-- Statistics of a completed command: queue, engine, controller, latency gauges (R344). -/
def tally (c : Ctx) (st : Status) (s : State) : State :=
  let s := s.modQueue c.h.ctrl c.h.q fun q => { q with completed := q.completed + 1 }
  let s := { s with ce.cmdsEpoch := s.ce.cmdsEpoch + 1 }
  let s := match s.pair.takeFrom with
    | some d => { s.wr R.SPR_LAST_TAKEOVER_EPOCHS (min 255 (s.tet.epoch - d)) with pair.takeFrom := none }
    | none => s
  let s := if c.ordered then s.incWrap R.HPT_CE_CNT_ORDERED_ORDERED else s
  if st ≠ stOk then s else
  let g := if c.h.ctrl < 16 then 0 else 2
  match c.op with
  | .read =>
    let s := s.modCtrl c.h.ctrl fun x => { x with rdBlk := x.rdBlk + c.nlb, rdCmd := x.rdCmd + 1 }
    if c.nlb = 1 then s.gaugeTime g else s
  | .write =>
    let s := s.modCtrl c.h.ctrl fun x => { x with wrBlk := x.wrBlk + c.nlb, wrCmd := x.wrCmd + 1 }
    if c.nlb = 1 then s.gaugeTime (g + 1) else s
  | .flush => s.gaugeTime 4
  | _ => s

/-- A fabric queue below its reservation gets its context back as a credit at once (R142, R144 rule 1). -/
def creditBack (h : IoHdr) (s : State) : State :=
  match queueOf s h.ctrl h.q with
  | some q => if 16 ≤ h.ctrl ∧ heldBy s q < q.r ∧ heldBy s q + 1 < q.size ∧ taking s then
      ackCredits h.ctrl h.q (s.modQueue h.ctrl h.q fun x => { x with credits := x.credits + 1 })
    else s
  | none => s

/-- A command completes exactly once (R151): its locks, lines and waits end, its context returns; member reads still
out are left to finish and their data is discarded. -/
def finishCtx (c : Ctx) (st : Status) (data : List Block) (s : State) : State :=
  let s := { s with
    ce.ctxs := s.ce.ctxs.filter fun x => x.id ≠ c.id,
    ce.mcmds := s.ce.mcmds.map fun m => if m.owner = c.id ∧ m.sop = 0 then { m with owner := 0 } else m,
    env.allocQ := s.env.allocQ.filter fun e => e.1 ≠ c.id,
    env.evbQ := s.env.evbQ.filter fun e => e.1 ≠ c.id }
  let s := envSettle c.wantKeys (st = stOk) (unlockAll c.id (jobsDrop c.id s))
  creditBack c.h (tally c st (cqe c.h st.1 st.2.1 st.2.2 0 data s))

/-- Take the lock entries that a context still needs, in ascending order (R94). -/
def lockGo : List Nat → Ctx → State → Bool × Ctx × State
  | [], c, s => (true, { c with need := [] }, s)
  | i :: is, c, s =>
    match lockReq c.id c.shared i s with
    | (true, s') => lockGo is { c with held := c.held ++ [i] } s'
    | (false, s') => (false, { c with need := i :: is, phase := .lock }, s')

/-- The stripes that a run of namespace blocks touches. -/
def stripesOf (s : State) (ns : Ns) (slba n : Nat) : List Nat :=
  if n = 0 then [] else
  let lo := (placeOf s ns slba).stripe
  rangeFrom lo ((placeOf s ns (slba + n - 1)).stripe - lo + 1)

/-- The stripes that a run covers whole. -/
def wholeStripes (s : State) (ns : Ns) (slba n : Nat) : List Nat :=
  (stripesOf s ns slba n).filter fun st =>
    let l := (st - ns.base) * perStripe s ns.array
    decide (slba ≤ l) && decide (l + perStripe s ns.array ≤ slba + n)

/-- Lock-table entries of stripes, ascending without repeats. -/
def entriesOf (a : Nat) (sts : List Nat) : List Nat := sts.foldl (fun l st => insNat (lockIdx a st) l) []

/-! ### Skirt prefetch (R182, R183) -/

/-- A new Skirt line in fill, replacing the oldest unused line where the Skirt is full. -/
def skirtFill (k : Nat) (s : State) : State :=
  let s := if s.env.skirt.length < 512 then s else
    match s.env.skirt with
    | _ :: t => { s with env.skirt := t }.incWrap (R.ENV_CNTj_COUNT 4)
    | [] => s
  { s with env.skirt := s.env.skirt ++ [(⟨k, false, true⟩ : SkirtLine)] }

/-- The prefetch of a block on a missing member: reconstructed under the stripe's shared lock, which is kept until the engine retires its
job; dropped where that lock would be waited for (R183). -/
def prefetchRecon (a st k : Nat) (s : State) : State :=
  let op := 2 ^ 33 + s.ce.nextId
  if ¬ engineOn s then s else
  match lockReq op true (lockIdx a st) { s with ce.nextId := s.ce.nextId + 1 } with
  | (true, t) => skirtFill k (engine op 1 (dataN s a) t)
  | (false, _) => s

/-- Issue the prefetch of one block. -/
def prefetchBlock (ns : Ns) (l : Nat) (s : State) : State :=
  if l ≥ ns.nsze then s else
  let p := placeOf s ns l
  let m := dMem (memN s ns.array) p.stripe p.idx
  let k := dataKey s ns.array p.stripe p.idx p.col
  let up := stripUp s ns.array m p.stripe
  if isLost s ns.array p.stripe ∨ (bskFind s ns.idx l).isSome ∨ s.env.skirt.any (fun x => x.key = k) then s
  else if up then skirtFill k s
  else if s.on R.ENV_SKIRT_CFG_PREF_RECON then prefetchRecon ns.array p.stripe k s
  else s

/-- Prefetch ahead of a stream's next block. -/
def prefetch (ns : Ns) (next : Nat) (s : State) : State :=
  if s.on R.ENV_CFG_SKIRT_EN ∧ envOn s ∧ ¬ queueWaiting s ∧ arrState s ns.array ≠ aCritical then
    let depth := min (s.rd R.ENV_SKIRT_CFG_DEPTH * 16) (512 / max 1 s.env.streams.length)
    s.each (rangeFrom next depth) fun s l => prefetchBlock ns l s
  else s

/-- A completed read continues a stream or forms one (R182). -/
def streamRead (ns : Ns) (slba nlb : Nat) (s : State) : State :=
  let e := s.tet.epoch
  let others := s.env.streams.filter fun x => ¬ (x.ns = ns.idx && x.next = slba && decide (e ≤ x.last + s.rd R.ENV_SKIRT_CFG_WINDOW))
  let room := if others.length < s.rd R.ENV_SKIRT_CFG_STREAMS then others else
    match others with
    | x :: xs =>
      let old := xs.foldl (fun (m : Stream) y => if y.last < m.last then y else m) x
      others.filter fun y => ¬ (y.ns = old.ns && y.next = old.next && y.last = old.last)
    | [] => []
  prefetch ns (slba + nlb) { s with env.streams := room ++ [(⟨ns.idx, slba + nlb, e⟩ : Stream)] }

/-! ### Reads -/

/-- The newest contents of a namespace block: the write store, else the members with what the command takes as erased. -/
def blockNow (s : State) (ns : Ns) (l : Nat) (ex : List (Nat × Nat)) : Option Block :=
  match bskRead s ns.idx l with
  | some v => some v
  | none => let p := placeOf s ns l; dataAt s ns.array p.stripe p.col p.idx ex

/-- Every block is in hand: check, complete, and note the stream. -/
def readFinish (c : Ctx) (ns : Ns) (vs : List Block) (s : State) : State :=
  let err := if ns.lbaf = 0 then none else piErrs c.flags.prchk c.flags.appTag c.flags.refTag vs
  if c.flags.xferErr then finishCtx c (0, 4, false) [] s
  else match err with
    | some e => finishCtx c e [] s
    | none => streamRead ns c.slba c.nlb (finishCtx c stOk (piReturn ns.lbaf c.flags vs) s)

/-- A block that neither the Envelope nor the Skirt nor the Basket holds. -/
def fromMembers (s : State) (ns : Ns) (l : Nat) : Bool :=
  let p := placeOf s ns l
  let k := dataKey s ns.array p.stripe p.idx p.col
  (bskFind s ns.idx l).isNone && (envFind s k).isNone && ¬ s.env.evb.any (·.1 = k) &&
    ¬ s.env.skirt.any fun x => x.key = k && x.filled && x.valid

/-- The stripes of blocks that a read takes from the members and whose columns have more than two erasures (R114). -/
def deadStripes (s : State) (c : Ctx) (ns : Ns) (ls : List Nat) : List Nat :=
  (ls.filterMap fun l =>
    let p := placeOf s ns l
    if 2 < erasuresAt s ns.array p.stripe p.col c.erased then some p.stripe else none).eraseDups

/-- Blocks that a read takes from the members now. -/
def memberBlocks (s : State) (ns : Ns) (c : Ctx) : List Nat :=
  (rangeFrom c.slba c.nlb).filter fun l =>
    let p := placeOf s ns l
    c.wantKeys.contains (dataKey s ns.array p.stripe p.idx p.col)

/-- Everything that a read needs has been read and computed: its blocks as they stand now, under the locks. -/
def readDeliver (onLost : Ctx → State → State) (ns : Ns) (c : Ctx) (s : State) : State :=
  let vs := (rangeFrom c.slba c.nlb).filterMap fun l => blockNow s ns l c.erased
  if vs.length = c.nlb then readFinish c ns vs s else onLost c s

/-- All member reads have returned: erased strips are reconstructed by the engine (R115), whose last job ends the wait. -/
def readAssemble (onLost : Ctx → State → State) (ns : Ns) (c : Ctx) (s : State) : State :=
  let rebuilt := (rangeFrom c.slba c.nlb).filter fun l =>
    let p := placeOf s ns l
    (bskFind s ns.idx l).isNone && (stripAt s ns.array p.stripe p.col c.erased (dMem (memN s ns.array) p.stripe p.idx)).isNone
  let t := engine c.id rebuilt.length (dataN s ns.array) s
  if engineBusy t c.id then t.putCtx { c with phase := .engine } else readDeliver onLost ns c s

/-- Where a block of a read is found (R177): 0 Envelope or Skirt; 1 a Basket page, not in the Envelope; 2 the members. -/
def readLookup (ns : Ns) (l : Nat) (s : State) : Nat × State :=
  let p := placeOf s ns l
  let k := dataKey s ns.array p.stripe p.idx p.col
  match envLookup k s with
  | (true, s) => (0, s)
  | (false, s) =>
    if s.env.skirt.any fun x => x.key = k && x.filled && x.valid then
      let s := { s with env.skirt := s.env.skirt.filter fun x => x.key ≠ k }.incWrap (R.ENV_CNTj_COUNT 2)
      (0, (envAlloc k .clean false s).2)
    else match bskFind s ns.idx l with
      | some e => match envLookup (bskKey (e.page l)) s with
        | (true, s) => (0, s)
        | (false, s) => (1, s)
      | none => match s.bsk.clean.find? fun x => x.1 = k with
        | some x => match envLookup (bskKey x.2.1) s with
          | (true, s) => (0, s)
          | (false, s) => (1, s)
        | none => (2, s)

/-- The strips of a column on drives whose controllers are being reset, which count as erased for the reads of that time (R118); none
where that would make more than two erasures. -/
def slowStrips (s : State) (a st k : Nat) (ex : List (Nat × Nat)) : List (Nat × Nat) :=
  let slow := ((List.range (memN s a)).filter fun m => stripUp s a m st && ((driveAt s (memDrv s a m)).map (·.resetting)).getD false).map
    fun m => (memDrv s a m, memLba (strB s a) st k)
  if slow.isEmpty ∨ 2 < erasuresAt s a st k (ex ++ slow) then [] else slow

/-- What the reads of these blocks take as erased beside what they met already. -/
def slowErased (s : State) (ns : Ns) (c : Ctx) (ls : List Nat) : List (Nat × Nat) :=
  (ls.flatMap fun l => let p := placeOf s ns l; slowStrips s ns.array p.stripe p.col c.erased).eraseDups

/-- The member reads that the missed blocks of one stripe need: the strip itself, or the survivors of its column (R115). -/
def readWants (s : State) (ns : Ns) (c : Ctx) (st : Nat) (ls : List Nat) : List (Nat × Nat) :=
  (ls.flatMap fun l =>
    let p := placeOf s ns l
    if p.stripe ≠ st then [] else
    let m := dMem (memN s ns.array) st p.idx
    if (stripAt s ns.array st p.col c.erased m).isSome then [(m, p.col)]
    else (survivors s ns.array st p.col c.erased).map fun x => (x, p.col)).eraseDups

/-- Issue the member reads of a read command; none needed means that all is in hand. -/
def readIssue (onLost : Ctx → State → State) (ns : Ns) (c : Ctx) (ls : List Nat) (s : State) : State :=
  let c := { c with erased := c.erased ++ slowErased s ns c ls }
  let r := (stripesOf s ns c.slba c.nlb).foldl (fun (acc : List Nat × State) st =>
    let x := readCols ns.array st c.id 0 (readWants acc.2 ns c st ls) acc.2
    (acc.1 ++ x.1, x.2)) ([], s)
  let c := { c with outst := c.outst ++ r.1, phase := .member }
  let s := r.2.putCtx c
  if c.outst.isEmpty then readAssemble onLost ns c s else s

/-- Allocate the lines that a read fills, waiting where a set or the eviction buffer is full (R174, R178). -/
def readAlloc (onLost : Ctx → State → State) (ns : Ns) (c : Ctx) (s : State) : State :=
  let recon := fun k => (rangeFrom c.slba c.nlb).any fun l =>
    let p := placeOf s ns l
    dataKey s ns.array p.stripe p.idx p.col = k && ¬ stripUp s ns.array (dMem (memN s ns.array) p.stripe p.idx) p.stripe
  match envAllocAll .fill recon c.wantKeys s with
  | (none, s) => readIssue onLost ns c (memberBlocks s ns c) s
  | (some (.evb, k), s) => { s.putCtx { c with phase := .evb } with env.evbQ := s.env.evbQ ++ [(c.id, k)] }
  | (some (_, k), s) => { s.putCtx { c with phase := .alloc } with env.allocQ := s.env.allocQ ++ [(c.id, k)] }

/-- Pages of a read that are being fetched from the standby (R201, R301). -/
def fetchWaits (s : State) (ns : Ns) (c : Ctx) : List Nat :=
  (rangeFrom c.slba c.nlb).filterMap fun l => match bskFind s ns.idx l with
    | some e => if s.bsk.fetching.contains (e.page l) then some (2 ^ 33 + e.page l) else none
    | none => none

/-- A block of the read whose line another requester is filling (R173, R179). -/
def fillWait (s : State) (ns : Ns) (c : Ctx) : Option Nat :=
  ((rangeFrom c.slba c.nlb).map fun l => let p := placeOf s ns l; dataKey s ns.array p.stripe p.idx p.col).find? fun k =>
    ((envFind s k).map (·.st)) = some .fill

/-- Serve a read of resynchronised stripes: refuse lost stripes, wait for fills of others, look every block up, then take the rest from
the members (R11, R114, R177). -/
def readFound (onLost : Ctx → State → State) (ns : Ns) (c : Ctx) (s : State) : State :=
  let sts := stripesOf s ns c.slba c.nlb
  if sts.any (isLost s ns.array) then finishCtx c stUre [] s
  else if lookupsStopped s then { s.putCtx { c with phase := .fill } with env.allocQ := s.env.allocQ ++ [(c.id, 0)] }
  else match fillWait s ns c with
  | some k => { s.putCtx { c with phase := .fill } with env.allocQ := s.env.allocQ ++ [(c.id, k)] }
  | none =>
    let r := (rangeFrom c.slba c.nlb).foldl (fun (acc : List Nat × State) l =>
      let p := placeOf s ns l
      let k := dataKey s ns.array p.stripe p.idx p.col
      match readLookup ns l acc.2 with
      | (0, s') => (acc.1, s')
      | (1, s') => (match bskFind s' ns.idx l with
        | some e => acc.1 ++ [bskKey (e.page l)]
        | none => match s'.bsk.clean.find? fun x => x.1 = k with
          | some x => acc.1 ++ [bskKey x.2.1]
          | none => acc.1, s')
      | (_, s') => (acc.1 ++ [k], s')) ([], s)
    let c := { c with wantKeys := r.1.eraseDups, outst := fetchWaits s ns c }
    if deadStripes r.2 c ns (memberBlocks r.2 ns c) ≠ [] then onLost { c with wantKeys := [], outst := [] } r.2
    else readAlloc onLost ns c r.2

/-- Serve a read whose locks are held: the stripes not yet resynchronised run the step of R111 first (R112). -/
def readServe (onLost : Ctx → State → State) (ns : Ns) (c : Ctx) (s : State) : State :=
  let due := (stripesOf s ns c.slba c.nlb).filter fun st => ¬ synced s ns.array st
  let t := s.each due fun s st => resyncStripe c.id ns.array st s
  if due.isEmpty then readFound onLost ns c s
  else if ringShort s ∧ intentSince s.jrn.nextSeq t then s.putCtx { c with phase := .ring }
  else if engineBusy t c.id then t.putCtx { c with phase := .verify }
  else readFound onLost ns c t

/-- The read is served again from R11, under a shared lock where its stripes are resynchronised (R114 step 5). -/
def readAgain (ns : Ns) (c : Ctx) (s : State) : State :=
  let s := envSettle c.wantKeys false (unlockAll c.id s)
  let sts := stripesOf s ns c.slba c.nlb
  let c := { c with shared := sts.all (synced s ns.array), held := [], wantKeys := [], erased := [] }
  match lockGo (entriesOf ns.array sts) c (s.putCtx c) with
  | (true, c, s) => readServe (fun c s => finishCtx c stUre [] s) ns c (s.putCtx c)
  | (false, c, s) => s.putCtx c

/-- With the exclusive lock held the columns are read again; the stripes that are still beyond repair are marked lost, and the read is
served again (R114 steps 3 to 5). -/
def readLost (ns : Ns) (c : Ctx) (s : State) : State :=
  readAgain ns c (s.each (deadStripes s { c with erased := [] } ns ((rangeFrom c.slba c.nlb).filter (fromMembers s ns)))
    fun s st => markLost ns.array st 0 s)

/-- A read that must mark a stripe lost gives up its shared locks and takes them exclusively (R114 steps 1 and 2). -/
def readRetake (ns : Ns) (c : Ctx) (s : State) : State :=
  let s := envSettle c.wantKeys false (unlockAll c.id s)
  match lockGo (entriesOf ns.array (stripesOf s ns c.slba c.nlb)) { c with shared := false, held := [], wantKeys := [], erased := [] } s with
  | (true, c, s) => readLost ns c (s.putCtx c)
  | (false, c, s) => s.putCtx c

/-- What a read does when a column is beyond repair: by the lock it holds. -/
def onLostFor (ns : Ns) (c : Ctx) : Ctx → State → State := if c.shared then readRetake ns else readLost ns

/-! ### Stripe operations -/

/-- Replace a stripe operation. -/
def State.putSop (s : State) (o : SOp) : State :=
  { s with ce.sops := s.ce.sops.map fun x => if x.id = o.id then o else x }

/-- The contexts that wait in write-through for destage, and have none of their extents left. -/
def destagedCtxs (s : State) : List Ctx :=
  s.ce.ctxs.filter fun c => c.phase = .destage && ¬ s.bsk.extents.any fun e => c.seqs.contains e.seq

/-- A write with nothing left to start: acknowledge, or wait for the mirror (R16) or for destage (R153, R206), whose lock entries it
leaves free (log entry 71). -/
def writeFinish (c : Ctx) (s : State) : State :=
  if ¬ c.bparts.isEmpty ∨ ¬ c.stripes.isEmpty ∨ ¬ c.sops.isEmpty then s.putCtx c
  else if c.mirEpoch ≠ 0 ∧ mirroring s then s.putCtx { c with phase := .mirror }
  else if ¬ writeBack s ∧ s.bsk.extents.any (fun e => c.seqs.contains e.seq) then
    (s.each c.held fun s i => unlock c.id i s).putCtx { c with phase := .destage, held := [] }
  else finishCtx c stOk [] s

/-- Complete the write-through commands whose destage has ended. -/
def finishDestaged (s : State) : State := s.each (destagedCtxs s) fun s c => writeFinish c s

/-- The keys of the data blocks of a stripe. -/
def stripeKeys (s : State) (a st : Nat) : List Nat :=
  (List.range (dataN s a)).flatMap fun i => (List.range (strB s a)).map fun k => dataKey s a st i k

/-- A stripe operation ends without its effect; the lines that it holds become INVALID (R174). -/
def sopDrop (o : SOp) (s : State) : State :=
  let s := { s with
    ce.sops := s.ce.sops.filter fun x => x.id ≠ o.id,
    ce.mcmds := s.ce.mcmds.filter fun m => m.sop ≠ o.id,
    bsk.saved := s.bsk.saved.filter fun x => ¬ ((x.owner = o.seq && o.seq ≠ 0) || x.owner = 2 ^ 64 + o.id) }
  let s := if o.kind = .full then envSettle (stripeKeys s o.array o.stripe) false s else s
  unlockAll (sopOwner o.id) (jobsDrop (sopOwner o.id) s)

/-- Every member write has completed (R14 steps 6 and 7, R15 step 10): lost marks of stripes written whole are cleared (R73), DONE, the
releases (R89, R161). A destage gives up its lock; a command keeps its entries until it completes (R10, R94). -/
def sopDone (o : SOp) (s : State) : State :=
  let a := o.array
  let st := o.stripe
  let through := o.kind = .full || o.kind = .zero || o.kind = .trim
  let ks := stripeKeys s a st
  let s := if o.kind = .zero ∨ o.kind = .trim then stripeGone a st s
    else keysGone (fun k => o.data.any fun w => k = memKey a w.1 (memLba (strB s a) st w.2.1)) s
  let s := if through then envSettle ks true s else s
  let s := if o.kind = .full ∨ o.kind = .zero ∨ o.kind = .coalesce then clearLost a st s else s
  let s := if through then setVerified a st s else s
  let s := closeStripe a st o.seq 0 s
  let done := s.jrn.nextSeq - 1
  let s := { s with ce.sops := s.ce.sops.filter fun x => x.id ≠ o.id }
  let s := if through then
      let s := if o.kind = .full then endStripe a st done s else discardStripe a st s
      if o.compan ≠ 0 ∧ s.ce.sops.any (fun x => x.compan = o.compan) then s else releaseCompanion o.compan s
    else { releaseSaved o.seq (releaseStripe a st o.upto done s) with bsk.destaged := s.bsk.destaged + 1 }
  let s := finishDestaged s
  if o.owner = 0 then unlockAll (sopOwner o.id) s
  else match ctxOf s o.owner with
    | some c => writeFinish { c with sops := c.sops.filter (· ≠ o.id) } s
    | none =>
      if s.ce.sops.any fun x => x.owner = o.owner && lockIdx x.array x.stripe = lockIdx a st then s
      else unlock o.owner (lockIdx a st) s

/-- Step 5 of R14, step 8 of R15: issue the member writes. -/
def sopWrites (o : SOp) (s : State) : State :=
  let a := o.array
  let b := strB s a
  let r := ((List.range (memN s a)).filter fun m => bit o.wmask m).foldl (fun (acc : List Nat × State) m =>
    (writeDrvs s a m o.stripe).foldl (fun (acc : List Nat × State) d =>
      let i := acc.2.ce.nextId
      let data := (o.data.filter fun w => w.1 = m).map fun w => (memLba b o.stripe w.2.1, w.2.2)
      (acc.1 ++ [i], addMCmd ⟨i, a, m, d, memLba b o.stripe o.first, o.cols, true, o.kind = .zero || o.kind = .trim, data, o.owner, o.id, false,
        false, false⟩ acc.2.fresh)) acc) ([], s)
  let o := { o with phase := .writes, outst := r.1 }
  let s := r.2.putSop o
  if o.outst.isEmpty then sopDone o s else s

/-- In paired mode the member writes wait until the INTENT has been mirrored (R14 step 4, R99). -/
def sopMirror (o : SOp) (s : State) : State :=
  if mirroring s ∧ o.mirEpoch ≠ 0 then s.putSop { o with phase := .mirror } else sopWrites o s

/-- The region of the stripe is marked in the newest tail copy, or the header rewrite is awaited (R108). -/
def sopRegion (o : SOp) (s : State) : State :=
  let r := o.stripe / tailR s o.array
  if regionMarked s o.array r then sopMirror o (regionTouch o.array r s) else s.putSop { o with phase := .region }

/-- Write the stripe INTENT; its mirror is the one that ends this epoch (R298). -/
def sopIntent (o : SOp) (s : State) : State :=
  let q := s.jrn.nextSeq
  let i0 := o.saveIdx.getD 0 0xFF
  let i1 := o.saveIdx.getD 1 0xFF
  let s := { s with bsk.saved := s.bsk.saved.map fun x => if x.owner = 2 ^ 64 + o.id then { x with owner := q } else x }
  let s := openStripe o.array o.stripe o.kind.code o.first o.cols o.wmask o.upto o.saveAddr i0 i1 s
  let o := { o with seq := q, mirEpoch := if mirroring s then s.tet.epoch + 1 else 0 }
  sopRegion o (s.putSop o)

/-- Write the stripe INTENT, once the ring has room (R86). -/
def sopRing (o : SOp) (s : State) : State := if ringShort s then s.putSop { o with phase := .ring } else sopIntent o s

/-- The operations whose INTENTs are written together with that of `o`: every stripe of a write that has a companion, which reads back
wholly old or wholly new after a stop (R102). -/
def sopGroup (o : SOp) (s : State) : List SOp :=
  if o.owner = 0 ∨ o.compan = 0 then [o] else s.ce.sops.filter fun x => x.owner = o.owner

/-- A stripe operation of a command is ready for its INTENT; it waits for ring room and for the other stripes of its group. -/
def sopReady (o : SOp) (s : State) : State :=
  let o := { o with phase := .ring }
  let s := s.putSop o
  let g := sopGroup o s
  let more := o.compan ≠ 0 && (ctxOf s o.owner).any fun c => ! c.stripes.isEmpty
  if ringShort s ∨ more ∨ g.any (fun x => x.phase = .engine) then s
  else s.each (g.map (·.id)) fun s i => match s.ce.sops.find? fun x => x.id = i && x.phase = .ring with
    | some x => sopIntent x s
    | none => s

/-- Save reconstructed columns of missing data strips before the INTENT (R98); a save that finds no free page waits. -/
def sopSave (o : SOp) (s : State) : State :=
  if o.saveIdx.isEmpty then sopRing o s else
  let n := o.saveIdx.length * o.cols
  let before := dirtyPages s
  match roomFor n s.bsk.clean.length s with
  | (none, s) => s.putSop { o with phase := .save }
  | (some addr, s) =>
    let vals := o.saveIdx.flatMap fun i => (rangeFrom o.first o.cols).map fun k =>
      (dataAt s o.array o.stripe k i o.erased).getD 0
    let s := pagesWrite addr vals s
    let s := { s with bsk.saved := s.bsk.saved ++ [(⟨addr, n, 2 ^ 64 + o.id, []⟩ : Saved)] }
    let o := { o with saveAddr := addr }
    sopRing o (dirtyEvents before (s.putSop o))

/-! ### Destage (R97) -/

/-- The columns of a stripe's dirty places. -/
def dirtyCols (s : State) (a st : Nat) : List Nat := (dirtyPlaces s a st).foldl (fun l p => insNat p.2 l) []

/-- The data indexes with dirty blocks. -/
def dirtyIdx (s : State) (a st : Nat) : List Nat := (dirtyPlaces s a st).foldl (fun l p => insNat p.1 l) []

/-- Any strip of the stripe cannot be read. -/
def stripeShort (s : State) (a st : Nat) : Bool := (List.range (memN s a)).any fun m => ¬ stripUp s a m st

/-- The first method of Table 4.10 that applies. -/
def destageKind (s : State) (a st : Nat) : SKind :=
  let c := (dirtyIdx s a st).length
  if coversAll s a st then .coalesce
  else if stripeShort s a st then .rcw
  else if c + 2 < dataN s a - c then .rmw
  else .rcw

/-- The member reads of a destage over its column range: those of Table 4.10, and for a column in which one of them is erased the d
survivors that reconstruct it (R115). -/
def destageReads (s : State) (a st first cols : Nat) (k : SKind) (ex : List (Nat × Nat)) : List (Nat × Nat) :=
  let n := memN s a
  let places := dirtyPlaces s a st
  let short := stripeShort s a st
  (rangeFrom first cols).flatMap fun c =>
    let up := fun m => (stripAt s a st c ex m).isSome
    let need := match k with
      | .rmw => (dirtyIdx s a st).map (dMem n st) ++ [pMem n st, qMem n st]
      | .coalesce => []
      | _ => ((List.range (dataN s a)).filter fun i => ¬ places.contains (i, c) || (short && up (dMem n st i))).map (dMem n st)
    (if need.all up then need else survivors s a st c ex).map fun m => (m, c)

/-- The new contents of one column of a destage; none beyond two erasures. RMW updates the parity (R63) where every
strip that it needs is read; otherwise the parity is recomputed. -/
def destageColumn (s : State) (o : SOp) (k : Nat) : Option (List (Nat × Nat × Block)) :=
  let a := o.array
  let st := o.stripe
  let n := memN s a
  let d := dataN s a
  let newer := (List.range d).map fun i => overlayAt s a st i k o.upto
  let changed := (List.range d).filterMap fun i => match newer.getD i none with
    | some v => some (i, v)
    | none => none
  let col := columnAt s a st k o.erased
  let olds := changed.map fun p => col.ds.getD p.1 none
  match o.kind, col.p, col.q with
  | .rmw, some p, some q =>
    if olds.all (·.isSome) then
      let r := (changed.zip olds).foldl (fun (pq : Block × Block) x =>
        let delta := x.1.2 ^^^ x.2.getD 0
        (updateP pq.1 delta, updateQ pq.2 x.1.1 delta)) (p, q)
      some (changed.map (fun x => (dMem n st x.1, k, x.2)) ++ [(pMem n st, k, r.1), (qMem n st, k, r.2)])
    else col.recon.map fun c =>
      let ds := (List.range d).map fun i => (newer.getD i none).getD (c.1.getD i 0)
      changed.map (fun x => (dMem n st x.1, k, x.2)) ++ [(pMem n st, k, parityP ds), (qMem n st, k, parityQ ds)]
  | .coalesce, _, _ =>
    let ds := (List.range d).map fun i => (newer.getD i none).getD 0
    some (columnWrites s a st k ds)
  | _, _, _ =>
    let vals := (List.range d).map fun i => match newer.getD i none with
      | some v => some v
      | none => dataAt s a st k i o.erased
    if vals.all (·.isSome) then
      let ds := vals.map (·.getD 0)
      some (changed.map (fun x => (dMem n st x.1, k, x.2)) ++ [(pMem n st, k, parityP ds), (qMem n st, k, parityQ ds)])
    else none

/-- The old data is read: compute what is written and what is saved; when the engine has retired the last job, go on to the INTENT. A
column beyond repair marks the stripe lost. -/
def destageCompute (o : SOp) (s : State) : State :=
  let a := o.array
  let st := o.stripe
  let n := memN s a
  let o := { o with upto := stripeUpto s a st, outst := [] }
  let cols := (rangeFrom o.first o.cols).map fun k => destageColumn s o k
  if cols.any (·.isNone) then sopDrop o (markLost a st 0 s)
  else
    let data := cols.flatMap fun c => c.getD []
    let gone := (List.range (dataN s a)).filter fun i => ¬ stripUp s a (dMem n st i) st
    let save := if o.kind = .coalesce then [] else gone.filter fun i =>
      ¬ (rangeFrom o.first o.cols).all fun k => (overlayAt s a st i k o.upto).isSome
    let up := data.filter fun w => stripUp s a w.1 st
    let o : SOp := { o with data := up, wmask := maskOf (up.map (·.1)).eraseDups, saveIdx := save, phase := .engine }
    let s := engine (sopOwner o.id) o.cols (if o.kind = .rmw then 2 * (dirtyIdx s a st).length + 2 else dataN s a) (s.putSop o)
    if engineBusy s (sopOwner o.id) then s else sopSave o s

/-- A destage of a resynchronised stripe: choose the method, read. -/
def destageRun (o : SOp) (s : State) : State :=
  let a := o.array
  let st := o.stripe
  match dirtyCols s a st with
  | [] => sopDrop o s
  | k :: ks =>
    let kind := destageKind s a st
    let first := if kind = .coalesce then 0 else k
    let cols := if kind = .coalesce then strB s a else (ks.getLastD k) - k + 1
    let o := { o with kind := kind, first := first, cols := cols }
    let o := { o with erased := o.erased ++ (rangeFrom first cols).flatMap fun c => slowStrips s a st c o.erased }
    let r := readCols a st 0 o.id (destageReads s a st first cols kind o.erased) (s.putSop o)
    let o := { o with phase := .reads, outst := o.outst ++ r.1 }
    if o.outst.isEmpty then destageCompute o (r.2.putSop o) else r.2.putSop o

/-- A destage that holds its lock: the stripe is resynchronised first where due (R112). -/
def destageGo (o : SOp) (s : State) : State :=
  let a := o.array
  let st := o.stripe
  if synced s a st then destageRun o s else
  let t := resyncStripe (sopOwner o.id) a st s
  if ringShort s ∧ intentSince s.jrn.nextSeq t then s.putSop { o with phase := .ring }
  else if coalescing t a st then sopDrop o t
  else if engineBusy t (sopOwner o.id) then t.putSop { o with phase := .verify }
  else destageRun o t

/-- A stripe operation that waits for ring room goes on: to its INTENT, or to the resynchronisation of its stripe. -/
def sopRingGo (o : SOp) (s : State) : State :=
  if o.cols = 0 then destageGo o s else if o.owner = 0 then sopRing o s else sopReady o s

/-- Destage of a stripe starts: its exclusive lock is requested. -/
def destageStart (a st : Nat) (s : State) : State :=
  let i := s.ce.nextId
  let o : SOp := ⟨i, 0, .rcw, a, st, 0, 0, 0, 0, 0, 0, [], .lock, [], [], [], 0, 0⟩
  let s := { s.fresh with ce.sops := s.ce.sops ++ [o] }
  match lockReq (sopOwner i) false (lockIdx a st) s with
  | (true, s) => destageGo o s
  | (false, s) => s

/-! ### Writes -/

/-- Split a Basket part at the 1 MiB LBA boundaries (R13). -/
def chunks : Nat → Nat → Nat → List (Nat × Nat)
  | 0, _, _ => []
  | f + 1, slba, n =>
    if n = 0 then [] else
    let k := min n (256 - slba % 256)
    (slba, k) :: chunks f (slba + k) (n - k)

/-- A write lies within one 1 MiB-aligned range and is at most 1 MiB. -/
def small (slba nlb : Nat) : Bool := decide (nlb ≤ 256) && slba / 256 = (slba + nlb - 1) / 256

/-- The Basket parts and the through-path stripes of a write (R13); Write Zeroes takes every whole stripe on the through
path (R161). -/
def splitWrite (s : State) (ns : Ns) (slba nlb : Nat) (zeroes : Bool) : List (Nat × Nat) × List Nat :=
  let bd := perStripe s ns.array
  let whole := wholeStripes s ns slba nlb
  let aligned := slba % bd = 0 && (slba + nlb) % bd = 0
  if small slba nlb ∧ ¬ aligned ∧ ¬ zeroes ∨ whole = [] then (chunks (nlb + 1) slba nlb, [])
  else
    let lo := (whole.headD 0 - ns.base) * bd
    let hi := (whole.getLastD 0 - ns.base + 1) * bd
    (chunks (nlb + 1) slba (lo - slba) ++ chunks (nlb + 1) hi (slba + nlb - hi), whole)

/-- The blocks of a command from namespace LBA `l`; a Write Zeroes with PRACT generates protection information (R162). -/
def dataFrom (ns : Ns) (c : Ctx) (l n : Nat) : List Block :=
  match c.op with
  | .write => (c.data.drop (l - c.slba)).take n
  | _ => (rangeFrom l n).map fun x =>
    if ns.lbaf ≠ 0 ∧ c.flags.pract then blkWithMeta 0 (piMeta 0 c.flags.appTag (c.flags.refTag + (x - c.slba))) else 0

/-- The outcome of one step of a write: it went on, or the context waits in a phase, with a key for the line queues. -/
abbrev WStep := Option (CPhase × Nat)

/-- Pages that the mirror can still carry this epoch (R300). -/
def sparShare (s : State) : Nat := (if s.rd R.SPR_LINK_LANES = 4 then 625 else 1250) - s.pair.deltaPages

/-- Commit one Basket part (R15 steps 1 and 2), or name the wait. -/
def partCommit (ns : Ns) (c : Ctx) (p : Nat × Nat) (companion : Bool) (s : State) : WStep × Nat × State :=
  let n := p.2
  if lookupsStopped s then (some (.alloc, 0), 0, s)
  else if ¬ companion ∧ (dirtyPages s + n > dirtyLimit s ∨ s.ce.ctxs.any (fun x => x.phase = .basket && decide (x.id < c.id))) then
    (some (.basket, 0), 0, s)
  else if mirroring s ∧ (sparShare s < n ∨ s.ce.ctxs.any (fun x => x.phase = .spar && decide (x.id < c.id))) then
    (some (.spar, 0), 0, s)
  else if ringShort s then (some (.ring, 0), 0, s)
  else match roomFor n s.bsk.clean.length s with
    | (none, s) => (some (.basket, 0), 0, s)
    | (some addr, s) =>
      let ks := (rangeFrom addr n).map bskKey
      match envAllocAll .held (fun _ => false) ks s with
      | (some (.evb, k), s) => (some (.evb, k), 0, s)
      | (some (_, k), s) => (some (.alloc, k), 0, s)
      | (none, s) =>
        let q := s.jrn.nextSeq
        (none, q, envSettle ks true (bskCommitAt ns p.1 addr (dataFrom ns c p.1 n) companion s))

/-- The context waits. -/
def waitIn (c : Ctx) (w : CPhase × Nat) (s : State) : State :=
  let s := s.putCtx { c with phase := w.1 }
  match w.1 with
  | .alloc => { s with env.allocQ := s.env.allocQ ++ [(c.id, w.2)] }
  | .evb => { s with env.evbQ := s.env.evbQ ++ [(c.id, w.2)] }
  | _ => s

/-- Commit the Basket parts in order until one waits. -/
def partsGo (ns : Ns) : List (Nat × Nat) → Ctx → State → WStep × Ctx × State
  | [], c, s => (none, { c with bparts := [] }, s)
  | p :: ps, c, s =>
    match partCommit ns c p false s with
    | (some w, _, s) => (some w, { c with bparts := p :: ps }, s)
    | (none, q, s) =>
      partsGo ns ps { c with seqs := c.seqs ++ [q], mirEpoch := if mirroring s then s.tet.epoch + 1 else 0 } s

/-- How the whole stripes of a command go through: written, zeroed, or deallocated alone (R161). -/
def throughKind (c : Ctx) : SKind :=
  match c.op with
  | .write => .full
  | .dsm _ => .trim
  | _ => .zero

/-- Start the through path of one stripe (R14), or name the wait: lines for its data are HELD, and the engine computes its parity. -/
def throughStart (ns : Ns) (c : Ctx) (st compan : Nat) (s : State) : WStep × Nat × State :=
  let a := ns.array
  let full := throughKind c = .full
  if full ∧ lookupsStopped s then (some (.alloc, 0), 0, s) else
  match if full then envAllocAll .held (fun _ => false) (stripeKeys s a st) s else (none, s) with
  | (some (.evb, k), s) => (some (.evb, k), 0, s)
  | (some (_, k), s) => (some (.alloc, k), 0, s)
  | (none, s) =>
    let b := strB s a
    let cols := if full then (List.range b).flatMap fun k =>
      columnWrites s a st k ((List.range (dataN s a)).map fun i => (dataFrom ns c (lbaOf s ns st i k) 1).headD 0) else []
    let i := s.ce.nextId
    let o : SOp := ⟨i, c.id, throughKind c, a, st, 0, b, maskOf (writeMembers s a st), 0, compan, 0, [], if full then .engine else .ring,
      [], cols.filter fun w => stripUp s a w.1 st, [], 0, compan⟩
    let s := { s.fresh with ce.sops := s.ce.sops ++ [o] }
    (none, i, if full then engine (sopOwner i) b (dataN s a) s else s)

/-- Start the through-path stripes in order until one waits; answers the operations made. -/
def stripesGo (ns : Ns) : List Nat → Ctx → State → WStep × Ctx × State
  | [], c, s => (none, { c with stripes := [] }, s)
  | st :: sts, c, s =>
    match throughStart ns c st (c.compan.getD 0) s with
    | (some w, _, s) => (some w, { c with stripes := st :: sts }, s)
    | (none, i, s) => stripesGo ns sts { c with sops := c.sops ++ [i] } s

/-- The companion of a through-path write (R95): committed before anything else of the command. -/
def companionGo (ns : Ns) (c : Ctx) (s : State) : WStep × Ctx × State :=
  if c.compan.isSome then (none, c, s)
  else if c.stripes.isEmpty ∨ throughKind c = .trim ∨ ¬ small c.slba c.nlb then (none, { c with compan := some 0 }, s)
  else match partCommit ns c (c.slba, c.nlb) true s with
    | (some w, _, s) => (some w, c, s)
    | (none, q, s) => (none, { c with compan := some q }, s)

/-- The stripe operations of a context for which the engine has nothing left to do go on to their INTENTs. -/
def ringGo (ids : List Nat) (s : State) : State :=
  s.each ids fun s i => match s.ce.sops.find? fun o => o.id = i && (o.phase = .ring || o.phase = .engine) with
    | some o => if engineBusy s (sopOwner i) then s else sopReady o s
    | none => s

/-- The Basket parts of a command. Those of a small Write Zeroes are committed only where all of them and the INTENTs of its stripes
can be written without a wait between, so that it reads back wholly old or wholly new (R102, R161). -/
def partsAll (ns : Ns) (c : Ctx) (s : State) : WStep × Ctx × State :=
  match partsGo ns c.bparts c s with
  | (some w, c', s') => if c.compan.getD 0 ≠ 0 then (some w, c, s) else (some w, c', s')
  | (none, c', s') => if c.compan.getD 0 ≠ 0 ∧ ¬ c.bparts.isEmpty ∧ ringShort s' then (some (.ring, 0), c, s) else (none, c', s')

/-- A write goes on: companion, Basket parts, through-path stripes, acknowledgement. A Basket-path write gives up its entries when its
last INTENT is written, a command with through-path stripes when it completes (R10, R94). -/
def writeGo (ns : Ns) (c : Ctx) (s : State) : State :=
  match companionGo ns c s with
  | (some w, c, s) => waitIn c w s
  | (none, c, s) =>
    match partsAll ns c s with
    | (some w, c, s) => waitIn c w s
    | (none, c, s) =>
      let path := c.stripes.isEmpty && c.sops.isEmpty
      let s := if path then s.each c.held fun s i => unlock c.id i s else s
      let c := if path then { c with held := [] } else c
      match stripesGo ns c.stripes c s with
      | (some w, c, s) => ringGo c.sops (waitIn c w s)
      | (none, c, s) =>
        let c := { c with phase := .member }
        let s := ringGo c.sops (s.putCtx c)
        match ctxOf s c.id with
        | some c => if c.phase = .member then writeFinish c s else s
        | none => s

/-- A write whose locks are held: a partial write to a lost stripe fails (Table 5.2); else it is split and goes on. -/
def writeServe (ns : Ns) (c : Ctx) (s : State) : State :=
  let zeroes := match c.op with
    | .write => false
    | _ => true
  let whole := wholeStripes s ns c.slba c.nlb
  if (stripesOf s ns c.slba c.nlb).any fun st => isLost s ns.array st && ¬ whole.contains st then finishCtx c stUre [] s
  else
    let p := splitWrite s ns c.slba c.nlb zeroes
    writeGo ns { c with bparts := p.1, stripes := p.2 } s

/-- Dataset Management deallocates the stripes that its ranges cover whole (R161): their Basket entries are discarded, a
lost stripe stays lost. -/
def dsmServe (ns : Ns) (c : Ctx) (ranges : List (Nat × Nat)) (s : State) : State :=
  writeGo ns { c with stripes := (ranges.flatMap fun r => wholeStripes s ns r.1 r.2).eraseDups } s

/-- A command that holds every lock it needs. -/
def serve (c : Ctx) (s : State) : State :=
  match nsAt s c.ns with
  | none => finishCtx c stNs [] s
  | some ns =>
    match c.op with
    | .read => if ¬ c.shared ∧ (stripesOf s ns c.slba c.nlb).all (synced s ns.array) then readLost ns c s
      else readServe (onLostFor ns c) ns c s
    | .write => writeServe ns c s
    | .zeroes _ => writeServe ns c s
    | .dsm rs => dsmServe ns c rs s
    | .flush => finishCtx c stOk [] s

/-- Steps 2 to 4 of R10 for a command with its context: checks, mapping, locks. -/
def startIo (n : Option Ns) (limit : Bool) (c : Ctx) (s : State) : State :=
  let wr := match c.op with
    | .read => false
    | _ => true
  let past := match c.op with
    | .dsm rs => rs.foldl (fun m r => max m (r.1 + r.2)) 0
    | _ => c.slba + c.nlb
  match ioCheck s c.id c.h n c.nlb past wr limit c.flags with
  | some e => finishCtx c e [] s
  | none =>
    match n with
    | none => finishCtx c stNs [] s
    | some ns =>
      let c := { c with ns := ns.idx }
      if wr ∧ c.flags.xferErr then finishCtx c (0, 4, false) [] s
      else
        match (match c.op with
          | .write => piCheckWrite ns.lbaf c.flags c.data
          | _ => none) with
        | some e => finishCtx c e [] s
        | none =>
          let c := { c with data := piStore ns.lbaf c.flags c.data }
          let sts := match c.op with
            | .dsm rs => (rs.flatMap fun r => wholeStripes s ns r.1 r.2).eraseDups
            | _ => stripesOf s ns c.slba c.nlb
          let c := { c with shared := ¬ wr && sts.all (synced s ns.array) }
          match lockGo (entriesOf ns.array sts) c (s.putCtx c) with
          | (true, c, s) => serve c (s.putCtx c)
          | (false, c, s) => s.putCtx c

/-- An I/O command arrives with its context (R10 step 1): one of those fetched for its queue, else one granted to it. -/
def arrive (h : IoHdr) (op : IoOp) (slba nlb : Nat) (data : List Block) (f : IoFlags) (ordered : Bool) (s : State) : Ctx × State :=
  let i := s.ce.nextId
  let n := ((queueOf s h.ctrl h.q).map (·.arrivals)).getD 0
  let c : Ctx := ⟨i, h, op, 0, 0, slba, nlb, data, f, .lock, [], [], false, [], [], [], [], [], ordered, n, [], 0, [], none⟩
  let free := sharedFree s
  let s := s.fresh.modQueue h.ctrl h.q fun q => { q with fetched := q.fetched - 1, arrivals := q.arrivals + 1 }
  (c, lowCheck free { s with ce.ctxs := s.ce.ctxs ++ [c] })

/-- Earlier commands of the same queue are still in contexts. -/
def earlier (s : State) (c : Ctx) : Bool := s.ce.ctxs.any fun x => x.h.ctrl = c.h.ctrl && x.h.q = c.h.q && decide (x.id < c.id)

end Sys2Proof.Machine
end

