-- ==== Sys2Proof/Machine/Queue.lean ====
section
/-! DEFINITION. Controllers, queues and the context pool (R140 to R146, R154, R155, R239): fetch, capsules, grants,
queue creation and deletion, controller enable and reset, Connect and Disconnect. -/

namespace Sys2Proof.Machine

/-! ### Fetch, capsules, credits, grants -/

/-- Fetch up to `n` commands of a queue while contexts can be granted: those of its reservation at once, of the shared ones `k` at most
(R144). -/
def fetchUpTo (c q : Nat) : Nat → Nat → State → Nat × State
  | 0, _, s => (0, s)
  | n + 1, k, s =>
    match queueOf s c q with
    | some x =>
      let own := decide (heldBy s x < x.r)
      if mayHold s x ∧ (own ∨ 0 < k) then
        let r := fetchUpTo c q n (if own then k else k - 1) (s.modQueue c q fun y => { y with fetched := y.fetched + 1 })
        (r.1 + 1, r.2)
      else (0, s)
    | none => (0, s)

/-- The queues in round-robin order from the one after that served last, with their places. -/
def rrOrder (s : State) : List (Nat × Queue) :=
  let n := s.ce.queues.length
  (List.range n).filterMap fun i => (s.ce.queues[(s.ce.rr + i) % n]?).map fun q => ((s.ce.rr + i) % n, q)

/-- The shared contexts that one turn gives a queue that asks now (R141, R144 rule 3): none where another waiting queue that may hold one
comes before it, one where another waits after it, else as many as the turn has commands. -/
def turnShare (s : State) (c q : Nat) : Nat :=
  let mine := fun p : Nat × Queue => p.2.ctrl = c && p.2.qid = q
  let rivals := (rrOrder s).filter fun p => mine p || (qWaits p.2 && mayHold s p.2)
  match rivals with
  | [p] => if mine p then 8 else 0
  | p :: _ => if mine p then 1 else 0
  | [] => 0

/-- SQ_FETCH: one arbitration turn of a PCIe submission queue with `avail` commands in host memory (R141). -/
def doSqFetch (c q avail : Nat) (s : State) : State :=
  match queueOf s c q with
  | none => s
  | some _ =>
    if ¬ taking s ∨ 2 ≤ c ∨ ¬ ((ctrlOf s c).map (·.rdy)).getD false then s else
    let free := sharedFree s
    let k := turnShare s c q
    let r := fetchUpTo c q (min 8 avail) k s
    let i := (s.ce.queues.findIdx fun x => x.ctrl = c && x.qid = q) + 1
    let s := r.2.modQueue c q fun x => { x with
      waiting := if r.1 < min 8 avail then avail - r.1 else 0,
      throttledFull := x.throttledFull && r.1 = 0 }
    lowCheck free (if k = 0 then s else { s with ce.rr := i })

/-- The in-capsule data that a capsule may hold (R142). -/
def capsuleMax : Nat := 16384

/-- CAPSULE_RECEIPT: a SEND on a fabric queue is accepted against a credit and acknowledged with the credits left, or refused with RNR NAK
(R142). The admin queue's receive buffer has its own size (R146). DESIGN CHOICE (log entry 79): a SEND with more in-capsule data than a
capsule may hold is no capsule, and nothing is received. -/
def doCapsuleReceipt (c q bytes : Nat) (s : State) : State :=
  if c < 16 ∨ capsuleMax < bytes then s else
  match queueOf s c q, ctrlOf s c with
  | some x, _ =>
    if taking s ∧ 0 < x.credits then
      ackCredits c q (s.modQueue c q fun y => { y with
        credits := y.credits - 1, fetched := y.fetched + 1, idle := 0,
        usedLast := y.usedLast || decide (y.credits = 1) })
    else rnrNak x.qp s
  | none, some x =>
    if q = 0 ∧ x.aSize ≤ adminWaiting s c then
      rnrNak (((s.fab.qps.find? fun p => p.ctrl = c && p.qid = 0).map (·.id)).getD 0) s
    else s
  | none, none => s

/-- CREDIT_WITHDRAW: credits unused for 16 epochs beyond the reservation are withdrawn; their contexts are kept up to the acknowledgement
that advertises the lower count (R142). -/
def doCreditWithdraw (c q : Nat) (s : State) : State :=
  match queueOf s c q with
  | none => s
  | some x =>
    if 16 ≤ x.idle ∧ x.r < heldBy s x then
      ackCredits c q (s.modQueue c q fun y => { y with credits := y.credits - min y.credits (heldBy s x - x.r), idle := 0 })
    else s

/-- The queue served next: first one below its reservation, else the next that may hold one more, in round-robin order
from the pointer (R144). -/
def nextQueue (s : State) : Option (Nat × Queue) :=
  let order := rrOrder s
  match order.find? fun p => qWaits p.2 && decide (heldBy s p.2 < p.2.r) && mayHold s p.2 with
  | some p => some p
  | none => order.find? fun p => qWaits p.2 && mayHold s p.2

/-- CONTEXT_GRANT: one context for the queue served next; a PCIe queue fetches a command, a fabric queue gets a
credit. -/
def doContextGrant (s : State) : State :=
  if ¬ taking s then s else
  match nextQueue s with
  | none => s
  | some (i, q) =>
    let free := sharedFree s
    let s := { s with ce.rr := i + 1 }
    let s := s.modQueue q.ctrl q.qid fun y =>
      if 16 ≤ q.ctrl then { y with credits := y.credits + 1, idle := 0 }
      else { y with fetched := y.fetched + 1, waiting := y.waiting - 1, throttledFull := false }
    lowCheck free (ackCredits q.ctrl q.qid s)

/-! ### Queue and controller removal (R154, R155) -/

/-- Discard a command without a completion: its lines and waits end. Where one of its stripe INTENTs is written, its stripe operations go
on to their end and keep their lock entries; else they end, and its companion is released. -/
def discardCtx (c : Ctx) (s : State) : State :=
  let mine := s.ce.sops.filter fun o => o.owner = c.id
  let begun := mine.any fun o => o.seq ≠ 0
  let s := if begun then s else releaseCompanion (c.compan.getD 0) (s.each mine fun s o => sopDrop o s)
  let keep := (s.ce.sops.filter fun o => o.owner = c.id).map fun o => lockIdx o.array o.stripe
  let s := jobsDrop c.id { s with
    ce.ctxs := s.ce.ctxs.filter fun x => x.id ≠ c.id,
    ce.mcmds := s.ce.mcmds.map fun m => if m.owner = c.id ∧ m.sop = 0 then { m with owner := 0 } else m,
    env.allocQ := s.env.allocQ.filter fun e => e.1 ≠ c.id,
    env.evbQ := s.env.evbQ.filter fun e => e.1 ≠ c.id }
  let s := envSettle c.wantKeys false s
  let ls := s.ce.locks.map fun x => if keep.contains x.idx then x else
    { x with holders := x.holders.filter (fun p => p.1 ≠ c.id), waiters := x.waiters.filter fun p => p.1 ≠ c.id }
  { s with ce.locks := ls.filter fun x => ¬ (x.holders.isEmpty && x.waiters.isEmpty) }

/-- Discard every command of a queue (`some q`) or of a controller. -/
def discardOf (c : Nat) (q : Option Nat) (s : State) : State :=
  s.each (s.ce.ctxs.filter fun x => x.h.ctrl = c && (q = none || q = some x.h.q)) fun s x => discardCtx x s

/-- Free the RDMA queue pairs of a queue or of a controller. -/
def freeQps (c : Nat) (q : Option Nat) (s : State) : State :=
  { s with fab.qps := s.fab.qps.filter fun p => ¬ (p.ctrl = c && (q = none || q = some p.qid)) }

/-- Delete one I/O queue in the scope of R155. -/
def dropQueue (c q : Nat) (s : State) : State :=
  let s := freeQps c (some q) (discardOf c (some q) s)
  { s with ce.queues := s.ce.queues.filter fun x => ¬ (x.ctrl = c && x.qid = q) }

/-- Forget a header of a controller that has been reset. -/
def headOff (c : Nat) (h : Option IoHdr) : Option IoHdr := h.filter fun x => x.ctrl ≠ c

/-- The controller reset of R154: its commands are discarded without a completion, its queues go, CSTS.RDY reads 0. -/
def ctrlReset (c : Nat) (s : State) : State :=
  let s := discardOf c none s
  let s := { s with
    ce.queues := s.ce.queues.filter fun x => x.ctrl ≠ c,
    ce.cqs := s.ce.cqs.filter fun x => x.ctrl ≠ c,
    ce.adminWait := s.ce.adminWait.filter fun i => instrCtrl i ≠ some c,
    ce.commit := s.ce.commit.map fun (x : Commit) => { x with h := headOff c x.h },
    ce.fwWrites := s.ce.fwWrites.map fun (x : FwWrite) => { x with h := headOff c x.h },
    ce.formats := s.ce.formats.map fun (x : FmtJob) => { x with h := headOff c x.h },
    fab.qps := s.fab.qps.filter fun p => ¬ (p.ctrl = c && p.qid ≠ 0) }
  s.modCtrl c fun x => { x with
    en := false, rdy := false, shst := 0, aer := [], aenMask := 0, numQueues := none, features := [], logs := [],
    aenPend := [], cc := x.cc / 2 * 2, aDone := 0 }

/-- A fabric association ends: the controller and its queue pairs go. -/
def endAssociation (c : Nat) (s : State) : State :=
  let s := freeQps c none (ctrlReset c s)
  { s with ce.ctrls := s.ce.ctrls.filter fun x => x.id ≠ c }

/-- CONTROLLER_RESET: of a PCIe controller CC.EN goes from 1 to 0 or its function takes an FLR; a fabric controller loses
its association. -/
def doControllerReset (c : Nat) (s : State) : State :=
  match ctrlOf s c with
  | some x => if x.fabric then endAssociation c s else ctrlReset c s
  | none => s

/-- KEEP_ALIVE_TIMEOUT of a fabric controller. -/
def doKeepAliveTimeout (c : Nat) (s : State) : State :=
  match ctrlOf s c with
  | some x => if x.fabric ∧ x.kato ≠ 0 then endAssociation c s else s
  | none => s

/-- Function 0 answers configuration requests: DAWN_S11 has completed, or the device is in the safe state (R225). -/
def fn0Up (s : State) (c : Nat) : Bool :=
  ((s.links[2 * c]?).map (·.up)).getD false && (s.safe || decide (11 < s.rd R.DWN_STATUS_STEP) || s.ready)

/-- CC_EN_SET: the host sets CC.EN; CSTS.RDY follows once service is open (R225). -/
def doCcEnSet (c : Nat) (s : State) : State :=
  if c < 2 ∧ fn0Up s c then
    s.modCtrl c fun x => { x with en := true, cc := x.cc / 2 * 2 + 1, rdy := s.ready }
  else s

/-! ### Queue creation (R145) -/

/-- r_q of a new queue (R143). -/
def newR (s : State) (qsize : Nat) : Nat := min (qsize - 1) (s.rd R.HPT_CE_POOL_CFG_RSV_DEFAULT)

/-- The pool can back one more reservation. -/
def floorOk (s : State) (r : Nat) : Bool := decide (s.rd R.HPT_CE_POOL_FLOOR_SHARED_FLOOR + r + reserveSum s ≤ poolSize)

/-- A new queue's record. -/
def newQueue (c q size cq r qp : Nat) (noFlow : Bool) : Queue :=
  ⟨c, q, size, cq, r, if 16 ≤ c then r else 0, 0, 0, false, 0, 0, 0, false, qp, noFlow⟩

/-- The highest I/O queue identifier of a controller. -/
def maxQid (s : State) (c : Nat) : Nat :=
  let top := if c < 16 then 1024 else 128
  match (ctrlOf s c).bind (·.numQueues) with
  | some n => min top (n.1 + 1)
  | none => top

/-- Create I/O Submission Queue; PCIe only. -/
def createSq (h : IoHdr) (qid qsize cqid : Nat) (s : State) : State :=
  if 16 ≤ h.ctrl then cqeSt h (0, 1, true) s
  else if ¬ s.ce.cqs.any (fun x => x.ctrl = h.ctrl && x.qid = cqid) then cqeSt h (1, 0, true) s
  else if qid = 0 ∨ maxQid s h.ctrl < qid ∨ (queueOf s h.ctrl qid).isSome then cqeSt h (1, 1, true) s
  else if qsize < 2 ∨ 4096 < qsize ∨ ¬ floorOk s (newR s qsize) then
    cqeSt h (1, 2, true) (s.raise R.HPT_CE_INT_STATUS_QUEUE_REFUSED)
  else cqeSt h stOk { s with ce.queues := s.ce.queues ++ [newQueue h.ctrl qid qsize cqid (newR s qsize) 0 false] }

/-- Delete I/O Submission Queue. -/
def deleteSq (h : IoHdr) (qid : Nat) (s : State) : State :=
  if 16 ≤ h.ctrl then cqeSt h (0, 1, true) s
  else if (queueOf s h.ctrl qid).isNone then cqeSt h (1, 1, true) s
  else cqeSt h stOk (dropQueue h.ctrl qid s)

/-- Create I/O Completion Queue; PCIe only. -/
def createCq (h : IoHdr) (qid qsize iv : Nat) (s : State) : State :=
  if 16 ≤ h.ctrl then cqeSt h (0, 1, true) s
  else if qid = 0 ∨ maxQid s h.ctrl < qid ∨ s.ce.cqs.any (fun x => x.ctrl = h.ctrl && x.qid = qid) then cqeSt h (1, 1, true) s
  else if qsize < 2 ∨ 4096 < qsize then cqeSt h (1, 2, true) (s.raise R.HPT_CE_INT_STATUS_QUEUE_REFUSED)
  else if 1025 ≤ iv then cqeSt h (1, 8, true) s
  else cqeSt h stOk { s with ce.cqs := s.ce.cqs ++ [(⟨h.ctrl, qid, qsize, iv⟩ : CQueue)] }

/-- Delete I/O Completion Queue: not while submission queues are attached (R155). -/
def deleteCq (h : IoHdr) (qid : Nat) (s : State) : State :=
  if 16 ≤ h.ctrl then cqeSt h (0, 1, true) s
  else if ¬ s.ce.cqs.any (fun x => x.ctrl = h.ctrl && x.qid = qid) then cqeSt h (1, 1, true) s
  else if s.ce.queues.any fun x => x.ctrl = h.ctrl && x.cq = qid then cqeSt h (1, 0xC, true) s
  else cqeSt h stOk { s with ce.cqs := s.ce.cqs.filter fun x => ¬ (x.ctrl = h.ctrl && x.qid = qid) }

/-! ### Connect, Disconnect, properties -/

/-- Change a queue pair. -/
def State.modQp (s : State) (q : Nat) (f : Qp → Qp) : State :=
  { s with fab.qps := s.fab.qps.map fun x => if x.id = q then f x else x }

/-- Host NQNs of the access list (table HOST_ACL of the configuration set, R239, R326). -/
def aclOk (s : State) (nqn : Nat) : Bool := ¬ s.on R.FAB_CFG_ACL_MODE || s.fab.acl.any fun p => p.2 = nqn

/-- An admin Connect makes a controller. -/
def connectAdmin (r : ConnectReq) (s : State) : State :=
  let h : IoHdr := ⟨r.cntlid, 0, r.cid⟩
  if ¬ aclOk s r.hostNqn then cqeSt h (1, 0x84, true) (s.raise R.FAB_INT_STATUS_ACL_REJECT)
  else if r.cntlid ≠ 0xFFFF then cqe h 1 0x82 true 0x10010 [] s
  else if ¬ r.discovery ∧ 512 ≤ (s.ce.ctrls.filter fun c => c.fabric && ¬ c.discovery).length then cqeSt h (1, 0x81, false) s
  else
    let c := s.ce.ctrlSeq
    let x : Ctrl := ⟨c, true, false, false, 0, false, r.discovery, r.hostNqn, r.hostId, r.kato, [], 0, none, [], r.noFlow, [], 0, [],
      0, 0, 0, 0, r.sqsize, 0⟩
    let s := { s with ce.ctrls := s.ce.ctrls ++ [x], ce.ctrlSeq := c + 1 }
    cqe ⟨c, 0, r.cid⟩ 0 0 false c [] (s.modQp r.qp fun q => { q with ctrl := c, qid := 0 })

/-- An I/O Connect makes a queue of its controller. -/
def connectIo (r : ConnectReq) (s : State) : State :=
  let h : IoHdr := ⟨r.cntlid, r.qid, r.cid⟩
  let io := s.ce.queues.filter fun q => 16 ≤ q.ctrl
  match ctrlOf s r.cntlid with
  | none => cqe h 1 0x82 true 0x10010 [] s
  | some c =>
    if ¬ aclOk s r.hostNqn then cqeSt h (1, 0x84, true) (s.raise R.FAB_INT_STATUS_ACL_REJECT)
    else if ¬ c.fabric ∨ c.discovery ∨ c.hostNqn ≠ r.hostNqn ∨ c.hostId ≠ r.hostId then cqe h 1 0x82 true 0x10010 [] s
    else if ¬ c.rdy ∨ (queueOf s r.cntlid r.qid).isSome then cqeSt h stSeq s
    else if 4096 ≤ io.length ∨ 128 ≤ (io.filter fun q => q.ctrl = r.cntlid).length then
      cqeSt h (1, 0x81, false) s
    else if maxQid s r.cntlid < r.qid then cqe h 1 0x82 true 42 [] s
    else if r.sqsize < 2 ∨ 4096 < r.sqsize ∨ ¬ floorOk s (newR s r.sqsize) then
      cqe h 1 0x82 true 44 [] (s.raise R.HPT_CE_INT_STATUS_QUEUE_REFUSED)
    else
      let s := { s with ce.queues := s.ce.queues ++ [newQueue r.cntlid r.qid r.sqsize 0 (newR s r.sqsize) r.qp r.noFlow] }
      cqe h 0 0 false r.cntlid [] (s.modQp r.qp fun q => { q with ctrl := r.cntlid, qid := r.qid })

/-- CONNECT arrives on a queue pair that serves no queue yet. -/
def doConnect (r : ConnectReq) (s : State) : State :=
  match s.fab.qps.find? fun q => q.id = r.qp with
  | none => s
  | some q =>
    if ¬ taking s ∨ q.ctrl ≠ 0xFFFF ∨ q.err then s
    else if r.qid = 0 then connectAdmin r s else connectIo r s

/-- DISCONNECT of a fabric I/O queue; the admin queue answers Invalid Queue Type. -/
def doDisconnect (h : IoHdr) (s : State) : State :=
  if h.ctrl < 16 ∨ ¬ taking s then s
  else if h.q = 0 then (if (ctrlOf s h.ctrl).isSome then cqeSt h (1, 0x70, true) s else s)
  else if (queueOf s h.ctrl h.q).isNone then s
  else cqeSt h stOk (dropQueue h.ctrl h.q s)

/-- CAP: MQES 4,095, contiguous queues, TO 255, no subsystem reset, NVM command set. -/
def capValue : Nat := 4095 + 2 ^ 16 + 255 * 2 ^ 24 + 2 ^ 37

/-- CSTS. -/
def cstsValue (s : State) (c : Ctrl) : Nat := b2n c.rdy + b2n s.safe * 2 + c.shst * 4 + b2n c.pp * 32

/-- PROPERTY_GET: CAP, VS, CC and CSTS of a fabric controller. -/
def doPropertyGet (h : IoHdr) (o : Nat) (s : State) : State :=
  match ctrlOf s h.ctrl with
  | none => s
  | some c =>
    if ¬ c.fabric ∨ ¬ taking s then s else
    match o with
    | 0x00 => cqeInfo h [capValue] s
    | 0x08 => cqeInfo h [0x20000] s
    | 0x14 => cqeInfo h [c.cc] s
    | 0x1C => cqeInfo h [cstsValue s c] s
    | _ => cqeSt h stField s

/-- PROPERTY_SET: CC; its EN bit enables or resets the controller, SHN shuts it down. -/
def doPropertySet (h : IoHdr) (o v : Nat) (s : State) : State :=
  match ctrlOf s h.ctrl with
  | none => s
  | some c =>
    if ¬ c.fabric ∨ ¬ taking s then s
    else if o ≠ 0x14 then cqeSt h stField s
    else if c.en ∧ ¬ bit v 0 then cqeSt h stOk ((ctrlReset h.ctrl s).modCtrl h.ctrl fun x => { x with cc := v })
    else
      let s := s.modCtrl h.ctrl fun x => { x with
        cc := v, en := bit v 0, rdy := bit v 0 && s.ready, shst := if bits v 14 2 = 0 then x.shst else 2 }
      cqeSt h stOk s

/-- KEEP_ALIVE: fabric only, answered at once without an admin context (R146). -/
def doKeepAlive (h : IoHdr) (s : State) : State :=
  if ¬ adminOpen s h then s
  else if h.ctrl < 16 then cqeSt h (0, 1, true) s
  else cqeSt h stOk s

def execSqFetch (c q avail : Nat) (s : State) : Out := live s (doSqFetch c q avail s)
def execCapsuleReceipt (c q bytes : Nat) (s : State) : Out := live s (doCapsuleReceipt c q bytes s)
def execCreditWithdraw (c q : Nat) (s : State) : Out := live s (doCreditWithdraw c q s)
def execContextGrant (s : State) : Out := live s (doContextGrant s)
def execKeepAlive (h : IoHdr) (s : State) : Out := live s (doKeepAlive h s)
def execKeepAliveTimeout (c : Nat) (s : State) : Out := live s (doKeepAliveTimeout c s)
def execConnect (r : ConnectReq) (s : State) : Out := live s (doConnect r s)
def execPropertyGet (h : IoHdr) (o : Nat) (s : State) : Out := live s (doPropertyGet h o s)
def execPropertySet (h : IoHdr) (o v : Nat) (s : State) : Out := live s (doPropertySet h o v s)
def execDisconnect (h : IoHdr) (s : State) : Out := live s (doDisconnect h s)
def execCcEnSet (c : Nat) (s : State) : Out := live s (doCcEnSet c s)
def execControllerReset (c : Nat) (s : State) : Out := live s (doControllerReset c s)

end Sys2Proof.Machine
end

