-- ==== Sys2Proof/Machine/ArrOps.lean ====
section
/-! DEFINITION. Array operations: states (Tables 3.8, 3.9), labels, spares and targets (R55, R71, R123), members that go
missing (R119 to R122, R127, R134), what becomes of commands in flight. -/

namespace Sys2Proof.Machine

/-! ### State from members -/

/-- Member `m` has a target: a slot runs for it or one has been assigned. -/
def hasTarget (s : State) (a m : Nat) : Bool := (slotOf s a m).isSome || (s.arr a).waiting.any fun p => p.1 = m

/-- The state that the missing count and the progress of array `a` give (Table 3.9). -/
def stateFor (s : State) (a : Nat) : Nat :=
  match missMembers s a with
  | [] => if (s.arr a).rs.isSome then aResyncing else aOptimal
  | [m] => if (s.arr a).rs.isSome then aResyncing else if hasTarget s a m then aRebuilding else aDegraded
  | [_, _] => aCritical
  | _ => aFailed

/-- MISSING and REBUILD_ACT of STR_An_STATUS. -/
def statusBits (a : Nat) (s : State) : State :=
  (s.wr (R.STR_An_STATUS_MISSING a) (min 3 (missCount s a))).wr (R.STR_An_STATUS_REBUILD_ACT a)
    (b2n ((slots s a).any (·.act)))

/-- Bring the state of a serving array up to date. -/
def arrUpdate (a : Nat) (s : State) : State :=
  let s := statusBits a s
  if arrServes s a then setArr a (stateFor s a) 0 s else s

/-! ### Labels (R52) -/

/-- The label of member `m` as the array stands. -/
def labelOf (s : State) (a m : Nat) : Label :=
  let r := s.arr a
  let n := memN s a
  ⟨true, true, m, n, s.rd (R.STR_An_GEOM_STRIP a), if s.on (R.STR_An_GEOM_META a) then 16 else 0, a, r.arrayId, r.createClaim,
    s.dwn.configGen, r.stripes, r.labelSeq,
    (List.range n).map fun k => ((driveAt s (memDrv s a k)).map (·.desc.nguid)).getD 0,
    mapHolders s a, s.rd (R.STR_An_MISSMAP_MISS a)⟩

/-- The label in force on a drive: the valid copy with the higher LABEL_SEQ. -/
def labelIn (d : Drive) : Option Label :=
  let ok := fun x : Option Label => x.filter fun l => l.crcOk && l.magicOk
  match ok d.labelA, ok d.labelB with
  | some x, some y => if x.seq < y.seq then some y else some x
  | some x, none => some x
  | none, y => y

/-- The highest LABEL_SEQ among the array's own and those that the drives of its members hold. -/
def labelTop (s : State) (a : Nat) : Nat :=
  (List.range (memN s a)).foldl (fun m k => match driveAt s (memDrv s a k) with
    | some d => max m (max ((d.labelA.map (·.seq)).getD 0) ((d.labelB.map (·.seq)).getD 0))
    | none => m) (s.arr a).labelSeq

/-- Write the label to the copy not in force on every drive of the array (R52); an unscheduled tail copy follows (R108). DESIGN CHOICE
(log entry 74): copy A is the first of the two to be written on a drive that holds neither, and the LABEL_SEQ, one for all the
members, is above every one that a drive still holds from another array. -/
def relabel (a : Nat) (s : State) : State :=
  let q := labelTop s a + 1
  let s := s.modArr a fun r => { r with labelSeq := q, tailForced := true }
  s.each (List.range (memN s a)) fun s m =>
    if missing s a m ∧ ¬ hasTarget s a m then s else
    s.modDrive (memDrv s a m) fun d =>
      if (d.labelA.map (·.seq)).getD 0 ≤ (d.labelB.map (·.seq)).getD 0 then { d with labelA := some (labelOf s a m) }
      else { d with labelB := some (labelOf s a m) }

/-! ### The lost-stripe map on members (R72) -/

/-- The members that should hold the map: the three present members with the lowest indexes. -/
def mapWanted (s : State) (a : Nat) : List Nat := ((List.range (memN s a)).filter fun m => ¬ missing s a m).take 3

/-- Give member `m` a full copy of the map. -/
def mapGive (a m : Nat) (s : State) : State :=
  let s := s.wr (R.STR_An_MEMBERk_MAPHOLD a m) 1
  s.modDrive (memDrv s a m) fun d => { d with lostMap := (s.arr a).lost }

/-! ### Drives as members and spares (R54, R55, R71) -/

/-- Drive `d` is a member: present at its index, or the target of a missing one; a missing member without a target leaves its place free
(R77). -/
def holdsPlace (s : State) (d : Nat) : Bool :=
  (List.range 16).any fun a => arrOn s a && (List.range (memN s a)).any fun m => memDrv s a m = d && (¬ missing s a m || hasTarget s a m)

/-- A drive passes R55 for an array or spare with this META. -/
def passesR55 (s : State) (d metaOn : Nat) : Bool :=
  match driveAt s d with
  | some x => x.desc.fmtOk && x.desc.zeroOk && x.desc.metaBytes = 16 * metaOn
  | none => false

/-- Blocks that a drive of array `a` needs. -/
def blocksNeeded (s : State) (a : Nat) : Nat := dataLba + (s.arr a).stripes * strB s a

/-- Drive number of a spare entry. -/
def spareDrv (s : State) (k : Nat) : Nat := 2 * s.rd (R.STR_SPAREk_PORT k) + s.rd (R.STR_SPAREk_SUB k)

/-- A drive without fencing, which a paired unit takes for no member (R293). -/
def unfencedFor (s : State) (d : Nat) : Bool := s.pairState = 3 && ((driveAt s d).map fun x => ! x.desc.resvOk).getD false

/-- Spare entry `k` is ready and fits array `a`. -/
def spareFits (s : State) (a k : Nat) : Bool :=
  s.on (R.STR_SPAREk_VALID k) && s.rd (R.STR_SPAREk_SPARE_STATE k) = 1 &&
  s.rd (R.STR_SPAREk_META k) = s.rd (R.STR_An_GEOM_META a) && ! unfencedFor s (spareDrv s k) &&
  match driveAt s (spareDrv s k) with
  | some d => decide (blocksNeeded s a ≤ d.desc.blocks)
  | none => false

/-- The spare that R71 chooses: the fewest blocks, then the lowest port and subport. -/
def spareFor (s : State) (a : Nat) : Option Nat :=
  let size := fun k => ((driveAt s (spareDrv s k)).map (·.desc.blocks)).getD 0
  ((List.range 8).filter (spareFits s a)).foldl
    (fun b k => match b with
      | none => some k
      | some j => if size k < size j ∨ (size k = size j ∧ spareDrv s k < spareDrv s j) then some k else some j) none

/-- Spare `k` is taken by array `a` for member `m` (R71). -/
def takeSpare (a m k : Nat) (s : State) : State :=
  let s := (s.wr (R.STR_SPAREk_SPARE_STATE k) 2).wr (R.STR_SPAREk_ARRAY k) a
  let s := s.modArr a fun r => { r with taken := r.taken ++ [(m, k)] }
  (s.raise R.STR_INT_DEV_SPARE_TAKEN).event 0x0308 (srcArr a) [k, m]

/-- Name drive `d` as the drive of member `m`. -/
def setMember (a m d : Nat) (s : State) : State :=
  let s := (s.wrSet (R.STR_An_MEMBERk_PORT a m) (d / 2)).wrSet (R.STR_An_MEMBERk_SUB a m) (d % 2)
  s.clr (R.STR_An_MEDIA_WARN_WARN a) (2 ^ m) |> fun s => s.modArr a fun r =>
    { r with mediaCount := r.mediaCount.filter fun p => p.1 ≠ m }

/-- Assign a drive as the rebuild target of a missing member: it takes the index and waits for its probe,
deallocation and label (R123). -/
def assignTarget (a m d : Nat) (s : State) : State :=
  let s := s.modArr a fun r => { r with
    waiting := r.waiting ++ [(m, d)], places := (m, memDrv s a m) :: r.places.filter fun p => p.1 ≠ m }
  setMember a m d s

/-- Seek a target for member `m` (R71). -/
def seekTarget (a m : Nat) (s : State) : State :=
  if ¬ s.on R.STR_CTRL_AUTO_REBUILD then s else
  match spareFor s a with
  | none => s.raise R.STR_INT_DEV_NO_SPARE
  | some k =>
    takeSpare a m k (assignTarget a m (spareDrv s k) s)

/-! ### Rebuild slots (R123, R127) -/

/-- Change slot `i`. -/
def modSlot (a i : Nat) (f : Slot → Slot) (s : State) : State :=
  s.modArr a fun r => if i = 0 then { r with rb0 := f r.rb0 } else { r with rb1 := f r.rb1 }

/-- Slot `i`. -/
def slotAt (s : State) (a i : Nat) : Slot := if i = 0 then (s.arr a).rb0 else (s.arr a).rb1

/-- A slot forms for a target (R123), starting at `wm` (0, or a copyback's watermark). A slot that becomes JOINED writes both targets
from its watermark on: stripes that it has completed ahead of it for its own target alone are written again. -/
def formSlot (a m d wm : Nat) (s : State) : State :=
  let st := (s.arr a).stripes
  let i := if (s.arr a).rb0.act then 1 else 0
  let other := slotAt s a (1 - i)
  let s :=
    if other.act then
      let s := modSlot a i (fun _ => ⟨true, m, min wm other.wm, other.wm, false, 0, [], d, other.wm, max wm other.wm⟩) s
      modSlot a (1 - i) (fun x => { x with joined := true, joinFrom := x.wm, ahead := [] }) s
    else modSlot a i (fun _ => ⟨true, m, wm, st, false, 0, [], d, 0, 0⟩) s
  let s := s.event 0x0300 (srcArr a) ([i, m] ++ leBytes 8 wm)
  statusBits a (progressDue 0 a m s)

/-- A slot ends without completing. -/
def abortSlot (a i : Nat) (s : State) : State :=
  let x := slotAt s a i
  let s := progress 0 a x.target 3 s
  let s := s.event 0x4302 (srcArr a) ([i, x.target] ++ leBytes 8 x.wm)
  modSlot a i (fun _ => Slot.idle) s

/-- The target of slot `i` fails (Table 5.3): the slot ends; a surviving slot is formed again over [0, S) with the
stripes of its valid set passed over. -/
def targetFails (a i : Nat) (s : State) : State :=
  let x := slotAt s a i
  let y := slotAt s a (1 - i)
  let s := abortSlot a i s
  if y.act then
    progressDue 0 a y.target (modSlot a (1 - i) (fun _ => { y with
      fin := (s.arr a).stripes, joined := false, joinFrom := 0,
      ahead := if x.joined then x.ahead.foldl (fun l st => insNat st l) y.ahead else y.ahead,
      exLo := if x.joined then x.joinFrom else y.exLo, exHi := if x.joined then x.wm else y.exHi }) s)
  else s

/-! ### Copyback ends (R132 to R134) -/

/-- Windsock payload of a copyback. -/
def cbPayload (c : Copyback) : List Nat := [c.src, c.cause, c.dest / 2, c.dest % 2]

/-- A copyback starts: the destination's data region is deallocated. -/
def startCopyback (a src dest cause : Nat) (s : State) : State :=
  let c : Copyback := ⟨src, dest, 0, cause⟩
  let s := mediaClear dest dataLba ((s.arr a).stripes * strB s a) s
  let s := s.modArr a fun r => { r with cb := some c }
  (entryKeep a (progressDue 1 a src s)).event 0x0303 (srcArr a) (cbPayload c)

/-- A copyback ends by a row of Table 5.5; the source stays the member. -/
def endCopyback (a row : Nat) (s : State) : State :=
  match (s.arr a).cb with
  | none => s
  | some c =>
    let s := progress 1 a c.src 3 s
    (entryKeep a (s.modArr a fun r => { r with cb := none })).event 0x4305 (srcArr a) (cbPayload c ++ [row])

/-! ### Commands in flight when reads or writes of a member end without an answer (R114, R120) -/

/-- The read of a member that ends without the data of some blocks: their columns are read from survivors instead. -/
def readRedo (m : MCmd) (lbas : List Nat) (c : Ctx) (s : State) : State :=
  match nsAt s c.ns with
  | none => s
  | some ns =>
    let b := strB s m.array
    let st := (m.lba - dataLba) / b
    let ks := lbas.map fun l => (l - dataLba) % b
    let asked := (s.ce.mcmds.filter fun x => x.owner = c.id).map fun x => (x.member, x.lba)
    let wants := (ks.flatMap fun k => (survivors s m.array st k c.erased).map fun x => (x, k)).eraseDups.filter fun w =>
      ¬ asked.contains (w.1, memLba b st w.2)
    let r := readCols m.array st c.id 0 wants s
    let s := r.2.modArr m.array fun x => { x with reconReads := x.reconReads + r.1.length }
    let c : Ctx := { c with outst := (c.outst.filter (· ≠ m.id)) ++ r.1 }
    if c.outst.isEmpty ∧ c.phase = .member then readAssemble (onLostFor ns c) ns c (s.putCtx c) else State.putCtx s c

/-- The read of a destage that ends without the data of some blocks: their columns are read from survivors instead (R115). -/
def destageRedo (m : MCmd) (lbas : List Nat) (o : SOp) (s : State) : State :=
  let b := strB s m.array
  let ks := lbas.map fun l => (l - dataLba) % b
  let asked := (s.ce.mcmds.filter fun x => x.sop = o.id).map fun x => (x.member, x.lba)
  let wants := (ks.flatMap fun k => (survivors s o.array o.stripe k o.erased).map fun x => (x, k)).eraseDups.filter fun w =>
    ¬ asked.contains (w.1, memLba b o.stripe w.2)
  let r := readCols o.array o.stripe 0 o.id wants s
  let o : SOp := { o with outst := (o.outst.filter (· ≠ m.id)) ++ r.1 }
  if o.outst.isEmpty ∧ o.phase = .reads then destageCompute o (r.2.putSop o) else r.2.putSop o

/-- A member command is gone: a read turns to survivors, an abandoned member write counts as ended (R120). -/
def mcmdGone (m : MCmd) (s : State) : State :=
  let s := dropMCmd m.id m.drv s
  if m.sop ≠ 0 then
    match s.ce.sops.find? fun o => o.id = m.sop with
    | none => s
    | some o =>
      if m.wr then
        let o := { o with outst := o.outst.filter (· ≠ m.id) }
        if o.outst.isEmpty then sopDone o (s.putSop o) else s.putSop o
      else destageRedo m (rangeFrom m.lba m.count) o s
  else match ctxOf s m.owner with
    | some c => readRedo m (rangeFrom m.lba m.count) c s
    | none => s

/-- Every command in flight to drive `d` of a member ends (R120); writes to a copyback's destination go on (R134). -/
def memberGone (a m d : Nat) (s : State) : State :=
  s.each ((s.ce.mcmds.filter fun x => x.array = a && x.member = m && x.drv = d).map (·.id)) fun s i =>
    match s.ce.mcmds.find? fun x => x.id = i with
    | some x => mcmdGone x s
    | none => s

/-! ### Arrays that stop serving -/

/-- An array stops: its stripe operations end, open INTENTs are closed with STATUS DROPPED, outstanding commands
complete with a status (R122, Table 5.2). -/
def haltArray (a : Nat) (st : Status) (s : State) : State :=
  let s := s.each (s.ce.sops.filter fun o => o.array = a) fun s o => sopDrop o s
  let opens := s.jrn.opens.filterMap fun r => match r.body with
    | .stripe a' x .. => if a' = a then some (r.seq, x) else none
    | _ => none
  let s := s.each opens fun s p => releaseSaved p.1 (closeStripe a p.2 p.1 2 s)
  let mine := s.ce.ctxs.filter fun c => ((nsAt s c.ns).map (·.array)) = some a
  s.each mine fun s c => finishCtx c st [] (releaseCompanion (c.compan.getD 0) s)

/-- A running Sanitize fails (R158). -/
def sanitizeFail (s : State) : State :=
  if s.nv.sani.isNone then s else
  let s := { s with nv.sani := none, nv.saniFail := true, nv.saniStat := 3, nv.progs := s.nv.progs.filter fun p => p.kind ≠ 5 }
  (s.wr R.HPT_CE_SANI_SSTAT 3).raise R.HPT_CE_INT_STATUS_SANITIZE_FAIL

/-- An array becomes FAILED (R122). -/
def failArray (a : Nat) (s : State) : State :=
  let s := haltArray a (3, 1, true) s
  let s := s.each (s.bsk.extents.filter fun e => e.array = a) fun s e => bskRelease e s
  let s := if (s.arr a).rb0.act then abortSlot a 0 s else s
  let s := if (s.arr a).rb1.act then abortSlot a 1 s else s
  let s := endCopyback a 3 s
  let s := progress 3 a 0 3 s
  let s := s.modArr a fun r => { r with rs := none, waiting := [], repairs := [] }
  let s := setArr a aFailed 4 (statusBits a s)
  sanitizeFail (s.event 0xC202 (srcArr a) (leBytes 4 (s.rd (R.STR_An_MISSMAP_MISS a))))

/-- An array goes OFFLINE with a REASON: rebuild, copyback, resync and patrol pause with their watermarks kept. -/
def offlineArray (a reason : Nat) (s : State) : State := setArr a aOffline reason (haltArray a (3, 2, false) s)

/-! ### Members that go missing (R119) -/

/-- One member loss: a present member, a running or waiting target (Table 5.3), or a member that is a copyback's
source (Table 5.5). -/
def loseMember (l : Loss) (s : State) : State :=
  let a := l.array
  let m := l.member
  if ¬ arrOn s a ∨ memN s a ≤ m ∨ arrState s a = aFailed then s else
  let d := memDrv s a m
  if missing s a m then
    let s := s.modArr a fun r => { r with waiting := r.waiting.filter fun p => p.1 ≠ m }
    let s := if (s.arr a).rb0.act ∧ (s.arr a).rb0.target = m then targetFails a 0 s
      else if (s.arr a).rb1.act ∧ (s.arr a).rb1.target = m then targetFails a 1 s else s
    s
  else
    let s := (s.raise (R.STR_An_MISSMAP_MISS a) (2 ^ m)).wr (R.STR_An_MEMBERk_MISSING a m) 1
    let s := s.wr (R.STR_An_MEMBERk_MAPHOLD a m) 0
    let s := s.modArr a fun r => { r with repairs := r.repairs.filter fun p => p.1 ≠ d }
    let s := s.event 0x8201 (srcArr a) [m, d / 2, d % 2, l.row]
    match (s.arr a).cb with
    | some c =>
      if c.src = m then
        let s := (s.modArr a fun r => { r with cb := none }).event 0x4305 (srcArr a) (cbPayload c ++ [2])
        relabel a (formSlot a m c.dest c.wm (setMember a m c.dest s))
      else s
    | none => s

/-- After the losses of one epoch in array `a`, as (member, drive): the next state of Table 3.9, targets, commands in flight. A third
loss fails the array before anything in flight ends (R122). -/
def afterLosses (a : Nat) (ms : List (Nat × Nat)) (s : State) : State :=
  let gone := fun s : State => s.each ms fun s p => memberGone a p.1 p.2 s
  if ¬ arrOn s a ∨ arrState s a = aFailed then s
  else if missCount s a ≥ 3 ∧ arrServes s a then gone (failArray a s)
  else
    let s := statusBits a s
    if arrState s a = aResyncing ∧ missCount s a = 2 then offlineArray a 2 s
    else
      let s := s.each ms fun s p =>
        if missing s a p.1 ∧ ¬ hasTarget s a p.1 ∧ arrServes s a then seekTarget a p.1 s else s
      gone (entryKeep a (arrUpdate a s))

/-- Members become missing; losses in one epoch are taken together (R76, R119). -/
def loseMembers (ls : List Loss) (s : State) : State :=
  let t := s.each ls fun s l => loseMember l s
  t.each ((ls.map (·.array)).eraseDups) fun t a =>
    afterLosses a ((ls.filter fun l => l.array = a).map fun l => (l.member, memDrv s a l.member)) t

/-- The drive of a member or of a copyback destination is gone, by a row of Table 5.1. -/
def loseDrive (d row : Nat) (s : State) : State :=
  let s := s.each (List.range 16) fun s a =>
    match (s.arr a).cb with
    | some c => if c.dest = d then endCopyback a 1 s else s
    | none => s
  match memberOf s d with
  | some (a, m) => loseMembers [⟨a, m, row⟩] s
  | none => s

end Sys2Proof.Machine
end

