-- ==== Sys2Proof/Machine/Tether.lean ====
section
/-! DEFINITION. The Tether (spec/02_tether_time.md): sources, states, counter correction, the Day table, alarms. -/

namespace Sys2Proof.Machine

/-- Tether states of R33. -/
def tFree : Nat := 0
def tAcq : Nat := 1
def tLocked : Nat := 2
def tHold : Nat := 3

/-- A rejected TET write: nothing but LAST_ERR changes (R48). -/
def tetReject (code : Nat) (s : State) : State := s.wr R.TET_STATUS_LAST_ERR code

/-- The sources in effect: primary, then alternate; the Reel ignores SOURCE 2 (R32), and 3 is none. -/
def tetSources (s : State) : List Nat :=
  let l := [s.rd R.TET_CTRL_SOURCE, s.rd R.TET_CTRL_ALT_SOURCE].eraseDups.filter (· ≠ 3)
  if s.on R.STG_STATUS_REEL then l.filter (· ≠ 2) else l

/-- The first source in effect that presents its signal, other than `except`. -/
def tetPresent (s : State) (except : Nat) : Option Nat :=
  (tetSources s).find? fun x => x ≠ except && s.tet.signals.contains x

/-- STEP_LIMIT in ns. -/
def stepLimitNs (s : State) : Nat := s.rd R.TET_LIMITS_STEP_LIMIT * 1000000

/-- A forward step is permitted (R36): before service open, with AUTO_STEP, or after FORCE_STEP. -/
def stepPermitted (s : State) : Bool := ¬ s.ready || s.on R.TET_CTRL_AUTO_STEP || s.tet.forceStep

/-- TET_OFFSET from a signed offset in ns, saturating at ±(2^31 − 1); gauge 11 samples it. -/
def tetOffset (o : Int) (s : State) : State :=
  let c := if o > 2147483647 then 2147483647 else if o < -2147483647 then -2147483647 else o
  (s.wr R.TET_OFFSET_OFFSET_NS (c % 4294967296).toNat).gauge 11 c.natAbs

/-- FREE_RUN is entered from `old`: no source in use; a Windsock record is raised (Table 14.6). -/
def tetToFree (s : State) : State :=
  let old := s.rd R.TET_STATUS_STATE
  let s := { s with tet.measuring := none, tet.awaiting := none, tet.stepWaited := false, tet.forceStep := false }
  ((s.wr R.TET_STATUS_STATE tFree).wr R.TET_STATUS_SRC_ACT 3).event 0x8701 0 [old]

/-- The source supplies TAI seconds (R27): PTP does, 1PPS once a date has been applied (R31), the Reel where its frames say so. -/
def todGiven (s : State) (src : Nat) : Bool :=
  match src with
  | 1 => s.tet.ppsSeconds ≠ 0
  | 2 => s.tet.reelTod
  | _ => true

/-- The Tether locks to a source (Table 2.2): LOCKED, EVER_LOCKED and, where it supplies TAI seconds (R27), TOD_VALID set, TIME_FAULT
cleared. -/
def tetLock (src : Nat) (s : State) : State :=
  let s := { s with
    tet.measuring := none, tet.awaiting := none, tet.stepWaited := false, tet.forceStep := false, tet.frozen := false }
  let s := (s.wr R.TET_STATUS_STATE tLocked).wr R.TET_STATUS_SRC_ACT src
  let s := ((if todGiven s src then s.wr R.TET_STATUS_TOD_VALID 1 else s).wr R.TET_STATUS_EVER_LOCKED 1).wr R.TET_STATUS_TIME_FAULT 0
  s.raise R.TET_INT_STATUS_LOCKED

/-- HOLDOVER is entered: the frequency correction is frozen. -/
def tetToHold (s : State) : State :=
  (({ s with tet.frozen := true }).wr R.TET_STATUS_STATE tHold).raise R.TET_INT_STATUS_HOLDOVER

/-- No source is being measured and one is wanted (Table 2.2). -/
def wantsSource (s : State) : Bool :=
  s.rd R.TET_STATUS_STATE = tFree || (s.rd R.TET_STATUS_STATE = tAcq && s.tet.measuring.isNone)

/-- SOURCE_SIGNAL_PRESENT: a configured source presents its signal; where none is being measured, measurements start. -/
def doSourceSignalPresent (src : Nat) (s : State) : State :=
  let s := { s with tet.signals := insNat src s.tet.signals }
  if wantsSource s ∧ (tetSources s).contains src then
    ({ s with tet.measuring := some src }).wr R.TET_STATUS_STATE tAcq
  else s

/-- SOURCE_RETRY: the 1 s retry timer expires; a present source is measured again. -/
def doSourceRetry (s : State) : State :=
  match tetPresent s 3 with
  | some src =>
    if wantsSource s then
      ({ s with tet.measuring := some src }).wr R.TET_STATUS_STATE tAcq
    else if s.rd R.TET_STATUS_STATE = tHold then { s with tet.measuring := some src }
    else s
  | none => s

/-- PTP_SYNC: an offset is measured while PTP is being measured or in use (R29, R30). -/
def doPtpSync (o : Int) (s : State) : State :=
  if s.tet.measuring = some 0 ∨ s.rd R.TET_STATUS_SRC_ACT = 0 then
    let s := { s with tet.syncRun := if o.natAbs ≤ 200 then s.tet.syncRun + 1 else 0 }
    tetOffset o s
  else s

/-- The TAI second of a leap second inserted at the end of the present UTC day. -/
def leapSecond (s : State) (utc : Nat) : Nat := ((s.tet.epoch / 15625 - utc) / 86400 + 1) * 86400 + utc

/-- PTP_ANNOUNCE: the best master clock algorithm keeps the better rank (a lower number), its TAI − UTC and its announcement of an
inserted leap second (R30, R40). -/
def doPtpAnnounce (rank utc : Nat) (leap : Bool) (s : State) : State :=
  if s.tet.ptpRank = 0 ∨ rank ≤ s.tet.ptpRank then
    { s with tet.ptpRank := rank, tet.ptpUtc := utc, tet.leapAt := if leap then some (leapSecond s utc) else none }
  else s

/-- PPS_EDGE: a TAI second boundary; armed TAI seconds apply at the first edge after the write (R31). -/
def doPpsEdge (s : State) : State :=
  if s.pwr.inNight then s else
  let sec : Nat := match s.tet.tod with
    | some t => t
    | none => if s.tet.ppsSeconds = 0 then 0 else s.tet.ppsSeconds + 1
  let s := { s with tet.ppsSeconds := sec, tet.tod := none }
  if sec ≠ 0 ∧ (s.tet.measuring = some 1 ∨ s.rd R.TET_STATUS_SRC_ACT = 1) then
    tetOffset ((sec : Int) * 1000000000 - (s.tet.epoch : Int) * 64000) s
  else s

/-- The lock criterion of Table 2.1 holds: for PTP 16 consecutive Sync offsets within ±200 ns; the edges of 1PPS and the residence of
Reel frames are below what the model times, so the row says it. -/
def criterionMet (s : State) (src : Nat) : Bool := src ≠ 0 || decide (16 ≤ s.tet.syncRun)

/-- SOURCE_LOCK_CRITERION_MET: Table 2.2 and R36 by the source's offset (source minus counter, ns). -/
def doSourceLockCriterionMet (src : Nat) (o : Int) (s : State) : State :=
  let st := s.rd R.TET_STATUS_STATE
  if ¬ (tetSources s).contains src ∨ ¬ (st = tAcq ∨ st = tHold) ∨ ¬ criterionMet s src then s else
  let s := tetOffset o s
  if o.natAbs ≤ stepLimitNs s then tetLock src s
  else if o < 0 then
    let s := (s.wr R.TET_STATUS_TIME_FAULT 1).raise R.TET_INT_STATUS_TIME_FAULT
    if st = tAcq then tetToFree s else s
  else if stepPermitted s then
    tetLock src { s with tet.stepAhead := o.natAbs / 64000, tet.forceStep := false }
  else
    let s := { s with tet.awaiting := some (src, o.natAbs / 64000) }
    if s.tet.stepWaited then s else ({ s with tet.stepWaited := true }).raise R.TET_INT_STATUS_STEP_WAIT

/-- SOURCE_LOSS: the loss criterion of a source (Table 2.2). -/
def doSourceLoss (src : Nat) (s : State) : State :=
  let s := { s with tet.signals := s.tet.signals.filter (· ≠ src) }
  let s := if src = 0 then { s with tet.syncRun := 0, tet.ptpRank := 0 } else s
  let s := if (s.tet.awaiting.map (·.1)) = some src then { s with tet.awaiting := none, tet.forceStep := false } else s
  if s.rd R.TET_STATUS_STATE = tLocked ∧ s.rd R.TET_STATUS_SRC_ACT = src then tetToHold s
  else if s.rd R.TET_STATUS_STATE = tAcq ∧ s.tet.measuring = some src then
    match tetPresent s src with
    | some x => { s with tet.measuring := some x }
    | none => tetToFree s
  else s

/-- HOLD_MAX_EXPIRE: HOLD_MAX seconds of holdover have elapsed. -/
def doHoldMaxExpire (s : State) : State :=
  if s.rd R.TET_STATUS_STATE = tHold then (tetToFree s).raise R.TET_INT_STATUS_FREE_RUN else s

/-- FORCE_STEP: a step is permitted at the next boundary while a source waits ahead by more than STEP_LIMIT;
otherwise no effect (Table 2.6). -/
def doForceStep (s : State) : State :=
  if s.tet.awaiting.isSome then { s with tet.forceStep := true } else s

/-- ACQUIRE: measurements are discarded; HOLDOVER if LOCKED, else ACQUIRING. -/
def doAcquire (s : State) : State :=
  let was := s.rd R.TET_STATUS_STATE
  let s := { s with tet.measuring := tetPresent s 3, tet.awaiting := none, tet.syncRun := 0, tet.stepWaited := false, tet.forceStep := false }
  if was = tLocked then tetToHold s else s.wr R.TET_STATUS_STATE tAcq

/-- TET_CLR_ERR. -/
def doTetClrErr (s : State) : State := s.wr R.TET_STATUS_LAST_ERR 0

/-- TOD_ARM: a TET_TOD_LO write arms the TAI seconds; E_STATE unless SOURCE is 1 (R31). -/
def doTodArm (v : Nat) (s : State) : State :=
  if s.rd R.TET_CTRL_SOURCE ≠ 1 then tetReject eState s
  else { s with tet.tod := some (s.tet.todHi * 2 ^ 32 + v % 2 ^ 32) }

/-- Target epoch of alarm n. -/
def alarmTarget (s : State) (n : Nat) : Nat :=
  s.rd (R.TET_ALARMn_EPOCH_HI_TARGET_HI n) * 2 ^ 32 + s.rd (R.TET_ALARMn_EPOCH_LO_TARGET_LO n)

/-- Write the target epoch of alarm n. -/
def setAlarmTarget (n e : Nat) (s : State) : State :=
  (s.wr (R.TET_ALARMn_EPOCH_LO_TARGET_LO n) e).wr (R.TET_ALARMn_EPOCH_HI_TARGET_HI n) (e / 2 ^ 32)

/-- ALARM_ARM: a write of TET_ALARMn_CTRL (reg 0), _EPOCH_LO (1) or _EPOCH_HI (2), with the rejections of R47. -/
def doAlarmArm (n reg v : Nat) (s : State) : State :=
  if n ≥ 8 then s else
  match reg with
  | 0 =>
    if bit v 0 ∧ (alarmTarget s n ≤ s.tet.epoch ∨ bits v 1 3 = 0) then tetReject eRange s
    else
      let s := ((s.wr (R.TET_ALARMn_CTRL_EN n) (bits v 0 1)).wr (R.TET_ALARMn_CTRL_T_INT n) (bits v 1 1)).wr
        (R.TET_ALARMn_CTRL_T_SPOOL n) (bits v 2 1)
      (s.wr (R.TET_ALARMn_CTRL_T_WAKE n) (bits v 3 1)).wr (R.TET_ALARMn_CTRL_PERIOD n) (bits v 4 24)
  | 1 => if s.on (R.TET_ALARMn_CTRL_EN n) then tetReject eState s else s.wr (R.TET_ALARMn_EPOCH_LO_TARGET_LO n) v
  | 2 => if s.on (R.TET_ALARMn_CTRL_EN n) then tetReject eState s else s.wr (R.TET_ALARMn_EPOCH_HI_TARGET_HI n) v
  | _ => s

/-- DAY_OVERRIDE_WRITE: a TET_DAY_OVR write; SLOT above 95 is rejected with E_RANGE. It acts from the next boundary. -/
def doDayOverrideWrite (v : Nat) (s : State) : State :=
  if bits v 0 7 > 95 then tetReject eRange s
  else (s.wr R.TET_DAY_OVR_SLOT (bits v 0 7)).wr R.TET_DAY_OVR_EN (bits v 31 1)

/-- The shares of Day-table entry k: REBUILD, PATROL, DESTAGE, COPYBACK, IDLE_FILL; 96 names the fallback entry. -/
def dayShares (s : State) (k : Nat) : Nat × Nat × Nat × Nat × Nat :=
  if k < 96 then (s.rd (R.TET_DAYk_REBUILD k), s.rd (R.TET_DAYk_PATROL k), s.rd (R.TET_DAYk_DESTAGE k),
    s.rd (R.TET_DAYk_COPYBACK k), s.rd (R.TET_DAYk_IDLE_FILL k))
  else (s.rd R.TET_DAY_FALLBACK_REBUILD, s.rd R.TET_DAY_FALLBACK_PATROL, s.rd R.TET_DAY_FALLBACK_DESTAGE,
    s.rd R.TET_DAY_FALLBACK_COPYBACK, s.rd R.TET_DAY_FALLBACK_IDLE_FILL)

/-- UTC_OFS as signed minutes. -/
def utcOfs (s : State) : Int :=
  let v := s.rd R.TET_LOCAL_UTC_OFS
  if v ≥ 2048 then (v : Int) - 4096 else v

/-- TAI − UTC (R40). From the start of an inserted leap second it is one higher, so that the slot does not change during it. -/
def taiUtc (s : State) : Nat :=
  if s.rd R.TET_STATUS_SRC_ACT ≠ 0 then s.rd R.TET_LOCAL_TAI_UTC
  else match s.tet.leapAt with
    | some t => if t ≤ s.tet.epoch / 15625 then s.tet.ptpUtc + 1 else s.tet.ptpUtc
    | none => s.tet.ptpUtc

/-- The slot by local time of day (R40): floor(L ÷ 900). -/
def slotNow (s : State) : Nat :=
  let l := (((s.tet.epoch / 15625 : Nat) : Int) - taiUtc s + 60 * utcOfs s) % 86400
  l.toNat / 900

/-- Order 3 of Table 2.3: the Day-table entry in force (R41); SLOT_CHG and a new averaging window where another entry comes
into force. -/
def dayEvaluate (s : State) : State :=
  let ovr := s.on R.TET_DAY_OVR_EN
  let fb := ¬ ovr ∧ ¬ s.on R.TET_STATUS_TOD_VALID
  let s := if s.on R.TET_STATUS_TOD_VALID then s.wr R.TET_DAY_CUR_SLOT (slotNow s) else s
  let k := if ovr then s.rd R.TET_DAY_OVR_SLOT else if fb then 96 else s.rd R.TET_DAY_CUR_SLOT
  let s := (s.wr R.TET_DAY_CUR_FALLBACK (b2n fb)).wr R.TET_DAY_CUR_OVERRIDE (b2n ovr)
  if k ≠ s.tet.dayEntry then
    ({ s with tet.dayEntry := k, tet.window := s.tet.epoch }).raise R.TET_INT_STATUS_SLOT_CHG
  else s

/-- The shares in force for one array: REBUILD is at least CRIT_FLOOR while the array is CRITICAL (R43). -/
def sharesFor (s : State) (a : Nat) : Nat × Nat × Nat × Nat × Nat :=
  let (rb, pt, ds, cb, fill) := dayShares s s.tet.dayEntry
  (if s.rd (R.STR_An_STATUS_STATE a) = 2 then max rb (s.rd R.TET_LIMITS_CRIT_FLOOR) else rb, pt, ds, cb, fill)

/-- Order 8 of Table 2.3: the background budgets of this epoch, as (array, rebuild, patrol, copyback, destage) in
share percent times solo rate (R42). -/
def budgetCompute (s : State) : State :=
  { s with tet.budgets := (List.range 16).filterMap fun a =>
      if s.on (R.STR_An_GEOM_EN a) then
        let (rb, pt, ds, cb, _) := sharesFor s a
        let solo := (s.tet.solo.find? (·.1 = a)).getD (a, 0, 0, 0, 0)
        some (a, rb * solo.2.1 / 100, pt * solo.2.2.1 / 100, cb * solo.2.2.2.1 / 100, ds * solo.2.2.2.2 / 100)
      else none }

/-- Solo rates derived when an array is assembled, from measured member rates that the model does not hold: free values (R42). -/
def soloDerive (a : Nat) (s : State) : State :=
  let f := fun s : State => (s.freeNat 64, s.useFree)
  let x := f s
  let y := f x.2
  let z := f y.2
  let w := f z.2
  { w.2 with tet.solo := (a, x.1, y.1, z.1, w.1) :: w.2.tet.solo.filter (·.1 ≠ a) }

/-- SOLO_RATE_REFRESH: Noljo refreshes an array's solo rates from member completion statistics (R42). -/
def doSoloRateRefresh (a reb pat cb dst : Nat) (s : State) : State :=
  { s with tet.solo := (a, reb, pat, cb, dst) :: s.tet.solo.filter (·.1 ≠ a) }

def execSourceSignalPresent (src : Nat) (s : State) : Out := live s (doSourceSignalPresent src s)
def execSourceRetry (s : State) : Out := live s (doSourceRetry s)
def execPtpSync (o : Int) (s : State) : Out := live s (doPtpSync o s)
def execPtpAnnounce (rank : Nat) (utcOffset : UtcInfo) (s : State) : Out := live s (doPtpAnnounce rank utcOffset.offset utcOffset.leap s)
def execPpsEdge (s : State) : Out := live s (doPpsEdge s)
def execSourceLockCriterionMet (src : Nat) (o : Int) (s : State) : Out := live s (doSourceLockCriterionMet src o s)
def execSourceLoss (src : Nat) (s : State) : Out := live s (doSourceLoss src s)
def execHoldMaxExpire (s : State) : Out := live s (doHoldMaxExpire s)
def execForceStep (s : State) : Out := live s (doForceStep s)
def execAcquire (s : State) : Out := live s (doAcquire s)
def execTetClrErr (s : State) : Out := live s (doTetClrErr s)
def execTodArm (v : Nat) (s : State) : Out := live s (doTodArm v s)
def execAlarmArm (n reg v : Nat) (s : State) : Out := live s (doAlarmArm n reg v s)
def execDayOverrideWrite (v : Nat) (s : State) : Out := live s (doDayOverrideWrite v s)
def execSoloRateRefresh (a reb pat cb dst : Nat) (s : State) : Out := live s (doSoloRateRefresh a reb pat cb dst s)

end Sys2Proof.Machine
end

