-- ==== Sys2Proof/Machine/Members.lean ====
section
/-! DEFINITION. Answers of the member drives and the stripe engine's own events (R17, R18, R70, R116 to R119). -/

namespace Sys2Proof.Machine

/-- A member command that has been issued. -/
def mcmdOf (s : State) (i : Nat) : Option MCmd := s.ce.mcmds.find? fun m => m.id = i && m.issued

/-- A member write takes effect on the drive. -/
def applyWrite (m : MCmd) (s : State) : State :=
  if m.dealloc then repairsGone m.drv m.lba m.count (mediaClear m.drv m.lba m.count s)
  else s.each m.data fun s p => repairsGone m.drv p.1 1 (mediaWrite m.drv p.1 p.2 s)

/-- A read returned its data. -/
def readBack (m : MCmd) (s : State) : State :=
  let s := (dropMCmd m.id m.drv s).gaugeTime (16 + m.drv / 2)
  if m.sop ≠ 0 then
    match s.ce.sops.find? fun o => o.id = m.sop with
    | some o =>
      let o := { o with outst := o.outst.filter (· ≠ m.id) }
      if o.outst.isEmpty ∧ o.phase = .reads then destageCompute o (s.putSop o) else s.putSop o
    | none => s
  else match ctxOf s m.owner with
    | none => s
    | some c =>
      let c := { c with outst := c.outst.filter (· ≠ m.id) }
      match nsAt s c.ns with
      | some ns =>
        if c.outst.isEmpty ∧ c.phase = .member then readAssemble (onLostFor ns c) ns c (s.putCtx c) else s.putCtx c
      | none => s

/-- A write returned. -/
def wroteBack (m : MCmd) (s : State) : State :=
  let s := (dropMCmd m.id m.drv (applyWrite m s)).gaugeTime (48 + m.drv / 2)
  match s.ce.sops.find? fun o => o.id = m.sop with
  | some o =>
    let o := { o with outst := o.outst.filter (· ≠ m.id) }
    if o.outst.isEmpty ∧ o.phase = .writes then sopDone o (s.putSop o) else s.putSop o
  | none => s

/-- Blocks of a member read count as erased for whoever waits on it; the drive's answer, if it comes, is discarded. -/
def eraseRead (m : MCmd) (lbas : List Nat) (s : State) : State :=
  let ex := lbas.map fun l => (m.drv, l)
  if m.sop ≠ 0 then
    match s.ce.sops.find? fun o => o.id = m.sop with
    | some o =>
      destageRedo m lbas { o with erased := o.erased ++ ex } s
    | none => s
  else match ctxOf s m.owner with
    | some c => readRedo m lbas { c with erased := c.erased ++ ex } s
    | none => s

/-- The drive has answered: its controller is ready again. -/
def driveAnswers (d : Nat) (s : State) : State := s.modDrive d fun x => { x with resetting := false }

/-- MEMBER_COMPLETION: a drive completion is collected. During a dump only the drive's contents follow (R213). -/
def doMemberCompletion (i : Nat) (st : MStatus) (s : State) : State :=
  match mcmdOf s i with
  | none => s
  | some m =>
    let s := driveAnswers m.drv s
    if s.pwr.dumping then
      (if m.wr ∧ st = .ok then dropMCmd i m.drv (applyWrite m s) else dropMCmd i m.drv s)
    else match m.wr, st with
      | true, .ok => wroteBack m s
      | false, .ok => readBack m s
      | false, .failed => eraseRead m (rangeFrom m.lba m.count) (dropMCmd i m.drv s)
      | true, .failed =>
        if m.reissued then
          if m.drv = memDrv s m.array m.member then loseMembers [⟨m.array, m.member, 4⟩] s
          else mcmdGone m (endCopyback m.array 1 s)
        else { s with ce.mcmds := s.ce.mcmds.map fun x => if x.id = i then { x with reissued := true } else x }

/-- Blocks of array `a` that drive `d` reports unreadable: erased for every read, and queued for repair (R116). -/
def noteBad (a d : Nat) (ls : List Nat) (s : State) : State :=
  let s := s.modDrive d fun x => { x with bad := ls.foldl (fun b l => insNat l b) x.bad }
  s.modArr a fun r => { r with repairs := r.repairs ++
    (ls.filter fun l => ¬ r.repairs.any fun p => p.1 = d && p.2.1 = l).map fun l => (d, l, s.tet.epoch) }

/-- Unreadable blocks of a member command's read (R116 step 1): the rest is read from survivors. -/
def cmdReadError (i : Nat) (lbas : List Nat) (s : State) : State :=
  match mcmdOf s i with
  | none => s
  | some m =>
    let ls := lbas.filter fun l => decide (m.lba ≤ l) && decide (l < m.lba + m.count)
    if m.wr ∨ ls = [] ∨ s.pwr.dumping then s else
    let s := driveAnswers m.drv (dropMCmd i m.drv s)
    eraseRead m ls (noteBad m.array m.drv ls s)

/-- MEMBER_READ_ERROR: blocks reported unreadable to a member command, or to a background step (R116, R138), which meets them as erased. -/
def doMemberReadError (i : RdOf) (lbas : List Nat) (s : State) : State :=
  match i with
  | .cmd id => cmdReadError id lbas s
  | .step d => match memberOf s d with
    | some am => if lbas = [] ∨ s.pwr.dumping ∨ ¬ holdsPlace s d then s else noteBad am.1 d lbas s
    | none => s

/-- READ_REPAIR: the unreadable blocks of a stripe are reconstructed and rewritten under an INTENT with OP REPAIR (R116 steps 2 and 3).
Where a repair write fails, its member goes missing and the others' blocks are written (R116 step 4, R120). DESIGN CHOICE (log entry 73):
of several members it is the one whose repair has waited longest. -/
def doReadRepair (a st : Nat) (writeOk : Bool) (s : State) : State :=
  let b := strB s a
  let mine := (s.arr a).repairs.filter fun p => (p.2.1 - dataLba) / b = st
  if mine = [] ∨ ¬ arrServes s a ∨ ¬ lockFree s a st ∨ s.pwr.dumping then s else
  let clear := fun s : State => s.modArr a fun r => { r with repairs := r.repairs.filter fun p => (p.2.1 - dataLba) / b ≠ st }
  let cols := (mine.map fun p => (p.2.1 - dataLba) % b).eraseDups
  let bad := if writeOk then none else (mine.head?.bind fun p => memberOf s p.1).map (·.2)
  unlessShort s (
    let t := if cols.any fun k => decide (2 < erasuresAt s a st k []) then markLost a st 0 s
      else (engineStep a st cols.length (dataN s a) s).each cols fun s k => repairBut bad a st k s
    match bad with
    | some m => loseMembers [⟨a, m, 5⟩] (clear t)
    | none => clear t)

/-- Taking the blocks of a member read as erased leaves at most two erasures in each column, with what its command met already. -/
def erasable (s : State) (m : MCmd) : Bool :=
  let b := strB s m.array
  let ls := rangeFrom m.lba m.count
  let own := if m.sop ≠ 0 then ((s.ce.sops.find? fun o => o.id = m.sop).map (·.erased)).getD [] else ((ctxOf s m.owner).map (·.erased)).getD []
  ls.all fun l => decide (erasuresAt s m.array ((l - dataLba) / b) ((l - dataLba) % b) (own ++ ls.map fun l => (m.drv, l)) ≤ 2)

/-- A member read is left to finish for nobody; its blocks are read from survivors. -/
def readAway (m : MCmd) (s : State) : State :=
  eraseRead m (rangeFrom m.lba m.count) { s with ce.mcmds := s.ce.mcmds.map fun x =>
    if x.id = m.id then { x with owner := 0, sop := 0, hedged := true } else x }

/-- HEDGE_EXPIRE: a read slower than HEDGE_MS (R117); not where it would make a column's erasures exceed 2. -/
def doHedgeExpire (i : Nat) (s : State) : State :=
  match mcmdOf s i with
  | none => s
  | some m =>
    if m.wr ∨ m.hedged ∨ s.rd (R.STR_An_POLICY_HEDGE_MS m.array) = 0 ∨ 1 < missCount s m.array ∨ ¬ erasable s m ∨ s.pwr.dumping then s
    else readAway m (s.incSat (R.STR_An_REPAIR_HEDGED m.array))

/-- A drive's controller is reset: the reads outstanding on it are served by reconstruction where the columns allow it (R118). -/
def driveReset (d i : Nat) (s : State) : State :=
  let s := (s.modDrive d fun x => { x with resetAt := some s.tet.epoch, resetting := true }).emit (.drive d 1 [i])
  s.each (s.ce.mcmds.filter fun m => m.drv = d && ¬ m.wr && (m.owner ≠ 0 || m.sop ≠ 0)) fun s m =>
    if s.ce.mcmds.any (fun x => x.id = m.id) ∧ erasable s m then readAway m s else s

/-- MEMBER_TIMEOUT: the drive's controller is reset and the command reissued; a second timeout within 15,625 epochs of
the reset makes the member missing (R118). -/
def doMemberTimeout (i : Nat) (s : State) : State :=
  match mcmdOf s i with
  | none => s
  | some m =>
    if s.pwr.dumping then s else
    let last := match driveAt s m.drv with
      | some d => d.resetAt
      | none => none
    match last with
    | some e =>
      if s.tet.epoch ≤ e + 15625 then
        if m.drv = memDrv s m.array m.member then loseMembers [⟨m.array, m.member, 3⟩] s else mcmdGone m (endCopyback m.array 1 s)
      else driveReset m.drv i s
    | none => driveReset m.drv i s

/-- MEMBER_CONTROLLER_READY_TIMEOUT: a reset controller is not ready within 2 s. -/
def doMemberControllerReadyTimeout (d : Nat) (s : State) : State :=
  match driveAt s d with
  | some x => if x.resetting ∧ ¬ s.pwr.dumping then loseDrive d 3 s else s
  | none => s

/-- MEMBER_MISSING: losses of one epoch by rows 1 to 6 of Table 5.1. -/
def doMemberMissing (ls : List Loss) (s : State) : State :=
  loseMembers (ls.filter fun l => decide (1 ≤ l.row) && decide (l.row ≤ 6)) s

/-- All four slices are offline: every enabled array but a FAILED one goes OFFLINE with REASON ENGINE, and what was in the engine ends. -/
def engineGone (s : State) : State :=
  let ops := (s.ce.jobs.map (·.op) ++ s.ce.jobWait.map (·.1)).eraseDups
  let s := s.each (List.range 16) fun s a => if arrOn s a ∧ arrState s a ≠ aFailed then offlineArray a 3 s else s
  s.each (ops.filter fun op => decide (2 ^ 33 ≤ op)) fun s op => unlockAll op (jobsDrop op s)

/-- The job at the head of a slice is run once more on another slice; where no other slice has room it is queued again (R70). -/
def jobRerun (j : Nat) (s : State) : State :=
  match takeFirst (fun x : Job => x.slice = j) s.ce.jobs with
  | none => s
  | some (x, rest) =>
    let k := (slicePick (fun i => i ≠ j) s).getD j
    sliceBusy { s with ce.jobs := rest ++ [{ x with slice := k, tried := true }] }

/-- The jobs of a slice that is offline go to the other slices, before those that wait already. -/
def sliceEmpty (j : Nat) (s : State) : State :=
  let mine := (s.ce.jobs.filter fun x => x.slice = j).map fun x => (x.op, x.units)
  let s := { s with ce.jobs := s.ce.jobs.filter fun x => x.slice ≠ j, ce.jobWait := mine ++ s.ce.jobWait }
  sliceBusy (jobsAdmit s.ce.jobWait.length s)

/-- SLICE_RESIDUE_FAIL: a job fails its residue check; it is discarded and run once more on another slice (R70). The operand says
whether it fails there again. DESIGN CHOICE (log entry 75): the slice of the event is the one that then goes offline. -/
def doSliceResidueFail (j : Nat) (again : Bool) (s : State) : State :=
  if j ≥ 4 ∨ bit (s.rd R.STR_ENG_STATUS_SLICE_OFF) j then s else
  let s := s.incSat R.STR_ENG_STATUS_FAULTS
  let recent := (s.ce.sliceFails.filter fun p => p.1 = j && decide (s.tet.epoch < p.2 + 1024)).length + 1
  let second := again || ((s.ce.jobs.find? fun x => x.slice = j).map (·.tried)).getD false
  let s := { s with ce.sliceFails := s.ce.sliceFails ++ [(j, s.tet.epoch)] }
  if second ∨ 3 ≤ recent then
    let s := (s.raise R.STR_ENG_STATUS_SLICE_OFF (2 ^ j)).raise R.STR_INT_DEV_SLICE_FAIL (2 ^ j)
    let s := s.event 0x8600 0 [j, s.rd R.STR_ENG_STATUS_FAULTS]
    if s.rd R.STR_ENG_STATUS_SLICE_OFF = 15 then engineGone s else sliceEmpty j s
  else jobRerun j s

/-- The last job of an operation has been retired (R67): what waited for it goes on. -/
def engineEnd (op : Nat) (s : State) : State :=
  if engineBusy s op then s
  else if 2 ^ 33 ≤ op then unlockAll op s
  else match s.ce.sops.find? fun o => sopOwner o.id = op with
    | some o => match o.phase with
      | .engine => if o.owner = 0 then sopSave o s else sopReady o s
      | .verify => destageRun o s
      | _ => s
    | none => match ctxOf s op with
      | none => s
      | some c => match nsAt s c.ns, c.phase with
        | some ns, .engine => readDeliver (onLostFor ns c) ns c s
        | some ns, .verify => readFound (onLostFor ns c) ns c s
        | _, _ => s

/-- ENGINE_JOB_RETIRE: the oldest job of a slice is retired; its input is counted, and jobs that waited for room are queued. -/
def doEngineJobRetire (j : Nat) (s : State) : State :=
  match takeFirst (fun x : Job => x.slice = j) s.ce.jobs with
  | none => s
  | some (x, rest) =>
    let s := { s with ce.jobs := rest }.incWrap (R.STR_ENG_CNTj_INPUT_4K j) x.units
    engineEnd x.op (sliceBusy (jobsAdmit s.ce.jobWait.length s))

def execMemberCompletion (i : Nat) (st : MStatus) (s : State) : Out := live s (doMemberCompletion i st s)
def execMemberReadError (i : RdOf) (lbas : List Nat) (s : State) : Out := live s (doMemberReadError i lbas s)
def execReadRepair (a st : Nat) (ok : Bool) (s : State) : Out := live s (doReadRepair a st ok s)
def execHedgeExpire (i : Nat) (s : State) : Out := live s (doHedgeExpire i s)
def execMemberTimeout (i : Nat) (s : State) : Out := live s (doMemberTimeout i s)
def execMemberControllerReadyTimeout (d : Nat) (s : State) : Out := live s (doMemberControllerReadyTimeout d s)
def execMemberMissing (ls : List Loss) (s : State) : Out := live s (doMemberMissing ls s)
def execSliceResidueFail (j : Nat) (again : Bool) (s : State) : Out := live s (doSliceResidueFail j again s)
def execEngineJobRetire (j : Nat) (s : State) : Out := live s (doEngineJobRetire j s)

end Sys2Proof.Machine
end

