-- ==== Sys2Proof/Machine/Tasks.lean ====
section
/-! DEFINITION. The device's own work on arrays, one stripe per step: destage (R207), rebuild (R123 to R128), copyback
(R130 to R134), patrol (R135), resync (R110, R111), map copies (R72). -/

namespace Sys2Proof.Machine

/-- The closing records of a stop have been written: nothing more is journalled (R361, R420). -/
def stopWritten (s : State) : Bool := s.pwr.shutdownDone || decide (4 ≤ s.pwr.shutStep) || decide (4 ≤ s.rd R.PWR_STATUS_PREP_STEP)

/-- An array that is OFFLINE with REASON HOST. -/
def offHost (s : State) (a : Nat) : Bool := arrOn s a && arrState s a = aOffline && s.rd (R.STR_An_STATUS_REASON a) = 1

/-- Destage writes the members of a serving array, and of one OFFLINE with REASON HOST while the device stops (R361, R420). -/
def destages (s : State) (a : Nat) : Bool :=
  arrServes s a || (offHost s a && (s.pwr.nightReq.isSome || s.pwr.shutdownReq.isSome))

/-- Background work runs: service is open, the unit writes members, no dump, no activation drain (R146, R156, R312). -/
def bgOk (s : State) : Bool :=
  s.ready && ¬ s.pwr.dumping && ¬ stopWritten s && ¬ s.on R.HPT_CE_STATUS_FETCH_STOPPED && (s.pairState = 0 || s.pairState = 3)

/-- A class with this share may run: a share of 0 stops it for the slot, whatever IDLE_FILL says (R43). How fast it runs is timing. -/
def shareOk (share : Nat) : Bool := decide (0 < share)

/-! ### Destage -/

/-- Stripes with dirty blocks that no stripe operation works on. -/
def dirtyStripes (s : State) : List (Nat × Nat) :=
  let all := s.bsk.extents.flatMap fun e =>
    if e.companion then [] else e.live.filterMap fun l => (stripeOf s e.ns l).map fun st => (e.array, st)
  all.eraseDups.filter fun p => destages s p.1 && ¬ s.ce.sops.any fun o => o.array = p.1 && o.stripe = p.2

/-- The newest and the oldest entry of a stripe: epoch of the newest, SEQ of the oldest. -/
def stripeAges (s : State) (a st : Nat) : Nat × Nat :=
  let es := s.bsk.extents.filter fun e => ¬ e.companion && e.array = a && e.live.any fun l => stripeOf s e.ns l = some st
  (es.foldl (fun m e => max m e.epoch) 0, es.foldl (fun m e => min m e.seq) s.jrn.nextSeq)

/-- Everything dirty is destaged at once: write-through, a failed channel, a stop in preparation (R206, R361, R420). -/
def destageAll (s : State) : Bool := s.rd R.BSK_STATUS_MODE = 2 || s.pwr.nightReq.isSome || s.pwr.shutdownReq.isSome || s.pwr.inNight

/-- A stripe is eligible (R207). -/
def eligible (s : State) (a st : Nat) : Bool :=
  destageAll s || aboveHwm s || coversAll s a st ||
  decide ((stripeAges s a st).1 + s.rd R.BSK_DIRTY_CFG_DELAY ≤ s.tet.epoch)

/-- The place of an eligible stripe in the order of R207: whole stripes first, then the oldest entry. -/
def destageRank (s : State) (p : Nat × Nat) : Nat × Nat := (if coversAll s p.1 p.2 then 0 else 1, (stripeAges s p.1 p.2).2)

/-- DESTAGE_STEP: the stripe that is first in the order starts its destage. -/
def doDestageStep (a st : Nat) (s : State) : State :=
  let es := (dirtyStripes s).filter fun p => eligible s p.1 p.2
  let me := destageRank s (a, st)
  let first := es.all fun p =>
    let r := destageRank s p
    decide (me.1 < r.1) || (me.1 = r.1 && decide (me.2 ≤ r.2))
  if bgOk s ∧ es.contains (a, st) ∧ first then destageStart a st s else s

/-! ### Rebuild -/

/-- REBUILD_TARGET_ASSIGN: a waiting target is probed, deallocated and labelled, and its slot forms (R123). -/
def doRebuildTargetAssign (a m d : Nat) (s : State) : State :=
  if ¬ (s.arr a).waiting.contains (m, d) ∨ ¬ arrServes s a ∨ arrState s a = aResyncing ∨ ¬ bgOk s then s else
  let s := s.modArr a fun r => { r with waiting := r.waiting.filter fun p => p.1 ≠ m }
  if passesR55 s d (s.rd (R.STR_An_GEOM_META a)) then
    let s := mediaClear d dataLba ((s.arr a).stripes * strB s a) s
    let s := formSlot a m d 0 s
    arrUpdate a (relabel a s)
  else
    let s := s.each ((s.arr a).taken.filter fun p => p.1 = m) fun s p => s.wr (R.STR_SPAREk_SPARE_STATE p.2) 3
    let s := s.modArr a fun r => { r with taken := r.taken.filter fun p => p.1 ≠ m }
    arrUpdate a (seekTarget a m s)

/-- Slot `i` can run now (R126). -/
def slotRuns (s : State) (a i : Nat) : Bool :=
  let x := slotAt s a i
  let sh := sharesFor s a
  bgOk s && x.act && decide (x.wm < x.fin) && arrServes s a && arrState s a ≠ aResyncing &&
  shareOk sh.1 && (driveAt s x.drv).isSome

/-- Advance a watermark over stripes completed ahead of it. -/
def advanceWm : Nat → Slot → Slot
  | 0, x => x
  | f + 1, x => if x.ahead.contains x.wm then
      advanceWm f { x with wm := x.wm + 1, ahead := x.ahead.filter (· ≠ x.wm) } else x

/-- Stripes that a re-formed slot passes over without reading: those already in its valid set (R127). -/
def skipWm (x : Slot) : Slot :=
  let x := advanceWm x.ahead.length x
  advanceWm x.ahead.length (if x.exLo ≤ x.wm ∧ x.wm < x.exHi then { x with wm := min x.exHi x.fin } else x)

/-- The lowest stripe of a slot's 16-stripe window that is to be rebuilt and whose lock is free (R125). -/
def slotNext (s : State) (a : Nat) (x : Slot) : Option Nat :=
  (rangeFrom x.wm (min 16 (x.fin - x.wm))).find? fun st =>
    ¬ x.ahead.contains st && ¬ (decide (x.exLo ≤ st) && decide (st < x.exHi)) && lockFree s a st

/-- REBUILD_STEP: the lowest stripe of the slot's window that it can take; a JOINED slot takes the budget first, the other what the first
cannot use (R125, R126). A stripe whose COALESCE is on its way is taken once that has ended. -/
def doRebuildStep (a i : Nat) (s : State) : State :=
  if i ≥ 2 ∨ ¬ slotRuns s a i then s else
  let y := slotAt s a (1 - i)
  if y.act ∧ y.joined ∧ slotRuns s a (1 - i) ∧ (slotNext s a (skipWm y)).isSome then s else
  let s := modSlot a i skipWm s
  let x := slotAt s a i
  match slotNext s a x with
  | none => s
  | some st =>
    let ms := x.target :: (if x.joined ∧ y.act then [y.target] else [])
    let t := rebuildStripe a st ms s
    if coalescing t a st then unlessShort s t else
    unlessShort s (progressDue 0 a x.target (modSlot a i (fun x =>
      if st = x.wm then advanceWm 16 { x with wm := x.wm + 1 } else { x with ahead := insNat st x.ahead }) t))

/-- A slot has reached its end, and so has the slot joined to write its target (R128). -/
def slotEnded (s : State) (a i : Nat) : Bool :=
  let x := slotAt s a i
  let y := slotAt s a (1 - i)
  x.act && decide (x.fin ≤ x.wm) && (¬ (y.act && y.joined) || decide (y.fin ≤ y.wm))

/-- Complete slot `i` (R128). -/
def completeSlot (a i : Nat) (s : State) : State :=
  let x := slotAt s a i
  let s := progress 0 a x.target 2 s
  let s := s.event 0x0301 (srcArr a) ([i, x.target] ++ leBytes 8 x.wm)
  let s := (s.clr (R.STR_An_MISSMAP_MISS a) (2 ^ x.target)).wr (R.STR_An_MEMBERk_MISSING a x.target) 0
  let s := if x.joined then modSlot a (1 - i) (fun y => { y with exLo := x.joinFrom, exHi := x.fin }) s else s
  let s := modSlot a i (fun _ => Slot.idle) s
  let s := if (mapWanted s a).contains x.target then mapGive a x.target s else s
  s.each (List.range (memN s a)) fun s m =>
    if (mapWanted s a).contains m then s else s.wr (R.STR_An_MEMBERk_MAPHOLD a m) 0

/-- REBUILD_COMPLETE: the slot, and with it a slot of empty range that it is joined to, completes; the label is
rewritten. -/
def doRebuildComplete (a i : Nat) (s : State) : State :=
  if i ≥ 2 ∨ ¬ bgOk s ∨ ¬ slotEnded s a i then s else
  let s := completeSlot a i s
  let s := if slotEnded s a (1 - i) then completeSlot a (1 - i) s else s
  arrUpdate a (relabel a s)

/-- MAP_COPY: a present member that should hold the lost-stripe map receives a full copy (R72). -/
def doMapCopy (a m : Nat) (s : State) : State :=
  if bgOk s ∧ arrOn s a ∧ (mapWanted s a).contains m ∧ ¬ s.on (R.STR_An_MEMBERk_MAPHOLD a m) then
    relabel a (progress 6 a m 2 (mapGive a m s))
  else s

/-! ### Copyback -/

/-- A copyback can run (R130). -/
def cbRuns (s : State) (a : Nat) : Bool :=
  let sh := sharesFor s a
  bgOk s && arrServes s a && (s.arr a).rs.isNone && ¬ (slots s a).any (·.act) && (s.arr a).waiting.isEmpty &&
  shareOk sh.2.2.2.1

/-- COPYBACK_STEP: the next stripe. -/
def doCopybackStep (a : Nat) (s : State) : State :=
  match (s.arr a).cb with
  | none => s
  | some c =>
    if ¬ cbRuns s a ∨ (s.arr a).stripes ≤ c.wm ∨ ¬ lockFree s a c.wm then s else
    let t := copyStripe a c.wm c.src c.dest s
    if coalescing t a c.wm then unlessShort s t else
    unlessShort s (progressDue 1 a c.src (t.modArr a fun r => { r with cb := r.cb.map fun x => { x with wm := c.wm + 1 } }))

/-- COPYBACK_SWAP: the destination takes the member index (R133). -/
def doCopybackSwap (a : Nat) (s : State) : State :=
  match (s.arr a).cb with
  | none => s
  | some c =>
    if ¬ cbRuns s a ∨ c.wm < (s.arr a).stripes ∨ s.ce.mcmds.any (fun m => m.array = a && m.member = c.src && m.wr) then s else
    let s := progress 1 a c.src 2 s
    let back := (s.arr a).taken.filter fun p => p.1 = c.src && spareDrv s p.2 = memDrv s a c.src
    let s := s.each back fun s p => (s.wr (R.STR_SPAREk_SPARE_STATE p.2) 1).wr (R.STR_SPAREk_ARRAY p.2) 0
    let s := entryKeep a (s.modArr a fun r => { r with cb := none, taken := r.taken.filter fun p => ¬ back.contains p })
    let s := (setMember a c.src c.dest s).event 0x0304 (srcArr a) (cbPayload c)
    let s := if s.on (R.STR_An_MEMBERk_MAPHOLD a c.src) then mapGive a c.src s else s
    relabel a s

/-- A drive may become the target or the copyback destination of array `a` (Table 5.4), with the code of the first row
that refuses it. -/
def driveRefused (s : State) (a d : Nat) : Option Nat :=
  match driveAt s d with
  | none => some eState
  | some x =>
    if holdsPlace s d ∨ (List.range 8).any (fun k => s.on (R.STR_SPAREk_VALID k) && spareDrv s k = d &&
        (s.rd (R.STR_SPAREk_SPARE_STATE k) = 1 || s.rd (R.STR_SPAREk_SPARE_STATE k) = 2)) then some eField
    else if ¬ passesR55 s d (s.rd (R.STR_An_GEOM_META a)) then some eUnsup
    else if x.desc.blocks < blocksNeeded s a then some eNospace
    else none

/-- The place of a replaced member, where a drive can take it back (R132): the index is held by a taken spare. -/
def returnPlace (s : State) (a m : Nat) : Option Nat :=
  if s.on (R.STR_An_POLICY_CB_AUTO a) ∧ (s.arr a).taken.any (fun p => p.1 = m && spareDrv s p.2 = memDrv s a m) then
    (((s.arr a).places.find? fun p => p.1 = m).map (·.2)).filter fun d => driveRefused s a d = none
  else none

/-- COPYBACK_AUTO_START: automatic return of a taken spare's place, or media retirement onto a spare, which is taken as for a rebuild
target (R132). -/
def doCopybackAutoStart (a m : Nat) (s : State) : State :=
  if ¬ arrOn s a ∨ memN s a ≤ m ∨ missing s a m ∨ (s.arr a).cb.isSome ∨ ¬ cbRuns s a then s else
  match returnPlace s a m with
  | some d => startCopyback a m d 1 s
  | none =>
    if s.on (R.STR_An_POLICY_CB_MEDIA a) ∧ bit (s.rd (R.STR_An_MEDIA_WARN_WARN a)) m then
      match spareFor s a with
      | some k =>
        let s := s.modArr a fun r => { r with places := (m, memDrv s a m) :: r.places.filter fun p => p.1 ≠ m }
        startCopyback a m (spareDrv s k) 2 (takeSpare a m k s)
      | none => s
    else s

/-! ### Patrol and resync -/

/-- Patrol can run (R135). -/
def patrolRuns (s : State) (a : Nat) : Bool :=
  let sh := sharesFor s a
  bgOk s && arrOn s a && s.on (R.STR_An_POLICY_PATROL_EN a) && arrState s a = aOptimal && shareOk sh.2.1

/-- PATROL_STEP: the next stripe, or the next cycle. -/
def doPatrolStep (a : Nat) (s : State) : State :=
  let st := (s.arr a).pt
  if ¬ patrolRuns s a then s
  else if (s.arr a).stripes ≤ st then
    progressDue 3 a 0 ((s.modArr a fun r => { r with pt := 0 }).incSat (R.STR_An_PT_HI_CYCLES a))
  else
    let pass := nsOfStripe s a st = none ∨ isLost s a st
    if ¬ pass ∧ ¬ lockFree s a st then s else
    let t := if pass then s else (patrolStripe a st s).modArr a fun r => { r with patrolled := r.patrolled + 1 }
    let t := t.modArr a fun r => { r with pt := st + 1 }
    let t := if (t.arr a).stripes ≤ st + 1 then (t.modArr a fun r => { r with pt := 0 }).incSat (R.STR_An_PT_HI_CYCLES a) else t
    unlessShort s (progressDue 3 a 0 t)

/-- Resync ends: PROGRESS, the Windsock record, the state that the members give. -/
def resyncEnd (a : Nat) (r : Resync) (s : State) : State :=
  let s := progress 2 a 0 2 s
  let s := s.event 0x0307 (srcArr a) ((if r.regionSize = 0 then 0 else 1) :: leBytes 8 r.lost)
  let s := s.modArr a fun x => { x with rs := none }
  let s := s.each (missMembers s a) fun s m => if hasTarget s a m then s else seekTarget a m s
  arrUpdate a s

/-- The resync step of a stripe as background work: its engine operation holds the stripe's lock entry (R68). -/
def resyncBg (a st : Nat) (s : State) : State :=
  let op := 2 ^ 33 + s.ce.nextId
  let t := resyncStripe op a st (lockJoin op (lockIdx a st) s.fresh)
  if engineBusy t op then t else unlockAll op t

/-- RESYNC_STEP: the next stripe in scope under its exclusive lock (R110, R111). -/
def doResyncStep (a : Nat) (s : State) : State :=
  match (s.arr a).rs with
  | none => s
  | some r =>
    let sh := sharesFor s a
    if ¬ bgOk s ∨ ¬ arrServes s a ∨ ¬ shareOk sh.1 then s
    else if (s.arr a).stripes ≤ r.wm then resyncEnd a r s
    else if ¬ synced s a r.wm ∧ ¬ lockFree s a r.wm then s
    else
      let t := if synced s a r.wm then s else resyncBg a r.wm s
      let t := t.modArr a fun x => { x with rs := x.rs.map fun y => { y with wm := r.wm + 1, verified := y.verified.filter (· ≠ r.wm) } }
      let t := progressDue 2 a 0 t
      unlessShort s (match (t.arr a).rs with
      | some y => if (t.arr a).stripes ≤ y.wm then resyncEnd a y t else t
      | none => t)

def execDestageStep (a st : Nat) (s : State) : Out := live s (doDestageStep a st s)
def execRebuildTargetAssign (a m d : Nat) (s : State) : Out := live s (doRebuildTargetAssign a m d s)
def execRebuildStep (a i : Nat) (s : State) : Out := live s (doRebuildStep a i s)
def execRebuildComplete (a i : Nat) (s : State) : Out := live s (doRebuildComplete a i s)
def execMapCopy (a m : Nat) (s : State) : Out := live s (doMapCopy a m s)
def execCopybackStep (a : Nat) (s : State) : Out := live s (doCopybackStep a s)
def execCopybackSwap (a : Nat) (s : State) : Out := live s (doCopybackSwap a s)
def execCopybackAutoStart (a m : Nat) (s : State) : Out := live s (doCopybackAutoStart a m s)
def execPatrolStep (a : Nat) (s : State) : Out := live s (doPatrolStep a s)
def execResyncStep (a : Nat) (s : State) : Out := live s (doResyncStep a s)

end Sys2Proof.Machine
end

