-- ==== Sys2Proof/Machine/Format.lean ====
section
/-! DEFINITION. Format NVM and Sanitize (R157 to R160). -/

namespace Sys2Proof.Machine

/-! ### Stripes given up by Format, Sanitize and namespace commands -/

/-- A range of stripes of array `a` is deallocated: media, cached copies, Basket entries, lost marks where `marks`. -/
def rangeGone (a st cnt : Nat) (marks : Bool) (s : State) : State :=
  let lo := memLba (strB s a) st 0
  let hi := memLba (strB s a) (st + cnt) 0
  let s := keysGone (fun k => k < 2 ^ 62 && bits k 45 4 = a && decide (lo ≤ bits k 0 40) && decide (bits k 0 40 < hi)) s
  let s := stripesClear a st cnt s
  let dead : Extent → Nat → Bool := fun e l => match stripeOf s e.ns l with
    | some x => decide (st ≤ x) && decide (x < st + cnt)
    | none => true
  let s := s.each (s.bsk.extents.filter fun e => e.array = a && ¬ e.companion && e.live.any (dead e)) fun s e =>
    let left := e.live.filter fun l => ¬ dead e l
    if left.isEmpty then bskRelease e s
    else { s with bsk.extents := s.bsk.extents.map fun x => if x.seq = e.seq then { x with live := left } else x }
  if marks then s.each ((s.arr a).lost.filter fun x => decide (st ≤ x) && decide (x < st + cnt)) fun s x => lostBit a x false s else s

/-- No operation or command works on these stripes. -/
def rangeIdle (s : State) (a st cnt : Nat) : Bool :=
  ¬ s.ce.sops.any fun o => o.array = a && decide (st ≤ o.stripe) && decide (o.stripe < st + cnt)

/-! ### Format -/

/-- A rebuild, copyback or resync runs on array `a` (Table 6.4). -/
def arrayBusy (s : State) (a : Nat) : Bool :=
  (slots s a).any (·.act) || ¬ (s.arr a).waiting.isEmpty || (s.arr a).cb.isSome || (s.arr a).rs.isSome

/-- The first refusal of a Format of one namespace: Tables 6.2 and 6.4 and the LBA-format rule. DESIGN CHOICE (log entry 80): the
LBA-format rule stands before the rows of the tables, and an LBAF above 1 is refused by it with Invalid Format. -/
def formatRefusal (s : State) (h : IoHdr) (n : Ns) (lbaf : Nat) : Option Status :=
  let ana := anaState s n.array
  if 1 < lbaf ∨ (lbaf = 1 ∧ ¬ s.on (R.STR_An_GEOM_META n.array)) then some (1, 0xA, true)
  else if ana = 4 then some (3, 1, true)
  else if ana = 3 then some (3, 2, false)
  else if ana = 15 then some (3, 3, false)
  else if resvBlocks s h.ctrl n.idx true then some (0, 0x83, true)
  else if formatting s n.idx then some (0, 0x84, false)
  else if sanitizing s then some (0, 0x1D, false)
  else if arrayBusy s n.array then some (0, 0xC, false)
  else none

/-- The namespaces that a Format names, in ascending index. -/
def formatTargets (s : State) (nsid : Nat) : List Ns :=
  if nsid = 0xFFFFFFFF then
    s.ns.foldl (fun l n => (l.filter fun x => x.idx < n.idx) ++ n :: l.filter fun x => ¬ x.idx < n.idx) []
  else (nsById s nsid).toList

/-- Format NVM is taken: checked against every namespace, then it waits for the commands outstanding. -/
def formatGo (h : IoHdr) (nsid lbaf ses : Nat) (s : State) : State :=
  let ts := formatTargets s nsid
  if 1 < ses then cqeSt h stField s
  else if ts.isEmpty ∧ nsid ≠ 0xFFFFFFFF then cqeSt h stNs s
  else match ts.findSome? fun n => formatRefusal s h n lbaf with
  | some e => cqeSt h e s
  | none =>
    if ts.isEmpty then cqeSt h stOk s
    else
      let idx := ts.map (·.idx)
      let j : FmtJob := ⟨some h, idx, lbaf, (s.ce.ctxs.filter fun c => idx.contains c.ns || c.nsid = 0xFFFFFFFF).map (·.id)⟩
      { s with ce.formats := s.ce.formats ++ [j], nv.progs := s.nv.progs ++ ts.map fun n => (⟨4, n.idx, 0, n.stripes, lbaf⟩ : Prog) }

/-- Stripes that one step deallocates. -/
def formatStep : Nat := 1024

/-- A namespace's Format ends: its LBA format, FORMAT_DONE, the event, the command where it was the last. -/
def formatEnd (p : Prog) (s : State) : State :=
  let s := progress 4 ((nsAt s p.ns).map (·.array) |>.getD 0) p.ns 2 s
  let up := fun l : List Ns => l.map fun n => if n.idx = p.ns then { n with lbaf := p.lbaf } else n
  let s := { s with nv.progs := s.nv.progs.filter (fun x => ¬ (x.kind = 4 && x.ns = p.ns)), ns := up s.ns, nv.nsTable := up s.nv.nsTable }
  let s := noticeNs (s.raise R.HPT_CE_INT_STATUS_FORMAT_DONE)
  let done := s.ce.formats.filter fun j => j.todo = [p.ns]
  let rest := (s.ce.formats.filter fun j => j.todo ≠ [p.ns]).map fun j =>
    if j.todo.head? = some p.ns then { j with todo := j.todo.tail } else j
  let s := { s with ce.formats := rest }
  s.each done fun s j => match j.h with
    | some h => cqeSt h stOk s
    | none => s

/-- Deallocate the next stripes of a running Format and record the progress. -/
def formatRun (p : Prog) (s : State) : State :=
  match nsAt s p.ns with
  | none => formatEnd p s
  | some n =>
    let cnt := min formatStep (p.total - p.done)
    let st := n.base + p.done
    if ¬ arrServes s n.array ∨ ¬ rangeIdle s n.array st cnt then s else
    let s := rangeGone n.array st cnt true s
    let p := { p with done := p.done + cnt }
    let s := { s with nv.progs := s.nv.progs.map fun (x : Prog) => if x.kind = 4 ∧ x.ns = p.ns then p else x }
    let s := progressDue 4 n.array p.ns s
    if p.total ≤ p.done then formatEnd p s else s

/-- The Format of a namespace may run: it is the next of its command's, and the commands that were outstanding on the namespace when it
arrived have ended; one resumed at Dawn (R159) belongs to no command. -/
def formatMay (s : State) (p : Prog) : Bool :=
  match s.ce.formats.find? fun j => j.todo.contains p.ns with
  | none => true
  | some j => j.todo.head? = some p.ns &&
      ¬ s.ce.ctxs.any fun c => j.wait.contains c.id && (c.ns = p.ns || c.nsid = 0xFFFFFFFF)

/-- FORMAT_PROGRESS_STEP: the first Format that may run goes on. -/
def doFormatProgressStep (s : State) : State :=
  if ¬ bgOk s then s else
  match s.nv.progs.find? fun p => p.kind = 4 && formatMay s p with
  | some p => formatRun p s
  | none => s

/-! ### Sanitize -/

/-- States in which a Sanitize is refused (Table 6.4). -/
def saniSeqErr (s : State) : Bool :=
  s.nv.progs.any (fun p => p.kind = 4) || ¬ s.ce.formats.isEmpty ||
  (List.range 16).any fun a => arrOn s a && (arrayBusy s a || arrState s a = aFailed || arrState s a = aOffline)

/-- Units of work of one Sanitize: arrays for Block Erase, namespace stripes times passes for Overwrite. -/
def saniTotal (s : State) (x : Sani) : Nat := if x.action = 2 then 16 else max 1 ((s.ns.map (·.stripes)).sum * x.passes)

/-- Units done. -/
def saniDone (s : State) (x : Sani) : Nat := if x.action = 2 then x.arr else x.pass * (s.ns.map (·.stripes)).sum + x.st

/-- SANITIZING, SSTAT, ACTION and SPROG. -/
def saniRegs (s : State) : State :=
  let s := (s.wr R.HPT_CE_STATUS_SANITIZING (b2n (s.nv.sani.isSome || s.nv.saniFail))).wr R.HPT_CE_SANI_SSTAT s.nv.saniStat
  let s := s.wr R.HPT_CE_SANI_ACTION s.nv.saniAct
  match s.nv.sani with
  | some x => s.wr R.HPT_CE_SANI_SPROG (min 65535 (saniDone s x * 65536 / saniTotal s x))
  | none => s

/-- A Sanitize starts; I/O commands outstanding end with Sanitize In Progress. -/
def saniStart (h : IoHdr) (x : Sani) (s : State) : State :=
  if s.nv.sani.isSome then cqeSt h (0, 0x1D, false) s
  else if saniSeqErr s then cqeSt h (0, 0xC, false) s
  else
    let s := { s with
      nv.sani := some x, nv.saniStat := 2, nv.saniAct := x.action, nv.saniFail := false,
      nv.progs := s.nv.progs ++ [(⟨5, 0, 0, 0, 0⟩ : Prog)] }
    let s := s.each s.ce.ctxs fun s c => finishCtx c (0, 0x1D, false) [] s
    let s := { s with nv.progs := s.nv.progs.map fun (p : Prog) => if p.kind = 5 then { p with total := saniTotal s x } else p }
    cqeSt h stOk (saniRegs s)

/-- The drives that Sanitize covers: members and ready spares. -/
def saniDrives (s : State) : List Nat :=
  (List.range 16).flatMap (fun a => if arrOn s a then
    ((List.range (memN s a)).filter fun m => ¬ missing s a m).map (memDrv s a) else []) ++
  ((List.range 8).filter fun k => s.on (R.STR_SPAREk_VALID k) && s.rd (R.STR_SPAREk_SPARE_STATE k) = 1).map (spareDrv s)

/-- Sanitize Block Erase goes to every member and spare; every spare's blocks are erased. -/
def eraseDrives (s : State) : State :=
  let s := s.each (saniDrives s) fun s d =>
    (s.modDrive d fun x => { x with sanitized := x.sanitized + 1 }).emit (.drive d 2 [])
  s.each ((List.range 8).filter fun k => s.on (R.STR_SPAREk_VALID k) && s.rd (R.STR_SPAREk_SPARE_STATE k) = 1) fun s k =>
    s.modDrive (spareDrv s k) fun x => { x with media := [], bad := [] }

/-- The whole block of an Overwrite pattern: 4,096 bytes of a 32-bit pattern, metadata zero. -/
def patternBlock (v : Nat) : Block :=
  let d (w n : Nat) : Nat := n * 2 ^ w + n
  BitVec.ofNat _ (d 16384 (d 8192 (d 4096 (d 2048 (d 1024 (d 512 (d 256 (d 128 (d 64 (d 32 (v % 2 ^ 32)))))))))))

/-- The `i`-th namespace stripe of the device: array and stripe. -/
def nthStripe : List Ns → Nat → Option (Nat × Nat)
  | [], _ => none
  | n :: ns, i => if i < n.stripes then some (n.array, n.base + i) else nthStripe ns (i - n.stripes)

/-- One full-stripe write of a block everywhere, under a FULL INTENT, within one step. -/
def fillStripe (a st : Nat) (v : Block) (s : State) : State :=
  let b := strB s a
  let q := s.jrn.nextSeq
  let s := regionMark a st (openStripe a st 0 0 b (maskOf (writeMembers s a st)) 0 0 0xFF 0xFF s)
  let ds := List.replicate (dataN s a) v
  let s := s.each (List.range b) fun s k => s.each (columnWrites s a st k ds) fun s w => memberWrite a w.1 st w.2.1 w.2.2 s
  let s := engineStep a st b (dataN s a) (clearLost a st (discardStripe a st (stripeGone a st s)))
  setVerified a st (closeStripe a st q 0 s)

/-- A Sanitize ends successfully. -/
def saniEnd (s : State) : State :=
  let s := progress 5 0 0 2 s
  let s := { s with nv.sani := none, nv.saniStat := 1, nv.progs := s.nv.progs.filter fun p => p.kind ≠ 5 }
  let s := s.each (s.ce.ctrls.filter fun c => c.rdy) fun s c => postAen c.id (6 + 256 + 0x81 * 65536) s
  (saniRegs s).raise R.HPT_CE_INT_STATUS_SANITIZE_DONE

/-- Progress of a Sanitize is kept. -/
def saniKeep (x : Sani) (s : State) : State :=
  let s := { s with nv.sani := some x, nv.progs := s.nv.progs.map fun (p : Prog) => if p.kind = 5 then { p with done := saniDone s x } else p }
  saniRegs (progressDue 5 0 0 s)

/-- SANITIZE_PROGRESS_STEP: one array of a Block Erase, or one stripe of an Overwrite pass. -/
def doSanitizeProgressStep (s : State) : State :=
  match s.nv.sani with
  | none => s
  | some x =>
    if ¬ bgOk s then s
    else if x.action = 2 then
      if 16 ≤ x.arr then saniEnd s
      else if arrOn s x.arr then
        if ¬ rangeIdle s x.arr 0 (s.arr x.arr).stripes then s
        else
          let s := if x.arr = 0 then eraseDrives s else s
          saniKeep { x with arr := x.arr + 1 } (rangeGone x.arr 0 (s.arr x.arr).stripes true s)
      else saniKeep { x with arr := x.arr + 1 } (if x.arr = 0 then eraseDrives s else s)
    else
      match nthStripe s.ns x.st with
      | some (a, st) =>
        if ¬ arrServes s a ∨ ¬ lockFree s a st then s
        else
          let v := if x.invert ∧ x.pass % 2 = 1 then 2 ^ 32 - 1 - x.pattern % 2 ^ 32 else x.pattern
          saniKeep { x with st := x.st + 1 } (fillStripe a st (patternBlock v) s)
      | none =>
        if x.passes ≤ x.pass + 1 then saniEnd s else saniKeep { x with pass := x.pass + 1, st := 0 } s

/-- Sanitize Block Erase. -/
def saniErase (h : IoHdr) (ok : Bool) (s : State) : State :=
  if ¬ ok then cqeSt h stField s else saniStart h ⟨2, 1, false, 0, 0, 0, 0⟩ s

/-- Sanitize Overwrite; OWPASS 0 means 16 passes. -/
def saniOverwrite (h : IoHdr) (owpass : Nat) (inv : Bool) (pat : Nat) (s : State) : State :=
  if 15 < owpass then cqeSt h stField s
  else saniStart h ⟨3, if owpass = 0 then 16 else owpass, inv, pat, 0, 0, 0⟩ s

/-- Exit Failure Mode. -/
def saniExit (h : IoHdr) (s : State) : State :=
  if s.nv.saniFail then cqeSt h stOk (saniRegs { s with nv.saniFail := false }) else cqeSt h (0, 0xC, false) s

def execFormatProgressStep (s : State) : Out := live s (doFormatProgressStep s)
def execSanitizeProgressStep (s : State) : Out := live s (doSanitizeProgressStep s)

end Sys2Proof.Machine
end

