-- ==== Sys2Proof/Machine/Resv.lean ====
section
/-! DEFINITION. The reservation commands (R163) with the meaning that the NVMe base specification gives them for the
values of RESCAP that R165 fixes: six types, no persistence through power loss. -/

namespace Sys2Proof.Machine

/-- Replace a namespace's reservation. -/
def putResv (r : NsResv) (s : State) : State :=
  { s with ce.resvs := r :: s.ce.resvs.filter fun x => x.ns ≠ r.ns }

/-- A reservation command, which completes within one step: it takes its context and, where the checks of Table 6.2 pass in their order,
acts. `bad` says that a field value is not allowed, `conflict` that the namespace's reservation refuses it. -/
def ioNow (h : IoHdr) (nsid : Nat) (bad : Bool) (conflict : NsResv → Nat → Bool) (f : Ns → State → State) (s : State) : State :=
  if ¬ ioOpen s h then s else
  let s := s.modQueue h.ctrl h.q fun q => { q with
    fetched := q.fetched - 1, arrivals := q.arrivals + 1, completed := q.completed + 1 }
  let err := if bad then some stField else match nsById s nsid with
    | none => some stNs
    | some ns =>
      match anaState s ns.array with
      | 4 => some (3, 1, true)
      | 3 => some (3, 2, false)
      | 15 => some (3, 3, false)
      | _ => if conflict (resvOf s ns.idx) (hostOf s h.ctrl) then some (0, 0x83, true)
        else if formatting s ns.idx then some (0, 0x84, false) else if sanitizing s then some (0, 0x1D, false) else none
  let s := match err, nsById s nsid with
    | some e, _ => cqeSt h e s
    | none, some ns => f ns s
    | none, none => s
  creditBack h { s with ce.cmdsEpoch := s.ce.cmdsEpoch + 1 }

/-- The key a host has registered. -/
def keyOf (r : NsResv) (host : Nat) : Option Nat := (r.regs.find? fun p => p.1 = host).map (·.2)

/-- The host holds the reservation: its holder, or any registrant of an all-registrants type. -/
def holdsResv (r : NsResv) (host : Nat) : Bool :=
  r.rtype ≠ 0 && (if r.rtype = 5 ∨ r.rtype = 6 then (keyOf r host).isSome else r.holder = host)

/-- Reservation types with registrants (3 to 6). -/
def sharedType (t : Nat) : Bool := decide (3 ≤ t) && decide (t ≤ 6)

/-- The mask of reservation notices of a controller for a namespace (feature 82h): the one set for it, else 0. -/
def resvMask (c : Ctrl) (ns : Nat) : Nat := ((c.features.find? fun f => f.1 = 0x82 + 256 * (ns + 1)).map (·.2)).getD 0

/-- Notices to registrants other than `host`: 1 registration preempted, 2 reservation released, 3 reservation
preempted; an asynchronous event follows where the host's mask (feature 82h) lets it. -/
def resvNotice (kind : Nat) (hosts : List Nat) (ns : Nat) (s : State) : State :=
  let r := resvOf s ns
  let s := putResv { r with notices := r.notices ++ hosts.map fun x => (x, kind) } s
  s.each (s.ce.ctrls.filter fun c => hosts.contains c.hostId && ¬ bit (resvMask c ns) kind) fun s c =>
    postAen c.id (6 + 0x80 * 65536) s

/-- Registrants other than a host. -/
def othersOf (r : NsResv) (host : Nat) : List Nat := (r.regs.map (·.1)).filter (· ≠ host)

/-- Remove a host's registration; the reservation it holds is released with it. -/
def unregister (host : Nat) (r : NsResv) : NsResv :=
  let regs := r.regs.filter fun p => p.1 ≠ host
  let gone := if r.rtype = 5 ∨ r.rtype = 6 then regs.isEmpty else r.holder = host
  if gone ∧ r.rtype ≠ 0 then { r with regs := regs, holder := 0, rtype := 0 } else { r with regs := regs }

/-- RESERVATION_REGISTER. -/
def doReservationRegister (h : IoHdr) (nsid act : Nat) (iekey : Bool) (crkey nrkey cptpl : Nat) (s : State) : State :=
  let conflict := fun r host => match act, keyOf r host with
    | 0, some k => k ≠ nrkey
    | 0, none => false
    | _, some k => ¬ iekey && k ≠ crkey
    | _, none => true
  ioNow h nsid (decide (2 < act) || cptpl = 1 || cptpl = 3) conflict (fun ns s =>
    let r := resvOf s ns.idx
    let host := hostOf s h.ctrl
    let known := (keyOf r host).isSome
    let r := { r with gen := r.gen + 1 }
    match act with
    | 0 => if known then cqeSt h stOk s else cqeSt h stOk (putResv { r with regs := r.regs ++ [(host, nrkey)] } s)
    | 1 =>
      let r' := unregister host r
      let s := putResv r' s
      let s := if r.rtype ≠ 0 ∧ r'.rtype = 0 ∧ sharedType r.rtype then resvNotice 2 (othersOf r host) ns.idx s else s
      cqeSt h stOk s
    | _ => cqeSt h stOk (putResv { r with regs := (r.regs.filter fun p => p.1 ≠ host) ++ [(host, nrkey)] } s)) s

/-- Preempt (R163): registrations with PRKEY go; the holder's key, or key 0 of an all-registrants type, takes the
reservation. -/
def preempt (h : IoHdr) (ns : Ns) (rtype prkey : Nat) (s : State) : State :=
  let r := resvOf s ns.idx
  let host := hostOf s h.ctrl
  let all := r.rtype = 5 ∨ r.rtype = 6
  let victims := if all ∧ prkey = 0 then othersOf r host else (r.regs.filter fun p => p.2 = prkey && p.1 ≠ host).map (·.1)
  let takes := r.rtype ≠ 0 ∧ (if all then prkey = 0 else keyOf r r.holder = some prkey)
  if r.rtype ≠ 0 ∧ ¬ takes ∧ prkey = 0 then cqeSt h stField s
  else
    let r' : NsResv := { r with gen := r.gen + 1, regs := r.regs.filter fun p => ¬ victims.contains p.1 }
    let s := putResv (if takes then { r' with holder := host, rtype := rtype } else r') s
    let s := resvNotice 1 victims ns.idx s
    let s := if takes ∧ r.rtype ≠ rtype ∧ sharedType r.rtype then
        resvNotice 3 ((othersOf r host).filter fun x => ¬ victims.contains x) ns.idx s
      else s
    cqeSt h stOk s

/-- A preempt that neither takes the reservation nor names a registered key (R163). -/
def preemptIdle (r : NsResv) (prkey : Nat) : Bool :=
  let all := r.rtype = 5 || r.rtype = 6
  let takes := r.rtype ≠ 0 && (if all then prkey = 0 else keyOf r r.holder = some prkey)
  ¬ takes && ¬ (r.rtype ≠ 0 && prkey = 0) && ¬ r.regs.any (fun p => p.2 = prkey)

/-- RESERVATION_ACQUIRE: acquire, preempt, preempt and abort. -/
def doReservationAcquire (h : IoHdr) (nsid act rtype crkey prkey : Nat) (iekey : Bool) (s : State) : State :=
  let conflict := fun r host => keyOf r host ≠ some crkey ||
    (if act = 0 then r.rtype ≠ 0 && ¬ (holdsResv r host && r.rtype = rtype) else preemptIdle r prkey)
  ioNow h nsid (decide (2 < act) || rtype = 0 || decide (6 < rtype) || iekey) conflict (fun ns s =>
    let r := resvOf s ns.idx
    let host := hostOf s h.ctrl
    match act with
    | 0 => if r.rtype = 0 then cqeSt h stOk (putResv { r with holder := host, rtype := rtype } s) else cqeSt h stOk s
    | _ => preempt h ns rtype prkey s) s

/-- RESERVATION_RELEASE: release, clear. -/
def doReservationRelease (h : IoHdr) (nsid act rtype crkey : Nat) (iekey : Bool) (s : State) : State :=
  ioNow h nsid (decide (1 < act) || iekey) (fun r host => keyOf r host ≠ some crkey) (fun ns s =>
    let r := resvOf s ns.idx
    let host := hostOf s h.ctrl
    match act with
    | 0 =>
      if ¬ holdsResv r host then cqeSt h stOk s
      else if r.rtype ≠ rtype then cqeSt h stField s
      else
        let s := putResv { r with holder := 0, rtype := 0 } s
        cqeSt h stOk (if sharedType rtype then resvNotice 2 (othersOf r host) ns.idx s else s)
    | _ =>
      let s := putResv { r with holder := 0, rtype := 0, regs := [], gen := r.gen + 1 } s
      cqeSt h stOk (resvNotice 3 (othersOf r host) ns.idx s)) s

/-- RESERVATION_REPORT: generation, type, registered controllers, persistence 0, then controller, holder, host and key of
each registrant. -/
def doReservationReport (h : IoHdr) (nsid : Nat) (s : State) : State :=
  ioNow h nsid false (fun _ _ => false) (fun ns s =>
    let r := resvOf s ns.idx
    let rows := r.regs.flatMap fun p =>
      [((s.ce.ctrls.find? fun c => c.hostId = p.1).map (·.id)).getD 0xFFFF, b2n (holdsResv r p.1), p.1, p.2]
    cqeInfo h ([r.gen, r.rtype, r.regs.length, 0] ++ rows) s) s

def execReservationRegister (h : IoHdr) (nsid act : Nat) (iekey : Bool) (crkey nrkey cptpl : Nat) (s : State) : Out :=
  live s (doReservationRegister h nsid act iekey crkey nrkey cptpl s)
def execReservationReport (h : IoHdr) (nsid : Nat) (s : State) : Out := live s (doReservationReport h nsid s)
def execReservationAcquire (h : IoHdr) (nsid act rtype crkey prkey : Nat) (iekey : Bool) (s : State) : Out :=
  live s (doReservationAcquire h nsid act rtype crkey prkey iekey s)
def execReservationRelease (h : IoHdr) (nsid act rtype crkey : Nat) (iekey : Bool) (s : State) : Out :=
  live s (doReservationRelease h nsid act rtype crkey iekey s)

end Sys2Proof.Machine
end

