-- ==== Sys2Proof/Machine/Windsock.lean ====
section
/-! DEFINITION. The Windsock store (spec/14_windsock_recorder.md): words, gauges, records, the commit word, clears,
reinitialisation and reads. -/

namespace Sys2Proof.Machine

/-! ### The store (R341, R342, R418) -/

/-- UNIT of a gauge (Table 14.4). -/
def gaugeUnit (g : Nat) : Nat :=
  if g ≤ 4 ∨ g = 10 ∨ g = 11 ∨ (16 ≤ g ∧ g ≤ 79) then 1
  else if g = 7 then 4 else if g = 9 ∨ (116 ≤ g ∧ g ≤ 121) then 3 else if g = 12 then 5
  else if g = 14 ∨ (96 ≤ g ∧ g ≤ 111) then 6 else 0

/-- DEFINED of a gauge. -/
def gaugeDefined (g : Nat) : Bool := decide (g ≤ 121)

/-- Word 0 of gauge `g` with a GEN: GEN, ID, UNIT, FLAGS (Table 14.3). -/
def gaugeWord0 (g gen : Nat) : Nat := gen % 2 ^ 32 + g * 2 ^ 32 + gaugeUnit g * 2 ^ 48 + b2n (gaugeDefined g) * 2 ^ 56

/-- The word index of the area header. -/
def wskHdr : Nat := 8192

/-- Contents of a word when the device leaves manufacture (R418). -/
def wskFactory (w : Nat) : Nat :=
  if w < wskHdr then (if w % 32 = 0 then gaugeWord0 (w / 32) 0 else if w % 32 = 2 then 0xFFFFFFFF else 0)
  else if w = wskHdr then 0x4B534457 + 2 ^ 32
  else if w = wskHdr + 1 then 0xFFFF * 2 ^ 48
  else 0

/-- A word of the store. -/
def wskGet (s : State) (w : Nat) : Nat := SMap.get 0 w s.nv.wsk ^^^ wskFactory w

/-- Write a word of the store; it replaces an unreadable word. -/
def wskSet (w v : Nat) (s : State) : State :=
  { s with nv.wsk := SMap.set 0 w ((v % 2 ^ 64) ^^^ wskFactory w) s.nv.wsk, wsk.bad := s.wsk.bad.filter (· ≠ w) }

/-- Write consecutive words. -/
def wskSets (w : Nat) (vs : List Nat) (s : State) : State :=
  s.each ((List.range vs.length).zip vs) fun s p => wskSet (w + p.1) p.2 s

/-- Bytes of the store from an offset. -/
def wskBytes (s : State) (off len : Nat) : List Nat :=
  (rangeFrom off len).map fun o => wskGet s (o / 8) / 256 ^ (o % 8) % 256

/-- A read of these bytes covers an unreadable word. -/
def wskBad (s : State) (off len : Nat) : Bool := s.wsk.bad.any fun w => decide (off < 8 * w + 8) && decide (8 * w < off + len)

/-- Bytes as 64-bit words, the last filled with zeros. -/
def wordsOf : Nat → List Nat → List Nat
  | 0, _ => []
  | n + 1, bs => leNat (bs.take 8) :: wordsOf n (bs.drop 8)

/-- NEXT_SEQ, HEAD and TAIL of the commit word. -/
def wskNext (s : State) : Nat := wskGet s (wskHdr + 1) % 2 ^ 32
def wskHead (s : State) : Nat := bits (wskGet s (wskHdr + 1)) 32 16
def wskTail (s : State) : Nat := bits (wskGet s (wskHdr + 1)) 48 16

/-- The WSK registers that show the store. -/
def wskRegs (s : State) : State :=
  let s := (s.wr R.WSK_COMMIT_LO_NEXT_SEQ (wskNext s)).wr R.WSK_COMMIT_HI_HEAD (wskHead s)
  let s := (s.wr R.WSK_COMMIT_HI_TAIL (wskTail s)).wr R.WSK_STATUS_STAGING (b2n s.wsk.staged.isSome)
  let rolled := decide (4080 < wskHead s) || wskTail s ≠ 0xFFFF || (s.wsk.staged.map (·.unit)).any fun u => decide (4080 ≤ u)
  (s.wr R.WSK_STATUS_FIXED_FULL (b2n rolled)).wr R.WSK_STATUS_WRAPPED (b2n (wskTail s ≠ 0xFFFF))

/-- Write the commit word once. -/
def wskCommit (next head tail : Nat) (s : State) : State :=
  wskRegs { wskSet (wskHdr + 1) (next % 2 ^ 32 + head * 2 ^ 32 + tail * 2 ^ 48) s with wsk.nextSeqCopy := next % 2 ^ 32 }

/-- The header's MAGIC and VERSION are valid. -/
def wskValid (s : State) : Bool := wskGet s wskHdr % 2 ^ 48 = 0x4B534457 + 2 ^ 32 && ¬ s.wsk.bad.contains wskHdr

/-! ### Gauges (R343, R345) -/

/-- Add two saturating counts. -/
def satAdd (w a b : Nat) : Nat := min (a + b) (2 ^ w - 1)

/-- The 24 words of a gauge after the samples of a working copy (words 24 to 31 stay 0). -/
def gaugeMerge (s : State) (x : Gauge) : List Nat :=
  let b := 32 * x.id
  let w := fun i => wskGet s (b + i)
  let n := w 1
  let mn := w 2 % 2 ^ 32
  let mx := w 2 / 2 ^ 32
  let lower := n = 0 || decide (x.min < mn)
  let upper := n = 0 || decide (mx < x.max)
  let bin := fun k => satAdd 32 (bits (w (8 + k / 2)) (32 * (k % 2)) 32) ((x.bins.filter fun p => p.1 = k).map (·.2)).sum
  [gaugeWord0 x.id (w 0 % 2 ^ 32 + 2), satAdd 64 n x.samples,
    (if lower then x.min else mn) + (if upper then x.max else mx) * 2 ^ 32,
    if lower then x.minE else w 3, if upper then x.maxE else w 4, satAdd 64 (w 5) x.sum, 0, 0] ++
  (List.range 16).map fun i => bin (2 * i) + bin (2 * i + 1) * 2 ^ 32

/-- Every gauge that took a sample goes to the store (R345): GEN odd, the body, GEN even. -/
def gaugeStore (s : State) : State :=
  let s := s.each s.wsk.gauges fun s x =>
    let vs := gaugeMerge s x
    let s := wskSet (32 * x.id) (gaugeWord0 x.id (wskGet s (32 * x.id) % 2 ^ 32 + 1)) s
    wskSets (32 * x.id) vs s
  { s with wsk.gauges := [] }

/-- Clear every gauge: counts zero, GEN up by 2 (R356). -/
def gaugesClear (s : State) : State :=
  let s := s.each (List.range 256) fun s g =>
    let gen := wskGet s (32 * g) % 2 ^ 32 + 2
    wskSets (32 * g) ([gaugeWord0 g gen, 0, 0xFFFFFFFF] ++ List.replicate 29 0) s
  { s with wsk.gauges := [] }

/-! ### Records (R346, R347, R350, R351) -/

/-- The first word of unit `u`. -/
def unitWord (u : Nat) : Nat := 8224 + 2 * u

/-- The second word of a record: EPOCH high, CODE, LENGTH, SOURCE, REPEAT (bytes 8 to 15). -/
def recWord1 (epoch code len source rep : Nat) : Nat :=
  epoch / 2 ^ 32 % 2 ^ 16 + code * 2 ^ 16 + len * 2 ^ 32 + source * 2 ^ 40 + rep * 2 ^ 48

/-- Write a record at a unit. -/
def recWrite (u seq epoch code len source rep : Nat) (payload : List Nat) (s : State) : State :=
  wskSets (unitWord u) ([seq % 2 ^ 32 + epoch % 2 ^ 32 * 2 ^ 32, recWord1 epoch code len source rep] ++
    wordsOf (2 * (len - 1)) payload) s

/-- Units of a record with this payload. -/
def recUnits (payload : List Nat) : Nat := 1 + (payload.length + 15) / 16

/-- LENGTH of the record at unit `u`. -/
def recLen (s : State) (u : Nat) : Nat := max 1 (bits (wskGet s (unitWord u + 1)) 32 8)

/-- The first record start at or beyond unit `lim`, walking from `u` (R351 step 2). -/
def tailWalk (s : State) (lim : Nat) : Nat → Nat → Nat
  | 0, u => u
  | n + 1, u => if 61424 ≤ u then 4080 else if lim ≤ u then u else tailWalk s lim n (u + recLen s u)

/-- Placement and room (R351 steps 1 and 2) for `k` units: HEAD and TAIL, with PAD and the causes raised. -/
def wskPlace (k : Nat) (s : State) : State :=
  let h := wskHead s
  let seq := wskNext s
  let fin := if h < 4080 then 4080 else 61424
  let pad := h ≠ 4080 && decide (fin < h + k)
  let s := if pad ∧ h < fin then recWrite h seq 0 0 (fin - h) 0 1 [] s else s
  let wraps := pad && 4080 < h
  let h' := if pad then 4080 else h
  let s := if 4080 ≤ h' ∧ h ≤ 4080 ∧ wskTail s = 0xFFFF then s.raise R.WSK_INT_STATUS_FIXED_FULL else s
  let t := wskTail s
  let s := if wraps ∧ t = 0xFFFF then s.raise R.WSK_INT_STATUS_WRAPPED else s
  let t := if wraps ∧ (t = 0xFFFF ∨ h ≤ t) then 4080 else t
  let t := if t ≠ 0xFFFF ∧ h' ≤ t ∧ t < h' + k then tailWalk s (h' + k) 64 t else t
  wskCommit seq h' t s

/-- Open a record: place it and stage it (R351 steps 1 to 3). -/
def recOpen (code source orig epoch : Nat) (payload : List Nat) (s : State) : State :=
  let k := min 16 (recUnits payload)
  let s := wskPlace k s
  let h := wskHead s
  let s := recWrite h (wskNext s) epoch code k source 1 payload s
  wskRegs { s with wsk.staged := some ⟨h, k, code, source, orig, 1⟩ }

/-- An event matches a record (R350). -/
def recMatches (e : WEv) (r : WStage) : Bool :=
  r.source = e.source && (r.code = e.code || (r.code = 1 && r.orig = e.code))

/-- Rewrite REPEAT of a record, and with it the whole word that holds it. -/
def recRepeat (r : WStage) (s : State) : State :=
  let w := unitWord r.unit + 1
  wskSet w (wskGet s w % 2 ^ 48 + r.count * 2 ^ 48) s

/-- The recorder takes one event (R350). -/
def wskTake (e : WEv) (s : State) : State :=
  let last := match s.wsk.staged with
    | some r => some r
    | none => s.wsk.last
  match last with
  | some r =>
    if recMatches e r then
      if r.count < 65535 then
        let r := { r with count := r.count + 1 }
        let s := recRepeat r s
        if s.wsk.staged.isSome then { s with wsk.staged := some r } else { s with wsk.last := some r }
      else recOpen 1 e.source e.code e.epoch (leBytes 2 e.code) s
    else recOpen e.code e.source 0 e.epoch e.payload s
  | none => recOpen e.code e.source 0 e.epoch e.payload s

/-- An event can be taken now: the MRAM check has passed (R352), no clear runs, and no record that it does not match, or
whose REPEAT is full, is staged. -/
def wskCanTake (s : State) (e : WEv) : Bool :=
  decide (8 ≤ s.dwn.step) && s.wsk.clearing.isNone &&
  match s.wsk.staged with
  | some r => recMatches e r && decide (r.count < 65535)
  | none => true

/-- WORST_CODE follows a committed record (R349). -/
def wskWorst (code seq : Nat) (s : State) : State :=
  if code ≤ 1 then s
  else if s.wsk.worst / 2 ^ 14 ≤ code / 2 ^ 14 then { s with wsk.worst := code, wsk.worstSeq := seq } else s

/-- The staged record commits (R351 step 4). -/
def recCommit (r : WStage) (s : State) : State :=
  let seq := wskNext s
  let s := { s with wsk.staged := none, wsk.last := some r }
  let s := wskCommit (seq + 1) (wskHead s + r.units) (wskTail s) s
  let s := (s.wr R.WSK_LAST_SEQ_SEQ seq).raise R.WSK_INT_STATUS_RECORD
  let s := if r.code / 2 ^ 14 = 3 then s.raise R.WSK_INT_STATUS_ERROR_RECORD else s
  -- a SUMMARY is due within 16 epochs of a record that is not REPEAT_CONT (R287)
  let by_ := if r.code = 1 then s.str.summaryBy else some (s.str.summaryBy.getD (s.tet.epoch + 16))
  wskWorst r.code seq { s with str.newRecs := s.str.newRecs + 1, str.summaryBy := by_ }

/-! ### Clears and reinitialisation (R352, R356) -/

/-- Count up a 32-bit half of header word 3 (CLEARS low, GAUGE_CLEARS high). -/
def wskCount (clears gauges : Bool) (s : State) : State :=
  let w := wskGet s (wskHdr + 3)
  wskSet (wskHdr + 3) ((w % 2 ^ 32 + b2n clears) % 2 ^ 32 + (w / 2 ^ 32 + b2n gauges) % 2 ^ 32 * 2 ^ 32) s

/-- Clear the records: HEAD 0, TAIL 0xFFFF, NEXT_SEQ unchanged, CLEAR_EPOCH; no later event increments a record from
before. -/
def recordsClear (s : State) : State :=
  let s := wskSet (wskHdr + 2) s.tet.epoch s
  wskCommit (wskNext s) 0 0xFFFF { s with wsk.last := none, wsk.worst := 0, wsk.worstSeq := 0 }

/-- Carry out a clear (SCOPE 1 gauges, 2 records, 3 both) and stage CLEARED with the token's slot. -/
def wskClearNow (scope slot : Nat) (s : State) : State :=
  let s := if bit scope 0 then wskCount false true (gaugesClear s) else s
  let s := if bit scope 1 then wskCount true false (recordsClear s) else s
  recOpen 2 0 0 s.tet.epoch [scope, slot] s

/-- Reinitialise the store (R352). The held events follow the CLEARED record. -/
def wskReinit (s : State) : State :=
  let good := wskValid s && ¬ s.wsk.bad.contains (wskHdr + 3)
  let counts := if good then wskGet s (wskHdr + 3) else 0
  let next := s.wsk.nextSeqCopy
  let s := gaugesClear { s with wsk.staged := none }
  let s := wskSet (wskHdr + 3) counts (wskSet wskHdr (0x4B534457 + 2 ^ 32) s)
  let s := wskCount true true (recordsClear s)
  let s := (wskCommit next 0 0xFFFF s).raise R.WSK_INT_STATUS_REINIT
  recOpen 2 0 0 s.tet.epoch [3, 0xFF] s

/-! ### Rows of the recorder -/

/-- GAUGE_STORE_WRITE: at the boundaries where epoch mod 16 = 0. -/
def doGaugeStoreWrite (s : State) : State := if s.tet.epoch % 16 = 0 ∧ s.wsk.clearing.isNone then gaugeStore s else s

/-- WSK_EVENT: the recorder takes the next event of its queue. -/
def doWskEvent (s : State) : State :=
  match s.wsk.queue with
  | [] => s
  | e :: q => if wskCanTake s e then wskTake e { s with wsk.queue := q } else s

/-- WSK_QUEUE_ROOM: a producer that waited puts its event into the queue. -/
def doWskQueueRoom (s : State) : State :=
  match s.wsk.blocked with
  | [] => s
  | e :: q =>
    if s.wsk.queue.length < wskQueueMax then
      let s := { s with wsk.queue := s.wsk.queue ++ [e], wsk.blocked := q }
      s.wr R.WSK_QUEUE_PEAK (max (s.rd R.WSK_QUEUE_PEAK) s.wsk.queue.length)
    else s

/-- WSK_CLR_ERR. -/
def doWskClrErr (s : State) : State := s.wr R.WSK_STATUS_LAST_ERR 0

/-- WSK_WINDOW_WRITE: dropped and counted in GLB_ERR.UNMAPPED (R354). -/
def doWskWindowWrite (_link : Nat) (s : State) : State := s.incSat R.GLB_ERR_UNMAPPED

def execGaugeStoreWrite (s : State) : Out := live s (doGaugeStoreWrite s)
def execWskEvent (s : State) : Out := live s (doWskEvent s)
def execWskQueueRoom (s : State) : Out := live s (doWskQueueRoom s)
def execWskClrErr (s : State) : Out := live s (doWskClrErr s)
def execWskWindowWrite (link : Nat) (s : State) : Out := live s (doWskWindowWrite link s)

end Sys2Proof.Machine
end

