-- ==== Sys2Proof/Machine/LogPages.lean ====
section
/-! DEFINITION. The log pages of Table 6.9 with the discovery log (R240), as bytes, and the Identify data (Tables 6.6
and 6.7). Layouts that this spec leaves to the NVMe base specification follow it. -/

namespace Sys2Proof.Machine

/-- Zero bytes. -/
def zeros (n : Nat) : List Nat := List.replicate n 0

/-- Text as bytes. -/
def text (t : String) : List Nat := t.toList.map Char.toNat

/-- Bytes cut or filled with zeros to a length. -/
def fitTo (n : Nat) (bs : List Nat) : List Nat := bs.take n ++ zeros (n - bs.length)

/-- A number in decimal digits. -/
def decimal (n : Nat) : List Nat := (Nat.toDigits 10 n).map Char.toNat

/-! ### Log pages -/

/-- 01h: one entry of 64 bytes per error, newest first. -/
def logErrors (s : State) (c : Nat) : List Nat :=
  fitTo 16384 ((s.ce.errs.filter fun e => e.1 = c).flatMap fun e =>
    leBytes 8 e.2.1 ++ leBytes 2 e.2.2.1 ++ leBytes 2 e.2.2.2.1 ++ leBytes 2 e.2.2.2.2 ++ zeros 50)

/-- Tj in kelvin. -/
def tjKelvin (s : State) : Nat :=
  let tj := s.rd R.PWR_THERM_TJ
  if tj < 128 then tj + 273 else tj + 273 - 256

/-- The critical warning bits of R167; the temperature by the thresholds of feature 04h. -/
def smartWarn (s : State) (c : Option Ctrl) : Nat :=
  let on := (List.range 16).filter (arrOn s)
  let b0 := on.any fun a => (arrState s a = aDegraded || arrState s a = aCritical) &&
    (missMembers s a).any fun m => ¬ hasTargetFor s a m
  let feat := fun k d => ((c.bind fun x => x.features.find? fun f => f.1 = k).map (·.2)).getD d
  let b1 := decide (feat 4 373 ≤ tjKelvin s) || decide (tjKelvin s ≤ feat 0x104 0)
  let b2 := on.any fun a => arrState s a = aCritical || ¬ (s.arr a).lost.isEmpty
  let b4 := s.rd R.BAL_STATUS_STATE ≠ 1
  b2n b0 + 2 * b2n b1 + 4 * b2n b2 + 16 * b2n b4
where
  hasTargetFor (s : State) (a m : Nat) : Bool :=
    (slotOf s a m).isSome || ((s.arr a).waiting.any fun p => p.1 = m) || ((s.arr a).taken.any fun p => p.1 = m)

/-- Percentage used: the highest of the members' own figures. -/
def usedPercent (s : State) : Nat :=
  ((List.range 16).filter (arrOn s)).foldl (fun m a => (List.range (memN s a)).foldl (fun m k =>
    if missing s a k then m else max m (((driveAt s (memDrv s a k)).map (·.desc.used)).getD 0)) m) 0

/-- 02h. -/
def logSmart (s : State) (c : Nat) : List Nat :=
  let x := ctrlOf s c
  let du := fun n => (n * 8 + 999) / 1000
  [smartWarn s x] ++ leBytes 2 (tjKelvin s) ++ [100, 0, min 255 (usedPercent s)] ++ zeros 26 ++
  leBytes 16 (du ((x.map (·.rdBlk)).getD 0)) ++ leBytes 16 (du ((x.map (·.wrBlk)).getD 0)) ++
  leBytes 16 ((x.map (·.rdCmd)).getD 0) ++ leBytes 16 ((x.map (·.wrCmd)).getD 0) ++ zeros 416

/-- 03h: active slot, slot at the next Dawn, revisions of slots 1 and 2. -/
def logFirmware (s : State) : List Nat :=
  let act := s.rd R.DWN_STATUS_IMAGE_SLOT
  let rev := fun i : Option Image => leBytes 8 ((i.map (·.version)).getD 0)
  [act + 1 + (if s.nv.preferred = act then 0 else (s.nv.preferred + 1) * 16)] ++ zeros 7 ++ rev s.nv.flashA ++ rev s.nv.flashB ++ zeros 488

/-- The admin and I/O opcodes of Table 6.5 for a controller. -/
def adminOpcodes (fabric : Bool) : List Nat :=
  [0x02, 0x06, 0x08, 0x09, 0x0A, 0x0C, 0x10, 0x11, 0x80, 0x84] ++ (if fabric then [0x18, 0x7F] else [0x00, 0x01, 0x04, 0x05])
def ioOpcodes : List Nat := [0x00, 0x01, 0x02, 0x08, 0x09, 0x0D, 0x0E, 0x11, 0x15, 0x81, 0x82]

/-- 05h: CSUPP, and LBCC for the opcodes that use the LBA content. -/
def logEffects (fabric : Bool) : List Nat :=
  ((List.range 256).flatMap fun o => leBytes 4 (if (adminOpcodes fabric).contains o then (if o = 0x80 ∨ o = 0x84 then 3 else 1) else 0)) ++
  ((List.range 256).flatMap fun o =>
    leBytes 4 (if ioOpcodes.contains o then (if [0x01, 0x08, 0x09, 0x81, 0x82].contains o then 3 else 1) else 0)) ++ zeros 2048

/-- The ANA group of each array with its namespaces. -/
def logAna (s : State) : List Nat :=
  leBytes 8 s.ce.anaGen ++ leBytes 2 16 ++ zeros 6 ++ (List.range 16).flatMap fun a =>
    let l := (s.ns.filter fun n => n.array = a).map (·.nsid)
    leBytes 4 (a + 1) ++ leBytes 4 l.length ++ leBytes 8 s.ce.anaGen ++ [anaState s a] ++ zeros 15 ++ l.flatMap (leBytes 4)

/-- 80h: the oldest reservation notice of the host. -/
def logResv (s : State) (c : Nat) : List Nat :=
  let host := hostOf s c
  let all := s.ce.resvs.flatMap fun r => (r.notices.filter fun x => x.1 = host).map fun x => (r.ns, x.2)
  match all with
  | [] => zeros 64
  | x :: _ => leBytes 8 all.length ++ [x.2, all.length - 1, 0, 0] ++ leBytes 4 (((nsAt s x.1).map (·.nsid)).getD 0) ++ zeros 48

/-- 81h: SPROG, SSTAT, the Sanitize Dword 10, the estimated times of Overwrite, 10,240 s (R158), and of Block Erase, for which the spec
gives none: not reported. -/
def logSanitize (s : State) : List Nat :=
  leBytes 2 (if s.rd R.HPT_CE_SANI_SSTAT = 2 then s.rd R.HPT_CE_SANI_SPROG else 0xFFFF) ++ leBytes 2 (s.rd R.HPT_CE_SANI_SSTAT) ++
  leBytes 4 (s.rd R.HPT_CE_SANI_ACTION) ++ leBytes 4 10240 ++ leBytes 4 0xFFFFFFFF ++ zeros 496

/-- C1h (Table 6.10). -/
def logPlacement (s : State) (ns : Ns) : List Nat :=
  let fmt := ((s.nv.progs.find? fun p => p.kind = 4 && p.ns = ns.idx).map fun p => 100 - 100 * p.done / max 1 p.total).getD 0
  [ns.array, arrState s ns.array, s.rd (R.STR_An_GEOM_STRIP ns.array), memN s ns.array, fmt, 0, 0, 0] ++
  leBytes 8 ns.base ++ leBytes 8 ns.stripes ++ leBytes 4 (s.arr ns.array).lost.length ++ leBytes 4 0

/-! ### Discovery log (R240) -/

/-- One discovery log entry. DESIGN CHOICE (log entry 86): the RDMA provider type is 1, not specified, and ASQSZ is 32, the least that the
NVMe over Fabrics binding allows. -/
def discEntry (fam sub port : Nat) (svc : List Nat) (addr : List Nat) (nqn : List Nat) : List Nat :=
  [1, fam, sub, 0] ++ leBytes 2 port ++ leBytes 2 0xFFFF ++ leBytes 2 32 ++ zeros 22 ++ fitTo 32 svc ++ zeros 192 ++
  fitTo 256 nqn ++ fitTo 256 addr ++ fitTo 256 [1, 1, 1]

/-- An address as text: dotted decimal for family 4, the 16 bytes in hexadecimal for family 6. -/
def addrText (fam : Nat) (bs : List Nat) : List Nat :=
  if fam = 4 then
    let d := (bs.take 4).map decimal
    d.getD 0 [] ++ [46] ++ d.getD 1 [] ++ [46] ++ d.getD 2 [] ++ [46] ++ d.getD 3 []
  else (bs.take 16).flatMap fun b => (Nat.toDigits 16 (256 + b)).tail.map Char.toNat

/-- SUBNQN of the device. -/
def subNqn (s : State) : List Nat := text "nqn.2022-03.com.daxwald:ut9600:" ++ decimal s.nv.serial

/-- The bytes of a configuration table in force. -/
def cfgTable (s : State) (n : Nat) : List Nat := ((s.dwn.tables.find? fun t => t.1 = n).map (·.2)).getD []

/-- Cut bytes into entries. -/
def entries (size : Nat) : Nat → List Nat → List (List Nat)
  | 0, _ => []
  | n + 1, bs => if bs.isEmpty then [] else bs.take size :: entries size n (bs.drop size)

/-- The local entries, one per FABRIC_ADDR entry. -/
def discLocal (s : State) : List (List Nat) :=
  (entries 24 64 (cfgTable s 2)).map fun e =>
    let fam := e.getD 2 4
    discEntry (if fam = 4 then 1 else 2) 2 (4 * e.getD 0 0 + e.getD 1 0 + 1) (text "4420") (addrText fam (e.drop 8)) (subNqn s)

/-- The referrals, one per other device of the directory. -/
def discReferrals (s : State) : List (List Nat) :=
  if s.on R.FAB_CFG_REFERRALS then
    (s.str.dir.filter fun e => e.unit ≠ s.unit && bit e.flags 0 && e.family ≠ 0).map fun e =>
      discEntry (if e.family = 4 then 1 else 2) 1 0 (text "8009") (addrText e.family (leBytes 16 e.addr)) (text "nqn.2014-08.org.nvmexpress.discovery")
  else []

/-- The discovery log page. -/
def logDiscovery (s : State) : List Nat :=
  let es := discLocal s ++ discReferrals s
  leBytes 8 s.fab.discGen ++ leBytes 8 es.length ++ zeros 1008 ++ es.flatten

/-! ### Get Log Page -/

/-- WSK_ACCESS is OPEN. -/
def wskIsOpen (s : State) : Bool := s.on R.WSK_CFG_ACCESS

/-- Telemetry header: data area 1 is the gauge area, area 2 adds the fixed and rolling areas; all empty with CURSOR. -/
def telemetryHeader (s : State) (lid : Nat) : List Nat :=
  let n := fun v => leBytes 2 (if wskIsOpen s then v else 0)
  [lid] ++ zeros 7 ++ n 128 ++ n 2048 ++ n 2048 ++ zeros 498

/-- A telemetry log from an offset: the header, then the store. -/
def telemetrySlice (s : State) (lid off len : Nat) : List Nat :=
  let head := ((telemetryHeader s lid).drop off).take len
  if wskIsOpen s then
    let o := off - 512
    head ++ wskBytes s o (min (len - head.length) (2 ^ 20 - o))
  else head

/-- The Windsock range of a telemetry or C0h read covers an unreadable word. -/
def wskReadBad (s : State) (lid off len : Nat) : Bool :=
  if lid = 0xC0 then wskBad s off len else wskIsOpen s && wskBad s (off - 512) (off + len - 512 - (off - 512))

/-- What a log page gives: a status, or the whole page, or the slice asked for. -/
inductive LogRes where
  | fail (st : Status)
  | page (bs : List Nat)
  | slice (bs : List Nat)
deriving DecidableEq, Repr

/-- A log page of a controller. -/
def logOf (s : State) (c : Ctrl) (nsid lid off len : Nat) : LogRes :=
  if c.discovery then (if lid = 0x70 then .page (logDiscovery s) else .fail (1, 9, true)) else
  match lid with
  | 0x01 => .page (logErrors s c.id)
  | 0x02 => .page (logSmart s c.id)
  | 0x03 => .page (logFirmware s)
  | 0x05 => .page (logEffects c.fabric)
  | 0x0C => .page (logAna s)
  | 0x80 => .page (logResv s c.id)
  | 0x81 => .page (logSanitize s)
  | 0xC1 => match nsById s nsid with
    | some n => .page (logPlacement s n)
    | none => .fail stNs
  | 0xC0 =>
    if ¬ wskIsOpen s then .fail (1, 9, true)
    else if 2 ^ 20 < off + len then .fail stField
    else if wskReadBad s lid off len then .fail stInternal
    else .slice (wskBytes s off len)
  | 0x07 => if wskReadBad s lid off len then .fail stInternal else .slice (telemetrySlice s lid off len)
  | 0x08 => if wskReadBad s lid off len then .fail stInternal else .slice (telemetrySlice s lid off len)
  | _ => .fail (1, 9, true)

/-- Get Log Page: its data, and the events of that page may be posted again; a reservation notice is consumed. -/
def getLog (h : IoHdr) (nsid lid off len : Nat) (s : State) : State :=
  match ctrlOf s h.ctrl with
  | none => s
  | some c =>
    let r := logOf s c nsid lid off len
    let s := s.modCtrl h.ctrl fun x => { x with logs := x.logs.filter (· ≠ lid) }
    let s := if lid = 0x80 ∧ off = 0 then
        { s with ce.resvs := s.ce.resvs.map fun n => { n with notices := match takeFirst (fun x : Nat × Nat => x.1 = c.hostId) n.notices with
          | some p => p.2
          | none => n.notices } }
      else s
    match r with
    | .fail st => cqeSt h st s
    | .page bs => if bs.length < off then cqeSt h stField s else cqeInfo h ((bs.drop off).take len) s
    | .slice bs => cqeInfo h bs s

/-! ### Identify -/

/-- Block Erase is supported: every member and spare supports it (R158). -/
def blockEraseOk (s : State) : Bool :=
  ((List.range 16).all fun a => ¬ arrOn s a || (List.range (memN s a)).all fun m =>
    missing s a m || ((driveAt s (memDrv s a m)).map (·.desc.sanOk)).getD false) &&
  (List.range 8).all fun k => ¬ s.on (R.STR_SPAREk_VALID k) || s.rd (R.STR_SPAREk_SPARE_STATE k) ≠ 1 ||
    ((driveAt s (2 * s.rd (R.STR_SPAREk_PORT k) + s.rd (R.STR_SPAREk_SUB k))).map (·.desc.sanOk)).getD false

/-- SGLS of Table 6.6: without alignment, keyed data block, offset for in-capsule data. -/
def sglsValue : Nat := 1 + 2 ^ 2 + 2 ^ 20

/-- Identify Controller, in the order of Table 6.6, with CNTLID, CNTRLTYPE (1 I/O, 2 discovery) and the serial number last: FR is the
running Noljo version. Every other field is 0. -/
def idCtrl (s : State) (c : Ctrl) : List Nat :=
  text "Daxwald UT9600" ++ [noljo, 0x20000, 3, 0x0B, 9, 0xB00, 1, 6, 3, 3, 0x14, 0x0E, 255, 0, 230, 373, 378, 3,
    b2n (blockEraseOk s) * 2 + 4, 1, 0x5F, 16, 16, 0x66, 0x44, 4096, 4194304, 4096, 0x2C, 0, 0, 0, 255, 255, 0, sglsValue] ++ subNqn s ++
  (if c.fabric then [1028, 1, 0, 0, 1, 1] else []) ++ [c.id, if c.discovery then 2 else 1] ++ decimal s.nv.serial
where
  noljo : Nat := (s.dwn.image.map (·.version)).getD 0

/-- Identify Namespace, in the order of Table 6.7; of each LBA format LBADS, MS, RP, PIF (2 the 64-bit guard) and STS, all 0 where
format 1 is not offered. -/
def idNs (s : State) (n : Ns) : List Nat :=
  let fpi := ((s.nv.progs.find? fun p => p.kind = 4 && p.ns = n.idx).map fun p => 100 - 100 * p.done / max 1 p.total).getD 0
  let w := perStripe s n.array - 1
  [n.nsze, n.nsze, n.nsze, 0x12, 1, 12, 0, 0, 0, 0] ++
  (if s.on (R.STR_An_GEOM_META n.array) then [12, 16, 0, 2, 0] else [0, 0, 0, 0, 0]) ++ [n.lbaf, 0x01, 0x09, 0x01, 0x7E, 0x80 + fpi, 0x09, 255, 255, 255, 255, 0,
    w, w, w, w, w, n.array + 1, n.nguid]

/-- Namespace identifiers above one, in ascending order. -/
def activeNs (s : State) (lo : Nat) : List Nat := ((s.ns.map (·.nsid)).filter (lo < ·)).foldl (fun l x => insNat x l) []

/-- Identify: namespace (00h), controller (01h), active namespaces (02h), namespace identification (03h), controllers
(12h, 13h). -/
def identifyGo (h : IoHdr) (cns nsid : Nat) (s : State) : State :=
  match ctrlOf s h.ctrl with
  | none => s
  | some c =>
    match cns with
    | 0 => match nsById s nsid with
      | some n => cqeInfo h (idNs s n) s
      | none => cqeSt h stNs s
    | 1 => cqeInfo h (idCtrl s c) s
    | 2 => cqeInfo h ((activeNs s nsid).take 1024) s
    | 3 => match nsById s nsid with
      | some n => cqeInfo h [2, 16, n.nguid, 4, 1, 0] s
      | none => cqeSt h stNs s
    | 0x12 => match nsById s nsid with
      | some _ => cqeInfo h (s.ce.ctrls.map (·.id)) s
      | none => cqeSt h stNs s
    | 0x13 => cqeInfo h (s.ce.ctrls.map (·.id)) s
    | _ => cqeSt h stField s

end Sys2Proof.Machine
end

