-- ==== Sys2Proof/Machine/Sec.lean ====
section
/-! DEFINITION. Image checks, tokens and nonces (Table 13.9, R327, R334, R335). -/

namespace Sys2Proof.Machine

/-- A key slot can be trusted. -/
def KeySlot.ok (k : KeySlot) : Bool := k.programmed && ¬ k.damaged && ¬ k.revoked

/-- Key slot `i` of the OTP. -/
def keySlot (s : State) (i : Nat) : KeySlot := s.nv.slots.getD i ⟨false, false, false, 0⟩

/-- The version of the Noljo that runs. -/
def noljoVersion (s : State) : Nat := (s.dwn.image.map (·.version)).getD 0

/-- SPAR_MIN and SPAR_MAX of the Noljo that runs (Table 13.4): the lowest Spar protocol version it accepts, and the one it speaks. -/
def sparLowest (s : State) : Nat := (s.dwn.image.map (·.sparMin)).getD 0
def sparVersion (s : State) : Nat := (s.dwn.image.map (·.sparMax)).getD 0

/-- Check 2 of Table 13.9. -/
def keyCheck (s : State) (i : Image) : Bool :=
  if i.keySlot = 0xFF then i.kind = 1 && s.nv.hostKey.ok && s.nv.persistMode
  else decide (i.keySlot < 4) && (keySlot s i.keySlot).ok

/-- Check 3: the SHA-384 of PUBKEY equals the hash in the slot that KEY_SLOT names. -/
def keyMatches (s : State) (i : Image) : Bool :=
  i.keyHash = (if i.keySlot = 0xFF then s.nv.hostKey else keySlot s i.keySlot).key

/-- The TYPEs of the configuration sections (Table 13.6), in the order in which an export carries them. -/
def cfgSections : List Nat := [0x0101, 0x0102, 0x0103, 0x0104, 0x0105, 0x0201, 0x0202]

/-- An image carries a NOLJO section. -/
def hasNoljo (i : Image) : Bool := i.types.contains 1

/-- The section rules of R325: no TYPE twice, none but those of Table 13.6, a NOLJO section exactly in a FULL image. -/
def typesOk (i : Image) : Bool :=
  decide i.types.Nodup && i.types.all (fun t => t = 1 || cfgSections.contains t) && (hasNoljo i == (i.kind = 0))

/-- The first failing check of Table 13.9 with its code, for a slot that takes images of `kind`. -/
def imageCheck (s : State) (kind : Nat) (i : Image) : Option (Nat × Nat) :=
  if ¬ i.magicOk then some (1, eField)
  else if ¬ keyCheck s i then some (2, eAuth)
  else if ¬ keyMatches s i then some (3, eAuth)
  else if ¬ i.sigOk then some (4, eAuth)
  else if ¬ i.bindOk then some (5, eAuth)
  else if i.kind = 0 ∧ (i.svn < s.nv.fwSvn ∨ 128 < i.svn) then some (6, eAuth)
  else if ¬ i.sectsOk ∨ (hasNoljo i ∧ ¬ (keySlot s 0).ok) then some (7, eAuth)
  else if i.kind ≠ kind ∨ ¬ typesOk i then some (8, eField)
  else if i.kind = 1 ∧ noljoVersion s < i.version then some (9, eUnsup)
  else none

/-- The causes that a failed image check raises (R327). -/
def imageFail (check : Nat) (s : State) : State :=
  let s := if 2 ≤ check ∧ check ≤ 7 then s.raise R.SEC_INT_STATUS_AUTH_FAIL else s
  if check = 6 then s.raise R.SEC_INT_STATUS_ROLLBACK else s

/-! ### The flash (Table 13.3, R322, R332) -/

/-- The image in a place of the flash: 0 and 1 the firmware slots A and B, 2 and 3 the halves of the shadow slot. -/
def slotImg (s : State) (i : Nat) : Option Image :=
  match i with
  | 0 => s.nv.flashA
  | 1 => s.nv.flashB
  | 2 => s.nv.shadowA
  | _ => s.nv.shadowB

/-- Put an image into a place of the flash. -/
def putSlot (i : Nat) (img : Option Image) (s : State) : State :=
  match i with
  | 0 => { s with nv.flashA := img }
  | 1 => { s with nv.flashB := img }
  | 2 => { s with nv.shadowA := img }
  | _ => { s with nv.shadowB := img }

/-- A write to the flash that ends early or fails: the place holds what it held, or nothing that passes a check. -/
def flashCut (i : Nat) (s : State) : State :=
  if s.freeNat 1 = 1 then putSlot i none s.useFree else s.useFree

/-- Key slot `i` of the OTP is programmed anew. -/
def putKey (i : Nat) (k : KeySlot) (s : State) : State := { s with nv.slots := modAt i (fun _ => k) s.nv.slots }

/-- An OTP programming that is cut off (R333): a hash fails its CRC from the next DAWN_S01 on; a REVOKE bit or the fuses of
FW_SVN are blown as far as it came. -/
def otpCut (kind slot v : Nat) (s : State) : State :=
  match kind with
  | 0 => putKey slot ⟨true, true, false, v⟩ s
  | 1 =>
    let b := decide (s.freeNat 1 = 1)
    let s := s.useFree
    if ¬ b then s
    else if slot = 4 then { s with nv.hostKey := { s.nv.hostKey with revoked := true } }
    else putKey slot { keySlot s slot with revoked := true } s
  | 2 => { s with nv.hostKey := ⟨true, true, false, v⟩ }
  | _ => { s.useFree with nv.fwSvn := s.nv.fwSvn + s.freeNat 8 % (v + 1 - s.nv.fwSvn) }

/-- The device stops while it writes its flash or its fuses. -/
def writesCut (s : State) : State :=
  let s := match s.dwn.flashOp with
    | some p => flashCut p.2.2.2 s
    | none => s
  let s := s.each s.ce.fwWrites fun s w => flashCut w.slot s
  match s.dwn.otpOp with
  | some p => otpCut p.1 p.2.2.1 p.2.2.2 s
  | none => s

/-- Some customer slot is programmed. -/
def customerSet (s : State) : Bool := [1, 2, 3].any fun i => (keySlot s i).programmed

/-- A token authorizes `opcode`: a customer slot that is not revoked, a signature that verifies, the nonce last issued
and at most 15,625 epochs old, this device, this command (R335). -/
def tokenOk (s : State) (opcode : Nat) (t : Token) : Bool :=
  decide (1 ≤ t.slot) && decide (t.slot ≤ 3) && (keySlot s t.slot).ok && t.sigOk && t.device = s.nv.deviceId &&
  t.opcode = opcode &&
  match s.dwn.nonce with
  | some n => t.nonce = n / 2 ^ 48 && decide (s.tet.epoch ≤ n % 2 ^ 48 + 15625)
  | none => false

/-- Use a token: its nonce is consumed, also by a token that fails; a failure raises AUTH_FAIL. -/
def tokenUse (opcode : Nat) (t : Token) (s : State) : Bool × State :=
  let ok := tokenOk s opcode t
  let s := { s with dwn.nonce := none }
  (ok, if ok then s else s.raise R.SEC_INT_STATUS_AUTH_FAIL)

end Sys2Proof.Machine
end

