-- ==== Sys2Proof/Machine/Admin.lean ====
section
/-! DEFINITION. The admin commands (R146, R152, R156, R164 to R168) and the course of a firmware activation
(Table 6.3). -/

namespace Sys2Proof.Machine

/-! ### Features (Table 6.8) -/

/-- A feature value of a controller. -/
def featOf (c : Ctrl) (fid d : Nat) : Nat := ((c.features.find? fun f => f.1 = fid).map (·.2)).getD d

/-- Keep a feature value. -/
def putFeat (c fid v : Nat) (s : State) : State :=
  s.modCtrl c fun x => { x with features := (fid, v) :: x.features.filter fun f => f.1 ≠ fid }

/-- Set a queue's reservation (feature C0h, R143, R145). -/
def setQueueResv (h : IoHdr) (v : Nat) (s : State) : State :=
  match queueOf s h.ctrl (bits v 0 16) with
  | none => cqeSt h (0, 0xC, false) s
  | some q =>
    let r := bits v 16 16
    let t := s.modQueue h.ctrl q.qid fun x => { x with r := r }
    if q.size ≤ r ∨ ¬ floorOk t 0 then cqeSt h stField s else cqeSt h stOk t

/-- Temperature Threshold (feature 04h): the over and the under threshold of the composite sensor, by THSEL. -/
def tempKey (v : Nat) : Option Nat :=
  if bits v 16 4 ≠ 0 then none else match bits v 20 2 with
  | 0 => some 4
  | 1 => some 0x104
  | _ => none

/-- Reservation Notification Mask (feature 82h) of the namespaces that NSID names, FFFFFFFFh for all. -/
def maskSet (c : Ctrl) (ns : List Ns) (v : Nat) (s : State) : State := s.each ns fun s n => putFeat c.id (0x82 + 256 * (n.idx + 1)) v s

/-- Set Features. `v` is Dword 11, or the value of a feature that takes a data structure. -/
def setFeature (h : IoHdr) (c : Ctrl) (fid nsid v : Nat) (save : Bool) (s : State) : State :=
  let ok := cqeSt h stOk
  if save then cqeSt h (1, 0xD, true) s else
  match fid with
  | 0x01 => if bits v 0 3 = 3 then ok (putFeat c.id 1 v s) else cqeSt h stField s
  | 0x02 => if bits v 0 5 = 0 then ok s else cqeSt h stField s
  | 0x04 => match tempKey v with
    | some k => ok (putFeat c.id k (bits v 0 16) s)
    | none => cqeSt h stField s
  | 0x05 => if bits v 0 17 = 0 then ok s else cqeSt h stField s
  | 0x07 =>
    if s.ce.queues.any (fun q => q.ctrl = c.id) ∨ s.ce.cqs.any (fun q => q.ctrl = c.id) then cqeSt h (0, 0xC, false) s
    else if bits v 0 16 = 0xFFFF ∨ bits v 16 16 = 0xFFFF then cqeSt h stField s
    else
      let top := if c.fabric then 127 else 1023
      let n := (min top (bits v 0 16), min top (bits v 16 16))
      cqe h 0 0 false (n.1 + n.2 * 65536) [] (s.modCtrl c.id fun x => { x with numQueues := some n })
  | 0x08 => if c.fabric then cqeSt h stField s else ok (putFeat c.id 8 (bits v 0 16) s)
  | 0x09 => if c.fabric ∨ 1025 ≤ bits v 0 16 then cqeSt h stField s else ok (putFeat c.id (9 + 256 * (bits v 0 16 + 1)) (bits v 0 17) s)
  | 0x0A => ok (putFeat c.id 0xA (bits v 0 1) s)
  | 0x0B =>
    let allowed := if c.discovery then 2 ^ 31 else 0xB00 + 0xFF
    if v % 2 ^ 32 ||| allowed = allowed then ok (s.modCtrl c.id fun x => { x with aenMask := v % 2 ^ 32 }) else cqeSt h stField s
  | 0x0F => if c.fabric then ok (s.modCtrl c.id fun x => { x with kato := v }) else cqeSt h stField s
  | 0x81 => if c.fabric then cqeSt h (0, 0xC, false) s else ok (s.modCtrl c.id fun x => { x with hostId := v % 2 ^ 128 })
  | 0x82 =>
    let ns := if nsid = 0xFFFFFFFF then s.ns else (nsById s nsid).toList
    if ns.isEmpty ∧ nsid ≠ 0xFFFFFFFF then cqeSt h stNs s else ok (maskSet c ns (bits v 0 4) s)
  | 0x83 => if v = 0 then ok s else cqeSt h stField s
  | 0xC0 => setQueueResv h v s
  | _ => cqeSt h stField s

/-- Get Features. `v` is Dword 11; of feature 82h the namespace identifier. -/
def getFeature (h : IoHdr) (c : Ctrl) (fid v : Nat) (s : State) : State :=
  let r := fun d => cqe h 0 0 false d [] s
  match fid with
  | 0x01 => r (featOf c 1 3)
  | 0x02 => r 0
  | 0x04 => match tempKey v with
    | some k => r (featOf c k (if k = 4 then 373 else 0))
    | none => cqeSt h stField s
  | 0x05 => r 0
  | 0x07 =>
    let top := if c.fabric then 127 else 1023
    let n := c.numQueues.getD (top, top)
    r (n.1 + n.2 * 65536)
  | 0x08 => if c.fabric then cqeSt h stField s else r (featOf c 8 0)
  | 0x09 => if c.fabric ∨ 1025 ≤ bits v 0 16 then cqeSt h stField s else r (featOf c (9 + 256 * (bits v 0 16 + 1)) (bits v 0 16))
  | 0x0A => r (featOf c 0xA 0)
  | 0x0B => r c.aenMask
  | 0x0F => if c.fabric then r c.kato else cqeSt h stField s
  | 0x81 => cqeInfo h [c.hostId] s
  | 0x82 => match nsById s v with
    | some n => r (resvMask c n.idx)
    | none => cqeSt h stNs s
  | 0x83 => r 0
  | 0xC0 =>
    match queueOf s h.ctrl (bits v 0 16) with
    | some q => cqeInfo h [q.r, heldBy s q] s
    | none => cqeSt h stField s
  | _ => cqeSt h stField s

/-! ### Firmware (R156) -/

/-- A piece of a firmware image arrives. -/
def downloadGo (h : IoHdr) (off len : Nat) (img : Image) (s : State) : State :=
  if len = 0 ∨ off % 4 ≠ 0 ∨ len % 4 ≠ 0 ∨ 28 * 2 ^ 20 < off + len then cqeSt h stField s
  else if off ≠ 0 ∧ s.ce.download.any fun p => off < p.1 + p.2 && p.1 < off + len then cqeSt h (1, 0x14, true) s
  else
    let old := if off = 0 then [] else s.ce.download
    cqeSt h stOk { s with ce.download := old ++ [(off, len)], ce.dlImage := some img }

/-- The pieces downloaded form one image without a gap. -/
def downloadWhole (s : State) : Bool :=
  let rec go : Nat → Nat → Bool
    | 0, at_ => decide (0 < at_)
    | n + 1, at_ => match s.ce.download.find? fun p => p.1 = at_ with
      | some p => go n (at_ + p.2)
      | none => decide (0 < at_) && ¬ s.ce.download.any fun p => at_ < p.1
  go s.ce.download.length 0

/-- PREFERRED is written into the copy of the boot record that is not in force, with SEQ one higher (R322); DAWN_S03 to DAWN_S05 run normally
at the next start (R320). DESIGN CHOICE (log entry 89): with no copy in force, copy 0 is written with SEQ 1. -/
def prefer (i : Nat) (s : State) : State :=
  let s := { s with nv.clearBoot := true }
  match bootInForce s.nv with
  | some (false, r) => { s with nv.bootB := some ⟨r.seq + 1, i⟩ }
  | some (true, r) => { s with nv.bootA := some ⟨r.seq + 1, i⟩ }
  | none => { s with nv.bootA := some ⟨1, i⟩ }

/-- A Firmware Commit completes: LAST_STATUS takes its status code. -/
def commitEnd (h : Option IoHdr) (st : Status) (s : State) : State :=
  let s := s.wr R.HPT_CE_ACT_LAST_STATUS st.2.1
  match h with
  | some h => cqeSt h st s
  | none => s

/-- A commit whose image fails its checks. -/
def commitBad (h : Option IoHdr) (s : State) : State := commitEnd h (1, 7, true) (s.raise R.HPT_CE_INT_STATUS_ACT_FAIL)

/-- Firmware Commit. -/
def commitGo (h : IoHdr) (slot action : Nat) (s : State) : State :=
  if 3 < action then commitEnd (some h) stField s
  else if 2 < slot ∨ (slot = 0 ∧ action = 2) then commitEnd (some h) (1, 6, true) s
  else if action = 3 ∧ (s.ce.commit.isSome ∨ s.ce.fwWrites.any (fun w => w.action = 3) ∨ ¬ s.ce.formats.isEmpty ∨ s.nv.progs.any (fun p => p.kind = 4) ∨ s.nv.sani.isSome) then
    commitEnd (some h) (0, 0xC, false) s
  else
    let i := if slot = 0 then 1 - s.rd R.DWN_STATUS_IMAGE_SLOT else slot - 1
    let img := if action = 2 then slotImg s i else if downloadWhole s then s.ce.dlImage else none
    match img with
    | none => commitBad (some h) s
    | some x =>
      match imageCheck s 0 x with
      | some c => commitBad (some h) (imageFail c.1 s)
      | none =>
        if action = 2 then commitEnd (some h) stOk (prefer i s)
        else { s with ce.download := [], ce.dlImage := none, ce.fwWrites := s.ce.fwWrites ++ [⟨some h, i, action, x⟩] }

/-- A slot write of a Firmware Commit has ended: the commit completes, or with action 011b its activation begins. A write that
cannot be read back ends the commit with Internal Error. -/
def fwWritten (w : FwWrite) (ok : Bool) (s : State) : State :=
  if ¬ ok then commitEnd w.h (0, 6, false) (flashCut w.slot s)
  else
    let s := putSlot w.slot (some w.img) s
    if w.action = 3 then { s with ce.commit := some ⟨w.h, w.slot, 3⟩ }.wr R.HPT_CE_ACT_PHASE 1
    else commitEnd w.h stOk (if w.action = 0 then s else prefer w.slot s)

/-- CSTS.PP of every controller. -/
def setPp (v : Bool) (s : State) : State := { s with ce.ctrls := s.ce.ctrls.map fun c => { c with pp := v } }

/-- The drain begins: fetching stops, credits are withheld (Table 6.3). -/
def actDrain (s : State) : State :=
  let s := noticeFw (setPp true s)
  let s := ((s.wr R.HPT_CE_ACT_PHASE 2).wr R.HPT_CE_STATUS_FETCH_STOPPED 1).raise R.HPT_CE_INT_STATUS_ACT_START
  { s with ce.actReady := false }

/-- FW_ACTIVATION_CHECK_DONE: in a pair the drain waits for the peer (R314). -/
def doFwActivationCheckDone (ok : Bool) (s : State) : State :=
  match s.ce.commit with
  | none => s
  | some c =>
    if s.rd R.HPT_CE_ACT_PHASE ≠ 1 ∨ s.on R.HPT_CE_ACT_PAIR_WAIT then s
    else if ok then
      if s.pairState = 3 then s.wr R.HPT_CE_ACT_PAIR_WAIT 1
      else if s.pairState = 2 ∧ s.on R.SPR_LINK_UP then actDrain (s.emit (.spar 9 [4]))
      else actDrain s
    else commitBad c.h ({ s with ce.commit := none }.wr R.HPT_CE_ACT_PHASE 0)

/-- No command is in execution: those that wait for Basket space, a Spar share, a drive queue or a lock keep their
contexts. -/
def drained (s : State) : Bool :=
  s.ce.ctxs.all fun c => match c.phase with
    | .basket => true
    | .spar => true
    | .lock => true
    | .ordered => true
    | .member => c.sops.isEmpty && ¬ c.outst.isEmpty && c.outst.all fun i => s.ce.mcmds.any fun m => m.id = i && ¬ m.issued
    | _ => false

/-- FW_ACTIVATION_DRAIN_DONE: the switch follows at the next boundary. -/
def doFwActivationDrainDone (s : State) : State :=
  if s.rd R.HPT_CE_ACT_PHASE = 2 ∧ drained s then { s with ce.actReady := true } else s

/-- The switch at a boundary (order 2 of Table 2.3): the new Noljo takes over. DESIGN CHOICE (log entry 81): from the next boundary on,
while it restores its state, PHASE reads resume. -/
def actSwitch (s : State) : State :=
  match s.ce.commit with
  | some c =>
    if s.rd R.HPT_CE_ACT_PHASE = 2 ∧ s.ce.actReady then
      let s := { s with dwn.image := slotImg s c.slot, dwn.slot := c.slot, ce.actReady := false }
      let s := (s.wr R.DWN_STATUS_IMAGE_SLOT c.slot).raise R.SEC_INT_STATUS_MEAS_CHG
      (s.wr R.HPT_CE_ACT_PHASE 3).wr R.GLB_FW_NOLJO_VERSION ((s.dwn.image.map (·.version)).getD 0)
    else if s.rd R.HPT_CE_ACT_PHASE = 3 then s.wr R.HPT_CE_ACT_PHASE 4
    else s
  | none => s

/-- A commit that the standby received completes once the former active has activated too (R314 step 6), or the unit is on its own. -/
def pairCommitEnd (s : State) : State :=
  match s.ce.commit with
  | some c => if s.rd R.HPT_CE_ACT_PHASE = 0 then commitEnd c.h stOk { s with ce.commit := none } else s
  | none => s

/-- FW_ACTIVATION_RESUME: state is restored, service resumes, the commit completes. -/
def doFwActivationResume (ms : Nat) (s : State) : State :=
  match s.ce.commit with
  | none => s
  | some c =>
    if s.rd R.HPT_CE_ACT_PHASE < 3 then s else
    let first := s.pairState = 2 ∧ s.on R.SPR_LINK_UP ∧ ¬ s.pair.second
    let s := setPp false (prefer c.slot s)
    let s := ((s.wr R.HPT_CE_ACT_PHASE 0).wr R.HPT_CE_STATUS_FETCH_STOPPED 0).raise R.HPT_CE_INT_STATUS_ACT_DONE
    let s := s.wr R.HPT_CE_ACT_LAST_PAUSE_MS (min 65535 ms)
    -- steps 3 and 4 of R314: a standby reports ACT_DONE; the first of the two requests the switchover
    let s := if s.pairState = 2 ∧ s.on R.SPR_LINK_UP then
        let s := s.emit (.spar 9 [5])
        if s.pair.second then s else s.emit (.spar 9 [1])
      else s
    if first then s else commitEnd c.h stOk { s with pair.second := false, ce.commit := none }

/-! ### Admin contexts (R146) -/

/-- Admin contexts held. -/
def adminHeld (s : State) : Nat :=
  (s.ce.commit.filter fun c => c.h.isSome).toList.length + (s.ce.fwWrites.filter fun w => w.h.isSome).length + (s.ce.formats.filter fun j => j.h.isSome).length

/-- Admin commands that the NVMe base specification does not permit while a Sanitize runs. -/
def saniForbids : Instr → Bool
  | .firmwareImageDownload .. => true
  | .firmwareCommit _ _ a => a ≠ 3
  | .formatNvm .. => true
  | _ => false

/-- An Asynchronous Event Request: 4 slots per controller (R146); an event that waits completes it at once. -/
def aerGo (h : IoHdr) (c : Ctrl) (s : State) : State :=
  if 4 ≤ c.aer.length then cqeSt h (1, 5, true) s
  else match c.aenPend with
  | e :: rest => cqe h 0 0 false e [] (s.modCtrl c.id fun x => { x with aenPend := rest, logs := x.logs ++ [e / 65536] })
  | [] => s.modCtrl c.id fun x => { x with aer := x.aer ++ [h.cid] }

/-- The effect of an admin command that has its context. -/
def adminDo (i : Instr) (s : State) : State :=
  match i with
  | .getLogPage h nsid lid off len => getLog h nsid lid off len s
  | .identify h cns nsid => identifyGo h cns nsid s
  | .abort h _ _ => cqe h 0 0 false 1 [] (s.incWrap R.HPT_CE_CNT_ABORT_ABORTS)
  | .setFeatures h fid nsid v save => match ctrlOf s h.ctrl with
    | some c => setFeature h c fid nsid v save s
    | none => s
  | .getFeatures h fid v => match ctrlOf s h.ctrl with
    | some c => getFeature h c fid v s
    | none => s
  | .firmwareImageDownload h off len img => downloadGo h off len img s
  | .firmwareCommit h slot action => commitGo h slot action s
  | .formatNvm h nsid lbaf ses => formatGo h nsid lbaf ses s
  | .sanitizeBlockErase h => saniErase h.hdr (h.sanact = 2 && blockEraseOk s) s
  | .sanitizeOverwrite h p inv pat => saniOverwrite h p inv pat s
  | .sanitizeExitFailureMode h => saniExit h s
  | .createIoSq h qid qsize cqid => createSq h qid qsize cqid s
  | .deleteIoSq h qid => deleteSq h qid s
  | .createIoCq h qid qsize iv => createCq h qid qsize iv s
  | .deleteIoCq h qid => deleteCq h qid s
  | .asynchronousEventRequest h => match ctrlOf s h.ctrl with
    | some c => aerGo h c s
    | none => s
  | .invalidOpcode h _ => cqeSt h (0, 1, true) s
  | _ => s

/-- A fabric admin capsule finds the receive buffer of its queue full (R146). -/
def adminFull (s : State) (h : IoHdr) : Bool :=
  decide (16 ≤ h.ctrl) && ((ctrlOf s h.ctrl).map fun c => decide (c.aSize ≤ adminWaiting s h.ctrl)).getD false

/-- An admin command runs, or is refused while a Sanitize does. -/
def adminRun (i : Instr) (h : IoHdr) (s : State) : State :=
  if saniForbids i ∧ sanitizing s then cqeSt h (0, 0x1D, false) s else adminDo i s

/-- An admin command arrives: run with one of the 64 admin contexts, or queued in arrival order. -/
def adminGo (h : IoHdr) (i : Instr) (s : State) : State :=
  if ¬ adminOpen s h then s
  else if adminFull s h then rnrNak (((s.fab.qps.find? fun p => p.ctrl = h.ctrl && p.qid = 0).map (·.id)).getD 0) s
  else if adminHeld s < 64 ∧ s.ce.adminWait.isEmpty then adminRun i h s
  else { s with ce.adminWait := s.ce.adminWait ++ [i] }

/-- An Asynchronous Event Request takes no admin context. -/
def noContext : Instr → Bool
  | .asynchronousEventRequest _ => true
  | _ => false

/-- The header of an admin command. -/
def adminHdr : Instr → IoHdr
  | .getLogPage h .. => h
  | .identify h .. => h
  | .abort h .. => h
  | .setFeatures h .. => h
  | .getFeatures h .. => h
  | .asynchronousEventRequest h => h
  | .invalidOpcode h _ => h
  | .firmwareImageDownload h .. => h
  | .firmwareCommit h .. => h
  | .formatNvm h .. => h
  | .sanitizeBlockErase h => h.hdr
  | .sanitizeOverwrite h .. => h
  | .sanitizeExitFailureMode h => h
  | .createIoSq h .. => h
  | .deleteIoSq h .. => h
  | .createIoCq h .. => h
  | .deleteIoCq h .. => h
  | _ => ⟨0, 0, 0⟩

/-- ADMIN_CONTEXT_GRANT: the admin command that arrived first. -/
def doAdminContextGrant (s : State) : State :=
  match s.ce.adminWait with
  | [] => s
  | i :: rest =>
    if (adminHeld s < 64 ∨ noContext i) ∧ taking s then adminRun i (adminHdr i) { s with ce.adminWait := rest } else s

/-- ABORT: at most 4 outstanding per controller (R152). -/
def doAbort (h : IoHdr) (sq cid : Nat) (s : State) : State :=
  let mine := s.ce.adminWait.filter fun i => match i with
    | .abort x _ _ => x.ctrl = h.ctrl
    | _ => false
  if adminOpen s h ∧ 4 ≤ mine.length then cqeSt h (1, 3, false) s else adminGo h (.abort h sq cid) s

/-- ASYNCHRONOUS_EVENT_REQUEST: it takes no admin context, but a PCIe admin queue is not fetched past a command that waits (R146). -/
def doAsynchronousEventRequest (h : IoHdr) (s : State) : State :=
  match ctrlOf s h.ctrl with
  | none => s
  | some c =>
    if ¬ adminOpen s h then s
    else if h.ctrl < 16 ∧ 0 < adminWaiting s h.ctrl then { s with ce.adminWait := s.ce.adminWait ++ [.asynchronousEventRequest h] }
    else aerGo h c s

/-- INVALID_OPCODE: an opcode outside Table 6.5 on an admin or I/O queue. -/
def doInvalidOpcode (h : IoHdr) (opc : Nat) (s : State) : State :=
  if h.q = 0 then adminGo h (.invalidOpcode h opc) s
  else if ioOpen s h then
    let s := s.modQueue h.ctrl h.q fun q => { q with
      fetched := q.fetched - 1, arrivals := q.arrivals + 1, completed := q.completed + 1 }
    creditBack h (cqeSt h (0, 1, true) s)
  else s

/-- HPT_CE_CLR_ERR. -/
def doHptCeClrErr (s : State) : State := s.wr R.HPT_CE_STATUS_LAST_ERR 0

def execAdminContextGrant (s : State) : Out := live s (doAdminContextGrant s)
def execGetLogPage (h : IoHdr) (nsid lid off len : Nat) (s : State) : Out := live s (adminGo h (.getLogPage h nsid lid off len) s)
def execIdentify (h : IoHdr) (cns nsid : Nat) (s : State) : Out := live s (adminGo h (.identify h cns nsid) s)
def execAbort (h : IoHdr) (sq cid : Nat) (s : State) : Out := live s (doAbort h sq cid s)
def execSetFeatures (h : IoHdr) (fid nsid v : Nat) (save : Bool) (s : State) : Out := live s (adminGo h (.setFeatures h fid nsid v save) s)
def execGetFeatures (h : IoHdr) (fid v : Nat) (s : State) : Out := live s (adminGo h (.getFeatures h fid v) s)
def execAsynchronousEventRequest (h : IoHdr) (s : State) : Out := live s (doAsynchronousEventRequest h s)
def execFirmwareImageDownload (h : IoHdr) (off len : Nat) (img : Image) (s : State) : Out :=
  live s (adminGo h (.firmwareImageDownload h off len img) s)
def execFirmwareCommit (h : IoHdr) (slot action : Nat) (s : State) : Out := live s (adminGo h (.firmwareCommit h slot action) s)
def execFwActivationCheckDone (ok : Bool) (s : State) : Out := live s (doFwActivationCheckDone ok s)
def execFwActivationDrainDone (s : State) : Out := live s (doFwActivationDrainDone s)
def execFwActivationResume (ms : Nat) (s : State) : Out := live s (doFwActivationResume ms s)
def execFormatNvm (h : IoHdr) (nsid lbaf ses : Nat) (s : State) : Out := live s (adminGo h (.formatNvm h nsid lbaf ses) s)
def execSanitizeBlockErase (h : SaniHdr) (s : State) : Out := live s (adminGo h.hdr (.sanitizeBlockErase h) s)
def execSanitizeOverwrite (h : IoHdr) (p : Nat) (inv : Bool) (pat : Nat) (s : State) : Out :=
  live s (adminGo h (.sanitizeOverwrite h p inv pat) s)
def execSanitizeExitFailureMode (h : IoHdr) (s : State) : Out := live s (adminGo h (.sanitizeExitFailureMode h) s)
def execCreateIoSq (h : IoHdr) (qid qsize cqid : Nat) (s : State) : Out := live s (adminGo h (.createIoSq h qid qsize cqid) s)
def execDeleteIoSq (h : IoHdr) (qid : Nat) (s : State) : Out := live s (adminGo h (.deleteIoSq h qid) s)
def execCreateIoCq (h : IoHdr) (qid qsize iv : Nat) (s : State) : Out := live s (adminGo h (.createIoCq h qid qsize iv) s)
def execDeleteIoCq (h : IoHdr) (qid : Nat) (s : State) : Out := live s (adminGo h (.deleteIoCq h qid) s)
def execInvalidOpcode (h : IoHdr) (opc : Nat) (s : State) : Out := live s (doInvalidOpcode h opc s)
def execHptCeClrErr (s : State) : Out := live s (doHptCeClrErr s)

end Sys2Proof.Machine
end

