-- ==== Sys2Proof/Machine/IoCmds.lean ====
section
/-! DEFINITION. The I/O commands of NVM (R11, R13, R150, R153, R161) and the rows that end the waits of R147. -/

namespace Sys2Proof.Machine

/-- Earlier commands hold an ordered one back in its context (R150); any other command starts. -/
def begin (nsid : Nat) (limit : Bool) (p : Ctx × State) : State :=
  let c := p.1
  let n := nsById p.2 nsid
  if c.ordered ∧ earlier p.2 c then p.2.putCtx { c with phase := .ordered, nsid := nsid, ns := (n.map (·.idx)).getD 4096 }
  else startIo n limit c p.2

/-- READ. -/
def doRead (h : IoHdr) (nsid slba nlb : Nat) (f : IoFlags) (s : State) : State :=
  if ioOpen s h then begin nsid true (arrive h .read slba nlb [] f false s) else s

/-- WRITE. -/
def doWrite (h : IoHdr) (nsid slba : Nat) (data : List Block) (f : IoFlags) (s : State) : State :=
  if ioOpen s h then begin nsid true (arrive h .write slba data.length data f false s) else s

/-- ORDERED_WRITE. -/
def doOrderedWrite (h : IoHdr) (nsid slba : Nat) (data : List Block) (f : IoFlags) (s : State) : State :=
  if ioOpen s h then begin nsid true (arrive h .write slba data.length data f true s) else s

/-- ORDERED_READ. -/
def doOrderedRead (h : IoHdr) (nsid slba nlb : Nat) (f : IoFlags) (s : State) : State :=
  if ioOpen s h then begin nsid true (arrive h .read slba nlb [] f true s) else s

/-- No flag set. -/
def noFlags : IoFlags := ⟨false, false, false, false, 0, 0, 0⟩

/-- The refusal of a Flush (Table 6.2). DESIGN CHOICE (log entry 72): NSID FFFFFFFFh covers every namespace, and the namespace with the
lowest index that refuses it gives the status. -/
def flushErr (ctx : Nat) (h : IoHdr) (nsid : Nat) (s : State) : Option Status :=
  if nsid = 0xFFFFFFFF then
    (s.ns.foldl (fun (b : Option (Nat × Status)) n => match b, ioCheck s ctx h (nsById s n.nsid) 0 0 true false noFlags with
      | some x, some e => if n.idx < x.1 then some (n.idx, e) else b
      | none, some e => some (n.idx, e)
      | _, none => b) none).map (·.2)
  else ioCheck s ctx h (nsById s nsid) 0 0 true false noFlags

/-- FLUSH: unpaired it completes at once; in paired mode at the next epoch-end mirror (R153). -/
def doFlush (h : IoHdr) (nsid : Nat) (s : State) : State :=
  if ¬ ioOpen s h then s else
  let p := arrive h .flush 0 0 [] noFlags false s
  match flushErr p.1.id h nsid p.2 with
  | some e => finishCtx p.1 e [] p.2
  | none =>
    if mirroring p.2 then p.2.putCtx { p.1 with
      phase := .flushWait, mirEpoch := p.2.tet.epoch + 1, nsid := nsid, ns := ((nsById p.2 nsid).map (·.idx)).getD 4096 }
    else finishCtx p.1 stOk [] p.2

/-- WRITE_ZEROES: no size limit beyond the namespace; whole stripes deallocate whether or not DEAC is set (R161). -/
def doWriteZeroes (h : IoHdr) (nsid slba nlb : Nat) (deac : Bool) (f : IoFlags) (s : State) : State :=
  if ioOpen s h then begin nsid false (arrive h (.zeroes deac) slba nlb [] f false s) else s

/-- DATASET_MANAGEMENT: without the deallocate attribute nothing changes. -/
def doDatasetManagement (h : IoHdr) (nsid : Nat) (ad : Bool) (rs : List (Nat × Nat)) (f : IoFlags) (s : State) : State :=
  if ioOpen s h then
    begin nsid false (arrive h (.dsm (if ad then rs else rs.map fun r => (r.1 + r.2, 0))) 0 0 [] f false s)
  else s

/-! ### Ends of waits -/

/-- A context goes on after a wait. -/
def resume (c : Ctx) (s : State) : State :=
  match nsAt s c.ns with
  | none => finishCtx c stNs [] s
  | some ns => match c.op with
    | .read => match c.phase with
      | .ring => readServe (onLostFor ns c) ns c s
      | .fill => readFound (onLostFor ns c) ns c s
      | _ => readAlloc (onLostFor ns c) ns c s
    | _ => writeGo ns c s

/-- The oldest context in a phase. -/
def oldest (s : State) (p : CPhase) : Option Ctx := s.ce.ctxs.find? fun c => c.phase = p

/-- STRIPE_LOCK_GRANT: the first waiting request of an entry that can be granted; its owner goes on (R94). -/
def doStripeLockGrant (s : State) : State :=
  match s.ce.locks.findSome? fun e => (grantable e).map fun w => (e.idx, w) with
  | none => s
  | some (idx, w) =>
    let s := { s with ce.locks := s.ce.locks.map fun x =>
      if x.idx = idx then { x with waiters := x.waiters.tail, holders := x.holders ++ [w] } else x }
    match s.ce.sops.find? fun o => sopOwner o.id = w.1 with
    | some o => destageGo o s
    | none => match ctxOf s w.1 with
      | none => unlock w.1 idx s
      | some c =>
        match lockGo c.need.tail { c with held := c.held ++ [idx] } s with
        | (true, c, s) => serve c (s.putCtx c)
        | (false, c, s) => s.putCtx c

/-- BASKET_ADMIT: the write that has waited longest, once its pages fit below the dirty limit (R205). -/
def doBasketAdmit (s : State) : State :=
  match oldest s .basket with
  | some c => resume c s
  | none => s

/-- SPAR_SHARE_ADMIT (R300). -/
def doSparShareAdmit (s : State) : State :=
  match oldest s .spar with
  | some c => resume c s
  | none => s

/-- RING_SPACE_ADMIT: INTENT writing resumes (R86). -/
def doRingSpaceAdmit (s : State) : State :=
  if ringShort s then s else
  let s := s.each ((s.ce.sops.filter fun o => o.phase = .ring).map (·.id)) fun s i =>
    match s.ce.sops.find? fun o => o.id = i with
    | some o => if o.phase = .ring then sopRingGo o s else s
    | none => s
  s.each ((s.ce.ctxs.filter fun c => c.phase = .ring).map (·.id)) fun s i =>
    match ctxOf s i with
    | some c => if c.phase = .ring then resume c s else s
    | none => s

/-- The head of a wait queue goes on; none where it would wait in the same place again. -/
def headResume (e : Nat × Nat) (s : State) : Option State :=
  match ctxOf s e.1 with
  | none => some s
  | some c =>
    let t := resume c s
    match ctxOf t e.1 with
    | some c' => if c'.phase = c.phase then none else some t
    | none => some t

/-- ENV_ALLOCATION_GRANT: the allocation at the head of the wait queue (R174), or the requester that waits there for a fill (R179). -/
def doEnvAllocationGrant (s : State) : State :=
  match s.env.allocQ with
  | [] => s
  | e :: q =>
    let s' := { s with env.allocQ := [] }
    let t := envDirty e.2 s'
    match if e.1 ≠ 0 then headResume e s' else if t.env.allocQ.isEmpty then some t else none with
    | some t => { t with env.allocQ := q ++ t.env.allocQ }
    | none => s

/-- EVICTION_BUFFER_GRANT: an allocation that waited for an eviction buffer entry (R178), or for the eviction of its own key (R180). -/
def doEvictionBufferGrant (s : State) : State :=
  if s.env.evb.length ≥ evbMax then s else
  match takeFirst (fun e : Nat × Nat => ¬ s.env.evb.any fun x => x.1 = e.2 && ¬ x.2) s.env.evbQ with
  | none => s
  | some (e, q) =>
    let s' := { s with env.evbQ := q }
    if e.1 = 0 then envDirty e.2 s' else (headResume e s').getD s

/-- SAVE_PAGE_GRANT: the destage that has waited longest for pages of its saved columns (R98). -/
def doSavePageGrant (s : State) : State :=
  match s.ce.sops.find? fun o => o.phase = .save with
  | some o => sopSave o s
  | none => s

/-- ORDERED_START: the first ordered command of a queue, once every earlier command has completed (R150). It acts on the namespace that
it named when it arrived. -/
def doOrderedStart (c q : Nat) (s : State) : State :=
  match s.ce.ctxs.find? fun x => x.h.ctrl = c && x.h.q = q && x.phase = .ordered with
  | some x => if earlier s x then s else startIo (nsAt s x.ns) true { x with phase := .lock } s
  | none => s

def execRead (h : IoHdr) (nsid slba nlb : Nat) (f : IoFlags) (s : State) : Out := live s (doRead h nsid slba nlb f s)
def execWrite (h : IoHdr) (nsid slba : Nat) (data : List Block) (f : IoFlags) (s : State) : Out := live s (doWrite h nsid slba data f s)
def execOrderedWrite (h : IoHdr) (nsid slba : Nat) (data : List Block) (f : IoFlags) (s : State) : Out :=
  live s (doOrderedWrite h nsid slba data f s)
def execOrderedRead (h : IoHdr) (nsid slba nlb : Nat) (f : IoFlags) (s : State) : Out := live s (doOrderedRead h nsid slba nlb f s)
def execFlush (h : IoHdr) (nsid : Nat) (s : State) : Out := live s (doFlush h nsid s)
def execWriteZeroes (h : IoHdr) (nsid slba nlb : Nat) (deac : Bool) (f : IoFlags) (s : State) : Out :=
  live s (doWriteZeroes h nsid slba nlb deac f s)
def execDatasetManagement (h : IoHdr) (nsid : Nat) (ad : Bool) (rs : List (Nat × Nat)) (f : IoFlags) (s : State) : Out :=
  live s (doDatasetManagement h nsid ad rs f s)
def execStripeLockGrant (s : State) : Out := live s (doStripeLockGrant s)
def execBasketAdmit (s : State) : Out := live s (doBasketAdmit s)
def execSparShareAdmit (s : State) : Out := live s (doSparShareAdmit s)
def execRingSpaceAdmit (s : State) : Out := live s (doRingSpaceAdmit s)
def execEnvAllocationGrant (s : State) : Out := live s (doEnvAllocationGrant s)
def execEvictionBufferGrant (s : State) : Out := live s (doEvictionBufferGrant s)
def execSavePageGrant (s : State) : Out := live s (doSavePageGrant s)
def execOrderedStart (c q : Nat) (s : State) : Out := live s (doOrderedStart c q s)

end Sys2Proof.Machine
end

