-- ==== Sys2Proof/Machine/EnvCmds.lean ====
section
/-! DEFINITION. Rows of the Envelope (R180 to R195): eviction, offers, Skirt fills, maintenance, the scratch window,
disabling, SRAM errors. -/

namespace Sys2Proof.Machine

/-- A rejected ENV write. -/
def envReject (code : Nat) (s : State) : State := s.wr R.ENV_STATUS_LAST_ERR code

/-! ### Eviction, offers, prefetch -/

/-- ENV_EVICTION_CONFIRM: Basket confirms the write of an eviction buffer entry, which is freed (R180). -/
def doEnvEvictionConfirm (k : Nat) (s : State) : State :=
  match takeFirst (fun e : Nat × Bool => e.1 = k && ¬ e.2) s.env.evb with
  | some (_, q) => { s with env.evb := q }
  | none => s

/-- The namespace block behind a MEMBER key has a write-store entry. -/
def keyHasEntry (s : State) (k : Nat) : Bool :=
  let a := bits k 45 4
  let m := bits k 40 5
  let b := strB s a
  let off := bits k 0 40 - dataLba
  match blockAt s a (off / b) (dIdx (memN s a) (off / b) m) (off % b) with
  | some (n, l) => (bskFind s n.idx l).isSome
  | none => false

/-- Basket accepts an offered line (R208). -/
def acceptsOffer (s : State) (k : Nat) : Bool :=
  decide (s.bsk.clean.length < s.rd R.BSK_DIRTY_CFG_CLEAN_MAX_GIB * gib) &&
  decide ((dirtyLimit s - dirtyPages s) + gib < freePages s) && ¬ keyHasEntry s k && writeBack s && ¬ s.pwr.dumping &&
  s.rd R.BAL_STATUS_STATE ≠ 4 && ¬ s.bsk.clean.any fun c => c.1 = k

/-- The block that a MEMBER key names. -/
def memberBlock (s : State) (k : Nat) : Block := (mediaRead s (memDrv s (bits k 45 4) (bits k 40 5)) (bits k 0 40)).getD 0

/-- ENV_OFFER: a clean victim is offered; Basket keeps it as a clean entry or declines it (R181, R208). -/
def doEnvOffer (k : Nat) (s : State) : State :=
  match takeFirst (fun e : Nat × Bool => e.1 = k && e.2) s.env.evb with
  | none => s
  | some (_, q) =>
    let s := { s with env.evb := q }
    if acceptsOffer s k then
      match freeRun s 1 with
      | some p =>
        let a := bits k 45 4
        let st := (bits k 0 40 - dataLba) / strB s a
        let col := (bits k 0 40 - dataLba) % strB s a
        let v := (dataAt s a st col (dIdx (memN s a) st (bits k 40 5)) []).getD (memberBlock s k)
        { s with bsk.clean := s.bsk.clean ++ [(k, p, s.tet.epoch)], bsk.pages := SMap.set 0 p v s.bsk.pages }
      | none => s.incWrap (R.ENV_CNTj_COUNT 7)
    else s.incWrap (R.ENV_CNTj_COUNT 7)

/-- SKIRT_FILL_RETURN: a prefetch fill returns; one whose generation was voided is discarded (R184). -/
def doSkirtFillReturn (k : Nat) (s : State) : State :=
  match s.env.skirt.find? fun l => l.key = k && ¬ l.filled with
  | none => s
  | some l =>
    if l.valid then
      { s with env.skirt := s.env.skirt.map fun (x : SkirtLine) => if x.key = k then { x with filled := true } else x }.incWrap (R.ENV_CNTj_COUNT 3)
    else { s with env.skirt := s.env.skirt.filter fun x => ¬ (x.key = k && ¬ x.filled) }

/-- SKIRT_STREAM_EXPIRE: an entry unused for 15,625 epochs is freed (R182). -/
def doSkirtStreamExpire (ns next : Nat) (s : State) : State :=
  { s with env.streams := s.env.streams.filter fun x => ¬ (x.ns = ns && x.next = next && decide (x.last + 15625 ≤ s.tet.epoch)) }

/-! ### Maintenance (R185, R186, R188) -/

/-- K of ENV_MAINT_KEY. -/
def maintKey (s : State) : Nat := s.rd R.ENV_MAINT_KEY_LO_KEY_LO + s.rd R.ENV_MAINT_KEY_HI_KEY_HI * 2 ^ 32

/-- The first rejection of Table 7.5 for a start with these fields. -/
def maintRefusal (s : State) (op form count : Nat) : Option Nat :=
  let k := maintKey s
  let mask := bits (s.rd R.ENV_MAINT_KEY_LO_KEY_LO) 16 16
  if 5 ≤ op ∨ (form = 0 ∧ 2 ≤ k / 2 ^ 62) then some eField
  else if form = 0 ∧ (count = 0 ∨ 65536 < count) then some eRange
  else if form = 0 ∧ k / 2 ^ 62 = 0 ∧ k / 2 ^ 40 ≠ (k + count - 1) / 2 ^ 40 then some eRange
  else if form = 0 ∧ k / 2 ^ 62 = 1 ∧ 2 ^ 24 ≤ bits k 0 62 + count - 1 then some eRange
  else if form = 1 ∧ mask = 0 then some eRange
  else if form = 1 ∧ op ≤ 2 ∧ 256 ≤ mask ∧ s.on R.ENV_STATUS_SCRATCH then some eState
  else if (op = 3 ∧ s.on R.ENV_STATUS_SCRATCH) ∨ (op = 4 ∧ ¬ s.on R.ENV_STATUS_SCRATCH) then some eState
  else if s.on R.ENV_STATUS_MAINT_BUSY ∨ s.rd R.ENV_STATUS_MODE = 1 ∨ s.on R.ENV_STATUS_INIT then some eBusy
  else none

/-- ENV_MAINT_RES: lines written to Basket and busy lines skipped by the last operation. -/
def maintCount (cleaned skipped : Nat) (s : State) : State :=
  (s.wr R.ENV_MAINT_RES_CLEANED (min 65535 cleaned)).wr R.ENV_MAINT_RES_SKIPPED (min 65535 skipped)

/-- A write of ENV_MAINT with operation `op`; the other fields as in `v`. Without START it stores its fields: a reserved OP is E_FIELD, and by
address a COUNT outside its range E_RANGE (R421). -/
def envMaint (op v : Nat) (s : State) : State :=
  let form := bits v 4 1
  let all := bits v 5 1
  let count := bits v 8 17
  let put := fun s : State => (((s.wr R.ENV_MAINT_OP op).wr R.ENV_MAINT_FORM form).wr R.ENV_MAINT_ALL_SETS all).wr R.ENV_MAINT_COUNT count
  if ¬ bit v 31 then
    if 5 ≤ op then envReject eField s
    else if form = 0 ∧ (count = 0 ∨ 65536 < count) then envReject eRange s
    else put s
  else match maintRefusal s op form count with
  | some c => envReject c s
  | none =>
    let s := (put s).wr R.ENV_STATUS_MAINT_BUSY 1
    let s := { s with env.maint := some (op, form, all, count, maintKey s) }
    if op = 3 then
      let s := { s with env.scratchOn := true }
      let n := (s.env.lines.filter fun l => decide (8 ≤ l.way) && l.st = .dirty).length
      dropLines (fun l => decide (8 ≤ l.way) && ¬ l.st.busy) (maintCount n 0 s)
    else if op = 4 then maintCount 0 0 s
    else s

/-- A line is covered by a maintenance operation. -/
def maintCovers (form all count k : Nat) (l : Line) : Bool :=
  if form = 0 then decide (k ≤ l.key) && decide (l.key < k + count)
  else bit (bits k 16 16) l.way && (all = 1 || l.set = bits k 0 10)

/-- A Skirt key is covered by an invalidation. DESIGN CHOICE (log entry 76): by set and way in one set it is every key whose set index is
SET, as the Skirt has no ways. -/
def maintSkirt (form all count k key : Nat) : Bool :=
  if form = 0 then decide (k ≤ key) && decide (key < k + count) else all = 1 || envSet key = bits k 0 10

/-- MAINT_DONE: the running operation completes. SCRATCH_ON completes once its busy lines have been released. -/
def doMaintDone (s : State) : State :=
  match s.env.maint with
  | none => s
  | some (op, form, all, count, k) =>
    let done := fun s : State => ({ s with env.maint := none }.wr R.ENV_STATUS_MAINT_BUSY 0).raise R.ENV_INT_STATUS_MAINT_DONE
    if op = 3 then
      if s.env.lines.any fun l => 8 ≤ l.way then s
      else done ({ s with env.scratch := [] }.wr R.ENV_STATUS_SCRATCH 1)
    else if op = 4 then done ({ s with env.scratch := [], env.scratchOn := false }.wr R.ENV_STATUS_SCRATCH 0)
    else
      let cov := maintCovers form all count k
      let skipped := (s.env.lines.filter fun l => cov l && l.st.busy).length
      let cleaned := (s.env.lines.filter fun l => cov l && l.st = .dirty).length
      let s := maintCount cleaned skipped s
      let s := envClean cov s
      let s := if op = 0 then s else
        let s := dropLines (fun l => cov l && ¬ l.st.busy) s
        { s with env.skirt := s.env.skirt.filter fun l => ¬ maintSkirt form all count k l.key }
      done s

/-! ### Disabling (R191) -/

/-- ENV_DISABLE_WRITE (Table 7.6). A combination that the table does not list has no effect. -/
def doEnvDisableWrite (v : Nat) (s : State) : State :=
  let dis := bit v 0
  let clean := bit v 1
  let mode := s.rd R.ENV_STATUS_MODE
  if s.on R.ENV_STATUS_MAINT_BUSY then envReject eBusy s
  else if mode = 0 ∧ dis then
    if clean then (s.wr R.ENV_DISABLE_DISABLE 1).wr R.ENV_STATUS_MODE 1
    else if dirtyLines s ≠ 0 then envReject eDirty s
    else
      let s := (s.wr R.ENV_DISABLE_DISABLE 1).wr R.ENV_STATUS_MODE 2
      dropLines (fun l => ¬ l.st.busy) { s with env.skirt := [] }
  else if mode = 1 ∧ ¬ dis then envReject eState s
  else if mode = 2 ∧ ¬ dis then (s.wr R.ENV_DISABLE_DISABLE 0).wr R.ENV_STATUS_MODE 0
  else s

/-- ENV_CLEAN_FIRST_DONE. -/
def doEnvCleanFirstDone (s : State) : State :=
  if s.rd R.ENV_STATUS_MODE ≠ 1 then s else
  let s := dropLines (fun l => ¬ l.st.busy) { s with env.skirt := [] }
  (s.wr R.ENV_STATUS_MODE 2).raise R.ENV_INT_STATUS_DISABLE_DONE

/-- ENV_CLR_ERR. -/
def doEnvClrErr (s : State) : State := s.wr R.ENV_STATUS_LAST_ERR 0

/-! ### The scratch window (R189) -/

/-- The window is mapped: on, and not being unmapped. -/
def scratchMapped (s : State) : Bool := s.on R.ENV_STATUS_SCRATCH && (s.env.maint.map (·.1)) ≠ some 4

/-- Bytes of the window. -/
def scratchSize : Nat := 32 * 2 ^ 20

/-- Write bytes of the window. -/
def scratchWrite (off : Nat) (bytes : List Nat) (s : State) : State :=
  { s with env.scratch := SMap.write 0 off ((bytes.take (scratchSize - off)).map (· % 256)) s.env.scratch }

/-- Read bytes of the window. -/
def scratchRead (s : State) (off len : Nat) : List Nat := SMap.read 0 off (min len (scratchSize - off)) s.env.scratch

/-- SCRATCH_WINDOW_ACCESS from BAR0. -/
def doScratchWindowAccess (link off : Nat) (bytes : List Nat) (wr : Bool) (len : Nat) (s : State) : State :=
  if scratchMapped s then
    if wr then scratchWrite off bytes s else s.emit (.window link (scratchRead s off len) false)
  else
    let s := s.raise R.ENV_INT_STATUS_WIN_OFF
    if wr then s else s.emit (.window link (List.replicate len 0) false)

/-! ### SRAM errors (R194) -/

/-- The contexts that a context overflow page holds: 16 of those beyond the first 4,096 (the device's own choice). -/
def overflowCtxs (s : State) (k : Nat) : List Ctx := ((s.ce.ctxs.drop 4096).drop (16 * (k % 1024))).take 16

/-- The blocks of an operation stand on the members as it wrote them. -/
def allNew (s : State) (o : SOp) : Bool :=
  let n := memN s o.array
  o.data.all fun w => w.1 = pMem n o.stripe || w.1 = qMem n o.stripe ||
    dataAt s o.array o.stripe w.2.1 (dIdx n o.stripe w.1) [] = some w.2.2

/-- A HELD line of an operation with an open INTENT fails: the stripe is repaired under its lock as at Dawn. -/
def heldAfter (c : Ctx) (s : State) : State :=
  let mine := s.ce.sops.filter fun o => o.owner = c.id && o.seq ≠ 0
  if mine.isEmpty then s else
  let r := mine.foldl (fun (acc : Bool × State) o =>
    let s := acc.2
    let s := { s with ce.mcmds := s.ce.mcmds.filter fun m => m.sop ≠ o.id }
    let s := match s.jrn.opens.find? fun r => r.seq = o.seq with
      | some r => repairIntent r s
      | none => s
    let s := { s with ce.sops := s.ce.sops.filter fun x => x.id ≠ o.id }
    (acc.1 && allNew s o, unlock c.id (lockIdx o.array o.stripe) s)) (true, s)
  finishCtx c (if r.1 then stOk else stInternal) [] r.2

/-- SRAM_UE: handled by the kind of line (Table 7.7). The contents that an index or map page is reloaded with are those it had: the extents
and the map on the members. -/
def doSramUe (k : SramLine) (s : State) : State :=
  let s := (s.incSat R.ENV_ECC_UE).raise R.ENV_INT_STATUS_ECC_UE
  match k with
  | .clean k => dropLines (fun l => l.key = k && l.st = .clean) s
  | .skirt k => { s with env.skirt := s.env.skirt.filter fun l => l.key ≠ k }
  | .evbOffer k => { s with env.evb := s.env.evb.filter fun e => ¬ (e.1 = k && e.2) }
  | .dirtyIndex _ => s
  | .dirtyLostMap _ => s
  | .dirtyBitmap k => bitmapLost k s
  | .dirtyOverflow k => s.each (overflowCtxs s k) fun s c => finishCtx c stInternal [] s
  | .heldBefore i =>
    match ctxOf s i with
    | some c => match c.op with
      | .read => s
      | _ =>
        let mine := s.ce.sops.filter fun o => o.owner = c.id
        if c.seqs.isEmpty ∧ mine.all (fun o => o.seq = 0) then finishCtx c stInternal [] (s.each mine fun s o => sopDrop o s) else s
    | none => s
  | .heldAfter i =>
    match ctxOf s i with
    | some c => heldAfter c s
    | none => s
  | .scratch link _ spool => if spool then s else s.emit (.window link [] true)

/-- SRAM_CE. -/
def doSramCe (n : Nat) (s : State) : State := (s.incSat R.ENV_ECC_CE n).raise R.ENV_INT_STATUS_ECC_CE

def execEnvEvictionConfirm (k : Nat) (s : State) : Out := live s (doEnvEvictionConfirm k s)
def execEnvOffer (k : Nat) (s : State) : Out := live s (doEnvOffer k s)
def execSkirtFillReturn (k : Nat) (s : State) : Out := live s (doSkirtFillReturn k s)
def execSkirtStreamExpire (ns next : Nat) (s : State) : Out := live s (doSkirtStreamExpire ns next s)
def execEnvMaintClean (v : Nat) (s : State) : Out := live s (envMaint 0 v s)
def execEnvMaintInvalidate (v : Nat) (s : State) : Out := live s (envMaint 1 v s)
def execEnvMaintCleanInval (v : Nat) (s : State) : Out := live s (envMaint 2 v s)
def execScratchOn (v : Nat) (s : State) : Out := live s (envMaint 3 v s)
def execScratchOff (v : Nat) (s : State) : Out := live s (envMaint 4 v s)
def execEnvDisableWrite (v : Nat) (s : State) : Out := live s (doEnvDisableWrite v s)
def execEnvCleanFirstDone (s : State) : Out := live s (doEnvCleanFirstDone s)
def execEnvClrErr (s : State) : Out := live s (doEnvClrErr s)
def execScratchWindowAccess (link off : Nat) (bytes : List Nat) (wr : Bool) (len : Nat) (s : State) : Out :=
  live s (doScratchWindowAccess link off bytes wr len s)
def execSramUe (k : SramLine) (s : State) : Out := live s (doSramUe k s)
def execSramCe (n : Nat) (s : State) : Out := live s (doSramCe n s)
def execMaintDone (s : State) : Out := live s (doMaintDone s)

end Sys2Proof.Machine
end

