-- ==== Sys2Proof/Machine/MbxOps.lean ====
section
/-! DEFINITION. The admin mailbox's shared operations (R386 to R394): replies, the order of checks, running places,
what ends a command without a reply. -/

namespace Sys2Proof.Machine

/-- Commands that run at once (R390). -/
def mbxPlaces : Nat := 8

/-- Bytes of one bank's buffer. -/
def mbxBuf : Nat := 4096

/-- The bytes of a reply (Table 16.5). -/
def replyBytes (op code tag detail : Nat) (payload : List Nat) : List Nat :=
  leBytes 2 op ++ [code, 0] ++ leBytes 4 payload.length ++ leBytes 4 tag ++ leBytes 4 detail ++ payload

/-- Write a reply to its sender: a bank's reply buffer, then BUSY, DONE, LAST_CODE and the causes (R389), or a message.
A header marked `resvBad` has no reader any more (R386). -/
def replyTo (h : MbxHdr) (op code detail : Nat) (payload : List Nat) (s : State) : State :=
  if h.resvBad then s else
  let s := s.emit (.reply h.src op code h.tag detail payload)
  match h.src with
  | .mctp .. => s
  | .bank b =>
    let s := { s with mbx.rep := SMap.write 0 (b * mbxBuf) (replyBytes op code h.tag detail payload) s.mbx.rep }
    let s := ((s.wr (R.MBX_STATUS_BUSY b) 0).wr (R.MBX_STATUS_DONE b) 1).wr (R.MBX_STATUS_LAST_CODE b) code
    let s := s.raise (R.MBX_INT_STATUS_DONE b)
    if code = eOk then s else s.raise (R.MBX_INT_STATUS_FAILED b)

/-- A running command completes with its reply; its place becomes free. -/
def mbxReply (h : MbxHdr) (op code detail : Nat) (payload : List Nat) (s : State) : State :=
  let run := match takeFirst (fun r : MbxRun => r.h = h && r.opcode = op) s.mbx.run with
    | some r => r.2
    | none => s.mbx.run
  replyTo h op code detail payload { s with mbx.run := run }

/-- Success without a payload. -/
def mbxOk (h : MbxHdr) (op : Nat) (s : State) : State := mbxReply h op eOk 0 [] s

/-- A rejection: nothing else changes. -/
def mbxErr (h : MbxHdr) (op code : Nat) (s : State) : State := mbxReply h op code 0 [] s

/-- A request passes the mailbox's checks or gets this code, or for a token that is used the state after it. -/
structure MbxSpec where
  op : Nat
  lenOk : Bool
  fieldBad : Bool
  rangeBad : Bool
  time : Bool
  safe : Bool
  tok : Option Token
deriving DecidableEq, Repr

/-- A plain command: no time, no token, not allowed in the safe state. -/
def plainSpec (op : Nat) (lenOk : Bool) : MbxSpec := ⟨op, lenOk, false, false, false, false, none⟩

/-- A command that changes arrays, namespaces or the configuration (R394). -/
def claimed (op : Nat) : Bool := (op / 256 = 1 && op ≠ 0x0103 && op ≠ 0x0106) || (op / 256 = 2 && op ≠ 0x0203)

/-- This unit is not the active unit: STANDBY, SYNCING, TAKING or FENCED (Table 12.1). -/
def notActive (s : State) : Bool := [1, 2, 4, 6].contains s.pairState

/-- The Tether gives shared time (R35). -/
def timeShared (s : State) : Bool := 2 ≤ s.rd R.TET_STATUS_STATE

/-- The boot ROM serves the mailbox (R391), or the device is in the safe state (R321). -/
def mbxRestricted (s : State) : Bool := s.safe || decide (s.dwn.step < 6)

/-- The checks of R388, R392 and R394 in their order, then the command's own action with a clean header. -/
def mbxRunCmd (h : MbxHdr) (m : MbxSpec) (act : MbxHdr → State → State) (s : State) : State :=
  let h0 := { h with resvBad := false }
  if 4080 < h.len ∨ ¬ m.lenOk then mbxErr h0 m.op eRange s
  else if h.resvBad ∨ m.fieldBad then mbxErr h0 m.op eField s
  else if m.rangeBad then mbxErr h0 m.op eRange s
  else if m.time ∧ ¬ timeShared s then mbxErr h0 m.op eTime s
  else
    let p := match m.tok with
      | some t => tokenUse m.op t s
      | none => (true, s)
    if ¬ p.1 then mbxErr h0 m.op eAuth p.2
    else if mbxRestricted p.2 ∧ ¬ m.safe then mbxErr h0 m.op eState p.2
    else if claimed m.op ∧ notActive p.2 then mbxErr h0 m.op eClaim p.2
    else act h0 p.2

/-- A stored header whose bank was reset has no reader any more. -/
def discardHdr (link : Nat) (h : MbxHdr) : MbxHdr := if h.src = .bank link then { h with resvBad := true } else h

/-- An MBX bank returns to its reset values (R226, R386): a command that waits is dropped, the result of one that runs
is discarded. -/
def mbxBankReset (link : Nat) (s : State) : State :=
  let f := discardHdr link
  let wait := s.mbx.wait.filter fun (q : MbxReq) => q.h.src ≠ MbxSrc.bank link
  let run := s.mbx.run.map fun (r : MbxRun) => { r with h := f r.h }
  let s := { s with mbx := ⟨SMap.clear (link * mbxBuf) mbxBuf s.mbx.req, SMap.clear (link * mbxBuf) mbxBuf s.mbx.rep, run, wait,
    s.mbx.rung.filter (· ≠ link)⟩ }
  let gone := s.ce.nsGone.map fun (p : MbxHdr × Nat) => (f p.1, p.2)
  let clearing := s.wsk.clearing.map fun (p : MbxHdr × Nat × Nat) => (f p.1, p.2)
  let pub := s.str.pub.map fun (p : MbxHdr × Nat) => (f p.1, p.2)
  let flash := s.dwn.flashOp.map fun (p : Nat × MbxHdr × Image × Nat) => (p.1, f p.2.1, p.2.2)
  let otp := s.dwn.otpOp.map fun (p : Nat × MbxHdr × Nat × Nat) => (p.1, f p.2.1, p.2.2)
  let s := { s with
    ce.nsGone := gone, wsk.clearing := clearing, str.pub := pub, dwn.flashOp := flash, dwn.otpOp := otp,
    pair.mbxWait := s.pair.mbxWait.map f, dwn.launch := s.dwn.launch.map f, pwr.nightReq := s.pwr.nightReq.map f,
    pwr.shutdownReq := s.pwr.shutdownReq.map f }
  let s := ((s.wr (R.MBX_STATUS_BUSY link) 0).wr (R.MBX_STATUS_DONE link) 0).wr (R.MBX_STATUS_LAST_ERR link) 0
  let s := ((s.wr (R.MBX_STATUS_LAST_CODE link) 0).wr (R.MBX_INT_STATUS_DONE link) 0).wr (R.MBX_INT_STATUS_FAILED link) 0
  (s.wr (R.MBX_INT_ENABLE_DONE link) 0).wr (R.MBX_INT_ENABLE_FAILED link) 0

/-- Every command that runs or waits ends without a reply (R213, R390). -/
def mbxAbandon (s : State) : State :=
  let s := writesCut s
  { s with
    ce.fwWrites := [],
    mbx.run := [], mbx.wait := [], mbx.rung := [], ce.nsGone := [], wsk.clearing := none, str.pub := none,
    pair.mbxWait := none, dwn.launch := none, dwn.flashOp := none, dwn.otpOp := none, pwr.nightReq := none,
    pwr.shutdownReq := none }

end Sys2Proof.Machine
end

