-- ==== Sys2Proof/Machine/Reset.lean ====
section
/-! DEFINITION. Resets of the device (R371, R372), what they keep, and the end of a NIGHT preparation (R361). -/

namespace Sys2Proof.Machine

/-- Member writes that the drives had been sent when the device stops: each block is written or not, as it happens. -/
def looseWrites (s : State) : State :=
  s.each (s.ce.mcmds.filter fun m => m.wr && m.issued) fun s m =>
    if m.dealloc then (if s.freeNat 1 = 1 then applyWrite m s.useFree else s.useFree)
    else s.each m.data fun s p => if s.freeNat 1 = 1 then applyWrite { m with data := [p] } s.useFree else s.useFree

/-- The PWR fields that only power-on resets (R375, Table 15.12, Table 15.13). -/
def aonFields : List Fld :=
  [R.PWR_RESET_CAUSE_POWER_ON, R.PWR_RESET_CAUSE_RST_N, R.PWR_RESET_CAUSE_WATCHDOG, R.PWR_RESET_CAUSE_RESTART,
   R.PWR_RESET_CAUSE_DUMP_RESET, R.PWR_RESET_CAUSE_THERM_TRIP, R.PWR_RESET_CAUSE_RET_RESTART, R.PWR_THERM_TRIPS,
   R.PWR_WAKE_SRC_WAKES, R.PWR_RET_STATUS_FAILED, R.PWR_RET_STATUS_VALID, R.GLB_SMBUS_ADDR]

/-- The drives after a reset of the device or out of NIGHT: those present are brought up again, phase `ph` (Table 9.4). A vault
drive that a dump gave up is judged anew (R213). -/
def drivesQuiet (ph : Nat) (s : State) : State :=
  let s := s.modVaults fun i v => if s.pwr.given.contains i then { v with present := true } else v
  let up := s.ext.drives.filterMap fun (p : Nat × Option Drive) => p.2.map fun (d : Drive) =>
    (⟨p.1, ph, { d with resetting := false, resetAt := none }⟩ : Coming)
  let rest := s.ext.coming.map fun (c : Coming) => { c with phase := ph }
  { s with ext.drives := [], ext.coming := up ++ rest }

/-- The Basket through a reset with power held (R204): the contents and the index stand in self-refresh. -/
def bskKeep (b : Bsk) : Bsk :=
  { b with laneCe := [], chanUe := [], fetching := [], scrubbing := false, selfRefresh := true }

/-- The RST_N scope: everything but AON (R371), where the test logic stands (R416). The marker number is new (R204); the Windsock's last record is that of
the store. -/
def resetDevice (cause : Fld) (s : State) : State :=
  let s := drivesQuiet 0 (looseWrites (writesCut s))
  let keep := aonFields.map fun f => (f, s.rd f)
  let r : State := { State.reset with
    pending := s.pending, out := s.out, freeCtr := s.freeCtr, ext := s.ext, bsk := bskKeep s.bsk, jtag := s.jtag,
    nv := { s.nv with marker := s.nv.marker + 1 },
    wsk := { State.reset.wsk with last := s.wsk.last, bad := s.wsk.bad, worst := s.wsk.worst, worstSeq := s.wsk.worstSeq },
    pwr := { Pwr.reset with rstHeld := s.pwr.rstHeld, tripHeld := s.pwr.tripHeld } }
  envWalk ((r.each keep fun r p => r.wr p.1 p.2).raise cause)

/-- Resets by code: bit 0 RST_N, bit 2 its pin still low, bit 3 watchdog, bit 1 thermal trip, which is held (R371, R372). -/
def resetGo (code : Nat) (s : State) : State :=
  let s := if bit code 3 then resetDevice R.PWR_RESET_CAUSE_WATCHDOG s else s
  let s := if bit code 0 then { resetDevice R.PWR_RESET_CAUSE_RST_N s with pwr.rstHeld := bit code 2 } else s
  if bit code 1 then { resetDevice R.PWR_RESET_CAUSE_THERM_TRIP s with pwr.tripHeld := true } else s

/-- A reset that is asked for: while a dump runs it waits for DUMPED (R213, R372). -/
def resetAsk (code : Nat) (s : State) : State :=
  if s.rd R.BAL_STATUS_STATE = 2 then { s with pwr.pendingRst := s.pwr.pendingRst ||| code } else resetGo code s

/-- The code of a NIGHT request in the mailbox. -/
def opNight : Nat := 0x0601

/-- A NIGHT request made through PWR_CTRL has no mailbox header to reply to. -/
def noHdr : MbxHdr := ⟨.mctp 0 0, 0, 0, true⟩

/-- The preparation of NIGHT is aborted (R361): E_STATE, NIGHT_ABORT, NOON. -/
def nightAbortNow (s : State) : State :=
  match s.pwr.nightReq with
  | none => s
  | some h =>
    let s := { s with pwr.nightReq := none, pwr.latch := 0, pwr.prepDone := false }
    let s := ((s.wr R.PWR_STATUS_STATE 0).wr R.PWR_STATUS_PREP_STEP 0).wr R.PWR_STATUS_LAST_ERR eState
    mbxErr h opNight eState (s.raise R.PWR_INT_STATUS_NIGHT_ABORT)

end Sys2Proof.Machine
end

