-- ==== Sys2Proof/Machine/Spool.lean ====
section
/-! DEFINITION. The Spool DMA engine (spec/10_spool_dma.md): spaces, descriptors and their checks, bursts, CRC, channel
states, triggers, timers, bus errors. A burst, a descriptor's end and a fetch are commands; the rounds of R261 issue the bursts. -/

namespace Sys2Proof.Machine

/-- Channel states (Table 10.11). -/
def chIdle : Nat := 0
def chQueued : Nat := 1
def chRunning : Nat := 2
def chWaiting : Nat := 3
def chHalted : Nat := 4

/-- A device channel (R247). -/
def splDevice (c : Nat) : Bool := (52 ≤ c && c ≤ 55) || c = 63

/-- A serial channel (R247). -/
def splSerial (c : Nat) : Bool := 56 ≤ c && c < 64

/-- A channel's working state. -/
def State.splCh (s : State) (c : Nat) : SplCh := s.spl.ch[c]?.getD SplCh.idle

/-- Change a channel's working state. -/
def State.modCh (s : State) (c : Nat) (f : SplCh → SplCh) : State := { s with spl.ch := modAt c f s.spl.ch }

/-- A channel's STATE. -/
def State.chState (s : State) (c : Nat) : Nat := s.rd (R.SPL_CHc_STATUS_STATE c)

/-- A rejected SPL write (R268). -/
def splReject (code : Nat) (s : State) : State := s.wr R.SPL_STATUS_LAST_ERR code

/-! ### Spaces (R248, R249) -/

/-- The link of a host space. -/
def spaceLink (sp : Nat) : Nat := match sp with
  | 0 => 0
  | 1 => 2
  | 2 => 1
  | _ => 3

/-- A host space that HOST_MASK and the bifurcation admit. -/
def hostSpaceOk (s : State) (sp : Nat) : Bool :=
  bit (s.rd R.SPL_CFG_HOST_MASK) sp && (sp < 2 || s.on (R.HPT_Pn_CFG_BIF (sp - 2)))

/-- The link of a host space is up and function 1 has Bus Master Enable. -/
def hostLinkOk (s : State) (sp : Nat) : Bool :=
  match s.links[spaceLink sp]? with
  | some l => l.up && l.bme
  | none => false

/-- Bytes of a space; `none` is unlimited. -/
def spaceSize (s : State) (sp : Nat) : Option Nat :=
  if sp < 4 then some (2 ^ 64)
  else if sp = 4 then some (s.bsk.u * 4096)
  else if sp = 5 then some scratchSize
  else if sp = 6 then some (256 * 1024)
  else none

/-- A range lies inside its space. -/
def inSpace (s : State) (sp a n : Nat) : Bool :=
  match spaceSize s sp with
  | some z => a + n ≤ z
  | none => true

/-- A request to a space fails at once with this cause (R266). DESIGN CHOICE (log entry 82): so does one to a host space that HOST_MASK or the
bifurcation excludes, which only COMPL and DESC of a channel can name. -/
def spaceFault (s : State) (sp : Nat) : Option Nat :=
  if sp < 4 then (if hostSpaceOk s sp && hostLinkOk s sp then none else some 3)
  else if sp = 5 then (if scratchMapped s then none else some 4)
  else none

/-- Bytes read from one of the device's own spaces. NULL reads as zeros. -/
def spaceRead (s : State) (sp a n : Nat) : List Nat :=
  if sp = 4 then SMap.read 0 a n s.bsk.user
  else if sp = 5 then scratchRead s a n
  else if sp = 6 then SMap.read 0 a n s.nv.user
  else List.replicate n 0

/-- Bytes written to a space. NULL discards. -/
def spaceWrite (sp a : Nat) (bs : List Nat) (s : State) : State :=
  if sp < 4 then s.emit (.hostWr sp a bs)
  else if sp = 4 then { s with bsk.user := SMap.write 0 a (bs.map (· % 256)) s.bsk.user }
  else if sp = 5 then scratchWrite a bs s
  else if sp = 6 then { s with nv.user := SMap.write 0 a (bs.map (· % 256)) s.nv.user }
  else s

/-! ### Descriptors (R250 to R253) -/

/-- A descriptor's 64 bytes as its fields. -/
def descOf (b : List Nat) : SplDesc :=
  let n := fun (o k : Nat) => leNat ((b.drop o).take k)
  let c := n 0 4
  { fmtOk := n 60 4 = 0x44534C50 && n 48 12 = 0 && n 5 1 < 32 && n 6 1 < 32 && n 7 1 < 16 &&
      (bit c 24 || bits (n 24 8) 4 2 = 0),
    length := bits c 0 24, last := bit c 24, wait := bit c 25, signal := bit c 26, fence := bit c 27,
    crcMode := bits c 28 2, crcCont := bit c 30, crcStore := bit c 31,
    srcSpace := bits (n 4 1) 0 4, dstSpace := bits (n 4 1) 4 4, srcRing := bits (n 5 1) 0 5, dstRing := bits (n 6 1) 0 5,
    crcSpace := bits (n 7 1) 0 4, srcAddr := n 8 8, dstAddr := n 16 8,
    nextSpace := bits (n 24 8) 0 4, nextAddr := n 24 8 / 64 * 64, crcAddr := n 32 8, user := n 40 8 }

/-- The ring size of a code, 0 for a linear range (R252). -/
def ringSize (k : Nat) : Nat := if k = 0 then 0 else 2 ^ (k + 11)

/-- Where byte i of a range stands (R252). -/
def ringAddr (k a i : Nat) : Nat :=
  if k = 0 then a + i else let z := 2 ^ (k + 11); let base := a / z * z; base + (a - base + i) % z

/-- The block that a range may touch: itself, or its ring. -/
def rangeBlock (k a n : Nat) : Nat × Nat := if k = 0 then (a, n) else (a / ringSize k * ringSize k, ringSize k)

/-- The byte ranges that a transfer touches, one or two where it wraps. -/
def touched (k a n : Nat) : List (Nat × Nat) :=
  if k = 0 then [(a, n)] else
  let z := ringSize k
  let base := a / z * z
  if a - base + n ≤ z then [(a, n)] else [(a, base + z - a), (base, n - (base + z - a))]

/-- Source and destination overlap (R255). -/
def overlaps (d : SplDesc) : Bool :=
  d.srcSpace = d.dstSpace &&
  (touched d.srcRing d.srcAddr d.length).any fun x => (touched d.dstRing d.dstAddr d.length).any fun y =>
    decide (x.1 < y.1 + y.2) && decide (y.1 < x.1 + x.2)

/-- Bytes of a stored CRC: 4, 8, or none (R256). -/
def crcLen (d : SplDesc) : Nat :=
  if ¬ d.crcStore then 0 else match d.crcMode with
    | 1 => 4
    | 2 => 8
    | _ => 0

/-- The spaces that a descriptor names. -/
def descSpaces (d : SplDesc) : List Nat :=
  [d.srcSpace, d.dstSpace, d.crcSpace] ++ if d.last then [] else [d.nextSpace]

/-- A descriptor's first failing check (Table 10.4): 1 DESC_LEN, 2 DESC_FMT. DESIGN CHOICE (log entry 82): CRC_SPACE names a host space
for the third row only where a CRC is stored. -/
def descCheck (s : State) (prev : Option Nat) (d : SplDesc) : Option Nat :=
  let long := fun k => k ≠ 0 && decide (ringSize k < d.length)
  let out := fun (sp : Nat) (p : Nat × Nat) => ¬ inSpace s sp p.1 p.2
  if ¬ d.fmtOk then some 2
  else if (descSpaces d).any (8 ≤ ·) ∨ d.crcMode = 3 ∨ 20 ≤ d.srcRing ∨ 20 ≤ d.dstRing ∨ (¬ d.last ∧ d.nextSpace = 7) then some 2
  else if ([d.srcSpace, d.dstSpace] ++ (if crcLen d = 0 then [] else [d.crcSpace]) ++
      (if d.last then [] else [d.nextSpace])).any fun sp => sp < 4 && ¬ hostSpaceOk s sp then some 2
  else if d.crcCont ∧ prev ≠ some d.crcMode then some 2
  else if d.length = 0 then some 1
  else if long d.srcRing ∨ long d.dstRing then some 1
  else if out d.srcSpace (rangeBlock d.srcRing d.srcAddr d.length) ∨ out d.dstSpace (rangeBlock d.dstRing d.dstAddr d.length) ∨
      (crcLen d ≠ 0 ∧ out d.crcSpace (d.crcAddr, crcLen d)) then some 2
  else if overlaps d ∧ (d.srcRing ≠ 0 ∨ d.dstRing ≠ 0 ∨ d.crcMode ≠ 0) then some 2
  else none

/-! ### Bursts and the CRC (R254 to R256) -/

/-- The copy runs in descending address order (R255). -/
def descending (d : SplDesc) : Bool := overlaps d && decide (d.srcAddr < d.dstAddr)

/-- The next burst after `m` bytes: its offset in the transfer and its length. -/
def burstOf (d : SplDesc) (m : Nat) : Nat × Nat :=
  if descending d then
    let e := d.length - m
    let n := min e (min ((d.srcAddr + e - 1) % 4096 + 1) ((d.dstAddr + e - 1) % 4096 + 1))
    (e - n, n)
  else
    let sa := ringAddr d.srcRing d.srcAddr m
    let da := ringAddr d.dstRing d.dstAddr m
    (m, min (d.length - m) (min (4096 - sa % 4096) (4096 - da % 4096)))

/-- The initial value of a running CRC. -/
def crcInit (mode : Nat) : Nat := if mode = 1 then 0xFFFFFFFF else 0xFFFFFFFFFFFFFFFF

/-- The running CRC over further bytes. -/
def crcStep (mode c : Nat) (bs : List Nat) : Nat :=
  match mode with
  | 1 => crcBytes 0x82F63B78 c bs
  | 2 => crcBytes 0x9A6C9329AC4BC9B5 c bs
  | _ => c

/-! ### The channel's registers -/

/-- SPL_CHc_DESC. -/
def chDesc (s : State) (c : Nat) : Nat × Nat :=
  (s.rd (R.SPL_CHc_DESC_LO_SPACE c),
   s.rd (R.SPL_CHc_DESC_HI_ADDR_HI c) * 2 ^ 32 + s.rd (R.SPL_CHc_DESC_LO_ADDR_LO c) * 64)

/-- Set SPL_CHc_DESC. -/
def setDesc (c sp a : Nat) (s : State) : State :=
  ((s.wr (R.SPL_CHc_DESC_LO_SPACE c) sp).wr (R.SPL_CHc_DESC_LO_ADDR_LO c) (a / 64)).wr (R.SPL_CHc_DESC_HI_ADDR_HI c) (a / 2 ^ 32)

/-- SPL_CHc_COMPL. -/
def chCompl (s : State) (c : Nat) : Nat × Nat :=
  (s.rd (R.SPL_CHc_COMPL_LO_SPACE c),
   s.rd (R.SPL_CHc_COMPL_HI_ADDR_HI c) * 2 ^ 32 + s.rd (R.SPL_CHc_COMPL_LO_ADDR_LO c) * 16)

/-- Raise a channel's bit of SPL_INT_DONE. -/
def splDone (c : Nat) (s : State) : State :=
  if c < 32 then s.raise R.SPL_INT_DONE_LO_DONE (2 ^ c) else s.raise R.SPL_INT_DONE_HI_DONE (2 ^ (c - 32))

/-- Raise a channel's bit of SPL_INT_ERR. -/
def splErr (c : Nat) (s : State) : State :=
  if c < 32 then s.raise R.SPL_INT_ERR_LO_ERR (2 ^ c) else s.raise R.SPL_INT_ERR_HI_ERR (2 ^ (c - 32))

/-- The completion record (Table 10.6). -/
def recordBytes (user status c n : Nat) : List Nat := leBytes 8 user ++ [status, c, 0, 0] ++ leBytes 4 n

/-- Write the completion record where COMPL names a space; one that lies outside its space never reaches it (R248). -/
def writeRecord (c status : Nat) (s : State) : State :=
  let p := chCompl s c
  let user := ((s.splCh c).desc.map (·.user)).getD 0
  if p.1 < 7 ∧ spaceFault s p.1 = none ∧ inSpace s p.1 p.2 16 then
    spaceWrite p.1 p.2 (recordBytes user status c (s.rd (R.SPL_CHc_DONE_DESC_COUNT c))) s
  else s

/-- Another serial channel holds the turn: RUNNING or HALTED (R262). -/
def serialTaken (s : State) (c : Nat) : Bool :=
  (List.range 8).any fun i => 56 + i ≠ c && (s.chState (56 + i) = chRunning || s.chState (56 + i) = chHalted)

/-- A channel starts or continues at SPL_CHc_DESC with a fresh budget. -/
def splRun (c : Nat) (s : State) : State :=
  let s := s.modCh c fun x => { x with budget := 0, desc := none, phase := .fetch, stopReq := false }
  s.wr (R.SPL_CHc_STATUS_STATE c) (if splSerial c && serialTaken s c then chQueued else chRunning)

/-- A trigger reaches a channel (Table 10.5). -/
def splTrig (c : Nat) (s : State) : State :=
  let st := s.chState c
  if st = chIdle then s
  else if st = chWaiting then splRun c s
  else if s.on (R.SPL_CHc_STATUS_PENDING c) then s.incSat (R.SPL_CHc_STATUS_MISSED c)
  else s.wr (R.SPL_CHc_STATUS_PENDING c) 1

/-- The channels that a source and selector trigger. -/
def splOf (s : State) (src sel : Nat) : List Nat :=
  (List.range 64).filter fun c => s.rd (R.SPL_CHc_CFG_TRIG_SRC c) = src && (src = 3 || s.rd (R.SPL_CHc_CFG_TRIG_SEL c) = sel)

/-- Triggers of a source (R258). -/
def splTrigAll (src sel : Nat) (s : State) : State := s.each (splOf s src sel) fun s c => splTrig c s

/-- The bursts of a channel in flight are abandoned. -/
def flightDrop (c : Nat) (s : State) : State := { s with spl.flight := s.spl.flight.filter fun x => x.1 ≠ c }

/-- A channel goes to IDLE with a status. -/
def splIdle (c status : Nat) (s : State) : State :=
  ((flightDrop c s).modCh c fun x => { x with desc := none, stopReq := false, phase := .fetch }).wr (R.SPL_CHc_STATUS_STATE c) chIdle |>.wr
    (R.SPL_CHc_STATUS_STATUS c) status

/-- A channel halts (Table 10.5): a record with the halt's status, the cause raised. A record that itself failed is not
written again. -/
def splHalt (c status : Nat) (rec : Bool) (s : State) : State :=
  let s := ((flightDrop c s).wr (R.SPL_CHc_STATUS_STATE c) chHalted).wr (R.SPL_CHc_STATUS_STATUS c) status
  splErr c (if rec then writeRecord c status s else s)

/-- A bus error halts the channel (R266). -/
def splBusErr (c sp addr dir cause : Nat) (s : State) : State :=
  let s := (s.wr (R.SPL_CHc_ERR_ADDR_LO_ADDR_LO c) addr).wr (R.SPL_CHc_ERR_ADDR_HI_ADDR_HI c) (addr / 2 ^ 32)
  let s := ((s.wr (R.SPL_CHc_ERR_INFO_SPACE c) sp).wr (R.SPL_CHc_ERR_INFO_DIR c) dir).wr (R.SPL_CHc_ERR_INFO_CAUSE c) cause
  splHalt c 4 (dir ≠ 5) (s.wr (R.SPL_CHc_ERR_INFO_VALID c) 1)

/-- The burst of a descriptor at a place of its transfer leaves each unit of `g` bytes of its destination old or new, which of the two is a
free value (R249, R264). New bytes that come from a host are free values. -/
def burstMix (g : Nat) (d : SplDesc) (m : Nat) (s : State) : State :=
  let b := burstOf d m
  let sa := ringAddr d.srcRing d.srcAddr b.1
  let da := ringAddr d.dstRing d.dstAddr b.1
  let pick := s.freeNat (b.2 + 1)
  let host := s.useFree.freeNat (8 * b.2)
  let new := if d.srcSpace < 4 then (List.range b.2).map fun i => bits host (8 * i) 8 else spaceRead s d.srcSpace sa b.2
  let old := spaceRead s d.dstSpace da b.2
  let bs := ((List.range b.2).zip (new.zip old)).map fun p => if bit pick ((da + p.1) / g - da / g) then p.2.1 else p.2.2
  spaceWrite d.dstSpace da bs s.useFree.useFree

/-- The bursts of a channel in flight to one of the device's own memories are cut. -/
def flightMix (g c : Nat) (s : State) : State :=
  match (s.splCh c).desc with
  | some d => if d.dstSpace < 4 ∨ d.dstSpace = 7 then s else
      s.each (s.spl.flight.filter fun y => y.1 = c) fun s y => burstMix g d y.2.1 s
  | none => s

/-- Power goes: a transfer to the Gondola user region leaves each of its 64-byte words old or new (R249). -/
def splCut (s : State) : State :=
  s.each (List.range 64) fun s c => if ((s.splCh c).desc.map (·.dstSpace)) = some 6 then flightMix 64 c s else s

/-- A channel is dropped (R264): the bursts in flight are abandoned, BYTES and DONE_DESC are undefined. -/
def splDrop (rec : Bool) (c : Nat) (s : State) : State :=
  let s := flightMix 1 c s
  let s := (s.wr (R.SPL_CHc_BYTES_BYTES c) (s.freeNat 24)).useFree
  let s := (s.wr (R.SPL_CHc_DONE_DESC_COUNT c) (s.freeNat 32)).useFree
  let s := splErr c (if rec then writeRecord c 6 s else s)
  splIdle c 6 s

/-- PFAIL_N recognised: every channel that is not IDLE is dropped, without a record (R265). -/
def splDropAll (s : State) : State :=
  s.each ((List.range 64).filter fun c => s.chState c ≠ chIdle) fun s c => splDrop false c s

/-! ### Control writes -/

/-- Writes to a channel that does not exist or belongs to the device. -/
def splHost (c : Nat) (f : State → State) (s : State) : State :=
  if 64 ≤ c then s else if splDevice c then splReject eAuth s else f s

/-- SPL_START. -/
def doSplStart (c : Nat) : State → State := splHost c fun s =>
  let st := s.chState c
  if st = chIdle then
    let s := (s.wr (R.SPL_CHc_DONE_DESC_COUNT c) 0).wr (R.SPL_CHc_STATUS_MISSED c) 0
    let s := (s.wr (R.SPL_CHc_ERR_INFO_VALID c) 0).modCh c fun x => { x with prevMode := none }
    if s.rd (R.SPL_CHc_CFG_TRIG_SRC c) = 0 then splRun c s
    else (s.modCh c fun x => { x with desc := none, phase := .fetch, stopReq := false }).wr (R.SPL_CHc_STATUS_STATE c) chWaiting
  else if st = chWaiting then splRun c s
  else splReject eState s

/-- SPL_STOP. -/
def doSplStop (c : Nat) : State → State := splHost c fun s =>
  let st := s.chState c
  if st = chIdle then s
  else if st = chHalted then splReject eState s
  else if st = chRunning then
    if splSerial c then splDrop true c s
    else if (s.splCh c).phase = .fetch then splDone c (splIdle c 5 s)
    else s.modCh c fun x => { x with stopReq := true }
  else splDone c (splIdle c 5 s)

/-! ### Rounds (R254, R261) -/

/-- The burst that channel `c` issues next: its place in the transfer and its length; none where the channel is not RUNNING with data to
move, or has 16 in flight. -/
def nextBurst (s : State) (c : Nat) : Option (Nat × Nat) :=
  let x := s.splCh c
  match x.desc with
  | none => none
  | some d =>
    if s.chState c ≠ chRunning ∨ x.phase ≠ .data then none else
    let mine := s.spl.flight.filter fun y => y.1 = c
    let m := match mine.getLast? with
      | some y => y.2.1 + y.2.2
      | none => s.rd (R.SPL_CHc_BYTES_BYTES c)
    if 16 ≤ mine.length ∨ d.length ≤ m then none else some (m, (burstOf d m).2)

/-- The bursts that one round gives a channel: 2^PRIO, 8 for the serial channel, 2 for device channels 52 to 55. -/
def roundShare (s : State) (c : Nat) : Nat :=
  if splSerial c then 8 else if splDevice c then 2 else 2 ^ s.rd (R.SPL_CHc_CFG_PRIO c)

/-- Issue up to `n` bursts of a channel. -/
def issueBursts (c : Nat) : Nat → State → State
  | 0, s => s
  | n + 1, s => match nextBurst s c with
    | some b => issueBursts c n { s with spl.flight := s.spl.flight ++ [(c, b)] }
    | none => s

/-- Rounds, while some channel has a burst ready: its channels in ascending number. -/
def issueRounds : Nat → State → State
  | 0, s => s
  | n + 1, s =>
    match (List.range 64).filter fun c => (nextBurst s c).isSome with
    | [] => s
    | cs => issueRounds n (s.each cs fun s c => issueBursts c (roundShare s c) s)

/-- Issue every burst that is ready; 16 rounds fill every channel. -/
def splIssue (s : State) : State := issueRounds 16 s

/-- SPL_RESUME: what failed is issued again (R267). -/
def doSplResume (c : Nat) : State → State := splHost c fun s =>
  if s.chState c ≠ chHalted then splReject eState s else
  let s := s.wr (R.SPL_CHc_STATUS_STATE c) chRunning
  let s := s.modCh c fun x => { x with desc := if x.phase = .fetch then none else x.desc }
  splIssue (if s.rd (R.SPL_CHc_STATUS_STATUS c) = 3 then s.modCh c fun x => { x with budget := 0 } else s)

/-- SPL_ABORT. -/
def doSplAbort (c : Nat) : State → State := splHost c fun s =>
  if s.chState c ≠ chHalted then splReject eState s else
  splIdle c (s.rd (R.SPL_CHc_STATUS_STATUS c)) (s.wr (R.SPL_CHc_STATUS_PENDING c) 0)

/-- SPL_TRIGGER: the source that the channel's CFG names fires. -/
def doSplTrigger (c : Nat) (s : State) : State :=
  if 64 ≤ c ∨ s.rd (R.SPL_CHc_CFG_TRIG_SRC c) = 0 then s else splTrig c s

/-- SPL_TIMER_TICK: a running timer ticks, but not in NIGHT (R265) and not before an aligned first tick. -/
def doSplTimerTick (k : Nat) (s : State) : State :=
  if 16 ≤ k ∨ s.rd (R.SPL_TMRk_PERIOD k) = 0 ∨ s.pwr.inNight ∨ s.spl.align.contains k then s else splTrigAll 1 k s

/-- SPL_TIMER_WRITE (Table 10.9). -/
def doSplTimerWrite (k v : Nat) (s : State) : State :=
  if 16 ≤ k then s else
  let p := bits v 0 31
  if 1 ≤ p ∧ p ≤ 99 then splReject eRange s
  else
    let s := (s.wr (R.SPL_TMRk_PERIOD k) p).wr (R.SPL_TMRk_ALIGN k) (bits v 31 1)
    let rest := s.spl.align.filter (· ≠ k)
    { s with spl.align := if bit v 31 ∧ p ≠ 0 then insNat k rest else rest }

/-- The epoch boundary: aligned timers tick for the first time, and the triggers of source 3 (order 10 of Table 2.3). -/
def splBoundary (s : State) : State :=
  let al := s.spl.align
  let s := { s with spl.align := [] }
  splTrigAll 3 0 (s.each al fun s k => splTrigAll 1 k s)

/-- Timers restart on wake from NIGHT, aligned as their ALIGN bits state (R265). -/
def splWake (s : State) : State :=
  { s with spl.align := (List.range 16).filter fun k => s.rd (R.SPL_TMRk_PERIOD k) ≠ 0 && s.on (R.SPL_TMRk_ALIGN k) }

/-! ### The chain -/

/-- SPL_DESC_FETCH: the descriptor is checked whole; it then moves data, or the channel halts. -/
def doSplDescFetch (c : Nat) (res : BurstRes) (s : State) : State :=
  let x := s.splCh c
  if 64 ≤ c ∨ s.chState c ≠ chRunning ∨ x.phase ≠ .fetch ∨ s.rd (R.SPL_CHc_LIMIT_CHAIN_LIMIT c) ≤ x.budget then s else
  let p := chDesc s c
  match spaceFault s p.1, res with
  | some cause, _ => splBusErr c p.1 p.2 3 cause s
  | none, .busErr cause _ => splBusErr c p.1 p.2 3 cause s
  | none, .ok bytes =>
    if ¬ inSpace s p.1 p.2 64 then splHalt c 2 true s else
    let d := descOf (if p.1 < 4 then bytes else spaceRead s p.1 p.2 64)
    let s := s.modCh c fun x => { x with desc := some d }
    match descCheck s x.prevMode d with
    | some st => splHalt c st true s
    | none =>
      let s := s.modCh c fun x => { x with phase := .data, budget := x.budget + 1, crc := if d.crcCont then x.crc else crcInit d.crcMode }
      splIssue (s.wr (R.SPL_CHc_BYTES_BYTES c) 0)

/-- The byte ranges that the descriptors in progress of other channels write, with their spaces. -/
def otherWrites (s : State) (c : Nat) : List (Nat × Nat × Nat) :=
  (List.range 64).flatMap fun i =>
    let x := s.splCh i
    if i = c ∨ x.phase ≠ .data then [] else match x.desc with
      | some d => if d.dstSpace = 7 then [] else (touched d.dstRing d.dstAddr d.length).map fun r => (d.dstSpace, r)
      | none => []

/-- A byte that other channels' descriptors write at the same time. -/
def contested (ws : List (Nat × Nat × Nat)) (sp a : Nat) : Bool := ws.any fun w => w.1 = sp && decide (w.2.1 ≤ a) && decide (a < w.2.1 + w.2.2)

/-- The bytes that a burst moves. Where descriptors of two channels in progress overlap the result is undefined (R255): such a byte is a
free value. DEDUCED (log entry 84): the descriptors of one chain run one after another, so that one finds what an earlier one wrote. -/
def burstBytes (c : Nat) (d : SplDesc) (off : Nat) (bs : List Nat) (s : State) : List Nat × State :=
  let ws := otherWrites s c
  let bad := fun i => contested ws d.srcSpace (ringAddr d.srcRing d.srcAddr (off + i)) || contested ws d.dstSpace (ringAddr d.dstRing d.dstAddr (off + i))
  if ws.isEmpty ∨ ¬ (List.range bs.length).any bad then (bs, s) else
  let v := s.freeNat (8 * bs.length)
  (((List.range bs.length).zip bs).map fun p => if bad p.1 then bits v (8 * p.1) 8 else p.2, s.useFree)

/-- One burst's data reaches its destination. -/
def burstMove (c : Nat) (d : SplDesc) (m off n : Nat) (bs : List Nat) (s : State) : State :=
  let p := burstBytes c d off bs s
  let bs := p.1
  let s := p.2
  let s := { s with spl.flight := (match takeFirst (fun y : Nat × Nat × Nat => y.1 = c) s.spl.flight with
    | some q => q.2
    | none => s.spl.flight) }
  let s := spaceWrite d.dstSpace (ringAddr d.dstRing d.dstAddr off) bs s
  let s := s.modCh c fun x => { x with
    crc := crcStep d.crcMode x.crc bs, phase := if m + n = d.length then .store else .data }
  splIssue (s.wr (R.SPL_CHc_BYTES_BYTES c) (m + n))

/-- SPL_BURST_DONE: of the bursts in flight, the channel's first completes, in transfer order. -/
def doSplBurstDone (c : Nat) (res : BurstRes) (s : State) : State :=
  let s := splIssue s
  let x := s.splCh c
  match x.desc with
  | none => s
  | some d =>
    if s.chState c ≠ chRunning ∨ x.phase ≠ .data then s else
    let m := s.rd (R.SPL_CHc_BYTES_BYTES c)
    let b := burstOf d m
    let sa := ringAddr d.srcRing d.srcAddr b.1
    let da := ringAddr d.dstRing d.dstAddr b.1
    match spaceFault s d.srcSpace, spaceFault s d.dstSpace, res with
    | some cause, _, _ => splBusErr c d.srcSpace sa 0 cause s
    | none, some cause, _ => splBusErr c d.dstSpace da 1 cause s
    | none, none, .busErr cause dir =>
      if dir = 1 then splBusErr c d.dstSpace da 1 cause s else splBusErr c d.srcSpace sa 0 cause s
    | none, none, .ok bytes =>
      burstMove c d m b.1 b.2 (if d.srcSpace < 4 then (bytes ++ List.replicate b.2 0).take b.2
        else spaceRead s d.srcSpace sa b.2) s

/-- The CRC store, if any; `none` where it went out, else the cause that stopped it. -/
def crcOut (c : Nat) (d : SplDesc) (s : State) : Option Nat × State :=
  if crcLen d = 0 then (none, s) else
  match spaceFault s d.crcSpace with
  | some cause => (some cause, s)
  | none =>
    let v := if d.crcMode = 1 then (s.splCh c).crc ^^^ 0xFFFFFFFF else (s.splCh c).crc ^^^ 0xFFFFFFFFFFFFFFFF
    (none, spaceWrite d.crcSpace d.crcAddr (leBytes (crcLen d) v) s)

/-- Where a fence reads: the space and the last byte written; none where FENCE does nothing (R259). -/
def fenceAt (d : SplDesc) : Option (Nat × Nat) :=
  if ¬ d.fence then none
  else if crcLen d ≠ 0 then some (d.crcSpace, d.crcAddr + crcLen d - 1)
  else if d.dstSpace = 7 then none
  else some (d.dstSpace, ringAddr d.dstRing d.dstAddr (d.length - 1))

/-- The descriptor ends: its completion is posted and the channel goes on, waits or stops (Table 10.5, R263). -/
def descEnd (c : Nat) (d : SplDesc) (s : State) : State :=
  let stop := (s.splCh c).stopReq
  let post := stop || d.last || d.signal
  let s := s.incWrap (R.SPL_CHc_DONE_DESC_COUNT c)
  let s := if post then splDone c (writeRecord c (if stop then 5 else 0) s) else s
  let s := s.modCh c fun x => { x with prevMode := some d.crcMode, desc := none, phase := .fetch }
  let s := if d.last then s else setDesc c d.nextSpace d.nextAddr s
  let s :=
    if stop then splIdle c 5 s
    else if d.last then splIdle c 0 s
    else if d.wait then
      if s.on (R.SPL_CHc_STATUS_PENDING c) then
        (s.wr (R.SPL_CHc_STATUS_PENDING c) 0).modCh c fun x => { x with budget := 0 }
      else s.wr (R.SPL_CHc_STATUS_STATE c) chWaiting
    else s
  if post ∧ ¬ stop then splTrigAll 4 c s else s

/-- The completion record and what follows it; a record that cannot be written halts the channel. -/
def recordOut (c : Nat) (d : SplDesc) (s : State) : State :=
  let p := chCompl s c
  let post := (s.splCh c).stopReq || d.last || d.signal
  match (if post ∧ p.1 < 7 then spaceFault s p.1 else none) with
  | some cause => splBusErr c p.1 p.2 5 cause (s.modCh c fun x => { x with phase := .record })
  | none => descEnd c d s

/-- SPL_DESC_DONE: the CRC store, the fence and the completion, each once (R259, R267). -/
def doSplDescDone (c : Nat) (res : BurstRes) (s : State) : State :=
  let x := s.splCh c
  match x.desc with
  | none => s
  | some d =>
    if s.chState c ≠ chRunning ∨ x.phase = .data ∨ x.phase = .fetch then s else
    let dir := match res with
      | .ok _ => 7
      | .busErr _ dir => dir
    let cause := match res with
      | .ok _ => 0
      | .busErr cause _ => cause
    if dir = 4 ∧ x.phase = .store ∧ crcLen d ≠ 0 then splBusErr c d.crcSpace d.crcAddr 4 cause s else
    match (if x.phase = .store then crcOut c d s else (none, s)) with
    | (some cause, s) => splBusErr c d.crcSpace d.crcAddr 4 cause s
    | (none, s) =>
      let s := s.modCh c fun x => { x with phase := if x.phase = .store then .fence else x.phase }
      match (if (s.splCh c).phase = .fence then fenceAt d else none) with
      | none =>
        if dir = 5 then splBusErr c (chCompl s c).1 (chCompl s c).2 5 cause (s.modCh c fun x => { x with phase := .record })
        else recordOut c d s
      | some f =>
        match spaceFault s f.1 with
        | some cause => splBusErr c f.1 f.2 2 cause s
        | none =>
          if dir = 2 then splBusErr c f.1 f.2 2 cause s
          else if dir = 5 then splBusErr c (chCompl s c).1 (chCompl s c).2 5 cause (s.modCh c fun x => { x with phase := .record })
          else recordOut c d s

/-- SPL_CHAIN_LIMIT: the budget is used up before a fetch (R260). -/
def doSplChainLimit (c : Nat) (s : State) : State :=
  let x := s.splCh c
  if 64 ≤ c ∨ s.chState c ≠ chRunning ∨ x.phase ≠ .fetch ∨ x.budget < s.rd (R.SPL_CHc_LIMIT_CHAIN_LIMIT c) then s
  else splHalt c 3 true s

/-- SPL_REQUEST_TIMEOUT: no completion within 1 ms of a data read, a fence or a descriptor fetch. -/
def doSplRequestTimeout (c dir : Nat) (s : State) : State :=
  if dir = 3 then doSplDescFetch c (.busErr 0 3) s
  else if dir = 0 then doSplBurstDone c (.busErr 0 0) s
  else if dir = 2 then
    match (s.splCh c).desc with
    | some d => if (fenceAt d).isSome then doSplDescDone c (.busErr 0 2) s else s
    | none => s
  else s

/-- SPL_SERIAL_TURN: the QUEUED channel with the lowest number runs, once no serial channel is RUNNING or HALTED. -/
def doSplSerialTurn (s : State) : State :=
  if serialTaken s 64 then s else
  match ((List.range 8).map (56 + ·)).find? fun c => s.chState c = chQueued with
  | some c => s.wr (R.SPL_CHc_STATUS_STATE c) chRunning
  | none => s

def execSplStart (c : Nat) (s : State) : Out := live s (doSplStart c s)
def execSplStop (c : Nat) (s : State) : Out := live s (doSplStop c s)
def execSplResume (c : Nat) (s : State) : Out := live s (doSplResume c s)
def execSplAbort (c : Nat) (s : State) : Out := live s (doSplAbort c s)
def execSplTrigger (c : Nat) (s : State) : Out := live s (doSplTrigger c s)
def execSplTimerTick (k : Nat) (s : State) : Out := live s (doSplTimerTick k s)
def execSplTimerWrite (k v : Nat) (s : State) : Out := live s (doSplTimerWrite k v s)
def execSplDescFetch (c : Nat) (res : BurstRes) (s : State) : Out := live s (doSplDescFetch c res s)
def execSplSerialTurn (s : State) : Out := live s (doSplSerialTurn s)
def execSplBurstDone (c : Nat) (res : BurstRes) (s : State) : Out := live s (doSplBurstDone c res s)
def execSplDescDone (c : Nat) (res : BurstRes) (s : State) : Out := live s (doSplDescDone c res s)
def execSplChainLimit (c : Nat) (s : State) : Out := live s (doSplChainLimit c s)
def execSplRequestTimeout (c dir : Nat) (s : State) : Out := live s (doSplRequestTimeout c dir s)
def execSplClrErr (s : State) : Out := live s (splReject eOk s)

end Sys2Proof.Machine
end

