-- ==== Sys2Proof/Machine/BskCmds.lean ====
section
/-! DEFINITION. Basket and Ballast (spec/08_basket_ballast.md): layout, errors by region, lane and channel failure,
scrub, arming, the dump, the restore and a held dump. -/

namespace Sys2Proof.Machine

/-! ### Population and layout (R196, R202) -/

/-- Capacity in pages of a population: 8 or 16 channels, one or two ranks, 2 or 4 Gb devices. -/
def popPages (channels ranks density : Nat) : Nat := (channels + 1) * 8 * (ranks + 1) * (131072 * (density + 1))

/-- BSK_POP and BSK_LAYOUT as a dump's header records them: CHANNELS, RANKS, DENSITY; WS_UNITS, USER_UNITS. -/
def popCode (s : State) : Nat :=
  (if s.on R.BSK_STATUS_HALF then 0 else s.rd R.BSK_POP_CHANNELS) + 2 * s.rd R.BSK_POP_RANKS + 4 * s.rd R.BSK_POP_DENSITY
def layoutCode (s : State) : Nat := s.rd R.BSK_LAYOUT_WS_UNITS + 256 * s.rd R.BSK_LAYOUT_USER_UNITS

/-- Pages in 256 MiB. -/
def unitPages : Nat := 65536

/-- W and U fit a capacity (the inequality of R202). -/
def layoutFits (c w u : Nat) : Bool := decide (w * 259 / 256 + unitPages + u ≤ c)

/-- The largest write store that fits. -/
def largestW (c u : Nat) : Nat :=
  ((List.range 128).map (· * unitPages)).foldl (fun m w => if layoutFits c w u then max m w else m) 0

/-- W for WS_UNITS: 0 selects the largest that fits. -/
def writeStore (c units u : Nat) : Nat := if units = 0 then largestW c u else units * unitPages

/-- Put a population and a layout in force. DESIGN CHOICE (log entry 85): where HALF leaves a capacity that the configured user region does
not fit, there is no user region; R328 speaks of the write store alone. -/
def layoutSet (pop layout : Nat) (s : State) : State :=
  let c := popPages (pop % 2) (pop / 2 % 2) (pop / 4 % 2)
  let u := layout / 256 * unitPages
  let u := if u + unitPages ≤ c then u else 0
  let w := writeStore c (layout % 256) u
  let w := if layoutFits c w u then w else largestW c u
  ({ s with bsk.cap := c, bsk.u := u, bsk.w := w }).wr R.BSK_LAYOUT_WS_ACT (w / unitPages)

/-- The configured layout for the channels in use. -/
def layoutConfigured (s : State) : State := layoutSet (popCode s) (layoutCode s) s

/-- The channel of a page (R197). -/
def pageChannel (s : State) (p : Nat) : Nat :=
  if s.on R.BSK_POP_CHANNELS ∧ ¬ s.on R.BSK_STATUS_HALF then
    (List.range 6).foldl (fun x k => x ^^^ bits p (4 * k) 4) 0
  else (List.range 8).foldl (fun x k => x ^^^ bits p (3 * k) 3) 0

/-- The region code of a page (Table 8.4); 6 for pages in no region. -/
def pageRegion (s : State) (p : Nat) : Nat :=
  let w := s.bsk.w
  let m := w * 259 / 256
  if p < w then 0 else if p < w + 2 * (w / 256) then 1 else if p < m then 2
  else if p < m + 16384 then 3 else if p < m + 32768 then 4 else if p < m + 36864 then 5
  else if s.bsk.cap - s.bsk.u ≤ p ∧ p < s.bsk.cap then 7 else 6

/-! ### The Ballast's state (R211, R212) -/

/-- NEED_MS for a limit in GiB and a mode, rounded up (R212). -/
def needMs (gibs mode : Nat) : Nat :=
  let l := gibs * 2 ^ 30
  let num := l * 256 * 256 + l * 254 + 15204352 * 254 * 256
  let den := 254 * 256 * (if mode = 0 then 24000000 else 12000000)
  25 + (num + den - 1) / den

/-- A vault drive is present and passes R210. -/
def vaultOk (s : State) (i : Nat) : Bool := ((s.ext.vaults[i]?).map fun v => v.present && v.passes).getD false

/-- The first condition of R211 that fails, as REASON names it; 0 where all hold. -/
def armReason (s : State) : Nat :=
  let v := s.ext.vaults
  if ¬ s.on R.BAL_CFG_EN then 1
  else if v.any fun x => ¬ x.present then 2
  else if v.any fun x => ¬ x.passes then 3
  else if (List.range 16).any fun c => s.on (R.BSK_CHc_FAILED c) then 4
  else if s.rd R.BAL_STATUS_STATE = 4 ∨ s.rd R.BAL_STATUS_STATE = 5 ∨ s.dwn.needsRestore then 5
  else if s.rd R.BAL_CFG_HOLDUP_MS < s.rd R.BAL_NEED_NEED_MS then 6
  else 0

/-- MODE and WT_CAUSE follow where service is open. -/
def wtServe (s : State) : State := if s.ready then wtUpdate s else s

/-- The Ballast is disarmed with a REASON. -/
def balDisarm (reason : Nat) (s : State) : State :=
  if s.rd R.BAL_STATUS_STATE = 1 then
    wtServe (((s.wr R.BAL_STATUS_STATE 0).wr R.BAL_STATUS_REASON reason).raise R.BAL_INT_STATUS_DISARMED)
  else s

/-- Arm, or name why not (R211): the vault headers become EMPTY with the next DUMP_SEQ. -/
def balArm (s : State) : State :=
  let r := armReason s
  if r ≠ 0 then ((s.wr R.BAL_STATUS_STATE 0).wr R.BAL_STATUS_REASON r).raise R.BAL_INT_STATUS_DISARMED
  else
    let q := (s.ext.vaults.filter (·.hdrOk)).foldl (fun m v => max m (v.seq + 1)) (s.nv.armedSeq + 1)
    let dev := s.nv.deviceId
    let pc := popCode s
    let lc := layoutCode s
    let s := { s with nv.armedSeq := q, nv.dumpStart := none }
    let s := s.modVaults fun _ v =>
      { v with hdrOk := true, complete := false, mirror := s.on R.BAL_CFG_MODE, seq := q, device := dev, pop := pc, layout := lc }
    (((s.wr R.BAL_STATUS_STATE 1).wr R.BAL_STATUS_REASON 0).wr R.BAL_SEQ_DUMP_SEQ q).raise R.BAL_INT_STATUS_ARMED

/-! ### Uncorrectable errors by region (Table 8.3) -/

/-- A destage of a stripe ends; then the stripe is marked lost. A stripe that a through-path write is replacing whole only
gives up its older entries. -/
def loseStripe (a st cause : Nat) (s : State) : State :=
  let mine := s.ce.sops.filter fun o => o.array = a && o.stripe = st
  if mine.any fun o => o.kind = .full || o.kind = .zero || o.kind = .trim then discardStripe a st s
  else markLost a st cause (s.each mine fun s o => sopDrop o s)

/-- The stripes that an extent covers. -/
def extentStripes (s : State) (e : Extent) : List Nat :=
  ((rangeFrom e.slba e.count).filterMap fun l => stripeOf s e.ns l).eraseDups

/-- An extent cannot be destaged: it is discarded and its stripes are marked lost; a companion is only discarded. -/
def extentLost (cause : Nat) (e : Extent) (s : State) : State :=
  let sts := extentStripes s e
  let s := bskRelease e s
  if e.companion then s else s.each sts fun s st => loseStripe e.array st cause s

/-- Unreleased extents with a page of a run. -/
def extentsAt (s : State) (lo n : Nat) : List Extent :=
  s.bsk.extents.filter fun e => decide (e.addr < lo + n) && decide (lo < e.addr + e.count)

/-- Every stripe of every marked region that lies in a namespace is marked lost (R209, Table 8.3, Table 8.8). -/
def regionsLost (cause : Nat) (s : State) : State :=
  s.each s.nv.dirtyMap fun s p =>
    let g := regionG s p.1
    s.each (rangeFrom (p.2 * g) g) fun s st =>
      if (s.arr p.1).stripes ≤ st ∨ nsOfStripe s p.1 st = none then s else loseStripe p.1 st cause s

/-- The other unit holds the page: it is fetched over Spar, and reads of it wait (R301). -/
def pairedCopy (s : State) : Bool := [1, 2, 3].contains s.pairState

/-- Ask the other unit for a page. -/
def fetchPage (p : Nat) (s : State) : State :=
  if s.bsk.fetching.contains p then s else { s.emit (.spar 7 [p]) with bsk.fetching := s.bsk.fetching ++ [p] }

/-- Handle an uncorrectable page that neither unit can supply, or that this unit has no peer for. -/
def pageLost (p : Nat) (both : Bool) (s : State) : State :=
  match pageRegion s p with
  | 0 => s.each (extentsAt s p 1) (fun s e => extentLost 2 e s) |> fun s =>
      { s with bsk.saved := s.bsk.saved.filter fun x => ¬ (decide (x.addr ≤ p) && decide (p < x.addr + x.count)) }
  | 1 => if both then regionsLost 2 s else s
  | 2 => s.each (extentsAt s (256 * (p - s.bsk.w - 2 * (s.bsk.w / 256))) 256) fun s e => extentLost 2 e s
  | _ => s

/-- An uncorrectable beat in a page (R201, Table 8.3). -/
def pageUe (p : Nat) (both : Bool) (s : State) : State :=
  let s := if s.bsk.clean.any fun c => c.2.1 = p then pagesGone p 1 { s with bsk.clean := s.bsk.clean.filter fun c => c.2.1 ≠ p } else s
  let m := s.bsk.w * 259 / 256
  match pageRegion s p with
  | 4 => bitmapLost (bskKey p) s
  | 5 => s.each (overflowCtxs s (p - m - 32768)) fun s c => finishCtx c stInternal [] s
  | 0 =>
    if (extentsAt s p 1).isEmpty ∧ ¬ s.bsk.saved.any (fun x => decide (x.addr ≤ p) && decide (p < x.addr + x.count)) then s
    else if pairedCopy s then fetchPage p s else pageLost p both s
  | 1 => if both ∧ pairedCopy s then fetchPage p s else pageLost p both s
  | 2 => if (extentsAt s (256 * (p - s.bsk.w - 2 * (s.bsk.w / 256))) 256).isEmpty then s
      else if pairedCopy s then fetchPage p s else pageLost p both s
  | _ => s

/-! ### Lanes and channels (R200) -/

/-- The window of R200 in epochs. -/
def eccWindow : Nat := 15625

/-- A channel is declared failed: CH_FAIL, the Ballast disarms, write-through. -/
def channelFail (c : Nat) (s : State) : State :=
  if s.on (R.BSK_CHc_FAILED c) then s
  else wtServe (balDisarm 4 ((s.wr (R.BSK_CHc_FAILED c) 1).raise R.BSK_INT_STATUS_CH_FAIL))

/-- A corrected error of a lane. -/
def eccCorrected (c l : Nat) (s : State) : State :=
  let s := ((s.incSat R.BSK_ECC_CE).incSat (R.BSK_CHc_CE c)).raise R.BSK_INT_STATUS_ECC_CE
  let now := s.tet.epoch
  let ls := (s.bsk.laneCe.filter fun x => decide (now < x.2.2 + eccWindow)) ++ [(c, l, now)]
  let s := { s with bsk.laneCe := ls }
  let bad := s.rd (R.BSK_CHc_LANE c)
  if (ls.filter fun x => x.1 = c && x.2.1 = l).length < 8 ∨ bad = l then s
  else if bad = 127 then (s.wr (R.BSK_CHc_LANE c) l).raise R.BSK_INT_STATUS_LANE_FAIL
  else channelFail c s

/-- An uncorrectable beat: counted, recorded, and the channel failed at the 16th within the window. -/
def eccUe (c p : Nat) (both : Bool) (s : State) : State :=
  let s := (s.incSat R.BSK_ECC_UE).raise R.BSK_INT_STATUS_ECC_UE
  let s := ((s.wr R.BSK_UE_ADDR_PAGE p).wr R.BSK_UE_ADDR_CHANNEL c).wr R.BSK_UE_ADDR_REGION (pageRegion s p)
  let s := s.wr R.BSK_UE_ADDR_VALID 1
  let now := s.tet.epoch
  let us := (s.bsk.chanUe.filter fun x => decide (now < x.2 + eccWindow)) ++ [(c, now)]
  let s := pageUe p both { s with bsk.chanUe := us }
  if (us.filter fun x => x.1 = c).length < 16 then s else channelFail c s

/-- BASKET_ECC_ERROR. -/
def doBasketEccError (c l p : Nat) (k : EccKind) (s : State) : State :=
  match k with
  | .corrected => eccCorrected c l s
  | .uncorrectable => eccUe c p false s
  | .uncorrectableBothIndex => eccUe c p true s

/-- COMMAND_PARITY_ERROR: the command is issued once more; a second error is an uncorrectable beat (R198). -/
def doCommandParityError (c p : Nat) (second : Bool) (s : State) : State := if second then eccUe c p false s else s

/-- SCRUB_PASS: a pass has read every burst. -/
def doScrubPass (s : State) : State :=
  ({ s with bsk.scrubbing := false }.incSat R.BSK_SCRUB_PASSES).raise R.BSK_INT_STATUS_SCRUB_DONE

/-- SCRUB_NOW: refused with E_BUSY while a pass started this way runs. -/
def doScrubNow (s : State) : State :=
  if s.bsk.scrubbing then s.wr R.BSK_STATUS_LAST_ERR eBusy else { s with bsk.scrubbing := true }

/-- BSK_CLR_ERR and BAL_CLR_ERR. -/
def doBskClrErr (s : State) : State := s.wr R.BSK_STATUS_LAST_ERR 0
def doBalClrErr (s : State) : State := s.wr R.BAL_STATUS_LAST_ERR 0

/-- BANK_REFRESH: the next bank of the rotation; none in self-refresh. -/
def doBankRefresh (s : State) : State :=
  if s.bsk.selfRefresh then s else { s with bsk.refresh := (s.bsk.refresh + 1) % 8 }

/-- CALIBRATE: traffic is held for at most 64 tCK; no state of the block changes. -/
def doCalibrate (s : State) : State := s

/-- A half of the channels trained whole, and an 8-channel population of the same ranks and density exists (Table 8.1). -/
def halfFits (t : State) : Bool :=
  let ok := fun c => t.on (R.BSK_CHc_TRAIN_OK c)
  t.on R.BSK_POP_CHANNELS && ¬ t.on R.BSK_POP_RANKS && ¬ t.on R.BSK_POP_DENSITY &&
  ((List.range 8).all ok || (rangeFrom 8 8).all ok)

/-- Bring up what trained: half of the channels, or nothing. -/
def bskFallback (half : Bool) (s : State) : State := if half then s.wr R.BSK_STATUS_HALF 1 else s.wr R.BSK_STATUS_MODE 3

/-- The Basket is empty. -/
def bskEmpty (s : State) : State := { s with bsk.pages := [], bsk.extents := [], bsk.saved := [], bsk.clean := [] }

/-! ### The dump (R213 to R215) -/

/-- The dirty pages: unreleased extents and saved columns. -/
def dirtyList (s : State) : List Nat :=
  (s.bsk.extents.flatMap fun e => rangeFrom e.addr e.count) ++ (s.bsk.saved.flatMap fun x => rangeFrom x.addr x.count)

/-- Units of 254 pages (Table 8.7). -/
def unitsOf : Nat → Nat → List Nat → List (Nat × List Nat)
  | 0, _, _ => []
  | n + 1, u, l => if l.isEmpty then [] else (u, l.take 254) :: unitsOf n (u + 1) (l.drop 254)

/-- The data units of a dump. -/
def dumpUnits (s : State) : List (Nat × List (Nat × Block)) :=
  let l := dirtyList s
  (unitsOf l.length 0 l).map fun u => (u.1, u.2.map fun p => (p, pageAt s p))

/-- The persistent state partition as it stands. -/
def persistNow (s : State) : Persist :=
  let r := rootNow s
  ⟨r, s.nv.arrEntries, s.nv.progs, s.nv.nsTable, if r = s.nv.rootA then s.nv.rootB else s.nv.rootA, s.nv.stepLog⟩

/-- Write a dump to the vault drives present: which seals stand, how many units, whether the header is COMPLETE. -/
def dumpWrite (journal index : Bool) (units : Nat) (complete mirror : Bool) (s : State) : State :=
  match s.nv.dumpStart with
  | none => s
  | some (q, e, n) =>
    let us := (dumpUnits s).take units
    let p := persistNow s
    let dev := s.nv.deviceId
    let pc := s.pwr.dumpCodes
    s.modVaults fun _ v =>
      if ¬ v.present ∨ ¬ v.passes then v else
      let v := { v with sealSeq := q, journalSeal := journal, indexSeal := index, ring := s.nv.ring, pers := p, units := us,
                        index := s.bsk.extents, saved := s.bsk.saved, mirror := mirror }
      let v := { v with pop := pc % 8, layout := pc / 8, pages := n }
      if complete then { v with hdrOk := true, complete := true, seq := q, epoch := e, device := dev } else v

/-- The layout of a dump: MIRROR where BAL_CFG says so or one vault drive is present (R214). -/
def dumpMirror (s : State) : Bool := s.on R.BAL_CFG_MODE || ¬ (vaultOk s 0 && vaultOk s 1) && s.pwr.given.isEmpty

/-- A dump can be taken (R214): not in NIGHT, not before arming, at least one vault drive that passed its checks. -/
def dumpDue (s : State) : Bool :=
  ¬ s.pwr.inNight && decide (17 ≤ s.dwn.step) && (s.ready || s.pwr.shutdownDone) && (vaultOk s 0 || vaultOk s 1) &&
  (s.rd R.BAL_STATUS_STATE = 0 || s.rd R.BAL_STATUS_STATE = 1)

/-- Everything in progress stops (Table 8.6): writes without an INTENT are abandoned without a completion, member writes
already issued are left to finish. -/
def dumpStop (s : State) : State :=
  let s := { mbxAbandon s with
    ce.ctxs := [], ce.sops := [], ce.locks := [], ce.adminWait := [], ce.jobs := [], ce.jobWait := [],
    ce.mcmds := s.ce.mcmds.filter fun m => m.wr && m.issued }
  { s with ce.mcmds := s.ce.mcmds.map fun (m : MCmd) => { m with owner := 0, sop := 0 } }

/-- PFAIL_RECOGNISED: a NIGHT preparation is aborted (R361); the dump starts where R214 has one. -/
def doPfailRecognised (s : State) : State :=
  let s := { nightAbortNow s with pwr.pfail := true }
  if ¬ dumpDue s then s else
  let armed := s.rd R.BAL_STATUS_STATE = 1
  let q := if armed then s.nv.armedSeq else s.nv.armedSeq + 1
  let n := dirtyPages s
  let s := dumpStop (splDropAll { s with nv.dumpStart := some (q, s.tet.epoch, n), nv.armedSeq := q })
  let s := { s with pwr.dumping := true, pwr.given := [], pwr.dumpCodes := popCode s + 8 * layoutCode s }
  (s.wr R.BAL_STATUS_STATE 2).wr R.BAL_SEQ_DUMP_SEQ q

/-- DUMPED: the device waits; a reset that was held back takes effect (R372). -/
def dumped (ms : Nat) (s : State) : State :=
  let s := { s with nv.dumpMs := min ms 65535 }
  let s := (s.wr R.BAL_STATUS_STATE 3).wr R.BAL_LAST_DUMP_MS (min ms 65535)
  let code := s.pwr.pendingRst
  if code = 0 then s else resetGo code { s with pwr.pendingRst := 0 }

/-- DUMP_COMPLETE: the dump has ended; `ok` is false where every vault drive was given up. -/
def doDumpComplete (ms : Nat) (ok : Bool) (s : State) : State :=
  if s.rd R.BAL_STATUS_STATE ≠ 2 then s
  else if ok ∧ (vaultOk s 0 ∨ vaultOk s 1) then
    let one := ¬ s.pwr.given.isEmpty
    let mir := dumpMirror s
    dumped ms (dumpWrite (mir || ¬ one) (mir || ¬ one) (dirtyPages s) true mir s)
  else dumped ms s

/-- What a dump that ends early leaves of itself: a prefix of its stream. -/
def dumpCut (s : State) : State :=
  if s.rd R.BAL_STATUS_STATE ≠ 2 then s else
  let j := decide (s.freeNat 1 = 1)
  let s := s.useFree
  let i := j && decide (s.freeNat 1 = 1)
  let s := s.useFree
  let n := if i then s.freeNat 24 else 0
  dumpWrite j i n false (dumpMirror s) s.useFree

/-- DUMP_SELF_RESET: 100 ms with power and PFAIL_N high after DUMPED. -/
def doDumpSelfReset (s : State) : State :=
  if s.rd R.BAL_STATUS_STATE = 3 then resetDevice R.PWR_RESET_CAUSE_DUMP_RESET s else s

/-- VAULT_DRIVE_FAILURE (R220). With the last drive given up the dump ends; what was written by then is a prefix, and the dump's duration is
a free value (R213). -/
def doVaultDriveFailure (n : Nat) (s : State) : State :=
  if n ≥ 2 ∨ ¬ ((s.ext.vaults[n]?).map (·.present)).getD false then s else
  let s := if vaultOk s (1 - n) then s else dumpCut s
  let s := s.modVaults fun i v => if i = n then { v with present := false } else v
  let s := s.wr (if n = 0 then R.BAL_STATUS_VAULT0 else R.BAL_STATUS_VAULT1) 0
  let s := s.raise R.BAL_INT_STATUS_VAULT_ERR
  if s.rd R.BAL_STATUS_STATE = 2 then
    let s := { s with pwr.given := n :: s.pwr.given }
    if vaultOk s 0 ∨ vaultOk s 1 then s else dumped (s.freeNat 16) s.useFree
  else balDisarm 2 s

/-! ### The restore (R215 to R218) -/

/-- The dump found at Dawn: its DUMP_SEQ, whether it is COMPLETE, whether its JOURNAL and INDEX seals stand. -/
structure DumpFound where
  seq : Nat
  complete : Bool
  seals : Bool
deriving DecidableEq, Repr

/-- Vault drives present. -/
def vaultsUp (s : State) : List Vault := s.ext.vaults.filter fun v => v.present && v.passes

/-- What the vault drives hold of the dump with a DUMP_SEQ. -/
def dumpOf (s : State) (q : Nat) : DumpFound :=
  ⟨q, (vaultsUp s).any fun v => v.hdrOk && v.complete && v.seq = q,
    (vaultsUp s).any fun v => v.sealSeq = q && v.journalSeal && v.indexSeal⟩

/-- The vault headers that are valid. -/
def vaultHdrs (s : State) : List Vault := (vaultsUp s).filter (·.hdrOk)

/-- The device's own Gondola says which dump was started since arming. DEDUCED (log entry 78): it says nothing of vault drives whose valid
headers all name another device, which a replacement unit finds however often it was armed itself; a unit that still holds dirty pages of
its own is no replacement. -/
def ownDump (s : State) : Bool :=
  s.on R.GON_STATUS_MRAM_OK && (s.nv.dumpStart.isSome || (decide (0 < s.nv.armedSeq) &&
    (decide (dirtyPages s ≠ 0) || (vaultHdrs s).isEmpty || (vaultHdrs s).any fun v => v.device = s.nv.deviceId)))

/-- The dump that the vault itself names (R217). -/
def vaultDump (s : State) : Option DumpFound :=
  let vs := vaultHdrs s
  let q := vs.foldl (fun m v => max m v.seq) 0
  if vs.any fun v => v.seq = q && (v.complete || (v.sealSeq = q && v.journalSeal)) then some (dumpOf s q) else none

/-- The journal of a dump names an array that has been assembled (R216). -/
def dumpNames (s : State) (q : Nat) : Bool :=
  (vaultHdrs s).any fun v => v.seq = q && v.pers.arrEntries.any fun e => (List.range 16).any fun a =>
    arrOn s a && (s.arr a).arrayId = e.arrayId && e.state % 8 ≠ 7

/-- The dump started since arming: by the Gondola's record, or without it by the vault itself (R217), as evidence of an array (R104). -/
def dumpEvid (s : State) : Option DumpFound :=
  if ownDump s then s.nv.dumpStart.map fun d => dumpOf s d.1 else vaultDump s

/-- The dump that is restored: without a record of its own, only one that names an assembled array (R216). -/
def dumpFound (s : State) : Option DumpFound :=
  if ownDump s then dumpEvid s else (dumpEvid s).filter fun d => dumpNames s d.seq

/-- The row of Table 8.8 that applies, 1 to 7. DEDUCED (log entry 78): a started dump that the vault itself names (R217) is restored by
the row whose case is its seals, the fourth, and without a valid INDEX seal the Basket is not restorable, the fifth or sixth row. -/
def bskSource (s : State) : Nat :=
  let kept := s.on R.BSK_STATUS_RETAINED
  if s.dwn.ballastHeld then 7 else
  match dumpFound s with
  | none => if kept then 1 else if s.nv.dirtyMap.isEmpty then 6 else 5
  | some d =>
    if d.complete then 2 else if kept then 3 else if d.seals then 4 else if s.nv.dirtyMap.isEmpty then 6 else 5

/-- A Windsock event that carries the epoch of an earlier moment. -/
def State.eventAt (s : State) (epoch code source : Nat) (payload : List Nat) : State :=
  let now := s.tet.epoch
  let s := ({ s with tet.epoch := epoch }).event code source payload
  { s with tet.epoch := now }

/-- The records of the dump that the device writes at Dawn, DUMP_START and DUMP_DONE (R213). -/
def dumpRecords (s : State) : State :=
  match s.nv.dumpStart with
  | none => s
  | some (q, e, n) =>
    let s := s.eventAt e 0x4500 0 (leBytes 4 q ++ leBytes 4 n)
    if (dumpOf s q).complete then s.eventAt e 0x0501 0 (leBytes 4 q ++ leBytes 2 s.nv.dumpMs) else s

/-- The vault that the restore reads. -/
def restoreVault (s : State) (q : Nat) : Option Vault := (vaultsUp s).find? fun v => v.sealSeq = q

/-- A data unit can be read: in STRIPE mode its blocks lie on drives that hold this dump. -/
def unitReadable (s : State) (v : Vault) (u : Nat) : Bool :=
  if v.mirror then true else
  let b0 := 3714 + (v.pages + 255) / 256 + 256 * u
  let alive := fun i => ((s.ext.vaults[i]?).map fun x => x.present && x.passes && x.sealSeq = v.sealSeq).getD false
  alive (b0 / 256 % 2) && alive ((b0 + 255) / 256 % 2)

/-- Restore a dump from a vault: pages, index, layout; pages of bad units are missing (R216). -/
def restoreGo (v : Vault) (ms : Nat) (bad : List Nat) (partly : Bool) (s : State) : State :=
  let us := v.units.filter fun u => unitReadable s v u.1 && ¬ bad.contains u.1
  let ps := us.flatMap (·.2)
  let there := fun x : Saved => (rangeFrom x.addr x.count).all fun p => ps.any fun y => y.1 = p
  let s := { s with bsk.pages := [], bsk.clean := [], bsk.extents := if v.indexSeal then v.index else [],
                    bsk.saved := if v.indexSeal then v.saved.filter there else [] }
  let s := s.each ps fun s p => { s with bsk.pages := SMap.set 0 p.1 p.2 s.bsk.pages }
  let differs := v.pop ≠ popCode s ∨ v.layout ≠ layoutCode s
  let s := if differs then (layoutSet v.pop v.layout s).wr R.BSK_STATUS_LAYOUT_HELD 1 else s
  let s := { s with dwn.needsRestore := false, dwn.restored := true }
  let s := (s.wr R.BAL_LAST_RESTORE_MS (min ms 65535)).wr R.BAL_LAST_PAGES_PAGES ps.length
  let s := (s.wr R.BAL_LAST_PAGES_PARTIAL (b2n partly)).wr R.BAL_STATUS_STATE 0
  let s := s.raise R.BAL_INT_STATUS_RESTORED
  let s := s.event 0x0502 0 (leBytes 4 ps.length ++ leBytes 2 ms ++ [b2n partly])
  if partly then (s.raise R.BAL_INT_STATUS_RESTORE_LOSS).event 0xC503 0 (4 :: leBytes 4 (v.pages - ps.length)) else s

/-- BALLAST_RESTORE: alongside DAWN_S12 to DAWN_S15, and before DAWN_S16 repairs (R216). -/
def doBallastRestore (ms : Nat) (bad : List Nat) (s : State) : State :=
  if ¬ s.dwn.needsRestore ∨ s.dwn.step < 12 ∨ 16 < s.dwn.step then s else
  match dumpFound s with
  | none => { s with dwn.needsRestore := false }.wr R.BAL_STATUS_STATE 0
  | some d =>
    match restoreVault s d.seq with
    | some v => restoreGo v ms bad (¬ d.complete) s
    | none => { s with dwn.needsRestore := false }.wr R.BAL_STATUS_STATE 0

/-- DISCARD: a held dump is given up (R219). What it names is marked lost once the arrays are assembled. -/
def doDiscard (s : State) : State :=
  if s.rd R.BAL_STATUS_STATE ≠ 5 then s.wr R.BAL_STATUS_LAST_ERR eState else
  let q := ((dumpEvid s).map (·.seq)).getD s.nv.armedSeq
  let idx := s.ext.vaults.find? fun v => v.sealSeq = q && v.indexSeal
  let s := { s with dwn.discard := some (match idx with
      | some v => (true, v.index)
      | none => (false, [])) }
  let s := s.modVaults fun _ v => { v with hdrOk := true, complete := false, sealSeq := 0 }
  let s := { s with dwn.ballastHeld := false, dwn.needsRestore := false, nv.dumpStart := none,
                    bsk.pages := [], bsk.extents := [], bsk.saved := [], bsk.clean := [] }
  let s := bskFallback (halfFits s) s
  let s := if s.bsk.cap ≠ 0 then layoutConfigured s else s
  (s.wr R.BAL_STATUS_STATE 0).wr R.BSK_STATUS_RETAINED 0

def execBasketEccError (c l p : Nat) (k : EccKind) (s : State) : Out := live s (doBasketEccError c l p k s)
def execScrubPass (s : State) : Out := live s (doScrubPass s)
def execScrubNow (s : State) : Out := live s (doScrubNow s)
def execBskClrErr (s : State) : Out := live s (doBskClrErr s)
def execBankRefresh (s : State) : Out := live s (doBankRefresh s)
def execCalibrate (s : State) : Out := live s (doCalibrate s)
def execPfailRecognised (s : State) : Out := live s (doPfailRecognised s)
def execDumpComplete (ms : Nat) (ok : Bool) (s : State) : Out := live s (doDumpComplete ms ok s)
def execDumpSelfReset (s : State) : Out := live s (doDumpSelfReset s)
def execVaultDriveFailure (n : Nat) (s : State) : Out := live s (doVaultDriveFailure n s)
def execBallastRestore (ms : Nat) (bad : List Nat) (s : State) : Out := live s (doBallastRestore ms bad s)
def execDiscard (s : State) : Out := live s (doDiscard s)
def execBalClrErr (s : State) : Out := live s (doBalClrErr s)
def execCommandParityError (c p : Nat) (second : Bool) (s : State) : Out := live s (doCommandParityError c p second s)

end Sys2Proof.Machine
end

