-- ==== Sys2Proof/Machine/Fence.lean ====
section
/-! DEFINITION. Claims and fencing (R235, R294, R305, R306): the frames a claim is told in, the claim itself, the reservation
commands that the device sends to its drives. A drive's keys are claims, so bits [15:0] of a key name the unit. -/

namespace Sys2Proof.Machine

/-! ### Frames out -/

/-- The next SEQ of a String frame type (Table 11.1). -/
def strSeq (s : State) (ty : Nat) : Nat := ((s.str.seqs.find? fun p => p.1 = ty).map (·.2)).getD 0

/-- Count the SEQ of a type up. -/
def strSeqUp (ty : Nat) (s : State) : State :=
  { s with str.seqs := (ty, (strSeq s ty + 1) % 65536) :: s.str.seqs.filter fun p => p.1 ≠ ty }

/-- A String port is up (LINK code 2). -/
def strPortUp (s : State) (port : Nat) : Bool :=
  (if port = 0 then s.rd R.STG_PORT_W_LINK else s.rd R.STG_PORT_E_LINK) = 2

/-- The ports that are up. -/
def strPorts (s : State) : List Nat := [0, 1].filter (strPortUp s)

/-- Broadcast a frame out of every up port. -/
def strBroadcast (ty : Nat) (vals : List Nat) (s : State) : State :=
  let q := strSeq s ty
  strSeqUp ty (s.each (strPorts s) fun s p => s.emit (.string p ty (0xFFFF :: q :: vals)))

/-- The device takes part in the String: JOINED, or ELECTING. -/
def strJoined (s : State) : Bool := s.rd R.STG_STATUS_STATE = 3

/-- A Spar frame goes out while the link is up. -/
def sparSend (ty : Nat) (vals : List Nat) (s : State) : State :=
  if s.on R.SPR_LINK_UP then s.emit (.spar ty vals) else s

/-! ### Claims (R294) -/

/-- A 64-bit claim's unit identifier. -/
def claimUnit (c : Nat) : Nat := c % 65536

/-- The drives of a list of numbers that are ready and support fencing. -/
def fenced (s : State) (d : Nat) : Bool := ((driveAt s d).map (·.desc.resvOk)).getD false

/-- The members present and the spares, by drive number. -/
def resvDrives (s : State) : List Nat :=
  let ms := (List.range 16).flatMap fun a => if arrOn s a then
      ((List.range (memN s a)).filter fun m => ¬ missing s a m || hasTarget s a m).map (memDrv s a) else []
  let sp := ((List.range 8).filter fun k => s.on (R.STR_SPAREk_VALID k)).map (spareDrv s)
  let cb := (List.range 16).filterMap fun a => (s.arr a).cb.map (·.dest)
  ((ms ++ sp ++ cb).eraseDups).filter fun d => (driveAt s d).isSome

/-- Every foreign key registered on present members and spares. -/
def foreignKeys (s : State) : List Nat :=
  ((resvDrives s).flatMap fun d => ((driveAt s d).map (·.keys)).getD []).filter fun k => claimUnit k ≠ s.unit

/-- SPR_CLAIM and SPR_PEER_CLAIM follow. -/
def claimRegs (s : State) : State :=
  let s := (s.wr R.SPR_CLAIM_LO_CLAIM_LO s.pair.claim).wr R.SPR_CLAIM_HI_CLAIM_HI (s.pair.claim / 2 ^ 32)
  (s.wr R.SPR_PEER_CLAIM_LO_CLAIM_LO s.pair.peerClaim).wr R.SPR_PEER_CLAIM_HI_CLAIM_HI (s.pair.peerClaim / 2 ^ 32)

/-- The claim a unit takes next: above its own and above every key that it must supersede. -/
def nextClaim (s : State) : Nat :=
  let own := max s.pair.claim s.pair.lastClaim
  let ks := s.pair.peerClaim :: foreignKeys s
  let e := ks.foldl (fun m k => if k = 0 then m else max m (k / 65536 + 1)) (if own = 0 then s.tet.epoch else max s.tet.epoch (own / 65536 + 1))
  e % 2 ^ 48 * 65536 + s.unit

/-- Take a claim with a ROLE and CAUSE (Table 4.8): a CLAIM record, or as standby a CLAIM frame that the active sequences
(R298); a CLAIM broadcast on the String (R288); CLAIM_LOST counts from here. -/
def takeClaim (role cause : Nat) (s : State) : State :=
  let c := nextClaim s
  let prev := max s.pair.claim s.pair.lastClaim
  let peer := if s.on R.SPR_CFG_EN then s.rd R.SPR_CFG_PEER_UNIT else 0xFFFF
  let vals := [role, cause, c, prev, peer]
  let s := claimRegs { s with pair.claim := c, pair.lastClaim := c }
  let s := s.wr R.SPR_STATUS_CLAIM_LOST 0
  let s := if role = 2 then s else record (.clm role cause c prev peer) s
  let s := sparSend 6 vals s
  if strJoined s then strBroadcast 0x0A vals s else s

/-! ### Reservation commands (R235, R306) -/

/-- Reservation Register, Replace: this unit's registration becomes its claim; a reservation that it holds goes with it. -/
def resvRegister (d : Nat) (s : State) : State :=
  if ¬ fenced s d then s else
  let c := s.pair.claim
  let u := s.unit
  (s.modDrive d fun x => { x with
    keys := c :: x.keys.filter fun k => claimUnit k ≠ u,
    holder := if x.holder ≠ 0 ∧ claimUnit x.holder = u then c else x.holder }).emit (.drive d 2 [c])

/-- Reservation Acquire, Exclusive Access. False where another unit holds the drive. -/
def resvAcquire (d : Nat) (s : State) : Bool × State :=
  match driveAt s d with
  | none => (true, s)
  | some x =>
    if ¬ x.desc.resvOk then (true, s)
    else if x.holder ≠ 0 ∧ claimUnit x.holder ≠ s.unit then (false, s.emit (.drive d 3 [s.pair.claim]))
    else
      let c := s.pair.claim
      (true, (s.modDrive d fun y => { y with holder := c }).emit (.drive d 3 [c]))

/-- Preempt and Abort every other key of a drive that is lower than this unit's claim. -/
def resvPreempt (d : Nat) (s : State) : State :=
  match driveAt s d with
  | none => s
  | some x =>
    if ¬ x.desc.resvOk then s else
    let c := s.pair.claim
    let ks := x.keys.filter fun k => claimUnit k ≠ s.unit && decide (k < c)
    let gone := fun k : Nat => ks.contains k
    let s := s.modDrive d fun y => { y with
      keys := y.keys.filter (fun k => ¬ gone k), holder := if y.holder = 0 ∨ gone y.holder then c else y.holder }
    s.each ks fun s k => s.emit (.drive d 4 [c, k])

/-- The states in which a unit acquires (Table 12.5). -/
def servesPair (s : State) : Bool := [0, 3, 5].contains s.pairState

/-- A drive that becomes a member or spare takes this unit's registration, and its reservation where the unit serves. -/
def resvJoin (d : Nat) (s : State) : Bool × State :=
  if s.pair.claim = 0 then (true, s) else
  let s := resvRegister d s
  if servesPair s then resvAcquire d s else (true, s)

/-! ### CLAIM_LOST (R306, R309) -/

/-- The device issues no further member command; what it has in flight ends without one. -/
def memberStop (s : State) : State :=
  let s := s.each s.ce.sops fun s o => sopDrop o s
  { s with ce.mcmds := [] }

/-- SEPARATED with a REASON; neither serves nor writes. -/
def separate (reason : Nat) (s : State) : State :=
  let s := (setPair 7 s).wr R.SPR_STATUS_REASON reason
  (s.raise R.SPR_INT_STATUS_SEPARATED).event 0xC404 0 [reason]

/-- Every outstanding I/O command completes with Asymmetric Access Inaccessible, and the write store and open state go. -/
def fenceOut (s : State) : State :=
  let s := s.each s.ce.ctxs fun s c => finishCtx c (3, 2, false) [] s
  let s := memberStop s
  { s with bsk.extents := [], bsk.saved := [], bsk.clean := [], jrn.opens := [], ce.locks := [] }

/-- CLAIM_LOST: a serving unit is FENCED; one that is taking over or splitting is SEPARATED (R310); a standby stays. -/
def claimLost (s : State) : State :=
  if s.on R.SPR_STATUS_CLAIM_LOST then s else
  let s := (s.wr R.SPR_STATUS_CLAIM_LOST 1).raise R.SPR_INT_STATUS_FENCED
  let s := s.event 0x8401 0 (leBytes 8 s.pair.claim ++ [s.pair.fenceMember])
  let st := s.pairState
  let s := if st = 1 ∨ st = 2 then s else memberStop s
  if st = 4 then separate 6 { s with pair.preempting := [] }
  else if st = 0 ∨ st = 3 ∨ st = 5 then
    if s.pair.preempting.isEmpty then setPair 6 (fenceOut s)
    else separate 6 (fenceOut { s with pair.preempting := [] })
  else s

/-- A drive joins, and a conflict on the way is CLAIM_LOST (R306). -/
def resvJoinGo (d : Nat) (s : State) : State :=
  let r := resvJoin d s
  if r.1 then r.2 else claimLost r.2

end Sys2Proof.Machine
end

