-- ==== Sys2Proof/Machine/Ports.lean ====
section
/-! DEFINITION. Host, drive and fabric ports (spec/09_ports.md): link events, drive bring-up and removal, queue pairs,
congestion control, priority flow control, MSI-X masks and cause registers. -/

namespace Sys2Proof.Machine

/-! ### Host links (R222 to R227) -/

/-- A host link exists in the present bifurcation. -/
def hostLinkExists (s : State) (l : Nat) : Bool := l < 4 && (l % 2 = 0 || s.on (R.HPT_Pn_CFG_BIF (l / 2)))

/-- A SerDes group failed DAWN_S10, or was left out: its ports stay down. Groups: HP0, HP1, BP0, BP1, FP0 to FP3, String,
Spar, DP0 to DP31. -/
def groupDead (s : State) (g : Nat) : Bool := bit s.dwn.dead g

/-- What a function of a host link shows in its configuration space: identifiers, class, BAR sizes in bytes, MSI-X vectors (Table 9.2). -/
structure PciFn where
  fn : Nat
  vendor : Nat
  device : Nat
  revision : Nat
  classCode : Nat
  bar0 : Nat
  bar2 : Nat
  vectors : Nat
deriving DecidableEq, Repr

/-- The functions that a link presents: HPn.0 both, HPn.1 function 1 alone (R223, R224). -/
def linkFunctions (s : State) (l : Nat) : List PciFn :=
  let f0 : PciFn := ⟨0, 0x1F3D, s.rd R.HPT_ID_DEVICE, s.rd R.HPT_ID_REV, 0x010802, 65536, 0, 1025⟩
  let f1 : PciFn := ⟨1, 0x1F3D, 0x9601, s.rd R.HPT_ID_REV, 0x088000, 67108864, 8192, 64⟩
  if ¬ hostLinkExists s l then [] else if l % 2 = 0 then [f0, f1] else [f1]

/-- The functions of a link that answer configuration requests: function 1 once the link has trained, function 0 after DAWN_S11 or in the
safe state; until then it answers with Request Retry Status (R225). -/
def linkAnswers (s : State) (l : Nat) : List PciFn :=
  if ((s.links[l]?).map (·.up)).getD false then (linkFunctions s l).filter fun f => f.fn = 1 || fn0Up s (l / 2) else []

/-- Change a host link. -/
def State.modLink (s : State) (l : Nat) (f : HLink → HLink) : State := { s with links := modAt l f s.links }

/-- HPT_Pn_LINK of a link. -/
def linkRegs (l up speed width : Nat) (flit : Bool) (s : State) : State :=
  let n := l / 2
  if l % 2 = 0 then
    (((s.wr (R.HPT_Pn_LINK_UP0 n) up).wr (R.HPT_Pn_LINK_SPEED0 n) speed).wr (R.HPT_Pn_LINK_WIDTH0 n) width).wr
      (R.HPT_Pn_LINK_FLIT0 n) (b2n flit)
  else
    (((s.wr (R.HPT_Pn_LINK_UP1 n) up).wr (R.HPT_Pn_LINK_SPEED1 n) speed).wr (R.HPT_Pn_LINK_WIDTH1 n) width).wr
      (R.HPT_Pn_LINK_FLIT1 n) (b2n flit)

/-- Function 1 of a link at its reset values (R226). -/
def fn1Reset (l : Nat) (s : State) : State :=
  mbxBankReset l (s.modLink l fun x => { x with msixEn := false, fmask := false, vmask := [], pend := [], bme := false })

/-- HOST_LINK_UP: a host link has trained; not before the end of DAWN_S02, but in the safe state (R225). -/
def doHostLinkUp (l speed width : Nat) (flit : Bool) (s : State) : State :=
  if ¬ hostLinkExists s l ∨ deviceOff s ∨ (s.dwn.step < 3 ∧ ¬ s.safe) ∨ groupDead s (l / 2) then s else
  let n := l / 2
  let full := if s.on (R.HPT_Pn_CFG_BIF n) then 8 else 16
  let s := linkRegs l 1 speed width flit (s.modLink l fun x => { x with up := true })
  let s := s.raise (R.HPT_INT_STATUS_LINK_UP n)
  if width < full ∨ speed < s.rd (R.HPT_Pn_CFG_MAX_SPEED n) then s.raise (R.HPT_INT_STATUS_DEGRADED n) else s

/-- HOST_LINK_RESET: the functions of one link return to reset; nothing else of the device does (R226). -/
def doHostLinkReset (l : Nat) (k : LinkReset) (s : State) : State :=
  if ¬ hostLinkExists s l ∨ deviceOff s then s else
  let n := l / 2
  let s := if l % 2 = 0 then ctrlReset n s else s
  let s := fn1Reset l (linkRegs l 0 0 0 false (s.modLink l fun x => { x with up := false }))
  match k with
  | .perst => (s.incSat (R.HPT_Pn_CNT_PERST n)).raise (R.HPT_INT_STATUS_PERST n)
  | .hotReset => s.raise (R.HPT_INT_STATUS_PERST n)
  | .linkDisable | .linkDown => (s.incSat (R.HPT_Pn_CNT_LINK_DOWN n)).raise (R.HPT_INT_STATUS_LINK_DOWN n)

/-- FLR_FUNCTION1: the same for function 1 alone; the link stays up. -/
def doFlrFunction1 (l : Nat) (s : State) : State :=
  if ¬ hostLinkExists s l ∨ deviceOff s then s else fn1Reset l s

/-- BUS_MASTER_ENABLE of function 1 (R249). -/
def doBusMasterEnable (l : Nat) (v : Bool) (s : State) : State :=
  if ((s.links[l]?).map (·.up)).getD false then s.modLink l fun x => { x with bme := v } else s

/-- A read of host memory fails: the command ends with Data Transfer Error, the error is counted (R227). -/
def hostReadFails (h : IoHdr) (s : State) : State :=
  if 2 ≤ h.ctrl then s else
  match s.ce.ctxs.find? fun c => c.h = h with
  | none => s
  | some c =>
    let s := (s.incSat (R.HPT_Pn_ERR_UNCORR h.ctrl)).raise (R.HPT_INT_STATUS_UNCORR h.ctrl)
    if c.sops.isEmpty ∧ c.seqs.isEmpty then finishCtx c (0, 4, false) [] s else s

/-- MSIX_UNMASK: a host that unmasks a vector has MSI-X enabled; a pending message goes out if the level is still 1
(R384). -/
def doMsixUnmask (l v : Nat) (s : State) : State :=
  match s.links[l]? with
  | none => s
  | some x =>
    if ¬ x.up ∨ 64 ≤ v then s else
    let send := x.msixEn && x.pend.contains v && x.levels.contains v
    let s := s.modLink l fun y => { y with
      vmask := if y.msixEn then y.vmask.filter (· ≠ v) else (List.range 64).filter (· ≠ v),
      msixEn := true, fmask := false, pend := y.pend.filter (· ≠ v) }
    if send then s.emit (.msix l v) else s

/-- A write of ones to the W1C fields of a register, as a link sees it (R8, R383). -/
def w1cWrite (l off v : Nat) (s : State) : State :=
  match layoutAt l off with
  | none => s
  | some lay => s.each lay fun s f => match f.acc with
    | .w1c => s.clr f.fld (bits v f.fld.lo f.fld.w)
    | _ => s

/-- INT_STATUS_W1C of a source of Table 16.6: its vectors send again where their level stays 1 (R384). -/
def doIntStatusW1c (l n v : Nat) (s : State) : State :=
  match intSources[n]? with
  | some p => { w1cWrite l p.1 v s with kicks := [kickOf l n] }
  | none => s

/-! ### Drive and vault ports (R228 to R235) -/

/-- A subport exists: DPp.0, DPp.1 with BIF, or a vault port (ports 32 and 33). -/
def subExists (s : State) (p sub : Nat) : Bool :=
  if p < 32 then sub = 0 || (sub = 1 && s.on (R.DRV_Pp_CFG_BIF p)) else p < 34 && sub = 0

/-- Drive number of a subport; 64 and 65 are the vault ports. -/
def drvNo (p sub : Nat) : Nat := if p < 32 then 2 * p + sub else 32 + p

/-- A field of DRV_Pp_S0, _S1 or DRV_BPn (Table 9.17). -/
def drvFld (d lo w : Nat) : Fld :=
  ⟨if d < 64 then 0x900104 + 0x10 * (d / 2) + 4 * (d % 2) else 0x900300 + 4 * (d - 64), lo, w, 0⟩

/-- A drive's port in the DRV_INT registers. -/
def drvInt (f : Fld) (d : Nat) (s : State) : State := if d < 64 then s.raise f (2 ^ (d / 2)) else s

/-- The drive present but not ready on a subport. -/
def comingAt (s : State) (d : Nat) : Option Coming := s.ext.coming.find? fun c => c.drv = d

/-- Move a drive to a phase of its bring-up. -/
def setPhase (d ph : Nat) (s : State) : State :=
  { s with ext.coming := s.ext.coming.map fun c => if c.drv = d then { c with phase := ph } else c }

/-- Take the drive of a subport away from the device. -/
def takeComing (d : Nat) (s : State) : State := { s with ext.coming := s.ext.coming.filter fun c => c.drv ≠ d }

/-- The drive of a subport is no longer ready. -/
def unready (d : Nat) (s : State) : State := { s with ext.drives := SMap.set none d none s.ext.drives }

/-- A drive that has never been seen. -/
def blankDrive (d : DriveDesc) : Drive := ⟨d, [], [], none, none, none, none, [], [], 0, 0, 0, none, false⟩

/-- The link and power fields of a subport at zero. -/
def drvDark (d : Nat) (s : State) : State :=
  (((((s.wr (drvFld d 1 1) 0).wr (drvFld d 2 1) 0).wr (drvFld d 3 3) 0).wr (drvFld d 6 3) 0).wr (drvFld d 12 1) 0).wr (drvFld d 13 1) 0

/-- DRIVE_PRESENCE: PRSNT_N asserts; the debounce starts, or waits for DAWN_S11. A drive seen before keeps its
contents. -/
def doDrivePresence (p sub : Nat) (x : DriveDesc) (s : State) : State :=
  let d := drvNo p sub
  if ¬ subExists s p sub ∨ (comingAt s d).isSome ∨ (d < 64 ∧ (driveAt s d).isSome) ∨
      (64 ≤ d ∧ ((s.ext.vaults[d - 64]?).map (·.present)).getD false) then s else
  let drive := match s.ext.loose.find? fun y => y.desc.nguid = x.nguid with
    | some y => { y with desc := x, resetAt := none, resetting := false }
    | none => blankDrive x
  let ph := if deviceOff s ∨ s.dwn.step < 11 ∨ s.safe then 0 else 1
  let s := { s with ext.loose := s.ext.loose.filter fun y => y.desc.nguid ≠ x.nguid,
                    ext.coming := s.ext.coming ++ [(⟨d, ph, drive⟩ : Coming)] }
  if d < 64 then s else s.modVaults fun i v => if i = d - 64 ∧ v.nguid ≠ x.nguid then { Vault.absent with nguid := x.nguid } else v

/-- DRIVE_BRINGUP_TIMER: the next row of Table 9.4, or another training try. -/
def doDriveBringupTimer (p sub : Nat) (s : State) : State :=
  let d := drvNo p sub
  match comingAt s d with
  | none => s
  | some c =>
    if deviceOff s then s else
    match c.phase with
    | 1 => ((setPhase d 2 s).wr (drvFld d 0 1) 1).wr (drvFld d 1 1) 1 |>.emit (.drive d 6 [1, 0])
    | 2 => (setPhase d 3 s).emit (.drive d 6 [1, 1])
    | 3 => setPhase d 4 s
    | 4 => setPhase d 5 s
    | 5 => drvInt R.DRV_INT_LINK_PORTS d ((setPhase d 7 s).wr (drvFld d 14 1) 1)
    | _ => s

/-- Trained rate and width of a drive link; below the full width or MAX_SPEED it is degraded. -/
def drvTrained (d speed width : Nat) (s : State) : State :=
  let full := if d < 64 ∧ s.on (R.DRV_Pp_CFG_BIF (d / 2)) then 2 else 4
  let top := if d < 64 then s.rd (R.DRV_Pp_CFG_MAX_SPEED (d / 2)) else 5
  let s := ((s.wr (drvFld d 2 1) 1).wr (drvFld d 3 3) speed).wr (drvFld d 6 3) width
  if width < full ∨ speed < top then drvInt R.DRV_INT_LINK_PORTS d (s.wr (drvFld d 13 1) 1) else s.wr (drvFld d 13 1) 0

/-- DRIVE_LINK_UP: L0 reached, at bring-up or after retraining. -/
def doDriveLinkUp (p sub speed width : Nat) (s : State) : State :=
  let d := drvNo p sub
  if deviceOff s ∨ groupDead s (if p < 32 then 10 + p else p - 30) then s else
  match comingAt s d with
  | some c => if 3 ≤ c.phase ∧ c.phase ≤ 5 then drvTrained d speed width (setPhase d 6 s) else s
  | none =>
    if 64 ≤ d then (if ((s.ext.vaults[d - 64]?).map (·.present)).getD false then drvTrained d speed width s else s) else
    match driveAt s d with
    | some _ => if s.on (drvFld d 2 1) then s else
        drvTrained d speed width (s.modDrive d fun x => { x with resetting := false })
    | none => s

/-- The spare entries that name a drive. -/
def sparesOn (s : State) (d : Nat) : List Nat :=
  (List.range 8).filter fun k => s.on (R.STR_SPAREk_VALID k) && spareDrv s k = d

/-- What USE reads for a drive (Table 9.17). -/
def driveUse (s : State) (d : Nat) : Nat :=
  if 64 ≤ d then (if ((s.ext.vaults[d - 64]?).map (·.present)).getD false then 5 else 0)
  else if (driveAt s d).isNone then 0
  else if (sparesOn s d).any fun k => s.rd (R.STR_SPAREk_SPARE_STATE k) = 3 then 4
  else if (match memberOf s d with
    | some (a, m) => ¬ missing s a m || hasTarget s a m
    | none => false) then 1
  else if (List.range 16).any fun a => ((s.arr a).cb.map (·.dest)) = some d then 3
  else if (sparesOn s d).isEmpty then 0 else 2

/-- A vault drive passes the checks of R210 that its descriptor shows. -/
def vaultFits (x : DriveDesc) : Bool := x.fmtOk && x.metaBytes = 0 && decide (8388608 ≤ x.blocks)

/-- A vault drive is up; whether it passes counts from DAWN_S11 (R211). -/
def vaultReady (n : Nat) (passes : Bool) (s : State) : State :=
  let s := takeComing (64 + n) (s.modVaults fun i v => if i = n then { v with present := true, passes := passes } else v)
  ((s.wr (drvFld (64 + n) 0 1) 1).wr (drvFld (64 + n) 1 1) 1).wr (if n = 0 then R.BAL_STATUS_VAULT0 else R.BAL_STATUS_VAULT1)
    (b2n passes)

/-- After a wake the Ballast is armed once both vault drives are back (R366). -/
def rearmCheck (s : State) : State :=
  if s.pwr.rearm ∧ vaultOk s 0 ∧ vaultOk s 1 then wtServe (balArm { s with pwr.rearm := false }) else s

/-- DRIVE_READY: Identify and queue creation are done; members and spares are registered and acquired (R235). -/
def doDriveReady (p sub : Nat) (s : State) : State :=
  let d := drvNo p sub
  match comingAt s d with
  | none => s
  | some c =>
    if c.phase ≠ 6 ∨ deviceOff s then s else
    if 64 ≤ d then rearmCheck (vaultReady (d - 64) (vaultFits c.drive.desc) s) else
    let s := takeComing d { s with ext.drives := SMap.set none d (some c.drive) s.ext.drives }
    let s := s.wr (drvFld d 12 1) (b2n (¬ c.drive.desc.resvOk))
    let s := s.each (sparesOn s d) fun s k =>
      if s.rd (R.STR_SPAREk_SPARE_STATE k) = 2 then s
      else s.wr (R.STR_SPAREk_SPARE_STATE k) (if passesR55 s d (s.rd (R.STR_SPAREk_META k)) then 1 else 3)
    let s := drvInt R.DRV_INT_ADD_PORTS d s
    if (resvDrives s).contains d then resvJoinGo d s else s

/-- The drive of a subport leaves: its member or spare goes (R232 steps 1 to 3). -/
def driveLost (d row : Nat) (s : State) : State :=
  let s := s.each (sparesOn s d) fun s k =>
    if s.rd (R.STR_SPAREk_SPARE_STATE k) = 2 then s else s.wr (R.STR_SPAREk_SPARE_STATE k) 0
  loseDrive d row s

/-- The attention output. -/
def attn (d : Nat) (s : State) : State :=
  if 64 ≤ d then s else if d % 2 = 0 then s.wr (R.DRV_Pp_CTRL_ATTN0 (d / 2)) 1 else s.wr (R.DRV_Pp_CTRL_ATTN1 (d / 2)) 1

/-- DRIVE_REMOVAL: PRSNT_N deasserts (R232). During a dump only the drive itself goes. -/
def doDriveRemoval (p sub : Nat) (s : State) : State :=
  let d := drvNo p sub
  let clear := fun s : State => (drvDark d (s.wr (drvFld d 0 1) 0)).wr (drvFld d 14 1) 0
  if deviceOff s then
    let gone := (comingAt s d).toList.map (·.drive) ++ (if d < 64 then (driveAt s d).toList else [])
    let s := takeComing d (unready d { s with ext.loose := (if d < 64 then gone else []) ++ s.ext.loose })
    if d < 64 then s else s.modVaults fun i v => if i = d - 64 then { v with present := false } else v
  else if 64 ≤ d then
    if (comingAt s d).isSome then clear (takeComing d s)
    else if s.pwr.given.contains (d - 64) then clear { s with pwr.given := s.pwr.given.filter (· ≠ d - 64) }
    else if ((s.ext.vaults[d - 64]?).map (·.present)).getD false then
      let s := clear (doVaultDriveFailure (d - 64) s)
      { s with pwr.given := s.pwr.given.filter (· ≠ d - 64) }
    else s
  else
  match comingAt s d, driveAt s d with
  | some c, _ => clear (takeComing d { s with ext.loose := c.drive :: s.ext.loose })
  | none, none => s
  | none, some x =>
    let s := { unready d s with ext.loose := { x with resetting := false } :: s.ext.loose }
    let s := if s.pwr.dumping then s else driveLost d 1 s
    drvInt R.DRV_INT_REMOVE_PORTS d (attn d (clear s)) |>.emit (.drive d 6 [0, 0])

/-- A rejected DRV write (R246). -/
def drvReject (code : Nat) (s : State) : State := s.wr R.DRV_STATUS_LAST_ERR code

/-- A subport holds a member, a spare in use or a copyback destination (R233). -/
def driveHeld (s : State) (d : Nat) : Bool :=
  driveUse s d = 1 || driveUse s d = 3 || (sparesOn s d).any fun k => s.rd (R.STR_SPAREk_SPARE_STATE k) = 2

/-- DRIVE_OFF: power off before removal (R233). -/
def doDriveOff (p sub : Nat) (s : State) : State :=
  if 32 ≤ p ∨ ¬ subExists s p sub then s else
  let d := drvNo p sub
  if driveHeld s d then drvReject eState s else
  let s := match driveAt s d with
    | some x => { driveLost d 1 (unready d s) with ext.coming := s.ext.coming ++ [(⟨d, 8, x⟩ : Coming)] }
    | none => setPhase d 8 s
  drvInt R.DRV_INT_REMOVE_PORTS d (attn d (drvDark d s)) |>.emit (.drive d 6 [0, 0])

/-- DRIVE_ON: power up through Table 9.4. -/
def doDriveOn (p sub : Nat) (s : State) : State :=
  if 32 ≤ p ∨ ¬ subExists s p sub then s else
  let d := drvNo p sub
  match comingAt s d with
  | some c => if 7 ≤ c.phase then (setPhase d 1 s).wr (drvFld d 14 1) 0 else s
  | none => if (driveAt s d).isSome then s else drvReject eState s

/-- DRIVE_LINK_EVENT (R234): a correctable error is counted; otherwise the link retrains and commands wait. -/
def doDriveLinkEvent (p sub : Nat) (k : LinkEvent) (s : State) : State :=
  let d := drvNo p sub
  if deviceOff s then s else
  match k, comingAt s d with
  | .correctable, _ => s.modDrive d fun x => { x with corr := x.corr + 1 }
  | _, some c => if c.phase = 6 then drvInt R.DRV_INT_LINK_PORTS d ((setPhase d 3 s).wr (drvFld d 2 1) 0) else s
  | _, none =>
    if 64 ≤ d then s.wr (drvFld d 2 1) 0
    else if (driveAt s d).isSome then
      drvInt R.DRV_INT_LINK_PORTS d ((s.modDrive d fun x => { x with resetting := true }).wr (drvFld d 2 1) 0)
    else s

/-- DRIVE_LINK_RETRAIN_TIMEOUT: not back in L0 within 1 s: the member is missing; the drive is brought up anew. -/
def doDriveLinkRetrainTimeout (p sub : Nat) (s : State) : State :=
  let d := drvNo p sub
  if 64 ≤ d then (if s.on (drvFld d 2 1) then s else doVaultDriveFailure (d - 64) s) else
  match driveAt s d with
  | none => s
  | some x =>
    if s.on (drvFld d 2 1) ∨ s.pwr.dumping then s else
    driveLost d 2 { unready d s with ext.coming := s.ext.coming ++ [(⟨d, 3, { x with resetting := false }⟩ : Coming)] }

/-! ### Fabric ports (R236 to R244) -/

/-- Subports of a fabric port. -/
def fabSubs (s : State) (p : Nat) : Nat := 2 ^ s.rd (R.FAB_Pp_CFG_BREAKOUT p)

/-- Rate of a subport in Gb/s. -/
def fabRate (s : State) (p : Nat) : Nat := 400 / fabSubs s p

/-- A subport exists and is up. -/
def fabUp (s : State) (p sub : Nat) : Bool := p < 4 && decide (sub < fabSubs s p) && bit (s.rd (R.FAB_Pp_LINK_UP p)) sub

/-- CM_CONNECT_REQUEST: a queue pair is taken, or the request is refused (R237). -/
def doCmConnectRequest (host p sub : Nat) (s : State) : State :=
  if ¬ taking s ∨ ¬ fabUp s p sub then s
  else if 4096 ≤ s.fab.qps.length then s.emit (.eth p sub 3 [host])
  else
    let r := fabRate s p * 65536
    let q : Qp := ⟨s.fab.nextQp, host, 0xFFFF, 0, 4 * p + sub, r, r, 0, 0, 0, 0, false⟩
    { s.emit (.eth p sub 4 [host, q.id]) with fab.qps := s.fab.qps ++ [q], fab.nextQp := s.fab.nextQp + 1 }

/-- A queue pair. -/
def qpOf (s : State) (q : Nat) : Option Qp := s.fab.qps.find? fun x => x.id = q

/-- QP_RETRY_EXHAUSTED: the error state; the association that it serves is lost (R154). -/
def doQpRetryExhausted (q : Nat) (s : State) : State :=
  match qpOf s q with
  | none => s
  | some x =>
    if x.err then s else
    let s := (s.modQp q fun y => { y with err := true }).raise R.FAB_INT_STATUS_QP_ERROR
    if x.ctrl = 0xFFFF then { s with fab.qps := s.fab.qps.filter fun y => y.id ≠ q } else endAssociation x.ctrl s

/-- ECN_CE_RECEIVED: one notification per queue pair per CNP_GAP epochs (R242). -/
def doEcnCeReceived (q : Nat) (s : State) : State :=
  match qpOf s q with
  | none => s
  | some x =>
    let p := x.port / 4
    let e := s.tet.epoch + 1
    if ¬ s.on (R.FAB_Pp_CFG_ECN_EN p) ∨ (x.lastCnp ≠ 0 ∧ e < x.lastCnp + s.rd R.FAB_CC_CNP_GAP) then s
    else ((s.modQp q fun y => { y with lastCnp := e }).incSat (R.FAB_Pp_CNP_TX p)).emit (.eth p (x.port % 4) 1 [q])

/-- CNP_RECEIVED: the rate is cut, at most once per epoch. -/
def doCnpReceived (q : Nat) (s : State) : State :=
  match qpOf s q with
  | none => s
  | some x =>
    let e := s.tet.epoch + 1
    let s := s.incSat (R.FAB_Pp_CNP_RX (x.port / 4))
    if ¬ s.on (R.FAB_Pp_CFG_ECN_EN (x.port / 4)) then s
    else s.modQp q fun y => { y with
      lastRx := e, lastCut := e, rate := if y.lastCut = e then y.rate else y.rate * (256 - s.rd R.FAB_CC_CUT) / 256 }

/-- CC_RECOVER: after RECOVER epochs without a notification the rate rises by STEP, once per epoch. -/
def doCcRecover (q : Nat) (s : State) : State :=
  match qpOf s q with
  | none => s
  | some x =>
    let e := s.tet.epoch + 1
    if ¬ s.on (R.FAB_Pp_CFG_ECN_EN (x.port / 4)) ∨ e < x.lastRx + s.rd R.FAB_CC_RECOVER ∨ x.lastUp = e then s
    else s.modQp q fun y => { y with lastUp := e, rate := min y.full (y.rate + s.rd R.FAB_CC_STEP * 65536) }

/-- The flow-control state of a priority. -/
def pfcOf (s : State) (p sub prio : Nat) : Pfc :=
  (s.fab.pfc.find? fun x => x.port = p && x.sub = sub && x.prio = prio).getD ⟨p, sub, prio, false, 0, false, 0, false, 0, 0, 0, false⟩

/-- Set it, and PAUSED of the subport. -/
def putPfc (x : Pfc) (s : State) : State :=
  let rest := s.fab.pfc.filter fun y => ¬ (y.port = x.port && y.sub = x.sub && y.prio = x.prio)
  let s := { s with fab.pfc := rest ++ [x] }
  let paused := (s.fab.pfc.filter fun y => y.port = x.port && y.sending).foldl (fun m y => m ||| 2 ^ y.sub) 0
  s.wr (R.FAB_Pp_LINK_PAUSED x.port) paused

/-- Count the present epoch in PAUSE_TX of a port, once. -/
def pauseTx (p : Nat) (s : State) : State :=
  if s.fab.txSeen.getD p 0 = s.tet.epoch + 1 then s else
  ({ s with fab.txSeen := modAt p (fun _ => s.tet.epoch + 1) s.fab.txSeen }).incWrap (R.FAB_Pp_PAUSE_TX_EPOCHS p)

/-- Count the present epoch in PAUSE_RX of a port, once. -/
def pauseRx (p : Nat) (s : State) : State :=
  if s.fab.rxSeen.getD p 0 = s.tet.epoch + 1 then s else
  ({ s with fab.rxSeen := modAt p (fun _ => s.tet.epoch + 1) s.fab.rxSeen }).incWrap (R.FAB_Pp_PAUSE_RX_EPOCHS p)

/-- 100 ms and 1 s in epochs. -/
def ms100 : Nat := 1563
def sec1 : Nat := 15625

/-- PFC_XOFF: the buffer reaches XOFF on a lossless priority. -/
def doPfcXoff (p sub prio : Nat) (s : State) : State :=
  if ¬ fabUp s p sub ∨ ¬ bit (s.rd (R.FAB_Pp_CFG_PFC_MASK p)) prio then s else
  let x := pfcOf s p sub prio
  if x.storm then putPfc { x with lastXoff := s.tet.epoch } s
  else if x.sending then s
  else (pauseTx p (putPfc { x with sending := true, since := s.tet.epoch } s)).emit (.eth p sub 0 [prio, 0xFFFF])

/-- PFC_XON: quanta 0. -/
def doPfcXon (p sub prio : Nat) (s : State) : State :=
  let x := pfcOf s p sub prio
  if x.sending then (putPfc { x with sending := false } s).emit (.eth p sub 0 [prio, 0]) else s

/-- PFC_PAUSE_REFRESH. -/
def doPfcPauseRefresh (p sub prio : Nat) (s : State) : State :=
  if (pfcOf s p sub prio).sending then (pauseTx p s).emit (.eth p sub 0 [prio, 0xFFFF]) else s

/-- PFC_STORM: 100 ms of continuous pause (R244). -/
def doPfcStorm (p sub prio : Nat) (s : State) : State :=
  let x := pfcOf s p sub prio
  if x.sending ∧ x.since + ms100 ≤ s.tet.epoch then
    (putPfc { x with sending := false, storm := true, lastXoff := s.tet.epoch } s).raise (R.FAB_INT_STATUS_PFC_STORM p)
  else s

/-- PFC_STORM_END: 1 s without reaching XOFF. -/
def doPfcStormEnd (p sub prio : Nat) (s : State) : State :=
  let x := pfcOf s p sub prio
  if x.storm ∧ x.lastXoff + sec1 ≤ s.tet.epoch then putPfc { x with storm := false } s else s

/-- Epochs that a pause frame of `quanta` holds transmission: quanta of 512 bit times. -/
def quantaEpochs (s : State) (p quanta : Nat) : Nat := (quanta * 512 / fabRate s p + 63999) / 64000

/-- PAUSE_RECEIVED: transmission is held, for at most 100 ms on end; after that pause is dropped until none has come
for 1 s. -/
def doPauseReceived (p sub prio quanta : Nat) (s : State) : State :=
  if ¬ fabUp s p sub ∨ 8 ≤ prio then s else
  let x := pfcOf s p sub prio
  let e := s.tet.epoch
  let x := if x.drop ∧ x.lastRx + sec1 ≤ e then { x with drop := false, held := false } else x
  if quanta = 0 then putPfc { x with held := false } s
  else
    let x := if x.held ∧ x.heldTo < e then { x with held := false } else x
    let x := if x.held ∧ x.heldFrom + ms100 ≤ e then { x with drop := true, held := false } else x
    let x := { x with lastRx := e }
    let x := if x.drop then x else
      { x with held := true, heldFrom := if x.held then x.heldFrom else e, heldTo := e + quantaEpochs s p quanta }
    pauseRx p (putPfc x s)

/-- The epoch boundary: priorities that send or are held count the new epoch; a hold that has lasted 100 ms ends. -/
def pfcBoundary (s : State) : State :=
  let e := s.tet.epoch
  s.each s.fab.pfc fun s x =>
    let s := if x.sending then pauseTx x.port s else s
    if ¬ x.held then s
    else if x.heldTo < e then putPfc { x with held := false } s
    else if x.heldFrom + ms100 ≤ e then putPfc { x with held := false, drop := true } s
    else pauseRx x.port s

/-- FABRIC_LINK_EVENT of a subport. -/
def doFabricLinkEvent (p sub : Nat) (ev : FabEvent) (s : State) : State :=
  if 4 ≤ p ∨ fabSubs s p ≤ sub ∨ deviceOff s ∨ groupDead s (4 + p) then s else
  let b := 2 ^ sub
  match ev with
  | .up => (((s.raise (R.FAB_Pp_LINK_UP p) b).clr (R.FAB_Pp_LINK_LFAULT p) b).clr (R.FAB_Pp_LINK_RFAULT p) b).raise
      (R.FAB_INT_STATUS_LINK_UP p)
  | .down =>
    let pfc := s.fab.pfc.filter fun y => ¬ (y.port = p && y.sub = sub)
    (({ s with fab.pfc := pfc }.clr (R.FAB_Pp_LINK_UP p) b).clr (R.FAB_Pp_LINK_PAUSED p) b).raise (R.FAB_INT_STATUS_LINK_DOWN p)
  | .localFault => s.raise (R.FAB_Pp_LINK_LFAULT p) b
  | .remoteFault => s.raise (R.FAB_Pp_LINK_RFAULT p) b

/-- FEC_UNCORRECTABLE. -/
def doFecUncorrectable (p : Nat) (s : State) : State :=
  if 4 ≤ p then s else (s.incWrap (R.FAB_Pp_FEC_UE_UE p)).raise (R.FAB_INT_STATUS_FEC_UE p)

def execHostLinkReset (l : Nat) (k : LinkReset) (s : State) : Out := live s (doHostLinkReset l k s)
def execHostLinkUp (l speed width : Nat) (flit : Bool) (s : State) : Out := live s (doHostLinkUp l speed width flit s)
def execFlrFunction1 (l : Nat) (s : State) : Out := live s (doFlrFunction1 l s)
def execHostCompletionTimeout (h : IoHdr) (s : State) : Out := live s (hostReadFails h s)
def execHostCompletionError (h : IoHdr) (s : State) : Out := live s (hostReadFails h s)
def execMsixUnmask (l v : Nat) (s : State) : Out := live s (doMsixUnmask l v s)
def execIntStatusW1c (l n v : Nat) (s : State) : Out := live s (doIntStatusW1c l n v s)
def execBusMasterEnable (l : Nat) (v : Bool) (s : State) : Out := live s (doBusMasterEnable l v s)
def execDrivePresence (p sub : Nat) (x : DriveDesc) (s : State) : Out := fin (doDrivePresence p sub x s)
def execDriveBringupTimer (p sub : Nat) (s : State) : Out := live s (doDriveBringupTimer p sub s)
def execDriveLinkUp (p sub speed width : Nat) (s : State) : Out := live s (doDriveLinkUp p sub speed width s)
def execDriveReady (p sub : Nat) (s : State) : Out := live s (doDriveReady p sub s)
def execDriveRemoval (p sub : Nat) (s : State) : Out := fin (doDriveRemoval p sub s)
def execDriveOff (p sub : Nat) (s : State) : Out := live s (doDriveOff p sub s)
def execDriveOn (p sub : Nat) (s : State) : Out := live s (doDriveOn p sub s)
def execDriveLinkEvent (p sub : Nat) (k : LinkEvent) (s : State) : Out := live s (doDriveLinkEvent p sub k s)
def execDriveLinkRetrainTimeout (p sub : Nat) (s : State) : Out := live s (doDriveLinkRetrainTimeout p sub s)
def execCmConnectRequest (host p sub : Nat) (s : State) : Out := live s (doCmConnectRequest host p sub s)
def execQpRetryExhausted (q : Nat) (s : State) : Out := live s (doQpRetryExhausted q s)
def execEcnCeReceived (q : Nat) (s : State) : Out := live s (doEcnCeReceived q s)
def execCnpReceived (q : Nat) (s : State) : Out := live s (doCnpReceived q s)
def execCcRecover (q : Nat) (s : State) : Out := live s (doCcRecover q s)
def execPfcXoff (p sub prio : Nat) (s : State) : Out := live s (doPfcXoff p sub prio s)
def execPfcXon (p sub prio : Nat) (s : State) : Out := live s (doPfcXon p sub prio s)
def execPfcPauseRefresh (p sub prio : Nat) (s : State) : Out := live s (doPfcPauseRefresh p sub prio s)
def execPfcStorm (p sub prio : Nat) (s : State) : Out := live s (doPfcStorm p sub prio s)
def execPfcStormEnd (p sub prio : Nat) (s : State) : Out := live s (doPfcStormEnd p sub prio s)
def execPauseReceived (p sub prio quanta : Nat) (s : State) : Out := live s (doPauseReceived p sub prio quanta s)
def execFabricLinkEvent (p sub : Nat) (ev : FabEvent) (s : State) : Out := live s (doFabricLinkEvent p sub ev s)
def execFecUncorrectable (p : Nat) (s : State) : Out := live s (doFecUncorrectable p s)
def execHptClrErr (s : State) : Out := live s (s.wr R.HPT_STATUS_LAST_ERR 0)
def execFabClrErr (s : State) : Out := live s (s.wr R.FAB_STATUS_LAST_ERR 0)
def execDrvClrErr (s : State) : Out := live s (drvReject eOk s)

end Sys2Proof.Machine
end

