-- ==== Sys2Proof/Machine/CfgSet.lean ====
section
/-! DEFINITION. Configuration sets (R325, R326, R328 to R331, R380): the active set, the shadow set, section lists, the rules of
single fields, the conditions between fields, the state conditions of a LAUNCH (Table 3.10, R44, R202, R203, R205, R211,
R243, R316). A set is a map of RWL fields as differences from their reset values, with its tables. -/

namespace Sys2Proof.Machine

/-! ### Sets -/

/-- The RWL fields of the register at an offset. -/
def rwlFields (off : Nat) : List Fld := (((layoutAt 0 off).getD []).filter fun l => l.acc = .rwl).map (·.fld)

/-- A register-store key belongs to an RWL field. -/
def isRwl (k : Nat) : Bool := (rwlFields (k / 32)).any fun f => f.lo = k % 32

/-- The active set. -/
def activeSet (s : State) : SMap Nat := s.regs.filter fun p => isRwl p.1

/-- The bytes of a table of a set. -/
def tableOf (ts : List (Nat × List Nat)) (n : Nat) : List Nat := ((ts.find? fun t => t.1 = n).map (·.2)).getD []

/-- Two lists of tables hold the same contents. -/
def sameTables (a b : List (Nat × List Nat)) : Bool := [1, 2].all fun n => tableOf a n = tableOf b n

/-- The shadow set differs from the active set. -/
def shadowDiff (s : State) : Bool :=
  decide (activeSet s ≠ s.shadow) || ¬ sameTables s.dwn.tables s.dwn.shadowTables

/-- The machine with another active set: no other register changes. -/
def withSet (set : SMap Nat) (s : State) : State :=
  { s with regs := set.foldl (fun m p => SMap.set 0 p.1 p.2 m) (s.regs.filter fun p => ¬ isRwl p.1) }

/-- The shadow becomes a copy of the active set. -/
def shadowCopy (s : State) : State := { s with shadow := activeSet s, dwn.shadowTables := s.dwn.tables }

/-- The RWL value of a register in the set that `s` has active: its RWL fields at their places. -/
def rwlVal (s : State) (off : Nat) : Nat := (rwlFields off).foldl (fun v f => v + s.rd f * 2 ^ f.lo) 0

/-- Write a register's RWL fields into a set. -/
def setItem (i : CfgItem) (set : SMap Nat) : SMap Nat :=
  (rwlFields i.off).foldl (fun m f => SMap.set 0 f.key ((bits i.val f.lo f.w) ^^^ f.rst) m) set

/-- The set that a list of items gives; what no item names keeps its reset value (R326). -/
def itemsSet (items : List CfgItem) : SMap Nat := items.foldl (fun m i => setItem i m) []

/-! ### Sections (Table 13.6) -/

/-- The block of a BAR0 offset. -/
def blockOf (off : Nat) : Nat := off / 2 ^ 20

/-- The section that may set a register, 0 for none. -/
def sectionOf (off : Nat) : Nat :=
  if (rwlFields off).isEmpty then 0
  else match blockOf off with
    | 1 => if off = 0x100000 ∨ off = 0x100018 then 0x0104 else 0x0201
    | 2 | 3 | 4 => 0x0102
    | 5 => if off = 0x500008 then 0x0101 else 0x0102
    | 6 => 0x0101
    | 7 => if 0x708000 ≤ off then 0x0102 else 0x0101
    | 8 => if off = 0x800008 ∨ off = 0x80000C then 0x0202 else 0x0103
    | 9 | 10 => 0x0101
    | 11 | 12 => 0x0104
    | 13 | 15 | 16 => 0x0105
    | _ => 0

/-- The sections of a table. -/
def tableSection (n : Nat) : Nat := if n = 1 then 0x0202 else if n = 2 then 0x0103 else 0

/-- System scope. -/
def systemScope (sec : Nat) : Bool := sec / 256 = 2

/-- The part of a set in system scope. -/
def systemPart (set : SMap Nat) : SMap Nat := set.filter fun p => systemScope (sectionOf (p.1 / 32))

/-! ### Rules of single fields -/

/-- The first code of a list. -/
def firstCode : List (Option Nat) → Option Nat
  | [] => none
  | some c :: _ => some c
  | none :: l => firstCode l

/-- A code where a condition holds. -/
def codeIf (b : Bool) (c : Nat) : Option Nat := if b then some c else none

/-- The ones of a number of up to 8 bits. -/
def popCount8 (v : Nat) : Nat := ((List.range 8).filter (bit v)).length

/-- A signed 12-bit number as a distance above −2,048. -/
def ofs12 (v : Nat) : Nat := (v + 2048) % 4096

/-- The field rules of a TET register. -/
def tetRule (off v : Nat) : Option Nat :=
  if off = 0x100018 then firstCode [codeIf (decide (128 ≤ bits v 0 8)) eRange, codeIf (bits v 8 2 = 3) eField]
  else if off = 0x10001C then
    let o := ofs12 (bits v 0 12)
    firstCode [codeIf (decide (o < 2048 - 720) || decide (2048 + 840 < o)) eRange, codeIf ((o + 7) % 15 ≠ 0) eField]
  else if off = 0x100020 then
    firstCode [codeIf (bits v 0 16 = 0) eRange, codeIf (bits v 16 8 = 0) eRange, codeIf (decide (100 < bits v 24 7)) eRange]
  else if 0x100400 ≤ off ∧ off ≤ 0x100580 then
    firstCode ([0, 8, 16, 24].map fun b => codeIf (decide (100 < bits v b 7)) eRange)
  else none

/-- The field rules of a register of the STORAGE and PLATFORM blocks. -/
def storeRule (off v : Nat) : Option Nat :=
  if blockOf off = 2 then
    if off < 0x201000 then none
    else if off % 256 = 0 then codeIf (decide (5 ≤ bits v 8 3)) eField
    else if off % 256 = 0xC0 then firstCode [codeIf (bits v 0 2 = 3) eField, codeIf (decide (bits v 16 8 < 10)) eRange]
    else none
  else if off = 0x300014 then codeIf (decide (bits v 0 18 < 4096) || decide (114688 < bits v 0 18)) eRange
  else if off = 0x400008 then
    firstCode [codeIf (bits v 0 2 = 3) eField, codeIf (bits v 16 8 = 0 || decide (128 < bits v 16 8)) eRange]
  else if off = 0x40000C then
    firstCode [codeIf (bits v 0 6 = 0 || decide (32 < bits v 0 6)) eRange,
      codeIf (bits v 8 7 = 0 || decide (64 < bits v 8 7)) eRange, codeIf (bits v 16 5 = 0) eRange]
  else if off = 0x500008 then
    firstCode [codeIf (¬ [0, 1, 3, 5, 7].contains (bits v 0 3)) eField,
      codeIf (decide (bits v 8 5 < 10) || decide (16 < bits v 8 5)) eRange]
  else if off = 0x50000C then codeIf (decide (64 < bits v 8 7)) eRange
  else if off = 0x500010 then
    firstCode [codeIf (bits v 0 5 = 0 || decide (16 < bits v 0 5)) eRange,
      codeIf (bits v 8 7 = 0 || decide (100 < bits v 8 7)) eRange]
  else if off = 0x500018 then codeIf (bits v 0 8 = 0 || decide (168 < bits v 0 8)) eRange
  else if off = 0x600008 then codeIf (decide (bits v 4 12 < 100) || decide (4000 < bits v 4 12)) eRange
  else if off = 0x708008 then
    firstCode [codeIf (decide (32 < bits v 0 6)) eRange, codeIf (decide (bits v 8 13 < 16) || decide (4096 < bits v 8 13)) eRange]
  else if off = 0x70800C then
    firstCode [codeIf (decide (bits v 0 15 < 1024) || decide (15360 < bits v 0 15)) eRange, codeIf (decide (4096 < bits v 16 15)) eRange]
  else none

/-- The field rules of the port, String, pair, Dawn and power registers. -/
def portRule (off v : Nat) : Option Nat :=
  if blockOf off = 7 ∧ off < 0x708000 then codeIf (bits v 1 3 = 0 || bits v 1 3 = 7) eField
  else if off = 0x80000C then
    firstCode [codeIf (bits v 0 8 = 0) eRange, codeIf (bits v 8 8 = 0) eRange, codeIf (bits v 16 8 = 0) eRange,
      codeIf (bits v 24 8 = 0) eRange]
  else if blockOf off = 8 ∧ 0x800100 ≤ off then
    firstCode [codeIf (bits v 0 2 = 3) eField, codeIf (decide (4 < popCount8 (bits v 8 8))) eRange,
      codeIf (¬ bit v (8 + bits v 4 3)) eField, codeIf (decide (2000 < bits v 16 11)) eRange]
  else if blockOf off = 9 then codeIf (bits v 1 3 = 0 || decide (6 ≤ bits v 1 3)) eField
  else if off = 0xB0000C then codeIf (bits v 0 16 = 0xFFFF) eRange
  else if off = 0xC00008 then
    firstCode [codeIf (decide (bits v 4 12 < 10)) eRange, codeIf (bit v 0 && bits v 16 16 = 0xFFFF) eField]
  else if off = 0xC0000C then
    firstCode [codeIf (decide (bits v 0 4 < 2)) eRange, codeIf (bits v 16 8 = 0) eRange, codeIf (bits v 24 8 = 0) eRange]
  else if off = 0xD00008 then codeIf (bits v 8 8 = 0) eRange
  else if off = 0x1000008 then codeIf (bits v 8 8 = 0) eRange
  else none

/-- The field rules of a register. -/
def fieldRule (off v : Nat) : Option Nat := firstCode [tetRule off v, storeRule off v, portRule off v]

/-- The mask of a register's RWL fields. -/
def rwlMask (off : Nat) : Nat := (rwlFields off).foldl (fun m f => m ||| (2 ^ f.w - 1) * 2 ^ f.lo) 0

/-- The check of one item (R326, R329). -/
def itemErr (i : CfgItem) : Option Nat :=
  if sectionOf i.off = 0 ∨ 2 ^ 32 ≤ i.val ∨ (i.val &&& rwlMask i.off) ≠ i.val then some eField else fieldRule i.off i.val

/-- An entry of FABRIC_ADDR: PORT, SUB, FAMILY, the prefix, reserved bytes. -/
def addrErr (e : List Nat) : Bool :=
  let b := fun i => e.getD i 0
  decide (3 < b 0) || decide (3 < b 1) || ¬ (b 2 = 4 || b 2 = 6) || decide ((if b 2 = 4 then 32 else 128) < b 3) ||
  [4, 5, 6, 7].any fun i => b i ≠ 0

/-- The check of a table (R326). -/
def tableErr (n : Nat) (bs : List Nat) : Option Nat :=
  if n = 1 then
    if 1024 * 256 < bs.length then some eRange else if bs.length % 256 ≠ 0 then some eField else none
  else if n = 2 then
    if 64 * 24 < bs.length then some eRange
    else if bs.length % 24 ≠ 0 ∨ (entries 24 64 bs).any addrErr then some eField else none
  else some eField

/-- The checks of a list of items and tables, of the sections that `ok` admits. -/
def sectionsErr (ok : Nat → Bool) (items : List CfgItem) (tables : List (Nat × List Nat)) : Option Nat :=
  let offs := items.map (·.off)
  let nums := tables.map (·.1)
  if items.any (fun i => ¬ ok (sectionOf i.off)) ∨ tables.any (fun t => ¬ ok (tableSection t.1)) then some eField
  else if offs.eraseDups.length ≠ offs.length ∨ nums.eraseDups.length ≠ nums.length then some eField
  else firstCode (items.map itemErr ++ tables.map fun t => tableErr t.1 t.2)

/-! ### Conditions between fields. `t` is the machine with the candidate set active. A failure is a code and the register
offset or, at 2^26 and above, the table. -/

/-- A failure: its code, and WHERE with IS_TABLE at bit 26. -/
abbrev CfgFail := Nat × Nat

/-- The first failure of a list. -/
def firstFail : List (Option CfgFail) → Option CfgFail
  | [] => none
  | some c :: _ => some c
  | none :: l => firstFail l

/-- A failure where a condition holds. -/
def failIf (b : Bool) (c w : Nat) : Option CfgFail := if b then some (c, w) else none

/-- Every field rule over a set. -/
def fieldsFail (t : State) (set : SMap Nat) : Option CfgFail :=
  firstFail ((set.map (·.1 / 32)).eraseDups.map fun off => (fieldRule off (rwlVal t off)).map fun c => (c, off))

/-- REBUILD + PATROL + COPYBACK of each Day entry (R44). -/
def dayFail (t : State) : Option CfgFail :=
  firstFail ((List.range 97).map fun k =>
    let off := if k = 96 then 0x100580 else 0x100400 + 4 * k
    let v := rwlVal t off
    failIf (decide (100 < bits v 0 7 + bits v 8 7 + bits v 24 7)) eRange off)

/-- HEADROOM in KiB of a lossless priority of a port (R243). -/
def pfcHeadroom (t : State) (p : Nat) : Nat :=
  ((10 * t.rd (R.FAB_Pp_CFG_CABLE_M p) + 1100) * fabRate t p + 8704 * 8 + 8191) / 8192

/-- The share of a lossless priority in KiB. -/
def pfcShare (t : State) (p : Nat) : Nat := 2048 / (fabSubs t p * max 1 (popCount8 (t.rd (R.FAB_Pp_CFG_PFC_MASK p))))

/-- XOFF below 128 KiB (R243). -/
def pfcFail (t : State) : Option CfgFail :=
  firstFail ((List.range 4).map fun p => failIf (decide (pfcShare t p < pfcHeadroom t p + 128)) eNospace (0x800100 + 0x40 * p))

/-- W and C of a set: of its own population, or where a LAUNCH changes the layout, of the Basket as it stands. -/
def setLayout (s t : State) : Nat × Nat × Nat :=
  let same := rwlVal s 0x50000C = rwlVal t 0x50000C
  let c := if same ∨ s.bsk.cap = 0 then popPages (t.rd R.BSK_POP_CHANNELS) (t.rd R.BSK_POP_RANKS) (t.rd R.BSK_POP_DENSITY) else s.bsk.cap
  let u := t.rd R.BSK_LAYOUT_USER_UNITS * unitPages
  (c, writeStore c (t.rd R.BSK_LAYOUT_WS_UNITS) u, u)

/-- The inequality of R202, the bound of R205 and the time of R211. -/
def layoutFail (s t : State) : Option CfgFail :=
  let l := setLayout s t
  firstFail [failIf (¬ layoutFits l.1 l.2.1 l.2.2) eNospace 0x50000C,
    failIf (decide (l.2.1 < (t.rd R.BSK_DIRTY_CFG_LIMIT_GIB + 1) * gib)) eRange 0x500010,
    failIf (decide (t.rd R.BAL_CFG_HOLDUP_MS < needMs (t.rd R.BSK_DIRTY_CFG_LIMIT_GIB) (t.rd R.BAL_CFG_MODE))) eRange 0x600008]

/-- The register of an array's GEOM, of a member entry, of a spare entry. -/
def geomOff (a : Nat) : Nat := 0x201000 + 0x100 * a
def memberOff (a k : Nat) : Nat := 0x201040 + 0x100 * a + 4 * k
def spareOff (k : Nat) : Nat := 0x200040 + 4 * k

/-- A taken spare left as it is (Table 3.10). -/
def takenKept (s t : State) (k : Nat) : Bool :=
  s.rd (R.STR_SPAREk_SPARE_STATE k) = 2 && rwlVal s (spareOff k) = rwlVal t (spareOff k)

/-- The drives that a set lists, each with its entry's register. -/
def listed (s t : State) : List (Nat × Nat) :=
  ((List.range 16).flatMap fun a => if arrOn t a then (List.range (memN t a)).map (fun k => (memDrv t a k, memberOff a k)) else []) ++
  ((List.range 8).filter fun k => t.on (R.STR_SPAREk_VALID k) && ¬ takenKept s t k).map fun k => (spareDrv t k, spareOff k)

/-- The drives of taken spares left as they are that stand for nothing else in the set: each counts once in row 4 of Table 3.10. -/
def keptSpares (s t : State) : List Nat :=
  (((List.range 8).filter fun k => t.on (R.STR_SPAREk_VALID k) && takenKept s t k).map (spareDrv t)).eraseDups.filter fun d =>
    ¬ (listed s t).any fun p => p.1 = d

/-- The first drive listed a second time. -/
def repeated : List Nat → List (Nat × Nat) → Option CfgFail
  | _, [] => none
  | seen, (d, o) :: l => if seen.contains d then some (eField, o) else repeated (d :: seen) l

/-- Rows 1, 3, 4 and 11 of Table 3.10; row 2 is a field rule. -/
def arraysFail (s t : State) : Option CfgFail :=
  let on := (List.range 16).filter (arrOn t)
  firstFail ([
    firstFail (on.map fun a => failIf (decide (memN t a < 4) || decide (32 < memN t a)) eRange (geomOff a)),
    repeated [] (listed s t),
    failIf (decide (32 < (listed s t).length + (keptSpares s t).length)) eRange
      (((listed s t)[32 - (keptSpares s t).length]?.map (·.2)).getD 0)] ++
    on.flatMap fun a => (List.range 32).map fun k =>
      failIf (t.on (R.STR_An_MEMBERk_VALID a k) ≠ decide (k < memN t a)) eField (memberOff a k))

/-- FP0_SUB, SOLO_WAIT, PEER_UNIT. -/
def unitFail (t : State) : Option CfgFail :=
  firstFail [failIf (decide (fabSubs t 0 ≤ t.rd R.TET_SRC_CFG_FP0_SUB)) eRange 0x100018,
    failIf (decide (t.rd R.SPR_TIMING_SOLO_WAIT < t.rd R.SPR_TIMING_DETECT_EPOCHS + 32)) eRange 0xC0000C,
    failIf (t.rd R.SPR_CFG_PEER_UNIT = t.rd R.STG_ID_UNIT) eField 0xC00008]

/-- The rules that hold for every set, at DAWN_S09 as at LAUNCH (R328, R330). -/
def setFail (s t : State) (set : SMap Nat) : Option CfgFail :=
  firstFail [fieldsFail t set, unitFail t, dayFail t, layoutFail s t, pfcFail t, arraysFail s t]

/-! ### State conditions of a LAUNCH -/

/-- A register's RWL value changes. -/
def changes (s t : State) (off : Nat) : Bool := rwlVal s off ≠ rwlVal t off

/-- A drive listed newly: rows 5 to 7 of Table 3.10; `b` is the strip in blocks of a member, none for a spare. -/
def newDrive (s : State) (d metaOn : Nat) (b : Option Nat) (off : Nat) : Option CfgFail :=
  match driveAt s d with
  | none => some (eState, off)
  | some x =>
    if ¬ passesR55 s d metaOn then some (eUnsup, off)
    else match b with
      | some b => failIf (decide (x.desc.blocks < dataLba + 1024 * b)) eNospace off
      | none => none

/-- Rows 5 to 10 of Table 3.10. -/
def arrayStateFail (s t : State) : Option CfgFail :=
  firstFail (
    ((List.range 16).filter fun a => arrOn t a && ¬ arrOn s a).flatMap (fun a =>
      (List.range (memN t a)).map fun k =>
        newDrive s (memDrv t a k) (t.rd (R.STR_An_GEOM_META a)) (some (strB t a)) (memberOff a k)) ++
    ((List.range 8).filter fun k => t.on (R.STR_SPAREk_VALID k) && changes s t (spareOff k)).map (fun k =>
      newDrive s (spareDrv t k) (t.rd (R.STR_SPAREk_META k)) none (spareOff k)) ++
    ((List.range 16).filter fun a => arrOn t a && arrOn s a).flatMap (fun a =>
      failIf (changes s t (geomOff a)) eState (geomOff a) ::
      (List.range 32).map fun k => failIf (changes s t (memberOff a k)) eState (memberOff a k)) ++
    ((List.range 16).filter fun a => arrOn s a && ¬ arrOn t a).map (fun a =>
      failIf (s.ns.any fun n => n.array = a) eState (geomOff a)) ++
    ((List.range 8).filter fun k => t.on (R.STR_SPAREk_VALID k) && ¬ takenKept s t k).map fun k =>
      let d := spareDrv t k
      failIf ((memberOf s d).isSome || (List.range 16).any fun a => ((s.arr a).cb.map (·.dest)) = some d) eState (spareOff k))

/-- A drive port holds a member, a copyback destination or a spare. -/
def portHeld (s : State) (p : Nat) : Bool :=
  [2 * p, 2 * p + 1].any fun d => (memberOf s d).isSome || ¬ (sparesOn s d).isEmpty ||
    (List.range 16).any fun a => ((s.arr a).cb.map (·.dest)) = some d

/-- The first system-scope register or table that differs. -/
def systemDiff (s t : State) : Option Nat :=
  let offs := (((systemPart (activeSet s)) ++ systemPart (activeSet t)).map (·.1 / 32)).eraseDups
  match offs.find? (changes s t) with
  | some o => some o
  | none => if tableOf s.dwn.tables 1 ≠ tableOf t.dwn.tables 1 then some (2 ^ 26 + 1) else none

/-- The state conditions of a LAUNCH. -/
def stateFail (s t : State) : Option CfgFail :=
  firstFail ([
    if strJoined s then (systemDiff s t).map fun o => (eState, o) else none,
    failIf (changes s t 0x50000C && dirtyPages s ≠ 0) eDirty 0x50000C,
    failIf (changes s t 0x500008) eState 0x500008,
    failIf (decide (poolSize < t.rd R.HPT_CE_POOL_FLOOR_SHARED_FLOOR + reserveSum s)) eNospace 0x70800C] ++
    ((List.range 2).map fun n => failIf (s.rd (R.HPT_Pn_CFG_BIF n) ≠ t.rd (R.HPT_Pn_CFG_BIF n)) eState (0x700010 + 0x10 * n)) ++
    ((List.range 32).map fun p =>
      failIf ((s.rd (R.DRV_Pp_CFG_BIF p) ≠ t.rd (R.DRV_Pp_CFG_BIF p) || s.rd (R.DRV_Pp_CFG_MAX_SPEED p) ≠ t.rd (R.DRV_Pp_CFG_MAX_SPEED p))
        && portHeld s p) eState (0x900100 + 0x10 * p)) ++
    [failIf ((s.rd R.SPR_CFG_EN ≠ t.rd R.SPR_CFG_EN || s.rd R.SPR_CFG_HOME ≠ t.rd R.SPR_CFG_HOME
        || s.rd R.SPR_CFG_PEER_UNIT ≠ t.rd R.SPR_CFG_PEER_UNIT) && s.pairState ≠ 0 && s.pairState ≠ 7) eState 0xC00008,
      arrayStateFail s t])

/-- The machine as the shadow set would make it. -/
def shadowAsSet (s : State) : State := { withSet s.shadow s with dwn.tables := s.dwn.shadowTables }

/-- The whole validation of the shadow set (R330 step 1). -/
def launchFail (s : State) : Option CfgFail :=
  let t := shadowAsSet s
  firstFail [setFail s t s.shadow,
    firstFail ([1, 2].map fun n => (tableErr n (tableOf t.dwn.tables n)).map fun c => (c, 2 ^ 26 + n)),
    stateFail s t]

/-- LAST_ERR of the block that holds a register. -/
def blockErr (off code : Nat) (s : State) : State :=
  match blockOf off with
  | 0 => s.wr R.GLB_STATUS_LAST_ERR code
  | 1 => s.wr R.TET_STATUS_LAST_ERR code
  | 2 => s.wr R.STR_STATUS_LAST_ERR code
  | 3 => s.wr R.GON_STATUS_LAST_ERR code
  | 4 => s.wr R.ENV_STATUS_LAST_ERR code
  | 5 => s.wr R.BSK_STATUS_LAST_ERR code
  | 6 => s.wr R.BAL_STATUS_LAST_ERR code
  | 7 => if 0x708000 ≤ off then s.wr R.HPT_CE_STATUS_LAST_ERR code else s.wr R.HPT_STATUS_LAST_ERR code
  | 8 => s.wr R.FAB_STATUS_LAST_ERR code
  | 9 => s.wr R.DRV_STATUS_LAST_ERR code
  | 10 => s.wr R.SPL_STATUS_LAST_ERR code
  | 11 => s.wr R.STG_STATUS_LAST_ERR code
  | 12 => s.wr R.SPR_STATUS_LAST_ERR code
  | 13 => s.wr R.DWN_STATUS_LAST_ERR code
  | 14 => s.wr R.SEC_STATUS_LAST_ERR code
  | 15 => s.wr R.WSK_STATUS_LAST_ERR code
  | 16 => s.wr R.PWR_STATUS_LAST_ERR code
  | _ => s

/-- A LAUNCH's failure is reported: DWN_LAUNCH_ERR, LAST_CODE, the block's LAST_ERR (R330, R340). -/
def launchErr (f : CfgFail) (s : State) : State :=
  let tab := decide (2 ^ 26 ≤ f.2)
  let s := (s.wr R.DWN_LAUNCH_ERR_WHERE (f.2 % 2 ^ 26)).wr R.DWN_LAUNCH_ERR_IS_TABLE (b2n tab)
  let s := s.wr R.DWN_LAUNCH_LAST_CODE f.1
  if tab then s else blockErr f.2 f.1 s

/-- DWN_LAUNCH_ERR as a reply's DETAIL. -/
def launchDetail (s : State) : Nat := s.rd R.DWN_LAUNCH_ERR_WHERE + 2 ^ 26 * s.rd R.DWN_LAUNCH_ERR_IS_TABLE

/-- The configuration generation in force. -/
def setGen (g : Nat) (s : State) : State :=
  (({ s with dwn.configGen := g % 2 ^ 64 }).wr R.DWN_GEN_LO_GEN_LO g).wr R.DWN_GEN_HI_GEN_HI (g / 2 ^ 32)

/-- A measurement block changed (R339). -/
def measChanged (s : State) : State := s.raise R.SEC_INT_STATUS_MEAS_CHG

end Sys2Proof.Machine
end

