-- ==== Sys2Proof/Machine/GonCmds.lean ====
section
/-! DEFINITION. Checkpoints of the Gondola (R90, R107, R108): root, tail copies, region maps, SEAL; MRAM errors (R81). -/

namespace Sys2Proof.Machine

/-- This unit originates journal records: it is not a standby (R298) and no dump or NIGHT stops it. -/
def journals (s : State) : Bool := [0, 3, 5].contains s.pairState && ¬ s.pwr.dumping && ¬ s.pwr.inNight && ¬ stopWritten s

/-! ### Tail copies -/

/-- The members that a copy at checkpoint `c` goes to (R108). -/
def tailMembers (s : State) (a c : Nat) : List Nat :=
  let n := memN s a
  (((List.range n).map fun i => (3 * c + i) % n).filter fun m => ¬ missing s a m).take 3

/-- A record that belongs to array `a`. -/
def recOfArray (a : Nat) (r : Rec) : Bool :=
  match r.body with
  | .stripe x .. => x = a
  | .basket x .. => x = a
  | .done x .. => x = a
  | .progress _ x .. => x = a
  | _ => false

/-- Records of the device that every tail copy carries. -/
def recOfDevice (r : Rec) : Bool :=
  match r.body with
  | .clm .. => true
  | .ckpt .. => true
  | _ => false

/-- The body and header of a tail copy of array `a` at checkpoint `c` (R107); regions untouched for two whole intervals
are cleared. -/
def tailOf (s : State) (a c : Nat) (clean : Bool) : Tail :=
  let r := s.arr a
  let need := neededRecs s
  ⟨true, clean, a, r.arrayId, c, r.labelSeq, s.jrn.nextSeq - 1, r.regionGen, tailR s a,
    (r.regions.filter fun p => c ≤ p.2 + 2).map (·.1),
    need.filter (recOfArray a) ++ need.filter recOfDevice, persistNow s⟩

/-- Change the slot of a checkpoint number: A where even, B where odd. -/
def Drive.setTail (d : Drive) (c : Nat) (t : Option Tail) : Drive :=
  if c % 2 = 0 then { d with tailA := t } else { d with tailB := t }

/-- A tail copy of array `a` starts: the slot is being written on its members. -/
def tailStart (a : Nat) (sched clean : Bool) (s : State) : State :=
  if ¬ s.on R.GON_CTRL_TAIL_EN ∨ ¬ arrOn s a ∨ (s.arr a).tailJob.isSome then s else
  let c := s.tet.epoch / 1024
  let t := tailOf s a c clean
  let ms := tailMembers s a c
  let s := s.each ms fun s m => s.modDrive (memDrv s a m) fun d => d.setTail c none
  s.modArr a fun r => { r with
    tailJob := some (t, ms, sched), tailForced := false, regions := r.regions.filter fun p => c ≤ p.2 + 2 }

/-- A tail copy has reached members: the copy stands there, with every region that is marked by then; the TAIL checkpoint is written, a
short copy is reported. -/
def tailEnd (a : Nat) (t : Tail) (ms : List Nat) (sched : Bool) (s : State) : State :=
  let t := { t with regions := (s.arr a).regions.map (·.1), regionGen := (s.arr a).regionGen }
  let s := s.each ms fun s m => s.modDrive (memDrv s a m) fun d => d.setTail t.ckpt (some t)
  let short := decide (ms.length < 3)
  let s := s.modArr a fun r => { r with tailJob := none }
  let s := record (.ckpt 1 t.upto t.ckpt (2 ^ a) (if short then 2 ^ a else 0)) s
  let s := if short then s.raise R.GON_INT_STATUS_TAIL_FAIL else s
  if sched then s.wr R.GON_TAIL_CKPT_NUM t.ckpt else s

/-- A copy is written whole in one step, as the last act of a stop (R361 step 3, R420). -/
def tailNow (a : Nat) (clean : Bool) (s : State) : State :=
  if ¬ s.on R.GON_CTRL_TAIL_EN ∨ ¬ arrOn s a then s else
  let c := s.tet.epoch / 1024
  let s := s.modArr a fun r => { r with tailForced := false }
  tailEnd a (tailOf s a c clean) (tailMembers s a c) false s

/-- Order 7 of Table 2.3: the root with the epoch, and a tail copy of every enabled array whose last one is complete. A unit that does not
serve, or does not journal, writes its root with the epoch alone. -/
def tailCheckpoint (s : State) : State :=
  if ¬ s.on R.GON_STATUS_MRAM_OK ∨ (rootNow s).lastEpoch = s.tet.epoch then s
  else if ¬ s.ready ∨ ¬ journals s then rootStamp s else
  s.each ((List.range 16).filter (arrOn s)) (fun s a => tailStart a true false s) |> rootWrite false 0

/-- Unscheduled copies that are due start at a boundary. -/
def tailsForced (s : State) : State :=
  if ¬ s.ready ∨ ¬ journals s then s else
  s.each ((List.range 16).filter fun a => (s.arr a).tailForced) fun s a => tailStart a false false s

/-- TAIL_COPY_CHECKPOINT. -/
def doTailCopyCheckpoint (s : State) : State := if s.tet.epoch % 1024 = 0 then tailCheckpoint s else s

/-- TAIL_COPY_DONE: the copy in progress has reached `reached` of its members. -/
def doTailCopyDone (a reached : Nat) (s : State) : State :=
  match (s.arr a).tailJob with
  | some (t, ms, sched) => if journals s then tailEnd a t (ms.take reached) sched s else s
  | none => s

/-- REGION_MAP_UPDATE_DONE: the header of the newest copy is rewritten; the stripe INTENTs that wait go on. -/
def doRegionMapUpdateDone (a r : Nat) (s : State) : State :=
  let mine := s.ce.sops.filter fun o => o.phase = .region && o.array = a && o.stripe / tailR s a = r
  if mine.isEmpty then s else
  (regionSet a r s).each mine fun s o => match s.ce.sops.find? fun x => x.id = o.id with
    | some o => sopMirror o s
    | none => s

/-! ### SEAL (R90, R96, R209) -/

/-- Clear the bits of regions that hold no unreleased extent committed in write-back. -/
def regionsClear (s : State) : State :=
  { s with nv.dirtyMap := s.nv.dirtyMap.filter fun p => s.bsk.extents.any fun e =>
      e.array = p.1 && e.writeBack && (rangeFrom e.slba e.count).any fun l =>
        ((stripeOf s e.ns l).map fun st => st / regionG s p.1) = some p.2 }

/-- The dirty lines of the write-store index are cleaned (R175). -/
def indexClean (s : State) : State :=
  envClean (fun l => decide (bskKey s.bsk.w ≤ l.key) && decide (l.key < bskKey (s.bsk.w * 257 / 256 + 1))) s

/-- Write a SEAL, once the index lines are clean, and release what it releases. -/
def sealNow (s : State) : State :=
  let s := indexClean s
  let q := s.jrn.nextSeq
  let s := { s with jrn.sealUpto := q - 1, jrn.sealSeq := q }
  let s := record (.ckpt 0 (q - 1) 0 0 0) s
  regionsClear (releaseSealed (q - 1) s)

/-- A SEAL is due: the epoch is a multiple of 16, or one has passed since the newest SEAL in epochs that were skipped (R37), and none has
been written since. -/
def sealDue (s : State) : Bool :=
  match (SMap.get none (s.jrn.sealSeq % ringSlots) s.nv.ring).filter fun r => r.seq = s.jrn.sealSeq with
  | some r => decide (r.epoch / 16 < s.tet.epoch / 16)
  | none => s.tet.epoch % 16 = 0

/-- SEAL_CHECKPOINT: every 16 epochs, after the boundary's actions. -/
def doSealCheckpoint (s : State) : State := if s.ready ∧ journals s ∧ sealDue s then sealNow s else s

/-! ### Commands and MRAM errors -/

/-- GON_CLR_ERR. -/
def doGonClrErr (s : State) : State := s.wr R.GON_STATUS_LAST_ERR 0

/-- FORCE_TAIL: E_BUSY while a tail copy is being written; else a copy of every enabled array at the next boundary. -/
def doForceTail (s : State) : State :=
  if s.arrs.any fun r => r.tailJob.isSome then s.wr R.GON_STATUS_LAST_ERR eBusy
  else s.each ((List.range 16).filter (arrOn s)) fun s a => s.modArr a fun r => { r with tailForced := true }

/-- MRAM_CE. -/
def doMramCe (n : Nat) (s : State) : State := (s.incSat R.GON_MRAM_ERR_CE n).raise R.GON_INT_STATUS_MRAM_CE

/-- MRAM_UE: a ring slot is as never written, and a needed record is carried forward from the working copy; a root copy
is not valid; a Windsock word reads as an error. -/
def doMramUe (w : MramWhere) (s : State) : State :=
  let s := (s.incSat R.GON_MRAM_ERR_UE).raise R.GON_INT_STATUS_MRAM_UE
  match w with
  | .ring k =>
    let k := k % ringSlots
    match SMap.get none k s.nv.ring with
    | none => s
    | some r =>
      let need := needed s (carriedSeqs s) r
      let s := { s with nv.ring := SMap.set none k none s.nv.ring }
      if need ∧ s.ready then carryRec r s else s
  | .root c => if c % 2 = 0 then { s with nv.rootA := { s.nv.rootA with ok := false } }
      else { s with nv.rootB := { s.nv.rootB with ok := false } }
  | .windsock w => { s with wsk.bad := insNat w s.wsk.bad }
  | .persistent => s
  | .user _ => s

def execTailCopyCheckpoint (s : State) : Out := live s (doTailCopyCheckpoint s)
def execTailCopyDone (a reached : Nat) (s : State) : Out := live s (doTailCopyDone a reached s)
def execRegionMapUpdateDone (a r : Nat) (s : State) : Out := live s (doRegionMapUpdateDone a r s)
def execSealCheckpoint (s : State) : Out := live s (doSealCheckpoint s)
def execGonClrErr (s : State) : Out := live s (doGonClrErr s)
def execForceTail (s : State) : Out := live s (doForceTail s)
def execMramUe (w : MramWhere) (s : State) : Out := live s (doMramUe w s)
def execMramCe (n : Nat) (s : State) : Out := live s (doMramCe n s)

end Sys2Proof.Machine
end

