-- ==== Sys2Proof/Machine/Pair.lean ====
section
/-! DEFINITION. Pairs (spec/12_pair_failover.md): the mirror, joining as standby, the health word, takeover, the split,
hand-back, role choice at Dawn, conflicts. A unit's knowledge of a drive's keys and holder is that of its own commands
and of the conflicts it meets. -/

namespace Sys2Proof.Machine

/-! ### Shared parts -/

/-- The Spar link is up. -/
def sparUp (s : State) : Bool := s.on R.SPR_LINK_UP

/-- OP codes of CONTROL frames (Table 12.2); 0 is the negative reply of R299. -/
def opNak : Nat := 0
def opHandback : Nat := 1
def opRelease : Nat := 2
def opRelinquish : Nat := 3
def opActBegin : Nat := 4
def opActDone : Nat := 5
def opSyncBegin : Nat := 6
def opSyncDone : Nat := 7
def opHello : Nat := 8

/-- Send a CONTROL frame. -/
def control (op : Nat) (args : List Nat) (s : State) : State := sparSend 9 (op :: args) s

/-- A member or spare without fencing support keeps a pair from forming (R293). -/
def noFence (s : State) : Bool := (resvDrives s).any fun d => ¬ fenced s d

/-- A unit in SYNCING or STANDBY. -/
def standingBy (s : State) : Bool := s.pairState = 1 || s.pairState = 2

/-- Reply to the mailbox command that waits on the pair. -/
def pairReply (code : Nat) (s : State) : State :=
  match s.pair.mbxWait with
  | some h => mbxReply h s.pair.mbxOp code 0 [] { s with pair.mbxWait := none }
  | none => s

/-- Replace this unit's registration with its claim on every present member and spare; a drive that another unit holds
without this unit's registration answers with a conflict. -/
def registerAll (s : State) : State := s.each (resvDrives s) fun s d => resvRegister d s

/-- What the device does with everything that waits for the mirror, up to a CUT_EPOCH (R299): acknowledgements, member
writes, Flush. -/
def mirrorDone (upto : Nat) (s : State) : State :=
  let s : State := { s with
    ce.ctxs := s.ce.ctxs.map fun (c : Ctx) => if c.phase ≠ CPhase.flushWait ∧ c.mirEpoch ≤ upto then { c with mirEpoch := 0 } else c,
    ce.sops := s.ce.sops.map fun (o : SOp) => if o.mirEpoch ≤ upto then { o with mirEpoch := 0 } else o }
  let s := s.each (s.ce.ctxs.filter fun c => c.phase = .mirror && c.mirEpoch = 0) fun s c => writeFinish c s
  let s := s.each (s.ce.sops.filter fun o => o.phase = .mirror && o.mirEpoch = 0) fun s o => sopWrites o s
  s.each (s.ce.ctxs.filter fun c => c.phase = .flushWait && decide (c.mirEpoch ≤ upto)) fun s c => finishCtx c stOk [] s

/-- Reads that wait for a page go on. -/
def pageArrived (p : Nat) (s : State) : State :=
  let s := { s with bsk.fetching := s.bsk.fetching.filter (· ≠ p) }
  s.each (s.ce.ctxs.filter fun c => c.outst.contains (2 ^ 33 + p)) fun s c =>
    let c : Ctx := { c with outst := c.outst.filter (· ≠ 2 ^ 33 + p) }
    match nsAt s c.ns with
    | some ns => if c.outst.isEmpty ∧ c.phase = .member then readAssemble (onLostFor ns c) ns c (s.putCtx c) else State.putCtx s c
    | none => State.putCtx s c

/-- Pages that were awaited from the other unit cannot come any more: they are handled as the unpaired rows of Table 8.3
state (R301). -/
def fetchFail (s : State) : State := s.each s.bsk.fetching fun s p => pageArrived p (pageLost p true s)

/-! ### The standby's copy (R298, R302) -/

/-- A basket INTENT of the other unit enters the index; blocks that a newer extent holds are not live in it. -/
def mirrorExtent (r : Rec) (a ns n slba addr crc : Nat) (companion : Bool) (s : State) : State :=
  if s.bsk.extents.any fun e => e.seq = r.seq then s else
  let p := fun l : Nat => decide (slba ≤ l) && decide (l < slba + n)
  let newer := (s.bsk.extents.filter fun e => e.ns = ns && ¬ e.companion && decide (r.seq < e.seq)).flatMap (·.live)
  let live := if companion then [] else (rangeFrom slba n).filter fun l => ¬ newer.contains l
  let olds := s.bsk.extents.map fun (e : Extent) =>
    if e.ns = ns ∧ ¬ e.companion ∧ ¬ companion ∧ e.seq < r.seq ∧ e.live.any p then
      { e with live := e.live.filter (fun l => ¬ p l), supBy := max e.supBy r.seq } else e
  let e : Extent := ⟨r.seq, a, ns, slba, n, addr, companion, r.epoch, crc, live, if live.isEmpty then r.seq else 0, true⟩
  { s with bsk.extents := olds ++ [e] }

/-- The DONE of an INTENT acts on the index as on the active (R89). -/
def mirrorDoneRec (status q doneSeq : Nat) (s : State) : State :=
  match s.jrn.opens.find? fun o => o.seq = q with
  | none => s
  | some o =>
    let s := { s with jrn.opens := s.jrn.opens.filter fun x => x.seq ≠ q }
    match o.body with
    | .stripe a st op _ _ _ upto _ _ _ =>
      let s := releaseSaved q s
      if status = 2 then s
      else if status = 1 then discardStripe a st s
      else if op = 0 then
        let s := if status = 3 then s else endStripe a st doneSeq s
        if s.jrn.opens.any fun x => match x.body with
            | .stripe _ _ 0 _ _ _ u _ _ _ => u = upto
            | _ => false
        then s else releaseCompanion upto s
      else if op = 4 then s
      else releaseStripe a st upto doneSeq s
    | _ => s

/-- The watermark of a mirrored PROGRESS record (R92, R308). -/
def mirrorProgress (kind a target wm : Nat) (s : State) : State :=
  s.modArr a fun r => match kind with
    | 0 => if r.rb0.act ∧ r.rb0.target = target then { r with rb0 := { r.rb0 with wm := wm } }
      else if r.rb1.act ∧ r.rb1.target = target then { r with rb1 := { r.rb1 with wm := wm } } else r
    | 1 => { r with cb := r.cb.map fun c => { c with wm := wm } }
    | 2 => { r with rs := r.rs.map fun x => { x with wm := wm } }
    | 3 => { r with pt := wm }
    | _ => r

/-- One mirrored record enters the ring, marked MIRRORED, and acts on the index. -/
def mirrorRec (s : State) (r : Rec) : State :=
  let s := { s with
    nv.ring := SMap.set none (r.seq % ringSlots) (some { r with mirrored := true }) s.nv.ring,
    jrn.nextSeq := max s.jrn.nextSeq (r.seq + 1) }
  match r.body with
  | .stripe _ _ _ _ cols _ _ save i0 i1 =>
    let opens := s.jrn.opens.filter fun o => ¬ (o.seq = r.seq || (r.carried && o.seq = r.origSeq))
    let n := ([i0, i1].filter (· ≠ 0xFF)).length * cols
    let s := { s with jrn.opens := opens ++ [r] }
    let saved := s.bsk.saved.map fun (x : Saved) => if r.carried ∧ x.owner = r.origSeq then { x with owner := r.seq } else x
    let s : State := { s with bsk.saved := saved }
    if n = 0 ∨ s.bsk.saved.any (fun (x : Saved) => x.owner = r.seq) then s
    else { s with bsk.saved := s.bsk.saved ++ [(⟨save, n, r.seq, []⟩ : Saved)] }
  | .basket a ns n slba addr crc companion => if r.carried then s else mirrorExtent r a ns n slba addr crc companion s
  | .done _ status q _ => mirrorDoneRec status q r.seq s
  | .ckpt sub upto _ _ _ =>
    if sub = 0 then releaseSealed upto { s with jrn.sealUpto := max s.jrn.sealUpto upto, jrn.sealSeq := r.seq } else s
  | .clm _ _ c _ _ => if claimUnit c ≠ s.unit then claimRegs { s with pair.peerClaim := max s.pair.peerClaim c } else s
  | .progress kind a target wm _ _ => mirrorProgress kind a target wm s
  | .unreadable => s

/-- The store, the index, the open INTENTs and the journal ring of an earlier history are gone (R302 step 3). -/
def storeErase (s : State) : State :=
  { s with
    bsk.extents := [], bsk.saved := [], bsk.clean := [], bsk.fetching := [], jrn.opens := [], nv.ring := [],
    nv.dirtyMap := [], pair.stagedP := [], pair.stagedR := [], ce.sops := [], ce.mcmds := [], ce.locks := [] }

/-- SYNCED, which a later Dawn reads (R315). -/
def setSynced (v : Bool) (s : State) : State := { s with pair.synced := v, nv.pairSynced := v }

/-- A unit becomes standby (R302). -/
def becomeStandby (cause : Nat) (s : State) : State :=
  let top := s.jrn.nextSeq - 1
  let s := registerAll (takeClaim 2 cause s)
  let s := setPair 1 (setSynced false (storeErase s))
  let s := { s with pair.lastCutRx := s.tet.epoch, pair.readySince := none, pair.takeFrom := none, pair.preempting := [] }
  control opSyncBegin [top] ((s.wr R.SPR_STATUS_REASON 0).wr R.SPR_SYNC_PCT 0)

/-! ### The health word (R303, R304) -/

/-- Epochs that a failed self-test counts. -/
def testWindow : Nat := 1024

/-- Tj is below 100 °C; the field is signed. -/
def coolTj (s : State) : Bool := let tj := s.rd R.PWR_THERM_TJ; decide (tj < 100) || decide (128 ≤ tj)

/-- Bits 0 to 8 of the health word (Table 12.3). -/
def healthBits (s : State) : Nat :=
  let seen := (resvDrives s).all fun d => ((driveAt s d).map fun x => x.keys.any fun k => claimUnit k = s.unit).getD false
  let failed := (List.range 16).any fun c => s.on (R.BSK_CHc_FAILED c)
  let tet := s.rd R.TET_STATUS_STATE
  let bs := [s.on R.GON_STATUS_MRAM_OK, s.rd R.BSK_STATUS_MODE = 1 && ¬ failed, s.rd R.BAL_STATUS_STATE = 1, seen,
    tet = 2 || tet = 3, s.pair.synced, ¬ s.pair.testFails.any fun e => decide (s.tet.epoch < e + testWindow),
    coolTj s]
  let v := ((List.range 8).zip bs).foldl (fun v p => v + b2n p.2 * 2 ^ p.1) 0
  v + b2n (bs.all id) * 2 ^ 8

/-- The health word: PROTO is SPAR_MAX of the running image (Table 13.4). -/
def healthWord (s : State) : Nat :=
  healthBits s + sparVersion s % 2 ^ 16 * 2 ^ 16 + s.pair.confirmed % 2 ^ 32 * 2 ^ 32

/-- One self-test item: 0 stripe engine, 1 MRAM, 2 Basket, 3 members, 4 vault. It passes, or it does not, with a detail. -/
def selfTest (s : State) (item n : Nat) : Option Nat :=
  match item with
  | 0 => if bit (s.rd R.STR_ENG_STATUS_SLICE_OFF) (n % 4) then some (n % 4) else none
  | 1 => if s.on R.GON_STATUS_MRAM_OK then none else some 0
  | 2 => if s.on (R.BSK_CHc_FAILED (n % 16)) then some (n % 16) else none
  | 3 =>
    let ds := resvDrives s
    match ds[n % max 1 ds.length]? with
    | none => none
    | some d =>
      let x := driveAt s d
      let mine := (x.map fun x => x.keys.any fun k => claimUnit k = s.unit).getD false
      let theirs := (x.map fun x => decide (x.holder = s.pair.peerClaim)).getD false
      if mine ∧ theirs then none else some d
  | _ => if vaultOk s (n % 2) then none else some (n % 2)

/-- The standby's self-test of an epoch. -/
def selfTestRun (s : State) : State :=
  let i := s.pair.testItem
  let old := s.pair.testFails.filter fun e => decide (s.tet.epoch < e + testWindow)
  let s := { s with pair.testItem := i + 1, pair.testFails := old }
  match selfTest s (i % 5) (i / 5) with
  | none => s
  | some d => { s with pair.testFails := old ++ [s.tet.epoch] }.event 0x8405 0 ((i % 5) :: leBytes 4 d)

/-- The standby sends HEALTH (order 5 of Table 2.3), and notes since when it is READY. -/
def healthSend (s : State) : State :=
  let w := healthWord s
  let s := (s.wr R.SPR_HEALTH_LO_HEALTH_LO w).wr R.SPR_HEALTH_HI_HEALTH_HI (w / 2 ^ 32)
  let rdy := bit (healthBits s) 8
  let since := if rdy then some (s.pair.readySince.getD s.tet.epoch) else none
  sparSend 5 [w] ({ s with pair.health := w, pair.readySince := since }.wr R.SPR_STATUS_READY (b2n rdy))

/-! ### The mirror at a boundary (R298) -/

/-- CUT at the start of epoch e + 1: the delta is closed and numbered. -/
def cutSend (s : State) : State :=
  let p := s.pair
  let last := s.jrn.nextSeq - 1
  let vals := [s.tet.epoch, p.deltaFirst, last, p.deltaPages, p.deltaRecs]
  let s := { s with
    pair.unconf := p.unconf ++ [(s.tet.epoch, p.deltaFirst, last, p.deltaAddrs)], pair.deltaFirst := last + 1,
    pair.deltaPages := 0, pair.deltaRecs := 0, pair.deltaAddrs := [], pair.deltaBytes := 0 }
  (sparSend 3 vals s).gauge 9 (p.deltaBytes + 64)

/-- The registration and preemption of a unit that takes over: preempts go out in the first epoch after D in which every
drive's controller answers (R308). -/
def preemptSend (s : State) : State :=
  if s.pairState ≠ 4 ∨ s.pair.preempted ∨ s.tet.epoch ≤ s.pair.dEpoch ∨ s.pair.dEpoch + 16 ≤ s.tet.epoch then s
  else if s.pair.preempting.any fun d => ((driveAt s d).map (·.resetting)).getD false then s
  else
    -- a key above the claim that R294 did not cover asks for a new claim first (R306)
    let s := if (foreignKeys s).any fun k => decide (s.pair.claim < k) then registerAll (takeClaim 1 s.pair.cause s) else s
    { s.each s.pair.preempting (fun s d => resvPreempt d s) with pair.preempted := true }

/-- Order 4 and 5 of Table 2.3 for the pair. -/
def pairBoundary (s : State) : State :=
  let s := if mirroring s then cutSend s else s
  let s := if standingBy s then healthSend s else s
  let s := if s.pairState = 2 then selfTestRun s else s
  preemptSend s

/-! ### Takeover (R307, R308) -/

/-- FLAPPING is set where the home unit has been taken over within FLAP_MIN minutes of a hand-back (R313). -/
def flapCheck (s : State) : State :=
  match s.pair.lastHandback with
  | some e =>
    if s.tet.epoch - e ≤ s.rd R.SPR_TIMING_FLAP_MIN * 60 * sec1 ∧ ¬ s.on R.SPR_STATUS_FLAPPING then
      ((s.wr R.SPR_STATUS_FLAPPING 1).raise R.SPR_INT_STATUS_FLAPPING).event 0x4406 0
        (leBytes 2 ((s.tet.epoch - e) / (60 * sec1)))
    else s
  | none => s

/-- The unit takes a claim and starts to fence (epoch D of R308, F + 1 of R312). -/
def startTaking (cause : Nat) (s : State) : State :=
  let s := { s with
    pair.stagedP := [], pair.stagedR := [], pair.dEpoch := s.tet.epoch, pair.cause := cause,
    pair.preempted := false, pair.readySince := none }
  let s := setPair 4 (takeClaim 1 cause s)
  let s := registerAll s
  { s with pair.preempting := resvDrives s }

/-- Takeover of a lost active unit. -/
def takeover (s : State) : State :=
  let s := (s.raise R.SPR_INT_STATUS_TAKEOVER).incSat R.SPR_CNT_TAKEOVERS
  let s := if s.on R.SPR_CFG_HOME then s else flapCheck s
  startTaking 1 s

/-- The active is lost: a ready standby takes over, any other separates (R307). -/
def activeLost (s : State) : State :=
  if s.pairState = 2 ∧ bit s.pair.health 8 then takeover s
  else if standingBy s then separate 5 s
  else s

/-- ACTIVE is reached: INTENTs left open are repaired, service opens (R308). -/
def doPreemptComplete (s : State) : State :=
  if s.pairState ≠ 4 ∨ ¬ s.pair.preempted then s else
  let s := setPair 3 { s with
    pair.preempting := [], pair.lastRx := s.tet.epoch, pair.takeFrom := some s.pair.dEpoch,
    pair.deltaFirst := s.jrn.nextSeq, pair.unconf := [], pair.released := false, pair.handing := false }
  let s := s.wr R.SPR_STATUS_READY 0
  let s := s.each s.jrn.opens fun s r => repairIntent r s
  let s := fetchFail s
  let s := if s.pair.cause = 2 then
      let s := (s.raise R.SPR_INT_STATUS_HANDBACK).incSat R.SPR_CNT_HANDBACKS
      ({ s with pair.lastHandback := some s.tet.epoch }).event 0x0402 0 (leBytes 8 s.pair.claim)
    else s.event 0x4400 0 (leBytes 8 s.pair.claim ++ [min 255 (s.tet.epoch - s.pair.dEpoch)])
  pairReply eOk s

/-- ACTIVE_LOST_DETECT: DETECT_EPOCHS epochs have passed without a valid CUT. A former active that has released control
counts them from the last HEALTH of a home that has taken no claim (R312). -/
def doActiveLostDetect (s : State) : State :=
  let late := fun from0 : Nat => decide (from0 + s.rd R.SPR_TIMING_DETECT_EPOCHS + 1 ≤ s.tet.epoch)
  if standingBy s ∧ late s.pair.lastCutRx then activeLost s
  else if s.pairState = 5 ∧ s.pair.released ∧ late s.pair.lastRx ∧ s.pair.peerClaim < s.pair.claim then
    takeover (memberStop s)
  else s

/-- RELINQUISH. -/
def doRelinquish (s : State) : State := if sparUp s ∧ standingBy s then activeLost s else s

/-- PREEMPT_DEADLINE: no preempt issued by epoch D + 16. -/
def doPreemptDeadline (s : State) : State :=
  if s.pairState = 4 ∧ ¬ s.pair.preempted ∧ s.pair.dEpoch + 16 ≤ s.tet.epoch then
    pairReply eState (separate 5 { s with pair.preempting := [] })
  else s

/-! ### The split (R310) -/

/-- The drives take this unit's claim, and every other key goes. -/
def splitDrives (s : State) : State :=
  let ds := resvDrives s
  let s := registerAll s
  let s := s.each ds fun s d => resvPreempt d s
  s.each ds fun s d => let r := resvAcquire d s; if r.1 then r.2 else claimLost r.2

/-- The unit goes on alone. -/
def goSolo (reason : Nat) (s : State) : State :=
  let s := setPair 0 { s with
    pair.unconf := [], pair.deltaPages := 0, pair.deltaRecs := 0, pair.deltaAddrs := [],
    pair.handing := false, pair.released := false, pair.preempting := [], pair.unpairing := false }
  let s := (s.wr R.SPR_STATUS_REASON reason).wr R.SPR_STATUS_READY 0
  let s := fetchFail (mirrorDone (2 ^ 64) s)
  let held := s.on R.HPT_CE_ACT_PAIR_WAIT
  let s := s.wr R.HPT_CE_ACT_PAIR_WAIT 0
  if held ∧ s.ce.commit.isSome ∧ s.rd R.HPT_CE_ACT_PHASE = 1 then actDrain s else pairCommitEnd s

/-- The active splits from a standby that it has lost. -/
def splitNow (reason : Nat) (s : State) : State :=
  let s := takeClaim 0 3 s
  let s := splitDrives { s with pair.preempting := resvDrives s }
  if s.on R.SPR_STATUS_CLAIM_LOST then s
  else ((goSolo reason s).raise R.SPR_INT_STATUS_SPLIT).event 0x4403 0 (leBytes 8 s.pair.claim)

/-- SOLO_WAIT_EXPIRE: SOLO_WAIT epochs without a HEALTH frame or a CONFIRM. -/
def doSoloWaitExpire (s : State) : State :=
  if s.pairState = 3 ∧ s.pair.lastRx + s.rd R.SPR_TIMING_SOLO_WAIT ≤ s.tet.epoch ∧ s.pair.actUntil ≤ s.tet.epoch then
    splitNow (if sparUp s then 0 else 2) s
  else s

/-! ### Hand-back (R312, R313) -/

/-- A command in a context that has not begun. -/
def notBegun (c : Ctx) : Bool :=
  c.seqs.isEmpty && c.sops.isEmpty && c.outst.isEmpty && c.compan.getD 0 = 0 &&
  [CPhase.ordered, .lock, .basket, .spar, .ring, .alloc, .evb, .fill].contains c.phase

/-- The active enters HANDING. -/
def startHanding (s : State) : State :=
  let s := setPair 5 { s with pair.handing := false, pair.released := false }
  s.each (s.ce.ctxs.filter notBegun) fun s c => finishCtx c (3, 3, false) [] s

/-- HANDBACK_REQ. -/
def doHandbackReq (s : State) : State := if sparUp s ∧ s.pairState = 3 then startHanding s else s

/-- HANDING_DRAIN_DONE: the last command has drained; the CUT of the next boundary is the final one. -/
def doHandingDrainDone (s : State) : State :=
  if s.pairState = 5 ∧ ¬ s.pair.handing ∧ s.ce.ctxs.isEmpty then
    { s with pair.handing := true, pair.releaseEpoch := s.tet.epoch + 1 }
  else s

/-- The former active is standby again: its copy equals the final cut. -/
def handedOver (s : State) : State :=
  let s := memberStop s
  let s := (s.raise R.SPR_INT_STATUS_HANDBACK).incSat R.SPR_CNT_HANDBACKS
  let s := { s with
    pair.lastHandback := some s.tet.epoch, pair.handing := false, pair.released := false, pair.unconf := [],
    pair.lastCutRx := s.tet.epoch, pair.stagedP := [], pair.stagedR := [] }
  if s.pair.unpairing then pairReply eOk (goSolo 0 (takeClaim 0 3 s))
  else
    let s := setSynced true (setPair 2 (registerAll (takeClaim 2 2 s)))
    let s := pairReply eOk s
    -- step 5 of R314: the former active, now standby, activates
    if s.on R.HPT_CE_ACT_PAIR_WAIT ∧ s.ce.commit.isSome ∧ s.rd R.HPT_CE_ACT_PHASE = 1 then
      actDrain (control opActBegin [] ({ s with pair.second := true }.wr R.HPT_CE_ACT_PAIR_WAIT 0))
    else s

/-- RELEASE: the home takes its hand-back claim. -/
def doRelease (_clm : Nat) (s : State) : State :=
  if sparUp s ∧ s.pairState = 2 then startTaking 2 s else s

/-- RELEASE_TIMEOUT: no claim of the home within 16 epochs of RELEASE. -/
def doReleaseTimeout (s : State) : State :=
  if s.pairState = 5 ∧ s.pair.released ∧ s.pair.releaseEpoch + 16 ≤ s.tet.epoch ∧ s.pair.peerClaim < s.pair.claim then
    takeover (memberStop s)
  else s

/-- A request for hand-back goes to the active. -/
def handbackAsk (s : State) : State := control opHandback [] s

/-- HOLDOFF_EXPIRE: the home has been READY for HOLDOFF_S seconds. -/
def doHoldoffExpire (s : State) : State :=
  match s.pair.readySince with
  | some e =>
    if s.pairState = 2 ∧ s.on R.SPR_CFG_HOME ∧ s.on R.SPR_CFG_AUTO_BACK ∧ ¬ s.on R.SPR_STATUS_FLAPPING ∧
        e + s.rd R.SPR_CFG_HOLDOFF_S * sec1 ≤ s.tet.epoch then handbackAsk s
    else s
  | none => s

/-- REARM. -/
def doRearm (s : State) : State :=
  if s.on R.SPR_STATUS_FLAPPING then s.wr R.SPR_STATUS_FLAPPING 0 else s.wr R.SPR_STATUS_LAST_ERR eState

/-- SPR_CLR_ERR. -/
def doSprClrErr (s : State) : State := s.wr R.SPR_STATUS_LAST_ERR 0

/-! ### Frames -/

/-- SPAR_LINK_UP with 8 or 4 lanes (R296, R300). -/
def doSparLinkUp (lanes : Nat) (s : State) : State :=
  if (lanes ≠ 8 ∧ lanes ≠ 4) ∨ deviceOff s ∨ s.dwn.step < 11 ∨ groupDead s 9 then s else
  let s := ((s.wr R.SPR_LINK_UP 1).wr R.SPR_LINK_LANES lanes).wr R.SPR_LINK_CAP_GBS (if lanes = 8 then 80 else 40)
  let s := s.raise R.SPR_INT_STATUS_SPAR_UP
  if lanes = 4 then s.raise R.SPR_INT_STATUS_DEGRADED_LINK else s

/-- SPAR_LINK_DOWN. -/
def doSparLinkDown (s : State) : State :=
  if ¬ sparUp s then s else
  let s := ((s.wr R.SPR_LINK_UP 0).wr R.SPR_LINK_LANES 0).wr R.SPR_LINK_CAP_GBS 0
  { s.raise R.SPR_INT_STATUS_SPAR_DOWN with pair.stagedP := [], pair.stagedR := [] }

/-- PAGE: a page of the delta waits for its CUT; one of the bulk copy (FLAGS.SYNC) is written at once. -/
def doPage (addr : Nat) (blk : Block) (sync : Bool) (s : State) : State :=
  if ¬ sparUp s ∨ ¬ standingBy s ∨ s.bsk.w ≤ addr then s
  else if sync then { s with bsk.pages := SMap.set 0 addr blk s.bsk.pages }
  else { s with pair.stagedP := s.pair.stagedP ++ [(addr, blk)] }

/-- RECORDS. -/
def doRecords (rs : List Rec) (sync : Bool) (s : State) : State :=
  if ¬ sparUp s ∨ ¬ standingBy s ∨ 64 < rs.length then s
  else if sync then rs.foldl mirrorRec s
  else { s with pair.stagedR := s.pair.stagedR ++ rs }

/-- The standby takes a whole delta into its Basket, ring and index. -/
def deltaApply (s : State) : State :=
  let pages := s.pair.stagedP
  let recs := s.pair.stagedR
  let s := { s with bsk.pages := pages.foldl (fun m p => SMap.set 0 p.1 p.2 m) s.bsk.pages, pair.stagedP := [], pair.stagedR := [] }
  recs.foldl mirrorRec s

/-- CUT: the delta is checked, taken and confirmed, or discarded with a negative reply (R299). A former active that has
released control sees in it that the home serves. -/
def doCut (epoch _first last pages recs : Nat) (crcOk : Bool) (s : State) : State :=
  if ¬ sparUp s then s else
  let s := if s.pairState = 5 ∧ s.pair.released ∧ s.pair.claim < s.pair.peerClaim then handedOver s else s
  if ¬ standingBy s then s else
  let s := { s with pair.lastCutRx := s.tet.epoch }
  if s.pair.stagedP.length = pages ∧ s.pair.stagedR.length = recs ∧ crcOk then
    let s := { deltaApply s with pair.confirmed := epoch }
    sparSend 4 [epoch, last] (s.wr R.SPR_MIRROR_CONFIRMED epoch)
  else control opNak [] { s with pair.stagedP := [], pair.stagedR := [] }

/-- CONFIRM: what waited for the cut goes on; the final cut of a hand-back is followed by RELEASE. -/
def doConfirm (epoch _last : Nat) (s : State) : State :=
  if ¬ sparUp s ∨ ¬ mirroring s ∨ ¬ s.pair.unconf.any (fun u => u.1 = epoch) then s else
  let s := { s with
    pair.unconf := s.pair.unconf.filter (fun u => epoch < u.1), pair.confirmed := epoch, pair.naks := 0,
    pair.lastRx := s.tet.epoch }
  let s := mirrorDone epoch ((s.wr R.SPR_MIRROR_CONFIRMED epoch).gaugeTime 10)
  if s.pairState = 5 ∧ s.pair.handing ∧ s.pair.releaseEpoch ≤ epoch then
    control opRelease [s.pair.claim] { s with pair.released := true, pair.releaseEpoch := s.tet.epoch }
  else s

/-- RECORDS frames of 1 to 64 records each (Table 12.2). -/
def recsSend : Nat → List Rec → State → State
  | 0, _, s => s
  | n + 1, rs, s => if rs.isEmpty then s else recsSend n (rs.drop 64) (s.emit (.sparRecs (rs.take 64)))

/-- Send a delta again, ahead of the next one (FLAGS.RESENT). -/
def resend (u : Nat × Nat × Nat × List Nat) (s : State) : State :=
  let rs := (ringRecs s).filter fun r => decide (u.2.1 ≤ r.seq) && decide (r.seq ≤ u.2.2.1)
  let s := s.each u.2.2.2 fun s p => s.emit (.sparBlock 1 p (pageAt s p))
  sparSend 3 [u.1, u.2.1, u.2.2.1, u.2.2.2.length, rs.length] (recsSend rs.length rs s)

/-- DELTA_NAK: the delta is sent again; after 3 failed sends the link retrains as a link down. -/
def doDeltaNak (s : State) : State :=
  match s.pair.unconf with
  | [] => s
  | u :: _ =>
    if ¬ sparUp s ∨ ¬ mirroring s then s
    else if 3 ≤ s.pair.naks + 1 then doSparLinkDown { s with pair.naks := 0 }
    else resend u { s with pair.naks := s.pair.naks + 1 }

/-- HEALTH: the active keeps the word; a READY that falls is reported. -/
def doHealth (word : Nat) (s : State) : State :=
  if ¬ sparUp s ∨ ¬ (s.pairState = 3 ∨ s.pairState = 5) then s else
  let was := s.on R.SPR_STATUS_READY
  let s := { s with pair.lastRx := s.tet.epoch, pair.health := word % 2 ^ 64 }
  let s := (s.wr R.SPR_HEALTH_LO_HEALTH_LO word).wr R.SPR_HEALTH_HI_HEALTH_HI (word / 2 ^ 32)
  let s := s.wr R.SPR_STATUS_READY (b2n (bit word 8))
  if was ∧ ¬ bit word 8 then s.raise R.SPR_INT_STATUS_PEER_NOT_READY else s

/-- SPAR_CLAIM: the peer's claim is kept; a serving unit sequences it as a record (R298). An active unit that unpairs
sends its standby to SOLO (R316). -/
def doSparClaim (role cause clm prev peer : Nat) (s : State) : State :=
  if ¬ sparUp s then s else
  let s := claimRegs { s with pair.peerClaim := max s.pair.peerClaim clm }
  let s := if mirroring s ∨ s.pairState = 0 then record (.clm role cause clm prev peer) s else s
  if ¬ (role = 0 ∧ cause = 3) then s
  else if standingBy s then goSolo 0 (setSynced false s)
  else if s.pairState = 3 then splitNow 0 s
  else s

/-- FETCH_REQ: the page goes to the peer where this unit has it. -/
def doFetchReq (addr : Nat) (s : State) : State :=
  if ¬ sparUp s ∨ ¬ [1, 2, 3, 5].contains s.pairState ∨ s.bsk.cap ≤ addr ∨ s.bsk.fetching.contains addr then s
  else s.emit (.sparBlock 8 addr (pageAt s addr))

/-- FETCH_DATA. -/
def doFetchData (addr : Nat) (blk : Block) (s : State) : State :=
  if ¬ sparUp s ∨ ¬ s.bsk.fetching.contains addr then s
  else pageArrived addr { s with bsk.pages := SMap.set 0 addr blk s.bsk.pages }

/-- ACT_BEGIN: missing HEALTH and CONFIRM do not count for 5,000 epochs (R314). -/
def doActBegin (s : State) : State :=
  if ¬ sparUp s ∨ s.pairState ≠ 3 then s
  else { s.wr R.HPT_CE_ACT_PAIR_WAIT 1 with pair.actUntil := s.tet.epoch + 5000 }

/-- ACT_DONE. An activation of this unit's own waits on for the switchover; one that it has ended completes now (R314 step 6). -/
def doActDone (s : State) : State :=
  if ¬ sparUp s ∨ s.pairState ≠ 3 then s
  else
    let s := { s with pair.actUntil := 0, pair.lastRx := s.tet.epoch }
    if s.ce.commit.isSome ∧ s.rd R.HPT_CE_ACT_PHASE ≠ 0 then s else pairCommitEnd (s.wr R.HPT_CE_ACT_PAIR_WAIT 0)

/-- The dirty pages and needed records of the bulk copy, with FLAGS.SYNC. -/
def bulkPages (s : State) : List Nat :=
  (s.bsk.extents.flatMap fun e => rangeFrom e.addr e.count) ++ s.bsk.saved.flatMap fun x => rangeFrom x.addr x.count

/-- The check of R293 that a peer fails, as REASON. -/
def helloRefuse (s : State) (h : Hello) : Nat :=
  if ¬ h.accepts ∨ h.version < sparLowest s ∨ sparVersion s < h.version then 8
  else if ¬ h.cfgMatch ∨ h.unit ≠ s.rd R.SPR_CFG_PEER_UNIT ∨ h.peer ≠ s.unit ∨ h.home = s.on R.SPR_CFG_HOME then 3
  else if noFence s then 4 else 0

/-- SYNC_BEGIN: a standby joins; the next SEQ rises above everything that it ever wrote, and the bulk copy runs (R302). A
unit that fails a check of R293 does not pair. -/
def doSyncBegin (seq : Nat) (s : State) : State :=
  if ¬ sparUp s ∨ ¬ s.on R.SPR_CFG_EN ∨ ¬ (s.pairState = 0 ∨ s.pairState = 3) then s
  else
    let r := match s.pair.helloRx with
      | some h => helloRefuse s h
      | none => if noFence s then 4 else 0
    if r ≠ 0 then s.wr R.SPR_STATUS_REASON r else
    let s := { s with jrn.nextSeq := max s.jrn.nextSeq (seq + 1) }
    let ps := bulkPages s
    let s := setPair 3 { s with
      pair.deltaFirst := s.jrn.nextSeq, pair.lastRx := s.tet.epoch, pair.unconf := [],
      pair.bulk := (ps.length, ps.length), pair.health := 0 }
    let s := ((s.wr R.SPR_STATUS_REASON 0).wr R.SPR_SYNC_PCT 0).wr R.SPR_STATUS_READY 0
    let rs := neededRecs s
    let s := recsSend rs.length rs s
    s.each ps fun s p => s.emit (.sparBlock 1 p (pageAt s p))

/-- BULK_COPY_END: SYNC_DONE goes out. -/
def doBulkCopyEnd (s : State) : State :=
  if s.pairState ≠ 3 ∨ ¬ sparUp s then s
  else control opSyncDone [] ((({ s with pair.bulk := (0, 0) }).wr R.SPR_SYNC_PCT 100).raise R.SPR_INT_STATUS_SYNCED)

/-- SYNC_DONE: the standby has its copy. -/
def doSyncDone (s : State) : State :=
  if ¬ sparUp s ∨ s.pairState ≠ 1 then s
  else setPair 2 (((setSynced true s).wr R.SPR_SYNC_PCT 100).raise R.SPR_INT_STATUS_SYNCED)

/-- STANDBY_REJOIN: a FENCED unit whose health allows joins the new active (R309). -/
def doStandbyRejoin (s : State) : State :=
  if s.pairState = 6 ∧ sparUp s ∧ s.on R.GON_STATUS_MRAM_OK ∧ s.on R.SPR_CFG_EN then
    let s := if s.on R.SPR_CFG_HOME then flapCheck s else s
    becomeStandby 0 s
  else s

/-! ### Role choice at Dawn (R315) -/

/-- The role of this unit's newest CLAIM record: 0 unpaired, 1 active, 2 standby; 3 none. -/
def lastRole (s : State) : Nat :=
  let mine := (ringRecs s).filterMap fun r => match r.body with
    | .clm role _ c _ _ => if claimUnit c = s.unit then some (c, role) else none
    | _ => none
  (mine.foldl (fun (b : Nat × Nat) p => if b.1 ≤ p.1 then p else b) (0, 3)).2

/-- This unit's evidence is its Gondola or its Ballast journal copy (R104). -/
def ownEvidence (s : State) : Bool := s.on R.GON_STATUS_MRAM_OK || s.dwn.restored || s.ext.vaults.any fun v => v.complete && v.journalSeal

/-- This unit's HELLO: LAST_CLAIM and the highest SEQ. -/
def helloSend (s : State) : State := control opHello [s.pair.lastClaim, s.jrn.nextSeq - 1] s

/-- HELLO: kept for the choice of roles; a unit that serves answers with its own. -/
def doHello (h : Hello) (s : State) : State :=
  if ¬ sparUp s ∨ ¬ s.on R.SPR_CFG_EN then s else
  let s := claimRegs { s with pair.helloRx := some h, pair.peerClaim := max s.pair.peerClaim h.lastClaim }
  if s.ready then helloSend s else s

/-- This unit starts as active, with its peer to join: the claim, its drives. -/
def startActive (s : State) : State :=
  let s := takeClaim 1 0 s
  let s := splitDrives { s with pair.preempting := resvDrives s }
  if s.on R.SPR_STATUS_CLAIM_LOST then s
  else setPair 3 { s with pair.preempting := [], pair.lastRx := s.tet.epoch, pair.deltaFirst := s.jrn.nextSeq }

/-- Both units are present (R315). -/
def choosePresent (h : Hello) (s : State) : State :=
  let r := helloRefuse s h
  if r ≠ 0 then separate r s else
  let me := lastRole s
  let cand := fun x : Nat => x = 0 || x = 1
  let mine := decide (h.lastClaim < s.pair.lastClaim)
  let first := if cand me && (¬ cand h.role || mine) then some true else if cand h.role then some false else none
  let sound := s.nv.pairSynced && s.on R.GON_STATUS_MRAM_OK
  let act := match first with
    | some true => if ownEvidence s then some true else if h.role = 2 ∧ h.synced ∧ h.mramOk then some false else none
    | some false => if h.evidence then some false else if me = 2 ∧ sound then some true else none
    | none => if me = 3 ∧ h.role = 3 then some (s.on R.SPR_CFG_HOME) else none
  match act with
  | some true => startActive s
  | some false => becomeStandby 0 s
  | none => separate 5 s

/-- The peer is absent (R315). -/
def chooseAbsent (s : State) : State :=
  let r := lastRole s
  if r = 2 ∨ (r = 3 ∧ ¬ s.on R.SPR_CFG_HOME) then separate 7 s
  else splitNow (if sparUp s then 7 else 2) s

/-! ### Conflicts (R306) -/

/-- RESERVATION_CONFLICT: a member command met another unit's reservation. -/
def doReservationConflict (a m holder : Nat) (s : State) : State :=
  if ¬ arrOn s a ∨ memN s a ≤ m then s else
  let d := memDrv s a m
  let s := s.modDrive d fun x => { x with holder := holder, keys := holder :: x.keys.filter fun k => claimUnit k ≠ s.unit && k ≠ holder }
  let s := claimRegs { s with
    pair.fenceMember := m,
    pair.peerClaim := if claimUnit holder = s.unit then s.pair.peerClaim else max s.pair.peerClaim holder }
  let s := drvInt R.DRV_INT_FENCE_PORTS d s
  let home := s.on R.SPR_CFG_HOME && (s.pairState = 3 || s.pairState = 5)
  let s := claimLost s
  if home then flapCheck s else s

/-! ### Mailbox (R311, R312, R316) -/

/-- Keep a header until the pair's change completes. -/
def pairHold (h : MbxHdr) (op : Nat) (s : State) : State := { s with pair.mbxWait := some h, pair.mbxOp := op }

/-- PAIR_FORCE: a SEPARATED unit takes every drive. -/
def pairForceGo (h : MbxHdr) (s : State) : State :=
  if s.pairState ≠ 7 then mbxErr h 0x0301 eState s
  else pairHold h 0x0301 (takeover (s.wr R.SPR_STATUS_REASON 0))

/-- PAIR_SWITCHOVER: a ready standby requests hand-back. -/
def pairSwitchoverGo (h : MbxHdr) (s : State) : State :=
  if s.pairState ≠ 2 ∨ ¬ s.on R.SPR_STATUS_READY then mbxErr h 0x0302 eState s
  else mbxOk h 0x0302 (handbackAsk s)

/-- PAIR_UNPAIR: control goes to the home unit first; then both units are SOLO. -/
def pairUnpairGo (h : MbxHdr) (s : State) : State :=
  if s.pairState = 3 then
    if s.on R.SPR_CFG_HOME then mbxOk h 0x0303 (splitNow 0 s)
    else startHanding (pairHold h 0x0303 { s with pair.unpairing := true })
  else mbxErr h 0x0303 eState s

/-- The requests of the pair in the mailbox. -/
def pairForceDo (h : MbxHdr) (tok : Token) : State → State :=
  mbxRunCmd h { plainSpec 0x0301 (h.len = 120) with tok := some tok } pairForceGo
def pairSwitchoverDo (h : MbxHdr) : State → State := mbxRunCmd h (plainSpec 0x0302 (h.len = 0)) pairSwitchoverGo
def pairUnpairDo (h : MbxHdr) : State → State := mbxRunCmd h (plainSpec 0x0303 (h.len = 0)) pairUnpairGo

def execSparLinkUp (lanes : Nat) (s : State) : Out := live s (doSparLinkUp lanes s)
def execSparLinkDown (s : State) : Out := live s (doSparLinkDown s)
def execPage (addr : Nat) (blk : Block) (sync : Bool) (s : State) : Out := live s (doPage addr blk sync s)
def execRecords (rs : List Rec) (sync : Bool) (s : State) : Out := live s (doRecords rs sync s)
def execCut (epoch first last pages recs : Nat) (crcOk : Bool) (s : State) : Out := live s (doCut epoch first last pages recs crcOk s)
def execConfirm (epoch last : Nat) (s : State) : Out := live s (doConfirm epoch last s)
def execDeltaNak (s : State) : Out := live s (doDeltaNak s)
def execHealth (word : Nat) (s : State) : Out := live s (doHealth word s)
def execSparClaim (role cause clm prev peer : Nat) (s : State) : Out := live s (doSparClaim role cause clm prev peer s)
def execFetchReq (addr : Nat) (s : State) : Out := live s (doFetchReq addr s)
def execFetchData (addr : Nat) (blk : Block) (s : State) : Out := live s (doFetchData addr blk s)
def execHandbackReq (s : State) : Out := live s (doHandbackReq s)
def execHandingDrainDone (s : State) : Out := live s (doHandingDrainDone s)
def execRelease (clm : Nat) (s : State) : Out := live s (doRelease clm s)
def execReleaseTimeout (s : State) : Out := live s (doReleaseTimeout s)
def execRelinquish (s : State) : Out := live s (doRelinquish s)
def execActBegin (s : State) : Out := live s (doActBegin s)
def execActDone (s : State) : Out := live s (doActDone s)
def execSyncBegin (seq : Nat) (s : State) : Out := live s (doSyncBegin seq s)
def execBulkCopyEnd (s : State) : Out := live s (doBulkCopyEnd s)
def execSyncDone (s : State) : Out := live s (doSyncDone s)
def execHello (h : Hello) (s : State) : Out := live s (doHello h s)
def execActiveLostDetect (s : State) : Out := live s (doActiveLostDetect s)
def execPreemptComplete (s : State) : Out := live s (doPreemptComplete s)
def execPreemptDeadline (s : State) : Out := live s (doPreemptDeadline s)
def execSoloWaitExpire (s : State) : Out := live s (doSoloWaitExpire s)
def execHoldoffExpire (s : State) : Out := live s (doHoldoffExpire s)
def execRearm (s : State) : Out := live s (doRearm s)
def execSprClrErr (s : State) : Out := live s (doSprClrErr s)
def execStandbyRejoin (s : State) : Out := live s (doStandbyRejoin s)
def execReservationConflict (a m holder : Nat) (s : State) : Out := live s (doReservationConflict a m holder s)

end Sys2Proof.Machine
end

