-- ==== Sys2Proof/Machine/StringOps.lean ====
section
/-! DEFINITION. The String's shared operations (spec/11_string_cascade.md): ports and forwarding, reports, the directory,
joining and leaving, elections, the Reel's part, distributions of system configuration. -/

namespace Sys2Proof.Machine

/-! ### States and ports -/

/-- STG STATE codes (Table 11.10). -/
def sBypassed : Nat := 0
def sTraining : Nat := 1
def sJoining : Nat := 2
def sJoined : Nat := 3
def sElecting : Nat := 4
def sRefused : Nat := 5

/-- STATE. -/
def strState (s : State) : Nat := s.rd R.STG_STATUS_STATE

/-- Set STATE; JOINED is raised on entering it. -/
def strGo (v : Nat) (s : State) : State :=
  let s' := s.wr R.STG_STATUS_STATE v
  if v = sJoined ∧ strState s ≠ sJoined then s'.raise R.STG_INT_STATUS_JOINED else s'

/-- This device is the Reel. -/
def isReel (s : State) : Bool := s.on R.STG_STATUS_REEL

/-- The Reel's unit, 0xFFFF while none. -/
def reelUnit (s : State) : Nat := s.rd R.STG_REEL_REEL_UNIT

/-- POS and SIZE. -/
def strPos (s : State) : Nat := s.rd R.STG_RING_POS
def strSize (s : State) : Nat := s.rd R.STG_RING_SIZE

/-- Fields of a port: 0 west, 1 east. -/
def portLink (p : Nat) : Fld := if p = 0 then R.STG_PORT_W_LINK else R.STG_PORT_E_LINK
def portLock (p : Nat) : Fld := if p = 0 then R.STG_PORT_W_LOCK else R.STG_PORT_E_LOCK
def portDelay (p : Nat) : Fld := if p = 0 then R.STG_PORT_W_DELAY_NS else R.STG_PORT_E_DELAY_NS
def portCrc (p : Nat) : Fld := if p = 0 then R.STG_ERR_W_CRC else R.STG_ERR_E_CRC
def portDown (p : Nat) : Fld := if p = 0 then R.STG_ERR_W_DOWN else R.STG_ERR_E_DOWN

/-- Delay samples of a port since its link came up, newest first, in ps. -/
def delaySamples (s : State) (p : Nat) : List Nat := ((s.str.delays.find? fun d => d.1 = p).map (·.2)).getD []

/-- D has been measured at least 16 times. -/
def calibrated (s : State) (p : Nat) : Bool := decide (16 ≤ (delaySamples s p).length)

/-- D of a port in ps: the average of its last 16 measurements. -/
def delayPs (s : State) (p : Nat) : Nat :=
  let l := (delaySamples s p).take 16
  l.sum / max 1 l.length

/-- SYS_GEN of this device. -/
def sysGen (s : State) : Nat := s.dwn.configGen / 2 ^ 32

/-! ### Routes (R282) -/

/-- The spans from POS `p` eastward to POS `q`; span k lies east of POS k. -/
def spansEast (size p q : Nat) : List Nat := (List.range ((q + size - p) % size)).map fun i => (p + i) % size

/-- The port that reaches POS `q` without crossing a listed break; of two, the one with fewer spans, east on a tie. -/
def routeTo (s : State) (q : Nat) : Nat :=
  let n := max 1 (strSize s)
  let e := spansEast n (strPos s) q
  let w := spansEast n q (strPos s)
  let ok := fun l : List Nat => ¬ l.any fun x => s.str.breaks.contains x
  if ok e ∧ (¬ ok w ∨ e.length ≤ w.length) then 1 else if ok w then 0 else if e.length ≤ w.length then 1 else 0

/-- The POS of a unit as the Reel knows it: its place in ring order. -/
def posOf (s : State) (u : Nat) : Nat :=
  match s.str.members.find? fun m => m.1 = u with
  | some m => 1 + (s.str.members.filter fun x => x.2.2 < m.2.2).length
  | none => 0

/-- Send a unicast frame with a SEQ. Out of a port that is down it is turned round (R282). -/
def strSendSeq (dst ty seq : Nat) (vals : List Nat) (s : State) : State :=
  let p := routeTo s (if isReel s then posOf s dst else 0)
  let p := if strPortUp s p then p else 1 - p
  if strPortUp s p then s.emit (.string p ty (dst :: seq :: vals)) else s

/-- Send a unicast frame. -/
def strSend (dst ty : Nat) (vals : List Nat) (s : State) : State :=
  strSeqUp ty (strSendSeq dst ty (strSeq s ty) vals s)

/-- Forward a frame in its direction of travel, turned round at a port that is down (R276, R282). -/
def strForward (h : StrHdr) (ty : Nat) (vals : List Nat) (s : State) : State :=
  let out := 1 - h.port
  let turn := ¬ strPortUp s out
  let p := if turn then h.port else out
  if ¬ strPortUp s p then s else
  s.emit (.string p ty ([h.src, h.dst, h.seq, h.hops + 1, b2n (h.west ≠ turn), b2n (h.wrapped || turn), b2n h.uncal] ++ vals))

/-- Broadcasts of one sender and type that a device remembers. -/
def seenMax : Nat := 1024

/-- Remember a broadcast. -/
def strSee (h : StrHdr) (ty : Nat) (s : State) : State :=
  let same := fun x : Nat × Nat × Nat => x.1 = h.src && x.2.1 = ty
  { s with str.seen := (h.src, ty, h.seq) :: (s.str.seen.filter same).take (seenMax - 1) ++ s.str.seen.filter fun x => ¬ same x }

/-- Pass a broadcast on until HOPS + 1 reaches SIZE; a device that does not know SIZE yet passes it on. -/
def strPass (h : StrHdr) (ty : Nat) (vals : List Nat) (s : State) : State :=
  if strSize s = 0 ∨ h.hops + 1 < strSize s then strForward h ty vals s else s

/-- What a device does with a frame that it receives: nothing, drop it counted, forward it, act on it, or both. A device
acts on the first copy of a broadcast only. -/
def strRx (h : StrHdr) (ty : Nat) (vals : List Nat) (act : State → State) (s : State) : State :=
  if s.str.bypassClosed ∨ ¬ strPortUp s h.port then s
  else if ¬ h.crcOk then s.incSat (portCrc h.port)
  else if h.dst = 0xFFFF then
    if h.src = s.unit ∨ s.str.seen.contains (h.src, ty, h.seq) then s
    else
      act (strPass h ty vals (strSee h ty s))
  else if h.dst = s.unit then act s
  else strForward h ty vals s

/-! ### Reports (R286) -/

/-- REPORT sub-codes of the model. -/
def subJoin : Nat := 0
def subLeave : Nat := 1
def subLinkDown : Nat := 2
def subLinkUp : Nat := 3
def subCensus : Nat := 4
def subGenReady : Nat := 5
def subGenReject : Nat := 6
def subChunkNak : Nat := 7
def subPublish : Nat := 8
def subSummary : Nat := 9

/-- Send the report at the head of the queue, where none is outstanding and a Reel is known. -/
def reportNext (s : State) : State :=
  match s.str.reports with
  | [] => s
  | r :: rs =>
    if r.sent.isSome ∨ reelUnit s = 0xFFFF ∨ isReel s ∨ ¬ (strState s = sJoined ∨ (strState s = sJoining ∧ r.sub = subJoin)) then s
    else
      let q := strSeq s 6
      let s := { s with str.reports := { r with seq := q, sent := some s.tet.epoch } :: rs }
      strSeqUp 6 (strSendSeq (reelUnit s) 6 q (r.sub :: r.vals) s)

/-- Put a report into the queue; a new SUMMARY replaces a queued one where the 64 entries are full. -/
def reportAdd (sub : Nat) (vals : List Nat) (s : State) : State :=
  let r : Report := ⟨sub, vals, 0, none⟩
  let isOld := fun x : Report => x.sub = subSummary && x.sent.isNone
  let rs := if 64 ≤ s.str.reports.length ∧ sub = subSummary ∧ s.str.reports.any isOld then
      s.str.reports.map fun x => if isOld x then r else x
    else s.str.reports ++ [r]
  reportNext { s with str.reports := rs }

/-- The first configured fabric address: family and value. -/
def firstAddr (s : State) : Nat × Nat :=
  let e := (tableOf s.dwn.tables 2).take 24
  if e.isEmpty then (0, 0) else (e.getD 2 0, leNat (e.drop 8))

/-- What this device tells the Reel of itself. -/
def unitInfo (s : State) : UnitInfo := ⟨s.dwn.configGen, s.ns.length, (firstAddr s).1, (firstAddr s).2⟩

/-- An entry with what its unit tells of itself. -/
def infoPut (u : UnitInfo) (e : DirEntry) : DirEntry :=
  { e with configGen := u.configGen, nsCount := u.nsCount, family := u.family, addr := u.addr }

/-- The values of it in a report. -/
def infoVals (u : UnitInfo) : List Nat := [u.configGen, u.nsCount, u.family, u.addr]

/-- JOIN goes first: the Reel acts on nothing else of a device that is not joined. -/
def joinAdd (s : State) : State :=
  let r : Report := ⟨subJoin, [s.rd R.STG_ID_SLOT, s.rd R.SPR_CFG_PEER_UNIT] ++ infoVals (unitInfo s), 0, none⟩
  let rest := (s.str.reports.filter fun x => x.sub ≠ subJoin).map fun (x : Report) => { x with sent := none }
  { s with str.reports := r :: rest }

/-- A census or directory request: the entries above the generation that the device has (R284, R288). -/
def censusAdd (upTo : Nat) (s : State) : State :=
  reportAdd subCensus ([s.rd R.STG_ID_SLOT] ++ infoVals (unitInfo s) ++ [upTo]) s

/-- A JOIN is sent to a Reel. -/
def joinTo (unit key : Nat) (s : State) : State :=
  let s := if reelUnit s ≠ unit then s.raise R.STG_INT_STATUS_REEL_CHG else s
  let s := (strGo sJoining s).wr R.STG_REEL_REEL_UNIT unit
  reportNext (joinAdd { s with str.reelKey := key, str.lastRx := s.tet.epoch })

/-! ### The directory (R288) -/

/-- The discovery list changed (R240). -/
def discChanged (s : State) : State :=
  noticeDisc ({ s with fab.discGen := s.fab.discGen + 1 }.raise R.FAB_INT_STATUS_DISC_CHG)

/-- Do something that may change the discovery list. -/
def withDisc (f : State → State) (s : State) : State :=
  let s' := f s
  if discReferrals s = discReferrals s' ∧ discLocal s = discLocal s' then s' else discChanged s'

/-- The directory with an entry put in, in SLOT order. -/
def dirPut (e : DirEntry) (l : List DirEntry) : List DirEntry :=
  (l.filter fun x => x.slot < e.slot) ++ e :: l.filter fun x => e.slot < x.slot

/-- ROLE of a unit in claims and summaries: 0 unpaired, 1 active, 2 standby. -/
def roleCode (s : State) : Nat :=
  match s.pairState with
  | 3 | 4 | 5 => 1
  | 1 | 2 => 2
  | _ => 0

/-- This device's own entry. -/
def dirOwn (s : State) : DirEntry :=
  let pr := if s.on R.SPR_CFG_EN then s.rd R.SPR_CFG_PEER_UNIT else 0xFFFF
  ⟨s.rd R.STG_ID_SLOT, s.unit, 1 + 8 * b2n (s.pairState = 3), roleCode s, pr, s.pair.claim, s.dwn.configGen, s.ns.length,
    (firstAddr s).1, (firstAddr s).2, s.tet.epoch⟩

/-- The Reel changes an entry: DIR_GEN rises and the entry is broadcast. -/
def dirChange (e : DirEntry) (s : State) : State :=
  let s := withDisc (fun s => { s with str.dir := dirPut e s.str.dir, str.dirGen := s.str.dirGen + 1 }) s
  strBroadcast 0x0B [e.slot, e.unit, e.flags, s.str.dirGen] (s.raise R.STG_INT_STATUS_DIR_CHG)

/-- The entry of a unit, as active unit of its SLOT or as the peer. -/
def dirOf (s : State) (u : Nat) : Option DirEntry := s.str.dir.find? fun e => e.unit = u || e.peer = u

/-- A claim enters the directory where it is newer. -/
def dirClaim (u role clm peer : Nat) (e : DirEntry) : DirEntry :=
  if clm < e.claim then e
  else { e with
    claim := clm, role := role, peer := if role = 2 then u else peer, unit := if role = 2 then e.unit else u }

/-! ### Leaving -/

/-- The publishing command that waits ends with a code. -/
def pubReply (code : Nat) (s : State) : State :=
  match s.str.pub with
  | some (h, _) => mbxReply h 0x0109 code 0 [] { s with str.pub := none }
  | none => s

/-- The bypass switches close: nothing of the String is held, a PUBLISH that waits ends (R280, R390). -/
def bypassClose (state : Nat) (s : State) : State :=
  let s := pubReply eState s
  let s := { s with str := { Str.reset with seqs := s.str.seqs, reelGen := 0 } }
  let s := withDisc id s
  let s := strGo state s
  let s := (((s.wr R.STG_STATUS_REEL 0).wr R.STG_STATUS_WRAPPED 0).wr R.STG_STATUS_GEN_BEHIND 0).wr R.STG_REEL_REEL_UNIT 0xFFFF
  let s := ((s.wr R.STG_RING_POS 0).wr R.STG_RING_SIZE 0).wr R.STG_COLLECT_DEPTH 0
  let s := (s.wr R.STG_REEL_HOPS 0).wr R.STG_REEL_DIR 0
  s.each [0, 1] fun s p => ((s.wr (portLink p) 0).wr (portLock p) 0).wr (portDelay p) 0

/-- The bypass opens and both ports train. -/
def strTrain (s : State) : State :=
  let s := { s with str.bypassClosed := false, str.trainFrom := s.tet.epoch, str.firstUp := none, str.lastRx := s.tet.epoch }
  let s := (strGo sTraining s).wr R.STG_STATUS_REFUSE 0
  s.each [0, 1] fun s p => s.wr (portLink p) 1

/-- LEAVE is requested: told to the Reel first where the device is joined (Table 11.5). -/
def strLeave (night : Bool) (s : State) : State :=
  if strState s = sBypassed ∨ strState s = sRefused then s
  else if strState s = sJoined ∧ ¬ isReel s then
    reportAdd subLeave [b2n night] { s with str.leaveAt := some (s.tet.epoch + 16), str.leaveNight := night, str.leaveAcked := false }
  else { s with str.leaveAt := some s.tet.epoch, str.leaveNight := night, str.leaveAcked := true }

/-! ### Elections (R283, R284) -/

/-- The election key of this device. -/
def ownKey (s : State) : Nat :=
  let locked := s.rd R.TET_STATUS_STATE = 2 && (s.rd R.TET_STATUS_SRC_ACT = 0 || s.rd R.TET_STATUS_SRC_ACT = 1)
  b2n locked * 2 ^ 31 + s.rd R.STG_CFG_REEL_PRIO * 2 ^ 23 + (0xFFFF - s.unit)

/-- A distribution that has not been applied is discarded (R290). -/
def offerDrop (s : State) : State := pubReply eState { s with str.offer := none, str.dist := none }

/-- An election starts. -/
def electionStart (s : State) : State :=
  let s := offerDrop s
  let s := ((s.wr R.STG_STATUS_REEL 0).wr R.STG_REEL_REEL_UNIT 0xFFFF).wr R.STG_COLLECT_DEPTH 0
  let reports : List Report := s.str.reports.map fun (r : Report) => { r with sent := none }
  let s : State :=
    { s with
      str.reports := reports
      str.members := []
      str.collector := []
      str.census := none
      str.merge := none
      str.fetch := none }
  if s.rd R.STG_CFG_REEL_PRIO = 0 then s
  else strGo sElecting { s with str.electFrom := s.tet.epoch, str.best := ownKey s }

/-- RING_STATE goes out. -/
def ringSend (s : State) : State := strBroadcast 5 (strSize s :: s.str.breaks) s

/-- EPOCH goes out of both ports (Table 11.4). CORR_PS and the wait of a frame in transmission are not modelled: a free
value. -/
def epochSend (s : State) : State :=
  let reelLocked := s.rd R.TET_STATUS_STATE = 2 && s.rd R.TET_STATUS_SRC_ACT ≠ 2
  let utc := if s.rd R.TET_STATUS_SRC_ACT = 0 then s.tet.ptpUtc else s.rd R.TET_LOCAL_TAI_UTC
  let corr := s.freeNat 64
  strBroadcast 1 [s.tet.epoch, corr, s.str.reelKey, strSize s, b2n (s.on R.TET_STATUS_TOD_VALID) + 2 * b2n reelLocked, utc,
    sysGen s, s.str.dirGen] s.useFree

/-- This device becomes the Reel (R283). -/
def becomeReel (s : State) : State :=
  let s := (s.wr R.STG_STATUS_REEL 1).wr R.STG_REEL_REEL_UNIT s.unit
  let s := (s.wr R.STG_RING_POS 0).wr R.STG_RING_SIZE 1
  let s : State :=
    { s with
      str.members := []
      str.acks := []
      str.reelKey := ownKey s
      str.breaks := []
      str.reelGen := sysGen s
      str.census := some (s.tet.epoch + 700)
      str.heard := [s.unit]
      str.processed := 0
      str.reports := s.str.reports.filter fun (r : Report) => r.sub ≠ subJoin }
  let s := strGo sJoined s
  let s := s.raise R.STG_INT_STATUS_REEL_CHG
  ringSend (epochSend (dirChange (dirOwn s) s))

/-- Breaks as the device knows them changed: WRAPPED, WRAP, UNWRAP. -/
def breaksSet (bs : List Nat) (s : State) : State :=
  let old := s.str.breaks
  let s := { s with str.breaks := bs }.wr R.STG_STATUS_WRAPPED (b2n (¬ bs.isEmpty))
  let s := if bs.any fun b => ¬ old.contains b then s.raise R.STG_INT_STATUS_WRAP else s
  if old.any fun b => ¬ bs.contains b then s.raise R.STG_INT_STATUS_UNWRAP else s

/-! ### Distributions (R290) -/

/-- Chunks of a set of `size` bytes. -/
def chunksOf (size : Nat) : Nat := (size + 991) / 992

/-- The machine with system-scope sections as given. -/
def withSystem (items : List CfgItem) (tables : List (Nat × List Nat)) (s : State) : State :=
  let set := (activeSet s).filter fun p => ¬ systemScope (sectionOf (p.1 / 32))
  let set := (itemsSet items).foldl (fun m p => SMap.set 0 p.1 p.2 m) set
  { withSet set s with dwn.tables := tables ++ s.dwn.tables.filter fun t => t.1 ≠ 1 }

/-- The validation of offered system-scope sections as a LAUNCH of them (R290 step 4). -/
def systemFail (items : List CfgItem) (tables : List (Nat × List Nat)) (s : State) : Option Nat :=
  match sectionsErr systemScope items tables with
  | some c => some c
  | none =>
    let t := withSystem items tables s
    (setFail s t (activeSet t)).map (·.1)

/-- A device has every chunk: it validates and reports. -/
def offerCheck (s : State) : State :=
  match s.str.offer with
  | none => s
  | some o =>
    let tell := fun (sub : Nat) (vals : List Nat) (s : State) => if isReel s then s else reportAdd sub vals s
    if o.verdict ≠ 0 ∨ ¬ (List.range (chunksOf o.size)).all (fun k => o.chunks.contains k) then s else
    let bad := if o.digestOk then systemFail o.items o.tables s else some eField
    match bad with
    | none => tell subGenReady [o.gen] { s with str.offer := some { o with verdict := 1 } }
    | some c =>
      let s := ({ s with str.offer := some { o with verdict := 2 } }.wr R.STG_STATUS_GEN_BEHIND 1).raise R.STG_INT_STATUS_GEN_REJECTED
      tell subGenReject [o.gen, c] s

/-- The first multiple of 16 at least 1,024 epochs ahead. -/
def applyAt (e : Nat) : Nat := (e + 1024 + 15) / 16 * 16

/-- A distribution starts on the Reel, which holds the whole set itself. -/
def distStart (gen size applyEpoch : Nat) (items : List CfgItem) (tables : List (Nat × List Nat)) (s : State) : State :=
  let d : Dist := ⟨gen, size, applyEpoch, items, tables, 0, [], [], [], 0⟩
  let s := { s with str.dist := some d }
  let s := strBroadcast 8 [gen, size, applyEpoch] s
  if gen ≤ sysGen s then s
  else
    let o : Offer := ⟨gen, size, applyEpoch, true, List.range (chunksOf size), items, tables, 0⟩
    let s := { s with str.offer := some o }
    match systemFail items tables s with
    | none => { s with str.offer := some { o with verdict := 1 }, str.dist := some { d with ready := [s.unit] } }
    | some c =>
      ({ s with str.offer := some { o with verdict := 2 }, str.dist := some { d with rejected := [(s.unit, c)] } }.wr
        R.STG_STATUS_GEN_BEHIND 1).raise R.STG_INT_STATUS_GEN_REJECTED

/-- CONFIG chunks that leave in one epoch at most (R277). -/
def chunkRate : Nat := 8

/-- The next chunks of a distribution: those asked for again, then new ones. -/
def distSend (s : State) : State :=
  match s.str.dist with
  | none => s
  | some d =>
    let a := d.again.take chunkRate
    let n := min (chunkRate - a.length) (chunksOf d.size - d.next)
    let s := s.each (a ++ rangeFrom d.next n) fun s k => strBroadcast 9 [d.gen, k] s
    { s with str.dist := some { d with next := d.next + n, again := d.again.drop chunkRate, sent := a.length + n } }

/-- The system-scope part of the active set as items. -/
def systemItems (s : State) : List CfgItem :=
  ((systemPart (activeSet s)).map (·.1 / 32)).eraseDups.map fun o => ⟨o, rwlVal s o⟩

/-- Bytes of a set of items and tables (R326). -/
def setBytes (items : List CfgItem) (tables : List (Nat × List Nat)) : Nat :=
  8 * items.length + (tables.map fun t => 8 + (t.2.length + 7) / 8 * 8).sum

/-- The Reel sends its own set to a device whose system generation is older (R290). -/
def resendSet (s : State) : State :=
  if s.str.dist.isSome then s else
  let items := systemItems s
  let tables := s.dwn.tables.filter fun t => t.1 = 1
  distStart (sysGen s) (setBytes items tables) s.tet.epoch items tables s

/-! ### The Reel's handling of reports (R280, R282, R284, R286, R287, R290) -/

/-- RESULT codes of ACK: OK, DUP_UNIT, DUP_SLOT, FULL. -/
def ackSend (h : StrHdr) (result : Nat) (s : State) : State :=
  strSend h.src 7 [h.seq, result]
    { s with str.acks := (h.src, h.seq, result) :: s.str.acks.filter fun x => x.1 ≠ h.src }

/-- A unit has reported: the census, EPOCH_SEEN, an ABSENT mark that ends. -/
def heardFrom (u : Nat) (s : State) : State :=
  let s := { s with
    str.heard := if s.str.census.isSome then insNat u s.str.heard else s.str.heard,
    str.dir := s.str.dir.map fun (e : DirEntry) => if e.unit = u then { e with seen := s.tet.epoch } else e }
  match s.str.dir.find? fun e => e.unit = u && bit e.flags 2 with
  | some e => dirChange { e with flags := (e.flags - 4) ||| 1 } s
  | none => s

/-- The ring-order key of a report's sender. -/
def ringKey (h : StrHdr) : Nat := if h.west then h.hops + 1 else 4096 - h.hops

/-- A unit is joined. -/
def isMember (s : State) (u : Nat) : Bool := s.str.members.any fun m => m.1 = u

/-- POS of the sender of a report, from its HOPS and direction of travel. -/
def senderPos (s : State) (h : StrHdr) : Nat :=
  if h.west then h.hops + 1 else (strSize s + b2n (¬ isMember s h.src)) - 1 - h.hops

/-- The Reel's SIZE. -/
def sizeSet (s : State) : State := s.wr R.STG_RING_SIZE (s.str.members.length + 1)

/-- Another device with this unit is joined: one at another place. While a census runs, the places are not known yet and
the keys are compared. -/
def dupUnit (s : State) (h : StrHdr) : Bool :=
  h.src = s.unit || (isMember s h.src &&
    if s.str.census.isSome then s.str.members.any fun m => m.1 = h.src && m.2.2 ≠ ringKey h
    else posOf s h.src ≠ senderPos s h)

/-- Why a JOIN is refused: 1 DUP_UNIT, 2 DUP_SLOT, 3 FULL; 0 accepted. -/
def joinRefuse (s : State) (h : StrHdr) (slot peer : Nat) : Nat :=
  let u := h.src
  if dupUnit s h then 1
  else if (slot = s.rd R.STG_ID_SLOT ∧ peer ≠ s.unit) ∨ s.str.members.any (fun m => m.1 ≠ u && m.2.1 = slot && m.1 ≠ peer) then 2
  else if 1023 ≤ s.str.members.length then 3 else 0

/-- Keys of the other members after a device with key `k` joins or leaves: those whose frames pass it count one more, or
one less. -/
def ringShift (joins : Bool) (k : Nat) (m : Nat × Nat × Nat) : Nat × Nat × Nat :=
  let up := decide (k < 2048) && decide (m.2.2 < 2048) && decide (k ≤ m.2.2)
  let down := decide (2048 ≤ k) && decide (2048 ≤ m.2.2) && decide (m.2.2 ≤ k)
  if up then (m.1, m.2.1, if joins then m.2.2 + 1 else m.2.2 - 1)
  else if down then (m.1, m.2.1, if joins then m.2.2 - 1 else m.2.2 + 1)
  else m

/-- A Reel that hears of a system generation above its own lacks that set: it is fetched from the device that applied it (R290). DESIGN
CHOICE (log entry 87): the spec names no frame for it, and the Reel takes the OFFER and CONFIG frames of that device. -/
def fetchFrom (u gen : Nat) (s : State) : State :=
  if sysGen s < gen ∧ ((s.str.fetch.map (·.2)).getD 0) < gen then { s with str.fetch := some (u, gen) } else s

/-- The device whose OFFER and CONFIG frames of a generation count here: the Reel, or the one that the Reel fetches a set from. -/
def setSource (s : State) (u gen : Nat) : Bool := u = reelUnit s || (isReel s && s.str.fetch = some (u, gen))

/-- The Reel has applied the set that it fetched: the devices that are behind receive it. -/
def fetchDone (gen : Nat) (s : State) : State :=
  if isReel s ∧ (s.str.fetch.map (·.2)) = some gen then
    let s := { s with str.fetch := none }
    if s.str.dir.any fun e => isMember s e.unit && decide (e.configGen / 2 ^ 32 < gen) then resendSet s else s
  else s

/-- A JOIN. -/
def reelJoin (h : StrHdr) (slot peer : Nat) (u : UnitInfo) (s : State) : State :=
  let r := joinRefuse s h slot peer
  if r ≠ 0 then ackSend h r s else
  let k := ringKey h
  let ms := (s.str.members.filter fun m => m.1 ≠ h.src).map fun (m : Nat × Nat × Nat) =>
    if isMember s h.src ∨ s.str.census.isSome then m else ringShift true k m
  let s := sizeSet { s with str.members := ms ++ [(h.src, slot, k)] }
  let old := (s.str.dir.find? fun e => e.slot = slot).getD ⟨slot, h.src, 0, 0, peer, 0, 0, 0, 0, 0, 0⟩
  let mate := s.str.members.any fun m => m.1 = peer && m.2.1 = slot
  let own := ¬ (mate ∧ old.role ≠ 2 ∧ old.unit = peer)
  let e : DirEntry := { (if own then infoPut u old else old) with
    unit := if own then h.src else old.unit, flags := 1 + 8 * b2n mate, peer := peer, seen := s.tet.epoch }
  let gen := u.configGen / 2 ^ 32
  let s := fetchFrom h.src gen (ringSend (ackSend h 0 (dirChange e (heardFrom h.src s))))
  if gen < sysGen s then resendSet s else s

/-- A LEAVE. -/
def reelLeave (h : StrHdr) (night : Bool) (s : State) : State :=
  if ¬ isMember s h.src then ackSend h 0 s else
  let k := ((s.str.members.find? fun m => m.1 = h.src).map (·.2.2)).getD 0
  let s := ackSend h 0 s
  let ms := (s.str.members.filter fun m => m.1 ≠ h.src).map (ringShift false k)
  let s := sizeSet { s with str.members := ms }
  let s := match s.str.dir.find? fun e => e.unit = h.src with
    | some e => dirChange { e with flags := (e.flags &&& 8) + 2 * b2n night } s
    | none => s
  ringSend s

/-- The break that a report names: the POS of the device whose east port is down. -/
def breakPos (s : State) (u : Nat) (east : Bool) : Nat :=
  let p := if u = s.unit then 0 else posOf s u
  if east then p else (p + max 1 (strSize s) - 1) % max 1 (strSize s)

/-- A break is listed, up to 8. -/
def reelBreak (u : Nat) (east : Bool) (s : State) : State :=
  let b := breakPos s u east
  if s.str.breaks.contains b ∨ 8 ≤ s.str.breaks.length then s else ringSend (breaksSet (insNat b s.str.breaks) s)

/-- A break is removed. -/
def reelMend (u : Nat) (east : Bool) (s : State) : State :=
  let b := breakPos s u east
  if s.str.breaks.contains b then ringSend (breaksSet (s.str.breaks.filter (· ≠ b)) s) else s

/-- The entry of a unit with what the unit tells of itself. -/
def infoSet (u : Nat) (x : UnitInfo) (s : State) : State :=
  match s.str.dir.find? fun e => e.unit = u with
  | some e => if infoPut x e = e then s else dirChange (infoPut x e) s
  | none => s

/-- A census or directory request is answered with every entry. -/
def reelCensus (h : StrHdr) (u : UnitInfo) (s : State) : State :=
  let s := fetchFrom h.src (u.configGen / 2 ^ 32) (ackSend h 0 (infoSet h.src u (heardFrom h.src s)))
  s.each s.str.dir fun s e => strBroadcast 0x0B [e.slot, e.unit, e.flags, s.str.dirGen] s

/-- A device is ready, or has rejected the set. -/
def reelReady (h : StrHdr) (gen : Nat) (s : State) : State :=
  let d := s.str.dist.map fun (d : Dist) => if d.gen = gen then { d with ready := insNat h.src d.ready } else d
  ackSend h 0 (heardFrom h.src { s with str.dist := d })
def reelReject (h : StrHdr) (gen code : Nat) (s : State) : State :=
  let d := s.str.dist.map fun (d : Dist) => if d.gen = gen then { d with rejected := d.rejected ++ [(h.src, code)] } else d
  ackSend h 0 (heardFrom h.src { s with str.dist := d })

/-- Missing chunks are sent again: at once as far as the epoch's 8 chunks go, the others in the epochs after it (R277). -/
def reelChunks (h : StrHdr) (gen : Nat) (missing : List Nat) (s : State) : State :=
  let s := ackSend h 0 (heardFrom h.src s)
  match s.str.dist with
  | some d =>
    if d.gen ≠ gen then s else
    let n := chunkRate - d.sent
    let now := missing.take n
    let s := s.each now fun s k => strBroadcast 9 [gen, k] s
    { s with str.dist := some { d with
        sent := d.sent + now.length, again := d.again ++ (missing.drop n).filter fun k => ¬ d.again.contains k } }
  | none => s

/-- A published set starts a distribution, unless one runs or a census holds it (E_BUSY). -/
def reelPublish (size : Nat) (items : List CfgItem) (tables : List (Nat × List Nat)) (s : State) : Bool × State :=
  if s.str.dist.isSome ∨ s.str.census.isSome then (false, s)
  else (true, distStart (sysGen s + 1) size (applyAt s.tet.epoch) items tables s)

/-- The newest summary of a device. -/
def reelSummary (h : StrHdr) (b : Summary) (s : State) : State :=
  let s := ackSend h 0 (heardFrom h.src s)
  { s with str.summaries := b :: s.str.summaries.filter fun x => x.unit ≠ b.unit }

/-- The Reel processes one report. -/
def reportDo (i : Instr) (s : State) : State :=
  match i with
  | .reportJoin h slot peer gen => reelJoin h slot peer gen s
  | .reportLeave h night => reelLeave h night s
  | .reportLinkDown h east => reelBreak h.src east (ackSend h 0 (heardFrom h.src s))
  | .reportLinkUp h east => reelMend h.src east (ackSend h 0 (heardFrom h.src s))
  | .reportCensus h _ gen _ => reelCensus h gen s
  | .reportGenReady h gen => reelReady h gen s
  | .reportGenReject h gen code => reelReject h gen code s
  | .reportChunkNak h gen missing => reelChunks h gen missing s
  | .reportPublish h size items tables =>
    let r := reelPublish size items tables (heardFrom h.src s)
    ackSend h (if r.1 then 0 else eBusy) r.2
  | .reportSummary h b => reelSummary h b s
  | _ => s

/-- The header of a report. -/
def srcOf : Instr → Option StrHdr
  | .reportJoin h _ _ _ | .reportLeave h _ | .reportLinkDown h _ | .reportLinkUp h _ | .reportCensus h _ _ _
  | .reportGenReady h _ | .reportGenReject h _ _ | .reportChunkNak h _ _ | .reportPublish h _ _ _ | .reportSummary h _ => some h
  | _ => none

/-- Reports that the Reel processes in one epoch. -/
def reelRate : Nat := 32

/-- DEPTH and PEAK of the collector. -/
def collectRegs (s : State) : State :=
  let n := s.str.collector.length
  (s.wr R.STG_COLLECT_DEPTH n).wr R.STG_COLLECT_PEAK (max (s.rd R.STG_COLLECT_PEAK) n)

/-- A report arrives at the Reel: processed at once while none waits and fewer than 32 have been processed in this epoch,
else collected. The Reel acts on a SEQ of a unit once. -/
def reportRx (h : StrHdr) (i : Instr) (s : State) : State :=
  if s.str.bypassClosed ∨ ¬ strPortUp s h.port then s
  else if ¬ h.crcOk then s.incSat (portCrc h.port)
  else if h.dst ≠ s.unit then strForward h 6 [] s
  else if ¬ isReel s then s
  else match s.str.acks.find? fun x => x.1 = h.src && x.2.1 = h.seq with
  | some x => ackSend h x.2.2 s
  | none =>
    let pos := if isMember s h.src then posOf s h.src else senderPos s h
    if s.str.collector.any fun x => (srcOf x.2.2).map (fun g => (g.src, g.seq)) = some (h.src, h.seq) then s
    else if s.str.collector.isEmpty ∧ s.str.processed < reelRate then
      reportDo i { s with str.processed := s.str.processed + 1 }
    else if s.str.collector.length < 1024 then
      collectRegs { s with str.collector := s.str.collector ++ [(s.tet.epoch, pos, i)] }
    else s

/-- The report that goes first: the earliest epoch, then the lowest POS. -/
def collectFirst (l : List (Nat × Nat × Instr)) : Option (Nat × Nat × Instr) :=
  l.foldl (fun b x => match b with
    | none => some x
    | some y => if x.1 < y.1 ∨ (x.1 = y.1 ∧ x.2.1 < y.2.1) then some x else some y) none

/-- Drain the collector, at most `n` reports. -/
def collectDrain : Nat → State → State
  | 0, s => s
  | n + 1, s =>
    match collectFirst s.str.collector with
    | none => s
    | some x =>
      let s := { s with str.collector := s.str.collector.erase x, str.processed := s.str.processed + 1 }
      collectDrain n (reportDo x.2.2 s)

end Sys2Proof.Machine
end

