-- ==== Sys2Proof/Machine/String.lean ====
section
/-! DEFINITION. The rows of the String (spec/11_string_cascade.md): links, time, elections, ring state, distributions,
reports, wakes; and what the String does at an epoch boundary. -/

namespace Sys2Proof.Machine

/-! ### Links (R272, R281, R282) -/

/-- A report about a port: a Reel acts on its own at once. -/
def portReport (port : Nat) (up : Bool) (s : State) : State :=
  let east := decide (port = 1)
  if isReel s then (if up then reelMend s.unit east s else reelBreak s.unit east s)
  else if strState s = sJoined then reportAdd (if up then subLinkUp else subLinkDown) [b2n east] s
  else s

/-- Delays of a port are measured anew. -/
def delayClear (port : Nat) (s : State) : State :=
  { s with str.delays := s.str.delays.filter fun d => d.1 ≠ port }.wr (portDelay port) 0

/-- STRING_LINK_UP. -/
def doStringLinkUp (port : Nat) (s : State) : State :=
  if 1 < port ∨ s.str.bypassClosed ∨ strPortUp s port ∨ groupDead s 8 then s else
  let s := delayClear port ((s.wr (portLink port) 2).wr (portLock port) 3)
  let first := if strState s = sTraining ∧ s.str.firstUp.isNone then some s.tet.epoch else s.str.firstUp
  portReport port true { s with str.firstUp := first }

/-- STRING_LINK_DOWN: lock lost, or a partner with another STRING_ID (FOREIGN). -/
def doStringLinkDown (port : Nat) (foreign : Bool) (s : State) : State :=
  if 1 < port ∨ s.str.bypassClosed then s else
  let was := strPortUp s port
  let s := (s.wr (portLink port) (if foreign then 3 else 1)).wr (portLock port) (if foreign then 3 else 0)
  let s := delayClear port (if foreign then s.raise R.STG_INT_STATUS_FOREIGN else s)
  if was then portReport port false (s.incSat (portDown port)) else s

/-- LINK_FRAME: a partner with another STRING_ID is FOREIGN; one that matches again lets the port train. -/
def doLinkFrame (h : StrHdr) (stringId : Nat) (s : State) : State :=
  if 1 < h.port ∨ s.str.bypassClosed then s
  else if ¬ h.crcOk then s.incSat (portCrc h.port)
  else if stringId ≠ s.rd R.STG_STRING_ID_STRING_ID then
    if s.rd (portLink h.port) = 3 then s else doStringLinkDown h.port true s
  else if s.rd (portLink h.port) = 3 then s.wr (portLink h.port) 1
  else s

/-! ### Time (R278, R279) -/

/-- The better of two copies: fewer HOPS, the eastbound one on a tie. -/
def copyBetter (a b : EpochCopy) : EpochCopy :=
  if a.hops < b.hops ∨ (a.hops = b.hops ∧ ¬ a.west) then a else b

/-- The copy of this epoch that the device takes for its time. -/
def copyBest (s : State) : Option EpochCopy :=
  (s.str.copies.filter (·.counts)).foldl (fun b c => match b with
    | none => some c
    | some x => some (copyBetter c x)) none

/-- Values of an EPOCH frame passed on: CORR_PS grows by D and the time in the device, which is a free value. -/
def epochPass (h : StrHdr) (f : EpochFrame) (s : State) : State :=
  let h' := { h with uncal := h.uncal || ¬ calibrated s h.port }
  let corr := (f.corrPs + delayPs s h.port + s.freeNat 16) % 2 ^ 64
  let vals := [f.epoch, corr, f.reelKey, f.size, b2n f.todValid + 2 * b2n f.reelLocked, f.taiUtc, f.sysGen, f.dirGen]
  if h.hops + 1 < f.size then strForward h' 1 vals s.useFree else s

/-- A copy of the Reel's EPOCH frame is taken for time. -/
def epochTake (h : StrHdr) (f : EpochFrame) (s : State) : State :=
  let c : EpochCopy := ⟨h.port, h.hops, h.west, ¬ h.uncal && calibrated s h.port, f.offsetNs⟩
  let s := { s with str.copies := s.str.copies ++ [c], tet.reelTod := f.todValid }
  match copyBest s with
  | some b =>
    let s := (s.wr R.STG_REEL_HOPS b.hops).wr R.STG_REEL_DIR (b2n b.west)
    if s.tet.measuring = some 2 ∨ s.rd R.TET_STATUS_SRC_ACT = 2 then tetOffset b.offsetNs s else s
  | none => s

/-- What a joining or joined device learns from its Reel's EPOCH frame. -/
def epochLearn (f : EpochFrame) (s : State) : State :=
  let rejected := (s.str.offer.map fun (o : Offer) => decide (o.verdict = 2)).getD false
  let s := (s.wr R.STG_RING_SIZE f.size).wr R.STG_STATUS_GEN_BEHIND (b2n (decide (sysGen s < f.sysGen) || rejected))
  let s := { s with str.reelGen := f.sysGen }
  let asked := s.str.reports.any fun r => r.sub = subCensus
  if strState s = sJoined ∧ s.str.dirGen < f.dirGen ∧ ¬ asked then
    censusAdd f.dirGen s
  else reportNext s

/-- EPOCH_FRAME. -/
def doEpochFrame (h : StrHdr) (f : EpochFrame) (s : State) : State :=
  if s.str.bypassClosed ∨ ¬ strPortUp s h.port then s
  else if ¬ h.crcOk then s.incSat (portCrc h.port)
  else if h.src = s.unit then s
  else
    let s := epochPass h f s
    if isReel s then
      if s.str.reelKey < f.reelKey ∧ ((s.str.merge.map (·.2)).getD 0) < f.reelKey then
        { s with str.merge := some (h.src, f.reelKey) }
      else s
    else
      let st := strState s
      let joins := st = sTraining || st = sElecting || reelUnit s = 0xFFFF || (reelUnit s ≠ h.src && decide (s.str.reelKey < f.reelKey))
      let s := if joins then joinTo h.src f.reelKey s else s
      if reelUnit s ≠ h.src then s
      else epochLearn f (epochTake h f { s with str.lastRx := s.tet.epoch, str.reelKey := f.reelKey })

/-- DELAY_MEASURE: t1 is a time of the TIME domain that the model does not hold. Link-local frames carry their payload. -/
def doDelayMeasure (s : State) : State :=
  if s.tet.epoch % 16 ≠ 8 ∨ s.str.bypassClosed then s
  else s.each (strPorts s) fun s p => (s.emit (.string p 2 [s.freeNat 64])).useFree

/-- DELAY_REQ: answered with t1, t2, t3. -/
def doDelayReq (h : StrHdr) (t1 : Nat) (s : State) : State :=
  if s.str.bypassClosed ∨ ¬ strPortUp s h.port then s
  else if ¬ h.crcOk then s.incSat (portCrc h.port)
  else
    let t2 := s.freeNat 64
    let s := s.useFree
    (s.emit (.string h.port 3 [t1, t2, s.freeNat 64])).useFree

/-- D of one measurement, in the timestamps' unit (ps). -/
def delayOf (t1 t2 t3 t4 : Nat) : Nat := (((t4 : Int) - t1 - ((t3 : Int) - t2)) / 2).toNat

/-- DELAY_RESP. -/
def doDelayResp (h : StrHdr) (t1 t2 t3 t4 : Nat) (s : State) : State :=
  if s.str.bypassClosed ∨ ¬ strPortUp s h.port then s
  else if ¬ h.crcOk then s.incSat (portCrc h.port)
  else
    let l := (delayOf t1 t2 t3 t4 :: delaySamples s h.port).take 16
    let s := { s with str.delays := (h.port, l) :: s.str.delays.filter fun d => d.1 ≠ h.port }
    s.wr (portDelay h.port) (delayPs s h.port / 1000)

/-! ### Elections and ring state -/

/-- CANDIDATE: the highest key seen. -/
def doCandidate (h : StrHdr) (key unit : Nat) (s : State) : State :=
  strRx h 4 [key, unit] (fun s => if strState s = sElecting then { s with str.best := max s.str.best key } else s) s

/-- RING_STATE: SIZE, POS and the listed breaks. A frame that was turned round gives no POS. -/
def doRingState (h : StrHdr) (size : Nat) (breaks : List Nat) (s : State) : State :=
  strRx h 5 (size :: breaks) (fun s =>
    if isReel s ∨ h.src ≠ reelUnit s ∨ ¬ (strState s = sJoining ∨ strState s = sJoined) then s else
    let s := s.wr R.STG_RING_SIZE size
    let s := if h.wrapped then s else s.wr R.STG_RING_POS (if h.west then size - 1 - h.hops else h.hops + 1)
    breaksSet breaks s) s

/-- TRAINING_TIMEOUT. -/
def doTrainingTimeout (s : State) : State :=
  let from0 := s.str.firstUp.getD s.str.trainFrom
  if strState s = sTraining ∧ from0 + 64 ≤ s.tet.epoch then electionStart s else s

/-- REEL_LOST: 16 epochs without a valid copy. -/
def doReelLost (s : State) : State :=
  let joined := strState s = sJoining || (strState s = sJoined && reelUnit s ≠ 0xFFFF)
  if ¬ joined ∨ isReel s ∨ s.tet.epoch < s.str.lastRx + 16 then s else
  electionStart (doSourceLoss 2 (s.raise R.STG_INT_STATUS_REEL_LOST))

/-- ELECTION_END: after 32 election epochs. -/
def doElectionEnd (s : State) : State :=
  if strState s ≠ sElecting ∨ s.tet.epoch < s.str.electFrom + 33 then s
  else if s.str.best ≤ ownKey s then becomeReel s
  else joinAdd (strGo sJoining { s with str.lastRx := s.tet.epoch })

/-- Every joined unit of the directory has reported. -/
def censusFull (s : State) : Bool := s.str.dir.all fun e => ¬ bit e.flags 0 || s.str.heard.contains e.unit

/-- CENSUS_END: devices that did not report are marked ABSENT. -/
def doCensusEnd (s : State) : State :=
  match s.str.census with
  | none => s
  | some d =>
    if ¬ isReel s ∨ (s.tet.epoch < d ∧ ¬ censusFull s) then s else
    let late := s.str.dir.filter fun e => bit e.flags 0 && ¬ s.str.heard.contains e.unit
    let s := s.each late fun s e => dirChange { e with flags := e.flags - 1 + 4 } s
    { s with str.census := none }

/-- REELECT. -/
def doReelect (s : State) : State := if isReel s then electionStart s else s.wr R.STG_STATUS_LAST_ERR eState

/-- STG_CLR_ERR. -/
def doStgClrErr (s : State) : State := s.wr R.STG_STATUS_LAST_ERR 0

/-! ### Reports -/

/-- A JOIN is answered: JOINED, and the directory is asked for; or REFUSED with the bypass closed. -/
def joinAnswer (result : Nat) (s : State) : State :=
  if result = 0 then
    let s := strGo sJoined s
    censusAdd s.str.dirGen s
  else ((bypassClose sRefused s).wr R.STG_STATUS_REFUSE result).raise R.STG_INT_STATUS_REFUSED

/-- ACK. -/
def doAck (h : StrHdr) (acked result : Nat) (s : State) : State :=
  strRx h 7 [acked, result] (fun s =>
    match s.str.reports with
    | [] => s
    | r :: rs =>
      if r.sent.isNone ∨ r.seq ≠ acked then s else
      let s := { s with str.reports := rs }
      if r.sub = subJoin then joinAnswer result s
      else
        let s := if r.sub = subLeave then { s with str.leaveAcked := true } else s
        let s := if r.sub = subPublish ∧ result ≠ 0 then pubReply result s else s
        reportNext s) s

/-- REPORT_RETRY: the same SEQ again. -/
def doReportRetry (s : State) : State :=
  match s.str.reports with
  | [] => s
  | r :: rs =>
    match r.sent with
    | none => s
    | some e =>
      if s.tet.epoch < e + 256 ∨ reelUnit s = 0xFFFF then s
      else
        let s := strSendSeq (reelUnit s) 6 r.seq (r.sub :: r.vals) s
        { s with str.reports := { r with sent := some s.tet.epoch } :: rs }

/-- The SUMMARY body of this device (Table 11.8). -/
def summaryOf (s : State) : Summary :=
  let on := (List.range 16).filter (arrOn s)
  let st := fun a => s.rd (R.STR_An_STATUS_STATE a)
  { unit := s.unit, worstCode := s.wsk.worst, lastSeq := s.rd R.WSK_LAST_SEQ_SEQ, newRecords := min s.str.newRecs 0xFFFFFFFF,
    notOptimal := ((on.filter fun a => st a ≠ aOptimal).map fun a => 2 ^ a).sum,
    down := ((on.filter fun a => st a = aFailed || st a = aOffline).map fun a => 2 ^ a).sum,
    lostTotal := ((List.range 16).map fun a => s.rd (R.STR_An_LOST_LOST a)).sum % 2 ^ 32,
    tj := s.rd R.PWR_THERM_TJ, tet := s.rd R.TET_STATUS_STATE, bal := s.rd R.BAL_STATUS_STATE, role := roleCode s, epoch := s.tet.epoch }

/-- A summary as the values of a report. -/
def summaryVals (b : Summary) : List Nat :=
  [b.unit, b.worstCode, b.lastSeq, b.newRecords, b.notOptimal, b.down, b.lostTotal, b.tj, b.tet, b.bal, b.role, b.epoch]

/-- SUMMARY_DUE: in the device's phase, or after a record. The Reel keeps its own. -/
def doSummaryDue (s : State) : State :=
  let phase := s.tet.epoch % 15625 = 15 * strPos s % 15625
  if strState s ≠ sJoined ∨ ¬ (phase ∨ s.str.summaryBy.isSome) then s else
  let b := summaryOf s
  let s := { s with str.newRecs := 0, str.summaryBy := none, wsk.worst := 0, wsk.worstSeq := 0 }
  if isReel s then { s with str.summaries := b :: s.str.summaries.filter fun x => x.unit ≠ b.unit }
  else reportAdd subSummary (summaryVals b) s

/-- LEAVE_TIMEOUT: 16 epochs after a LEAVE. -/
def doLeaveTimeout (s : State) : State :=
  match s.str.leaveAt with
  | some e => if e ≤ s.tet.epoch then bypassClose sBypassed s else s
  | none => s

/-! ### Distributions (R290) -/

/-- OFFER. -/
def doOffer (h : StrHdr) (gen size applyEpoch : Nat) (digestOk : Bool) (s : State) : State :=
  strRx h 8 [gen, size, applyEpoch] (fun s =>
    if strState s ≠ sJoined ∨ ¬ setSource s h.src gen ∨ gen ≤ sysGen s then s
    else
      let o : Offer := ⟨gen, size, applyEpoch, digestOk, [], [], [], 0⟩
      { s with str.offer := some o, str.pub := s.str.pub.map fun (p : MbxHdr × Nat) => if p.2 = 0 then (p.1, gen) else p }) s

/-- CONFIG: a chunk; chunks below it that are missing are asked for once. -/
def doConfig (h : StrHdr) (gen chunk : Nat) (items : List CfgItem) (tables : List (Nat × List Nat)) (s : State) : State :=
  strRx h 9 [gen, chunk] (fun s =>
    match s.str.offer with
    | none => s
    | some o =>
      if o.gen ≠ gen ∨ ¬ setSource s h.src gen ∨ o.chunks.contains chunk then s else
      let o : Offer := { o with chunks := insNat chunk o.chunks, items := o.items ++ items, tables := tables ++ o.tables }
      let s := { s with str.offer := some o }
      let gaps := (List.range chunk).filter fun k => ¬ o.chunks.contains k
      let asked := s.str.reports.any fun r => r.sub = subChunkNak
      let s := if gaps.isEmpty ∨ asked then s else reportAdd subChunkNak (gen :: gaps) s
      offerCheck s) s

/-- STRING_CLAIM: a claim, role and peer enter the directory. -/
def doStringClaim (h : StrHdr) (role cause clm prev peer : Nat) (s : State) : State :=
  strRx h 0x0A [role, cause, clm, prev, peer] (fun s =>
    match dirOf s h.src with
    | none => s
    | some e =>
      let e' := dirClaim h.src role clm peer e
      if e' = e then s
      else if isReel s then dirChange e' s
      else withDisc (fun s => { s with str.dir := dirPut e' s.str.dir }) s) s

/-- DIRECTORY. -/
def doDirectory (h : StrHdr) (e : DirEntry) (dirGen : Nat) (s : State) : State :=
  strRx h 0x0B [e.slot, e.unit, e.flags, dirGen] (fun s =>
    if isReel s ∨ h.src ≠ reelUnit s then s else
    let up := decide (s.str.dirGen < dirGen)
    let s := withDisc (fun s => { s with str.dir := dirPut e s.str.dir, str.dirGen := max s.str.dirGen dirGen }) s
    if up then s.raise R.STG_INT_STATUS_DIR_CHG else s) s

/-! ### Wakes (R291) and forwarding (R275, R276) -/

/-- A unit is marked NIGHT in the directory. -/
def inNightDir (s : State) (u : Nat) : Bool := s.str.dir.any fun e => e.unit = u && bit e.flags 1

/-- STG_WAKE: the request is broadcast; its frame has no TYPE in Table 11.2 and is given as TYPE 0. -/
def doStgWake (target : Nat) (s : State) : State :=
  if strState s ≠ sJoined then s.wr R.STG_STATUS_LAST_ERR eState
  else if ¬ inNightDir s target then s.wr R.STG_STATUS_LAST_ERR eField
  else strBroadcast 0 [target] s

/-- The cells of a wake sequence: the preamble, then UNIT Manchester-coded, most significant bit first. -/
def wakeCells (u : Nat) : List Nat :=
  [1, 0, 1, 0, 1, 1, 0, 0] ++ (List.range 16).flatMap fun i => if bit u (15 - i) then [1, 0] else [0, 1]

/-- WAKE_SEQUENCE_SEND: on lane 1 of a port that faces the run. Which port faces it, the directory does not tell: free. -/
def doWakeSequenceSend (target : Nat) (s : State) : State :=
  if strState s ≠ sJoined ∨ ¬ inNightDir s target then s
  else (s.emit (.string (s.freeNat 1) 0xFF (wakeCells target))).useFree

/-- STRING_FRAME_FORWARD: a frame that is not for this device, or of an unknown TYPE. -/
def doStringFrameForward (h : StrHdr) (ftype : Nat) (s : State) : State :=
  if s.str.bypassClosed ∨ ¬ strPortUp s h.port then s
  else if ¬ h.crcOk then s.incSat (portCrc h.port)
  else if h.src = s.unit then s
  else if h.dst = 0xFFFF then
    if s.str.seen.contains (h.src, ftype, h.seq) then s else strPass h ftype [] (strSee h ftype s)
  else if h.dst = s.unit ∧ 1 ≤ ftype ∧ ftype ≤ 0x0C then s
  else strPass h ftype [] s

/-! ### The boundary (order 6 of Table 2.3) -/

/-- A Reel that saw a higher key stops being the Reel and joins the other (R285). -/
def mergeDo (s : State) : State :=
  match s.str.merge with
  | none => s
  | some (u, k) =>
    let s := { s with str.merge := none }
    if ¬ isReel s then s else
    let s := offerDrop ((s.wr R.STG_STATUS_REEL 0).wr R.STG_COLLECT_DEPTH 0)
    joinTo u k { s with str.members := [], str.collector := [], str.census := none }

/-- What the Reel sends in an epoch. -/
def reelBoundary (s : State) : State :=
  if ¬ isReel s then s else
  let s := epochSend s
  let s := if s.tet.epoch % 16 = 0 then ringSend s else s
  let s := infoSet s.unit (unitInfo s) s
  collectRegs (collectDrain reelRate (distSend s))

/-- The String's part of an epoch boundary. -/
def strBoundary (s : State) : State :=
  if s.str.bypassClosed then s else
  let s := mergeDo { s with str.copies := [], str.processed := 0 }
  let s := s.each [0, 1] fun s p =>
    if s.rd (portLink p) = 0 then s else s.emit (.string p 0x0C [s.unit, s.rd R.STG_ID_SLOT, p])
  let s := if strState s = sElecting then strBroadcast 4 [s.str.best, s.unit] s else s
  let s := reelBoundary s
  if s.str.leaveAt.isSome ∧ s.str.leaveAcked then bypassClose sBypassed s else s

def execStringLinkUp (port : Nat) (s : State) : Out := live s (doStringLinkUp port s)
def execStringLinkDown (port : Nat) (foreign : Bool) (s : State) : Out := live s (doStringLinkDown port foreign s)
def execEpochFrame (h : StrHdr) (f : EpochFrame) (s : State) : Out := live s (doEpochFrame h f s)
def execDelayMeasure (s : State) : Out := live s (doDelayMeasure s)
def execDelayReq (h : StrHdr) (t1 : Nat) (s : State) : Out := live s (doDelayReq h t1 s)
def execDelayResp (h : StrHdr) (t1 t2 t3 t4 : Nat) (s : State) : Out := live s (doDelayResp h t1 t2 t3 t4 s)
def execCandidate (h : StrHdr) (key unit : Nat) (s : State) : Out := live s (doCandidate h key unit s)
def execRingState (h : StrHdr) (size : Nat) (breaks : List Nat) (s : State) : Out := live s (doRingState h size breaks s)
def execLinkFrame (h : StrHdr) (stringId _unit _slot : Nat) (s : State) : Out := live s (doLinkFrame h stringId s)
def execAck (h : StrHdr) (acked result : Nat) (s : State) : Out := live s (doAck h acked result s)
def execOffer (h : StrHdr) (gen size applyEpoch : Nat) (digestOk : Bool) (s : State) : Out :=
  live s (doOffer h gen size applyEpoch digestOk s)
def execConfig (h : StrHdr) (gen chunk : Nat) (items : List CfgItem) (tables : List (Nat × List Nat)) (s : State) : Out :=
  live s (doConfig h gen chunk items tables s)
def execStringClaim (h : StrHdr) (role cause clm prev peer : Nat) (s : State) : Out :=
  live s (doStringClaim h role cause clm prev peer s)
def execDirectory (h : StrHdr) (e : DirEntry) (dirGen : Nat) (s : State) : Out := live s (doDirectory h e dirGen s)
def execReportJoin (h : StrHdr) (slot peer : Nat) (gen : UnitInfo) (s : State) : Out := live s (reportRx h (.reportJoin h slot peer gen) s)
def execReportLeave (h : StrHdr) (night : Bool) (s : State) : Out := live s (reportRx h (.reportLeave h night) s)
def execReportLinkDown (h : StrHdr) (east : Bool) (s : State) : Out := live s (reportRx h (.reportLinkDown h east) s)
def execReportLinkUp (h : StrHdr) (east : Bool) (s : State) : Out := live s (reportRx h (.reportLinkUp h east) s)
def execReportCensus (h : StrHdr) (slot : Nat) (gen : UnitInfo) (upTo : Nat) (s : State) : Out := live s (reportRx h (.reportCensus h slot gen upTo) s)
def execReportGenReady (h : StrHdr) (gen : Nat) (s : State) : Out := live s (reportRx h (.reportGenReady h gen) s)
def execReportGenReject (h : StrHdr) (gen code : Nat) (s : State) : Out := live s (reportRx h (.reportGenReject h gen code) s)
def execReportChunkNak (h : StrHdr) (gen : Nat) (missing : List Nat) (s : State) : Out :=
  live s (reportRx h (.reportChunkNak h gen missing) s)
def execReportPublish (h : StrHdr) (size : Nat) (items : List CfgItem) (tables : List (Nat × List Nat)) (s : State) : Out :=
  live s (reportRx h (.reportPublish h size items tables) s)
def execReportSummary (h : StrHdr) (body : Summary) (s : State) : Out := live s (reportRx h (.reportSummary h body) s)
def execReportRetry (s : State) : Out := live s (doReportRetry s)
def execSummaryDue (s : State) : Out := live s (doSummaryDue s)
def execTrainingTimeout (s : State) : Out := live s (doTrainingTimeout s)
def execLeaveTimeout (s : State) : Out := live s (doLeaveTimeout s)
def execReelLost (s : State) : Out := live s (doReelLost s)
def execElectionEnd (s : State) : Out := live s (doElectionEnd s)
def execCensusEnd (s : State) : Out := live s (doCensusEnd s)
def execReelect (s : State) : Out := live s (doReelect s)
def execStgClrErr (s : State) : Out := live s (doStgClrErr s)
def execStgWake (target : Nat) (s : State) : Out := live s (doStgWake target s)
def execWakeSequenceSend (target : Nat) (s : State) : Out := live s (doWakeSequenceSend target s)
def execStringFrameForward (h : StrHdr) (ftype : Nat) (s : State) : Out := live s (doStringFrameForward h ftype s)

end Sys2Proof.Machine
end

