-- ==== Sys2Proof/Machine/CfgApply.lean ====
section
/-! DEFINITION. What a new active set does when it comes into force at order 2 of an epoch boundary (Table 2.3): a LAUNCH
(R330) or a system generation (R290). Each function takes the machine `s` before and `t` with the new set in place. -/

namespace Sys2Proof.Machine

/-! ### Time (Table 2.2, R45) -/

/-- SOURCE or ALT_SOURCE changes: measurements start anew. -/
def applySources (s t : State) : State :=
  if s.rd R.TET_CTRL_SOURCE = t.rd R.TET_CTRL_SOURCE ∧ s.rd R.TET_CTRL_ALT_SOURCE = t.rd R.TET_CTRL_ALT_SOURCE then t else
  let st := t.rd R.TET_STATUS_STATE
  let t := { t with tet.measuring := tetPresent t 3, tet.awaiting := none, tet.syncRun := 0, tet.stepWaited := false, tet.forceStep := false }
  if st = tLocked then tetToHold t else if st = tHold then t else t.wr R.TET_STATUS_STATE tAcq

/-- A register of the DAY section that R45 names changes. -/
def dayChanges (s t : State) : Bool :=
  changes s t 0x10001C || changes s t 0x100020 || (List.range 97).any fun k => changes s t (if k = 96 then 0x100580 else 0x100400 + 4 * k)

/-! ### Arrays and spares (R60, R71, Table 3.9) -/

/-- An edited Day section starts a new averaging window; new contents of the entry in force raise SLOT_CHG (R45). -/
def dayEdited (s t : State) : State :=
  if ¬ dayChanges s t then t else
  let k := s.tet.dayEntry
  let t := { t with tet.window := t.tet.epoch }
  if changes s t (if k = 96 then 0x100580 else 0x100400 + 4 * k) then t.raise R.TET_INT_STATUS_SLOT_CHG else t

/-- The fields of an array that creation and disabling set. -/
def arrFresh (a : Nat) (s : State) : State :=
  let s := (s.wr (R.STR_An_LOST_LOST a) 0).wr (R.STR_An_STATUS_LOST_ANY a) 0
  let s := (s.wr (R.STR_An_MISSMAP_MISS a) 0).wr (R.STR_An_MEDIA_WARN_WARN a) 0
  s.each (List.range 32) fun s k => (s.wr (R.STR_An_MEMBERk_MISSING a k) 0).wr (R.STR_An_MEMBERk_MAPHOLD a k) 0

/-- The stripes of a new array: what its smallest member holds. -/
def stripesNew (s : State) (a : Nat) : Nat :=
  ((List.range (memN s a)).map fun m => stripesFor (((driveAt s (memDrv s a m)).map (·.desc.blocks)).getD 0) (strB s a)).foldl
    min maxStripes

/-- S of an array in its registers. -/
def stripesRegs (a : Nat) (s : State) : State :=
  (s.wr (R.STR_An_STRIPES_LO_S_LO a) (s.arr a).stripes).wr (R.STR_An_STRIPES_HI_S_HI a) ((s.arr a).stripes / 2 ^ 32)

/-- An array is created (R60): its members' data regions are deallocated, its labels written; it is OPTIMAL. Its ARRAY_ID
is the device's choice: a free value. -/
def createArray (a : Nat) (s : State) : State :=
  let n := stripesNew s a
  let r : Arr := { Arr.none with arrayId := s.freeNat 128, stripes := n, createClaim := s.pair.lastClaim, labelSeq := (s.arr a).labelSeq }
  let s := arrFresh a (s.modArr a fun _ => r).useFree
  let s := s.each (List.range (memN s a)) fun s m => resvJoinGo (memDrv s a m) s
  let s := stripesClear a 0 n (stripesRegs a s)
  let s := s.each (mapWanted s a) fun s m => mapGive a m s
  let s := soloDerive a (relabel a s)
  setArr a aOptimal 0 (statusBits a s)

/-- An array is disabled: the labels of its present members are invalidated. DESIGN CHOICE (log entry 77): so are their tail copies, and
both also where the array was not FAILED, of which alone Table 3.9 states it. -/
def disableArray (a : Nat) (old s : State) : State :=
  let s := haltArray a (0, 0x0B, true) s
  let s := s.each ((List.range (memN old a)).filter fun m => ¬ missing old a m) fun s m =>
    s.modDrive (memDrv old a m) fun d => { d with labelA := none, labelB := none, tailA := none, tailB := none }
  let s := arrFresh a (s.modArr a fun r => { Arr.none with labelSeq := r.labelSeq })
  setArr a aNone 0 (statusBits a (stripesRegs a s))

/-- A rewritten spare entry: its SPARE_STATE is found anew. -/
def applySpare (k : Nat) (s : State) : State :=
  let d := spareDrv s k
  let st := if ¬ s.on (R.STR_SPAREk_VALID k) ∨ (driveAt s d).isNone then 0
    else if passesR55 s d (s.rd (R.STR_SPAREk_META k)) then 1 else 3
  let arrs := s.arrs.map fun (r : Arr) => { r with taken := r.taken.filter fun p => p.2 ≠ k }
  let s := ({ s with arrs := arrs }.wr (R.STR_SPAREk_SPARE_STATE k) st).wr (R.STR_SPAREk_ARRAY k) 0
  if st = 1 then resvJoinGo d s else s

/-- Arrays disabled, spare entries rewritten, arrays created. -/
def applyArrays (s t : State) : State :=
  let t := t.each ((List.range 16).filter fun a => arrOn s a && ¬ arrOn t a) fun t a => disableArray a s t
  let t := t.each ((List.range 8).filter fun k => changes s t (spareOff k)) fun t k => applySpare k t
  t.each ((List.range 16).filter fun a => arrOn t a && ¬ arrOn s a) fun t a => createArray a t

/-! ### Basket, Ballast, ports -/

/-- NEED_MS of the set in force. -/
def needSet (s : State) : State := s.wr R.BAL_NEED_NEED_MS (needMs (s.rd R.BSK_DIRTY_CFG_LIMIT_GIB) (s.rd R.BAL_CFG_MODE))

/-- A new layout of the Basket, which holds no dirty page; a Ballast that is disabled. -/
def applyBasket (s t : State) : State :=
  let t := if changes s t 0x50000C then layoutConfigured { t with bsk.clean := [], bsk.extents := [], bsk.saved := [] } else t
  let t := needSet t
  if t.on R.BAL_CFG_EN then t else balDisarm 1 t

/-- HEADROOM and XOFF of every port (R243). -/
def pfcRegs (s : State) : State :=
  s.each (List.range 4) fun s p =>
    (s.wr (R.FAB_Pp_PFC_HEADROOM p) (pfcHeadroom s p)).wr (R.FAB_Pp_PFC_XOFF p) (pfcShare s p - pfcHeadroom s p)

/-- The access list of table 1: NQNs as numbers, their bytes little-endian. -/
def aclSet (s : State) : State :=
  let es := entries 256 1024 (tableOf s.dwn.tables 1)
  { s with fab.acl := (List.range es.length).zip (es.map leNat) }

/-- Fabric ports: a port whose BREAKOUT changes trains anew; addresses and referrals may change the discovery list. -/
def applyFabric (s t : State) : State :=
  let ps := (List.range 4).filter fun p => s.rd (R.FAB_Pp_CFG_BREAKOUT p) ≠ t.rd (R.FAB_Pp_CFG_BREAKOUT p)
  let t := t.each ps fun t p =>
    let was := t.rd (R.FAB_Pp_LINK_UP p)
    let t := { t with fab.pfc := t.fab.pfc.filter fun (y : Pfc) => y.port ≠ p }
    let t := (((t.wr (R.FAB_Pp_LINK_UP p) 0).wr (R.FAB_Pp_LINK_PAUSED p) 0).wr (R.FAB_Pp_LINK_LFAULT p) 0).wr (R.FAB_Pp_LINK_RFAULT p) 0
    if was = 0 then t else t.raise (R.FAB_INT_STATUS_LINK_DOWN p)
  let t := aclSet (pfcRegs t)
  if discLocal s = discLocal t ∧ discReferrals s = discReferrals t then t else discChanged t

/-- A drive port whose BIF or MAX_SPEED changes: its ready drives train again; a subport that no longer exists gives up
its drive. -/
def applyDrives (s t : State) : State :=
  let ps := (List.range 32).filter fun p => changes s t (0x900100 + 0x10 * p)
  t.each ps fun t p => t.each [2 * p, 2 * p + 1] fun t d =>
    if ¬ subExists t p (d % 2) then
      match comingAt t d, driveAt t d with
      | some c, _ => drvDark d (takeComing d { t with ext.loose := c.drive :: t.ext.loose })
      | none, some x => drvDark d { unready d t with ext.loose := x :: t.ext.loose }
      | none, none => t
    else match driveAt t d with
      | some x => (drvDark d { unready d t with ext.coming := t.ext.coming ++ [(⟨d, 3, x⟩ : Coming)] }).wr (drvFld d 1 1) 1
      | none => t

/-! ### The String -/

/-- STG_CFG, STG_ID, STG_STRING_ID (R272, Table 11.5). -/
def applyString (s t : State) : State :=
  let t := if changes s t 0xB00010 then
      t.each [0, 1] fun t p => if t.rd (portLink p) = 3 then t.wr (portLink p) 1 else t
    else t
  let en := t.on R.STG_CFG_EN
  if strState t = sRefused then
    if changes s t 0xB0000C ∨ s.on R.STG_CFG_EN ≠ en then
      let t := (strGo sBypassed t).wr R.STG_STATUS_REFUSE 0
      if en then strTrain t else t
    else t
  else if en ∧ strState t = sBypassed ∧ ¬ s.on R.STG_CFG_EN then strTrain t
  else if ¬ en ∧ s.on R.STG_CFG_EN then strLeave false t
  else t

/-- REASON of a SOLO unit says whether SPR_CFG.EN is 0 (Table 12.8). -/
def applyPair (s t : State) : State :=
  if t.pairState ≠ 0 ∨ s.on R.SPR_CFG_EN = t.on R.SPR_CFG_EN then t else t.wr R.SPR_STATUS_REASON (b2n (¬ t.on R.SPR_CFG_EN))

/-! ### A set comes into force -/

/-- Everything that a new set does. -/
def applyEffects (s t : State) : State :=
  let t := applySources s t
  let t := applyArrays s t
  let t := applyBasket s t
  let t := applyDrives s (applyFabric s t)
  let t := applyPair s (applyString s t)
  dayEdited s t

/-- LAUNCH's reply code and state when it is not carried out. -/
def launchReject (h : MbxHdr) (f : CfgFail) (s : State) : State :=
  let s := (launchErr f { s with dwn.launch := none }).wr R.DWN_LAUNCH_PENDING 0
  mbxReply h 0x0105 f.1 (launchDetail s) [] (s.raise R.DWN_INT_STATUS_LAUNCH_REJECT)

/-- The pending LAUNCH at order 2 (R330 step 2). -/
def launchBoundary (s : State) : State :=
  match s.dwn.launch with
  | none => s
  | some h =>
    match launchFail s with
    | some f => launchReject h f s
    | none =>
      let t := applyEffects s (shadowAsSet s)
      let g := t.dwn.configGen
      let t := setGen (g - g % 2 ^ 32 + (g + 1) % 2 ^ 32) { t with dwn.launch := none }
      let t := shadowCopy ((t.wr R.DWN_LAUNCH_PENDING 0).wr R.DWN_LAUNCH_LAST_CODE 0)
      mbxOk h 0x0105 (measChanged (t.raise R.DWN_INT_STATUS_LAUNCH_DONE))

/-- The shadow set with the system-scope part of the active set. -/
def shadowSystem (s : State) : State :=
  let own := s.shadow.filter fun p => ¬ systemScope (sectionOf (p.1 / 32))
  let set := (systemPart (activeSet s)).foldl (fun m p => SMap.set 0 p.1 p.2 m) own
  { s with shadow := set,
           dwn.shadowTables := (s.dwn.tables.filter fun t => t.1 = 1) ++ s.dwn.shadowTables.filter fun t => t.1 ≠ 1 }

/-- A distribution that the Reel runs ends. -/
def distEnd (s : State) : State :=
  match s.str.dist with
  | some d => if d.applyEpoch ≤ s.tet.epoch ∧ chunksOf d.size ≤ d.next ∧ d.again.isEmpty then { s with str.dist := none } else s
  | none => s

/-- The directory follows on the Reel: every device that was ready has the new generation, with bits [31:0] 0 (R288, R290). -/
def dirReady (gen : Nat) (us : List Nat) (s : State) : State :=
  s.each (s.str.dir.filter fun e => us.contains e.unit && e.configGen ≠ gen * 2 ^ 32) fun s e =>
    dirChange { e with configGen := gen * 2 ^ 32 } s

/-- A system generation at its APPLY_EPOCH (R290 step 5). -/
def sysBoundary (s : State) : State :=
  match s.str.offer with
  | none => distEnd s
  | some o =>
    if s.tet.epoch < o.applyEpoch ∨ o.verdict = 0 then distEnd s
    else
      let us := ((s.str.dist.filter fun d => d.gen = o.gen).map (·.ready)).getD []
      let s := distEnd (dirReady o.gen us { s with str.offer := none })
      if o.verdict ≠ 1 then pubReply eState s
      else
        let t := applyEffects s (withSystem o.items o.tables s)
        let t := shadowSystem (setGen (o.gen * 2 ^ 32) t)
        let t := (t.wr R.STG_STATUS_GEN_BEHIND 0).raise R.STG_INT_STATUS_GEN_APPLIED
        pubReply eOk (measChanged (fetchDone o.gen t))

/-- Order 2 of a boundary: a system generation, then a LAUNCH. -/
def configBoundary (s : State) : State := launchBoundary (sysBoundary s)

end Sys2Proof.Machine
end

