-- ==== Sys2Proof/Machine/DawnLog.lean ====
section
/-! DEFINITION. The Dawn step machine (R318 to R321): the step log, what failed on previous starts and how a step therefore
runs, the start and the end of a step, the safe state. -/

namespace Sys2Proof.Machine

/-! ### The step log (R319, Table 13.2) -/

/-- OUTCOME codes. -/
def oStarted : Nat := 0
def oPass : Nat := 1
def oAlt : Nat := 2
def oSkipped : Nat := 3
def oFail : Nat := 4

/-- Write an entry of the log: a ring of 4,096 entries. -/
def logPut (step outcome detail : Nat) (s : State) : State :=
  let e : StepEntry := ⟨s.nv.startNo, step, outcome, detail, s.tet.epoch⟩
  { s with nv.stepLog := SMap.set none (s.nv.stepNext % 4096) (some e) s.nv.stepLog, nv.stepNext := (s.nv.stepNext + 1) % 4096 }

/-- The log, oldest entry first. -/
def logAll (s : State) : List StepEntry :=
  ((s.nv.stepLog.filter fun p => decide (s.nv.stepNext ≤ p.1)) ++ s.nv.stepLog.filter fun p => decide (p.1 < s.nv.stepNext)).filterMap
    (·.2)

/-- The entries of a start for a step. -/
def stepEntries (s : State) (start k : Nat) : List StepEntry := (logAll s).filter fun e => e.startNo = start && e.step = k

/-- A step failed: FAIL, or STARTED with no later entry (R320). -/
def entriesFailed (es : List StepEntry) : Bool := es.any (fun e => e.outcome = oFail) || (es.getLast?.map (·.outcome)) = some oStarted

/-- The previous start's log counts for a step: not after CLEAR_FAILS, nor for DAWN_S03 to DAWN_S05 after a change of the
boot record. -/
def logCounts (s : State) (k : Nat) : Bool := ¬ bit s.dwn.fresh 0 && ¬ (bit s.dwn.fresh 1 && decide (3 ≤ k) && decide (k ≤ 5))

/-- The entries of the previous start for a step, as they count. -/
def logPrev (s : State) (k : Nat) : List StepEntry := if logCounts s k then stepEntries s (s.nv.startNo - 1) k else []

/-- Consecutive previous starts, from `start` downward, on which a step failed; at most `n`. -/
def failRun (s : State) (k : Nat) : Nat → Nat → Nat
  | 0, _ => 0
  | n + 1, start => if entriesFailed (stepEntries s start k) then 1 + failRun s k n (start - 1) else 0

/-- The same for this start. -/
def fails (s : State) (k : Nat) : Nat := if logCounts s k then failRun s k 5 (s.nv.startNo - 1) else 0

/-- PASS_ALT or SKIPPED on the previous start. -/
def sticky (s : State) (k : Nat) : Bool := (logPrev s k).any fun e => e.outcome = oAlt || e.outcome = oSkipped

/-- The step runs its ALT way (Table 13.1). -/
def altOn (s : State) (k : Nat) : Bool :=
  match k with
  | 3 | 4 | 5 | 6 | 9 | 14 => entriesFailed (logPrev s k) || sticky s k
  | 8 | 15 | 16 => decide (2 < fails s k) || sticky s k
  | _ => false

/-- The units of a SKIP step that are left out. -/
def skipUnits (s : State) (k : Nat) : List Nat :=
  ((logPrev s k).filter fun e => e.outcome = oFail || e.outcome = oSkipped).map fun e => e.detail / 256

/-- DWN_FAIL and DWN_FAILMASK of this start. -/
def failRegs (s : State) : State :=
  let bad := (List.range 18).filter fun k => entriesFailed (logPrev s k)
  let s := s.wr R.DWN_FAILMASK_FAILED (maskOf bad)
  match bad with
  | k :: _ =>
    let d := (((logPrev s k).filter fun e => e.outcome = oFail).getLast?.map (·.detail)).getD 0
    (s.wr R.DWN_FAIL_STEP k).wr R.DWN_FAIL_DETAIL d
  | [] => (s.wr R.DWN_FAIL_STEP 31).wr R.DWN_FAIL_DETAIL 0

/-- A start begins: its number, and what the log says of the previous one. -/
def startBegin (s : State) : State :=
  let fresh := b2n s.nv.clearFails + 2 * b2n s.nv.clearBoot
  let s := { s with nv.startNo := (s.nv.startNo + 1) % 2 ^ 32, nv.clearFails := false, nv.clearBoot := false, dwn.fresh := fresh }
  failRegs (s.wr R.DWN_START_START_NO s.nv.startNo)

/-! ### Steps -/

/-- A row of a step acts while that step runs. -/
def stepOn (s : State) (k : Nat) : Bool := s.dwn.step = k && ¬ deviceOff s && ¬ s.safe

/-- What a step starts at once: DAWN_S13 opens the bypass (R280). -/
def stepStarts (k : Nat) (s : State) : State := if k = 13 ∧ s.on R.STG_CFG_EN then strTrain s else s

/-- A step starts; beyond DAWN_S17 Dawn is complete. -/
def stepBegin (k : Nat) (s : State) : State :=
  if 18 ≤ k then ({ s with dwn.step := 18, dwn.redo := [] }.wr R.DWN_STATUS_STEP 31).wr R.DWN_STATUS_RUNNING 0
  else stepStarts k (logPut k oStarted 0 (({ s with dwn.step := k }.wr R.DWN_STATUS_STEP k).wr R.DWN_STATUS_RUNNING 1))

/-- The next step: of the whole Dawn, or of the selected steps after NIGHT (R368), whose list ends with 18. -/
def stepGo (s : State) : State :=
  match s.dwn.redo with
  | k :: r => stepBegin k { s with dwn.redo := r }
  | [] => stepBegin (s.dwn.step + 1) s

/-- DETAIL: the error code and the unit concerned. -/
def detailOf (unit code : Nat) : Nat := unit * 256 + code

/-- Log an outcome of step `k`: PASS_ALT and SKIPPED set the step's bit of DWN_ALTMASK, FAIL raises STEP_FAIL; each writes a
record. -/
def stepLog (k outcome detail : Nat) (s : State) : State :=
  let s := logPut k outcome detail s
  if outcome = oAlt ∨ outcome = oSkipped then
    (s.raise R.DWN_ALTMASK_ALT (2 ^ k)).event 0x4101 (srcStep k) (outcome :: leBytes 2 detail)
  else if outcome = oFail then (s.raise R.DWN_INT_STATUS_STEP_FAIL).event 0x8102 (srcStep k) (leBytes 2 detail)
  else s

/-- A step ends with an outcome, and the next one starts. -/
def stepEnd (k outcome detail : Nat) (s : State) : State := stepGo (stepLog k outcome detail s)

/-- A step passes in the way it ran. -/
def stepPass (k : Nat) (s : State) : State := stepEnd k (if altOn s k then oAlt else oPass) 0 s

/-- The safe state (R321). Its String switches close. -/
def enterSafe (k detail : Nat) (s : State) : State :=
  let s := ((s.wr R.DWN_STATUS_SAFE 1).wr R.GLB_STATUS_SAFE 1).wr R.DWN_STATUS_RUNNING 0
  let s := s.raise R.DWN_INT_STATUS_SAFE_STATE
  let s := s.event 0xC103 (srcStep k) (leBytes 2 detail)
  if strState s = sBypassed then s else bypassClose sBypassed s

/-- A step fails into the safe state. -/
def stepSafe (k detail : Nat) (s : State) : State := enterSafe k detail (stepLog k oFail detail s)

/-- A step whose failure its row does not carry on from: it is logged and the device resets (R318). -/
def stepReset (k detail : Nat) (s : State) : State := resetDevice R.PWR_RESET_CAUSE_WATCHDOG (stepLog k oFail detail s)

end Sys2Proof.Machine
end

