-- ==== Sys2Proof/Machine/DawnBoot.lean ====
section
/-! DEFINITION. DAWN_S00 to DAWN_S07 (Table 13.1, R27, R199, R204, R323, R352): power good, fuses, ROM, the firmware slot, the
Basket's training, the MRAM check; the configuration sources of R328. -/

namespace Sys2Proof.Machine

/-! ### DAWN_S00 to DAWN_S02 -/

/-- POWER_GOOD: a start begins; what failed on the previous one is read from the log. Not good: nothing is logged and the
device holds. -/
def doPowerGood (ok : Bool) (s : State) : State :=
  if ¬ stepOn s 0 ∨ ¬ ok then s else
  stepEnd 0 oPass 0 (stepBegin 0 (startBegin s))

/-- OTP_READ: every field's CRC holds, but for key slots, which are then damaged (R334). -/
def doOtpRead (ok : Bool) (s : State) : State :=
  if ¬ stepOn s 1 then s
  else if ok ∧ ¬ s.nv.otpFail then stepPass 1 s
  else stepSafe 1 (detailOf 0 eInternal) s

/-- ROM_SELFTEST. -/
def doRomSelftest (ok : Bool) (s : State) : State :=
  if ¬ stepOn s 2 then s else if ok then stepPass 2 s else stepSafe 2 (detailOf 0 eInternal) s

/-! ### The firmware slot (R323) -/

/-- The slot that a start begins with: the one other than PREFERRED where any of DAWN_S03 to DAWN_S05 runs ALT. -/
def bootSlot (s : State) : Nat :=
  let p := s.nv.preferred
  if altOn s 3 ∨ altOn s 4 ∨ altOn s 5 then 1 - p else p

/-- Checks 1 and 8 of Table 13.9 for a firmware slot. -/
def headerCheck (i : Image) : Option Nat := if ¬ i.magicOk then some 1 else if i.kind ≠ 0 ∨ ¬ typesOk i then some 8 else none

/-- Checks 2 to 6. -/
def signCheck (s : State) (i : Image) : Option Nat :=
  if ¬ keyCheck s i then some 2 else if ¬ keyMatches s i then some 3 else if ¬ i.sigOk then some 4 else if ¬ i.bindOk then some 5
  else if i.svn < s.nv.fwSvn ∨ 128 < i.svn then some 6 else none

/-- Check 7. -/
def loadCheck (s : State) (i : Image) : Option Nat := if ¬ i.sectsOk ∨ ¬ (keySlot s 0).ok then some 7 else none

/-- The slot in use fails DAWN_S03 or DAWN_S04: both run again on the other slot, once. -/
def slotFails (k code : Nat) (s : State) : State :=
  let d := detailOf s.dwn.slot code
  if s.dwn.tried then stepSafe k d s
  else
    let s := stepLog k oFail d s
    stepBegin 3 { s with dwn.tried := true, dwn.slot := 1 - s.dwn.slot }

/-- HEADER_READ. -/
def doHeaderRead (ok : Bool) (s : State) : State :=
  if ¬ stepOn s 3 then s else
  let s := if s.dwn.tried then s else { s with dwn.slot := bootSlot s }
  match (slotImg s s.dwn.slot).filter fun _ => ok with
  | none => slotFails 3 eField s
  | some i =>
    match headerCheck i with
    | some _ => slotFails 3 eField s
    | none => stepEnd 3 (if s.dwn.tried || altOn s 3 then oAlt else oPass) 0 s

/-- SIGNATURE. -/
def doSignature (ok : Bool) (s : State) : State :=
  if ¬ stepOn s 4 then s else
  match slotImg s s.dwn.slot with
  | none => slotFails 4 eAuth s
  | some i =>
    match signCheck s i with
    | some c => slotFails 4 eAuth (imageFail c s)
    | none => if ok then stepPass 4 s else slotFails 4 eAuth (imageFail 4 s)

/-- The image of a slot runs: GLB_FW, IMAGE_SLOT. -/
def runImage (i : Image) (s : State) : State :=
  let s := { s with dwn.image := some i }
  (s.wr R.DWN_STATUS_IMAGE_SLOT s.dwn.slot).wr R.GLB_FW_NOLJO_VERSION i.version

/-- FW_LOAD. A failure resets the device, and the next start takes the other slot. -/
def doFwLoad (ok : Bool) (s : State) : State :=
  if ¬ stepOn s 5 then s else
  match slotImg s s.dwn.slot with
  | none => stepReset 5 (detailOf s.dwn.slot eAuth) s
  | some i =>
    match loadCheck s i with
    | some c => stepReset 5 (detailOf s.dwn.slot eAuth) (imageFail c s)
    | none => if ok then stepPass 5 (runImage i s) else stepReset 5 (detailOf s.dwn.slot eAuth) (imageFail 7 s)

/-! ### Configuration sources (R328) -/

/-- The newest valid shadow-slot image: the half that passes Table 13.9 with the higher BUILD_EPOCH. -/
def shadowImage (s : State) : Option Image :=
  let ok := fun x : Option Image => x.filter fun i => (imageCheck s 1 i).isNone
  match ok s.nv.shadowA, ok s.nv.shadowB with
  | some a, some b => if a.build < b.build then some b else some a
  | some a, none => some a
  | none, b => b

/-- The sources in their order, with CFG_SRC. -/
def cfgSources (s : State) (shadowOk : Bool) : List (Nat × Image) :=
  let sh := (shadowImage s).filter fun _ => shadowOk && ¬ altOn s 9
  (match sh with
    | some i => [(0, i)]
    | none => []) ++
  match s.dwn.image with
  | some i => [(1, i)]
  | none => []

/-- The machine with a source's set in place, where its sections, its fields and its conditions between fields hold. -/
def cfgTry (s : State) (i : Image) : Option State :=
  let set := itemsSet i.items
  let t : State := { withSet set s with dwn.tables := i.tables }
  if (sectionsErr (fun sec => i.types.contains sec) i.items i.tables).isSome ∨ (setFail { s with bsk.cap := 0 } t set).isSome then none else some t

/-- The first source that passes. -/
def cfgPick (s : State) : List (Nat × Image) → Option (Nat × Image × State)
  | [] => none
  | p :: l => match cfgTry s p.2 with
    | some t => some (p.1, p.2, t)
    | none => cfgPick s l

/-! ### DAWN_S06 (R199, R204, R218) -/

/-- The population that the configuration gives, before DAWN_S09 has put it in force. -/
def popComing (s : State) : State := ((cfgPick s (cfgSources s true)).map fun p => p.2.2).getD s

/-- Data to be kept: dirty pages of a Basket that stayed in self-refresh, or a dump that waits. -/
def dataKept (s : State) : Bool := s.nv.dumpStart.isSome || (s.bsk.selfRefresh && decide (dirtyPages s ≠ 0))

/-- BASKET_TRAIN: `chans` are the channels that fail, `retained` whether every marker read back as stored. -/
def doBasketTrain (chans : Nat) (retained : Bool) (s : State) : State :=
  if ¬ stepOn s 6 then s else
  let s := if s.dwn.redo.isEmpty then envWalk s else s
  let t := popComing s
  let n := if t.on R.BSK_POP_CHANNELS then 16 else 8
  let bad := (List.range n).filter (bit chans)
  let s := s.each (List.range 16) fun s c => s.wr (R.BSK_CHc_TRAIN_OK c) (b2n (decide (c < n) && ¬ bit chans c))
  let s := if altOn s 6 then s.wr R.BSK_POP_CONSERVATIVE 1 else s
  let s := s.wr R.BSK_STATUS_HALF 0
  let keep := dataKept s
  let kept := retained && s.bsk.selfRefresh && bad.isEmpty
  let s := s.wr R.BSK_STATUS_RETAINED (b2n kept)
  let s := { s with bsk.selfRefresh := false }
  match bad with
  | [] =>
    let s := if kept then s else bskEmpty (s.raise R.BSK_INT_STATUS_NOT_RETAINED)
    stepPass 6 s
  | c :: _ =>
    let s := s.raise R.BSK_INT_STATUS_NOT_RETAINED
    let s := if keep then ({ s with dwn.ballastHeld := true }.wr R.BAL_STATUS_STATE 5).raise R.BAL_INT_STATUS_HELD
      else bskEmpty (bskFallback (halfFits { s with regs := (withSet (activeSet t) s).regs }) s)
    stepEnd 6 oFail (detailOf c eInternal) s

/-! ### DAWN_S07 (Table 4.11, R27, R352) -/

/-- The MRAM is no evidence: what it held is as never written. -/
def mramLost (s : State) : State :=
  let s := { s with nv.ring := [], nv.rootA := Root.blank, nv.rootB := Root.blank, nv.arrEntries := [], nv.progs := [],
                    nv.nsTable := [], nv.dirtyMap := [], nv.dumpStart := none, nv.armedSeq := 0 }
  wskReinit (s.wr R.GON_STATUS_MRAM_OK 0)

/-- A Gondola retention bank failed its check on this exit from NIGHT. -/
def gonBankBad (s : State) : Bool := ¬ s.dwn.redo.isEmpty && decide (2 ^ 20 ≤ s.rd R.PWR_RET_STATUS_FAILED)

/-- The epoch counter starts from the root (R27). In the steps that follow NIGHT it runs on (R34); where a Gondola bank has failed it is
raised from the drives, if they are ahead (R28). -/
def epochStart (s : State) : State :=
  if ¬ s.dwn.redo.isEmpty then { s with dwn.rawEpoch := s.dwn.rawEpoch || ¬ s.on R.GON_STATUS_MRAM_OK }
  else if (rootNow s).ok then { s with tet.epoch := ((rootNow s).lastEpoch + 1024) % 2 ^ 48 }
  else { s with dwn.rawEpoch := true }

/-- MRAM_CHECK: `banks` are the Gondola banks whose signature differs. -/
def doMramCheck (ok : Bool) (banks : Nat) (s : State) : State :=
  if ¬ stepOn s 7 then s
  else if ok ∧ banks = 0 ∧ ¬ gonBankBad s then
    let s := epochStart (wskRegs (s.wr R.GON_STATUS_MRAM_OK 1))
    let s := { s with pair.lastClaim := max s.pair.lastClaim (rootNow s).lastClaim }
    stepPass 7 (if wskValid s then s else wskReinit s)
  else stepEnd 7 oFail (detailOf 0 eInternal) (epochStart (mramLost s))

def execPowerGood (ok : Bool) (s : State) : Out := live s (doPowerGood ok s)
def execOtpRead (ok : Bool) (s : State) : Out := live s (doOtpRead ok s)
def execRomSelftest (ok : Bool) (s : State) : Out := live s (doRomSelftest ok s)
def execHeaderRead (ok : Bool) (s : State) : Out := live s (doHeaderRead ok s)
def execSignature (ok : Bool) (s : State) : Out := live s (doSignature ok s)
def execFwLoad (ok : Bool) (s : State) : Out := live s (doFwLoad ok s)
def execBasketTrain (chans : Nat) (retained : Bool) (s : State) : Out := live s (doBasketTrain chans retained s)
def execMramCheck (ok : Bool) (banks : Nat) (s : State) : Out := live s (doMramCheck ok banks s)

end Sys2Proof.Machine
end

