-- ==== Sys2Proof/Machine/DawnCfg.lean ====
section
/-! DEFINITION. DAWN_S08 to DAWN_S14 (Table 13.1, R28, R83, R105, R216, R280, R315, R328): the scan of the journal, the
configuration, the ports, the pair's role, the String, time. -/

namespace Sys2Proof.Machine

/-! ### DAWN_S08 (R83, R85, R87, R105) -/

/-- Insert a record by ascending SEQ. -/
def insRec (r : Rec) : List Rec → List Rec
  | [] => [r]
  | x :: xs => if r.seq < x.seq then r :: x :: xs else x :: insRec r xs

/-- The records of a ring that are not ignored (the first three conditions of R83), ascending. -/
def ringScan (ring : SMap (Option Rec)) : List Rec :=
  let rs : List Rec := ring.filterMap fun p => match p.2 with
    | some r => if r.crcOk ∧ r.seq % ringSlots = p.1 then some r else none
    | none => none
  let hi := rs.foldl (fun m r => max m r.seq) 0
  (rs.filter fun (r : Rec) => decide (hi ≤ r.seq + 229375)).foldl (fun l r => insRec r l) []

/-- A record that makes the journal unreadable (R87). -/
def ringUnreadable (rs : List Rec) : Bool := rs.any fun r => r.body = .unreadable

/-- Records without those that a carried record replaces. -/
def dropCarried (rs : List Rec) : List Rec :=
  let old := rs.filterMap fun r => if r.carried then some r.origSeq else none
  rs.filter fun r => ¬ old.contains r.seq

/-- The newest record is CHECKPOINT CLEAN. -/
def endsClean (rs : List Rec) : Bool :=
  match rs.getLast? with
  | some r => match r.body with
    | .ckpt 2 .. => true
    | _ => false
  | none => false

/-- The open stripe INTENTs that a list of records leaves. -/
def opensOf (rs : List Rec) : List Rec :=
  rs.foldl (fun l r => match r.body with
    | .stripe .. => l ++ [r]
    | .done _ _ q _ => l.filter fun o => o.seq ≠ q
    | _ => l) []

/-- UPTO_SEQ and SEQ of the newest SEAL. -/
def sealOf (rs : List Rec) : Nat × Nat :=
  rs.foldl (fun m r => match r.body with
    | .ckpt 0 upto .. => (upto, r.seq)
    | _ => m) (0, 0)

/-- The next SEQ. -/
def seqAfter (rs : List Rec) : Nat := rs.foldl (fun m r => max m (r.seq + 1)) 1

/-- The journal's working state from the records of a scan. -/
def scanInto (rs : List Rec) (reclaim : Nat) (s : State) : State :=
  let use := (dropCarried rs).filter fun r => decide (reclaim ≤ r.seq)
  let clean := endsClean rs
  let sl := sealOf rs
  let s := { s with jrn.nextSeq := max s.jrn.nextSeq (seqAfter rs), jrn.sealUpto := sl.1, jrn.sealSeq := sl.2, jrn.rootSeq := reclaim,
                    jrn.opens := if clean then [] else opensOf use }
  (s.wr R.GON_STATUS_CLEAN_START (b2n clean)).wr R.GON_REPLAY0_RECORDS (if clean then 0 else use.length)

/-- REPLAY_SCAN. As ALT the journal is treated as missing evidence; so is one that cannot be read (R87). -/
def doReplayScan (ok : Bool) (s : State) : State :=
  if ¬ stepOn s 8 then s
  else if ¬ ok ∧ ¬ altOn s 8 then stepReset 8 (detailOf 0 eInternal) s
  else if ¬ s.on R.GON_STATUS_MRAM_OK then stepPass 8 s
  else
    let rs := ringScan s.nv.ring
    if altOn s 8 ∨ ringUnreadable rs then
      stepPass 8 { s with dwn.jrnBad := true, jrn.nextSeq := max s.jrn.nextSeq (seqAfter rs) }
    else stepPass 8 (scanInto rs (rootNow s).reclaim s)

/-! ### DAWN_S09 (R328) -/

/-- The layout of the set in force; a retained Basket with dirty pages keeps its own until none is left. -/
def layoutDawn (s : State) : State :=
  let b := s.bsk
  let t := layoutConfigured s
  if b.cap ≠ 0 ∧ dirtyPages s ≠ 0 ∧ (t.bsk.w ≠ b.w ∨ t.bsk.u ≠ b.u ∨ t.bsk.cap ≠ b.cap) then
    (s.wr R.BSK_STATUS_LAYOUT_HELD 1).wr R.BSK_LAYOUT_WS_ACT (b.w / unitPages)
  else t

/-- CONFIG_OLDER: the root's CONFIG_GEN is higher than the image's. -/
def olderCheck (s : State) : State :=
  let r := rootNow s
  let g := s.dwn.configGen
  if r.ok ∧ g < r.configGen then
    ((s.wr R.DWN_STATUS_CONFIG_OLDER 1).raise R.DWN_INT_STATUS_CONFIG_OLDER).event 0x4105 0 (leBytes 8 r.configGen ++ leBytes 8 g)
  else s.wr R.DWN_STATUS_CONFIG_OLDER 0

/-- CONFIG_APPLY: the first source that passes becomes the active set, and the shadow set a copy of it. `ok` is false where
the shadow slot cannot be read. The record of the start is written here, where both of its values are known. -/
def doConfigApply (ok : Bool) (s : State) : State :=
  if ¬ stepOn s 9 then s else
  match cfgPick s (cfgSources s ok) with
  | none => stepSafe 9 (detailOf 0 eField) s
  | some (src, img, t) =>
    let t := (shadowCopy (setGen img.gen t)).wr R.DWN_STATUS_CFG_SRC src
    let t := applySources s (needSet (pfcRegs (aclSet (layoutDawn t))))
    let t := olderCheck t
    let t := if s.dwn.redo.isEmpty then t.event 0x0100 0 (leBytes 4 t.nv.startNo ++ [t.dwn.slot, src]) else t
    stepPass 9 t

/-! ### DAWN_S10 and DAWN_S11 -/

/-- SerDes groups: HP0, HP1, BP0, BP1, FP0 to FP3, String, Spar, DP0 to DP31. -/
def serdesGroups : Nat := 42

/-- End a step that is passed in parts: an entry for each part left out and for each that failed, else PASS. -/
def stepParts (k : Nat) (skipped failed : List Nat) (code : Nat) (s : State) : State :=
  let s := s.each skipped fun s u => stepLog k oSkipped (detailOf u 0) s
  let s := s.each failed fun s u => stepLog k oFail (detailOf u code) s
  stepGo (if skipped.isEmpty ∧ failed.isEmpty then stepLog k oPass 0 s else s)

/-- SERDES_CAL: `fails` are the groups that fail; their ports stay down. -/
def doSerdesCal (fails : Nat) (s : State) : State :=
  if ¬ stepOn s 10 then s else
  let sk := skipUnits s 10
  let skipped := (List.range serdesGroups).filter sk.contains
  let bad := (List.range serdesGroups).filter fun g => bit fails g && ¬ sk.contains g
  stepParts 10 skipped bad eInternal { s with dwn.dead := maskOf (skipped ++ bad) }

/-- The drive of a vault port as it stands before its link. -/
def vaultDrive (v : Vault) : Drive := blankDrive ⟨v.nguid, 8388608, 0, v.passes, false, false, false, 0⟩

/-- A vault port that does not come up: its drive stays present and not ready. -/
def vaultDown (n : Nat) (s : State) : State :=
  match s.ext.vaults[n]? with
  | none => s
  | some v =>
    let s := if v.present then { s with ext.coming := s.ext.coming ++ [(⟨64 + n, 7, vaultDrive v⟩ : Coming)] } else setPhase (64 + n) 7 s
    let s := s.modVaults fun i x => if i = n then { x with present := false } else x
    (s.wr (drvFld (64 + n) 14 1) 1).wr (if n = 0 then R.BAL_STATUS_VAULT0 else R.BAL_STATUS_VAULT1) 0

/-- A drive stands on a vault port. -/
def vaultHere (s : State) (n : Nat) : Bool := (comingAt s (64 + n)).isSome || ((s.ext.vaults[n]?).map (·.present)).getD false

/-- A vault port has trained. -/
def vaultUp (n : Nat) (s : State) : State :=
  let pass := match comingAt s (64 + n) with
    | some c => vaultFits c.drive.desc
    | none => ((s.ext.vaults[n]?).map (·.passes)).getD false
  vaultReady n pass s

/-- The dump that the vault drives hold is to be restored (rows 2 and 4 of Table 8.8). -/
def restoreAsk (s : State) : State :=
  if [2, 4].contains (bskSource s) then { s with dwn.needsRestore := true }.wr R.BAL_STATUS_STATE 4 else s

/-- PORT_TRAIN: `v0` and `v1` say whether BP0 and BP1 train; drive bring-up starts (Table 9.4). -/
def doPortTrain (v0 v1 : Bool) (s : State) : State :=
  if ¬ stepOn s 11 then s else
  let sk := skipUnits s 11
  let here := (List.range 2).filter (vaultHere s)
  let skipped := here.filter sk.contains
  let trains := fun n => (if n = 0 then v0 else v1) && ¬ bit s.dwn.dead (2 + n)
  let bad := here.filter fun n => ¬ sk.contains n && ¬ trains n
  let s := s.each here fun s n => if sk.contains n ∨ ¬ trains n then vaultDown n s else vaultUp n s
  let s := { s with ext.coming := s.ext.coming.map fun (c : Coming) => if c.phase = 0 then { c with phase := 1 } else c }
  let s := (s.wr R.DWN_TIME_S11_MS (s.freeNat 16)).useFree
  stepParts 11 skipped bad eTime (if s.dwn.redo.isEmpty then restoreAsk (dumpRecords s) else s)

/-! ### DAWN_S12 (R28, R294, R315) -/

/-- The claims that the journal's CLAIM records name: this unit's newest, the peer's newest. -/
def claimsLoad (s : State) : State :=
  let cs := (if s.on R.GON_STATUS_MRAM_OK then ringScan s.nv.ring else []).filterMap fun r => match r.body with
    | .clm _ _ c _ _ => some c
    | _ => none
  let own := (cs.filter fun c => claimUnit c = s.unit).foldl max s.pair.lastClaim
  let peer := (cs.filter fun c => claimUnit c ≠ s.unit).foldl max s.pair.peerClaim
  claimRegs { s with pair.lastClaim := own, pair.peerClaim := peer }

/-- Without a stored epoch the counter is raised from the keys and tail copies on present members and spares, before the first claim. -/
def epochRaise (s : State) : State :=
  if ¬ s.dwn.rawEpoch then s else
  let ds := (resvDrives s).filterMap (driveAt s)
  let keys := (s.pair.helloRx.map (·.lastClaim)).toList ++ ds.flatMap (·.keys)
  let tails := ds.flatMap fun d => d.tailA.toList ++ d.tailB.toList
  let es := (keys.filter (· ≠ 0)).map (· / 65536) ++ (tails.filter (·.ok)).map fun t => t.ckpt * 1024
  let s := { s with dwn.rawEpoch := false }
  match es with
  | [] => s
  | e :: l =>
    let top := l.foldl max e + 1024
    if s.tet.epoch < top then
      (({ s with tet.epoch := top }).raise R.TET_INT_STATUS_STEPPED).event 0x4700 0 (leBytes 8 (top - s.tet.epoch)) else s

/-- The role of a unit whose SPR_CFG.EN is 0: SOLO, with a claim of its own; the drives that are ready are registered and
acquired. -/
def soloStart (s : State) : State :=
  let s := takeClaim 0 0 ((s.wr R.SPR_STATUS_STATE 0).wr R.SPR_STATUS_REASON 1)
  s.each (resvDrives s) fun s d => resvJoinGo d s

/-- The Basket stands ready, or is held back by what it cannot bring up (R199, R218). -/
def bskUp (s : State) : Bool := ¬ s.dwn.ballastHeld && s.rd R.BSK_STATUS_MODE ≠ 3

/-- PAIR_NEGOTIATE: the step ends when the role is chosen; until then HELLO is sent. Dawn holds here while the Basket is
held or down. -/
def doPairNegotiate (s : State) : State :=
  if ¬ stepOn s 12 ∨ ¬ bskUp s then s else
  let s := if s.dwn.redo.isEmpty then claimsLoad s else s
  if ¬ s.on R.SPR_CFG_EN then stepPass 12 (if s.dwn.redo.isEmpty then soloStart (epochRaise s) else epochRaise s)
  else
    let s := match s.pair.helloRx, s.pair.peerGone with
      | some h, false => choosePresent h (epochRaise s)
      | _, _ => s
    if s.pairState = 7 then stepEnd 12 oFail (detailOf 0 eState) s
    else if s.pair.helloRx.isSome ∨ s.pair.peerGone then stepPass 12 s
    else helloSend s

/-- PEER_WAIT_EXPIRE: no peer within PEER_WAIT_S in DAWN_S12. -/
def doPeerWaitExpire (s : State) : State :=
  if stepOn s 12 ∧ bskUp s ∧ s.on R.SPR_CFG_EN ∧ s.pair.helloRx.isNone ∧ ¬ s.pair.peerGone then
    chooseAbsent (epochRaise (claimsLoad { s with pair.peerGone := true }))
  else s

/-! ### DAWN_S13 and DAWN_S14 -/

/-- STRING_JOIN: passes when JOINED or not configured, fails on REFUSED, and lets Dawn go on after 200 ms. -/
def doStringJoin (timeout : Bool) (s : State) : State :=
  if ¬ stepOn s 13 then s
  else if ¬ s.on R.STG_CFG_EN ∨ strState s = sJoined then stepPass 13 s
  else if strState s = sRefused then stepEnd 13 oFail (detailOf 0 eState) s
  else if timeout then stepPass 13 s
  else s

/-- TIME_LOCK. -/
def doTimeLock (timeout : Bool) (s : State) : State :=
  if ¬ stepOn s 14 then s
  else if altOn s 14 ∨ s.rd R.TET_CTRL_SOURCE = 3 ∨ s.rd R.TET_STATUS_STATE = tLocked then stepPass 14 s
  else if timeout ∨ s.rd R.DWN_CFG_LOCK_WAIT_S = 0 then stepEnd 14 oFail (detailOf 0 eTime) s
  else s

def execReplayScan (ok : Bool) (s : State) : Out := live s (doReplayScan ok s)
def execConfigApply (ok : Bool) (s : State) : Out := live s (doConfigApply ok s)
def execSerdesCal (fails : Nat) (s : State) : Out := live s (doSerdesCal fails s)
def execPortTrain (v0 v1 : Bool) (s : State) : Out := live s (doPortTrain v0 v1 s)
def execPairNegotiate (s : State) : Out := live s (doPairNegotiate s)
def execPeerWaitExpire (s : State) : Out := live s (doPeerWaitExpire s)
def execStringJoin (timeout : Bool) (s : State) : Out := live s (doStringJoin timeout s)
def execTimeLock (timeout : Bool) (s : State) : Out := live s (doTimeLock timeout s)

end Sys2Proof.Machine
end

