-- ==== Sys2Proof/Machine/Assemble.lean ====
section
/-! DEFINITION. The assembly of arrays (DAWN_S15; R52, R74, R76, R104, R109, R419): the evidence, the labels, members and
targets, the state that an array is placed in, creation. -/

namespace Sys2Proof.Machine

/-! ### Evidence (R104) -/

/-- An array-state entry that names an array. -/
def entryUsed (e : ArrEntry) : Bool := e.state % 8 ≠ 7

/-- The entry of array `a` in a list of entries. -/
def entryIn (es : List ArrEntry) (a : Nat) : Option ArrEntry := (es[a]?).filter entryUsed

/-- The vault that holds the journal copy of a completed dump. -/
def journalVault (s : State) : Option Vault :=
  match dumpEvid s with
  | some d => if d.complete then (vaultsUp s).find? fun v => v.hdrOk && v.complete && v.seq = d.seq && v.journalSeal else none
  | none => none

/-- The device's own entry. -/
def ownEntry (s : State) (a : Nat) : Option ArrEntry := if s.on R.GON_STATUS_MRAM_OK then entryIn s.nv.arrEntries a else none

/-- Ready drives with the label in force on each, of one ARRAY_ID. -/
def labelsOf (s : State) (id : Nat) : List (Nat × Label) :=
  s.ext.drives.filterMap fun p => match p.2 with
    | some x => ((labelIn x).filter fun l => l.arrayId = id).map fun l => (p.1, l)
    | none => none

/-- The entry of a completed dump's journal copy; one of another device counts where a drive carries a label with its ARRAY_ID. -/
def dumpEntry (s : State) (a : Nat) : Option ArrEntry :=
  (journalVault s).bind fun v => (entryIn v.pers.arrEntries a).filter fun e =>
    v.device = s.nv.deviceId || ¬ (labelsOf s e.arrayId).isEmpty

/-- The drives that array `a`'s entry names. -/
def namedDrvs (s : State) (a : Nat) : List Nat := (List.range (memN s a)).map (memDrv s a)

/-- The newest label of a list. -/
def newestLabel : List (Nat × Label) → Option Label
  | [] => none
  | p :: l => match newestLabel l with
    | some y => if p.2.seq < y.seq then some y else some p.2
    | none => some p.2

/-- A tail copy is not older than the last clean stop that the device's own root knows (R109). -/
def tailFresh (s : State) (t : Tail) : Bool :=
  t.clean || ¬ (s.on R.GON_STATUS_MRAM_OK && (rootNow s).ok && (rootNow s).cleanStop) || decide ((rootNow s).stopSeq ≤ t.upto)

/-- The tail copy with the highest CKPT_NUM, and of two the one with the higher UPTO_SEQ, among those of drives that satisfy a test. -/
def tailPick (s : State) (p : Tail → Bool) (ds : List Nat) : Option Tail :=
  (ds.flatMap fun d => match driveAt s d with
    | some x => (x.tailA.toList ++ x.tailB.toList).filter fun t => t.ok && p t && tailFresh s t
    | none => []).foldl (fun b t => match b with
      | some y => if y.ckpt < t.ckpt ∨ (y.ckpt = t.ckpt ∧ y.upto < t.upto) then some t else some y
      | none => some t) none

/-- The usable tail copy with the highest CKPT_NUM on drives of an array (R109). -/
def newestTail (s : State) (id : Nat) (ds : List Nat) : Option Tail := tailPick s (fun t => t.arrayId = id) ds

/-- The ARRAY_ID that array `a` is assembled with, none where it is created (R419): by the evidence in the order of R104, then by a label
of that array number. A tail copy names it where a drive carries a label with the same ARRAY_ID (R109). -/
def arrayIdFor (s : State) (a : Nat) : Option Nat :=
  let ds := namedDrvs s a
  let ls := ds.filterMap fun d => ((driveAt s d).bind labelIn).filter fun l => l.arrayNum = a
  let tail := tailPick s (fun t => t.array = a && ls.any fun l => l.arrayId = t.arrayId) ds
  ((ownEntry s a).map (·.arrayId)) <|> ((dumpEntry s a).map (·.arrayId)) <|> (tail.map (·.arrayId)) <|>
    ((newestLabel (ls.map fun l => (0, l))).map (·.arrayId))

/-- The evidence of array `a`: its level, its entry, its records, its tail copy. -/
structure Evid where
  level : Nat
  entry : ArrEntry
  recs : List Rec
  tail : Option Tail
deriving DecidableEq, Repr

/-- The first evidence of R104 that exists for an array with its drives. -/
def evidFor (s : State) (a id : Nat) (ds : List Nat) : Evid :=
  let own := ((ownEntry s a).filter fun e => e.arrayId = id)
  match own.filter fun _ => ¬ s.dwn.jrnBad with
  | some e => ⟨0, e, ringScan s.nv.ring, none⟩
  | none =>
    let v := (journalVault s).filter fun v => ¬ ringUnreadable (ringScan v.ring) &&
      ((entryIn v.pers.arrEntries a).map (·.arrayId)) = some id
    match v with
    | some v => ⟨1, v.pers.arrEntries.getD a ArrEntry.none, ringScan v.ring, none⟩
    | none =>
      match newestTail s id ds with
      | some t => ⟨2, own.getD (t.pers.arrEntries.getD a ArrEntry.none), t.recs, some t⟩
      | none => ⟨3, own.getD ArrEntry.none, [], none⟩

/-- The newest PROGRESS record of an operation in the evidence: watermark, total, PSTATE. -/
def progressLast (rs : List Rec) (kind a target : Nat) : Option (Nat × Nat × Nat) :=
  rs.foldl (fun b r => match r.body with
    | .progress k x t wm total ps => if k = kind ∧ x = a ∧ t = target then some (wm, total, ps) else b
    | _ => b) none

/-- The watermark that an operation resumes from (R92): the newer of the record and the root-time watermark of the array-state entry, the
higher one as a watermark only rises; none where the record says that it has ended. -/
def resumeWm (e : Option (Nat × Nat × Nat)) (root : Option Nat) : Option Nat :=
  match e with
  | none => root
  | some (wm, _, ps) => if ps ≤ 1 then some (max wm (root.getD 0)) else none

/-! ### Labels -/

/-- A copy that is there and not valid: it fails its CRC, or has another MAGIC or VERSION (R52). -/
def labelDamaged (d : Drive) : Bool := (d.labelA.toList ++ d.labelB.toList).any fun l => ¬ (l.crcOk && l.magicOk)

/-- LABEL_ERR. -/
def labelErr (s : State) : State := s.raise R.STR_INT_DEV_LABEL_ERR

/-- The array is placed OFFLINE with REASON LABEL; nothing is written to the members. -/
def labelFail (a id : Nat) (s : State) : State :=
  setArr a aOffline 5 (labelErr (s.modArr a fun _ => { Arr.none with arrayId := id }))

/-- Two labels agree in what Table 3.9 names. -/
def labelsAgree (x y : Label) : Bool :=
  x.arrayId = y.arrayId && x.members = y.members && x.strip = y.strip && x.metaB = y.metaB && x.stripes = y.stripes

/-- A drive that the entry names for a member present by label `l` carries a valid label of another array. -/
def labelStrange (s : State) (a : Nat) (l : Label) : Bool :=
  (List.range (memN s a)).any fun k => ¬ bit l.missing k &&
    match (driveAt s (memDrv s a k)).bind labelIn with
    | some x => x.arrayId ≠ l.arrayId
    | none => false

/-- The label fits the array's enabled entry. -/
def labelFits (s : State) (a : Nat) (l : Label) : Bool :=
  l.members = memN s a && l.strip = s.rd (R.STR_An_GEOM_STRIP a) && l.metaB = 16 * s.rd (R.STR_An_GEOM_META a)

/-- The members that the newest label names and that are there, with their drives and labels. -/
def membersFound (s : State) (l : Label) (ls : List (Nat × Label)) : List (Nat × Nat × Label) :=
  (List.range l.members).filterMap fun k =>
    (ls.find? fun p => ((driveAt s p.1).map (·.desc.nguid)) = l.ids[k]? ∧ (l.ids[k]?).isSome).map fun p => (k, p)

/-! ### Placing an array -/

/-- The registers and working state of an assembled array before its state: `miss` are its missing members. -/
def placeArray (a : Nat) (l : Label) (found : List (Nat × Nat × Label)) (miss : List Nat) (s : State) : State :=
  let s := s.each found fun s p => setMember a p.1 p.2.1 s
  let s := s.wr (R.STR_An_MISSMAP_MISS a) (maskOf miss)
  let s := s.each (List.range 32) fun s k =>
    (s.wr (R.STR_An_MEMBERk_MISSING a k) (b2n (miss.contains k))).wr (R.STR_An_MEMBERk_MAPHOLD a k) 0
  let holds := (found.filter fun p => l.mapMembers.contains p.1 && ¬ miss.contains p.1).map fun p => (p.1, p.2.1)
  let lost := (holds.flatMap fun p => ((driveAt s p.2).map (·.lostMap)).getD []).foldl (fun m x => insNat x m) []
  let s := s.each holds fun s p => s.wr (R.STR_An_MEMBERk_MAPHOLD a p.1) 1
  let s := s.modArr a fun _ => { Arr.none with
    arrayId := l.arrayId, stripes := l.stripes, createClaim := l.createClaim, lost := lost, mapMembers := holds.map (·.1),
    labelSeq := l.seq }
  (stripesRegs a (s.wr (R.STR_An_LOST_LOST a) lost.length)).wr (R.STR_An_STATUS_LOST_ANY a) (b2n (¬ lost.isEmpty))

/-- A spare entry whose drive is a member of the array is taken (R328). -/
def placeSpares (a : Nat) (found : List (Nat × Nat × Label)) (s : State) : State :=
  s.each found fun s p => s.each (sparesOn s p.2.1) fun s k =>
    let s := (s.wr (R.STR_SPAREk_SPARE_STATE k) 2).wr (R.STR_SPAREk_ARRAY k) a
    s.modArr a fun r => { r with taken := (p.1, k) :: r.taken.filter fun x => x.2 ≠ k }

/-- Every copy of the map has a bit that another lacks, or the Gondola count differs: the union stands (R74). -/
def mapUnion (a gon : Nat) (s : State) : State :=
  let n := (s.arr a).lost.length
  if n = gon then s else s.event 0x8204 (srcArr a) (leBytes 4 n ++ leBytes 4 gon)

/-- The resynchronisation that the evidence asks for (R109, R76); one that ran goes on from its watermark over the same scope (R110). -/
def resyncFor (a : Nat) (e : Evid) : Option Resync :=
  match e.level with
  | 3 => some ⟨0, 0, [], [], 0⟩
  | 2 => match e.tail with
    | some t => if t.clean then none else some ⟨0, t.regionSize, t.regions, [], 0⟩
    | none => none
  | _ => (resumeWm (progressLast e.recs 2 a 0) (if e.entry.state % 8 = aResyncing then some e.entry.rs else none)).map
      fun wm => ⟨wm, e.entry.rsSize, e.entry.rsRegions, [], 0⟩

/-- The watermark and END that the evidence holds for the target of a member (R124). -/
def targetProgress (a m : Nat) (e : Evid) : Option (Nat × Nat) :=
  let root := (e.entry.rb.find? fun x => x.1 = m).map (·.2)
  match progressLast e.recs 0 a m with
  | none => root
  | some (wm, total, ps) => if 1 < ps then none else match root with
    | some r => if wm ≤ r.1 then some r else some (wm, total)
    | none => some (wm, total)

/-- The slots of the targets that the evidence knows, with their valid sets (R124): the slot whose END is below S was formed second, and
its END marks where the other one, JOINED or by now complete, started to write its target. -/
def slotsFrom (stripes : Nat) : List (Nat × Nat × Nat × Nat) → List Slot
  | [(m, d, wm, fin)] => [⟨true, m, wm, fin, false, 0, [], d, fin, stripes⟩]
  | [(m, d, wm, fin), (m', d', wm', fin')] =>
    let j := min fin fin'
    let one := fun (m d wm fin other : Nat) =>
      let joined := decide (fin = stripes) && decide (other < stripes)
      (⟨true, m, wm, fin, joined, if joined then j else 0, [], d, 0, 0⟩ : Slot)
    [one m d wm fin fin', one m' d' wm' fin' fin]
  | _ => []

/-- Rebuilds go on from their watermarks (R124, R127); in a RESYNCING array their slots wait (R126). A target without a watermark waits to
be assigned. -/
def placeTargets (a : Nat) (e : Evid) (targets : List (Nat × Nat)) (s : State) : State :=
  let known := targets.filterMap fun p => (targetProgress a p.1 e).map fun w => (p.1, p.2, w.1, w.2)
  let xs := slotsFrom (s.arr a).stripes known
  let s := s.modArr a fun r => { r with
    rb0 := xs.getD 0 Slot.idle, rb1 := xs.getD 1 Slot.idle,
    waiting := r.waiting ++ targets.filter fun p => ¬ known.any fun k => k.1 = p.1 }
  let s := s.each ((List.range xs.length).zip xs) fun s x =>
    progressDue 0 a x.2.target (s.event 0x0300 (srcArr a) ([x.1, x.2.target] ++ leBytes 8 x.2.wm))
  statusBits a s

/-- A copyback goes on, or ends where its destination is not there. -/
def placeCopyback (a : Nat) (e : Evid) (s : State) : State :=
  let x := e.entry
  if 1 < e.level ∨ x.cbDest = 0xFF then s else
  match resumeWm (progressLast e.recs 1 a x.cbSrc) (some x.cb) with
  | none => s
  | some wm =>
    let s := s.modArr a fun r => { r with cb := some ⟨x.cbSrc, x.cbDest, wm, x.cbCause⟩ }
    if (driveAt s x.cbDest).isNone ∨ missing s a x.cbSrc then endCopyback a 1 s else s

/-- The state of Table 3.9 that assembly gives: FAILED and the OFFLINE states of REASON HOST and RESYNC_CRIT stay. -/
def placeState (a : Nat) (e : Evid) (alt : Bool) (s : State) : State :=
  let was := e.entry.state % 8
  let why := e.entry.state / 8
  let needs := (s.arr a).rs.isSome
  let two := decide (missCount s a = 2)
  let s := statusBits a s
  if 3 ≤ missCount s a ∨ was = aFailed then
    let s := setArr a aFailed 4 s
    if was = aFailed then s else s.event 0xC202 (srcArr a) (leBytes 4 (s.rd (R.STR_An_MISSMAP_MISS a)))
  else if (needs ∧ two) ∨ (was = aOffline ∧ why = 2) then setArr a aOffline 2 s
  else if alt ∨ (was = aOffline ∧ why = 1) then setArr a aOffline 1 s
  else setArr a (stateFor s a) 0 s

/-- Members that were present and are not found: recorded, and a target is sought where the array serves (R76, R71). -/
def placeLosses (a : Nat) (lost : List Nat) (s : State) : State :=
  s.each lost fun s m =>
    let d := memDrv s a m
    let s := s.event 0x8201 (srcArr a) [m, d / 2, d % 2, 0]
    if arrServes s a ∧ ¬ hasTarget s a m ∧ arrState s a ≠ aResyncing then arrUpdate a (seekTarget a m s) else s

/-- Assemble array `a` with an ARRAY_ID. `alt` is the ALT rule of DAWN_S15. -/
def assembleArray (a id : Nat) (alt : Bool) (s : State) : State :=
  let ls := labelsOf s id
  match newestLabel ls with
  | none => labelFail a id s
  | some l =>
    let found := membersFound s l ls
    if ¬ labelFits s a l ∨ ¬ found.all (fun p => labelsAgree p.2.2 l) ∨ labelStrange s a l then labelFail a id s else
    let e := evidFor s a id ((found.filter fun p => ¬ bit l.missing p.1).map (·.2.1))
    let em := if e.level ≤ 1 ∨ (e.tail.map (·.labelSeq)) = some l.seq then e.entry.miss else 0
    let miss := (List.range l.members).filter fun k => bit l.missing k || bit em k || ¬ found.any fun p => p.1 = k
    let s := placeSpares a found (placeArray a l found miss s)
    let s := if e.entry.arrayId = id then mapUnion a e.entry.lost s else s
    let pt := (((progressLast e.recs 3 a 0).map (·.1)).getD e.entry.pt)
    let gen := (e.tail.map (·.regionGen)).getD 0
    let ev := (List.range 16).map fun i => if i = a then e.level else s.dwn.evidence.getD i 0
    let tl := (List.range 16).map fun i => if i = a then e.tail else s.dwn.tails.getD i none
    let s := { s with dwn.evidence := ev, dwn.tails := tl }
    let s := s.modArr a fun r => { r with pt := pt, regionGen := gen, rs := resyncFor a e }
    let targets := (found.filter fun p => bit l.missing p.1 && p.2.2.seq = l.seq).map fun p => (p.1, p.2.1)
    let s := placeCopyback a e (placeTargets a e targets s)
    let s := entryKeep a (placeState a e alt s)
    let s := s.each found fun s p => resvJoinGo p.2.1 s
    soloDerive a (placeLosses a (miss.filter fun k => ¬ bit l.missing k && ¬ bit em k) s)

/-- Rows 3 and 4 of Table 3.10 for the drives of array `a` in the active set. -/
def createListed (s : State) (a : Nat) : Bool :=
  let all := (listed s s).map (·.1)
  (namedDrvs s a).any (fun d => 1 < all.count d) || decide (32 < all.length + (keptSpares s s).length)

/-- Create array `a`, or clear its EN where a drive is missing or fails rows 3 to 7 of Table 3.10 (R419). -/
def createOrNot (a : Nat) (alt : Bool) (s : State) : State :=
  let bad := createListed s a || (List.range (memN s a)).any fun k =>
    (newDrive s (memDrv s a k) (s.rd (R.STR_An_GEOM_META a)) (some (strB s a)) 0).isSome
  if bad then
    let s := (s.wrSet (R.STR_An_GEOM_EN a) 0).raise R.STR_INT_DEV_CREATE_FAIL
    s.event 0x4200 (srcArr a) ([7, 7, 0] ++ leBytes 4 0)
  else
    let s := createArray a s
    if alt then setArr a aOffline 1 s else s

/-- Every enabled array is assembled or created. -/
def assembleAll (alt : Bool) (s : State) : State :=
  let s := s.each ((List.range 16).filter (arrOn s)) fun s a =>
    let s := if (namedDrvs s a).any fun d => ((driveAt s d).map labelDamaged).getD false then labelErr s else s
    match arrayIdFor s a with
    | some id => assembleArray a id alt s
    | none => createOrNot a alt s
  s.wr R.GON_STATUS_EVIDENCE (((List.range 16).filter (arrOn s)).foldl (fun m a => max m (s.dwn.evidence.getD a 0)) 0)

end Sys2Proof.Machine
end

