-- ==== Sys2Proof/Machine/Replay.lean ====
section
/-! DEFINITION. DAWN_S15 to DAWN_S17 (R87, R96, R105, R106, R209, R218, R219, R366, R419): the rows of assembly, replay and
repair, and the opening of service; arrays that come back into service. -/

namespace Sys2Proof.Machine

/-! ### Persistent state (R82, R104, R328) -/

/-- The tail copies that serve as evidence. -/
def evidTails (s : State) : List Tail := s.dwn.tails.filterMap id

/-- Some array's evidence is not the device's own Gondola. -/
def foreignEvid (s : State) : Bool := ¬ s.on R.GON_STATUS_MRAM_OK || s.dwn.evidence.any fun l => 0 < l

/-- The persistent state that the evidence carries, where the device's own is gone or empty. -/
def evidPersist (s : State) : Option Persist :=
  if ¬ foreignEvid s ∨ (s.on R.GON_STATUS_MRAM_OK ∧ ¬ s.nv.nsTable.isEmpty) then none
  else match journalVault s with
    | some v => some v.pers
    | none => ((evidTails s).foldl (fun (b : Option Tail) t => match b with
        | some y => if y.ckpt < t.ckpt then some t else some y
        | none => some t) none).map (·.pers)

/-- The namespace table and the progress entries come into force. -/
def persistLoad (s : State) : State :=
  let s := match evidPersist s with
    | some p => { s with nv.nsTable := p.nsTable, nv.progs := p.progs }
    | none => s
  { s with ns := s.nv.nsTable.filter fun n => arrOn s n.array }

/-! ### Replay (R105) -/

/-- The records that DAWN_S16 replays: of each array from its own evidence, ascending. -/
def replayRecs (s : State) : List Rec :=
  let lvl := fun r : Rec => match r.body with
    | .stripe a .. => s.dwn.evidence.getD a 0
    | .basket a .. => s.dwn.evidence.getD a 0
    | .done a .. => s.dwn.evidence.getD a 0
    | _ => 9
  let own := if s.on R.GON_STATUS_MRAM_OK ∧ ¬ s.dwn.jrnBad then (ringScan s.nv.ring).filter fun r => decide ((rootNow s).reclaim ≤ r.seq) else []
  let dump := match journalVault s with
    | some v =>
      let root := if v.pers.root.ok then v.pers.root.reclaim else 0
      (ringScan v.ring).filter fun r => decide (root ≤ r.seq)
    | none => []
  let tails := (evidTails s).flatMap fun t => if t.clean then [] else t.recs.filter fun r => recOfArray t.array r
  let all := (if s.on R.GON_STATUS_CLEAN_START then [] else own.filter fun r => lvl r = 0) ++
    (if endsClean dump then [] else dump.filter fun r => lvl r = 1) ++ tails
  (dropCarried all).foldl (fun l r => insRec r l) []

/-- The UPTO_SEQ of the newest SEAL in the evidence. -/
def replaySeal (s : State) : Nat :=
  let own := if s.on R.GON_STATUS_MRAM_OK ∧ ¬ s.dwn.jrnBad then s.jrn.sealUpto else 0
  let dump := match journalVault s with
    | some v => if foreignEvid s then (sealOf (ringScan v.ring)).1 else 0
    | none => 0
  (evidTails s).foldl (fun m t => max m (sealOf t.recs).1) (max own dump)

/-- The highest SEQ that the evidence holds. -/
def replayHigh (s : State) : Nat :=
  let dump := match journalVault s with
    | some v => if foreignEvid s then seqAfter (ringScan v.ring) else 0
    | none => 0
  (evidTails s).foldl (fun m t => max m (max (t.upto + 1) (seqAfter t.recs))) (max s.jrn.nextSeq dump)

/-- The base of the index as of the newest SEAL: entries that reflect an INTENT above it go. -/
def replayBase (upto : Nat) (s : State) : State :=
  { s with jrn.opens := [], bsk.extents := s.bsk.extents.filter fun e => decide (e.seq ≤ upto) }

/-- One record of the replay. -/
def replayRec (upto : Nat) (s : State) (r : Rec) : State :=
  match r.body with
  | .stripe .. =>
    let saved := s.bsk.saved.map fun (x : Saved) => if r.carried ∧ x.owner = r.origSeq then { x with owner := r.seq } else x
    { s with jrn.opens := s.jrn.opens ++ [r], bsk.saved := saved }
  | .basket a ns n slba addr crc companion =>
    if r.seq ≤ upto then s
    else (mirrorExtent r a ns n slba addr crc companion s).incSat R.GON_REPLAY2_REINSERTED (b2n (¬ companion))
  | .done _ status q _ => mirrorDoneRec status q r.seq s
  | _ => s

/-! ### Checks and marks -/

/-- Stripes marked lost in every array. -/
def lostTotal (s : State) : Nat := ((List.range 16).map fun a => (s.arr a).lost.length).sum

/-- The DCRC check of the extents of array `a` above `upto`: a mismatch marks their stripes lost. -/
def extentsCheck (a upto cause : Nat) (s : State) : State :=
  s.each (s.bsk.extents.filter fun e => e.array = a && ¬ e.companion && decide (upto < e.seq)) fun s e =>
    if extentOk s e then s else extentLost cause e s

/-- The regions of each array whose stripes were marked: a record names the first and how many. -/
def regionsRecord (s : State) : State :=
  s.each ((s.nv.dirtyMap.map (·.1)).eraseDups) fun s a =>
    let rs := (s.nv.dirtyMap.filter fun p => p.1 = a).map (·.2)
    s.event 0x8205 (srcArr a) (leBytes 4 (rs.foldl min (rs.headD 0)) ++ leBytes 4 rs.length)

/-- The Basket is neither retained nor restorable, and regions are marked (Table 8.8). -/
def regionsLossNow (s : State) : State :=
  let s := regionsRecord (regionsLost 4 s)
  (s.raise R.BAL_INT_STATUS_RESTORE_LOSS).event 0xC503 0 (5 :: leBytes 4 0)

/-- What a DISCARD gave up (R219), or the rows of Table 8.8 without contents. -/
def basketLosses (s : State) : State :=
  match s.dwn.discard with
  | some (true, idx) =>
    let s := { s with dwn.discard := none }
    s.each (idx.filter fun e => ¬ e.companion) fun s e => s.each (extentStripes s e) fun s st => loseStripe e.array st 2 s
  | some (false, _) => regionsLossNow { s with dwn.discard := none }
  | none =>
    if s.on R.BSK_STATUS_RETAINED ∨ s.dwn.restored ∨ s.nv.dirtyMap.isEmpty ∨ s.on R.GON_STATUS_CLEAN_START then s else regionsLossNow s

/-- The repairs of an array's open stripe INTENTs. -/
def repairsOf (a : Nat) (s : State) : State :=
  s.each (s.jrn.opens.filter fun r => match r.body with
    | .stripe x .. => x = a
    | _ => false) fun s r => repairIntent r s

/-- As ALT of DAWN_S16: an array with open stripe INTENTs resynchronises in full instead, and they are dropped. -/
def repairAlt (a : Nat) (s : State) : State :=
  let mine := s.jrn.opens.filterMap fun r => match r.body with
    | .stripe x st .. => if x = a then some (r.seq, st) else none
    | _ => none
  if mine.isEmpty ∨ ¬ arrServes s a then s else
  let s := s.each mine fun s p => releaseSaved p.1 (closeStripe a p.2 p.1 2 s)
  let s := s.modArr a fun r => { r with rs := some ⟨0, 0, [], [], 0⟩ }
  if missCount s a = 2 then setArr a aOffline 2 s
  else if arrState s a = aResyncing then resyncStarts a s else setArr a (stateFor s a) 0 s

/-- Open INTENTs of arrays that do not serve stay; one that is not in the ring is carried into it. -/
def opensKeep (s : State) : State :=
  s.each (s.jrn.opens.filter fun r => ((SMap.get none (r.seq % ringSlots) s.nv.ring).map (·.seq)) ≠ some r.seq) fun s r => carryRec r s

/-- The state that an OFFLINE array comes back to (Table 3.9): with two members missing and a resynchronisation unfinished it stays
OFFLINE with REASON RESYNC_CRIT; with three missing it is FAILED. -/
def stateBack (a : Nat) (s : State) : State :=
  if 3 ≤ missCount s a then failArray a s
  else if missCount s a = 2 ∧ (s.arr a).rs.isSome then setArr a aOffline 2 s
  else setArr a (stateFor s a) 0 s

/-- An array comes back into service: its kept checks and repairs run first (R105, Table 4.12). -/
def arrayBack (a : Nat) (s : State) : State :=
  let s := stateBack a s
  if arrServes s a then repairsOf a (extentsCheck a 0 1 s) else s

/-- DAWN_S16 of a unit that serves. -/
def replayAll (s : State) : State :=
  let before := lostTotal s
  let upto := replaySeal s
  let rs := replayRecs s
  let s := replayBase upto { s with jrn.nextSeq := replayHigh s, jrn.sealUpto := upto }
  let s := rs.foldl (replayRec upto) s
  let s := basketLosses s
  let on := (List.range 16).filter (arrServes s)
  let part := s.dwn.restored
  let s := s.each on fun s a => extentsCheck a (if part then 0 else upto) (if part then 4 else 1) s
  let s := s.each on fun s a => if altOn s 16 then repairAlt a s else repairsOf a s
  let n := lostTotal s - before
  let s := s.wr R.GON_REPLAY1_LOST (min n 65535)
  let s := if 0 < n then s.raise R.GON_INT_STATUS_REPLAY_LOSS else s
  rootWrite false 0 (sealNow (opensKeep s))

/-- REPLAY_REPAIR. It waits for a restore that is asked for; a unit that stands by or apart has nothing to repair. -/
def doReplayRepair (s : State) : State :=
  if ¬ stepOn s 16 ∨ s.dwn.needsRestore then s else
  let s := persistLoad s
  stepPass 16 (if journals s then replayAll s else s)

/-! ### DAWN_S15 -/

/-- Arrays that were OFFLINE with REASON HOST at the commit of NIGHT come online (R366). -/
def wakeOnline (s : State) : State :=
  let l := s.pwr.offArrays
  let s := { s with pwr.offArrays := [] }
  s.each l fun s a => if arrState s a = aOffline ∧ s.rd (R.STR_An_STATUS_REASON a) = 1 then arrayBack a s else s

/-- A device without a record of its own asks for the restore of a dump that names one of its arrays (R216). -/
def restoreLate (s : State) : State :=
  if s.dwn.restored ∨ (s.on R.GON_STATUS_MRAM_OK ∧ ¬ foreignEvid s) then s else restoreAsk s

/-- ARRAY_ASSEMBLY: the wait for the drives has ended. After a wake the arrays are reassembled in the same way (R366). -/
def doArrayAssembly (s : State) : State :=
  if s.pwr.reassemble ∧ s.dwn.step = 18 ∧ ¬ s.safe then
    wakeOnline (assembleAll false { s with pwr.reassemble := false, dwn.evidence := List.replicate 16 0, dwn.tails := List.replicate 16 none })
  else if ¬ stepOn s 15 ∨ (s.dwn.needsRestore ∧ s.on R.GON_STATUS_MRAM_OK) then s else
  let first := s.dwn.redo.isEmpty
  let s := { s with dwn.evidence := List.replicate 16 0, dwn.tails := List.replicate 16 none }
  let s := assembleAll (altOn s 15) s
  stepPass 15 (if first then restoreLate s else wakeOnline s)

/-! ### DAWN_S17 -/

/-- Controllers that are enabled become ready. -/
def ctrlsReady (s : State) : State := { s with ce.ctrls := s.ce.ctrls.map fun (c : Ctrl) => if c.en then { c with rdy := true } else c }

/-- Service opens: the Ballast is armed, the table is in force, commands are taken. -/
def openService (s : State) : State :=
  let s := balArm s
  let s := if s.pwr.shutdownDone then s else s.wr R.GLB_STATUS_READY 1
  let s := saniRegs (wtUpdate (ctrlsReady s))
  let s := (s.wr R.DWN_TIME_S17_100MS (s.freeNat 16)).useFree
  let s := (measChanged s).raise R.DWN_INT_STATUS_DAWN_DONE
  s.event 0x0104 0 (leBytes 4 (s.rd R.DWN_TIME_S11_MS + 2 ^ 16 * s.rd R.DWN_TIME_S17_100MS))

/-- SERVICE_OPEN: after more than three failed starts, the safe state. -/
def doServiceOpen (s : State) : State :=
  if ¬ stepOn s 17 then s
  else if 3 < fails s 17 then enterSafe 17 (detailOf 0 eInternal) s
  else if s.dwn.redo.isEmpty then stepPass 17 (openService s)
  else stepPass 17 (wtUpdate (balArm s))

def execReplayRepair (s : State) : Out := live s (doReplayRepair s)
def execArrayAssembly (s : State) : Out := live s (doArrayAssembly s)
def execServiceOpen (s : State) : Out := live s (doServiceOpen s)

end Sys2Proof.Machine
end

