-- ==== Sys2Proof/Machine/Power.lean ====
section
/-! DEFINITION. Power states, resets and the thermal rows (spec/15_power_clocks_resets.md): power, RST_N, watchdog, DUSK, NIGHT
from its request to the end of exit, SHUTDOWN. -/

namespace Sys2Proof.Machine

/-! ### Power and resets (R371, R372, R399) -/

/-- The machine without power: what survives is Gondola, flash, fuses and what is attached. -/
def unpowered (s : State) : State :=
  let s := drivesQuiet 0 (looseWrites (dumpCut (writesCut (splCut s))))
  { State.reset with
    pending := s.pending, out := s.out, freeCtr := s.freeCtr, nv := s.nv, ext := s.ext,
    pwr := { Pwr.reset with rstHeld := s.pwr.rstHeld, powered := false } }

/-- POWER_LOSS. -/
def doPowerLoss (s : State) : State := if s.pwr.powered then unpowered s else s

/-- POWER_ON: everything including AON is reset; the straps give the SMBus address. -/
def doPowerOn (straps : Nat) (s : State) : State :=
  let s := doPowerLoss s
  let s := { s with pwr.powered := true, ext.straps := straps, nv.marker := s.nv.marker + 1 }
  (envWalk s).wr R.GLB_SMBUS_ADDR (0x58 + straps % 8)

/-- WAKE_SRC and WAKES of a wake. -/
def wakeCount (src : Nat) (s : State) : State :=
  (((s.wr R.PWR_WAKE_SRC_SRC src).incSat R.PWR_WAKE_SRC_WAKES).wr R.PWR_RET_STATUS_VALID 1)

/-- RST_N: asserted it resets everything but AON, after a dump that runs; in NIGHT it is a wake without a source first. -/
def doRstN (asserted : Bool) (s : State) : State :=
  if asserted then
    if ¬ s.pwr.powered then { s with pwr.rstHeld := true }
    else if s.pwr.rstHeld then s
    else resetAsk 5 (if s.pwr.inNight then wakeCount 0 s else s)
  else { s with pwr.rstHeld := false, pwr.pendingRst := s.pwr.pendingRst - (s.pwr.pendingRst &&& 4) }

/-- WATCHDOG. -/
def doWatchdog (s : State) : State := resetAsk 8 s

/-- RESTART: only in the safe state (R321). -/
def doRestart (s : State) : State :=
  if s.safe then resetDevice R.PWR_RESET_CAUSE_RESTART s else s.wr R.DWN_STATUS_LAST_ERR eState

/-- CLEAR_FAILS (R320). -/
def doClearFails (s : State) : State := { s with nv.clearFails := true }

/-- Tj as measured: PWR_THERM. Both fields are signed 8-bit numbers; a Tj of this row is not negative. -/
def thermRegs (tj : Nat) (s : State) : State :=
  let m := s.rd R.PWR_THERM_TJ_MAX
  (s.wr R.PWR_THERM_TJ tj).wr R.PWR_THERM_TJ_MAX (if 128 ≤ m ∨ m < tj then tj else m)

/-- The pin THERM_TRIP_N in the outputs. -/
def pinTherm : Nat := 0

/-- THERM_TRIP: at 110 °C the device stops and is held in reset; a dump that runs ends first. -/
def doThermTrip (tj : Nat) (s : State) : State :=
  if tj < 110 ∨ ¬ s.pwr.powered ∨ s.pwr.tripHeld then s
  else resetAsk 2 (((thermRegs tj s).incSat R.PWR_THERM_TRIPS).emit (.pin pinTherm false))

/-- THERM_TRIP_RELEASE. -/
def doThermTripRelease (s : State) : State :=
  if s.pwr.tripHeld then { s with pwr.tripHeld := false }.emit (.pin pinTherm true) else s

/-- THERM_WARN: at 100 °C. -/
def doThermWarn (tj : Nat) (s : State) : State :=
  if tj < 100 then s else (thermRegs tj s).raise R.PWR_INT_STATUS_THERM_WARN

/-! ### DUSK (R359) -/

/-- Order 10 of a boundary: an epoch counts as idle where the engine ran no job, none queued and none retired, and few commands
completed. -/
def duskCount (s : State) : State :=
  let n := ((List.range 4).map fun j => s.rd (R.STR_ENG_CNTj_INPUT_4K j)).sum
  let idle := s.ce.jobs.isEmpty && s.ce.jobWait.isEmpty && n = s.pwr.engMark && decide (s.ce.cmdsEpoch < s.rd R.PWR_CFG_DUSK_CMDS)
  { s with pwr.idleEpochs := if idle then s.pwr.idleEpochs + 1 else 0, pwr.engMark := n }

/-- DUSK_ENTER. -/
def doDuskEnter (s : State) : State :=
  if s.ready ∧ s.rd R.PWR_STATUS_STATE = 0 ∧ s.on R.PWR_CFG_DUSK_EN ∧ s.rd R.PWR_CFG_DUSK_IDLE ≤ s.pwr.idleEpochs then
    (s.wr R.PWR_STATUS_STATE 1).raise R.PWR_INT_STATUS_DUSK_ENTER
  else s

/-- DUSK_EXIT: the device may leave DUSK at any time. -/
def doDuskExit (s : State) : State :=
  if s.rd R.PWR_STATUS_STATE = 1 then
    ({ s with pwr.idleEpochs := 0 }.wr R.PWR_STATUS_STATE 0).raise R.PWR_INT_STATUS_DUSK_EXIT
  else s

/-! ### NIGHT requests (R360) -/

/-- The enabled wake sources, PWR_WAKE_EN layout. -/
def wakeEn (s : State) : Nat :=
  s.rd R.PWR_WAKE_EN_PIN + 2 * s.rd R.PWR_WAKE_EN_STRING + 4 * s.rd R.PWR_WAKE_EN_ALARM + 8 * s.rd R.PWR_WAKE_EN_SMBUS

/-- Some alarm wakes. -/
def alarmWakes (s : State) : Bool := (List.range 8).any fun n => s.on (R.TET_ALARMn_CTRL_EN n) && s.on (R.TET_ALARMn_CTRL_T_WAKE n)

/-- An array is open (R360). -/
def arrOpen (s : State) (a : Nat) : Bool := arrOn s a && ¬ offHost s a && arrState s a ≠ aFailed

/-- A firmware activation, Format or Sanitize is in progress. -/
def adminRuns (s : State) : Bool :=
  s.ce.commit.isSome || ¬ s.ce.fwWrites.isEmpty || s.rd R.HPT_CE_ACT_PHASE ≠ 0 || ¬ s.ce.formats.isEmpty || s.nv.sani.isSome

/-- A LAUNCH is pending, or a PERSIST or IMAGE_WRITE runs. -/
def changeRuns (s : State) : Bool := s.dwn.launch.isSome || s.dwn.flashOp.isSome

/-- The conditions of Table 15.2 below the first, in order. -/
def nightBad (s : State) : Option Nat :=
  if ¬ s.ready ∨ s.safe then some eState
  else if wakeEn s = 0 ∨ (wakeEn s = 4 ∧ ¬ alarmWakes s) then some eState
  else if (List.range 16).any (arrOpen s) then some eState
  else if s.pairState ≠ 0 ∧ s.pairState ≠ 7 then some eState
  else if adminRuns s then some eState
  else if 2 ≤ s.rd R.BAL_STATUS_STATE then some eState
  else if (List.range 64).any (fun c => s.chState c = chRunning || s.chState c = chQueued) then some eState
  else if changeRuns s then some eBusy
  else none

/-- Table 15.2. -/
def nightCheck (s : State) : Option Nat := if s.pwr.nightReq.isSome then some eBusy else nightBad s

/-- A request is accepted: the wake latch is armed and preparation starts. -/
def nightAccept (h : MbxHdr) (s : State) : State :=
  let s := { s with pwr.nightReq := some h, pwr.latch := 0, pwr.prepDone := false }
  (s.wr R.PWR_STATUS_STATE 2).wr R.PWR_STATUS_PREP_STEP 1

/-- PWR_CTRL_NIGHT. -/
def doPwrCtrlNight (s : State) : State :=
  match nightCheck s with
  | some c => s.wr R.PWR_STATUS_LAST_ERR c
  | none => nightAccept noHdr s

/-- NIGHT of the mailbox. -/
def nightGo (h : MbxHdr) (s : State) : State :=
  match nightCheck s with
  | some c => mbxErr h opNight c (s.wr R.PWR_STATUS_LAST_ERR c)
  | none => nightAccept h s

/-- The code of SHUTDOWN. -/
def opShutdown : Nat := 0x0004

/-- SHUTDOWN (R420). -/
def shutdownGo (h : MbxHdr) (s : State) : State :=
  if ¬ s.ready ∨ s.safe then mbxErr h opShutdown eState s
  else if s.pwr.shutdownDone then mbxOk h opShutdown s
  else if s.pwr.shutdownReq.isSome ∨ s.pwr.nightReq.isSome then mbxErr h opShutdown eBusy s
  else { s with pwr.shutdownReq := some h, pwr.shutStep := 1 }

/-! ### Preparation (R361) and SHUTDOWN's steps (R420) -/

/-- An array whose entries cannot be destaged (R420). -/
def stuck (s : State) (a : Nat) : Bool :=
  arrOn s a && arrState s a = aOffline && [2, 3, 5].contains (s.rd (R.STR_An_STATUS_REASON a))

/-- The array of an open stripe INTENT. -/
def openArr (r : Rec) : Nat :=
  match r.body with
  | .stripe a .. => a
  | _ => 16

/-- Open INTENTs of arrays OFFLINE with REASON HOST that no operation owns are repaired. -/
def hostRepairs (s : State) : State :=
  s.each (s.jrn.opens.filter fun r => offHost s (openArr r) && ¬ s.ce.sops.any fun o => o.seq = r.seq) fun s r => repairGo r s

/-- Nothing of the arrays is left to destage, but for those that cannot be. -/
def destaged (s : State) : Bool :=
  (s.bsk.extents.all fun e => stuck s e.array) && (s.jrn.opens.all fun r => stuck s (openArr r)) && s.ce.sops.isEmpty

/-- Entries or INTENTs remain. -/
def leftOver (s : State) : Bool := ¬ s.bsk.extents.isEmpty || ¬ s.bsk.saved.isEmpty || ¬ s.jrn.opens.isEmpty

/-- The closing records: tail copies, CHECKPOINT CLEAN and the root with CLEAN_STOP, or a SEAL and a root without. -/
def closing (s : State) : State :=
  if ¬ journals s then rootStamp s else
  let left := leftOver s
  let s := s.each ((List.range 16).filter (arrOn s)) fun s a => tailNow a (¬ stuck s a) s
  if left then rootWrite false 0 (sealNow s)
  else
    let q := s.jrn.nextSeq
    rootWrite true q (record (.ckpt 2 (q - 1) 0 (maskOf ((List.range 16).filter fun a => arrOn s a && ¬ stuck s a)) 0) s)

/-- The Envelope is clean, its eviction buffer and the Skirt are empty (R193). -/
def envQuiet (s : State) : State :=
  { envClean (fun _ => true) s with env.evb := [], env.skirt := [], env.evbQ := [], env.allocQ := [] }

/-- Drives and vault drives that are there. -/
def subports (s : State) : List Nat :=
  s.ext.drives.map (·.1) ++ s.ext.coming.map (·.drv) ++ (List.range 2).filterMap fun n =>
    if ((s.ext.vaults[n]?).map (·.present)).getD false then some (64 + n) else none

/-- One step of a stop is done: whether it has ended, and the state after what it does. -/
def stopStep (k : Nat) (s : State) : Bool × State :=
  match k with
  | 1 =>
    let s := hostRepairs s
    (s.ce.ctxs.isEmpty && destaged s, s)
  | 2 => (true, envQuiet s)
  | 3 => (true, strLeave s.pwr.nightReq.isSome (closing s))
  | 4 => (s.str.bypassClosed || strState s = sBypassed || strState s = sRefused, s)
  | 5 => (true, if dirtyPages s = 0 then balDisarm 7 s else s)
  | _ => (true, (s.each (subports s) fun s d => s.emit (.drive d 6 [1, 0])).event 0x0505 0 [])

/-- Function 0 reports that the shutdown is complete. -/
def shutdownEnd (h : MbxHdr) (s : State) : State :=
  let s := { s with pwr.shutdownDone := true, pwr.shutdownReq := none, pwr.shutStep := 0 }
  mbxOk h opShutdown { s with ce.ctrls := s.ce.ctrls.map fun (c : Ctrl) => if c.fabric then c else { c with shst := 2 } }

/-- NIGHT_PREPARATION_STEP: the step in progress ends where it can; a preparation that a condition of Table 15.2 has met aborts. -/
def doNightPreparationStep (s : State) : State :=
  match s.pwr.nightReq, s.pwr.shutdownReq with
  | some _, _ =>
    let k := s.rd R.PWR_STATUS_PREP_STEP
    if s.rd R.PWR_STATUS_STATE ≠ 2 ∨ s.pwr.prepDone then s else
    if (nightBad s).isSome then nightAbortNow s else
    let r := stopStep k s
    if ¬ r.1 then r.2
    else if k = 6 then { r.2 with pwr.prepDone := true }
    else r.2.wr R.PWR_STATUS_PREP_STEP (k + 1)
  | none, some h =>
    let r := stopStep s.pwr.shutStep s
    if ¬ r.1 then r.2
    else if s.pwr.shutStep = 5 then shutdownEnd h r.2
    else { r.2 with pwr.shutStep := s.pwr.shutStep + 1 }
  | none, none => s

/-- NIGHT_ABORT: cause 0 a condition of Table 15.2, 1 a member that went missing, 2 PFAIL_N. -/
def doNightAbort (cause : Nat) (s : State) : State :=
  if s.pwr.nightReq.isNone ∨ s.pwr.prepDone then s
  else if cause = 0 ∧ nightBad s = none then s
  else nightAbortNow s

/-! ### Entry (R362) -/

/-- The links that go down in NIGHT: host links as by a link down (R226), fabric, Spar; drives and vault ports go dark. -/
def linksDown (s : State) : State :=
  let s := s.each (List.range 4) fun s l =>
    if ((s.links[l]?).map (·.up)).getD false then doHostLinkReset l .linkDown s else s
  let s := s.each (List.range 4) fun s p => s.each (List.range 4) fun s sub =>
    if bit (s.rd (R.FAB_Pp_LINK_UP p)) sub then doFabricLinkEvent p sub .down s else s
  s.each (subports s) (fun s d => drvDark d s) |> doSparLinkDown

/-- NIGHT_COMMIT: preparation has ended and its record is written; entry runs. From here nothing is served. -/
def doNightCommit (s : State) : State :=
  if ¬ s.pwr.prepDone ∨ ¬ s.wsk.queue.isEmpty ∨ s.wsk.staged.isSome then s else
  let off := if s.on R.PWR_CFG_ONLINE_ON_WAKE then (List.range 16).filter (offHost s) else []
  let h := s.pwr.nightReq.getD noHdr
  let run := (takeFirst (fun (r : MbxRun) => r.h = h && r.opcode = opNight) s.mbx.run).map (·.2) |>.getD s.mbx.run
  let s := linksDown { s with mbx.run := run }
  let dis := decide (2 ≤ s.rd R.TET_STATUS_STATE)
  let s := { s with pwr.inNight := true, pwr.nightReq := none, pwr.prepDone := false, pwr.offArrays := off,
                    tet.entryWasDisciplined := dis, nv.marker := s.nv.marker + 1, bsk.selfRefresh := true }
  (s.wr R.PWR_STATUS_STATE 3).wr R.PWR_STATUS_PREP_STEP 0

/-- A wake is recognised: exit runs. -/
def wakeStart (s : State) : State :=
  let s := wakeCount s.pwr.latch s
  { s with pwr.latch := 0 }.wr R.PWR_STATUS_STATE 5

/-- NIGHT_ENTRY_COMPLETE: NIGHT, and exit at once where the latch holds an event. -/
def doNightEntryComplete (us : Nat) (s : State) : State :=
  if s.rd R.PWR_STATUS_STATE ≠ 3 ∨ ¬ s.pwr.inNight then s else
  let s := (s.wr R.PWR_TIMES_ENTRY_US (min us 65535)).wr R.PWR_STATUS_STATE 4
  if s.pwr.latch ≠ 0 then wakeStart s else s

/-- WAKE_EVENT of a source (0 PIN, 1 STRING, 2 ALARM, 3 SMBUS): latched from the acceptance of the request on; in NIGHT it
starts the exit. -/
def doWakeEvent (src : Nat) (s : State) : State :=
  if ¬ s.pwr.powered ∨ 4 ≤ src ∨ ¬ bit (wakeEn s) src then s
  else if s.pwr.nightReq.isSome ∨ (s.pwr.inNight ∧ s.rd R.PWR_STATUS_STATE = 3) then
    { s with pwr.latch := s.pwr.latch ||| 2 ^ src }
  else if s.pwr.inNight ∧ s.rd R.PWR_STATUS_STATE = 4 then wakeStart { s with pwr.latch := 2 ^ src }
  else s

/-! ### Exit (R365 to R368) -/

/-- The Dawn step that a failed bank restarts (Table 15.6); 31 for the Envelope's banks. -/
def retStep (b : Nat) : Nat :=
  match b with
  | 0 => 5 | 1 => 5 | 2 => 9 | 3 => 14 | 4 => 15 | 5 => 7 | 6 => 6 | 7 => 11 | 8 => 11 | 9 => 11 | 10 => 17 | 11 => 13 | 12 => 12
  | 13 => 1 | 14 => 7 | _ => if 20 ≤ b then 7 else 31

/-- The failed banks of a mask. -/
def retBanks (m : Nat) : List Nat := (List.range 24).filter (bit m)

/-- The steps that they name, in step order. -/
def retSteps (m : Nat) : List Nat := (List.range 18).filter fun k => (retBanks m).any fun b => retStep b = k

/-- PWR_RET_STATUS, a record per failed bank with both signatures, and PWR_RET_FAIL. -/
def retFail (m : Nat) (s : State) : State :=
  let s := s.wr R.PWR_RET_STATUS_FAILED m
  let s := s.each (retBanks m) fun s b =>
    let a := s.freeNat 32
    let s := s.useFree
    (s.event 0x8504 (srcBank b) (leBytes 4 a ++ leBytes 4 (s.freeNat 32))).useFree
  if m % 2 ^ 24 = 0 then s else s.raise R.PWR_INT_STATUS_RET_FAIL

/-- The whole device runs Dawn from a step, as for a reset with power held. -/
def retRestart (k m : Nat) (s : State) : State :=
  let slot := s.dwn.slot
  let e := s.tet.epoch
  let s := resetDevice R.PWR_RESET_CAUSE_RET_RESTART s
  let s := { s with dwn.slot := slot, tet.epoch := e }
  let s := { retFail m s with tet.epoch := 0 }
  stepBegin k (startBegin s)

/-- Spool's channels at their reset values. -/
def splReset (s : State) : State :=
  { s with spl.ch := List.replicate 64 SplCh.idle, spl.flight := [], regs := SMap.clear (0xA01000 * 32) (64 * 0x40 * 32) s.regs }

/-- What failed banks take with them before the steps run. -/
def retDrop (m : Nat) (s : State) : State :=
  let q := m / 2 ^ 16 % 16
  let s := s.wr R.ENV_STATUS_RET_FAIL q
  let s := if q ≠ 0 then s.raise R.ENV_INT_STATUS_RET_FAIL else s
  let s := if m / 2 ^ 15 % 32 ≠ 0 then envWalk s else s
  let s := if bit m 10 then splReset s else s
  if bit m 14 then { s with wsk.gauges := [], wsk.queue := [], wsk.blocked := [] } else s

/-- The Tether after NIGHT (Table 2.2). -/
def tetWake (s : State) : State :=
  let s := { s with tet.signals := [], tet.measuring := none, tet.awaiting := none, tet.stepWaited := false, tet.forceStep := false }
  if s.tet.entryWasDisciplined then (if s.rd R.TET_STATUS_STATE = tHold then s else tetToHold s)
  else if s.rd R.TET_STATUS_STATE = tFree then s else tetToFree s

/-- Drives and vault drives come up anew (R366). -/
def portsWake (s : State) : State :=
  let s := drivesQuiet 1 s
  s.each (List.range 2) fun s n =>
    match (s.ext.vaults[n]?).filter (·.present) with
    | some v =>
      let s := { s with ext.coming := s.ext.coming ++ [(⟨64 + n, 1, vaultDrive v⟩ : Coming)] }
      s.modVaults fun i x => if i = n then { x with present := false } else x
    | none => s

/-- NOON: what goes on, the selected steps, and what is brought up again. -/
def noon (src m : Nat) (s : State) : State :=
  let s := { s with pwr.inNight := false, bsk.selfRefresh := bit m 6 }
  let s := ((s.wr R.PWR_STATUS_STATE 0).raise R.PWR_INT_STATUS_WAKE)
  let s := (retFail m (retDrop m s)).event 0x0506 0 [src]
  let steps := retSteps m
  let s := portsWake (splWake (tetWake s))
  let s := { s with pwr.rearm := true, pwr.reassemble := ¬ steps.contains 15 }
  let s := if s.on R.STG_CFG_EN ∧ ¬ steps.contains 13 then strTrain s else s
  if steps.isEmpty then s else stepGo { s with dwn.redo := steps ++ [18] }

/-- NIGHT_EXIT_COMPLETE: the signatures of the banks in the mask differ. -/
def doNightExitComplete (us m : Nat) (s : State) : State :=
  if s.rd R.PWR_STATUS_STATE ≠ 5 ∨ ¬ s.pwr.inNight then s else
  let m := m % 2 ^ 24
  let s := s.wr R.PWR_TIMES_EXIT_US (min us 65535)
  if bit m 13 then retRestart 1 m s
  else if bit m 0 ∨ bit m 1 then retRestart 5 m s
  else noon (s.rd R.PWR_WAKE_SRC_SRC) m s

/-! ### Rows -/

def execPowerOn (beyond : Bool) (straps : Nat) (s : State) : Out :=
  if beyond then .fault .outsideRatings else fin (doPowerOn straps s)
def execPowerLoss (s : State) : Out := fin (doPowerLoss s)
def execRstN (asserted : Bool) (s : State) : Out := fin (doRstN asserted s)
def execWatchdog (s : State) : Out := live s (doWatchdog s)
def execRestart (s : State) : Out := live s (doRestart s)
def execClearFails (s : State) : Out := live s (doClearFails s)
def execThermTrip (tj : Nat) (s : State) : Out := fin (doThermTrip tj s)
def execThermTripRelease (s : State) : Out := fin (doThermTripRelease s)
def execThermWarn (tj : Nat) (s : State) : Out := live s (doThermWarn tj s)
def execDuskEnter (s : State) : Out := live s (doDuskEnter s)
def execDuskExit (s : State) : Out := live s (doDuskExit s)
def execPwrCtrlNight (s : State) : Out := live s (doPwrCtrlNight s)
def execPwrClrErr (s : State) : Out := live s (s.wr R.PWR_STATUS_LAST_ERR 0)
def execNightPreparationStep (s : State) : Out := live s (doNightPreparationStep s)
def execNightAbort (cause : Nat) (s : State) : Out := live s (doNightAbort cause s)
def execNightCommit (s : State) : Out := live s (doNightCommit s)
def execNightEntryComplete (us : Nat) (s : State) : Out := fin (doNightEntryComplete us s)
def execWakeEvent (src : Nat) (s : State) : Out := fin (doWakeEvent src s)
def execNightExitComplete (us m : Nat) (s : State) : Out := fin (doNightExitComplete us m s)

end Sys2Proof.Machine
end

