-- ==== Sys2Proof/Machine/RegIO.lean ====
section
/-! DEFINITION. Register and window accesses through BAR0 and through REG_READ and REG_WRITE (R7, R8, R227, R373, R376 to R381):
what each register reads as, what a write does, which writes are rejected. -/

namespace Sys2Proof.Machine

/-! ### The map (Table 16.1) -/

/-- An offset lies in the registers of a block. -/
def inBlock (off : Nat) : Bool :=
  let b := blockOf off
  let o := off % 2 ^ 20
  if b = 2 ∨ b = 10 ∨ b = 15 then decide (o < 0x2000)
  else if b = 7 then decide (o < 0x1000) || (decide (0x8000 ≤ o) && decide (o < 0x8100))
  else if b = 17 then decide (o < 0x3000)
  else decide (b ≤ 16) && decide (o < 0x1000)

/-- The windows: 1 MBX request buffer, 2 MBX reply buffer, 3 Windsock window, 4 Envelope scratch window; 0 none. -/
def windowOf (off : Nat) : Nat :=
  if 0x1101000 ≤ off ∧ off < 0x1102000 then 1
  else if 0x1102000 ≤ off ∧ off < 0x1103000 then 2
  else if 0xF01000 ≤ off ∧ off < 0xF02000 then 3
  else if 0x2000000 ≤ off ∧ off < 0x4000000 then 4
  else 0

/-- The first offset beyond a window. -/
def windowEnd (w : Nat) : Nat := if w = 1 then 0x1102000 else if w = 2 then 0x1103000 else if w = 3 then 0xF02000 else 0x4000000

/-- An access outside the defined registers is counted (R377). -/
def unmapped (s : State) : State := s.incSat R.GLB_ERR_UNMAPPED

/-- A host port's error counter and cause for a request that it answers with Unsupported Request (R227). -/
def hostUr (link : Nat) (s : State) : State :=
  (s.incSat (R.HPT_Pn_ERR_UNCORR (link / 2))).raise (R.HPT_INT_STATUS_UNCORR (link / 2))

/-! ### What registers read as -/

/-- RSTATE of a rebuild slot (Table 5.8). -/
def slotState (s : State) (a i : Nat) : Nat :=
  let x := slotAt s a i
  let sh := sharesFor s a
  if ¬ x.act then 0
  else if (s.arr a).rs.isSome ∨ (driveAt s x.drv).isNone ∨ ¬ arrServes s a then 3
  else if ¬ shareOk sh.1 then 2 else 1

/-- Two strips of the stripe at a slot's watermark are erased. -/
def slotTwo (s : State) (a i : Nat) : Bool :=
  let x := slotAt s a i
  x.act && ((List.range (memN s a)).filter fun m => ¬ stripUp s a m x.wm).length = 2

/-- A slot's END lies below S. -/
def slotShort (s : State) (a i : Nat) : Bool :=
  let x := slotAt s a i
  x.act && decide (x.fin < (s.arr a).stripes)

/-- CSTATE of a copyback (R130). -/
def cbState (s : State) (a : Nat) : Nat :=
  let sh := sharesFor s a
  if (s.arr a).cb.isNone then 0
  else if (s.arr a).rs.isSome ∨ (slots s a).any (·.act) ∨ ¬ (s.arr a).waiting.isEmpty ∨ ¬ arrServes s a then 3
  else if ¬ shareOk sh.2.2.2.1 then 2 else 1

/-- The per-array progress registers (Tables 5.8 to 5.13): offset within the array, lowest bit. -/
def arrDerived (s : State) (a o lo : Nat) : Option Nat :=
  let r := s.arr a
  let slot := fun i => if lo = 0 then (slotAt s a i).wm / 2 ^ 32
    else if lo = 1 then (if slotShort s a i then (slotAt s a i).fin / 2 ^ 32 else 0)
    else if lo = 8 then (slotAt s a i).target
    else if lo = 13 then slotState s a i
    else if lo = 15 then b2n ((slotAt s a i).act && (slotAt s a i).joined)
    else if lo = 16 then b2n (slotTwo s a i) else b2n (slotShort s a i)
  match o with
  | 0x18 => some (s.ns.filter fun n => n.array = a).length
  | 0xC4 => some (slotAt s a 0).wm
  | 0xC8 => some (slot 0)
  | 0xCC => some (slotAt s a 1).wm
  | 0xD0 => some (slot 1)
  | 0xD4 => some (if slotShort s a 0 then (slotAt s a 0).fin else if slotShort s a 1 then (slotAt s a 1).fin else 0)
  | 0xD8 => some ((r.cb.map (·.wm)).getD 0)
  | 0xDC =>
    let c := r.cb.getD ⟨0, 0, 0, 0⟩
    some (if lo = 0 then c.wm / 2 ^ 32 else if lo = 8 then c.src else if lo = 13 then c.dest / 2 else if lo = 18 then c.dest % 2
      else if lo = 19 then cbState s a else c.cause)
  | 0xE0 => some ((r.rs.map (·.wm)).getD 0)
  | 0xE4 =>
    some (if lo = 0 then ((r.rs.map (·.wm)).getD 0) / 2 ^ 32
      else if lo = 1 then b2n (((r.rs.map (·.regionSize)).getD 0) ≠ 0) else b2n r.rs.isSome)
  | 0xE8 => some r.pt
  | 0xEC =>
    if lo = 0 then some (r.pt / 2 ^ 32)
    else if lo = 1 then some (if ¬ arrOn s a ∨ ¬ s.on (R.STR_An_POLICY_PATROL_EN a) then 0 else if patrolRuns s a then 1 else 2)
    else none
  | _ => none

/-- Contexts in a phase. -/
def waitingIn (s : State) (p : CPhase) : Nat := (s.ce.ctxs.filter fun c => c.phase = p).length

/-- Contexts that wait for a drive queue slot. -/
def waitingDrive (s : State) : Nat :=
  (s.ce.ctxs.filter fun c => c.outst.any fun i => s.ce.mcmds.any fun m => m.id = i && ¬ m.issued).length

/-- Channels in a state. -/
def channelsIn (s : State) (st : Nat) : Nat := ((List.range 64).filter fun c => s.chState c = st).length

/-- SVN of the other firmware slot's valid image. -/
def otherImage (s : State) : Option Image :=
  match slotImg s (1 - s.dwn.slot) with
  | some i => if (imageCheck s 0 i).isNone then some i else none
  | none => none

/-- The SEC registers, once the OTP has been read (DAWN_S01). -/
def secDerived (s : State) (o lo : Nat) : Option Nat :=
  if s.dwn.step < 2 then none else
  let mask := fun (f : KeySlot → Bool) => maskOf ((List.range 4).filter fun i => f (keySlot s i))
  match o with
  | 4 =>
    if lo = 0 then some (b2n s.nv.secureBoot) else if lo = 1 then some (b2n s.nv.debugLock)
    else if lo = 2 then some ((s.dwn.image.map (·.keySlot)).getD 0)
    else if lo = 4 then some (b2n (s.nv.hostKey.programmed && ¬ s.nv.hostKey.revoked))
    else if lo = 5 then some (b2n s.nv.persistMode) else none
  | 8 => some (mask (if lo = 0 then (·.programmed) else if lo = 4 then (·.damaged) else (·.revoked)))
  | 0xC =>
    some (if lo = 0 then s.nv.fwSvn else if lo = 8 then (s.dwn.image.map (·.svn)).getD 0
      else ((otherImage s).map (·.svn)).getD 255)
  | 0x10 => some s.nv.deviceId
  | 0x14 => some (s.nv.deviceId / 2 ^ 32)
  | 0x18 => some (s.nv.deviceId / 2 ^ 64)
  | 0x1C => some (s.nv.deviceId / 2 ^ 96)
  | _ => none

/-- Fields that show the machine and are not kept in the register store; `link` carries the read. -/
def derived (s : State) (link off lo : Nat) : Option Nat :=
  match off with
  | 0xC => if lo = 16 then some link else none
  | 0x20 => if lo = 0 then some (maskOf ((List.range 25).filter (srcPending s link))) else none
  | 0x24 => some (maskOf ((vecLevels s link).filter (· < 32)))
  | 0x28 => some (maskOf (((vecLevels s link).filter (32 ≤ ·)).map (· - 32)))
  | 0x100008 => some s.tet.epoch
  | 0x10000C => if lo = 0 then some (s.tet.epoch / 2 ^ 32) else none
  | 0x100010 => some (s.freeNat 16 % 64000)
  | 0x200004 => if lo = 0 then some ((List.range 16).filter (arrOn s)).length else none
  | 0x20001C => if lo = 16 then some (gfMul (s.rd R.STR_GFMUL_A) (s.rd R.STR_GFMUL_B)) else none
  | 0x300004 => if lo = 4 then some (b2n (decide (s.dwn.step = 8) || decide (s.dwn.step = 16))) else none
  | 0x300008 => some (if s.dwn.step ≤ 8 then 0 else s.jrn.nextSeq)
  | 0x30000C => some (if s.dwn.step ≤ 8 then 0 else s.jrn.nextSeq / 2 ^ 32)
  | 0x300010 => some (ringFree s)
  | 0x300018 => some s.jrn.opens.length
  | 0x400024 => if lo = 0 then some s.env.lines.length else if lo = 16 then some (dirtyLines s) else none
  | 0x400028 => if lo = 0 then some (s.env.skirt.filter (·.filled)).length else if lo = 16 then some s.env.evb.length else none
  | 0x500014 => if lo = 0 then some (dirtyPages s) else if lo = 24 then some ((s.bsk.clean.map fun c => c.2.2).sum / unitPages) else none
  | 0x708010 => if lo = 0 then some (s.ce.queues.map (heldBy s)).sum else if lo = 16 then some (s.ce.queues.map (·.r)).sum else none
  | 0x708014 => if lo = 0 then some (waitingIn s .basket) else if lo = 16 then some (waitingIn s .spar) else none
  | 0x708018 => if lo = 0 then some (waitingDrive s) else if lo = 16 then some (waitingIn s .lock) else none
  | 0x70801C => if lo = 0 then some (waitingIn s .ring) else if lo = 16 then some (waitingIn s .ordered) else none
  | 0x800010 => if lo = 0 then some s.fab.qps.length else if lo = 16 then some (s.ce.ctrls.filter (·.fabric)).length else none
  | 0xA00004 => if lo = 0 then some (channelsIn s chRunning) else if lo = 16 then some (channelsIn s chWaiting) else none
  | 0xD00028 => if lo = 1 then some (b2n (shadowDiff s)) else none
  | 0xF0001C => if lo = 0 then some s.wsk.queue.length else none
  | _ =>
    if 0x201000 ≤ off ∧ off < 0x202000 then arrDerived s ((off - 0x201000) / 0x100) (off % 0x100) lo
    else if 0x900104 ≤ off ∧ off < 0x900300 ∧ lo = 9 ∧ (off % 16 = 4 ∨ off % 16 = 8) then
      some (driveUse s (2 * ((off - 0x900100) / 16) + (off % 16) / 8))
    else if (off = 0x900300 ∨ off = 0x900304) ∧ lo = 9 then some (driveUse s (64 + (off - 0x900300) / 4))
    else if blockOf off = 14 then secDerived s (off % 2 ^ 20) lo
    else none

/-- What one field reads as. -/
def fieldVal (s : State) (link off : Nat) (f : LFld) : Nat :=
  if f.acc = .wo then 0 else ((derived s link off f.fld.lo).getD (s.rd f.fld)) % 2 ^ f.fld.w

/-- What a register reads as, before any latch. -/
def regVal (s : State) (link off : Nat) : Nat :=
  ((layoutAt link off).getD []).foldl (fun v f => v + fieldVal s link off f * 2 ^ f.fld.lo) 0

/-- A register's reset value. -/
def regReset (link off : Nat) : Nat := ((layoutAt link off).getD []).foldl (fun v f => v + f.fld.rst * 2 ^ f.fld.lo) 0

/-- The _HI registers that the read of their _LO register, 4 below, latches (R373). -/
def latchedHi (off : Nat) : Bool :=
  [0x10000C, 0x30000C, 0xC00014, 0xC0001C, 0xC00024, 0xD00024, 0xF00014].contains off ||
  (decide (0x201000 ≤ off) && decide (off < 0x202000) && [0x0C, 0xC8, 0xD0, 0xDC, 0xE4, 0xEC].contains (off % 0x100)) ||
  (decide (0xA01000 ≤ off) && decide (off < 0xA02000) && off % 0x40 = 0x2C)

/-- The key of a latch. -/
def latchKey (link off : Nat) : Nat := link * 2 ^ 32 + off

/-- Read a register of the map: its value and the machine after the read. -/
def readReg (link off : Nat) (s : State) : Nat × State :=
  if latchedHi off then (SMap.get 0 (latchKey link off) s.latch ^^^ regReset link off, s)
  else
    let v := regVal s link off
    let s := if latchedHi (off + 4) then
        { s with latch := SMap.set 0 (latchKey link (off + 4)) (regVal s link (off + 4) ^^^ regReset link (off + 4)) s.latch }
      else s
    (v, if off = 0x100010 then s.useFree else s)

/-! ### Windows -/

/-- The offset in the Windsock store that a link's window shows (R355). -/
def wskWindow (s : State) (link off : Nat) : Nat := s.rd (R.WSK_CURSOR_PAGE link) * 4096 + (off - 0xF01000)

/-- Read `n` bytes of a window: none where a word cannot be read. -/
def readWindow (link w off n : Nat) (s : State) : Option (List Nat) × State :=
  match w with
  | 1 => (some (SMap.read 0 (link * mbxBuf + (off - 0x1101000)) n s.mbx.req), s)
  | 2 => (some (SMap.read 0 (link * mbxBuf + (off - 0x1102000)) n s.mbx.rep), s)
  | 3 =>
    if link % 2 = 1 ∧ ¬ wskIsOpen s then (some (List.replicate n 0), s)
    else
      let o := wskWindow s link off
      (if wskBad s o n then none else some (wskBytes s o n), s)
  | _ =>
    if scratchMapped s then (some (scratchRead s (off - 0x2000000) n), s)
    else (some (List.replicate n 0), s.raise R.ENV_INT_STATUS_WIN_OFF)

/-- Write bytes to a window (R189, R354, R389). -/
def writeWindow (link w off : Nat) (bs : List Nat) (s : State) : State :=
  match w with
  | 1 => if s.on (R.MBX_STATUS_BUSY link) then s
    else { s with mbx.req := SMap.write 0 (link * mbxBuf + (off - 0x1101000)) bs s.mbx.req }
  | 2 => unmapped s
  | 3 => unmapped s
  | _ => if scratchMapped s then scratchWrite (off - 0x2000000) bs s else s.raise R.ENV_INT_STATUS_WIN_OFF

/-- Read a word as BAR0 does: a register, four bytes of a window, 0 in a block's reserved offsets; outside the map the spec
gives the data no value: it is free, and the access is counted. None stands for a word that cannot be read. -/
def readWord (link off : Nat) (s : State) : Option Nat × State :=
  if windowOf off ≠ 0 then
    let r := readWindow link (windowOf off) off 4 s
    (r.1.map leNat, r.2)
  else if inBlock off then
    let r := readReg link off s
    (some r.1, r.2)
  else (some (s.freeNat 32), unmapped s.useFree)

/-! ### Writes -/

/-- The plain effect of a write: RW fields take their bits, W1C fields clear theirs; a cause register's source is one that may
send again (R8, R379, R384). -/
def rwWrite (link off v : Nat) (s : State) : State :=
  let s := s.each ((layoutAt link off).getD []) fun s f => match f.acc with
    | .rw => s.wr f.fld (bits v f.fld.lo f.fld.w)
    | .w1c => s.clr f.fld (bits v f.fld.lo f.fld.w)
    | _ => s
  match (intSources.map (·.1)).findIdx? (· = off) with
  | some n => if v = 0 then s else { s with kicks := [kickOf link n] }
  | none => s

/-- An action where a bit is set. -/
def onBit (v i : Nat) (f : State → State) (s : State) : State := if bit v i then f s else s

/-- Writes of the registers of a Spool channel (Table 10.9): those of a device channel are E_AUTH; a reserved SPACE is E_FIELD (R421). -/
def splRegWrite (c o v : Nat) : State → State := splHost c fun s =>
  match o with
  | 0x00 => onBit v 3 (doSplAbort c) (onBit v 2 (doSplResume c) (onBit v 1 (doSplStop c) (onBit v 0 (doSplStart c) s)))
  | 0x04 =>
    let src := bits v 4 3
    let sel := bits v 8 6
    if s.chState c ≠ chIdle then splReject eState s
    else if 5 ≤ src then splReject eField s
    else if (src = 1 ∧ 16 ≤ sel) ∨ (src = 2 ∧ 8 ≤ sel) then splReject eRange s
    else if src = 4 ∧ sel = c then splReject eField s
    else rwWrite 0 (0xA01004 + 0x40 * c) v s
  | 0x08 =>
    let n := bits v 0 21
    if n = 0 ∨ 1048576 < n then splReject eRange s else rwWrite 0 (0xA01008 + 0x40 * c) v s
  | 0x10 =>
    if s.chState c ≠ chIdle then splReject eState s
    else if 8 ≤ bits v 0 4 then splReject eField s
    else rwWrite 0 (0xA01010 + 0x40 * c) v s
  | 0x14 => if s.chState c ≠ chIdle then splReject eState s else rwWrite 0 (0xA01014 + 0x40 * c) v s
  | 0x18 => if 8 ≤ bits v 0 4 then splReject eField s else rwWrite 0 (0xA01018 + 0x40 * c) v s
  | o => rwWrite 0 (0xA01000 + 0x40 * c + o) v s

/-- DRV_Pp_CTRL: the attention outputs, power off and on of both subports. -/
def drvCtrl (p v : Nat) (s : State) : State :=
  let s := rwWrite 0 (0x90010C + 0x10 * p) v s
  let s := onBit v 5 (doDriveOff p 1) (onBit v 4 (doDriveOff p 0) s)
  onBit v 9 (doDriveOn p 1) (onBit v 8 (doDriveOn p 0) s)

/-- PWR_WAKE_EN: not while NIGHT is being prepared or entered (Table 15.12). -/
def wakeEnWrite (v : Nat) (s : State) : State :=
  let st := s.rd R.PWR_STATUS_STATE
  if st = 2 ∨ st = 3 then s.wr R.PWR_STATUS_LAST_ERR eState else rwWrite 0 0x100000C v s

/-- MBX_CTRL of a bank (Table 16.7): the doorbell is rejected with E_BUSY while BUSY is 1. -/
def mbxCtrl (link v : Nat) (s : State) : State :=
  if bit v 1 ∧ s.on (R.MBX_STATUS_BUSY link) then s.wr (R.MBX_STATUS_LAST_ERR link) eBusy
  else
    let s := onBit v 0 (fun s => s.wr (R.MBX_STATUS_LAST_ERR link) 0) s
    onBit v 1 (fun s => { (s.wr (R.MBX_STATUS_BUSY link) 1).wr (R.MBX_STATUS_DONE link) 0 with mbx.rung := insNat link s.mbx.rung }) s

/-- The effect of a whole-word write to a register. A rejected action leaves its code in the block's LAST_ERR. -/
def regAct (link off v : Nat) (s : State) : State :=
  match off with
  | 0x8 => onBit v 0 (fun s => s.wr R.GLB_STATUS_LAST_ERR 0) s
  | 0x100000 => onBit v 9 doAcquire (onBit v 8 doForceStep (onBit v 10 doTetClrErr s))
  | 0x100024 => doTodArm v s
  | 0x100028 => { s with tet.todHi := v % 2 ^ 16 }
  | 0x100030 => doDayOverrideWrite v s
  | 0x200000 => onBit v 8 (fun s => s.wr R.STR_STATUS_LAST_ERR 0) s
  | 0x300000 => onBit v 8 doForceTail (onBit v 9 doGonClrErr s)
  | 0x400000 => onBit v 0 doEnvClrErr s
  | 0x400010 => doEnvDisableWrite v s
  | 0x400014 => envMaint (bits v 0 4) v s
  | 0x500000 => onBit v 1 doScrubNow (onBit v 0 doBskClrErr s)
  | 0x600000 => onBit v 1 doDiscard (onBit v 0 doBalClrErr s)
  | 0x700000 => onBit v 0 (fun s => s.wr R.HPT_STATUS_LAST_ERR 0) s
  | 0x708000 => onBit v 0 doHptCeClrErr s
  | 0x800000 => onBit v 0 (fun s => s.wr R.FAB_STATUS_LAST_ERR 0) s
  | 0x900000 => onBit v 0 (drvReject eOk) s
  | 0xA00000 => onBit v 0 (splReject eOk) s
  | 0xB00000 => onBit v 1 doReelect (onBit v 0 doStgClrErr s)
  | 0xB00038 => onBit v 31 (doStgWake (bits v 0 16)) s
  | 0xC00000 => onBit v 1 doRearm (onBit v 0 doSprClrErr s)
  | 0xD00000 => onBit v 2 doRestart (onBit v 1 doClearFails (onBit v 0 (fun s => s.wr R.DWN_STATUS_LAST_ERR 0) s))
  | 0xE00000 => onBit v 0 (fun s => s.wr R.SEC_STATUS_LAST_ERR 0) s
  | 0xF00000 => onBit v 0 doWskClrErr s
  | 0x1000000 => onBit v 1 doPwrCtrlNight (onBit v 0 (fun s => s.wr R.PWR_STATUS_LAST_ERR 0) s)
  | 0x100000C => wakeEnWrite v s
  | 0x1100000 => mbxCtrl link v s
  | _ =>
    if 0x100040 ≤ off ∧ off < 0x1000C0 then doAlarmArm ((off - 0x100040) / 16) (off % 16 / 4) v s
    else if 0x900100 ≤ off ∧ off < 0x900300 ∧ off % 16 = 12 then drvCtrl ((off - 0x900100) / 16) v s
    else if 0xA00040 ≤ off ∧ off < 0xA00080 then doSplTimerWrite ((off - 0xA00040) / 4) v s
    else if 0xA01000 ≤ off ∧ off < 0xA02000 then splRegWrite ((off - 0xA01000) / 0x40) (off % 0x40) v s
    else rwWrite link off v s

/-- LAST_ERR of the block that holds a register; the bank's for MBX. -/
def lastErr (link off : Nat) (s : State) : Nat :=
  match blockOf off with
  | 0 => s.rd R.GLB_STATUS_LAST_ERR
  | 1 => s.rd R.TET_STATUS_LAST_ERR
  | 2 => s.rd R.STR_STATUS_LAST_ERR
  | 3 => s.rd R.GON_STATUS_LAST_ERR
  | 4 => s.rd R.ENV_STATUS_LAST_ERR
  | 5 => s.rd R.BSK_STATUS_LAST_ERR
  | 6 => s.rd R.BAL_STATUS_LAST_ERR
  | 7 => if 0x708000 ≤ off then s.rd R.HPT_CE_STATUS_LAST_ERR else s.rd R.HPT_STATUS_LAST_ERR
  | 8 => s.rd R.FAB_STATUS_LAST_ERR
  | 9 => s.rd R.DRV_STATUS_LAST_ERR
  | 10 => s.rd R.SPL_STATUS_LAST_ERR
  | 11 => s.rd R.STG_STATUS_LAST_ERR
  | 12 => s.rd R.SPR_STATUS_LAST_ERR
  | 13 => s.rd R.DWN_STATUS_LAST_ERR
  | 14 => s.rd R.SEC_STATUS_LAST_ERR
  | 15 => s.rd R.WSK_STATUS_LAST_ERR
  | 16 => s.rd R.PWR_STATUS_LAST_ERR
  | 17 => s.rd (R.MBX_STATUS_LAST_ERR link)
  | _ => 0

/-- Set that field. -/
def setLastErr (link off code : Nat) (s : State) : State :=
  if blockOf off = 17 then s.wr (R.MBX_STATUS_LAST_ERR link) code else blockErr off code s

/-- A mark that no code of Table 16.9 equals. -/
def noCode : Nat := 0xFF

/-- Write a register: the code of a rejection, or OK. A rejected write does nothing but record its code (R379). -/
def writeReg (link off v : Nat) (s : State) : Nat × State :=
  let old := lastErr link off s
  let t := regAct link off v (setLastErr link off noCode s)
  let e := lastErr link off t
  if e = noCode then (eOk, setLastErr link off old t)
  else if e = eOk then (eOk, t)
  else (e, setLastErr link off e s)

/-! ### Rows -/

/-- A link carries BAR0 accesses: it is up. -/
def barUp (s : State) (link : Nat) : Bool := ((s.links[link]?).map (·.up)).getD false

/-- BAR0_REGISTER_WRITE: `size` bytes at an offset (R377, R379). -/
def doBar0RegisterWrite (link off size v : Nat) (s : State) : State :=
  if ¬ barUp s link ∨ size = 0 then s
  else
    let w := windowOf off
    if w ≠ 0 ∧ off + size ≤ windowEnd w then writeWindow link w off (leBytes size v) s
    else if w ≠ 0 ∨ ¬ inBlock off ∨ 4 < size then hostUr link (unmapped s)
    else if size < 4 ∨ off % 4 ≠ 0 then s.incSat R.GLB_ERR_PARTIAL
    else (writeReg link off v s).2

/-- LO_REGISTER_READ: a BAR0 read of a register; a _LO register latches its _HI register for this link (R373). An offset inside a register's
word selects the bytes from there on, and the read has every effect of a full one; four bytes of a window lie wholly in it (R377). -/
def doLoRegisterRead (link off : Nat) (s : State) : State :=
  let w := windowOf off
  if ¬ barUp s link then s
  else if (w = 0 ∧ ¬ inBlock off) ∨ (w ≠ 0 ∧ windowEnd w < off + 4) then (hostUr link (unmapped s)).emit (.window link [] true)
  else
    let k := if w = 0 then off % 4 else 0
    let r := readWord link (off - k) s
    match r.1 with
    | some v => r.2.emit (.window link [v / 256 ^ k] false)
    | none => r.2.emit (.window link [] true)

/-- MBX_REPLY_BUFFER_WRITE: dropped and counted (R389). -/
def doMbxReplyBufferWrite (link : Nat) (s : State) : State := if barUp s link then unmapped s else s

/-- STR_CLR_ERR. -/
def doStrClrErr (s : State) : State := s.wr R.STR_STATUS_LAST_ERR 0
/-- DWN_CLR_ERR. -/
def doDwnClrErr (s : State) : State := s.wr R.DWN_STATUS_LAST_ERR 0
/-- SEC_CLR_ERR. -/
def doSecClrErr (s : State) : State := s.wr R.SEC_STATUS_LAST_ERR 0
/-- GLB_CLR_ERR. -/
def doGlbClrErr (s : State) : State := s.wr R.GLB_STATUS_LAST_ERR 0
/-- MBX_CLR_ERR of a bank. -/
def doMbxClrErr (link : Nat) (s : State) : State := if link < 4 then s.wr (R.MBX_STATUS_LAST_ERR link) 0 else s

def execStrClrErr (s : State) : Out := live s (doStrClrErr s)
def execDwnClrErr (s : State) : Out := live s (doDwnClrErr s)
def execSecClrErr (s : State) : Out := live s (doSecClrErr s)
def execGlbClrErr (s : State) : Out := live s (doGlbClrErr s)
def execMbxClrErr (link : Nat) (s : State) : Out := live s (doMbxClrErr link s)
def execBar0RegisterWrite (link off size v : Nat) (s : State) : Out := live s (doBar0RegisterWrite link off size v s)
def execLoRegisterRead (link off : Nat) (s : State) : Out := live s (doLoRegisterRead link off s)
def execMbxReplyBufferWrite (link : Nat) (s : State) : Out := live s (doMbxReplyBufferWrite link s)

end Sys2Proof.Machine
end

