-- ==== Sys2Proof/Machine/ArrCmds.lean ====
section
/-! DEFINITION. The mailbox commands that act on arrays, copybacks, patrol and namespaces (R59, R60, R76, R129, R132, R134, R135,
R289, R392): what each does once the mailbox's own checks have passed. -/

namespace Sys2Proof.Machine

/-! ### Codes and limits (Table 16.8, R392) -/

/-- A command about array `a` with a payload of `n` bytes. -/
def arraySpec (op n : Nat) (h : MbxHdr) (a : Nat) : MbxSpec := { plainSpec op (h.len = n) with rangeBad := decide (15 < a) }

/-- A command about a member and a drive. -/
def memberSpec (op : Nat) (h : MbxHdr) (a m p sub : Nat) : MbxSpec :=
  { plainSpec op (h.len = 4) with rangeBad := decide (15 < a) || decide (31 < m) || decide (31 < p) || decide (1 < sub) }

/-! ### Arrays (Table 3.9) -/

/-- A command is outstanding on a namespace of array `a`. -/
def arrayInUse (s : State) (a : Nat) : Bool :=
  (s.ce.ctxs.any fun c => c.nsid = 0xFFFFFFFF || ((nsAt s c.ns).map (·.array)) = some a) ||
  s.ce.formats.any fun j => j.todo.any fun i => ((nsAt s i).map (·.array)) = some a

/-- REASON of an array. -/
def arrReason (s : State) (a : Nat) : Nat := s.rd (R.STR_An_STATUS_REASON a)

/-- ARRAY_OFFLINE. -/
def arrayOfflineGo (a : Nat) (h : MbxHdr) (s : State) : State :=
  let bad := mbxErr h 0x0204 eState s
  if ¬ arrOn s a ∨ arrState s a = aFailed then bad
  else if arrState s a = aOffline then (if arrReason s a = 1 then mbxOk h 0x0204 s else bad)
  else if arrayInUse s a then bad
  else mbxOk h 0x0204 (setArr a aOffline 1 s)

/-- ARRAY_ONLINE: open INTENTs and Basket entries of the array are checked as at DAWN_S16 before it serves. -/
def arrayOnlineGo (a : Nat) (h : MbxHdr) (s : State) : State :=
  if ¬ offHost s a then mbxErr h 0x0205 eState s
  else if s.ce.sops.any fun o => o.array = a then mbxOk h 0x0205 (stateBack a s)
  else mbxOk h 0x0205 (arrayBack a s)

/-- ARRAY_FORCE: from OFFLINE with REASON RESYNC_CRIT to CRITICAL; the resynchronisation is given up, reads are served without
verification, targets are sought for the missing members. -/
def arrayForceGo (a : Nat) (h : MbxHdr) (s : State) : State :=
  if ¬ arrOn s a ∨ arrState s a ≠ aOffline ∨ arrReason s a ≠ 2 then mbxErr h 0x0206 eState s
  else
    let s := (s.modArr a fun r => { r with rs := none }).wr (R.STR_An_STATUS_UNVERIFIED a) 1
    let s := setArr a aCritical 0 s
    let s := s.each (missMembers s a) fun s m => if hasTarget s a m then s else seekTarget a m s
    mbxOk h 0x0206 (arrUpdate a s)

/-- The rows of Table 5.4 above the drive: the member must be missing for a replacement, present for a copyback. -/
def memberRefused (s : State) (a m : Nat) (lost : Bool) : Option Nat :=
  if ¬ arrServes s a then some eState
  else if memN s a ≤ m then some eRange
  else if missing s a m ≠ lost then some eState
  else if lost && hasTarget s a m then some eBusy
  else none

/-- A drive of the mailbox: a subport that exists. -/
def mbxDrive (s : State) (a p sub : Nat) : Option Nat :=
  if ¬ subExists s p sub then some eState else driveRefused s a (drvNo p sub)

/-- ARRAY_REPLACE (Table 5.4); a paired unit rejects a drive without fencing with E_UNSUP (R293). -/
def arrayReplaceGo (a m p sub : Nat) (h : MbxHdr) (s : State) : State :=
  let d := mbxDrive s a p sub
  match firstCode [memberRefused s a m true, d.filter (· ≠ eNospace), codeIf (unfencedFor s (drvNo p sub)) eUnsup, d] with
  | some c => mbxErr h 0x0207 c s
  | none => mbxOk h 0x0207 (arrUpdate a (assignTarget a m (drvNo p sub) s))

/-- ARRAY_COPYBACK. -/
def arrayCopybackGo (a m p sub : Nat) (h : MbxHdr) (s : State) : State :=
  match firstCode [memberRefused s a m false, mbxDrive s a p sub] with
  | some c => mbxErr h 0x0208 c s
  | none =>
    if (slots s a).any (·.act) ∨ ¬ (s.arr a).waiting.isEmpty ∨ (s.arr a).rs.isSome then mbxErr h 0x0208 eState s
    else if (s.arr a).cb.isSome then mbxErr h 0x0208 eBusy s
    else mbxOk h 0x0208 (startCopyback a m (drvNo p sub) 0 s)

/-- A spare that a copyback was to use is free again. -/
def spareFreed (d : Nat) (s : State) : State :=
  s.each ((sparesOn s d).filter fun k => s.rd (R.STR_SPAREk_SPARE_STATE k) = 2) fun s k =>
    (s.wr (R.STR_SPAREk_SPARE_STATE k) 1).wr (R.STR_SPAREk_ARRAY k) 0

/-- ARRAY_COPYBACK_STOP: as the first row of Table 5.5. -/
def arrayCopybackStopGo (a : Nat) (h : MbxHdr) (s : State) : State :=
  match (s.arr a).cb with
  | some c => if arrOn s a then mbxOk h 0x0209 (spareFreed c.dest (endCopyback a 1 s)) else mbxErr h 0x0209 eState s
  | none => mbxErr h 0x0209 eState s

/-- PATROL_RESTART. -/
def patrolRestartGo (a : Nat) (h : MbxHdr) (s : State) : State :=
  if ¬ arrOn s a then mbxErr h 0x020A eState s
  else mbxOk h 0x020A (progressDue 3 a 0 (s.modArr a fun r => { r with pt := 0 }))

/-! ### Namespaces (R57, R59, R60, R289) -/

/-- Namespaces that a device carries. -/
def nsMax : Nat := 4096

/-- Stripes st to st + n − 1 of array `a` are free. -/
def stripesFree (s : State) (a st n : Nat) : Bool :=
  decide (st + n ≤ (s.arr a).stripes) && s.ns.all fun x => x.array ≠ a || decide (x.base + x.stripes ≤ st) || decide (st + n ≤ x.base)

/-- The lowest BASE with `n` free stripes in a row: 0, or the end of a namespace of the array. -/
def lowestBase (s : State) (a n : Nat) : Option Nat :=
  ((0 :: (s.ns.filter fun x => x.array = a).map fun x => x.base + x.stripes).filter fun b => stripesFree s a b n).foldl
    (fun m b => match m with
      | some x => some (min x b)
      | none => some b) none

/-- The lowest free index. -/
def freeIndex (s : State) : Option Nat := (List.range nsMax).find? fun i => ¬ s.ns.any fun n => n.idx = i

/-- The system NSID of an index (R289). -/
def systemNsid (s : State) (x : Nat) : Nat := 4096 * s.rd R.STG_ID_SLOT + x + 1

/-- The NGUID of a new namespace, its byte 0 the most significant (R289). -/
def newNguid (s : State) (x : Nat) : Nat :=
  (((s.rd R.STG_STRING_ID_STRING_ID * 2 ^ 16 + s.rd R.STG_ID_SLOT) * 2 ^ 16 + x) * 2 ^ 48 + s.tet.epoch % 2 ^ 48) * 2 ^ 16 + s.unit

/-- NS_CREATE: FLAGS bit 0 is BASE_GIVEN. -/
def nsCreateGo (a flags lbaf nsze base : Nat) (h : MbxHdr) (s : State) : State :=
  let err := fun c => mbxErr h 0x0201 c s
  if ¬ arrOn s a ∨ arrState s a = aFailed ∨ arrState s a = aOffline then err eState
  else match freeIndex s with
  | none => err eNospace
  | some x =>
    if lbaf = 1 ∧ ¬ s.on (R.STR_An_GEOM_META a) then err eUnsup
    else if nsze = 0 then err eRange
    else
      let n := (nsze + perStripe s a - 1) / perStripe s a
      let place := if bit flags 0 then (if stripesFree s a base n then some base else none) else lowestBase s a n
      match place with
      | none => err eNospace
      | some b =>
        let v : Ns := ⟨x, systemNsid s x, newNguid s x, a, b, n, nsze, lbaf⟩
        let s := rangeGone a b n true s
        let s := noticeNs { s with ns := s.ns ++ [v], nv.nsTable := s.nv.nsTable ++ [v] }
        mbxReply h 0x0201 eOk 0 (leBytes 2 x ++ [0, 0] ++ leBytes 4 v.nsid ++ (leBytes 16 v.nguid).reverse) s

/-- A namespace goes: its stripes are deallocated, its Basket data and reservations dropped. -/
def nsRemove (n : Ns) (s : State) : State :=
  let s := rangeGone n.array n.base n.stripes true s
  noticeNs { s with
    ns := s.ns.filter fun (x : Ns) => x.idx ≠ n.idx,
    nv.nsTable := s.nv.nsTable.filter fun (x : Ns) => x.idx ≠ n.idx,
    ce.resvs := s.ce.resvs.filter fun (x : NsResv) => x.ns ≠ n.idx,
    env.streams := s.env.streams.filter fun (x : Stream) => x.ns ≠ n.idx }

/-- Deletions whose commands have ended complete. -/
def nsDeletePoll (s : State) : State :=
  s.each s.ce.nsGone fun s p =>
    match nsAt s p.2 with
    | none => mbxOk p.1 0x0202 { s with ce.nsGone := s.ce.nsGone.filter (· ≠ p) }
    | some n =>
      if (s.ce.ctxs.any fun c => c.ns = p.2 || c.nsid = 0xFFFFFFFF) ∨ ¬ rangeIdle s n.array n.base n.stripes then s
      else mbxOk p.1 0x0202 (nsRemove n { s with ce.nsGone := s.ce.nsGone.filter (· ≠ p) })

/-- NS_DELETE waits for the namespace's outstanding commands; new ones find no namespace. -/
def nsDeleteGo (nsid : Nat) (h : MbxHdr) (s : State) : State :=
  match s.ns.find? fun n => n.nsid = nsid with
  | none => mbxErr h 0x0202 eField s
  | some n =>
    if formatting s n.idx ∨ s.ce.nsGone.any (fun p => p.2 = n.idx) then mbxErr h 0x0202 eState s
    else nsDeletePoll { s with ce.nsGone := s.ce.nsGone ++ [(h, n.idx)] }

/-- NS_LIST: entries of log page C1h; an empty index has ARRAY 0xFF. -/
def nsListGo (first count : Nat) (h : MbxHdr) (s : State) : State :=
  if nsMax < first + count then mbxErr h 0x0203 eRange s
  else mbxReply h 0x0203 eOk 0 ((rangeFrom first count).flatMap fun i => match nsAt s i with
    | some n => logPlacement s n
    | none => 0xFF :: List.replicate 31 0) s

end Sys2Proof.Machine
end

