-- ==== Sys2Proof/Machine/SecCmds.lean ====
section
/-! DEFINITION. Keys, nonces and attestation (R333 to R339): the privileged mailbox commands, the OTP, SPDM. -/

namespace Sys2Proof.Machine

/-! ### Nonces, keys, fuses (R334, R335) -/

/-- GET_NONCE: 16 bytes that the spec gives no value; the nonce replaces the one before. -/
def getNonceGo (h : MbxHdr) (s : State) : State :=
  let n := s.freeNat 128
  mbxReply h 0x0401 eOk 0 (leBytes 16 n) { s.useFree with dwn.nonce := some (n * 2 ^ 48 + s.tet.epoch) }

/-- An OTP programming starts; only one runs at a time. -/
def otpStart (kind op : Nat) (h : MbxHdr) (slot v : Nat) (s : State) : State :=
  if s.dwn.otpOp.isSome then mbxErr h op eBusy s else { s with dwn.otpOp := some (kind, h, slot, v) }

/-- KEY_PROVISION. -/
def keyProvisionGo (slot key : Nat) (h : MbxHdr) (s : State) : State :=
  if (keySlot s slot).programmed ∨ (keySlot s slot).damaged then mbxErr h 0x0402 eState s
  else otpStart 0 0x0402 h slot key s

/-- A slot, or the host key (4), revoked. -/
def revoked (slot : Nat) (s : State) : State :=
  if slot = 4 then { s with nv.hostKey := { s.nv.hostKey with revoked := true } }
  else putKey slot { keySlot s slot with revoked := true } s

/-- The images that DAWN can use: both firmware slots and the newest valid image of the shadow slot. -/
def bootImages (s : State) : List Image := s.nv.flashA.toList ++ s.nv.flashB.toList ++ (shadowImage s).toList

/-- KEY_REVOKE: not where an image in use would then fail check 2. -/
def keyRevokeGo (slot : Nat) (h : MbxHdr) (s : State) : State :=
  if slot = 0 then mbxErr h 0x0403 eUnsup s
  else if (bootImages s).any fun i => keyCheck s i && ¬ keyCheck (revoked slot s) i then mbxErr h 0x0403 eState s
  else otpStart 1 0x0403 h slot 0 s

/-- HOSTKEY_ENROLL. -/
def hostkeyEnrollGo (key : Nat) (h : MbxHdr) (s : State) : State :=
  if ¬ s.nv.persistMode then mbxErr h 0x0404 eUnsup s
  else if s.nv.hostKey.programmed then mbxErr h 0x0404 eState s
  else otpStart 2 0x0404 h 4 key s

/-- SVN_ADVANCE. -/
def svnAdvanceGo (h : MbxHdr) (s : State) : State :=
  let run := (s.dwn.image.map (·.svn)).getD 0
  if ((otherImage s).map fun i => decide (i.svn < run)).getD false then mbxErr h 0x0405 eState s
  else if run ≤ s.nv.fwSvn then mbxErr h 0x0405 eRange s
  else otpStart 3 0x0405 h 0 run s

/-- The field of an OTP programming takes its value. -/
def otpApply (kind slot v : Nat) (s : State) : State :=
  match kind with
  | 0 => putKey slot ⟨true, false, false, v⟩ s
  | 1 => (revoked slot s).raise R.SEC_INT_STATUS_REVOKED
  | 2 => { s with nv.hostKey := ⟨true, false, false, v⟩ }
  | _ => { s with nv.fwSvn := v }

/-- OTP_PROGRAM_COMPLETE: the field takes effect and the command completes. A programming that fails leaves the field as one
that was cut off. -/
def otpProgramEnd (ok : Bool) (s : State) : State :=
  match s.dwn.otpOp with
  | none => s
  | some p =>
    let s := { s with dwn.otpOp := none }
    if ok then
      mbxOk p.2.1 (0x0402 + p.1) (((otpApply p.1 p.2.2.1 p.2.2.2 s).raise R.SEC_INT_STATUS_OTP_WRITE).raise R.SEC_INT_STATUS_MEAS_CHG)
    else mbxErr p.2.1 (0x0402 + p.1) eInternal (otpCut p.1 p.2.2.1 p.2.2.2 s)

/-! ### SPDM (R338, R339). The codes of requests and responses are those of SPDM 1.2 (PRESUMED). -/

def spdmInvalid : Nat := 0x01
def spdmUnexpected : Nat := 0x04
def spdmUnsupported : Nat := 0x07
def spdmVersion : Nat := 0x41

/-- Answer a request: the counters, the response. The responder is Noljo's and speaks over MCTP alone. -/
def spdmAnswer (r : SpdmReq) (res : Nat × List Nat) (s : State) : State :=
  match r.src with
  | .bank _ => s
  | .mctp .. =>
    if s.dwn.step < 6 then s else
    let res := if r.verOk then res else (0x7F, [spdmVersion, 0])
    let s := (s.incSat R.SEC_SPDM_REQUESTS).emit (.spdm r.src res.1 res.2)
    if res.1 = 0x7F then s.incSat R.SEC_SPDM_ERRORS else s

/-- An answer that uses free values advances their counter. -/
def spdmFree (r : SpdmReq) (n : Nat) (s : State) : State :=
  match r.src with
  | .bank _ => s
  | .mctp .. => if s.dwn.step < 6 then s else { s with freeCtr := s.freeCtr + n }

/-- A free value of the run further on. -/
def freeAt (s : State) (i w : Nat) : Nat := (Config.freeValue w (s.freeCtr + i)).toNat

/-- SHA-384 of a sequence of numbers: what the engine computes is not modelled, only that it is a function. -/
def digest (l : List Nat) : Nat := (Config.digest l).toNat

/-- A key slot as numbers. -/
def keyNums (k : KeySlot) : List Nat := [b2n k.programmed, b2n k.damaged, b2n k.revoked, k.key]

/-- An image as numbers. -/
def imageNums (i : Image) : List Nat :=
  [i.kind, i.keySlot, i.keyHash, i.svn, i.version, i.sparMin, i.sparMax, i.gen, i.build, i.digest] ++ i.types ++ (i.items.flatMap fun x => [x.off, x.val]) ++
  i.tables.flatMap fun t => t.1 :: t.2.length :: t.2

/-- The content of a measurement block (Table 13.11). -/
def blockNums (s : State) (k : Nat) : List Nat :=
  match k with
  | 1 => [1]
  | 2 => 2 :: s.nv.slots.flatMap keyNums ++ keyNums s.nv.hostKey ++ [s.nv.fwSvn, b2n s.nv.secureBoot, b2n s.nv.debugLock, b2n s.nv.persistMode]
  | 3 => 3 :: (s.dwn.image.map imageNums).getD []
  | 4 => [4, (s.dwn.image.map (·.digest)).getD 0]
  | 5 => 5 :: s.dwn.configGen :: (activeSet s).flatMap (fun p => [p.1, p.2]) ++ s.dwn.tables.flatMap fun t => t.1 :: t.2.length :: t.2
  | 6 =>
    6 :: s.rd R.DWN_STATUS_IMAGE_SLOT :: s.rd R.DWN_STATUS_CFG_SRC ::
      (s.nv.stepLog.filterMap (·.2)).flatMap fun e => if e.startNo = s.nv.startNo then [e.step, e.outcome, e.detail, e.epoch] else []
  | _ => 7 :: ((shadowImage s).map imageNums).getD []

/-- DMTF value type of a block. -/
def blockType (k : Nat) : Nat := [0, 0, 2, 1, 1, 3, 3, 3].getD k 0

/-- A measurement block: index, value type, digest. -/
def measBlock (s : State) (k : Nat) : List Nat := [k, blockType k, digest (blockNums s k)]

/-- GET_VERSION: 1.2 only. -/
def doGetVersion (r : SpdmReq) (s : State) : State := spdmAnswer r (0x04, [0x1200]) s

/-- GET_CAPABILITIES: CTExponent 15; CERT_CAP, CHAL_CAP, MEAS_CAP 10b. -/
def doGetCapabilities (r : SpdmReq) (s : State) : State := spdmAnswer r (0x61, [15, 0x16]) s

/-- NEGOTIATE_ALGORITHMS: DMTF measurements, SHA-384 for measurements, ECDSA on P-384, SHA-384. -/
def doNegotiateAlgorithms (r : SpdmReq) (s : State) : State := spdmAnswer r (0x63, [1, 4, 0x80, 2]) s

/-- GET_DIGESTS: certificate slot 0. -/
def doGetDigests (r : SpdmReq) (s : State) : State := spdmAnswer r (0x01, [1, digest s.nv.certChain]) s

/-- GET_CERTIFICATE: a portion of the chain in slot 0 and what remains. -/
def doGetCertificate (r : SpdmReq) (slot off len : Nat) (s : State) : State :=
  let part := (s.nv.certChain.drop off).take len
  if slot ≠ 0 ∨ s.nv.certChain.length < off then spdmAnswer r (0x7F, [spdmInvalid, 0]) s
  else spdmAnswer r (0x02, [part.length, s.nv.certChain.length - off - part.length] ++ part) s

/-- CHALLENGE: the chain's digest, a nonce, the summary of the measurements and a signature. -/
def doChallenge (r : SpdmReq) (slot : Nat) (s : State) : State :=
  if slot ≠ 0 then spdmAnswer r (0x7F, [spdmInvalid, 0]) s
  else
    let all := digest ((rangeFrom 1 7).flatMap (measBlock s))
    spdmFree r 2 (spdmAnswer r (0x03, [1, digest s.nv.certChain, freeAt s 0 256, all, freeAt s 1 768]) s)

/-- GET_MEASUREMENTS: index 0 the number of blocks, 0xFF all, else one, taken in one step; signed on request. -/
def doGetMeasurements (r : SpdmReq) (index : Nat) (sign : Bool) (s : State) : State :=
  let tail := if sign then [freeAt s 0 256, freeAt s 1 768] else [freeAt s 0 256]
  let n := if sign then 2 else 1
  if index = 0 then spdmFree r n (spdmAnswer r (0x60, 7 :: tail) s)
  else if index = 0xFF then spdmFree r n (spdmAnswer r (0x60, 7 :: (rangeFrom 1 7).flatMap (measBlock s) ++ tail) s)
  else if index ≤ 7 then spdmFree r n (spdmAnswer r (0x60, 1 :: measBlock s index ++ tail) s)
  else spdmAnswer r (0x7F, [spdmInvalid, 0]) s

/-- RESPOND_IF_READY: the device defers no response, so there is none to fetch. -/
def doRespondIfReady (r : SpdmReq) (s : State) : State := spdmAnswer r (0x7F, [spdmUnexpected, 0]) s

/-- SPDM_UNSUPPORTED_REQUEST. -/
def doSpdmUnsupportedRequest (r : SpdmReq) (code : Nat) (s : State) : State := spdmAnswer r (0x7F, [spdmUnsupported, code]) s

def execGetVersion (r : SpdmReq) (s : State) : Out := live s (doGetVersion r s)
def execGetCapabilities (r : SpdmReq) (s : State) : Out := live s (doGetCapabilities r s)
def execNegotiateAlgorithms (r : SpdmReq) (s : State) : Out := live s (doNegotiateAlgorithms r s)
def execGetDigests (r : SpdmReq) (s : State) : Out := live s (doGetDigests r s)
def execGetCertificate (r : SpdmReq) (slot off len : Nat) (s : State) : Out := live s (doGetCertificate r slot off len s)
def execChallenge (r : SpdmReq) (slot : Nat) (s : State) : Out := live s (doChallenge r slot s)
def execGetMeasurements (r : SpdmReq) (index : Nat) (sign : Bool) (s : State) : Out := live s (doGetMeasurements r index sign s)
def execRespondIfReady (r : SpdmReq) (s : State) : Out := live s (doRespondIfReady r s)
def execSpdmUnsupportedRequest (r : SpdmReq) (code : Nat) (s : State) : Out := live s (doSpdmUnsupportedRequest r code s)

end Sys2Proof.Machine
end

