-- ==== Sys2Proof/Machine/CfgCmds.lean ====
section
/-! DEFINITION. The configuration commands of the admin mailbox (R329 to R332, R290, R392): the shadow set, LAUNCH, PERSIST,
images, publishing; register, step-log, summary and directory reads. -/

namespace Sys2Proof.Machine

/-! ### Registers and the step log (R392) -/

/-- The link that a request acts for. -/
def actLink (h : MbxHdr) : Nat :=
  match h.src with
  | .bank l => l
  | .mctp _ l => l

/-- Read words at ascending offsets: none where one cannot be read. -/
def readWords (link off : Nat) : Nat → State → Option (List Nat) × State
  | 0, s => (some [], s)
  | n + 1, s =>
    let r := readWord link off s
    let rs := readWords link (off + 4) n r.2
    match r.1, rs.1 with
    | some v, some vs => (some (v :: vs), rs.2)
    | _, _ => (none, rs.2)

/-- REG_READ. -/
def regReadGo (off count : Nat) (h : MbxHdr) (s : State) : State :=
  let r := readWords (actLink h) off count s
  match r.1 with
  | some vs => mbxReply h 0x0001 eOk 0 (vs.flatMap (leBytes 4)) r.2
  | none => mbxErr h 0x0001 eInternal s

/-- REG_WRITE: as a BAR0 write of one word. -/
def regWriteGo (off v : Nat) (h : MbxHdr) (s : State) : State :=
  let l := actLink h
  if windowOf off ≠ 0 then mbxOk h 0x0002 (writeWindow l (windowOf off) off (leBytes 4 v) s)
  else if ¬ inBlock off then mbxOk h 0x0002 (unmapped s)
  else
    let r := writeReg l off v s
    mbxReply h 0x0002 r.1 0 [] r.2

/-- The bytes of a step log entry (Table 13.2); a slot never written reads as zeros. -/
def stepBytes (e : Option StepEntry) : List Nat :=
  match e with
  | none => List.replicate 16 0
  | some e =>
    let b := leBytes 4 e.startNo ++ [e.step, e.outcome] ++ leBytes 2 e.detail ++ leBytes 6 e.epoch
    b ++ leBytes 2 (crc32c b)

/-- STEP_LOG_READ. -/
def stepLogReadGo (first count : Nat) (h : MbxHdr) (s : State) : State :=
  mbxReply h 0x0003 eOk 0 ((rangeFrom first count).flatMap fun k => stepBytes (SMap.get none (k % 4096) s.nv.stepLog)) s

/-! ### The shadow set (R329) -/

/-- Why the shadow set cannot be reached: before the end of DAWN_S09, or while it is locked (R330). -/
def shadowShut (s : State) : Option Nat :=
  if s.dwn.step < 10 then some eState else if s.dwn.launch.isSome then some eBusy else none

/-- A shadow command where the shadow can be reached. -/
def withShadow (h : MbxHdr) (op : Nat) (f : State → State) (s : State) : State :=
  match shadowShut s with
  | some c => mbxErr h op c s
  | none => f s

/-- SHADOW_WRITE: all items, or none with the index of the first that fails. -/
def shadowWriteGo (items : List CfgItem) (h : MbxHdr) (s : State) : State :=
  withShadow h 0x0101 (fun s =>
    match items.findIdx? fun i => (itemErr i).isSome with
    | some k => mbxReply h 0x0101 ((items[k]?.bind itemErr).getD eField) k [] s
    | none => mbxOk h 0x0101 { s with shadow := items.foldl (fun m i => setItem i m) s.shadow }) s

/-- The largest length of a table. -/
def tableMax (n : Nat) : Nat := if n = 1 then 1024 * 256 else 64 * 24

/-- SHADOW_TABLE: chunks in order; the last one checks and replaces the table. -/
def shadowTableGo (table total off : Nat) (data : List Nat) (h : MbxHdr) (s : State) : State :=
  withShadow h 0x0102 (fun s =>
    let old : List Nat := (s.dwn.chunk.map (·.2.2)).getD []
    let goesOn := (s.dwn.chunk.map fun (c : Nat × Nat × List Nat) => decide (c.1 = table) && decide (c.2.1 = total) && decide (c.2.2.length = off)).getD false
    if off ≠ 0 ∧ ¬ goesOn then mbxErr h 0x0102 eField s
    else
      let bs := (if off = 0 then [] else old) ++ data
      if bs.length < total then mbxOk h 0x0102 { s with dwn.chunk := some (table, total, bs) }
      else match tableErr table bs with
        | some c => mbxErr h 0x0102 c s
        | none =>
          let ts := (table, bs) :: s.dwn.shadowTables.filter fun t => t.1 ≠ table
          mbxOk h 0x0102 { s with dwn.chunk := none, dwn.shadowTables := ts }) s

/-- What a register reads as with the shadow set's RWL fields. -/
def shadowVal (s : State) (link off : Nat) : Nat :=
  ((layoutAt link off).getD []).foldl (fun v f =>
    v + (if f.acc = .rwl then SMap.get 0 f.fld.key s.shadow ^^^ f.fld.rst else fieldVal s link off f) * 2 ^ f.fld.lo) 0

/-- SHADOW_READ names a table. -/
def isTable (target : Nat) : Bool := decide (2 ^ 31 ≤ target)

/-- Field values of SHADOW_READ that R388 rejects with E_FIELD: a misaligned register or one outside the map, an OFFSET with
a register, another table. -/
def shadowReadBad (target off count : Nat) : Bool :=
  if isTable target then ¬ [1, 2].contains (target - 2 ^ 31)
  else target % 4 ≠ 0 || off ≠ 0 || ¬ inBlock target || ¬ inBlock (target + 4 * (count - 1))

/-- SHADOW_READ. -/
def shadowReadGo (target off count : Nat) (h : MbxHdr) (s : State) : State :=
  withShadow h 0x0103 (fun s =>
    if isTable target then
      let t := tableOf s.dwn.shadowTables (target - 2 ^ 31)
      if t.length < off + count then mbxErr h 0x0103 eRange s
      else mbxReply h 0x0103 eOk 0 ((t.drop off).take count) s
    else mbxReply h 0x0103 eOk 0 ((List.range count).flatMap fun i => leBytes 4 (shadowVal s (actLink h) (target + 4 * i))) s) s

/-- SHADOW_RESET. -/
def shadowResetGo (h : MbxHdr) (s : State) : State := withShadow h 0x0104 (fun s => mbxOk h 0x0104 (shadowCopy s)) s

/-! ### LAUNCH (R330, R331) -/

/-- LAUNCH: refused, nothing to change, rejected by the validation, or pending until the next boundary. -/
def launchGo (h : MbxHdr) (s : State) : State :=
  if ¬ s.ready ∨ s.safe ∨ 2 ≤ s.rd R.HPT_CE_ACT_PHASE then mbxErr h 0x0105 eState s
  else if s.dwn.launch.isSome ∨ s.dwn.flashOp.isSome then mbxErr h 0x0105 eBusy s
  else if ¬ shadowDiff s then mbxOk h 0x0105 (s.wr R.DWN_LAUNCH_LAST_CODE 0)
  else match launchFail s with
    | some f =>
      let s := launchErr f s
      mbxReply h 0x0105 f.1 (launchDetail s) [] s
    | none => { s with dwn.launch := some h }.wr R.DWN_LAUNCH_PENDING 1

/-! ### PERSIST (R332) and images -/

/-- Bytes filled with zeros to a multiple of `k`. -/
def padTo (k : Nat) (l : List Nat) : List Nat := l ++ List.replicate ((k - l.length % k) % k) 0

/-- A section of the active set as bytes (R326): the registers and tables that differ from their reset values. -/
def sectionBytes (s : State) (sec : Nat) : List Nat :=
  let offs := ((activeSet s).map (·.1 / 32)).eraseDups.filter fun o => sectionOf o = sec
  let tabs := [1, 2].filter fun n => tableSection n = sec && ¬ (tableOf s.dwn.tables n).isEmpty
  (offs.flatMap fun o => leBytes 4 o ++ leBytes 4 (rwlVal s o)) ++
  tabs.flatMap fun n =>
    let t := tableOf s.dwn.tables n
    leBytes 4 (2 ^ 26 + n) ++ leBytes 4 t.length ++ padTo 8 t

/-- A section table entry (Table 13.5). -/
def sectionEntry (type off size dig : Nat) : List Nat :=
  leBytes 2 type ++ List.replicate 6 0 ++ leBytes 8 off ++ leBytes 8 size ++ List.replicate 8 0 ++ leBytes 48 dig

/-- The section table from an offset in the image. -/
def sectionTable (s : State) : Nat → List Nat → List Nat
  | _, [] => []
  | off, sec :: l =>
    let b := sectionBytes s sec
    sectionEntry sec off b.length (digest b) ++ sectionTable s (off + (padTo 4096 b).length) l

/-- The image of an export (Table 13.4): unsigned, bound to this device. -/
def exportImage (s : State) : List Nat :=
  let body := cfgSections.flatMap fun sec => padTo 4096 (sectionBytes s sec)
  let head := leBytes 4 0x4D555350 ++ leBytes 2 1 ++ [1, 0] ++ leBytes 8 (4096 + body.length) ++ leBytes 4 0 ++
    leBytes 4 (noljoVersion s) ++ leBytes 2 (sparLowest s) ++ leBytes 2 (sparVersion s) ++ leBytes 2 cfgSections.length ++ leBytes 2 0 ++
    leBytes 8 s.dwn.configGen ++ leBytes 8 s.tet.epoch ++ leBytes 16 s.nv.deviceId ++ List.replicate 64 0 ++
    sectionTable s 4096 cfgSections
  padTo 4096 head ++ body

/-- PERSIST_EXPORT: OFFSET 0 builds the image; a later one reads on in it. -/
def persistExportGo (off : Nat) (h : MbxHdr) (s : State) : State :=
  if s.dwn.step < 10 then mbxErr h 0x0106 eState s
  else
    let s := if off = 0 then { s with dwn.exported := some (s.dwn.configGen, exportImage s) } else s
    match s.dwn.exported with
    | none => mbxErr h 0x0106 eState s
    | some e =>
      if e.1 ≠ s.dwn.configGen then mbxErr h 0x0106 eState s
      else if e.2.length ≤ off then mbxErr h 0x0106 eRange s
      else mbxReply h 0x0106 eOk 0 (leBytes 4 e.2.length ++ (e.2.drop off).take 4076) s

/-- TOTAL and the chunk lie within `m` bytes. -/
def uploadFits (m total off len : Nat) : Bool := decide (total ≤ m) && decide (off + len ≤ total)

/-- One chunk of an upload: a chunk that does not continue the one before is E_FIELD; the last one does `act`. -/
def uploadChunk (h : MbxHdr) (op key total off len : Nat) (act : State → State) (s : State) : State :=
  if off ≠ 0 ∧ s.dwn.upload ≠ some (key, total, off) then mbxErr h op eField s
  else if off + len < total then mbxOk h op { s with dwn.upload := some (key, total, off + len) }
  else act { s with dwn.upload := none }

/-- A flash write runs. -/
def flashBusy (s : State) : Bool := s.dwn.flashOp.isSome || ¬ s.ce.fwWrites.isEmpty

/-- The half of the shadow slot that does not hold the newest valid image: 2 or 3. -/
def oldHalf (s : State) : Nat :=
  let ok := fun x : Option Image => x.filter fun i => (imageCheck s 1 i).isNone
  match ok s.nv.shadowA, ok s.nv.shadowB with
  | some a, some b => if a.build < b.build then 2 else 3
  | some _, none => 3
  | none, _ => 2

/-- An image holds the configuration in force. -/
def sameSet (s : State) (i : Image) : Bool :=
  i.gen = s.dwn.configGen && decide (itemsSet i.items = activeSet s) && sameTables i.tables s.dwn.tables

/-- PERSIST. -/
def persistGo (total off len : Nat) (img : Image) (h : MbxHdr) (s : State) : State :=
  if s.dwn.launch.isSome ∨ flashBusy s then mbxErr h 0x0107 eBusy s
  else uploadChunk h 0x0107 0x0107 total off len (fun s =>
    match imageCheck s 1 img with
    | some c => mbxErr h 0x0107 c.2 (imageFail c.1 s)
    | none =>
      if ¬ sameSet s img then mbxErr h 0x0107 eState s
      else { s with dwn.flashOp := some (0, h, img, oldHalf s) }) s

/-- IMAGE_WRITE. -/
def imageWriteGo (slot pref total off len : Nat) (img : Image) (h : MbxHdr) (s : State) : State :=
  if flashBusy s then mbxErr h 0x0108 eBusy s
  else uploadChunk h 0x0108 (0x0108 + 65536 * slot) total off len (fun s =>
    match imageCheck s (if slot = 2 then 1 else 0) img with
    | some c => mbxErr h 0x0108 c.2 (imageFail c.1 s)
    | none => { s with dwn.flashOp := some (1 + pref, h, img, if slot = 2 then oldHalf s else slot) }) s

/-- A mailbox command's flash write has been read back, or has failed. -/
def flashEnd (p : Nat × MbxHdr × Image × Nat) (ok : Bool) (s : State) : State :=
  let op := if p.1 = 0 then 0x0107 else 0x0108
  let s := { s with dwn.flashOp := none }
  if ¬ ok then mbxErr p.2.1 op eInternal (flashCut p.2.2.2 s)
  else
    let s := putSlot p.2.2.2 (some p.2.2.1) s
    let s := if p.1 = 0 then s.raise R.DWN_INT_STATUS_PERSIST_DONE else s
    let s := if p.1 = 2 then prefer p.2.2.2 s else s
    mbxOk p.2.1 op (if 2 ≤ p.2.2.2 then measChanged s else s)

/-- FLASH_WRITE_COMPLETE: the write of a mailbox command, else the oldest one of a Firmware Commit. -/
def flashWriteEnd (ok : Bool) (s : State) : State :=
  match s.dwn.flashOp, s.ce.fwWrites with
  | some p, _ => flashEnd p ok s
  | none, w :: ws => fwWritten w ok { s with ce.fwWrites := ws }
  | none, [] => s

/-! ### The String (R287, R288, R290) -/

/-- PUBLISH: the set goes to the Reel, or its distribution starts here; the reply follows APPLY_EPOCH. -/
def publishGo (total off len : Nat) (img : Image) (h : MbxHdr) (s : State) : State :=
  if strState s ≠ sJoined then mbxErr h 0x0109 eState s
  else if s.str.pub.isSome then mbxErr h 0x0109 eBusy s
  else uploadChunk h 0x0109 0x0109 total off len (fun s =>
    match sectionsErr systemScope img.items img.tables with
    | some c => mbxErr h 0x0109 c s
    | none =>
      if isReel s then
        let gen := sysGen s + 1
        let r := reelPublish total img.items img.tables { s with str.pub := some (h, gen) }
        if r.1 then r.2 else mbxErr h 0x0109 eBusy s
      else
        let vals := total :: img.items.length :: (img.items.flatMap fun i => [i.off, i.val]) ++ img.tables.flatMap fun t => t.1 :: t.2.length :: t.2
        reportAdd subPublish vals { s with str.pub := some (h, 0) }) s

/-- The bytes of a SUMMARY body (Table 11.8). -/
def summaryBytes (b : Summary) : List Nat :=
  leBytes 2 b.unit ++ leBytes 2 b.worstCode ++ leBytes 4 b.lastSeq ++ leBytes 4 b.newRecords ++ leBytes 2 b.notOptimal ++
  leBytes 2 b.down ++ leBytes 4 b.lostTotal ++ [b.tj, b.tet, b.bal, b.role] ++ leBytes 8 b.epoch

/-- The unit at a POS, as the Reel knows it. -/
def unitAt (s : State) (p : Nat) : Option Nat :=
  if p = 0 then some s.unit else (s.str.members.find? fun m => posOf s m.1 = p).map (·.1)

/-- SUMMARY_READ: a device of which no summary has arrived gives zeros. -/
def summaryReadGo (first count : Nat) (h : MbxHdr) (s : State) : State :=
  if ¬ isReel s then mbxErr h 0x0304 eState s
  else if strSize s < first + count then mbxErr h 0x0304 eRange s
  else
    let body := fun p : Nat => match (unitAt s p).bind fun u => s.str.summaries.find? fun b => b.unit = u with
      | some b => summaryBytes b
      | none => List.replicate 32 0
    mbxReply h 0x0304 eOk 0 ((rangeFrom first count).flatMap body) s

/-- The bytes of a directory entry (Table 11.6). -/
def dirBytes (e : DirEntry) : List Nat :=
  leBytes 2 e.unit ++ leBytes 2 e.slot ++ [e.flags, e.role] ++ leBytes 2 e.peer ++ leBytes 8 e.claim ++ leBytes 8 e.configGen ++
  leBytes 2 e.nsCount ++ [e.family] ++ List.replicate 5 0 ++ leBytes 16 e.addr ++ leBytes 8 e.seen ++ List.replicate 8 0

/-- DIRECTORY_READ: an entry never written gives zeros. -/
def directoryReadGo (first count : Nat) (h : MbxHdr) (s : State) : State :=
  if strState s ≠ sJoined then mbxErr h 0x0305 eState s
  else
    let body := fun k : Nat => match s.str.dir.find? fun e => e.slot = k with
      | some e => dirBytes e
      | none => List.replicate 64 0
    mbxReply h 0x0305 eOk 0 ((rangeFrom first count).flatMap body) s

end Sys2Proof.Machine
end

