-- ==== Sys2Proof/Machine/Mailbox.lean ====
section
/-! DEFINITION. The admin mailbox (spec/16_register_map.md, R386 to R394): how requests arrive, wait and start, each command's
lengths and fields (Table 16.8), and the rows of its commands. -/

namespace Sys2Proof.Machine

/-! ### Commands (Table 16.8) -/

/-- A command that may run in the safe state. -/
def safeSpec (op : Nat) (lenOk : Bool) : MbxSpec := { plainSpec op lenOk with safe := true }

/-- A command allowed in the safe state that carries a token. -/
def tokSpec (op : Nat) (lenOk : Bool) (t : Token) : MbxSpec := { safeSpec op lenOk with tok := some t }

/-- A count lies between 1 and `m`. -/
def countOk (n m : Nat) : Bool := decide (1 ≤ n) && decide (n ≤ m)

/-- WSK_READ: bytes of the store in OPEN mode (Table 14.8). -/
def wskReadGo (off len : Nat) (h : MbxHdr) (s : State) : State :=
  if ¬ wskIsOpen s then mbxErr h 0x0501 eState s
  else if 4080 < len ∨ 2 ^ 20 < off + len then mbxErr h 0x0501 eRange s
  else if wskBad s off len then mbxErr h 0x0501 eInternal s
  else mbxReply h 0x0501 eOk 0 (wskBytes s off len) s

/-- WSK_CLEAR: at once, or after the record being staged has committed (R356). SCOPE 0 in `clearing` marks a clear whose
CLEARED record is staged. -/
def wskClearGo (scope slot : Nat) (h : MbxHdr) (s : State) : State :=
  if s.wsk.clearing.isSome then mbxErr h 0x0502 eBusy s
  else if s.wsk.staged.isSome then { s with wsk.clearing := some (h, scope, slot) }
  else wskClearNow scope slot { s with wsk.clearing := some (h, 0, slot) }

/-- The staged record commits; a clear that waits for it runs, a clear whose record it is completes. -/
def doWskRecordCommit (s : State) : State :=
  match s.wsk.staged with
  | none => s
  | some r =>
    let s := recCommit r s
    match s.wsk.clearing with
    | none => s
    | some (h, scope, slot) =>
      if scope ≠ 0 then wskClearNow scope slot { s with wsk.clearing := some (h, 0, slot) }
      else if r.code = 2 then mbxOk h 0x0502 ({ s with wsk.clearing := none }.raise R.WSK_INT_STATUS_CLEARED)
      else s

/-- The codes of Table 16.8. -/
def mbxCodes : List Nat :=
  [1, 2, 3, 4] ++ rangeFrom 0x0101 9 ++ rangeFrom 0x0201 10 ++ rangeFrom 0x0301 5 ++ rangeFrom 0x0401 5 ++ [0x0501, 0x0502, 0x0601]

/-- The code of a mailbox command. -/
def opOf : MbxOp → Nat
  | .regRead .. => 0x0001
  | .regWrite .. => 0x0002
  | .stepLogRead .. => 0x0003
  | .shutdown .. => 0x0004
  | .shadowWrite .. => 0x0101
  | .shadowTable .. => 0x0102
  | .shadowRead .. => 0x0103
  | .shadowReset .. => 0x0104
  | .launch .. => 0x0105
  | .persistExport .. => 0x0106
  | .persist .. => 0x0107
  | .imageWrite .. => 0x0108
  | .publish .. => 0x0109
  | .nsCreate .. => 0x0201
  | .nsDelete .. => 0x0202
  | .nsList .. => 0x0203
  | .arrayOffline .. => 0x0204
  | .arrayOnline .. => 0x0205
  | .arrayForce .. => 0x0206
  | .arrayReplace .. => 0x0207
  | .arrayCopyback .. => 0x0208
  | .arrayCopybackStop .. => 0x0209
  | .patrolRestart .. => 0x020A
  | .pairForce .. => 0x0301
  | .pairSwitchover .. => 0x0302
  | .pairUnpair .. => 0x0303
  | .summaryRead .. => 0x0304
  | .directoryRead .. => 0x0305
  | .getNonce .. => 0x0401
  | .keyProvision .. => 0x0402
  | .keyRevoke .. => 0x0403
  | .hostkeyEnroll .. => 0x0404
  | .svnAdvance .. => 0x0405
  | .wskRead .. => 0x0501
  | .wskClear .. => 0x0502
  | .night .. => 0x0601
  | .unsupported opc => opc

/-- A command starts: its checks (R388), then its own action. -/
def mbxDo (h : MbxHdr) (op : MbxOp) (s : State) : State :=
  match op with
  | .regRead off n =>
    mbxRunCmd h { safeSpec 0x0001 (h.len = 8 && countOk n 1020) with fieldBad := off % 4 ≠ 0 } (regReadGo off n) s
  | .regWrite off v => mbxRunCmd h { plainSpec 0x0002 (h.len = 8) with fieldBad := off % 4 ≠ 0 } (regWriteGo off v) s
  | .stepLogRead first n =>
    mbxRunCmd h { safeSpec 0x0003 (h.len = 4 && countOk n 255) with rangeBad := decide (4095 < first) } (stepLogReadGo first n) s
  | .shutdown => mbxRunCmd h (plainSpec 0x0004 (h.len = 0)) shutdownGo s
  | .shadowWrite items => mbxRunCmd h (plainSpec 0x0101 (h.len = 4 + 8 * items.length)) (shadowWriteGo items) s
  | .shadowTable t total off data =>
    mbxRunCmd h { plainSpec 0x0102 (h.len = 12 + data.length) with
      fieldBad := ¬ [1, 2].contains t, rangeBad := ¬ uploadFits (tableMax t) total off data.length } (shadowTableGo t total off data) s
  | .shadowRead t off n =>
    mbxRunCmd h { plainSpec 0x0103 (h.len = 12 && countOk n (if isTable t then 4080 else 1020)) with
      fieldBad := shadowReadBad t off n } (shadowReadGo t off n) s
  | .shadowReset => mbxRunCmd h (plainSpec 0x0104 (h.len = 0)) shadowResetGo s
  | .launch => mbxRunCmd h (plainSpec 0x0105 (h.len = 0)) launchGo s
  | .persistExport off => mbxRunCmd h (plainSpec 0x0106 (h.len = 4)) (persistExportGo off) s
  | .persist total off len img =>
    mbxRunCmd h { plainSpec 0x0107 (h.len = 8 + len) with rangeBad := ¬ uploadFits (2 * 2 ^ 20) total off len }
      (persistGo total off len img) s
  | .imageWrite slot pref total off len img =>
    mbxRunCmd h { safeSpec 0x0108 (h.len = 12 + len) with
      fieldBad := decide (2 < slot) || decide (1 < pref) || (slot = 2 && pref = 1),
      rangeBad := ¬ uploadFits ((if slot = 2 then 2 else 28) * 2 ^ 20) total off len } (imageWriteGo slot pref total off len img) s
  | .publish total off len img =>
    mbxRunCmd h { plainSpec 0x0109 (h.len = 8 + len) with time := true, rangeBad := ¬ uploadFits 327680 total off len }
      (publishGo total off len img) s
  | .nsCreate a flags lbaf nsze base =>
    mbxRunCmd h { arraySpec 0x0201 20 h a with fieldBad := decide (1 < flags) || decide (1 < lbaf) } (nsCreateGo a flags lbaf nsze base) s
  | .nsDelete nsid => mbxRunCmd h (plainSpec 0x0202 (h.len = 4)) (nsDeleteGo nsid) s
  | .nsList first n => mbxRunCmd h (plainSpec 0x0203 (h.len = 4 && countOk n 127)) (nsListGo first n) s
  | .arrayOffline a => mbxRunCmd h (arraySpec 0x0204 1 h a) (arrayOfflineGo a) s
  | .arrayOnline a => mbxRunCmd h (arraySpec 0x0205 1 h a) (arrayOnlineGo a) s
  | .arrayForce a => mbxRunCmd h (arraySpec 0x0206 1 h a) (arrayForceGo a) s
  | .arrayReplace a m p sub => mbxRunCmd h (memberSpec 0x0207 h a m p sub) (arrayReplaceGo a m p sub) s
  | .arrayCopyback a m p sub => mbxRunCmd h (memberSpec 0x0208 h a m p sub) (arrayCopybackGo a m p sub) s
  | .arrayCopybackStop a => mbxRunCmd h (arraySpec 0x0209 1 h a) (arrayCopybackStopGo a) s
  | .patrolRestart a => mbxRunCmd h (arraySpec 0x020A 1 h a) (patrolRestartGo a) s
  | .pairForce t => pairForceDo h t s
  | .pairSwitchover => pairSwitchoverDo h s
  | .pairUnpair => pairUnpairDo h s
  | .summaryRead first n => mbxRunCmd h (plainSpec 0x0304 (h.len = 4 && countOk n 127)) (summaryReadGo first n) s
  | .directoryRead first n =>
    mbxRunCmd h { plainSpec 0x0305 (h.len = 4 && countOk n 63) with rangeBad := decide (1024 < first + n) } (directoryReadGo first n) s
  | .getNonce => mbxRunCmd h (safeSpec 0x0401 (h.len = 0)) getNonceGo s
  | .keyProvision slot key t =>
    let c := customerSet s
    mbxRunCmd h { safeSpec 0x0402 (h.len = if c then 240 else 120) with rangeBad := decide (3 < slot), tok := if c then some t else none }
      (keyProvisionGo slot key) s
  | .keyRevoke slot t => mbxRunCmd h { tokSpec 0x0403 (h.len = 128) t with rangeBad := decide (4 < slot) } (keyRevokeGo slot) s
  | .hostkeyEnroll key t => mbxRunCmd h (tokSpec 0x0404 (h.len = 224) t) (hostkeyEnrollGo key) s
  | .svnAdvance t => mbxRunCmd h (tokSpec 0x0405 (h.len = 120) t) svnAdvanceGo s
  | .wskRead off len => mbxRunCmd h (safeSpec 0x0501 (h.len = 8)) (wskReadGo off len) s
  | .wskClear scope t =>
    mbxRunCmd h { plainSpec 0x0502 (h.len = 128) with fieldBad := scope = 0 || decide (3 < scope), tok := some t }
      (wskClearGo scope t.slot) s
  | .night => mbxRunCmd h (plainSpec 0x0601 (h.len = 0)) nightGo s
  | .unsupported opc => mbxErr { h with resvBad := false } opc (if 4080 < h.len then eRange else eUnsup) s

/-! ### Arrival, waiting, starting (R386, R389 to R391) -/

/-- Commands start: not before the end of DAWN_S02 unless the device is in the safe state, and not once PFAIL_N has been
recognised (R213). -/
def mbxServes (s : State) : Bool := (s.safe || decide (3 ≤ s.dwn.step)) && ¬ s.pwr.dumping && decide (s.rd R.BAL_STATUS_STATE < 2)

/-- A command starts in a free place. -/
def mbxStart (q : MbxReq) (s : State) : State :=
  mbxDo q.h q.op { s with mbx.run := s.mbx.run ++ [⟨{ q.h with resvBad := false }, opOf q.op⟩] }

/-- Waiting commands start in their order while places are free. -/
def mbxPumpN : Nat → State → State
  | 0, s => s
  | n + 1, s =>
    match s.mbx.wait with
    | [] => s
    | q :: l => if s.mbx.run.length < mbxPlaces ∧ mbxServes s then mbxPumpN n (mbxStart q { s with mbx.wait := l }) else s

/-- Bring the mailbox up to date after places may have become free. -/
def mbxPump (s : State) : State := mbxPumpN s.mbx.wait.length s

/-- A request waits in arrival order, or starts at once. -/
def mbxTake (q : MbxReq) (s : State) : State := mbxPump { s with mbx.wait := s.mbx.wait ++ [q] }

/-- A sender is an MCTP endpoint; with a number, that one. -/
def isMctp (ep : Option Nat) (x : MbxSrc) : Bool :=
  match x with
  | .mctp e _ => ep.isNone || ep = some e
  | .bank _ => false

/-- MCTP requests that wait. -/
def mctpWaiting (s : State) : Nat := (s.mbx.wait.filter fun q => isMctp none q.h.src).length

/-- An endpoint's request is outstanding. -/
def mctpOpen (s : State) (ep : Nat) : Bool :=
  (s.mbx.run.any fun r => isMctp (some ep) r.h.src) || s.mbx.wait.any fun q => isMctp (some ep) q.h.src

/-- A request arrives. From a bank this is its doorbell, or the execution of a doorbell already written; from an endpoint a
message. -/
def mbxArrive (h : MbxHdr) (op : MbxOp) (s : State) : State :=
  match h.src with
  | .bank b =>
    if ¬ barUp s b then s
    else if s.mbx.rung.contains b then mbxTake ⟨h, op⟩ { s with mbx.rung := s.mbx.rung.filter (· ≠ b) }
    else if s.on (R.MBX_STATUS_BUSY b) then s.wr (R.MBX_STATUS_LAST_ERR b) eBusy
    else mbxTake ⟨h, op⟩ ((s.wr (R.MBX_STATUS_BUSY b) 1).wr (R.MBX_STATUS_DONE b) 0)
  | .mctp ep _ =>
    if mctpOpen s ep ∨ (16 ≤ mctpWaiting s ∧ ¬ (s.mbx.run.length < mbxPlaces ∧ s.mbx.wait.isEmpty)) then
      replyTo { h with resvBad := false } (opOf op) eBusy 0 [] s
    else mbxTake ⟨h, op⟩ s

/-- MBX_UNSUPPORTED_OPCODE: a code that Table 16.8 does not hold. -/
def doMbxUnsupportedOpcode (h : MbxHdr) (opc : Nat) (s : State) : State :=
  if mbxCodes.contains opc then s else mbxArrive h (.unsupported opc) s

/-! ### Rows -/

def execRegRead (h : MbxHdr) (off count : Nat) (s : State) : Out := live s (mbxArrive h (.regRead off count) s)
def execRegWrite (h : MbxHdr) (off v : Nat) (s : State) : Out := live s (mbxArrive h (.regWrite off v) s)
def execStepLogRead (h : MbxHdr) (first count : Nat) (s : State) : Out := live s (mbxArrive h (.stepLogRead first count) s)
def execShutdown (h : MbxHdr) (s : State) : Out := live s (mbxArrive h .shutdown s)
def execShadowWrite (h : MbxHdr) (items : List CfgItem) (s : State) : Out := live s (mbxArrive h (.shadowWrite items) s)
def execShadowTable (h : MbxHdr) (table total off : Nat) (data : List Nat) (s : State) : Out :=
  live s (mbxArrive h (.shadowTable table total off data) s)
def execShadowRead (h : MbxHdr) (target off count : Nat) (s : State) : Out := live s (mbxArrive h (.shadowRead target off count) s)
def execShadowReset (h : MbxHdr) (s : State) : Out := live s (mbxArrive h .shadowReset s)
def execLaunch (h : MbxHdr) (s : State) : Out := live s (mbxArrive h .launch s)
def execPersistExport (h : MbxHdr) (off : Nat) (s : State) : Out := live s (mbxArrive h (.persistExport off) s)
def execPersist (h : MbxHdr) (total off len : Nat) (img : Image) (s : State) : Out :=
  live s (mbxArrive h (.persist total off len img) s)
def execImageWrite (h : MbxHdr) (slot pref total off len : Nat) (img : Image) (s : State) : Out :=
  live s (mbxArrive h (.imageWrite slot pref total off len img) s)
def execPublish (h : MbxHdr) (total off len : Nat) (img : Image) (s : State) : Out :=
  live s (mbxArrive h (.publish total off len img) s)
def execNsCreate (h : MbxHdr) (a flags lbaf nsze base : Nat) (s : State) : Out :=
  live s (mbxArrive h (.nsCreate a flags lbaf nsze base) s)
def execNsDelete (h : MbxHdr) (nsid : Nat) (s : State) : Out := live s (mbxArrive h (.nsDelete nsid) s)
def execNsList (h : MbxHdr) (first count : Nat) (s : State) : Out := live s (mbxArrive h (.nsList first count) s)
def execArrayOffline (h : MbxHdr) (a : Nat) (s : State) : Out := live s (mbxArrive h (.arrayOffline a) s)
def execArrayOnline (h : MbxHdr) (a : Nat) (s : State) : Out := live s (mbxArrive h (.arrayOnline a) s)
def execArrayForce (h : MbxHdr) (a : Nat) (s : State) : Out := live s (mbxArrive h (.arrayForce a) s)
def execArrayReplace (h : MbxHdr) (a m p sub : Nat) (s : State) : Out := live s (mbxArrive h (.arrayReplace a m p sub) s)
def execArrayCopyback (h : MbxHdr) (a m p sub : Nat) (s : State) : Out := live s (mbxArrive h (.arrayCopyback a m p sub) s)
def execArrayCopybackStop (h : MbxHdr) (a : Nat) (s : State) : Out := live s (mbxArrive h (.arrayCopybackStop a) s)
def execPatrolRestart (h : MbxHdr) (a : Nat) (s : State) : Out := live s (mbxArrive h (.patrolRestart a) s)
def execPairForce (h : MbxHdr) (t : Token) (s : State) : Out := live s (mbxArrive h (.pairForce t) s)
def execPairSwitchover (h : MbxHdr) (s : State) : Out := live s (mbxArrive h .pairSwitchover s)
def execPairUnpair (h : MbxHdr) (s : State) : Out := live s (mbxArrive h .pairUnpair s)
def execSummaryRead (h : MbxHdr) (first count : Nat) (s : State) : Out := live s (mbxArrive h (.summaryRead first count) s)
def execDirectoryRead (h : MbxHdr) (first count : Nat) (s : State) : Out := live s (mbxArrive h (.directoryRead first count) s)
def execGetNonce (h : MbxHdr) (s : State) : Out := live s (mbxArrive h .getNonce s)
def execKeyProvision (h : MbxHdr) (slot key : Nat) (t : Token) (s : State) : Out := live s (mbxArrive h (.keyProvision slot key t) s)
def execKeyRevoke (h : MbxHdr) (slot : Nat) (t : Token) (s : State) : Out := live s (mbxArrive h (.keyRevoke slot t) s)
def execHostkeyEnroll (h : MbxHdr) (key : Nat) (t : Token) (s : State) : Out := live s (mbxArrive h (.hostkeyEnroll key t) s)
def execSvnAdvance (h : MbxHdr) (t : Token) (s : State) : Out := live s (mbxArrive h (.svnAdvance t) s)
def execWskRead (h : MbxHdr) (off len : Nat) (s : State) : Out := live s (mbxArrive h (.wskRead off len) s)
def execWskClear (h : MbxHdr) (scope : Nat) (t : Token) (s : State) : Out := live s (mbxArrive h (.wskClear scope t) s)
def execNight (h : MbxHdr) (s : State) : Out := live s (mbxArrive h .night s)
def execMbxUnsupportedOpcode (h : MbxHdr) (opc : Nat) (s : State) : Out := live s (doMbxUnsupportedOpcode h opc s)
def execWskRecordCommit (s : State) : Out := live s (mbxPump (doWskRecordCommit s))
def execFlashWriteComplete (ok : Bool) (s : State) : Out := live s (mbxPump (flashWriteEnd ok s))
def execOtpProgramComplete (ok : Bool) (s : State) : Out := live s (mbxPump (otpProgramEnd ok s))

end Sys2Proof.Machine
end

