-- ==== Sys2Proof/Machine/Epoch.lean ====
section
/-! DEFINITION. The epoch boundary (R25, R34, R36 to R38, Table 2.3): the counter, and what a boundary does in its order. -/

namespace Sys2Proof.Machine

/-! ### Order 1: the counter (R36) -/

/-- The counter takes `n` epochs beyond the next one: STEPPED, and TIME_STEP (Table 14.6). -/
def stepCounter (n : Nat) (s : State) : State :=
  ({ s with tet.epoch := s.tet.epoch + 1 + n, tet.stepAhead := 0, tet.forceStep := false }.raise R.TET_INT_STATUS_STEPPED).event
    0x4700 0 (leBytes 8 n)

/-- The counter advances; a step that is permitted is taken, and the source that waited for it is locked. -/
def counterAdvance (s : State) : State :=
  match s.tet.awaiting with
  | some (src, n) =>
    if stepPermitted s then tetLock src (stepCounter n s) else { s with tet.epoch := s.tet.epoch + 1 }
  | none => if s.tet.stepAhead = 0 then { s with tet.epoch := s.tet.epoch + 1 } else stepCounter s.tet.stepAhead s

/-! ### Order 9: alarms (R37, R46) -/

/-- Alarm `n` has been reached. -/
def alarmDue (s : State) (n : Nat) : Bool := s.on (R.TET_ALARMn_CTRL_EN n) && decide (alarmTarget s n ≤ s.tet.epoch)

/-- Put an alarm behind those whose target is not later. -/
def alarmIns (s : State) (n : Nat) : List Nat → List Nat
  | [] => [n]
  | x :: xs => if alarmTarget s x ≤ alarmTarget s n then x :: alarmIns s n xs else n :: x :: xs

/-- The alarms that fire, in the order of their targets. -/
def alarmsDue (s : State) : List Nat := ((List.range 8).filter (alarmDue s)).foldl (fun l n => alarmIns s n l) []

/-- Alarm `n` fires: its targets, and its next target or the end of a one-shot. A periodic alarm runs once for all the
occurrences that have passed. -/
def alarmFire (n : Nat) (s : State) : State :=
  let s := if s.on (R.TET_ALARMn_CTRL_T_INT n) then s.raise R.TET_INT_STATUS_ALARM (2 ^ n) else s
  let s := if s.on (R.TET_ALARMn_CTRL_T_SPOOL n) then splTrigAll 2 n s else s
  let s := if s.on (R.TET_ALARMn_CTRL_T_WAKE n) then doWakeEvent 2 s else s
  let p := s.rd (R.TET_ALARMn_CTRL_PERIOD n)
  let t := alarmTarget s n
  if p = 0 then s.wr (R.TET_ALARMn_CTRL_EN n) 0 else setAlarmTarget n (t + p * ((s.tet.epoch - t) / p + 1)) s

/-- The alarms of a boundary that are due before an epoch. -/
def alarmsBefore (e : Nat) (s : State) : State := s.each ((alarmsDue s).filter fun n => alarmTarget s n < e) fun s n => alarmFire n s

/-- The alarms of a boundary. -/
def alarmsFire (s : State) : State := alarmsBefore (s.tet.epoch + 1) s

/-! ### What the engines do at a boundary -/

/-- PCIe queues that wait: one that waited through the whole epoch without a fetch is counted; unused credits of fabric
queues grow an epoch older (R142). -/
def queuesBoundary (s : State) : State :=
  let stuckQ := s.ce.queues.any fun q => decide (q.ctrl < 16) && q.throttledFull && decide (0 < q.waiting)
  let s := if stuckQ then (s.raise R.HPT_CE_INT_STATUS_SQ_THROTTLE).incWrap R.HPT_CE_CNT_THROTTLE_EPOCHS else s
  let w := if queueWaiting s then s.ce.waitEpochs + 1 else s.ce.waitEpochs
  { s with
    ce.waitEpochs := w
    ce.queues := s.ce.queues.map fun (q : Queue) =>
      { q with throttledFull := decide (q.ctrl < 16) && decide (0 < q.waiting), usedLast := false, idle := if 0 < q.credits then q.idle + 1 else q.idle } }

/-- The configured layout is taken once no dirty page remains (R216). -/
def layoutBoundary (s : State) : State :=
  if s.on R.BSK_STATUS_LAYOUT_HELD ∧ dirtyPages s = 0 ∧ bskUp s then
    (layoutConfigured { s with bsk.clean := [] }).wr R.BSK_STATUS_LAYOUT_HELD 0
  else s

/-- HELLO goes out every epoch while the roles are chosen (R315). -/
def helloBoundary (s : State) : State :=
  if s.dwn.step = 12 ∧ ¬ s.safe ∧ s.on R.SPR_CFG_EN then helloSend s else s

/-! ### Gauges sampled by the epoch (Table 14.4) -/

/-- A gauge whose value the model does not hold takes a free sample. -/
def gaugeFree (g : Nat) (s : State) : State := (s.gauge g (s.freeNat 32)).useFree

/-- Gauges of every epoch. -/
def gaugesEpoch (s : State) : State :=
  let s := s.gauge 5 (s.ce.queues.map (heldBy s)).sum
  let s := s.gauge 6 (sharedFree s)
  let s := s.gauge 7 (dirtyPages s)
  let s := s.gauge 8 (ringFree s)
  let s := if isReel s then s.gauge 13 s.str.collector.length else s
  let s := s.gauge 14 s.bsk.destaged
  let s := s.each ((List.range 16).filter (arrOn s)) fun s a => s.gauge (80 + a) (s.arr a).reconReads
  let s := (rangeFrom 116 6).foldl (fun s g => gaugeFree g s) s
  { s with bsk.destaged := 0, arrs := s.arrs.map fun (r : Arr) => { r with reconReads := 0 } }

/-- Gauges of every 1,024 epochs. -/
def gaugesCheckpoint (s : State) : State :=
  let s := s.gauge 12 (s.rd R.PWR_THERM_TJ)
  let s := s.gauge 15 s.ce.waitEpochs
  let s := s.each ((List.range 16).filter (arrOn s)) fun s a => s.gauge (96 + a) (s.arr a).patrolled
  let tx := (List.range 4).map fun p => s.rd (R.FAB_Pp_PAUSE_TX_EPOCHS p)
  let s := s.each (List.range 4) fun s p =>
    s.gauge (112 + p) ((s.rd (R.FAB_Pp_PAUSE_TX_EPOCHS p) + 2 ^ 32 - s.fab.txMark.getD p 0) % 2 ^ 32)
  { s with ce.waitEpochs := 0, fab.txMark := tx, arrs := s.arrs.map fun (r : Arr) => { r with patrolled := 0 } }

/-! ### The boundary -/

/-- The epoch that ends: watermarks that moved, idle epochs, the queues. -/
def epochClose (s : State) : State :=
  let s := queuesBoundary (duskCount (progressWrite s))
  { s with ce.cmdsEpoch := 0 }

/-- The actions of Table 2.3 in their order. `crossed` says that the epoch is a multiple of 1,024. -/
def epochActions (crossed : Bool) (s : State) : State :=
  let s := actSwitch (configBoundary s)                         -- 2
  let s := dayEvaluate s                                        -- 3
  let s := pairBoundary (helloBoundary s)                       -- 4, 5
  let s := strBoundary s                                        -- 6
  let s := tailsForced (if crossed then tailCheckpoint s else s) -- 7
  let s := budgetCompute s                                      -- 8
  splBoundary (alarmsFire s)                                    -- 9, 10

/-- Work that fell due in the epochs that a step from `old` skipped runs first, in the order of its due epoch: alarms, and a checkpoint
once (R37). -/
def skippedWork (old : Nat) (s : State) : State :=
  if s.tet.epoch ≤ old + 1 then s else
  let c := (old / 1024 + 1) * 1024
  let s := if c < s.tet.epoch then tailsForced (tailCheckpoint (alarmsBefore c s)) else s
  alarmsBefore s.tet.epoch s

/-- In NIGHT the counter goes on in AON, and an alarm marked as a wake source wakes the device (R34). -/
def nightEpoch (s : State) : State :=
  let s := { s with tet.epoch := s.tet.epoch + 1 }
  if (List.range 8).any fun n => alarmDue s n && s.on (R.TET_ALARMn_CTRL_T_WAKE n) then doWakeEvent 2 s else s

/-- EPOCH_BOUNDARY: none while the device has no power, is held in reset, or has not passed POWER_GOOD. -/
def doEpochBoundary (s : State) : State :=
  if ¬ s.pwr.powered ∨ s.pwr.rstHeld ∨ s.pwr.tripHeld ∨ s.dwn.step = 0 then s
  else if s.pwr.inNight then nightEpoch s
  else
    let old := s.tet.epoch
    let s := counterAdvance (epochClose s)
    let crossed := decide (old / 1024 < s.tet.epoch / 1024)
    let s := layoutBoundary (pfcBoundary (epochActions (s.tet.epoch % 1024 = 0) (skippedWork old s)))
    let s := gaugesEpoch s
    let s := if crossed then gaugesCheckpoint s else s
    mbxPump (nsDeletePoll s)

def execEpochBoundary (s : State) : Out := fin (doEpochBoundary s)

end Sys2Proof.Machine
end

