-- ==== Sys2Proof/Machine/TestPort.lean ====
section
/-! DEFINITION. The test port (R416). -/

namespace Sys2Proof.Machine

/-- IDCODE: version 1, part 0x9600, manufacturer 0x5A3. -/
def idcode : Nat := 0x19600B47

/-- The port holds an instruction. -/
def jtagHold (k : Nat) (s : State) : State := { s with jtag := { s.jtag with ins := k, highz := decide (k = 4) } }

/-- An instruction of R416, or the assertion of JTAG_TRST_N, which resets the test logic only. Any other instruction is a
part of the standard that the chapter does not state as supported (R9): it changes nothing, whatever DEBUG_LOCK says. -/
def doJtag (i : JtagIns) (s : State) : State :=
  match i with
  | .idcode => (jtagHold 0 s).emit (.tdo idcode)
  | .bypass => jtagHold 1 s
  | .samplePreload => jtagHold 2 s
  | .extest outs => ({ s with jtag := ⟨3, outs, false⟩ }).each outs fun s p => s.emit (.pin p.1 p.2)
  | .highz => jtagHold 4 s
  | .clamp => (jtagHold 5 s).each s.jtag.outs fun s p => s.emit (.pin p.1 p.2)
  | .debug _ => s
  | .trst => { s with jtag := State.reset.jtag }

/-- The test logic works while the device has power, also while it is held in reset. -/
def execJtagInstruction (i : JtagIns) (s : State) : Out :=
  if ¬ s.pwr.powered then fin s
  else fin (doJtag i s)

end Sys2Proof.Machine
end

