-- ==== Sys2Proof/Machine/Dispatch.lean ====
section
/-! DEFINITION. The meaning of each command: one arm per constructor of `Instr`. -/

namespace Sys2Proof.Machine

/-- The effect of one command on everything but the queue. -/
def exec (i : Instr) (s : State) : Host.Outcome State Fault Refusal :=
  match i with
  | .epochBoundary => Sys2Proof.Machine.execEpochBoundary s
  | .tailCopyCheckpoint => Sys2Proof.Machine.execTailCopyCheckpoint s
  | .tailCopyDone a reached => Sys2Proof.Machine.execTailCopyDone a reached s
  | .regionMapUpdateDone a region => Sys2Proof.Machine.execRegionMapUpdateDone a region s
  | .sealCheckpoint => Sys2Proof.Machine.execSealCheckpoint s
  | .soloRateRefresh a reb pat cb dst => Sys2Proof.Machine.execSoloRateRefresh a reb pat cb dst s
  | .gaugeStoreWrite => Sys2Proof.Machine.execGaugeStoreWrite s
  | .duskEnter => Sys2Proof.Machine.execDuskEnter s
  | .duskExit => Sys2Proof.Machine.execDuskExit s
  | .sourceSignalPresent src => Sys2Proof.Machine.execSourceSignalPresent src s
  | .sourceRetry => Sys2Proof.Machine.execSourceRetry s
  | .ptpSync offsetNs => Sys2Proof.Machine.execPtpSync offsetNs s
  | .ptpAnnounce rank utcOffset => Sys2Proof.Machine.execPtpAnnounce rank utcOffset s
  | .ppsEdge => Sys2Proof.Machine.execPpsEdge s
  | .sourceLockCriterionMet src offsetNs => Sys2Proof.Machine.execSourceLockCriterionMet src offsetNs s
  | .sourceLoss src => Sys2Proof.Machine.execSourceLoss src s
  | .holdMaxExpire => Sys2Proof.Machine.execHoldMaxExpire s
  | .forceStep => Sys2Proof.Machine.execForceStep s
  | .acquire => Sys2Proof.Machine.execAcquire s
  | .tetClrErr => Sys2Proof.Machine.execTetClrErr s
  | .todArm v => Sys2Proof.Machine.execTodArm v s
  | .alarmArm n reg v => Sys2Proof.Machine.execAlarmArm n reg v s
  | .dayOverrideWrite v => Sys2Proof.Machine.execDayOverrideWrite v s
  | .sqFetch c q avail => Sys2Proof.Machine.execSqFetch c q avail s
  | .capsuleReceipt c q bytes => Sys2Proof.Machine.execCapsuleReceipt c q bytes s
  | .creditWithdraw c q => Sys2Proof.Machine.execCreditWithdraw c q s
  | .contextGrant => Sys2Proof.Machine.execContextGrant s
  | .adminContextGrant => Sys2Proof.Machine.execAdminContextGrant s
  | .stripeLockGrant => Sys2Proof.Machine.execStripeLockGrant s
  | .basketAdmit => Sys2Proof.Machine.execBasketAdmit s
  | .sparShareAdmit => Sys2Proof.Machine.execSparShareAdmit s
  | .ringSpaceAdmit => Sys2Proof.Machine.execRingSpaceAdmit s
  | .envAllocationGrant => Sys2Proof.Machine.execEnvAllocationGrant s
  | .evictionBufferGrant => Sys2Proof.Machine.execEvictionBufferGrant s
  | .savePageGrant => Sys2Proof.Machine.execSavePageGrant s
  | .orderedStart c q => Sys2Proof.Machine.execOrderedStart c q s
  | .read h nsid slba nlb f => Sys2Proof.Machine.execRead h nsid slba nlb f s
  | .write h nsid slba data f => Sys2Proof.Machine.execWrite h nsid slba data f s
  | .orderedWrite h nsid slba data f => Sys2Proof.Machine.execOrderedWrite h nsid slba data f s
  | .orderedRead h nsid slba nlb f => Sys2Proof.Machine.execOrderedRead h nsid slba nlb f s
  | .flush h nsid => Sys2Proof.Machine.execFlush h nsid s
  | .writeZeroes h nsid slba nlb deac f => Sys2Proof.Machine.execWriteZeroes h nsid slba nlb deac f s
  | .datasetManagement h nsid ad ranges f => Sys2Proof.Machine.execDatasetManagement h nsid ad ranges f s
  | .reservationRegister h nsid rrega iekey crkey nrkey cptpl => Sys2Proof.Machine.execReservationRegister h nsid rrega iekey crkey nrkey cptpl s
  | .reservationReport h nsid => Sys2Proof.Machine.execReservationReport h nsid s
  | .reservationAcquire h nsid racqa rtype crkey prkey iekey => Sys2Proof.Machine.execReservationAcquire h nsid racqa rtype crkey prkey iekey s
  | .reservationRelease h nsid rrela rtype crkey iekey => Sys2Proof.Machine.execReservationRelease h nsid rrela rtype crkey iekey s
  | .getLogPage h nsid lid offset len => Sys2Proof.Machine.execGetLogPage h nsid lid offset len s
  | .identify h cns nsid => Sys2Proof.Machine.execIdentify h cns nsid s
  | .abort h sq cid => Sys2Proof.Machine.execAbort h sq cid s
  | .setFeatures h fid nsid v save => Sys2Proof.Machine.execSetFeatures h fid nsid v save s
  | .getFeatures h fid v => Sys2Proof.Machine.execGetFeatures h fid v s
  | .asynchronousEventRequest h => Sys2Proof.Machine.execAsynchronousEventRequest h s
  | .firmwareImageDownload h offset len img => Sys2Proof.Machine.execFirmwareImageDownload h offset len img s
  | .firmwareCommit h slot action => Sys2Proof.Machine.execFirmwareCommit h slot action s
  | .fwActivationCheckDone ok => Sys2Proof.Machine.execFwActivationCheckDone ok s
  | .fwActivationDrainDone => Sys2Proof.Machine.execFwActivationDrainDone s
  | .fwActivationResume pauseMs => Sys2Proof.Machine.execFwActivationResume pauseMs s
  | .formatNvm h nsid lbaf ses => Sys2Proof.Machine.execFormatNvm h nsid lbaf ses s
  | .formatProgressStep => Sys2Proof.Machine.execFormatProgressStep s
  | .sanitizeBlockErase h => Sys2Proof.Machine.execSanitizeBlockErase h s
  | .sanitizeOverwrite h owpass oipbp ovrpat => Sys2Proof.Machine.execSanitizeOverwrite h owpass oipbp ovrpat s
  | .sanitizeExitFailureMode h => Sys2Proof.Machine.execSanitizeExitFailureMode h s
  | .sanitizeProgressStep => Sys2Proof.Machine.execSanitizeProgressStep s
  | .createIoSq h qid qsize cqid => Sys2Proof.Machine.execCreateIoSq h qid qsize cqid s
  | .deleteIoSq h qid => Sys2Proof.Machine.execDeleteIoSq h qid s
  | .createIoCq h qid qsize iv => Sys2Proof.Machine.execCreateIoCq h qid qsize iv s
  | .deleteIoCq h qid => Sys2Proof.Machine.execDeleteIoCq h qid s
  | .keepAlive h => Sys2Proof.Machine.execKeepAlive h s
  | .keepAliveTimeout c => Sys2Proof.Machine.execKeepAliveTimeout c s
  | .connect r => Sys2Proof.Machine.execConnect r s
  | .propertyGet h ofst => Sys2Proof.Machine.execPropertyGet h ofst s
  | .propertySet h ofst v => Sys2Proof.Machine.execPropertySet h ofst v s
  | .disconnect h => Sys2Proof.Machine.execDisconnect h s
  | .ccEnSet c => Sys2Proof.Machine.execCcEnSet c s
  | .controllerReset c => Sys2Proof.Machine.execControllerReset c s
  | .memberCompletion id status => Sys2Proof.Machine.execMemberCompletion id status s
  | .memberReadError id lbas => Sys2Proof.Machine.execMemberReadError id lbas s
  | .readRepair a stripe writeOk => Sys2Proof.Machine.execReadRepair a stripe writeOk s
  | .hedgeExpire id => Sys2Proof.Machine.execHedgeExpire id s
  | .memberTimeout id => Sys2Proof.Machine.execMemberTimeout id s
  | .memberControllerReadyTimeout drv => Sys2Proof.Machine.execMemberControllerReadyTimeout drv s
  | .memberMissing losses => Sys2Proof.Machine.execMemberMissing losses s
  | .sliceResidueFail slice rerunFails => Sys2Proof.Machine.execSliceResidueFail slice rerunFails s
  | .engineJobRetire slice => Sys2Proof.Machine.execEngineJobRetire slice s
  | .destageStep a stripe => Sys2Proof.Machine.execDestageStep a stripe s
  | .rebuildTargetAssign a member drv => Sys2Proof.Machine.execRebuildTargetAssign a member drv s
  | .rebuildStep a slot => Sys2Proof.Machine.execRebuildStep a slot s
  | .rebuildComplete a slot => Sys2Proof.Machine.execRebuildComplete a slot s
  | .mapCopy a member => Sys2Proof.Machine.execMapCopy a member s
  | .copybackStep a => Sys2Proof.Machine.execCopybackStep a s
  | .copybackSwap a => Sys2Proof.Machine.execCopybackSwap a s
  | .copybackAutoStart a member => Sys2Proof.Machine.execCopybackAutoStart a member s
  | .patrolStep a => Sys2Proof.Machine.execPatrolStep a s
  | .resyncStep a => Sys2Proof.Machine.execResyncStep a s
  | .arrayOffline h a => Sys2Proof.Machine.execArrayOffline h a s
  | .arrayOnline h a => Sys2Proof.Machine.execArrayOnline h a s
  | .arrayForce h a => Sys2Proof.Machine.execArrayForce h a s
  | .arrayReplace h a member port sub => Sys2Proof.Machine.execArrayReplace h a member port sub s
  | .arrayCopyback h a member port sub => Sys2Proof.Machine.execArrayCopyback h a member port sub s
  | .arrayCopybackStop h a => Sys2Proof.Machine.execArrayCopybackStop h a s
  | .patrolRestart h a => Sys2Proof.Machine.execPatrolRestart h a s
  | .nsCreate h a flags lbaf nsze base => Sys2Proof.Machine.execNsCreate h a flags lbaf nsze base s
  | .nsDelete h nsid => Sys2Proof.Machine.execNsDelete h nsid s
  | .nsList h first count => Sys2Proof.Machine.execNsList h first count s
  | .envEvictionConfirm key => Sys2Proof.Machine.execEnvEvictionConfirm key s
  | .envOffer key => Sys2Proof.Machine.execEnvOffer key s
  | .skirtFillReturn key => Sys2Proof.Machine.execSkirtFillReturn key s
  | .skirtStreamExpire ns next => Sys2Proof.Machine.execSkirtStreamExpire ns next s
  | .envMaintClean v => Sys2Proof.Machine.execEnvMaintClean v s
  | .envMaintInvalidate v => Sys2Proof.Machine.execEnvMaintInvalidate v s
  | .envMaintCleanInval v => Sys2Proof.Machine.execEnvMaintCleanInval v s
  | .scratchOn v => Sys2Proof.Machine.execScratchOn v s
  | .scratchOff v => Sys2Proof.Machine.execScratchOff v s
  | .envDisableWrite v => Sys2Proof.Machine.execEnvDisableWrite v s
  | .envCleanFirstDone => Sys2Proof.Machine.execEnvCleanFirstDone s
  | .envClrErr => Sys2Proof.Machine.execEnvClrErr s
  | .scratchWindowAccess link offset bytes wr len => Sys2Proof.Machine.execScratchWindowAccess link offset bytes wr len s
  | .sramUe kind => Sys2Proof.Machine.execSramUe kind s
  | .sramCe count => Sys2Proof.Machine.execSramCe count s
  | .basketEccError channel lane page kind => Sys2Proof.Machine.execBasketEccError channel lane page kind s
  | .scrubPass => Sys2Proof.Machine.execScrubPass s
  | .scrubNow => Sys2Proof.Machine.execScrubNow s
  | .bskClrErr => Sys2Proof.Machine.execBskClrErr s
  | .bankRefresh => Sys2Proof.Machine.execBankRefresh s
  | .calibrate => Sys2Proof.Machine.execCalibrate s
  | .pfailRecognised => Sys2Proof.Machine.execPfailRecognised s
  | .dumpComplete ms ok => Sys2Proof.Machine.execDumpComplete ms ok s
  | .dumpSelfReset => Sys2Proof.Machine.execDumpSelfReset s
  | .vaultDriveFailure n => Sys2Proof.Machine.execVaultDriveFailure n s
  | .ballastRestore ms badUnits => Sys2Proof.Machine.execBallastRestore ms badUnits s
  | .discard => Sys2Proof.Machine.execDiscard s
  | .balClrErr => Sys2Proof.Machine.execBalClrErr s
  | .hostLinkReset link kind => Sys2Proof.Machine.execHostLinkReset link kind s
  | .hostLinkUp link speed width flit => Sys2Proof.Machine.execHostLinkUp link speed width flit s
  | .flrFunction1 link => Sys2Proof.Machine.execFlrFunction1 link s
  | .hostCompletionTimeout h => Sys2Proof.Machine.execHostCompletionTimeout h s
  | .msixUnmask link vec => Sys2Proof.Machine.execMsixUnmask link vec s
  | .intStatusW1c link source v => Sys2Proof.Machine.execIntStatusW1c link source v s
  | .drivePresence port sub d => Sys2Proof.Machine.execDrivePresence port sub d s
  | .driveBringupTimer port sub => Sys2Proof.Machine.execDriveBringupTimer port sub s
  | .driveLinkUp port sub speed width => Sys2Proof.Machine.execDriveLinkUp port sub speed width s
  | .driveReady port sub => Sys2Proof.Machine.execDriveReady port sub s
  | .driveRemoval port sub => Sys2Proof.Machine.execDriveRemoval port sub s
  | .driveOff port sub => Sys2Proof.Machine.execDriveOff port sub s
  | .driveOn port sub => Sys2Proof.Machine.execDriveOn port sub s
  | .driveLinkEvent port sub kind => Sys2Proof.Machine.execDriveLinkEvent port sub kind s
  | .driveLinkRetrainTimeout port sub => Sys2Proof.Machine.execDriveLinkRetrainTimeout port sub s
  | .reservationConflict a member holder => Sys2Proof.Machine.execReservationConflict a member holder s
  | .cmConnectRequest host p sub => Sys2Proof.Machine.execCmConnectRequest host p sub s
  | .qpRetryExhausted qp => Sys2Proof.Machine.execQpRetryExhausted qp s
  | .ecnCeReceived qp => Sys2Proof.Machine.execEcnCeReceived qp s
  | .cnpReceived qp => Sys2Proof.Machine.execCnpReceived qp s
  | .ccRecover qp => Sys2Proof.Machine.execCcRecover qp s
  | .pfcXoff p sub prio => Sys2Proof.Machine.execPfcXoff p sub prio s
  | .pfcXon p sub prio => Sys2Proof.Machine.execPfcXon p sub prio s
  | .pfcPauseRefresh p sub prio => Sys2Proof.Machine.execPfcPauseRefresh p sub prio s
  | .pfcStorm p sub prio => Sys2Proof.Machine.execPfcStorm p sub prio s
  | .pfcStormEnd p sub prio => Sys2Proof.Machine.execPfcStormEnd p sub prio s
  | .pauseReceived p sub prio quanta => Sys2Proof.Machine.execPauseReceived p sub prio quanta s
  | .fabricLinkEvent p sub ev => Sys2Proof.Machine.execFabricLinkEvent p sub ev s
  | .splStart ch => Sys2Proof.Machine.execSplStart ch s
  | .splStop ch => Sys2Proof.Machine.execSplStop ch s
  | .splResume ch => Sys2Proof.Machine.execSplResume ch s
  | .splAbort ch => Sys2Proof.Machine.execSplAbort ch s
  | .splTrigger ch => Sys2Proof.Machine.execSplTrigger ch s
  | .splTimerTick k => Sys2Proof.Machine.execSplTimerTick k s
  | .splTimerWrite k v => Sys2Proof.Machine.execSplTimerWrite k v s
  | .splDescFetch ch res => Sys2Proof.Machine.execSplDescFetch ch res s
  | .splSerialTurn => Sys2Proof.Machine.execSplSerialTurn s
  | .splBurstDone ch res => Sys2Proof.Machine.execSplBurstDone ch res s
  | .splDescDone ch res => Sys2Proof.Machine.execSplDescDone ch res s
  | .splChainLimit ch => Sys2Proof.Machine.execSplChainLimit ch s
  | .splRequestTimeout ch dir => Sys2Proof.Machine.execSplRequestTimeout ch dir s
  | .splClrErr => Sys2Proof.Machine.execSplClrErr s
  | .stringLinkUp port => Sys2Proof.Machine.execStringLinkUp port s
  | .stringLinkDown port foreign => Sys2Proof.Machine.execStringLinkDown port foreign s
  | .epochFrame h f => Sys2Proof.Machine.execEpochFrame h f s
  | .delayMeasure => Sys2Proof.Machine.execDelayMeasure s
  | .delayReq h t1 => Sys2Proof.Machine.execDelayReq h t1 s
  | .delayResp h t1 t2 t3 t4 => Sys2Proof.Machine.execDelayResp h t1 t2 t3 t4 s
  | .candidate h key unit => Sys2Proof.Machine.execCandidate h key unit s
  | .ringState h size breaks => Sys2Proof.Machine.execRingState h size breaks s
  | .linkFrame h stringId unit slot => Sys2Proof.Machine.execLinkFrame h stringId unit slot s
  | .ack h acked result => Sys2Proof.Machine.execAck h acked result s
  | .offer h gen size applyEpoch digestOk => Sys2Proof.Machine.execOffer h gen size applyEpoch digestOk s
  | .config h gen chunk items tables => Sys2Proof.Machine.execConfig h gen chunk items tables s
  | .stringClaim h role cause clm prev peer => Sys2Proof.Machine.execStringClaim h role cause clm prev peer s
  | .directory h e dirGen => Sys2Proof.Machine.execDirectory h e dirGen s
  | .reportJoin h slot peer sysGen => Sys2Proof.Machine.execReportJoin h slot peer sysGen s
  | .reportLeave h night => Sys2Proof.Machine.execReportLeave h night s
  | .reportLinkDown h east => Sys2Proof.Machine.execReportLinkDown h east s
  | .reportLinkUp h east => Sys2Proof.Machine.execReportLinkUp h east s
  | .reportCensus h slot sysGen upTo => Sys2Proof.Machine.execReportCensus h slot sysGen upTo s
  | .reportGenReady h gen => Sys2Proof.Machine.execReportGenReady h gen s
  | .reportGenReject h gen code => Sys2Proof.Machine.execReportGenReject h gen code s
  | .reportChunkNak h gen missing => Sys2Proof.Machine.execReportChunkNak h gen missing s
  | .reportPublish h size items tables => Sys2Proof.Machine.execReportPublish h size items tables s
  | .reportSummary h body => Sys2Proof.Machine.execReportSummary h body s
  | .reportRetry => Sys2Proof.Machine.execReportRetry s
  | .summaryDue => Sys2Proof.Machine.execSummaryDue s
  | .trainingTimeout => Sys2Proof.Machine.execTrainingTimeout s
  | .leaveTimeout => Sys2Proof.Machine.execLeaveTimeout s
  | .reelLost => Sys2Proof.Machine.execReelLost s
  | .electionEnd => Sys2Proof.Machine.execElectionEnd s
  | .censusEnd => Sys2Proof.Machine.execCensusEnd s
  | .reelect => Sys2Proof.Machine.execReelect s
  | .stgClrErr => Sys2Proof.Machine.execStgClrErr s
  | .stgWake target => Sys2Proof.Machine.execStgWake target s
  | .wakeSequenceSend target => Sys2Proof.Machine.execWakeSequenceSend target s
  | .sparLinkUp lanes => Sys2Proof.Machine.execSparLinkUp lanes s
  | .sparLinkDown => Sys2Proof.Machine.execSparLinkDown s
  | .page addr blk sync => Sys2Proof.Machine.execPage addr blk sync s
  | .records rs sync => Sys2Proof.Machine.execRecords rs sync s
  | .cut epoch firstSeq lastSeq pages records crcOk => Sys2Proof.Machine.execCut epoch firstSeq lastSeq pages records crcOk s
  | .confirm epoch lastSeq => Sys2Proof.Machine.execConfirm epoch lastSeq s
  | .deltaNak => Sys2Proof.Machine.execDeltaNak s
  | .health word => Sys2Proof.Machine.execHealth word s
  | .sparClaim role cause clm prev peer => Sys2Proof.Machine.execSparClaim role cause clm prev peer s
  | .fetchReq addr => Sys2Proof.Machine.execFetchReq addr s
  | .fetchData addr blk => Sys2Proof.Machine.execFetchData addr blk s
  | .handbackReq => Sys2Proof.Machine.execHandbackReq s
  | .handingDrainDone => Sys2Proof.Machine.execHandingDrainDone s
  | .release clm => Sys2Proof.Machine.execRelease clm s
  | .releaseTimeout => Sys2Proof.Machine.execReleaseTimeout s
  | .relinquish => Sys2Proof.Machine.execRelinquish s
  | .actBegin => Sys2Proof.Machine.execActBegin s
  | .actDone => Sys2Proof.Machine.execActDone s
  | .syncBegin seq => Sys2Proof.Machine.execSyncBegin seq s
  | .bulkCopyEnd => Sys2Proof.Machine.execBulkCopyEnd s
  | .syncDone => Sys2Proof.Machine.execSyncDone s
  | .hello h => Sys2Proof.Machine.execHello h s
  | .activeLostDetect => Sys2Proof.Machine.execActiveLostDetect s
  | .preemptComplete => Sys2Proof.Machine.execPreemptComplete s
  | .preemptDeadline => Sys2Proof.Machine.execPreemptDeadline s
  | .soloWaitExpire => Sys2Proof.Machine.execSoloWaitExpire s
  | .holdoffExpire => Sys2Proof.Machine.execHoldoffExpire s
  | .peerWaitExpire => Sys2Proof.Machine.execPeerWaitExpire s
  | .rearm => Sys2Proof.Machine.execRearm s
  | .sprClrErr => Sys2Proof.Machine.execSprClrErr s
  | .pairForce h tok => Sys2Proof.Machine.execPairForce h tok s
  | .pairSwitchover h => Sys2Proof.Machine.execPairSwitchover h s
  | .pairUnpair h => Sys2Proof.Machine.execPairUnpair h s
  | .powerOn beyond straps => Sys2Proof.Machine.execPowerOn beyond straps s
  | .rstN asserted => Sys2Proof.Machine.execRstN asserted s
  | .watchdog => Sys2Proof.Machine.execWatchdog s
  | .powerGood ok => Sys2Proof.Machine.execPowerGood ok s
  | .otpRead ok => Sys2Proof.Machine.execOtpRead ok s
  | .romSelftest ok => Sys2Proof.Machine.execRomSelftest ok s
  | .headerRead ok => Sys2Proof.Machine.execHeaderRead ok s
  | .signature ok => Sys2Proof.Machine.execSignature ok s
  | .fwLoad ok => Sys2Proof.Machine.execFwLoad ok s
  | .basketTrain chans retained => Sys2Proof.Machine.execBasketTrain chans retained s
  | .mramCheck ok banks => Sys2Proof.Machine.execMramCheck ok banks s
  | .replayScan ok => Sys2Proof.Machine.execReplayScan ok s
  | .configApply ok => Sys2Proof.Machine.execConfigApply ok s
  | .serdesCal fails => Sys2Proof.Machine.execSerdesCal fails s
  | .portTrain v0 v1 => Sys2Proof.Machine.execPortTrain v0 v1 s
  | .pairNegotiate => Sys2Proof.Machine.execPairNegotiate s
  | .stringJoin timeout => Sys2Proof.Machine.execStringJoin timeout s
  | .timeLock timeout => Sys2Proof.Machine.execTimeLock timeout s
  | .arrayAssembly => Sys2Proof.Machine.execArrayAssembly s
  | .replayRepair => Sys2Proof.Machine.execReplayRepair s
  | .serviceOpen => Sys2Proof.Machine.execServiceOpen s
  | .clearFails => Sys2Proof.Machine.execClearFails s
  | .restart => Sys2Proof.Machine.execRestart s
  | .dwnClrErr => Sys2Proof.Machine.execDwnClrErr s
  | .secClrErr => Sys2Proof.Machine.execSecClrErr s
  | .gonClrErr => Sys2Proof.Machine.execGonClrErr s
  | .forceTail => Sys2Proof.Machine.execForceTail s
  | .mramUe place => Sys2Proof.Machine.execMramUe place s
  | .strClrErr => Sys2Proof.Machine.execStrClrErr s
  | .hptCeClrErr => Sys2Proof.Machine.execHptCeClrErr s
  | .hptClrErr => Sys2Proof.Machine.execHptClrErr s
  | .fabClrErr => Sys2Proof.Machine.execFabClrErr s
  | .drvClrErr => Sys2Proof.Machine.execDrvClrErr s
  | .wskClrErr => Sys2Proof.Machine.execWskClrErr s
  | .pwrClrErr => Sys2Proof.Machine.execPwrClrErr s
  | .glbClrErr => Sys2Proof.Machine.execGlbClrErr s
  | .mbxClrErr link => Sys2Proof.Machine.execMbxClrErr link s
  | .bar0RegisterWrite link offset size v => Sys2Proof.Machine.execBar0RegisterWrite link offset size v s
  | .mbxReplyBufferWrite link => Sys2Proof.Machine.execMbxReplyBufferWrite link s
  | .wskWindowWrite link => Sys2Proof.Machine.execWskWindowWrite link s
  | .wskEvent => Sys2Proof.Machine.execWskEvent s
  | .wskQueueRoom => Sys2Proof.Machine.execWskQueueRoom s
  | .wskRecordCommit => Sys2Proof.Machine.execWskRecordCommit s
  | .wskRead h offset len => Sys2Proof.Machine.execWskRead h offset len s
  | .wskClear h scope tok => Sys2Proof.Machine.execWskClear h scope tok s
  | .pwrCtrlNight => Sys2Proof.Machine.execPwrCtrlNight s
  | .night h => Sys2Proof.Machine.execNight h s
  | .nightPreparationStep => Sys2Proof.Machine.execNightPreparationStep s
  | .nightAbort cause => Sys2Proof.Machine.execNightAbort cause s
  | .nightCommit => Sys2Proof.Machine.execNightCommit s
  | .nightEntryComplete us => Sys2Proof.Machine.execNightEntryComplete us s
  | .wakeEvent src => Sys2Proof.Machine.execWakeEvent src s
  | .nightExitComplete us failedBanks => Sys2Proof.Machine.execNightExitComplete us failedBanks s
  | .shutdown h => Sys2Proof.Machine.execShutdown h s
  | .thermTrip tj => Sys2Proof.Machine.execThermTrip tj s
  | .thermTripRelease => Sys2Proof.Machine.execThermTripRelease s
  | .thermWarn tj => Sys2Proof.Machine.execThermWarn tj s
  | .regRead h offset count => Sys2Proof.Machine.execRegRead h offset count s
  | .regWrite h offset v => Sys2Proof.Machine.execRegWrite h offset v s
  | .stepLogRead h first count => Sys2Proof.Machine.execStepLogRead h first count s
  | .shadowWrite h items => Sys2Proof.Machine.execShadowWrite h items s
  | .shadowTable h table total offset data => Sys2Proof.Machine.execShadowTable h table total offset data s
  | .shadowRead h target offset count => Sys2Proof.Machine.execShadowRead h target offset count s
  | .shadowReset h => Sys2Proof.Machine.execShadowReset h s
  | .launch h => Sys2Proof.Machine.execLaunch h s
  | .persistExport h offset => Sys2Proof.Machine.execPersistExport h offset s
  | .persist h total offset len img => Sys2Proof.Machine.execPersist h total offset len img s
  | .imageWrite h slot prefer total offset len img => Sys2Proof.Machine.execImageWrite h slot prefer total offset len img s
  | .publish h total offset len img => Sys2Proof.Machine.execPublish h total offset len img s
  | .summaryRead h first count => Sys2Proof.Machine.execSummaryRead h first count s
  | .directoryRead h first count => Sys2Proof.Machine.execDirectoryRead h first count s
  | .getNonce h => Sys2Proof.Machine.execGetNonce h s
  | .keyProvision h slot key tok => Sys2Proof.Machine.execKeyProvision h slot key tok s
  | .keyRevoke h slot tok => Sys2Proof.Machine.execKeyRevoke h slot tok s
  | .hostkeyEnroll h key tok => Sys2Proof.Machine.execHostkeyEnroll h key tok s
  | .svnAdvance h tok => Sys2Proof.Machine.execSvnAdvance h tok s
  | .getVersion r => Sys2Proof.Machine.execGetVersion r s
  | .getCapabilities r => Sys2Proof.Machine.execGetCapabilities r s
  | .negotiateAlgorithms r => Sys2Proof.Machine.execNegotiateAlgorithms r s
  | .getDigests r => Sys2Proof.Machine.execGetDigests r s
  | .getCertificate r slot offset len => Sys2Proof.Machine.execGetCertificate r slot offset len s
  | .challenge r slot => Sys2Proof.Machine.execChallenge r slot s
  | .getMeasurements r index sign => Sys2Proof.Machine.execGetMeasurements r index sign s
  | .respondIfReady r => Sys2Proof.Machine.execRespondIfReady r s
  | .powerLoss => Sys2Proof.Machine.execPowerLoss s
  | .mramCe count => Sys2Proof.Machine.execMramCe count s
  | .maintDone => Sys2Proof.Machine.execMaintDone s
  | .commandParityError channel page second => Sys2Proof.Machine.execCommandParityError channel page second s
  | .loRegisterRead link offset => Sys2Proof.Machine.execLoRegisterRead link offset s
  | .standbyRejoin => Sys2Proof.Machine.execStandbyRejoin s
  | .stringFrameForward h ftype => Sys2Proof.Machine.execStringFrameForward h ftype s
  | .hostCompletionError h => Sys2Proof.Machine.execHostCompletionError h s
  | .fecUncorrectable p => Sys2Proof.Machine.execFecUncorrectable p s
  | .invalidOpcode h opc => Sys2Proof.Machine.execInvalidOpcode h opc s
  | .mbxUnsupportedOpcode h opc => Sys2Proof.Machine.execMbxUnsupportedOpcode h opc s
  | .spdmUnsupportedRequest r code => Sys2Proof.Machine.execSpdmUnsupportedRequest r code s
  | .busMasterEnable link on => Sys2Proof.Machine.execBusMasterEnable link on s
  | .flashWriteComplete ok => Sys2Proof.Machine.execFlashWriteComplete ok s
  | .otpProgramComplete ok => Sys2Proof.Machine.execOtpProgramComplete ok s
  | .jtagInstruction j => Sys2Proof.Machine.execJtagInstruction j s

end Sys2Proof.Machine
end

