-- ==== Sys2Proof/Safety.lean ====
section
/-! DEFINITION. What counts as a safe run, in the terms in which the statements are made: a command that answers a next
state, what a command leaves alone, and the state in which the interrupt aggregation is up to date (R383, R384). -/

namespace Sys2Proof.Machine

/-- The command `c` at `s` answers a next state, and that state satisfies `P`. -/
def Runs (c : Instr) (s : State) (P : State → Prop) : Prop := ∃ t, exec c s = .next t ∧ P t

/-- The command `c` at `s` answers the next state `t`, with the interrupt aggregation brought up to date (`settle` changes only
the links' interrupt lines and appends messages to the outputs): the whole effect, and that nothing else changes. -/
def Gives (c : Instr) (s t : State) : Prop := exec c s = .next (settle t)

/-- The device takes part: it has power, no reset or trip holds it, and it is not in NIGHT (R358, R371). -/
abbrev Alive (s : State) : Prop := deviceOff s = false

/-- An admin command of header `h` gets its context at once: the device takes part, the controller is enabled and ready, one of
the 64 admin contexts is free, no admin command waits and the host has not sent past its admin queue (R146). -/
def AdminFree (h : IoHdr) (s : State) : Prop :=
  Alive s ∧ adminOpen s h = true ∧ adminHeld s < 64 ∧ s.ce.adminWait = [] ∧ adminFull s h = false

/-- The sender of a mailbox request can send one now: a bank whose link is up, whose doorbell is not waiting and whose BUSY is 0; an
MCTP endpoint without an outstanding request (R386, R390). -/
def MbxSenderFree (src : MbxSrc) (s : State) : Prop :=
  match src with
  | .bank b => barUp s b = true ∧ s.mbx.rung.contains b = false ∧ s.rd (R.MBX_STATUS_BUSY b) = 0
  | .mctp ep _ => mctpOpen s ep = false

/-- A mailbox request of header `h` is served at once: the device takes part and serves the mailbox with Noljo running, a place is free
and none waits, the header is well formed (R387 to R391). -/
def MbxReady (h : MbxHdr) (s : State) : Prop :=
  Alive s ∧ h.len ≤ 4080 ∧ h.resvBad = false ∧ s.mbx.wait = [] ∧ s.mbx.run.length < mbxPlaces ∧ mbxServes s = true ∧
  mbxRestricted s = false ∧ MbxSenderFree h.src s

/-- The state in which a request that is served at once has been taken: BUSY 1 and DONE 0 in its bank, and its place held. -/
def mbxTaken (h : MbxHdr) (opcode : Nat) (s : State) : State :=
  let u := match h.src with
    | .bank b => (s.wr (R.MBX_STATUS_BUSY b) 1).wr (R.MBX_STATUS_DONE b) 0
    | .mctp .. => s
  { u with mbx.run := s.mbx.run ++ [⟨h, opcode⟩] }

/-- Block `l` of a namespace, with contents `v`, can be read at once: its stripe is resynchronised and not lost, a CLEAN Envelope line
holds it, lookups are accepted, nothing is being fetched from the standby (R11, R112, R174, R177). -/
def BlockCached (s : State) (ns : Ns) (l : Nat) (v : Block) : Prop :=
  let p := placeOf s ns l
  nsAt s ns.idx = some ns ∧ ns.lbaf = 0 ∧ isLost s ns.array p.stripe = false ∧ synced s ns.array p.stripe = true ∧
  lookupsStopped s = false ∧ s.bsk.fetching = [] ∧
  (envFind s (dataKey s ns.array p.stripe p.idx p.col)).map (·.st) = some .clean ∧ blockNow s ns l [] = some v ∧
  ((bskFind s ns.idx l).isSome = true ∨ (stripAt s ns.array p.stripe p.col [] (dMem (memN s ns.array) p.stripe p.idx)).isSome = true)

/-- One block `l` of a namespace can be committed in the write store at once: write-back, unpaired, below the dirty limit with a free page,
ring room, caching off, its stripe not lost and of more than one block (R15, R16, R86, R121, R190, R205). -/
def PageReady (s : State) (ns : Ns) (l : Nat) : Prop :=
  nsAt s ns.idx = some ns ∧ ns.lbaf = 0 ∧ 1 < perStripe s ns.array ∧ isLost s ns.array (placeOf s ns l).stripe = false ∧
  dirtyPages s < dirtyLimit s ∧ (freeRun s 1).isSome = true ∧ s.bsk.clean = [] ∧ envOn s = false ∧ lookupsStopped s = false ∧
  mirroring s = false ∧ writeBack s = true ∧ ringShort s = false

/-- A write in context `c` of which one Basket part is left, block `l` with contents `v`, with no earlier write in front of it (R13, R147). -/
def PartLeft (s : State) (ns : Ns) (c : Ctx) (l : Nat) (v : Block) : Prop :=
  c.op = .write ∧ c.ns = ns.idx ∧ c.slba = l ∧ c.data = [v] ∧ c.bparts = [(l, 1)] ∧ c.stripes = [] ∧ c.sops = [] ∧ c.seqs = [] ∧
  c.mirEpoch = 0 ∧ c.compan = some 0 ∧ ctxOf s c.id = some c ∧
  (s.ce.ctxs.any fun x => x.phase = .basket && decide (x.id < c.id)) = false

/-- No earlier command of the queue is in a context (R150). -/
def NoneEarlier (s : State) (h : IoHdr) (id : Nat) : Prop :=
  (s.ce.ctxs.any fun x => x.h.ctrl = h.ctrl && x.h.q = h.q && decide (x.id < id)) = false

/-- The command of header `h` has completed with a status, with Dword 0 zero and this data. -/
def Completed (h : IoHdr) (st : Status) (data : List Block) (t : State) : Prop :=
  ∃ d, OutEv.cqe h.ctrl h.q h.cid st.1 st.2.1 st.2.2 0 data d ∈ t.out

/-- A mailbox command of header `h` has completed with a code and no payload (R386). -/
def Replied (h : MbxHdr) (op code : Nat) (t : State) : Prop := OutEv.reply h.src op code h.tag 0 [] ∈ t.out

/-- A report reaches a Reel that acts on it at once: the device is the Reel and the frame's destination, the SEQ is new, no report waits and
fewer than 32 have been processed in this epoch (R286). -/
def ReportTaken (s : State) (h : StrHdr) : Prop :=
  Alive s ∧ s.str.bypassClosed = false ∧ strPortUp s h.port = true ∧ h.crcOk = true ∧ h.dst = s.unit ∧ isReel s = true ∧
  s.str.acks.find? (fun x => x.1 = h.src && x.2.1 = h.seq) = none ∧ s.str.collector = [] ∧ s.str.processed < reelRate

/-- The report of header `h` has been acknowledged with a result (R286). -/
def Acked (h : StrHdr) (result : Nat) (t : State) : Prop := (h.src, h.seq, result) ∈ t.str.acks

/-- Every register field but those listed reads in `t` as in `s`. -/
def RegsBut (fs : List Fld) (s t : State) : Prop := ∀ f : Fld, (∀ g ∈ fs, f.key ≠ g.key) → t.rd f = s.rd f

/-- What the Basket, the Gondola, the flash, the fuses, the drives, the Envelope and the mailbox buffers hold is the same in
both states. -/
def SameStores (s t : State) : Prop :=
  t.bsk = s.bsk ∧ t.nv = s.nv ∧ t.ext = s.ext ∧ t.env = s.env ∧ t.mbx = s.mbx

/-- What the arrays, the journal and the command engine hold is the same in both states. -/
def SameWork (s t : State) : Prop := t.arrs = s.arrs ∧ t.ns = s.ns ∧ t.jrn = s.jrn ∧ t.ce = s.ce

/-- A link's interrupt lines are up to date: its levels are those that its sources drive, and no vector is pending whose
level is 0 (R384). -/
def HLink.settled (s : State) (link : Nat) (l : HLink) : Prop :=
  l.levels = vecLevels s link ∧ ∀ v ∈ l.pend, v ∈ l.levels

/-- The interrupt aggregation is up to date on every link, and no W1C write waits to be looked at. -/
def Settled (s : State) : Prop := s.kicks = [] ∧ ∀ i l, s.links[i]? = some l → HLink.settled s i l

end Sys2Proof.Machine
end

