-- ==== Sys2Proof/Certificates/Slice0/Obligations.lean ====
section
/-! DEFINITION. The statements for the provers. -/

open Sys2Proof Sys2Proof.Machine

/-- The queue of waiting commands: a step runs the command at the front on the state with the queue's rest, and idles on an empty queue (the
model's own queue, log entry 1); a command that needs the device changes nothing while it has no power, is held in reset or is in NIGHT.
Model's choices: log entries 1 and 2. -/
def Obligations.StepRunsTheFrontCommand : Prop :=
  (∀ (c : Instr) (s : State) (rest : List Instr), step { s with pending := c :: rest } = exec c { s with pending := rest }) ∧
  (∀ s : State, s.pending = [] → step s = .next s) ∧
  (∀ s : State, deviceOff s = true → (∀ link off size v, Gives (.bar0RegisterWrite link off size v) s s) ∧
    (∀ link off, Gives (.loRegisterRead link off) s s) ∧ (∀ c, Gives (.splTrigger c) s s) ∧ Gives .glbClrErr s s ∧ Gives .scrubNow s s ∧
    (∀ ms bad, Gives (.ballastRestore ms bad) s s) ∧ ∀ src, Gives (.sourceSignalPresent src) s s)

/-- Right after reset (R8, R383): every register field reads its reset value, the queue and the outputs are empty, the register store and the
Basket's pages are in canonical form, no extent, context or Envelope line exists, no Spool channel works, and the interrupt aggregation is up to date.
Model's choices: log entries 3, 4 and 32. -/
def Obligations.ResetLeavesResetValues : Prop :=
  (∀ f : Fld, State.reset.rd f = f.rst) ∧ State.reset.pending = [] ∧ State.reset.out = [] ∧ SMap.wf 0 State.reset.regs = true ∧
  SMap.wf 0 State.reset.bsk.pages = true ∧ State.reset.bsk.extents = [] ∧ State.reset.ce.ctxs = [] ∧ State.reset.env.lines = [] ∧
  (∀ c ∈ State.reset.spl.ch, c = SplCh.idle) ∧ Settled State.reset

/-- The interrupt aggregation is always up to date (R383, R384): every step that answers a next state from a settled state answers a settled state, in
which every link's levels are those its sources drive and no vector is pending whose level is 0. -/
def Obligations.EveryStepKeepsTheAggregationSettled : Prop :=
  ∀ s t : State, Settled s → step s = .next t → Settled t

/-- The Tether's sources (R29 to R31, R33, Table 2.2). A source that is in effect and presents its signal in FREE_RUN, or in ACQUIRING
while none is measured, and the retry timer with such a source, start its measurement: ACQUIRING; in HOLDOVER the retry measures the source and the
state stays. Otherwise a signal is only noted. ACQUIRE discards the measurements: HOLDOVER if LOCKED, else ACQUIRING. A PTP sync of the source measured or in use writes TET_OFFSET as two's
complement, saturated at 2^31 − 1, and counts the run of offsets within 200 ns; the better rank of an announce is kept; a PPS edge takes the armed
TAI seconds, or counts one second on. Model's choices: log entry 30. -/
def Obligations.TetherMeasuresItsSources : Prop :=
  (∀ s src, Alive s → s.rd R.TET_STATUS_STATE = 0 ∨ (s.rd R.TET_STATUS_STATE = 1 ∧ s.tet.measuring = none) → src ∈ tetSources s →
    Gives (.sourceSignalPresent src) s
      (State.wr { s with tet.signals := insNat src s.tet.signals, tet.measuring := some src } R.TET_STATUS_STATE 1)) ∧
  (∀ s src, Alive s → (s.rd R.TET_STATUS_STATE ≠ 0 ∧ (s.rd R.TET_STATUS_STATE ≠ 1 ∨ s.tet.measuring ≠ none)) ∨ src ∉ tetSources s →
    Gives (.sourceSignalPresent src) s { s with tet.signals := insNat src s.tet.signals }) ∧
  (∀ s src, Alive s → s.rd R.TET_STATUS_STATE = 0 ∨ (s.rd R.TET_STATUS_STATE = 1 ∧ s.tet.measuring = none) → tetPresent s 3 = some src →
    Gives .sourceRetry s (State.wr { s with tet.measuring := some src } R.TET_STATUS_STATE 1)) ∧
  (∀ s src, Alive s → s.rd R.TET_STATUS_STATE = 3 → tetPresent s 3 = some src →
    Gives .sourceRetry s { s with tet.measuring := some src }) ∧
  (∀ s, Alive s → s.rd R.TET_STATUS_STATE = 2 →
    Gives .acquire s ((State.wr { s with
      tet.measuring := tetPresent s 3, tet.awaiting := none, tet.syncRun := 0, tet.stepWaited := false,
      tet.forceStep := false, tet.frozen := true } R.TET_STATUS_STATE 3).raise R.TET_INT_STATUS_HOLDOVER)) ∧
  (∀ s, Alive s → s.rd R.TET_STATUS_STATE ≠ 2 →
    Gives .acquire s (State.wr { s with
      tet.measuring := tetPresent s 3, tet.awaiting := none, tet.syncRun := 0, tet.stepWaited := false,
      tet.forceStep := false } R.TET_STATUS_STATE 1)) ∧
  (∀ s (o : Int), Alive s → s.tet.measuring = some 0 ∨ s.rd R.TET_STATUS_SRC_ACT = 0 →
    Runs (.ptpSync o) s fun t =>
      t.tet = { s.tet with syncRun := if o.natAbs ≤ 200 then s.tet.syncRun + 1 else 0 } ∧
      t.rd R.TET_OFFSET_OFFSET_NS = (max (-2147483647) (min 2147483647 o) % 4294967296).toNat ∧
      RegsBut [R.TET_OFFSET_OFFSET_NS] s t ∧ SameStores s t ∧ SameWork s t) ∧
  (∀ s rank utc leap, Alive s → s.tet.ptpRank = 0 ∨ rank ≤ s.tet.ptpRank →
    Gives (.ptpAnnounce rank ⟨utc, leap⟩) s { s with
      tet.ptpRank := rank, tet.ptpUtc := utc,
      tet.leapAt := if leap then some (((s.tet.epoch / 15625 - utc) / 86400 + 1) * 86400 + utc) else none }) ∧
  (∀ s rank utc leap, Alive s → 0 < s.tet.ptpRank → s.tet.ptpRank < rank → Gives (.ptpAnnounce rank ⟨utc, leap⟩) s s) ∧
  (∀ s sec, Alive s → s.tet.tod = some sec → s.tet.measuring ≠ some 1 → s.rd R.TET_STATUS_SRC_ACT ≠ 1 →
    Gives .ppsEdge s { s with tet.ppsSeconds := sec, tet.tod := none }) ∧
  (∀ s, Alive s → s.tet.tod = none → s.tet.ppsSeconds ≠ 0 → s.tet.measuring ≠ some 1 → s.rd R.TET_STATUS_SRC_ACT ≠ 1 →
    Gives .ppsEdge s { s with tet.ppsSeconds := s.tet.ppsSeconds + 1 }) ∧
  (∀ s sec, Alive s → s.tet.tod = some sec → sec ≠ 0 → s.tet.measuring = some 1 ∨ s.rd R.TET_STATUS_SRC_ACT = 1 →
    Gives .ppsEdge s (tetOffset ((sec : Int) * 1000000000 - (s.tet.epoch : Int) * 64000)
      { s with tet.ppsSeconds := sec, tet.tod := none }))

/-- The lock of a source whose criterion of Table 2.1 holds (R29, R33, R36, Table 2.2). Within STEP_LIMIT the Tether locks; a source behind the counter by more sets
TIME_FAULT and the counter stays; one ahead by more locks with a forward step where a step is permitted, else the source
waits and STEP_WAIT is raised once.
What ends a lock (R33, R36, Table 2.2): the loss of the source in use gives HOLDOVER; the loss of the source measured, with
no other present, gives FREE_RUN, with another present that one is measured; the end of HOLD_MAX in HOLDOVER gives FREE_RUN.
FORCE_STEP permits a step while a source waits and has no effect otherwise.
Model's choices: log entries 29 and 30. -/
def Obligations.TetherLocksAndLoses : Prop :=
  (∀ s src (o : Int), Alive s → src < 3 → src ∈ tetSources s → s.rd R.TET_STATUS_STATE = 1 ∨ s.rd R.TET_STATUS_STATE = 3 →
    criterionMet s src = true → o.natAbs ≤ s.rd R.TET_LIMITS_STEP_LIMIT * 1000000 →
    Runs (.sourceLockCriterionMet src o) s fun t =>
      t.tet = { s.tet with measuring := none, awaiting := none, stepWaited := false, forceStep := false, frozen := false } ∧
      t.rd R.TET_STATUS_STATE = 2 ∧ t.rd R.TET_STATUS_SRC_ACT = src ∧ t.rd R.TET_STATUS_TOD_VALID = (if todGiven s src then 1 else s.rd R.TET_STATUS_TOD_VALID) ∧
      t.rd R.TET_STATUS_EVER_LOCKED = 1 ∧ t.rd R.TET_STATUS_TIME_FAULT = 0 ∧ t.rd R.TET_INT_STATUS_LOCKED = 1 ∧
      SameStores s t ∧ SameWork s t) ∧
  (∀ s src (o : Int), Alive s → src ∈ tetSources s → s.rd R.TET_STATUS_STATE = 1 ∨ s.rd R.TET_STATUS_STATE = 3 → criterionMet s src = true → o < 0 →
    s.rd R.TET_LIMITS_STEP_LIMIT * 1000000 < o.natAbs →
    Runs (.sourceLockCriterionMet src o) s fun t =>
      t.tet.epoch = s.tet.epoch ∧ t.rd R.TET_STATUS_TIME_FAULT = 1 ∧ t.rd R.TET_INT_STATUS_TIME_FAULT = 1 ∧
      t.rd R.TET_STATUS_STATE = (if s.rd R.TET_STATUS_STATE = 1 then 0 else 3) ∧ SameStores s t ∧ SameWork s t) ∧
  (∀ s src (o : Int), Alive s → src < 3 → src ∈ tetSources s → s.rd R.TET_STATUS_STATE = 1 ∨ s.rd R.TET_STATUS_STATE = 3 →
    criterionMet s src = true → 0 ≤ o → s.rd R.TET_LIMITS_STEP_LIMIT * 1000000 < o.natAbs → stepPermitted s = true →
    Runs (.sourceLockCriterionMet src o) s fun t =>
      t.tet.stepAhead = o.natAbs / 64000 ∧ t.tet.forceStep = false ∧ t.tet.epoch = s.tet.epoch ∧
      t.rd R.TET_STATUS_STATE = 2 ∧ t.rd R.TET_STATUS_SRC_ACT = src ∧ SameStores s t ∧ SameWork s t) ∧
  (∀ s src (o : Int), Alive s → src ∈ tetSources s → s.rd R.TET_STATUS_STATE = 1 ∨ s.rd R.TET_STATUS_STATE = 3 →
    criterionMet s src = true → 0 ≤ o → s.rd R.TET_LIMITS_STEP_LIMIT * 1000000 < o.natAbs → stepPermitted s = false → s.tet.stepWaited = false →
    Runs (.sourceLockCriterionMet src o) s fun t =>
      t.tet.awaiting = some (src, o.natAbs / 64000) ∧ t.tet.stepWaited = true ∧ t.rd R.TET_INT_STATUS_STEP_WAIT = 1 ∧
      t.rd R.TET_STATUS_STATE = s.rd R.TET_STATUS_STATE ∧ t.tet.epoch = s.tet.epoch ∧ SameStores s t ∧ SameWork s t) ∧
  (∀ s src, Alive s → s.rd R.TET_STATUS_STATE = 2 → s.rd R.TET_STATUS_SRC_ACT = src →
    Runs (.sourceLoss src) s fun t => t.rd R.TET_STATUS_STATE = 3 ∧ t.rd R.TET_INT_STATUS_HOLDOVER = 1 ∧
      t.tet.frozen = true ∧ t.tet.signals = s.tet.signals.filter (· ≠ src) ∧
      RegsBut [R.TET_STATUS_STATE, R.TET_INT_STATUS_HOLDOVER] s t ∧ SameStores s t ∧ SameWork s t) ∧
  (∀ s src x, Alive s → s.rd R.TET_STATUS_STATE = 1 → s.tet.measuring = some src → src ∉ s.tet.signals →
    tetPresent s src = some x → s.tet.awaiting = none →
    Gives (.sourceLoss src) s { s with
      tet.measuring := some x,
      tet.syncRun := if src = 0 then 0 else s.tet.syncRun,
      tet.ptpRank := if src = 0 then 0 else s.tet.ptpRank }) ∧
  (∀ s src, Alive s → s.rd R.TET_STATUS_STATE = 1 → s.tet.measuring = some src → s.tet.signals = [src] →
    Runs (.sourceLoss src) s fun t => t.rd R.TET_STATUS_STATE = 0 ∧ t.rd R.TET_STATUS_SRC_ACT = 3 ∧ t.tet.measuring = none ∧
      t.tet.signals = [] ∧ SameStores s t ∧ SameWork s t) ∧
  (∀ s, Alive s → s.rd R.TET_STATUS_STATE = 3 →
    Runs .holdMaxExpire s fun t => t.rd R.TET_STATUS_STATE = 0 ∧ t.rd R.TET_STATUS_SRC_ACT = 3 ∧
      t.rd R.TET_INT_STATUS_FREE_RUN = 1 ∧ t.tet.measuring = none ∧ SameStores s t ∧ SameWork s t) ∧
  (∀ s, Alive s → s.rd R.TET_STATUS_STATE ≠ 3 → Gives .holdMaxExpire s s) ∧
  (∀ s, Alive s → s.tet.awaiting.isSome = true → Gives .forceStep s { s with tet.forceStep := true }) ∧
  (∀ s, Alive s → s.tet.awaiting = none → Gives .forceStep s s)

/-- Writes of the Tether's registers that act: arming the TAI seconds (R31: E_STATE unless SOURCE is 1), the alarms (R47: a
target that is not ahead, or no target selected, E_RANGE; a target of an enabled alarm E_STATE), the Day override (R41: SLOT
above 95 is E_RANGE), and the solo rates of an array (R42). A rejected write changes LAST_ERR alone (R48). -/
def Obligations.TetherWritesActOrAreRejected : Prop :=
  (∀ s v, Alive s → s.rd R.TET_CTRL_SOURCE = 1 →
    Gives (.todArm v) s { s with tet.tod := some (s.tet.todHi * 2 ^ 32 + v % 2 ^ 32) }) ∧
  (∀ s v, Alive s → s.rd R.TET_CTRL_SOURCE ≠ 1 → Gives (.todArm v) s (s.wr R.TET_STATUS_LAST_ERR eState)) ∧
  (∀ s n v, Alive s → n < 8 → bit v 0 = true → s.tet.epoch < alarmTarget s n → bits v 1 3 ≠ 0 →
    Runs (.alarmArm n 0 v) s fun t => t.rd (R.TET_ALARMn_CTRL_EN n) = 1 ∧ t.rd (R.TET_ALARMn_CTRL_T_INT n) = bits v 1 1 ∧
      t.rd (R.TET_ALARMn_CTRL_T_SPOOL n) = bits v 2 1 ∧ t.rd (R.TET_ALARMn_CTRL_T_WAKE n) = bits v 3 1 ∧
      t.rd (R.TET_ALARMn_CTRL_PERIOD n) = bits v 4 24 ∧ alarmTarget t n = alarmTarget s n ∧ t.tet = s.tet ∧
      SameStores s t ∧ SameWork s t) ∧
  (∀ s n v, Alive s → n < 8 → bit v 0 = true → alarmTarget s n ≤ s.tet.epoch ∨ bits v 1 3 = 0 →
    Gives (.alarmArm n 0 v) s (s.wr R.TET_STATUS_LAST_ERR eRange)) ∧
  (∀ s n v, Alive s → n < 8 → s.rd (R.TET_ALARMn_CTRL_EN n) = 0 →
    Gives (.alarmArm n 1 v) s (s.wr (R.TET_ALARMn_EPOCH_LO_TARGET_LO n) v) ∧
    Gives (.alarmArm n 2 v) s (s.wr (R.TET_ALARMn_EPOCH_HI_TARGET_HI n) v)) ∧
  (∀ s n v, Alive s → n < 8 → s.rd (R.TET_ALARMn_CTRL_EN n) ≠ 0 →
    Gives (.alarmArm n 1 v) s (s.wr R.TET_STATUS_LAST_ERR eState) ∧
    Gives (.alarmArm n 2 v) s (s.wr R.TET_STATUS_LAST_ERR eState)) ∧
  (∀ s v, Alive s → bits v 0 7 ≤ 95 →
    Gives (.dayOverrideWrite v) s ((s.wr R.TET_DAY_OVR_SLOT (bits v 0 7)).wr R.TET_DAY_OVR_EN (bits v 31 1))) ∧
  (∀ s v, Alive s → 95 < bits v 0 7 → Gives (.dayOverrideWrite v) s (s.wr R.TET_STATUS_LAST_ERR eRange)) ∧
  (∀ s a reb pat cb dst, Alive s →
    Gives (.soloRateRefresh a reb pat cb dst) s
      { s with tet.solo := (a, reb, pat, cb, dst) :: s.tet.solo.filter (·.1 ≠ a) })

/-- The epoch boundary (R36 to R38, Table 2.3). With the device on, the epoch is closed, the counter advances, what fell due in epochs
that a step skipped runs, then the actions run in the table's order: configuration and activation, the Day table, the pair, the String, the tail
checkpoint where the epoch is a multiple of 1,024, the budgets, the alarms, Spool. In NIGHT, with no alarm that is due and marked as a wake source, the counter alone
advances. The counter takes one epoch, or one more than the permitted step.
Model's choices: log entries 29 and 58. -/
def Obligations.EpochBoundaryOrder : Prop :=
  (∀ s, Alive s → s.dwn.step ≠ 0 → ∀ u v : State, u = counterAdvance (epochClose s) →
    v = tailsForced ((if u.tet.epoch % 1024 = 0 then tailCheckpoint else id)
      (strBoundary (pairBoundary (helloBoundary (dayEvaluate (actSwitch (configBoundary (skippedWork s.tet.epoch u)))))))) →
    Gives .epochBoundary s (mbxPump (nsDeletePoll ((if s.tet.epoch / 1024 < u.tet.epoch / 1024 then gaugesCheckpoint else id)
      (gaugesEpoch (layoutBoundary (pfcBoundary (splBoundary (alarmsFire (budgetCompute v)))))))))) ∧
  (∀ s, s.pwr.powered = true → s.pwr.rstHeld = false → s.pwr.tripHeld = false → s.dwn.step ≠ 0 → s.pwr.inNight = true →
    (∀ n < 8, s.rd (R.TET_ALARMn_CTRL_EN n) = 0 ∨ s.rd (R.TET_ALARMn_CTRL_T_WAKE n) = 0 ∨ s.tet.epoch + 1 < alarmTarget s n) →
    Gives .epochBoundary s { s with tet.epoch := s.tet.epoch + 1 }) ∧
  (∀ s old, s.tet.epoch ≤ old + 1 → skippedWork old s = s) ∧
  (∀ s, s.tet.awaiting = none → s.tet.stepAhead = 0 → counterAdvance s = { s with tet.epoch := s.tet.epoch + 1 }) ∧
  (∀ s, s.tet.awaiting = none → s.tet.stepAhead ≠ 0 → (counterAdvance s).tet.epoch = s.tet.epoch + 1 + s.tet.stepAhead ∧
    (counterAdvance s).rd R.TET_INT_STATUS_STEPPED = 1) ∧
  (∀ s src n, s.tet.awaiting = some (src, n) → stepPermitted s = true →
    (counterAdvance s).tet.epoch = s.tet.epoch + 1 + n ∧ (counterAdvance s).rd R.TET_STATUS_STATE = 2) ∧
  (∀ s src n, s.tet.awaiting = some (src, n) → stepPermitted s = false →
    counterAdvance s = { s with tet.epoch := s.tet.epoch + 1 })

/-- R56: the left-symmetric rotation. In stripe s of n members P is on member n − 1 − (s mod n), Q on the next one, data index i on the
(i + 1)th after Q, each on a member of its own; read the other way, a member that holds neither holds data index (m − q(s) − 1) mod n; the
pattern repeats every n stripes, and in each run of n stripes every member holds P once, Q once and data n − 2 times. -/
def Obligations.RolesRotateOverTheMembers : Prop :=
  (∀ n st, 4 ≤ n → pMem n st = n - 1 - st % n ∧ qMem n st = (pMem n st + 1) % n ∧ pMem n st < n ∧ qMem n st < n ∧ pMem n st ≠ qMem n st ∧
    pMem n (st + n) = pMem n st ∧ qMem n (st + n) = qMem n st) ∧
  (∀ n st i, 4 ≤ n → i < n - 2 → dMem n st i = (qMem n st + 1 + i) % n ∧ dMem n st i < n ∧ dMem n st i ≠ pMem n st ∧
    dMem n st i ≠ qMem n st ∧ dIdx n st (dMem n st i) = i ∧ dMem n (st + n) i = dMem n st i) ∧
  (∀ n st m, 4 ≤ n → m < n → m ≠ pMem n st → m ≠ qMem n st → dIdx n st m < n - 2 ∧ dMem n st (dIdx n st m) = m ∧
    (dIdx n st m + qMem n st + 1) % n = m) ∧
  (∀ n a m, 4 ≤ n → m < n →
    ((List.range n).filter fun k => decide (pMem n (a + k) = m)).length = 1 ∧
    ((List.range n).filter fun k => decide (qMem n (a + k) = m)).length = 1 ∧
    ((List.range n).filter fun k => decide (pMem n (a + k) ≠ m ∧ qMem n (a + k) ≠ m)).length = n - 2)

/-- R57: where block L of a namespace lies. With a = BASE × b × d + L: stripe floor(a ÷ (b × d)), data index floor(o ÷ b) and column o mod b of
the offset o = a mod (b × d), the member that R56 gives and member LBA 262,144 + s × b + k. Block 0 is the first block of stripe BASE, a block
below NSZE lies in the namespace's N = ceil(NSZE ÷ (b × d)) stripes, the stripe boundaries are the multiples of b × d, and no two blocks share
a place. -/
def Obligations.BlocksMapToMembers : Prop :=
  (∀ (s : State) (ns : Ns) (l : Nat), 3 ≤ memN s ns.array → ∀ b d p, b = strB s ns.array → d = memN s ns.array - 2 → p = placeOf s ns l →
    p.stripe = (ns.base * (b * d) + l) / (b * d) ∧ p.idx = (ns.base * (b * d) + l) % (b * d) / b ∧
    p.col = (ns.base * (b * d) + l) % (b * d) % b ∧ p.idx < d ∧ p.col < b ∧ ns.base ≤ p.stripe ∧
    lbaOf s ns p.stripe p.idx p.col = l ∧ (l % (b * d) = 0 ↔ p.idx = 0 ∧ p.col = 0) ∧
    (l < ns.nsze → p.stripe < ns.base + (ns.nsze + b * d - 1) / (b * d)) ∧
    dMem (memN s ns.array) p.stripe p.idx = (qMem (memN s ns.array) p.stripe + 1 + p.idx) % memN s ns.array ∧
    memLba b p.stripe p.col = 262144 + p.stripe * b + p.col) ∧
  (∀ (s : State) (ns : Ns), 3 ≤ memN s ns.array → placeOf s ns 0 = ⟨ns.base, 0, 0⟩) ∧
  (∀ (s : State) (ns : Ns) (l l' : Nat), 3 ≤ memN s ns.array → placeOf s ns l = placeOf s ns l' → l = l')

/-- R262: serial channels run one at a time. One that starts, by a control write or by a trigger in WAITING, while another serial channel is
RUNNING or HALTED enters QUEUED, and runs at once where none is; while one is RUNNING or HALTED no other's turn comes, and no start of another
changes it; with none RUNNING or HALTED the QUEUED channel with the lowest number runs next.
Model's choices: log entry 49. -/
def Obligations.SerialChannelsTakeTurns : Prop :=
  (∀ s c d, Alive s → 56 ≤ c → c < 63 → 56 ≤ d → d < 64 → d ≠ c → s.chState d = chRunning ∨ s.chState d = chHalted →
    (s.chState c = chIdle → s.rd (R.SPL_CHc_CFG_TRIG_SRC c) = 0 →
      Runs (.splStart c) s fun t => t.chState c = chQueued ∧ t.chState d = s.chState d) ∧
    (s.chState c = chWaiting →
      Runs (.splStart c) s (fun t => t.chState c = chQueued ∧ t.chState d = s.chState d) ∧
      (s.rd (R.SPL_CHc_CFG_TRIG_SRC c) ≠ 0 →
        Runs (.splTrigger c) s fun t => t.chState c = chQueued ∧ t.chState d = s.chState d)) ∧
    Gives .splSerialTurn s s) ∧
  (∀ s c, Alive s → 56 ≤ c → c < 63 → (∀ d, 56 ≤ d → d < 64 → d ≠ c → s.chState d ≠ chRunning ∧ s.chState d ≠ chHalted) →
    (s.chState c = chIdle → s.rd (R.SPL_CHc_CFG_TRIG_SRC c) = 0 → Runs (.splStart c) s fun t => t.chState c = chRunning) ∧
    (s.chState c = chWaiting → Runs (.splStart c) s fun t => t.chState c = chRunning)) ∧
  (∀ s c, Alive s → 56 ≤ c → c < 64 → s.chState c = chQueued → (∀ d, 56 ≤ d → d < c → s.chState d ≠ chQueued) →
    (∀ d, 56 ≤ d → d < 64 → s.chState d ≠ chRunning ∧ s.chState d ≠ chHalted) →
    Gives .splSerialTurn s (s.wr (R.SPL_CHc_STATUS_STATE c) chRunning))

/-- The parity of a column under a change of data strips (R63): P and Q updated by the difference of one strip are what a new computation
gives, and when several strips change, their terms are summed. -/
def Obligations.ParityUpdateEqualsRecompute : Prop :=
  (∀ (ds : List Block) (i : Nat) (old new : Block), ds[i]? = some old →
    updateP (parityP ds) (old ^^^ new) = parityP (ds.set i new) ∧
    updateQ (parityQ ds) i (old ^^^ new) = parityQ (ds.set i new)) ∧
  ∀ ds es : List Block, ds.length = es.length →
    (List.range ds.length).foldl (fun p i => updateP p (ds.getD i 0 ^^^ es.getD i 0)) (parityP ds) = parityP es ∧
    (List.range ds.length).foldl (fun q i => updateQ q i (ds.getD i 0 ^^^ es.getD i 0)) (parityQ ds) = parityQ es

/-- Reconstruction (R61, R64, Table 3.5): from a column that was written with its parity and of which at most two strips are
erased, whichever they are, every strip comes back as it was written; with more than two erased nothing is returned. -/
def Obligations.TwoErasuresAreReconstructed : Prop :=
  ∀ (ds : List Block) (c : Column), ds.length ≤ 30 → c.ds.length = ds.length →
    (∀ (i : Nat) (v : Block), c.ds[i]? = some (some v) → ds[i]? = some v) → (c.p = none ∨ c.p = some (parityP ds)) →
    (c.q = none ∨ c.q = some (parityQ ds)) →
    (c.erasures ≤ 2 → c.recon = some (ds, parityP ds, parityQ ds)) ∧ (2 < c.erasures → c.recon = none)

/-- Drive answers (R17, R116 to R119). A completed write is on the drive; a failed write is reissued once; blocks that a drive reports unreadable, to a command
or to a background step, are noted as bad and queued for repair; a command that times out resets the drive's controller and notes the epoch; a second timeout within 15,625 epochs, a
controller not ready in time and the rows of Table 5.1 lose the member; a hedged read is counted and goes on from the survivors.
Model's choices: log entries 33, 39 and 73. -/
def Obligations.MembersAnswerOrAreLost : Prop :=
  (∀ s i m, Alive s → mcmdOf s i = some m → s.pwr.dumping = false → m.wr = true →
    Gives (.memberCompletion i .ok) s (wroteBack m (driveAnswers m.drv s))) ∧
  (∀ s i m, Alive s → mcmdOf s i = some m → s.pwr.dumping = false → m.wr = false →
    Gives (.memberCompletion i .ok) s (readBack m (driveAnswers m.drv s))) ∧
  (∀ s i m, Alive s → mcmdOf s i = some m → s.pwr.dumping = false → m.wr = false →
    Gives (.memberCompletion i .failed) s
      (eraseRead m (rangeFrom m.lba m.count) (dropMCmd i m.drv (driveAnswers m.drv s)))) ∧
  (∀ s i m, Alive s → mcmdOf s i = some m → s.pwr.dumping = false → m.wr = true → m.reissued = false →
    Gives (.memberCompletion i .failed) s
      { driveAnswers m.drv s with
        ce.mcmds := s.ce.mcmds.map fun x => if x.id = i then { x with reissued := true } else x }) ∧
  (∀ s i m lba n, Alive s → mcmdOf s i = some m → s.pwr.dumping = false → m.wr = false → lba = m.lba → 0 < m.count → n = m.array →
    Gives (.memberReadError (.cmd i) [lba]) s (eraseRead m [lba]
      (noteBad n m.drv [lba] (driveAnswers m.drv (dropMCmd i m.drv s))))) ∧
  (∀ s d a m lba x, Alive s → memberOf s d = some (a, m) → a < s.arrs.length → holdsPlace s d = true → s.pwr.dumping = false →
    driveAt s d = some x → (s.arr a).repairs = [] →
    Runs (.memberReadError (.step d) [lba]) s fun t => driveAt t d = some { x with bad := insNat lba x.bad } ∧
      (t.arr a).repairs = [(d, lba, s.tet.epoch)] ∧ t.ce = s.ce ∧ t.bsk = s.bsk ∧ t.jrn = s.jrn ∧ RegsBut [] s t) ∧
  (∀ s i m d, Alive s → mcmdOf s i = some m → s.pwr.dumping = false → driveAt s m.drv = some d → d.resetAt = none →
    Gives (.memberTimeout i) s (driveReset m.drv i s)) ∧
  (∀ s d i, (∀ m ∈ s.ce.mcmds, m.drv ≠ d ∨ m.wr = true ∨ (m.owner = 0 ∧ m.sop = 0)) →
    driveReset d i s = (s.modDrive d fun x => { x with resetAt := some s.tet.epoch, resetting := true }).emit (.drive d 1 [i])) ∧
  (∀ s i m l v, Alive s → mcmdOf s i = some m → s.pwr.dumping = false → m.wr = true → m.dealloc = false → m.data = [(l, v)] →
    (s.ce.sops.any fun o => o.id = m.sop) = false → (driveAt s m.drv).isSome = true →
    Runs (.memberCompletion i .ok) s fun t => mediaRead t m.drv l = some v ∧ t.ce.mcmds.all (fun x => x.id ≠ i) = true ∧
      t.ce.ctxs = s.ce.ctxs ∧ t.ce.sops = s.ce.sops ∧ t.bsk = s.bsk ∧ t.jrn = s.jrn) ∧
  (∀ s i m d e, Alive s → mcmdOf s i = some m → s.pwr.dumping = false → driveAt s m.drv = some d → d.resetAt = some e →
    s.tet.epoch ≤ e + 15625 → m.drv = memDrv s m.array m.member →
    Gives (.memberTimeout i) s (loseMembers [⟨m.array, m.member, 3⟩] s)) ∧
  (∀ s d x, Alive s → driveAt s d = some x → x.resetting = true → s.pwr.dumping = false →
    Gives (.memberControllerReadyTimeout d) s (loseDrive d 3 s)) ∧
  (∀ s ls, Alive s → (∀ l ∈ ls, 1 ≤ l.row ∧ l.row ≤ 6) → Gives (.memberMissing ls) s (loseMembers ls s)) ∧
  (∀ s i m, Alive s → mcmdOf s i = some m → m.wr = false → m.hedged = false → s.rd (R.STR_An_POLICY_HEDGE_MS m.array) ≠ 0 →
    missCount s m.array ≤ 1 → s.pwr.dumping = false → erasable s m = true →
    Gives (.hedgeExpire i) s (eraseRead m (rangeFrom m.lba m.count)
      { (s.incSat (R.STR_An_REPAIR_HEDGED m.array)) with
        ce.mcmds := s.ce.mcmds.map fun x => if x.id = m.id then { x with owner := 0, sop := 0, hedged := true } else x })) ∧
  (∀ s a st p, Alive s → (s.arr a).repairs = [p] → (p.2.1 - dataLba) / strB s a = st → arrServes s a = true → lockFree s a st = true →
    s.pwr.dumping = false → erasuresAt s a st ((p.2.1 - dataLba) % strB s a) [] ≤ 2 →
    Gives (.readRepair a st true) s (unlessShort s
      ((repairColumn a st ((p.2.1 - dataLba) % strB s a) (engineStep a st 1 (dataN s a) s)).modArr a fun r =>
        { r with repairs := r.repairs.filter fun p => (p.2.1 - dataLba) / strB s a ≠ st })))

/-- The stripe engine (R18, R67, R68, R70): the oldest job of a slice retires, its input counted, SLICE_BUSY showing the slices with
queued jobs, and with the last job of an operation of background work its lock entry is given up. A job that fails its residue check runs once more on another slice; one that
fails again takes its slice off, counted and raised, and no job stays queued there. Model's choice: which slice goes off (log entry 75). -/
def Obligations.EngineSlicesRetireOrFail : Prop :=
  (∀ s j x rest, Alive s → takeFirst (fun x : Job => x.slice = j) s.ce.jobs = some (x, rest) → s.ce.jobWait = [] →
    rest.any (fun y => y.op = x.op) = true →
    Gives (.engineJobRetire j) s (sliceBusy (State.incWrap { s with ce.jobs := rest } (R.STR_ENG_CNTj_INPUT_4K j) x.units))) ∧
  (∀ s j x rest, Alive s → takeFirst (fun x : Job => x.slice = j) s.ce.jobs = some (x, rest) → s.ce.jobWait = [] →
    rest.any (fun y => y.op = x.op) = false → 2 ^ 33 ≤ x.op →
    Gives (.engineJobRetire j) s
      (unlockAll x.op (sliceBusy (State.incWrap { s with ce.jobs := rest } (R.STR_ENG_CNTj_INPUT_4K j) x.units)))) ∧
  (∀ s j, j < 4 → bit ((sliceBusy s).rd R.STR_ENG_STATUS_SLICE_BUSY) j = s.ce.jobs.any (fun x => x.slice = j)) ∧
  (∀ s j, Alive s → j < 4 → bit (s.rd R.STR_ENG_STATUS_SLICE_OFF) j = false → (s.rd R.STR_ENG_STATUS_SLICE_OFF ||| 2 ^ j) % 16 ≠ 15 →
    Runs (.sliceResidueFail j true) s fun t =>
      t.rd R.STR_ENG_STATUS_SLICE_OFF = (s.rd R.STR_ENG_STATUS_SLICE_OFF ||| 2 ^ j) % 16 ∧
      t.rd R.STR_INT_DEV_SLICE_FAIL = (s.rd R.STR_INT_DEV_SLICE_FAIL ||| 2 ^ j) % 16 ∧
      t.ce.sliceFails = s.ce.sliceFails ++ [(j, s.tet.epoch)] ∧ t.ce.jobs.all (fun x => x.slice ≠ j) = true ∧ SameStores s t ∧
      t.arrs = s.arrs) ∧
  (∀ s j k x rest, Alive s → j < 4 → bit (s.rd R.STR_ENG_STATUS_SLICE_OFF) j = false →
    ((s.ce.sliceFails.filter fun p => p.1 = j && decide (s.tet.epoch < p.2 + 1024)).length < 2) →
    takeFirst (fun x : Job => x.slice = j) s.ce.jobs = some (x, rest) → x.tried = false → slicePick (fun i => i ≠ j) s = some k →
    Gives (.sliceResidueFail j false) s (sliceBusy (State.incSat { s with
      ce.sliceFails := s.ce.sliceFails ++ [(j, s.tet.epoch)], ce.jobs := rest ++ [{ x with slice := k, tried := true }] }
      R.STR_ENG_STATUS_FAULTS))) ∧
  (∀ s j, Alive s → j < 4 → bit (s.rd R.STR_ENG_STATUS_SLICE_OFF) j = false → s.ce.jobs.all (fun x => x.slice ≠ j) = true →
    ((s.ce.sliceFails.filter fun p => p.1 = j && decide (s.tet.epoch < p.2 + 1024)).length < 2) →
    Gives (.sliceResidueFail j false) s (State.incSat { s with
      ce.sliceFails := s.ce.sliceFails ++ [(j, s.tet.epoch)] } R.STR_ENG_STATUS_FAULTS))

/-- The device's own work on arrays, one stripe a step (R72, R110, R111, R123 to R135, R207): destage of the stripe that is first in the order, a
rebuild target labelled into its slot, the lowest free stripe of the window, completion with the member present again, the
map copied, copyback, its swap and its automatic start, patrol and resync.
Model's choices: log entries 7, 8, 39 and 71. -/
def Obligations.BackgroundWorkSteps : Prop :=
  (∀ s a st, Alive s → bgOk s = true → (dirtyStripes s).filter (fun p => eligible s p.1 p.2) = [(a, st)] → coversAll s a st = true →
    lockFree s a st = true → synced s a st = true → engineOn s = true → 0 < strB s a → dirtyCols s a st ≠ [] →
    Runs (.destageStep a st) s fun t => lockFree t a st = false ∧
      (t.ce.sops.any fun o => o.array = a && o.stripe = st && o.kind = .coalesce && o.phase = .engine) = true ∧ t.bsk = s.bsk) ∧
  (∀ s a st, Alive s → bgOk s = true → (dirtyStripes s).filter (fun p => eligible s p.1 p.2) = [(a, st)] →
    Gives (.destageStep a st) s (destageStart a st s)) ∧
  (∀ s a m d u, Alive s → (s.arr a).waiting.contains (m, d) = true → arrServes s a = true → arrState s a ≠ aResyncing → bgOk s = true →
    u = s.modArr a (fun r => { r with waiting := r.waiting.filter fun p => p.1 ≠ m }) →
    passesR55 u d (u.rd (R.STR_An_GEOM_META a)) = true →
    Gives (.rebuildTargetAssign a m d) s
      (arrUpdate a (relabel a (formSlot a m d 0 (mediaClear d dataLba ((u.arr a).stripes * strB u a) u))))) ∧
  (∀ s a i u st, Alive s → i < 2 → slotRuns s a i = true → (slotAt s a (1 - i)).act = false → u = modSlot a i skipWm s →
    (slotAt u a i).joined = false → slotNext u a (slotAt u a i) = some st → st = (slotAt u a i).wm → ringShort s = false →
    coalescing (rebuildStripe a st [(slotAt u a i).target] u) a st = false →
    Gives (.rebuildStep a i) s (progressDue 0 a (slotAt u a i).target
      (modSlot a i (fun x => if st = x.wm then advanceWm 16 { x with wm := x.wm + 1 } else { x with ahead := insNat st x.ahead })
        (rebuildStripe a st [(slotAt u a i).target] u)))) ∧
  (∀ s a i, Alive s → i < 2 → a < s.arrs.length → slotRuns s a i = true → (slotAt s a (1 - i)).act = false → (slotAt s a i).joined = false →
    (slotAt s a i).ahead = [] → (slotAt s a i).exHi ≤ (slotAt s a i).wm → slotNext s a (slotAt s a i) = some (slotAt s a i).wm →
    nsOfStripe s a (slotAt s a i).wm = none → coalescing s a (slotAt s a i).wm = false →
    Runs (.rebuildStep a i) s fun t => slotAt t a i = { slotAt s a i with wm := (slotAt s a i).wm + 1 } ∧ t.ext = s.ext) ∧
  (∀ s a i, Alive s → i < 2 → bgOk s = true → slotEnded s a i = true → slotEnded (completeSlot a i s) a (1 - i) = false →
    Gives (.rebuildComplete a i) s (arrUpdate a (relabel a (completeSlot a i s)))) ∧
  (∀ s a m, Alive s → bgOk s = true → arrOn s a = true → (mapWanted s a).contains m = true → s.rd (R.STR_An_MEMBERk_MAPHOLD a m) = 0 →
    Gives (.mapCopy a m) s (relabel a (progress 6 a m 2 (mapGive a m s)))) ∧
  (∀ s a c, Alive s → (s.arr a).cb = some c → cbRuns s a = true → c.wm < (s.arr a).stripes → lockFree s a c.wm = true →
    ringShort s = false → coalescing (copyStripe a c.wm c.src c.dest s) a c.wm = false →
    Gives (.copybackStep a) s (progressDue 1 a c.src ((copyStripe a c.wm c.src c.dest s).modArr a fun r =>
      { r with cb := r.cb.map fun x => { x with wm := c.wm + 1 } }))) ∧
  (∀ s a c, Alive s → (s.arr a).cb = some c → cbRuns s a = true → (s.arr a).stripes ≤ c.wm →
    s.ce.mcmds.any (fun m => m.array = a && m.member = c.src && m.wr) = false → (s.arr a).taken = [] →
    ∀ u, u = State.event (setMember a c.src c.dest (entryKeep a ((progress 1 a c.src 2 s).modArr a fun r =>
      { r with cb := none }))) 0x0304 (srcArr a) (cbPayload c) →
    u.rd (R.STR_An_MEMBERk_MAPHOLD a c.src) = 0 → (progress 1 a c.src 2 s).arrs = s.arrs →
    Gives (.copybackSwap a) s (relabel a u)) ∧
  (∀ s a m d, Alive s → arrOn s a = true → m < memN s a → missing s a m = false → (s.arr a).cb = none → cbRuns s a = true →
    returnPlace s a m = some d → Gives (.copybackAutoStart a m) s (startCopyback a m d 1 s)) ∧
  (∀ s a m k, Alive s → arrOn s a = true → m < memN s a → missing s a m = false → (s.arr a).cb = none → cbRuns s a = true →
    returnPlace s a m = none → s.rd (R.STR_An_POLICY_CB_MEDIA a) ≠ 0 → bit (s.rd (R.STR_An_MEDIA_WARN_WARN a)) m = true → spareFor s a = some k →
    Gives (.copybackAutoStart a m) s (startCopyback a m (spareDrv s k) 2 (takeSpare a m k
      (s.modArr a fun r => { r with places := (m, memDrv s a m) :: r.places.filter fun p => p.1 ≠ m })))) ∧
  (∀ s a, Alive s → patrolRuns s a = true → (s.arr a).stripes ≤ (s.arr a).pt →
    Gives (.patrolStep a) s (progressDue 3 a 0 ((s.modArr a fun r => { r with pt := 0 }).incSat (R.STR_An_PT_HI_CYCLES a)))) ∧
  (∀ s a, Alive s → patrolRuns s a = true → (s.arr a).pt < (s.arr a).stripes → nsOfStripe s a (s.arr a).pt ≠ none →
    isLost s a (s.arr a).pt = false → lockFree s a (s.arr a).pt = true → ringShort s = false →
    ∀ u v, u = State.modArr (State.modArr (patrolStripe a (s.arr a).pt s) a fun r => { r with patrolled := r.patrolled + 1 }) a
      (fun r => { r with pt := (s.arr a).pt + 1 }) →
    v = (if (u.arr a).stripes ≤ (s.arr a).pt + 1 then (u.modArr a fun r => { r with pt := 0 }).incSat (R.STR_An_PT_HI_CYCLES a) else u) →
    Gives (.patrolStep a) s (progressDue 3 a 0 v)) ∧
  (∀ s a r, Alive s → (s.arr a).rs = some r → bgOk s = true → arrServes s a = true →
    shareOk (sharesFor s a).1 = true → (s.arr a).stripes ≤ r.wm →
    Gives (.resyncStep a) s (resyncEnd a r s)) ∧
  (∀ s a r, Alive s → (s.arr a).rs = some r → bgOk s = true → arrServes s a = true → a < s.arrs.length →
    shareOk (sharesFor s a).1 = true → r.wm + 1 < (s.arr a).stripes → synced s a r.wm = true → ringShort s = false →
    Gives (.resyncStep a) s (progressDue 2 a 0 (s.modArr a fun x => { x with
      rs := some { r with wm := r.wm + 1, verified := r.verified.filter (· ≠ r.wm) } })))

/-- Contexts for queues (R141, R142, R144, R146). A submission queue's turn fetches at most 8 commands, one context each, and all that its
reservation covers; a capsule takes a credit and is acknowledged, or is refused with RNR NAK, counted and raised; credits unused for 16 epochs beyond
the reservation are withdrawn; a grant serves the next queue; an admin command waits for one of the 64 contexts.
Model's choices: log entries 2, 45 and 79. -/
def Obligations.QueuesTakeContexts : Prop :=
  (∀ s c q avail x, Alive s → taking s = true → c < 2 → queueOf s c q = some x → (ctrlOf s c).map (·.rdy) = some true →
    ∀ k n u v, k = turnShare s c q → (n, u) = fetchUpTo c q (min 8 avail) k s →
    v = u.modQueue c q (fun y => { y with
      waiting := if n < min 8 avail then avail - n else 0, throttledFull := y.throttledFull && n = 0 }) →
    Gives (.sqFetch c q avail) s (lowCheck (sharedFree s)
      (if k = 0 then v else { v with ce.rr := (s.ce.queues.findIdx fun x => x.ctrl = c && x.qid = q) + 1 }))) ∧
  (∀ s c q avail x, Alive s → taking s = true → c < 2 → queueOf s c q = some x → (ctrlOf s c).map (·.rdy) = some true →
    heldBy s x + min 8 avail ≤ x.r → x.r < x.size →
    Runs (.sqFetch c q avail) s fun t => SameStores s t ∧ t.ce.ctxs = s.ce.ctxs ∧ queueOf t c q = some { x with
      fetched := x.fetched + min 8 avail, waiting := 0, throttledFull := x.throttledFull && min 8 avail = 0 }) ∧
  (∀ s c q n k, (fetchUpTo c q n k s).1 ≤ n) ∧
  (∀ s c q n k x, queueOf s c q = some x → mayHold s x = false → fetchUpTo c q n k s = (0, s)) ∧
  (∀ s c q bytes x, Alive s → taking s = true → 16 ≤ c → bytes ≤ 16384 → queueOf s c q = some x → 0 < x.credits →
    Gives (.capsuleReceipt c q bytes) s (ackCredits c q (s.modQueue c q fun y => { y with
      credits := y.credits - 1, fetched := y.fetched + 1, idle := 0, usedLast := y.usedLast || decide (y.credits = 1) }))) ∧
  (∀ s c q bytes, Alive s → 16384 < bytes → Gives (.capsuleReceipt c q bytes) s s) ∧
  (∀ s c q bytes x p, Alive s → 16 ≤ c → bytes ≤ 16384 → queueOf s c q = some x → x.credits = 0 →
    s.fab.qps.find? (fun p => p.id = x.qp) = some p →
    Gives (.capsuleReceipt c q bytes) s
      (((s.emit (.eth p.port 0 2 [x.qp])).raise R.HPT_CE_INT_STATUS_RNR).incWrap R.HPT_CE_CNT_RNR_RNR)) ∧
  (∀ s c q x, Alive s → queueOf s c q = some x → 16 ≤ x.idle → x.r < heldBy s x →
    Gives (.creditWithdraw c q) s (ackCredits c q (s.modQueue c q fun y => { y with
      credits := y.credits - min y.credits (heldBy s x - x.r), idle := 0 }))) ∧
  (∀ s c q x, Alive s → queueOf s c q = some x → x.idle < 16 ∨ heldBy s x ≤ x.r → Gives (.creditWithdraw c q) s s) ∧
  (∀ s i x, Alive s → taking s = true → nextQueue s = some (i, x) → 16 ≤ x.ctrl →
    Gives .contextGrant s (lowCheck (sharedFree s) (ackCredits x.ctrl x.qid (State.modQueue { s with ce.rr := i + 1 } x.ctrl x.qid fun y =>
      { y with credits := y.credits + 1, idle := 0 })))) ∧
  (∀ s i x, Alive s → taking s = true → nextQueue s = some (i, x) → x.ctrl < 16 →
    Gives .contextGrant s (lowCheck (sharedFree s) (State.modQueue { s with ce.rr := i + 1 } x.ctrl x.qid fun y => { y with
      fetched := y.fetched + 1, waiting := y.waiting - 1, throttledFull := false }))) ∧
  (∀ s i rest, Alive s → taking s = true → s.ce.adminWait = i :: rest → adminHeld s < 64 →
    saniForbids i = false ∨ sanitizing s = false →
    Gives .adminContextGrant s (adminDo i { s with ce.adminWait := rest }))

/-- Creation and deletion of I/O queues on a PCIe controller (R143, R145, R155). A queue that fits gets its reservation, the
lower of its size less one and RSV_DEFAULT; one whose size or reservation does not fit is refused with QUEUE_REFUSED; a
completion queue in use is not deleted; a queue identifier of 0 or in use is refused.
Controllers (R140, R146, R154, R225, R239). A fabrics admin Connect from a permitted host makes a controller and names it in
Dword 0; a host outside the access list is refused and raised; CC.EN makes a PCIe controller ready once service is open;
a controller reset ends its queues and commands without a completion, and a fabric controller's association; the
keep-alive timer ends only associations that run one.
Model's choices: log entries 42 and 79. -/
def Obligations.ControllersAndQueuesComeAndGo : Prop :=
  (∀ s h qid qsize cqid, AdminFree h s → h.ctrl < 16 → s.ce.cqs.any (fun x => x.ctrl = h.ctrl && x.qid = cqid) = true →
    0 < qid → qid ≤ maxQid s h.ctrl → queueOf s h.ctrl qid = none → 2 ≤ qsize → qsize ≤ 4096 →
    floorOk s (min (qsize - 1) (s.rd R.HPT_CE_POOL_CFG_RSV_DEFAULT)) = true →
    Gives (.createIoSq h qid qsize cqid) s (cqeSt h stOk { s with ce.queues := s.ce.queues ++
      [⟨h.ctrl, qid, qsize, cqid, min (qsize - 1) (s.rd R.HPT_CE_POOL_CFG_RSV_DEFAULT), 0, 0, 0, false, 0, 0, 0, false, 0, false⟩] })) ∧
  (∀ s h qid qsize cqid, AdminFree h s → h.ctrl < 16 → s.ce.cqs.any (fun x => x.ctrl = h.ctrl && x.qid = cqid) = true →
    0 < qid → qid ≤ maxQid s h.ctrl → queueOf s h.ctrl qid = none →
    qsize < 2 ∨ 4096 < qsize ∨ floorOk s (min (qsize - 1) (s.rd R.HPT_CE_POOL_CFG_RSV_DEFAULT)) = false →
    Gives (.createIoSq h qid qsize cqid) s (cqeSt h (1, 2, true) (s.raise R.HPT_CE_INT_STATUS_QUEUE_REFUSED))) ∧
  (∀ s h qid qsize iv, AdminFree h s → h.ctrl < 16 → 0 < qid → qid ≤ maxQid s h.ctrl →
    s.ce.cqs.any (fun x => x.ctrl = h.ctrl && x.qid = qid) = false → 2 ≤ qsize → qsize ≤ 4096 → iv < 1025 →
    Gives (.createIoCq h qid qsize iv) s (cqeSt h stOk { s with ce.cqs := s.ce.cqs ++ [(⟨h.ctrl, qid, qsize, iv⟩ : CQueue)] })) ∧
  (∀ s h qsize iv, AdminFree h s → h.ctrl < 16 → Gives (.createIoCq h 0 qsize iv) s (cqeSt h (1, 1, true) s)) ∧
  (∀ s h qid x, AdminFree h s → h.ctrl < 16 → queueOf s h.ctrl qid = some x →
    Gives (.deleteIoSq h qid) s (cqeSt h stOk (dropQueue h.ctrl qid s))) ∧
  (∀ s h qid, AdminFree h s → h.ctrl < 16 → queueOf s h.ctrl qid = none →
    Gives (.deleteIoSq h qid) s (cqeSt h (1, 1, true) s)) ∧
  (∀ s h qid, AdminFree h s → h.ctrl < 16 → s.ce.cqs.any (fun x => x.ctrl = h.ctrl && x.qid = qid) = true →
    s.ce.queues.any (fun x => x.ctrl = h.ctrl && x.cq = qid) = false →
    Gives (.deleteIoCq h qid) s (cqeSt h stOk { s with ce.cqs := s.ce.cqs.filter fun x => ¬ (x.ctrl = h.ctrl && x.qid = qid) })) ∧
  (∀ s h qid, AdminFree h s → h.ctrl < 16 → s.ce.cqs.any (fun x => x.ctrl = h.ctrl && x.qid = qid) = true →
    s.ce.queues.any (fun x => x.ctrl = h.ctrl && x.cq = qid) = true →
    Gives (.deleteIoCq h qid) s (cqeSt h (1, 0xC, true) s)) ∧
  (∀ s c q, queueOf (dropQueue c q s) c q = none) ∧
  (∀ s r q, Alive s → taking s = true → s.fab.qps.find? (fun q => q.id = r.qp) = some q → q.ctrl = 0xFFFF → q.err = false →
    r.qid = 0 → r.cntlid = 0xFFFF → aclOk s r.hostNqn = true → (s.ce.ctrls.filter fun c => c.fabric && ¬ c.discovery).length < 512 →
    Gives (.connect r) s (cqe ⟨s.ce.ctrlSeq, 0, r.cid⟩ 0 0 false s.ce.ctrlSeq [] (State.modQp { s with
      ce.ctrls := s.ce.ctrls ++ [⟨s.ce.ctrlSeq, true, false, false, 0, false, r.discovery, r.hostNqn, r.hostId, r.kato, [], 0, none,
        [], r.noFlow, [], 0, [], 0, 0, 0, 0, r.sqsize, 0⟩], ce.ctrlSeq := s.ce.ctrlSeq + 1 }
      r.qp fun x => { x with ctrl := s.ce.ctrlSeq, qid := 0 }))) ∧
  (∀ s r q, Alive s → taking s = true → s.fab.qps.find? (fun q => q.id = r.qp) = some q → q.ctrl = 0xFFFF → q.err = false →
    r.qid = 0 → aclOk s r.hostNqn = false →
    Gives (.connect r) s (cqeSt ⟨r.cntlid, 0, r.cid⟩ (1, 0x84, true) (s.raise R.FAB_INT_STATUS_ACL_REJECT))) ∧
  (∀ s h x, Alive s → taking s = true → 16 ≤ h.ctrl → 0 < h.q → queueOf s h.ctrl h.q = some x →
    Gives (.disconnect h) s (cqeSt h stOk (dropQueue h.ctrl h.q s))) ∧
  (∀ s h c, Alive s → taking s = true → ctrlOf s h.ctrl = some c → c.fabric = true →
    Gives (.propertyGet h 0x14) s (cqeInfo h [c.cc] s) ∧ Gives (.propertyGet h 0x08) s (cqeInfo h [0x20000] s) ∧
    Gives (.propertyGet h 0x1C) s (cqeInfo h [cstsValue s c] s) ∧ Gives (.propertyGet h 0) s (cqeInfo h [capValue] s)) ∧
  (∀ s h c v, Alive s → taking s = true → ctrlOf s h.ctrl = some c → c.fabric = true → c.en = false ∨ bit v 0 = true →
    Gives (.propertySet h 0x14 v) s (cqeSt h stOk (s.modCtrl h.ctrl fun x => { x with
      cc := v, en := bit v 0, rdy := bit v 0 && s.ready, shst := if bits v 14 2 = 0 then x.shst else 2 }))) ∧
  (∀ s h c v, Alive s → taking s = true → ctrlOf s h.ctrl = some c → c.fabric = true → c.en = true → bit v 0 = false →
    Gives (.propertySet h 0x14 v) s (cqeSt h stOk ((ctrlReset h.ctrl s).modCtrl h.ctrl fun x => { x with cc := v }))) ∧
  (∀ s h, Alive s → adminOpen s h = true → 16 ≤ h.ctrl → Gives (.keepAlive h) s (cqeSt h stOk s)) ∧
  (∀ s c x, Alive s → ctrlOf s c = some x → x.fabric = true → x.kato ≠ 0 →
    Gives (.keepAliveTimeout c) s (endAssociation c s)) ∧
  (∀ s c, Alive s → c < 2 → fn0Up s c = true →
    Gives (.ccEnSet c) s (s.modCtrl c fun x => { x with en := true, cc := x.cc / 2 * 2 + 1, rdy := s.ready })) ∧
  (∀ s c x, Alive s → ctrlOf s c = some x → x.fabric = false → Gives (.controllerReset c) s (ctrlReset c s)) ∧
  (∀ s c x, Alive s → ctrlOf s c = some x → x.fabric = true → Gives (.controllerReset c) s (endAssociation c s)) ∧
  (∀ s c x, ctrlOf s c = some x → x.fabric = false →
    (∀ y ∈ (ctrlReset c s).ce.queues, y.ctrl ≠ c) ∧ (ctrlOf (ctrlReset c s) c).map (·.rdy) = some false) ∧
  (∀ s c, ctrlOf (endAssociation c s) c = none)

/-- Admin commands with a free context (R146, R151, R152, R164 to R167): Identify and Get Log Page return data structures, Set
and Get Features keep and return values, Abort completes with Dword 0 set to 1 and aborts nothing, a fifth Asynchronous Event Request is refused, and an opcode that the table does not list is refused.
Model's choices: log entries 42 and 79. -/
def Obligations.AdminCommandsAnswer : Prop :=
  (∀ s h c nsid, AdminFree h s → ctrlOf s h.ctrl = some c →
    Gives (.identify h 1 nsid) s (cqeInfo h (idCtrl s c) s) ∧
    Gives (.identify h 2 nsid) s (cqeInfo h ((activeNs s nsid).take 1024) s)) ∧
  (∀ s h c nsid n, AdminFree h s → ctrlOf s h.ctrl = some c → nsById s nsid = some n →
    Gives (.identify h 0 nsid) s (cqeInfo h (idNs s n) s)) ∧
  (∀ s h c nsid, AdminFree h s → ctrlOf s h.ctrl = some c → nsById s nsid = none →
    Gives (.identify h 0 nsid) s (cqeSt h stNs s)) ∧
  (∀ s h c nsid off len bs, AdminFree h s → ctrlOf s h.ctrl = some c → logOf s c nsid 1 off len = .page bs → off ≤ bs.length →
    Gives (.getLogPage h nsid 1 off len) s
      (cqeInfo h ((bs.drop off).take len) (s.modCtrl h.ctrl fun x => { x with logs := x.logs.filter (· ≠ 1) }))) ∧
  (∀ s h c nsid v, AdminFree h s → ctrlOf s h.ctrl = some c →
    (bits v 0 3 = 3 → Gives (.setFeatures h 1 nsid v false) s (cqeSt h stOk (putFeat c.id 1 v s))) ∧
    (bits v 0 3 ≠ 3 → Gives (.setFeatures h 1 nsid v false) s (cqeSt h stField s)) ∧
    Gives (.setFeatures h 1 nsid v true) s (cqeSt h (1, 0xD, true) s)) ∧
  (∀ s h c v, AdminFree h s → ctrlOf s h.ctrl = some c →
    Gives (.getFeatures h 1 v) s (cqe h 0 0 false (featOf c 1 3) [] s) ∧
    Gives (.getFeatures h 0x0B v) s (cqe h 0 0 false c.aenMask [] s)) ∧
  (∀ s h sq cid, AdminFree h s →
    Gives (.abort h sq cid) s (cqe h 0 0 false 1 [] (s.incWrap R.HPT_CE_CNT_ABORT_ABORTS))) ∧
  (∀ s h c, Alive s → adminOpen s h = true → ctrlOf s h.ctrl = some c → adminWaiting s h.ctrl = 0 → c.aer.length < 4 →
    c.aenPend = [] →
    Gives (.asynchronousEventRequest h) s (s.modCtrl c.id fun x => { x with aer := x.aer ++ [h.cid] })) ∧
  (∀ s h c, Alive s → adminOpen s h = true → ctrlOf s h.ctrl = some c → adminWaiting s h.ctrl = 0 → 4 ≤ c.aer.length →
    Gives (.asynchronousEventRequest h) s (cqeSt h (1, 5, true) s)) ∧
  (∀ s h opc, AdminFree h s → h.q = 0 → Gives (.invalidOpcode h opc) s (cqeSt h (0, 1, true) s))

/-- Firmware (R156, Table 6.3). A piece of an image is kept; a commit of a checked image in its slot makes it preferred, one of
a downloaded image waits for the flash write; the activation checks, drains and resumes in the phases of ACT_PHASE, with fetching
stopped from the drain to the end, and the command completes at the resume.
Model's choices: log entries 43 and 81. -/
def Obligations.FirmwareActivatesInPhases : Prop :=
  (∀ s h len img, AdminFree h s → sanitizing s = false → 0 < len → len % 4 = 0 → len ≤ 28 * 2 ^ 20 →
    Gives (.firmwareImageDownload h 0 len img) s
      (cqeSt h stOk { s with ce.download := [(0, len)], ce.dlImage := some img })) ∧
  (∀ s h slot img, AdminFree h s → sanitizing s = false → slot = 1 ∨ slot = 2 → slotImg s (slot - 1) = some img →
    imageCheck s 0 img = none →
    Gives (.firmwareCommit h slot 2) s
      (cqeSt h stOk ((prefer (slot - 1) s).wr R.HPT_CE_ACT_LAST_STATUS 0))) ∧
  (∀ s i, (prefer i s).nv.preferred = i ∧ (prefer i s).nv.clearBoot = true) ∧
  (∀ s h slot action img, AdminFree h s → sanitizing s = false → slot = 1 ∨ slot = 2 → action < 2 → downloadWhole s = true →
    s.ce.dlImage = some img → imageCheck s 0 img = none →
    Gives (.firmwareCommit h slot action) s { s with
      ce.download := [], ce.dlImage := none, ce.fwWrites := s.ce.fwWrites ++ [⟨some h, slot - 1, action, img⟩] } ∧
    (s.ce.fwWrites = [] → s.dwn.flashOp = none → s.mbx.wait = [] → Runs (.firmwareCommit h slot action) s fun t =>
      Runs (.flashWriteComplete true) t fun w => slotImg w (slot - 1) = some img ∧ (action = 1 → w.nv.preferred = slot - 1) ∧
        Completed h stOk [] w)) ∧
  (∀ s c, Alive s → s.ce.commit = some c → s.rd R.HPT_CE_ACT_PHASE = 1 → s.rd R.HPT_CE_ACT_PAIR_WAIT = 0 → s.pairState ≠ 2 →
    s.pairState ≠ 3 →
    Gives (.fwActivationCheckDone true) s (actDrain s)) ∧
  (∀ s, (actDrain s).rd R.HPT_CE_ACT_PHASE = 2 ∧ (actDrain s).rd R.HPT_CE_STATUS_FETCH_STOPPED = 1 ∧
    (actDrain s).rd R.HPT_CE_INT_STATUS_ACT_START = 1) ∧
  (∀ s c, Alive s → s.ce.commit = some c → s.rd R.HPT_CE_ACT_PHASE = 1 → s.rd R.HPT_CE_ACT_PAIR_WAIT = 0 →
    Runs (.fwActivationCheckDone false) s fun t => t.ce.commit = none ∧ t.rd R.HPT_CE_ACT_PHASE = 0 ∧
      t.rd R.HPT_CE_ACT_LAST_STATUS = 7 ∧ t.rd R.HPT_CE_INT_STATUS_ACT_FAIL = 1) ∧
  (∀ s, Alive s → s.rd R.HPT_CE_ACT_PHASE = 2 → drained s = true →
    Gives .fwActivationDrainDone s { s with ce.actReady := true }) ∧
  (∀ s c ms, Alive s → s.ce.commit = some c → 3 ≤ s.rd R.HPT_CE_ACT_PHASE → s.pairState = 2 → s.rd R.SPR_LINK_UP = 1 → s.pair.second = false →
    Runs (.fwActivationResume ms) s fun t => t.ce.commit = some c ∧ t.rd R.HPT_CE_ACT_PHASE = 0 ∧ t.rd R.HPT_CE_STATUS_FETCH_STOPPED = 0 ∧
      OutEv.spar 9 [5] ∈ t.out ∧ OutEv.spar 9 [1] ∈ t.out) ∧
  (∀ s c, Alive s → s.ce.commit = some c → s.rd R.HPT_CE_ACT_PHASE = 0 → s.pairState = 3 → s.rd R.SPR_LINK_UP = 1 →
    Runs .actDone s fun t => t.ce.commit = none ∧ t.rd R.HPT_CE_ACT_LAST_STATUS = 0 ∧
      (∀ h, c.h = some h → ∃ d, OutEv.cqe h.ctrl h.q h.cid 0 0 false 0 [] d ∈ t.out)) ∧
  (∀ s c ms, Alive s → s.ce.commit = some c → 3 ≤ s.rd R.HPT_CE_ACT_PHASE → s.pairState ≠ 2 →
    Runs (.fwActivationResume ms) s fun t => t.ce.commit = none ∧ t.nv.preferred = c.slot ∧ t.rd R.HPT_CE_ACT_PHASE = 0 ∧
      t.rd R.HPT_CE_STATUS_FETCH_STOPPED = 0 ∧ t.rd R.HPT_CE_ACT_LAST_PAUSE_MS = min 65535 ms ∧
      t.rd R.HPT_CE_ACT_LAST_STATUS = 0 ∧ t.rd R.HPT_CE_INT_STATUS_ACT_DONE = 1 ∧
      (∀ h, c.h = some h → ∃ d, OutEv.cqe h.ctrl h.q h.cid 0 0 false 0 [] d ∈ t.out))

/-- Format and Sanitize (R157, R158). A Format that nothing refuses marks its namespaces as being formatted, its steps go on, and where one
step covers a namespace on which no command is outstanding the two rows together give it the LBA format and complete the command; a
Sanitize that nothing refuses starts: SANITIZING reads 1, SSTAT 2 (in progress); an array step of
a Block Erase moves on by one, and past the last array the Sanitize ends with SANITIZE_DONE; leaving failure mode clears
it, and is refused outside it.
Model's choices: log entries 8, 42, 44 and 80. -/
def Obligations.FormatAndSanitizeRun : Prop :=
  (∀ s h nsid lbaf ses n, AdminFree h s → sanitizing s = false → ses ≤ 1 → nsid ≠ 0xFFFFFFFF → nsById s nsid = some n →
    formatRefusal s h n lbaf = none →
    Gives (.formatNvm h nsid lbaf ses) s { s with
      ce.formats := s.ce.formats ++
        [⟨some h, [n.idx], lbaf, (s.ce.ctxs.filter fun c => [n.idx].contains c.ns || c.nsid = 0xFFFFFFFF).map (·.id)⟩],
      nv.progs := s.nv.progs ++ [⟨4, n.idx, 0, n.stripes, lbaf⟩] }) ∧
  (∀ s p, Alive s → bgOk s = true → s.nv.progs.find? (fun p => p.kind = 4 && formatMay s p) = some p →
    Gives .formatProgressStep s (formatRun p s)) ∧
  (∀ s h nsid lbaf ses n, AdminFree h s → sanitizing s = false → ses ≤ 1 → nsid ≠ 0xFFFFFFFF → nsById s nsid = some n →
    formatRefusal s h n lbaf = none → bgOk s = true → s.nv.progs = [] → s.ce.formats = [] → s.ce.ctxs = [] → s.ce.sops = [] →
    s.bsk.extents = [] → (s.arr n.array).lost = [] → nsAt s n.idx = some n → arrServes s n.array = true → n.stripes ≤ 1024 →
    Runs (.formatNvm h nsid lbaf ses) s fun t => Runs .formatProgressStep t fun w =>
      (nsAt w n.idx).map (·.lbaf) = some lbaf ∧ w.nv.progs = [] ∧ w.ce.formats = [] ∧ w.rd R.HPT_CE_INT_STATUS_FORMAT_DONE = 1 ∧
      ∃ d, OutEv.cqe h.ctrl h.q h.cid 0 0 false 0 [] d ∈ w.out) ∧
  (∀ s h, AdminFree h s → blockEraseOk s = true → s.nv.sani = none → saniSeqErr s = false → s.ce.ctxs = [] →
    Runs (.sanitizeBlockErase ⟨h, 2⟩) s fun t => t.nv.sani = some ⟨2, 1, false, 0, 0, 0, 0⟩ ∧ t.rd R.HPT_CE_STATUS_SANITIZING = 1 ∧
      t.rd R.HPT_CE_SANI_SSTAT = 2 ∧ t.rd R.HPT_CE_SANI_ACTION = 2 ∧ ∃ d, OutEv.cqe h.ctrl h.q h.cid 0 0 false 0 [] d ∈ t.out) ∧
  (∀ s h act, AdminFree h s → act ≠ 2 ∨ blockEraseOk s = false → Gives (.sanitizeBlockErase ⟨h, act⟩) s (cqeSt h stField s)) ∧
  (∀ s h owpass inv pat, AdminFree h s → owpass ≤ 15 → s.nv.sani = none → saniSeqErr s = false → s.ce.ctxs = [] →
    Runs (.sanitizeOverwrite h owpass inv pat) s fun t =>
      t.nv.sani = some ⟨3, if owpass = 0 then 16 else owpass, inv, pat, 0, 0, 0⟩ ∧ t.rd R.HPT_CE_STATUS_SANITIZING = 1 ∧
      t.rd R.HPT_CE_SANI_SSTAT = 2 ∧ ∃ d, OutEv.cqe h.ctrl h.q h.cid 0 0 false 0 [] d ∈ t.out) ∧
  (∀ s h, AdminFree h s → s.nv.saniFail = true →
    Gives (.sanitizeExitFailureMode h) s (cqeSt h stOk (saniRegs { s with nv.saniFail := false }))) ∧
  (∀ s h, AdminFree h s → s.nv.saniFail = false → Gives (.sanitizeExitFailureMode h) s (cqeSt h (0, 0xC, false) s)) ∧
  (∀ s x, Alive s → bgOk s = true → s.nv.sani = some x → x.action = 2 → x.arr < 16 → arrOn s x.arr = false →
    Gives .sanitizeProgressStep s (saniKeep { x with arr := x.arr + 1 } (if x.arr = 0 then eraseDrives s else s))) ∧
  (∀ s x, Alive s → bgOk s = true → s.nv.sani = some x → x.action = 2 → 16 ≤ x.arr →
    Gives .sanitizeProgressStep s (saniEnd s)) ∧
  (∀ s a st x, Alive s → bgOk s = true → s.nv.sani = some x → x.action = 3 → nthStripe s.ns x.st = some (a, st) →
    arrServes s a = true → lockFree s a st = true →
    Gives .sanitizeProgressStep s (saniKeep { x with st := x.st + 1 }
      (fillStripe a st (patternBlock (if x.invert = true ∧ x.pass % 2 = 1 then 2 ^ 32 - 1 - x.pattern % 2 ^ 32 else x.pattern)) s)))

/-- Reservations (R163, with the meaning of the NVMe base specification, PRESUMED: log entry 42). On a namespace that
serves, a host that has no key registers one, a registered host acquires a free reservation and releases its own, and
the report gives generation, type and registrants. -/
def Obligations.ReservationsAreKept : Prop :=
  (∀ s h nsid n key, Alive s → ioOpen s h = true → nsById s nsid = some n → anaState s n.array = 1 → formatting s n.idx = false →
    sanitizing s = false → keyOf (resvOf s n.idx) (hostOf s h.ctrl) = none →
    Runs (.reservationRegister h nsid 0 true 0 key 0) s fun t =>
      resvOf t n.idx = { resvOf s n.idx with ns := n.idx, gen := (resvOf s n.idx).gen + 1, regs := (resvOf s n.idx).regs ++ [(hostOf s h.ctrl, key)] } ∧
      (∃ d, OutEv.cqe h.ctrl h.q h.cid 0 0 false 0 [] d ∈ t.out) ∧ SameStores s t ∧ t.arrs = s.arrs) ∧
  (∀ s h nsid n key rtype prkey, Alive s → ioOpen s h = true → nsById s nsid = some n → anaState s n.array = 1 →
    formatting s n.idx = false → sanitizing s = false → 1 ≤ rtype → rtype ≤ 6 → (resvOf s n.idx).rtype = 0 →
    keyOf (resvOf s n.idx) (hostOf s h.ctrl) = some key →
    Runs (.reservationAcquire h nsid 0 rtype key prkey false) s fun t =>
      resvOf t n.idx = { resvOf s n.idx with ns := n.idx, holder := hostOf s h.ctrl, rtype := rtype } ∧
      (∃ d, OutEv.cqe h.ctrl h.q h.cid 0 0 false 0 [] d ∈ t.out) ∧ SameStores s t ∧ t.arrs = s.arrs) ∧
  (∀ s h nsid n key, Alive s → ioOpen s h = true → nsById s nsid = some n → anaState s n.array = 1 →
    formatting s n.idx = false → sanitizing s = false → (resvOf s n.idx).rtype = 1 → (resvOf s n.idx).holder = hostOf s h.ctrl →
    keyOf (resvOf s n.idx) (hostOf s h.ctrl) = some key →
    Runs (.reservationRelease h nsid 0 1 key false) s fun t =>
      resvOf t n.idx = { resvOf s n.idx with ns := n.idx, holder := 0, rtype := 0 } ∧
      (∃ d, OutEv.cqe h.ctrl h.q h.cid 0 0 false 0 [] d ∈ t.out) ∧ SameStores s t ∧ t.arrs = s.arrs) ∧
  (∀ s h nsid n, Alive s → ioOpen s h = true → nsById s nsid = some n → anaState s n.array = 1 → formatting s n.idx = false →
    sanitizing s = false →
    Runs (.reservationReport h nsid) s fun t => t.ce.resvs = s.ce.resvs ∧ SameStores s t ∧ t.arrs = s.arrs ∧
      ∃ rows d, OutEv.cqeInfo h.ctrl h.q h.cid ([(resvOf s n.idx).gen, (resvOf s n.idx).rtype, (resvOf s n.idx).regs.length, 0] ++ rows) d ∈ t.out)

/-- An I/O command on an open queue takes a context and goes through the steps of R10: the checks of Table 6.2 end it with the
first status that applies, else it takes the lock entries of its stripes; one that has them all is served. Ordered
commands wait for every earlier command of their queue (R150). Where nothing is waited for a command completes with Success in its own step: a read of
a cached block with its contents (R11, R177), a write or a partial Write Zeroes with the block in the write store (R13, R15, R16, R161), FLUSH where
no mirror runs (R153), Dataset Management that covers no stripe whole (R161). Model's choices: log entries 2, 35, 36 and 72. -/
def Obligations.IoCommandsTakeTheSteps : Prop :=
  (∀ s h nsid slba nlb f, Alive s → ioOpen s h = true →
    Gives (.read h nsid slba nlb f) s
      (startIo (nsById s nsid) true (arrive h .read slba nlb [] f false s).1 (arrive h .read slba nlb [] f false s).2)) ∧
  (∀ s h nsid slba data f, Alive s → ioOpen s h = true →
    Gives (.write h nsid slba data f) s
      (startIo (nsById s nsid) true (arrive h .write slba data.length data f false s).1 (arrive h .write slba data.length data f false s).2)) ∧
  (∀ s h nsid slba nlb deac f, Alive s → ioOpen s h = true →
    Gives (.writeZeroes h nsid slba nlb deac f) s
      (startIo (nsById s nsid) false (arrive h (.zeroes deac) slba nlb [] f false s).1 (arrive h (.zeroes deac) slba nlb [] f false s).2)) ∧
  (∀ s h nsid rs f, Alive s → ioOpen s h = true →
    Gives (.datasetManagement h nsid true rs f) s
      (startIo (nsById s nsid) false (arrive h (.dsm rs) 0 0 [] f false s).1 (arrive h (.dsm rs) 0 0 [] f false s).2)) ∧
  (∀ s h nsid slba nlb f, Alive s → ioOpen s h = true →
    ∀ c u, (c, u) = arrive h .read slba nlb [] f true s →
    Gives (.orderedRead h nsid slba nlb f) s
      (if earlier u c then u.putCtx { c with phase := .ordered, nsid := nsid, ns := ((nsById u nsid).map (·.idx)).getD 4096 }
        else startIo (nsById u nsid) true c u)) ∧
  (∀ s h nsid slba data f, Alive s → ioOpen s h = true →
    ∀ c u, (c, u) = arrive h .write slba data.length data f true s →
    Gives (.orderedWrite h nsid slba data f) s
      (if earlier u c then u.putCtx { c with phase := .ordered, nsid := nsid, ns := ((nsById u nsid).map (·.idx)).getD 4096 }
        else startIo (nsById u nsid) true c u)) ∧
  (∀ s h nsid, Alive s → ioOpen s h = true → ∀ c u, (c, u) = arrive h .flush 0 0 [] noFlags false s →
    (flushErr c.id h nsid u = none → mirroring u = false → Gives (.flush h nsid) s (finishCtx c stOk [] u)) ∧
    (∀ e, flushErr c.id h nsid u = some e → Gives (.flush h nsid) s (finishCtx c e [] u))) ∧
  (∀ s h nsid l f ns v, Alive s → ioOpen s h = true → nsById s nsid = some ns → BlockCached s ns l v →
    ioCheck s s.ce.nextId h (nsById s nsid) 1 (l + 1) false true f = none → f.xferErr = false →
    lockFree s ns.array (placeOf s ns l).stripe = true → engineBusy s s.ce.nextId = false →
    Runs (.read h nsid l 1 f) s (Completed h stOk [blkWithMeta v 0]) ∧
    (NoneEarlier s h s.ce.nextId → Runs (.orderedRead h nsid l 1 f) s (Completed h stOk [blkWithMeta v 0]))) ∧
  (∀ s h nsid l f ns, Alive s → ioOpen s h = true → nsById s nsid = some ns → PageReady s ns l →
    f.xferErr = false → lockFree s ns.array (placeOf s ns l).stripe = true → oldest s .basket = none →
    (∀ v, ioCheck s s.ce.nextId h (nsById s nsid) 1 (l + 1) true true f = none →
      Runs (.write h nsid l [v] f) s (fun t => bskRead t ns.idx l = some (blkWithMeta v 0) ∧ Completed h stOk [] t) ∧
      (NoneEarlier s h s.ce.nextId →
        Runs (.orderedWrite h nsid l [v] f) s fun t => bskRead t ns.idx l = some (blkWithMeta v 0) ∧ Completed h stOk [] t)) ∧
    (∀ deac, ioCheck s s.ce.nextId h (nsById s nsid) 1 (l + 1) true false f = none →
      Runs (.writeZeroes h nsid l 1 deac f) s fun t => bskRead t ns.idx l = some 0 ∧ Completed h stOk [] t)) ∧
  (∀ s h nsid, Alive s → ioOpen s h = true → nsid ≠ 0xFFFFFFFF → ioCheck s s.ce.nextId h (nsById s nsid) 0 0 true false noFlags = none →
    mirroring s = false → Runs (.flush h nsid) s fun t => Completed h stOk [] t ∧ t.bsk = s.bsk ∧ t.ext = s.ext ∧ t.nv = s.nv) ∧
  (∀ s h nsid f ns rs ad, Alive s → ioOpen s h = true → nsById s nsid = some ns → nsAt s ns.idx = some ns →
    ioCheck s s.ce.nextId h (nsById s nsid) 0 (rs.foldl (fun m r => max m (r.1 + r.2)) 0) true false f = none → f.xferErr = false →
    (∀ r ∈ rs, wholeStripes s ns r.1 r.2 = []) ∨ ad = false →
    Runs (.datasetManagement h nsid ad rs f) s fun t => Completed h stOk [] t ∧ t.bsk = s.bsk ∧ t.ext = s.ext ∧ t.nv = s.nv) ∧
  (∀ s h op slba nlb data f o, (arrive h op slba nlb data f o s).2.ce.ctxs = s.ce.ctxs ++ [(arrive h op slba nlb data f o s).1] ∧
    (arrive h op slba nlb data f o s).1.id = s.ce.nextId ∧ (arrive h op slba nlb data f o s).1.h = h ∧
    (arrive h op slba nlb data f o s).1.op = op) ∧
  (∀ s c n e, c.op = .read → ioCheck s c.id c.h n c.nlb (c.slba + c.nlb) false true c.flags = some e →
    startIo n true c s = finishCtx c e [] s)

/-- A command completes exactly once (R151): its completion carries its header, status and data, and its context is gone.
Model's choices: log entries 34 and 35. -/
def Obligations.FinishedCommandsComplete : Prop :=
  (∀ s c st data, Completed c.h st data (finishCtx c st data s)) ∧
  (∀ s c st data, (finishCtx c st data s).ce.ctxs = s.ce.ctxs.filter fun x => x.id ≠ c.id) ∧
  (∀ s c st data, ∀ e ∈ (finishCtx c st data s).ce.locks, ∀ p ∈ e.holders, p.1 ≠ c.id) ∧
  (∀ s c ns vs, ns.lbaf = 0 → c.flags.xferErr = false →
    readFinish c ns vs s = streamRead ns c.slba c.nlb (finishCtx c stOk (vs.map fun v => blkWithMeta v 0) s)) ∧
  (∀ s (ns : Ns) l ex v, bskRead s ns.idx l = some v → blockNow s ns l ex = some v) ∧
  (∀ s (ns : Ns) l ex, bskRead s ns.idx l = none →
    blockNow s ns l ex = dataAt s ns.array (placeOf s ns l).stripe (placeOf s ns l).col (placeOf s ns l).idx ex)

/-- The rows that end a wait of Table 6.1 (R86, R94, R98, R147, R150, R174, R178, R205, R300): the command or stripe operation that has waited longest
goes on from where it stood. A lock request that can be granted is granted, and its owner is served once it needs no more.
Model's choices: log entry 2. -/
def Obligations.WaitsEndInOrder : Prop :=
  (∀ s c, Alive s → oldest s .basket = some c → Gives .basketAdmit s (resume c s)) ∧
  (∀ s c, Alive s → oldest s .spar = some c → Gives .sparShareAdmit s (resume c s)) ∧
  (∀ s c, Alive s → ringShort s = false → s.ce.sops.filter (fun o => o.phase = .ring) = [] →
    s.ce.ctxs.filter (fun c => c.phase = .ring) = [c] → ctxOf s c.id = some c → c.phase = .ring →
    Gives .ringSpaceAdmit s (resume c s)) ∧
  (∀ s, Alive s → ringShort s = true → Gives .ringSpaceAdmit s s) ∧
  (∀ s o, Alive s → s.ce.sops.find? (fun o => o.phase = .save) = some o → Gives .savePageGrant s (sopSave o s)) ∧
  (∀ s c q x, Alive s → s.ce.ctxs.find? (fun x => x.h.ctrl = c && x.h.q = q && x.phase = .ordered) = some x → earlier s x = false →
    Gives (.orderedStart c q) s (startIo (nsAt s x.ns) true { x with phase := .lock } s)) ∧
  (∀ s c q x, Alive s → s.ce.ctxs.find? (fun x => x.h.ctrl = c && x.h.q = q && x.phase = .ordered) = some x → earlier s x = true →
    Gives (.orderedStart c q) s s) ∧
  (∀ s e q c t, Alive s → s.env.allocQ = e :: q → e.1 ≠ 0 → ctxOf s e.1 = some c → t = resume c { s with env.allocQ := [] } →
    (∀ x, ctxOf t e.1 = some x → x.phase ≠ c.phase) →
    Gives .envAllocationGrant s { t with env.allocQ := q ++ t.env.allocQ }) ∧
  (∀ s e q c, Alive s → s.env.evb.length < evbMax → s.env.evbQ = e :: q → e.1 ≠ 0 →
    s.env.evb.any (fun x => x.1 = e.2 && ¬ x.2) = false → ctxOf s e.1 = some c →
    ctxOf (resume c { s with env.evbQ := q }) e.1 = none →
    Gives .evictionBufferGrant s (resume c { s with env.evbQ := q })) ∧
  (∀ s idx w c, Alive s → s.ce.locks.findSome? (fun e => (grantable e).map fun w => (e.idx, w)) = some (idx, w) →
    s.ce.sops.find? (fun o => sopOwner o.id = w.1) = none → ctxOf s w.1 = some c → c.need = [idx] →
    Gives .stripeLockGrant s (serve { c with need := [], held := c.held ++ [idx] }
      (State.putCtx { s with ce.locks := s.ce.locks.map fun x =>
        if x.idx = idx then { x with waiters := x.waiters.tail, holders := x.holders ++ [w] } else x }
      { c with need := [], held := c.held ++ [idx] }))) ∧
  (∀ s c ns l v, Alive s → PageReady s ns l → PartLeft s ns c l v → ∀ P : State → Prop,
    (P = fun t => bskRead t ns.idx l = some v ∧ Completed c.h stOk [] t) →
    (oldest s .basket = some c → Runs .basketAdmit s P) ∧ (oldest s .spar = some c → Runs .sparShareAdmit s P) ∧
    (s.ce.sops.filter (fun o => o.phase = .ring) = [] → s.ce.ctxs.filter (fun c => c.phase = .ring) = [c] → Runs .ringSpaceAdmit s P) ∧
    (∀ k, s.env.allocQ = [(c.id, k)] → c.id ≠ 0 → c.phase = .alloc → Runs .envAllocationGrant s P) ∧
    (∀ k, s.env.evbQ = [(c.id, k)] → s.env.evb.length < evbMax → s.env.evb.any (fun x => x.1 = k && ¬ x.2) = false → c.id ≠ 0 → c.phase = .evb →
      Runs .evictionBufferGrant s P)) ∧
  (∀ s o addr, Alive s → s.ce.sops.find? (fun o => o.phase = .save) = some o → o.saveIdx ≠ [] → s.bsk.clean = [] →
    freeRun s (o.saveIdx.length * o.cols) = some addr → ringShort s = true →
    Runs .savePageGrant s fun t => t.bsk.saved = s.bsk.saved ++ [⟨addr, o.saveIdx.length * o.cols, 2 ^ 64 + o.id, []⟩] ∧
      (t.ce.sops.any fun x => x.id = o.id && x.phase = .ring) = true ∧ t.ext = s.ext ∧ t.jrn = s.jrn) ∧
  (∀ s x ns v, Alive s → BlockCached s ns x.slba v → x.op = .read → x.nlb = 1 → engineBusy s x.id = false → x.flags.xferErr = false →
    (∀ c q, s.ce.ctxs.find? (fun x => x.h.ctrl = c && x.h.q = q && x.phase = .ordered) = some x → NoneEarlier s x.h x.id →
      nsAt s x.ns = some ns → ioCheck s x.id x.h (some ns) 1 (x.slba + 1) false true x.flags = none →
      lockFree s ns.array (placeOf s ns x.slba).stripe = true → x.erased = [] →
      Runs (.orderedStart c q) s (Completed x.h stOk [blkWithMeta v 0])) ∧
    (∀ idx w, s.ce.locks.findSome? (fun e => (grantable e).map fun w => (e.idx, w)) = some (idx, w) →
      s.ce.sops.find? (fun o => sopOwner o.id = w.1) = none → ctxOf s w.1 = some x → x.need = [idx] → x.ns = ns.idx → x.shared = true →
      x.erased = [] → Runs .stripeLockGrant s (Completed x.h stOk [blkWithMeta v 0])))

/-- Envelope lines and Skirt fills (R180 to R182, R184, R194, R201): a confirmed eviction frees its entry; an offer is kept by the Basket or declined
and counted; a fill returns to its line or, voided, is discarded; a stream unused for 15,625 epochs is freed; SRAM errors are counted, raised
and handled by the kind of line (Table 7.7).
Model's choices: log entry 35. -/
def Obligations.EnvelopeLinesComeAndGo : Prop :=
  (∀ s k e q, Alive s → takeFirst (fun e : Nat × Bool => e.1 = k && ¬ e.2) s.env.evb = some (e, q) →
    Gives (.envEvictionConfirm k) s { s with env.evb := q }) ∧
  (∀ s k e q u, Alive s → takeFirst (fun e : Nat × Bool => e.1 = k && e.2) s.env.evb = some (e, q) → u = { s with env.evb := q } →
    (acceptsOffer u k = false → Gives (.envOffer k) s (u.incWrap (R.ENV_CNTj_COUNT 7))) ∧
    (∀ p, acceptsOffer u k = true → freeRun u 1 = some p → Gives (.envOffer k) s { u with
      bsk.clean := s.bsk.clean ++ [(k, p, s.tet.epoch)],
      bsk.pages := SMap.set 0 p ((dataAt u (bits k 45 4) ((bits k 0 40 - dataLba) / strB s (bits k 45 4))
        ((bits k 0 40 - dataLba) % strB s (bits k 45 4))
        (dIdx (memN s (bits k 45 4)) ((bits k 0 40 - dataLba) / strB s (bits k 45 4)) (bits k 40 5)) []).getD (memberBlock u k)) s.bsk.pages })) ∧
  (∀ s k l, Alive s → s.env.skirt.find? (fun l => l.key = k && ¬ l.filled) = some l →
    (l.valid = true → Gives (.skirtFillReturn k) s
      (State.incWrap { s with env.skirt := s.env.skirt.map fun (x : SkirtLine) => if x.key = k then { x with filled := true } else x } (R.ENV_CNTj_COUNT 3))) ∧
    (l.valid = false → Gives (.skirtFillReturn k) s { s with env.skirt := s.env.skirt.filter fun x => ¬ (x.key = k && ¬ x.filled) })) ∧
  (∀ s ns next, Alive s → Gives (.skirtStreamExpire ns next) s { s with
    env.streams := s.env.streams.filter fun x => ¬ (x.ns = ns && x.next = next && decide (x.last + 15625 ≤ s.tet.epoch)) }) ∧
  (∀ s n, Alive s → Gives (.sramCe n) s ((s.incSat R.ENV_ECC_CE n).raise R.ENV_INT_STATUS_ECC_CE)) ∧
  (∀ s u, Alive s → u = (s.incSat R.ENV_ECC_UE).raise R.ENV_INT_STATUS_ECC_UE →
    (∀ k, Gives (.sramUe (.clean k)) s (dropLines (fun l => l.key = k && l.st = .clean) u)) ∧
    (∀ k, Gives (.sramUe (.skirt k)) s { u with env.skirt := s.env.skirt.filter fun l => l.key ≠ k }) ∧
    (∀ k, Gives (.sramUe (.evbOffer k)) s { u with env.evb := s.env.evb.filter fun e => ¬ (e.1 = k && e.2) }) ∧
    (∀ k, Gives (.sramUe (.dirtyIndex k)) s u ∧ Gives (.sramUe (.dirtyLostMap k)) s u) ∧
    (∀ k, Gives (.sramUe (.dirtyBitmap k)) s (bitmapLost k u)) ∧
    (∀ i c, ctxOf s i = some c → c.op ≠ .read → (∀ o ∈ s.ce.sops, o.owner ≠ c.id) → c.seqs = [] →
      Gives (.sramUe (.heldBefore i)) s (finishCtx c (0, 6, false) [] u)) ∧
    (∀ k o, Gives (.sramUe (.scratch k o false)) s (u.emit (.window k [] true)) ∧ Gives (.sramUe (.scratch k o true)) s u))

/-- Envelope maintenance, the scratch window and caching off (R185 to R191): a start that Table 7.5 does not reject makes MAINT_BUSY 1, and a rejected one changes LAST_ERR
alone, as does a write without START whose COUNT by address is out of range (R421); an operation ends with its lines cleaned or dropped, those in FILL or HELD skipped and counted, and MAINT_DONE raised; the window answers
while it is on; ENV_DISABLE has the effects of Table 7.6.
Model's choices: log entries 46 and 76. -/
def Obligations.EnvelopeIsMaintained : Prop :=
  (∀ s op v u, Alive s → bit v 31 = true →
    u = State.wr ((((s.wr R.ENV_MAINT_OP op).wr R.ENV_MAINT_FORM (bits v 4 1)).wr R.ENV_MAINT_ALL_SETS (bits v 5 1)).wr R.ENV_MAINT_COUNT (bits v 8 17))
      R.ENV_STATUS_MAINT_BUSY 1 →
    (∀ c, maintRefusal s op (bits v 4 1) (bits v 8 17) = some c → ∀ w, w = s.wr R.ENV_STATUS_LAST_ERR c →
      (op = 0 → Gives (.envMaintClean v) s w) ∧ (op = 1 → Gives (.envMaintInvalidate v) s w) ∧ (op = 2 → Gives (.envMaintCleanInval v) s w) ∧
      (op = 3 → Gives (.scratchOn v) s w) ∧ (op = 4 → Gives (.scratchOff v) s w)) ∧
    (maintRefusal s op (bits v 4 1) (bits v 8 17) = none →
      ∀ w, w = { u with env.maint := some (op, bits v 4 1, bits v 5 1, bits v 8 17, maintKey u) } →
      (op = 0 → Gives (.envMaintClean v) s w) ∧ (op = 1 → Gives (.envMaintInvalidate v) s w) ∧ (op = 2 → Gives (.envMaintCleanInval v) s w) ∧
      (op = 3 → Gives (.scratchOn v) s (dropLines (fun l => decide (8 ≤ l.way) && ¬ l.st.busy)
        (maintCount (s.env.lines.filter fun l => decide (8 ≤ l.way) && l.st = .dirty).length 0 { w with env.scratchOn := true }))) ∧
      (op = 4 → Gives (.scratchOff v) s (maintCount 0 0 w)))) ∧
  (∀ s op v, Alive s → bit v 31 = false → bits v 4 1 = 0 → bits v 8 17 = 0 ∨ 65536 < bits v 8 17 → ∀ w, w = s.wr R.ENV_STATUS_LAST_ERR eRange →
    (op = 0 → Gives (.envMaintClean v) s w) ∧ (op = 1 → Gives (.envMaintInvalidate v) s w) ∧ (op = 2 → Gives (.envMaintCleanInval v) s w) ∧
    (op = 3 → Gives (.scratchOn v) s w) ∧ (op = 4 → Gives (.scratchOff v) s w)) ∧
  (∀ s op v, Alive s → bit v 31 = false → bits v 4 1 = 1 ∨ (1 ≤ bits v 8 17 ∧ bits v 8 17 ≤ 65536) →
    ∀ w, w = (((s.wr R.ENV_MAINT_OP op).wr R.ENV_MAINT_FORM (bits v 4 1)).wr R.ENV_MAINT_ALL_SETS (bits v 5 1)).wr R.ENV_MAINT_COUNT (bits v 8 17) →
    (op = 0 → Gives (.envMaintClean v) s w) ∧ (op = 1 → Gives (.envMaintInvalidate v) s w) ∧ (op = 2 → Gives (.envMaintCleanInval v) s w) ∧
    (op = 3 → Gives (.scratchOn v) s w) ∧ (op = 4 → Gives (.scratchOff v) s w)) ∧
  (∀ s op form count, op < 5 → 1 ≤ count → count ≤ 65536 → form = 0 → maintKey s / 2 ^ 62 = 0 → maintKey s / 2 ^ 40 = (maintKey s + count - 1) / 2 ^ 40 →
    (op = 3 → s.on R.ENV_STATUS_SCRATCH = false) → (op = 4 → s.on R.ENV_STATUS_SCRATCH = true) →
    maintRefusal s op form count =
      if s.on R.ENV_STATUS_MAINT_BUSY = true ∨ s.rd R.ENV_STATUS_MODE = 1 ∨ s.on R.ENV_STATUS_INIT = true then some eBusy else none) ∧
  (∀ s op form all count k cov u, Alive s → s.env.maint = some (op, form, all, count, k) → cov = maintCovers form all count k →
    u = envClean cov (maintCount (s.env.lines.filter fun l => cov l && l.st = .dirty).length (s.env.lines.filter fun l => cov l && l.st.busy).length s) →
    (op = 0 → Gives .maintDone s ((State.wr { u with env.maint := none } R.ENV_STATUS_MAINT_BUSY 0).raise R.ENV_INT_STATUS_MAINT_DONE)) ∧
    (op = 3 → (∀ l ∈ s.env.lines, l.way < 8) → Gives .maintDone s ((State.wr { State.wr { s with env.scratch := [] } R.ENV_STATUS_SCRATCH 1 with env.maint := none }
      R.ENV_STATUS_MAINT_BUSY 0).raise R.ENV_INT_STATUS_MAINT_DONE)) ∧
    (op = 4 → Gives .maintDone s ((State.wr { State.wr { s with env.scratch := [], env.scratchOn := false } R.ENV_STATUS_SCRATCH 0 with env.maint := none }
      R.ENV_STATUS_MAINT_BUSY 0).raise R.ENV_INT_STATUS_MAINT_DONE)) ∧
    (op = 1 ∨ op = 2 → Runs .maintDone s fun t =>
      (∀ l ∈ t.env.lines, cov l = true → l.st.busy = true) ∧ (∀ l ∈ s.env.lines, cov l = false → l ∈ t.env.lines) ∧
      (∀ l ∈ t.env.skirt, maintSkirt form all count k l.key = false) ∧ t.rd R.ENV_STATUS_MAINT_BUSY = 0 ∧ t.rd R.ENV_INT_STATUS_MAINT_DONE = 1 ∧
      t.nv = s.nv ∧ t.ext = s.ext ∧ t.arrs = s.arrs)) ∧
  (∀ s link off bytes len, Alive s →
    (scratchMapped s = true → Gives (.scratchWindowAccess link off bytes true len) s (scratchWrite off bytes s) ∧
      Gives (.scratchWindowAccess link off bytes false len) s (s.emit (.window link (scratchRead s off len) false))) ∧
    (scratchMapped s = false → Gives (.scratchWindowAccess link off bytes true len) s (s.raise R.ENV_INT_STATUS_WIN_OFF) ∧
      Gives (.scratchWindowAccess link off bytes false len) s
        ((s.raise R.ENV_INT_STATUS_WIN_OFF).emit (.window link (List.replicate len 0) false)))) ∧
  (∀ s off bytes, (∀ b ∈ bytes, b < 256) → off + bytes.length ≤ scratchSize →
    scratchRead (scratchWrite off bytes s) off bytes.length = bytes ∧
    ∀ a, a < off ∨ off + bytes.length ≤ a → SMap.get 0 a (scratchWrite off bytes s).env.scratch = SMap.get 0 a s.env.scratch) ∧
  (∀ s v, Alive s →
    (s.on R.ENV_STATUS_MAINT_BUSY = true → Gives (.envDisableWrite v) s (s.wr R.ENV_STATUS_LAST_ERR eBusy)) ∧
    (s.on R.ENV_STATUS_MAINT_BUSY = false →
      (s.rd R.ENV_STATUS_MODE = 0 → bit v 0 = true → bit v 1 = false → dirtyLines s ≠ 0 → Gives (.envDisableWrite v) s (s.wr R.ENV_STATUS_LAST_ERR eDirty)) ∧
      (s.rd R.ENV_STATUS_MODE = 0 → bit v 0 = true → bit v 1 = false → dirtyLines s = 0 → Gives (.envDisableWrite v) s
        (dropLines (fun l => ¬ l.st.busy) { (s.wr R.ENV_DISABLE_DISABLE 1).wr R.ENV_STATUS_MODE 2 with env.skirt := [] })) ∧
      (s.rd R.ENV_STATUS_MODE = 0 → bit v 0 = true → bit v 1 = true → Gives (.envDisableWrite v) s ((s.wr R.ENV_DISABLE_DISABLE 1).wr R.ENV_STATUS_MODE 1)) ∧
      (s.rd R.ENV_STATUS_MODE = 1 → bit v 0 = false → Gives (.envDisableWrite v) s (s.wr R.ENV_STATUS_LAST_ERR eState)) ∧
      (s.rd R.ENV_STATUS_MODE = 2 → bit v 0 = false → Gives (.envDisableWrite v) s ((s.wr R.ENV_DISABLE_DISABLE 0).wr R.ENV_STATUS_MODE 0)) ∧
      (s.rd R.ENV_STATUS_MODE = 2 → bit v 0 = true → Gives (.envDisableWrite v) s s))) ∧
  (∀ s, Alive s → s.rd R.ENV_STATUS_MODE = 1 → Gives .envCleanFirstDone s
    (((dropLines (fun l => ¬ l.st.busy) { s with env.skirt := [] }).wr R.ENV_STATUS_MODE 2).raise R.ENV_INT_STATUS_DISABLE_DONE))

/-- Basket errors and care (R198, R200, R201, Table 8.3): a corrected beat counts and is noted against its lane, which fails at the 8th in 15,625
epochs, and a second failed lane fails the channel; an uncorrectable beat counts, records page, channel and region, is handled by its
region and fails the channel at the 16th; scrub, refresh and calibration.
Model's choices: log entry 38. -/
def Obligations.BasketErrorsAreHandled : Prop :=
  (∀ s c l p u, Alive s → u = ((s.incSat R.BSK_ECC_CE).incSat (R.BSK_CHc_CE c)).raise R.BSK_INT_STATUS_ECC_CE →
    ∀ ls, ls = (s.bsk.laneCe.filter fun x => decide (s.tet.epoch < x.2.2 + 15625)) ++ [(c, l, s.tet.epoch)] →
    ((ls.filter fun x => x.1 = c && x.2.1 = l).length < 8 ∨ s.rd (R.BSK_CHc_LANE c) = l →
      Gives (.basketEccError c l p .corrected) s { u with bsk.laneCe := ls }) ∧
    (8 ≤ (ls.filter fun x => x.1 = c && x.2.1 = l).length → s.rd (R.BSK_CHc_LANE c) = 127 → l ≠ 127 → Gives (.basketEccError c l p .corrected) s
      ((State.wr { u with bsk.laneCe := ls } (R.BSK_CHc_LANE c) l).raise R.BSK_INT_STATUS_LANE_FAIL)) ∧
    (8 ≤ (ls.filter fun x => x.1 = c && x.2.1 = l).length → s.rd (R.BSK_CHc_LANE c) ≠ 127 → s.rd (R.BSK_CHc_LANE c) ≠ l →
      Gives (.basketEccError c l p .corrected) s (channelFail c { u with bsk.laneCe := ls }))) ∧
  (∀ s c l p b k, Alive s → k = (if b then EccKind.uncorrectableBothIndex else EccKind.uncorrectable) → ∀ us u,
    us = (s.bsk.chanUe.filter fun x => decide (s.tet.epoch < x.2 + 15625)) ++ [(c, s.tet.epoch)] →
    u = (((((s.incSat R.BSK_ECC_UE).raise R.BSK_INT_STATUS_ECC_UE).wr R.BSK_UE_ADDR_PAGE p).wr R.BSK_UE_ADDR_CHANNEL c).wr
      R.BSK_UE_ADDR_REGION (pageRegion s p)).wr R.BSK_UE_ADDR_VALID 1 →
    ((us.filter fun x => x.1 = c).length < 16 → Gives (.basketEccError c l p k) s (pageUe p b { u with bsk.chanUe := us })) ∧
    (16 ≤ (us.filter fun x => x.1 = c).length → Gives (.basketEccError c l p k) s (channelFail c (pageUe p b { u with bsk.chanUe := us }))) ∧
    (b = false → (us.filter fun x => x.1 = c).length < 16 → Gives (.commandParityError c p true) s (pageUe p false { u with bsk.chanUe := us }))) ∧
  (∀ s c p, Alive s → Gives (.commandParityError c p false) s s) ∧
  (∀ s p b u, u = (if s.bsk.clean.any (fun c => c.2.1 = p) then pagesGone p 1 { s with bsk.clean := s.bsk.clean.filter fun c => c.2.1 ≠ p } else s) →
    (pageRegion s p = 3 ∨ 6 ≤ pageRegion s p → pageUe p b s = u) ∧
    (pageRegion s p = 0 → extentsAt s p 1 = [] → (∀ x ∈ s.bsk.saved, p < x.addr ∨ x.addr + x.count ≤ p) → pageUe p b s = u) ∧
    (pageRegion s p = 0 → extentsAt s p 1 ≠ [] → pairedCopy s = true → pageUe p b s = fetchPage p u) ∧
    (pageRegion s p = 1 → b = false → pageUe p b s = u) ∧
    (pageRegion s p = 1 → b = true → pairedCopy s = false → pageUe p b s = regionsLost 2 u)) ∧
  (∀ s c, s.on (R.BSK_CHc_FAILED c) = false → s.ready = false → s.rd R.BAL_STATUS_STATE ≠ 1 →
    channelFail c s = (s.wr (R.BSK_CHc_FAILED c) 1).raise R.BSK_INT_STATUS_CH_FAIL) ∧
  (∀ s, Alive s → Gives .scrubPass s ((State.incSat { s with bsk.scrubbing := false } R.BSK_SCRUB_PASSES).raise R.BSK_INT_STATUS_SCRUB_DONE)) ∧
  (∀ s, Alive s → (s.bsk.scrubbing = true → Gives .scrubNow s (s.wr R.BSK_STATUS_LAST_ERR eBusy)) ∧
    (s.bsk.scrubbing = false → Gives .scrubNow s { s with bsk.scrubbing := true })) ∧
  (∀ s, Alive s → s.bsk.selfRefresh = false → Gives .bankRefresh s { s with bsk.refresh := (s.bsk.refresh + 1) % 8 }) ∧
  (∀ s, Alive s → Gives .calibrate s s)

/-- The Ballast (R211 to R221): recognition of PFAIL_N starts the dump that R214 has; its end leaves every page, the ring and the index on the vault
drives and a COMPLETE header, and the device in DUMPED; a vault failure disarms or, in a dump, gives the drive up; a restore brings
the pages back; DISCARD ends a hold alone; NEED_MS is R212's.
Model's choices: log entries 6, 38 and 78. -/
def Obligations.BallastDumpsAndRestores : Prop :=
  (∀ s u, Alive s → u = { nightAbortNow s with pwr.pfail := true } →
    (dumpDue u = false → Gives .pfailRecognised s u) ∧
    (dumpDue u = true → Runs .pfailRecognised s fun t =>
      t.pwr.dumping = true ∧ t.pwr.given = [] ∧ t.rd R.BAL_STATUS_STATE = 2 ∧ t.ce.ctxs = [] ∧ t.ce.sops = [] ∧ t.ce.locks = [] ∧
      { t.bsk with user := u.bsk.user } = u.bsk ∧ t.arrs = u.arrs ∧ t.ext = u.ext ∧ t.nv.ring = u.nv.ring ∧
      t.nv.armedSeq = (if u.rd R.BAL_STATUS_STATE = 1 then u.nv.armedSeq else u.nv.armedSeq + 1) ∧
      t.nv.dumpStart = some (t.nv.armedSeq, u.tet.epoch, dirtyPages u))) ∧
  (∀ s ms, Alive s → s.rd R.BAL_STATUS_STATE ≠ 2 → ∀ ok, Gives (.dumpComplete ms ok) s s) ∧
  (∀ s ms q e n, Alive s → s.rd R.BAL_STATUS_STATE = 2 → vaultOk s 0 = true → vaultOk s 1 = true → s.pwr.given = [] → s.pwr.pendingRst = 0 →
    s.nv.dumpStart = some (q, e, n) → ms < 65536 →
    Runs (.dumpComplete ms true) s fun t => t.rd R.BAL_STATUS_STATE = 3 ∧ t.rd R.BAL_LAST_DUMP_MS = ms ∧ t.nv.dumpMs = ms ∧ t.bsk = s.bsk ∧
      t.ext.vaults.length = s.ext.vaults.length ∧
      ∀ v ∈ t.ext.vaults, v.present = true → v.passes = true →
        v.hdrOk = true ∧ v.complete = true ∧ v.seq = q ∧ v.sealSeq = q ∧ v.epoch = e ∧ v.device = s.nv.deviceId ∧ v.journalSeal = true ∧
        v.indexSeal = true ∧ v.ring = s.nv.ring ∧ v.index = s.bsk.extents ∧ v.saved = s.bsk.saved ∧ v.mirror = s.on R.BAL_CFG_MODE ∧
        v.units = (dumpUnits s).take (dirtyPages s)) ∧
  (∀ s ms, Alive s → s.rd R.BAL_STATUS_STATE = 2 → s.pwr.pendingRst = 0 → Gives (.dumpComplete ms false) s
    ((State.wr { s with nv.dumpMs := min ms 65535 } R.BAL_STATUS_STATE 3).wr R.BAL_LAST_DUMP_MS (min ms 65535))) ∧
  (∀ s, Alive s → (s.rd R.BAL_STATUS_STATE = 3 → Gives .dumpSelfReset s (resetDevice R.PWR_RESET_CAUSE_DUMP_RESET s)) ∧
    (s.rd R.BAL_STATUS_STATE ≠ 3 → Gives .dumpSelfReset s s)) ∧
  (∀ s n u, Alive s → n < 2 → ((s.ext.vaults[n]?).map (·.present)).getD false = true →
    u = State.raise ((s.modVaults fun i v => if i = n then { v with present := false } else v).wr
      (if n = 0 then R.BAL_STATUS_VAULT0 else R.BAL_STATUS_VAULT1) 0) R.BAL_INT_STATUS_VAULT_ERR →
    (u.rd R.BAL_STATUS_STATE ≠ 2 → Gives (.vaultDriveFailure n) s (balDisarm 2 u)) ∧
    (u.rd R.BAL_STATUS_STATE = 2 → vaultOk u (1 - n) = true → Gives (.vaultDriveFailure n) s { u with pwr.given := n :: s.pwr.given })) ∧
  (∀ s ms bad d v, Alive s → s.dwn.needsRestore = true → 12 ≤ s.dwn.step → s.dwn.step ≤ 16 → dumpFound s = some d → restoreVault s d.seq = some v →
    Gives (.ballastRestore ms bad) s (restoreGo v ms bad (! d.complete) s)) ∧
  (∀ s, Alive s → s.rd R.BAL_STATUS_STATE ≠ 5 → Gives .discard s (s.wr R.BAL_STATUS_LAST_ERR eState)) ∧
  (∀ s, Alive s → s.rd R.BAL_STATUS_STATE = 5 → Runs .discard s fun t => t.rd R.BAL_STATUS_STATE = 0 ∧ t.rd R.BSK_STATUS_RETAINED = 0 ∧
    t.dwn.ballastHeld = false ∧ t.dwn.needsRestore = false ∧ t.nv.dumpStart = none ∧ t.bsk.extents = [] ∧ t.bsk.saved = [] ∧
    t.bsk.clean = [] ∧ t.bsk.pages = [] ∧ t.nv.dirtyMap = s.nv.dirtyMap ∧ t.nv.ring = s.nv.ring ∧ t.arrs = s.arrs ∧
    ∀ w ∈ t.ext.vaults, w.complete = false) ∧
  (∀ s reason, s.ready = false → s.rd R.BAL_STATUS_STATE = 1 →
    balDisarm reason s = ((s.wr R.BAL_STATUS_STATE 0).wr R.BAL_STATUS_REASON reason).raise R.BAL_INT_STATUS_DISARMED) ∧
  needMs 8 0 = 388 ∧ needMs 16 0 = 750 ∧ needMs 16 1 = 1475

/-- CLR_ERR of each block writes 0 to its LAST_ERR and does nothing else (R379). -/
def Obligations.ClrErrClearsLastErr : Prop :=
  ∀ s, Alive s →
    Gives .glbClrErr s (s.wr R.GLB_STATUS_LAST_ERR 0) ∧ Gives .tetClrErr s (s.wr R.TET_STATUS_LAST_ERR 0) ∧
    Gives .strClrErr s (s.wr R.STR_STATUS_LAST_ERR 0) ∧ Gives .gonClrErr s (s.wr R.GON_STATUS_LAST_ERR 0) ∧
    Gives .envClrErr s (s.wr R.ENV_STATUS_LAST_ERR 0) ∧ Gives .bskClrErr s (s.wr R.BSK_STATUS_LAST_ERR 0) ∧
    Gives .balClrErr s (s.wr R.BAL_STATUS_LAST_ERR 0) ∧ Gives .hptClrErr s (s.wr R.HPT_STATUS_LAST_ERR 0) ∧
    Gives .hptCeClrErr s (s.wr R.HPT_CE_STATUS_LAST_ERR 0) ∧ Gives .fabClrErr s (s.wr R.FAB_STATUS_LAST_ERR 0) ∧
    Gives .drvClrErr s (s.wr R.DRV_STATUS_LAST_ERR 0) ∧ Gives .splClrErr s (s.wr R.SPL_STATUS_LAST_ERR 0) ∧
    Gives .stgClrErr s (s.wr R.STG_STATUS_LAST_ERR 0) ∧ Gives .sprClrErr s (s.wr R.SPR_STATUS_LAST_ERR 0) ∧
    Gives .dwnClrErr s (s.wr R.DWN_STATUS_LAST_ERR 0) ∧ Gives .secClrErr s (s.wr R.SEC_STATUS_LAST_ERR 0) ∧
    Gives .wskClrErr s (s.wr R.WSK_STATUS_LAST_ERR 0) ∧ Gives .pwrClrErr s (s.wr R.PWR_STATUS_LAST_ERR 0) ∧
    (∀ link, link < 4 → Gives (.mbxClrErr link) s (s.wr (R.MBX_STATUS_LAST_ERR link) 0)) ∧
    ∀ f v, RegsBut [f] s (s.wr f v) ∧ SameStores s (s.wr f v) ∧ SameWork s (s.wr f v)

/-- BAR0 accesses (R8, R189, R354, R373, R377, R379, R389): an aligned whole word is written to its register; a part of a word is
discarded and counted in PARTIAL; the Windsock window and the reply buffer drop a write and count it in UNMAPPED; an access outside the map
is counted; a request buffer takes its bytes while BUSY is 0. A read of a register answers its value.
Model's choices: log entries 9, 11 and 63. -/
def Obligations.Bar0AccessesAreServed : Prop :=
  (∀ s link off v, Alive s → barUp s link = true → inBlock off = true → windowOf off = 0 → off % 4 = 0 →
    Gives (.bar0RegisterWrite link off 4 v) s (writeReg link off v s).2) ∧
  (∀ s link off size v, Alive s → barUp s link = true → inBlock off = true → windowOf off = 0 → 0 < size →
    (size < 4 ∨ size = 4 ∧ off % 4 ≠ 0) → Gives (.bar0RegisterWrite link off size v) s (s.incSat R.GLB_ERR_PARTIAL)) ∧
  (∀ s link off size v, Alive s → barUp s link = true → 0 < size → inBlock off = false → windowOf off = 0 →
    Gives (.bar0RegisterWrite link off size v) s (hostUr link (s.incSat R.GLB_ERR_UNMAPPED))) ∧
  (∀ s link k size v, Alive s → barUp s link = true → 0 < size → k + size ≤ 0x1000 → s.rd (R.MBX_STATUS_BUSY link) = 0 →
    Gives (.bar0RegisterWrite link (0x1101000 + k) size v) s
      { s with mbx.req := SMap.write 0 (link * mbxBuf + k) (leBytes size v) s.mbx.req }) ∧
  (∀ s link k size v, Alive s → barUp s link = true → 0 < size → k + size ≤ 0x1000 → s.rd (R.MBX_STATUS_BUSY link) = 1 →
    Gives (.bar0RegisterWrite link (0x1101000 + k) size v) s s) ∧
  (∀ s link off v, barUp s link = false → Gives (.bar0RegisterWrite link off 4 v) s s) ∧
  (∀ s link, Alive s → barUp s link = true → Gives (.mbxReplyBufferWrite link) s (s.incSat R.GLB_ERR_UNMAPPED)) ∧
  (∀ s link, Alive s → Gives (.wskWindowWrite link) s (s.incSat R.GLB_ERR_UNMAPPED)) ∧
  (∀ s link off, Alive s → barUp s link = true → windowOf off = 0 → inBlock off = true → off % 4 = 0 →
    Gives (.loRegisterRead link off) s ((readReg link off s).2.emit (.window link [(readReg link off s).1] false))) ∧
  (∀ s link off k, Alive s → barUp s link = true → windowOf (off + k) = 0 → inBlock (off + k) = true → off % 4 = 0 → k < 4 → windowOf off = 0 →
    inBlock off = true →
    Gives (.loRegisterRead link (off + k)) s ((readReg link off s).2.emit (.window link [(readReg link off s).1 / 256 ^ k] false))) ∧
  (∀ s link off, latchedHi off = false → latchedHi (off + 4) = true → off ≠ 0x100010 →
    (readReg link off s).1 = regVal s link off ∧ (readReg link (off + 4) (readReg link off s).2).1 = regVal s link (off + 4) ∧
    (readReg link off s).2.regs = s.regs)

/-- The registers' store (R8, R384): a field reads what was written to it and every other field is unchanged, a write of ones to a W1C field
clears those bits alone, and a saturating counter stops at its largest value. -/
def Obligations.RegisterFieldsHoldTheirValues : Prop :=
  (∀ (s : State) (f : Fld) v, v < 2 ^ f.w → f.rst < 2 ^ f.w → (s.wr f v).rd f = v) ∧
  (∀ (s : State) (f g : Fld) v, f.key ≠ g.key → (s.wr f v).rd g = s.rd g) ∧
  (∀ (s : State) (f : Fld) v i, s.rd f < 2 ^ f.w → i < f.w → f.rst < 2 ^ f.w →
    ((s.clr f v).rd f).testBit i = ((s.rd f).testBit i && ! v.testBit i)) ∧
  (∀ (s : State) (f : Fld), f.rst < 2 ^ f.w → s.rd f < 2 ^ f.w → (s.incSat f).rd f = min (s.rd f + 1) (2 ^ f.w - 1)) ∧
  (∀ s link n v, Alive s → n < intSources.length → ∃ p, intSources[n]? = some p ∧
    Gives (.intStatusW1c link n v) s { w1cWrite link p.1 v s with kicks := [kickOf link n] })

/-- MSI-X and bus mastering (R249, R384): a host that unmasks a vector gets its message where it is pending and its level is still 1.
Drives and vault drives (Table 9.4, R228 to R235): presence starts the debounce, the timer and the link walk the rows of Table 9.4, a drive
that is ready joins, one that leaves takes its member with it, DRIVE_OFF rejects a subport that holds a member. A function that answers on a
link shows the identity of Table 9.2, function 0 after DAWN_S11 or in the safe state alone (R223 to R225).
Model's choices: log entries 10, 33 and 47. -/
def Obligations.LinksAndDrivesComeAndGo : Prop :=
  (∀ s l v x, Alive s → s.links[l]? = some x → x.up = true → v < 64 → x.msixEn = true → v ∈ x.pend → v ∈ x.levels →
    Gives (.msixUnmask l v) s ((s.modLink l fun y => { y with
      vmask := if y.msixEn then y.vmask.filter (· ≠ v) else (List.range 64).filter (· ≠ v),
      msixEn := true, fmask := false, pend := y.pend.filter (· ≠ v) }).emit (.msix l v))) ∧
  (∀ s l v x, Alive s → s.links[l]? = some x → x.up = true → v < 64 → v ∉ x.pend →
    Gives (.msixUnmask l v) s (s.modLink l fun y => { y with
      vmask := if y.msixEn then y.vmask.filter (· ≠ v) else (List.range 64).filter (· ≠ v),
      msixEn := true, fmask := false, pend := y.pend.filter (· ≠ v) })) ∧
  (∀ s l v, Alive s → barUp s l = true → Gives (.busMasterEnable l v) s (s.modLink l fun x => { x with bme := v })) ∧
  (∀ s l, Alive s → hostLinkExists s l = true → Gives (.flrFunction1 l) s (fn1Reset l s)) ∧
  (∀ s l speed width flit n full, Alive s → hostLinkExists s l = true → 3 ≤ s.dwn.step → groupDead s (l / 2) = false → n = l / 2 →
    full = (if s.on (R.HPT_Pn_CFG_BIF n) then 8 else 16) → ∀ u, u = (linkRegs l 1 speed width flit (s.modLink l fun x => { x with up := true })).raise (R.HPT_INT_STATUS_LINK_UP n) →
    (full ≤ width → s.rd (R.HPT_Pn_CFG_MAX_SPEED n) ≤ speed → u.rd (R.HPT_Pn_CFG_MAX_SPEED n) = s.rd (R.HPT_Pn_CFG_MAX_SPEED n) →
      Gives (.hostLinkUp l speed width flit) s u) ∧
    (width < full → Gives (.hostLinkUp l speed width flit) s (u.raise (R.HPT_INT_STATUS_DEGRADED n)))) ∧
  (∀ s l, Alive s → hostLinkExists s l = true → l % 2 = 1 → ∀ u, u = fn1Reset l (linkRegs l 0 0 0 false (s.modLink l fun x => { x with up := false })) →
    Gives (.hostLinkReset l .hotReset) s (u.raise (R.HPT_INT_STATUS_PERST (l / 2))) ∧
    Gives (.hostLinkReset l .perst) s ((u.incSat (R.HPT_Pn_CNT_PERST (l / 2))).raise (R.HPT_INT_STATUS_PERST (l / 2))) ∧
    (∀ k, k = .linkDisable ∨ k = .linkDown → Gives (.hostLinkReset l k) s
      ((u.incSat (R.HPT_Pn_CNT_LINK_DOWN (l / 2))).raise (R.HPT_INT_STATUS_LINK_DOWN (l / 2))))) ∧
  (∀ s h c, Alive s → h.ctrl < 2 → s.ce.ctxs.find? (fun c => c.h = h) = some c → c.sops = [] → c.seqs = [] →
    ∀ u, u = finishCtx c (0, 4, false) [] ((s.incSat (R.HPT_Pn_ERR_UNCORR h.ctrl)).raise (R.HPT_INT_STATUS_UNCORR h.ctrl)) →
    Gives (.hostCompletionTimeout h) s u ∧ Gives (.hostCompletionError h) s u) ∧
  (∀ s l, (fn1Reset l s).rd (R.MBX_STATUS_BUSY l) = 0 ∧ (fn1Reset l s).rd (R.MBX_STATUS_DONE l) = 0 ∧
    (∀ q ∈ (fn1Reset l s).mbx.wait, q.h.src ≠ .bank l) ∧ (fn1Reset l s).arrs = s.arrs ∧ (fn1Reset l s).bsk = s.bsk) ∧
  (∀ s p sub x, subExists s p sub = true → p < 32 → comingAt s (drvNo p sub) = none → driveAt s (drvNo p sub) = none →
    s.ext.loose.find? (fun y => y.desc.nguid = x.nguid) = none →
    Gives (.drivePresence p sub x) s { s with
      ext.loose := s.ext.loose.filter fun y => y.desc.nguid ≠ x.nguid,
      ext.coming := s.ext.coming ++ [(⟨drvNo p sub, if deviceOff s ∨ s.dwn.step < 11 ∨ s.safe then 0 else 1, blankDrive x⟩ : Coming)] }) ∧
  (∀ s p sub c, Alive s → comingAt s (drvNo p sub) = some c →
    (c.phase = 1 → Gives (.driveBringupTimer p sub) s
      ((((setPhase (drvNo p sub) 2 s).wr (drvFld (drvNo p sub) 0 1) 1).wr (drvFld (drvNo p sub) 1 1) 1).emit (.drive (drvNo p sub) 6 [1, 0]))) ∧
    (c.phase = 2 → Gives (.driveBringupTimer p sub) s ((setPhase (drvNo p sub) 3 s).emit (.drive (drvNo p sub) 6 [1, 1]))) ∧
    (c.phase = 3 ∨ c.phase = 4 → Gives (.driveBringupTimer p sub) s (setPhase (drvNo p sub) (c.phase + 1) s))) ∧
  (∀ s p sub speed width c, Alive s → groupDead s (if p < 32 then 10 + p else p - 30) = false → comingAt s (drvNo p sub) = some c →
    3 ≤ c.phase → c.phase ≤ 5 → Gives (.driveLinkUp p sub speed width) s (drvTrained (drvNo p sub) speed width (setPhase (drvNo p sub) 6 s))) ∧
  (∀ s p sub c d u, Alive s → p < 32 → sub ≤ 1 → d = drvNo p sub → comingAt s d = some c → c.phase = 6 →
    u = drvInt R.DRV_INT_ADD_PORTS d (State.wr (takeComing d { s with ext.drives := SMap.set none d (some c.drive) s.ext.drives })
      (drvFld d 12 1) (b2n (! c.drive.desc.resvOk))) →
    sparesOn ((takeComing d { s with ext.drives := SMap.set none d (some c.drive) s.ext.drives }).wr (drvFld d 12 1)
      (b2n (! c.drive.desc.resvOk))) d = [] →
    (resvDrives u).contains d = false → Gives (.driveReady p sub) s u) ∧
  (∀ s p sub c, Alive s → p = 32 ∨ p = 33 → sub = 0 → comingAt s (drvNo p sub) = some c → c.phase = 6 →
    Gives (.driveReady p sub) s (rearmCheck (vaultReady (p - 32) (vaultFits c.drive.desc) s))) ∧
  (∀ s p sub, Alive s → p < 32 → sub ≤ 1 → subExists s p sub = true → driveHeld s (drvNo p sub) = true →
    Gives (.driveOff p sub) s (s.wr R.DRV_STATUS_LAST_ERR eState)) ∧
  (∀ s p sub c, Alive s → p < 32 → subExists s p sub = true → driveHeld s (drvNo p sub) = false → driveAt s (drvNo p sub) = none →
    comingAt s (drvNo p sub) = some c →
    Gives (.driveOff p sub) s ((drvInt R.DRV_INT_REMOVE_PORTS (drvNo p sub) (attn (drvNo p sub) (drvDark (drvNo p sub) (setPhase (drvNo p sub) 8 s)))).emit
      (.drive (drvNo p sub) 6 [0, 0]))) ∧
  (∀ s p sub c, Alive s → p < 32 → subExists s p sub = true → comingAt s (drvNo p sub) = some c → 7 ≤ c.phase →
    Gives (.driveOn p sub) s ((setPhase (drvNo p sub) 1 s).wr (drvFld (drvNo p sub) 14 1) 0)) ∧
  (∀ s p sub, Alive s → p < 32 → subExists s p sub = true → comingAt s (drvNo p sub) = none → driveAt s (drvNo p sub) = none →
    Gives (.driveOn p sub) s (s.wr R.DRV_STATUS_LAST_ERR eState)) ∧
  (∀ s p sub k x, Alive s → p < 32 → sub ≤ 1 → comingAt s (drvNo p sub) = none → driveAt s (drvNo p sub) = some x →
    (k ≠ .correctable → Gives (.driveLinkEvent p sub k) s
      (drvInt R.DRV_INT_LINK_PORTS (drvNo p sub) ((s.modDrive (drvNo p sub) fun x => { x with resetting := true }).wr (drvFld (drvNo p sub) 2 1) 0))) ∧
    Gives (.driveLinkEvent p sub .correctable) s (s.modDrive (drvNo p sub) fun x => { x with corr := x.corr + 1 })) ∧
  (∀ s p sub x, Alive s → p < 32 → sub ≤ 1 → driveAt s (drvNo p sub) = some x → s.rd (drvFld (drvNo p sub) 2 1) = 0 → s.pwr.dumping = false →
    Gives (.driveLinkRetrainTimeout p sub) s
      (driveLost (drvNo p sub) 2 { unready (drvNo p sub) s with ext.coming := s.ext.coming ++ [(⟨drvNo p sub, 3, { x with resetting := false }⟩ : Coming)] })) ∧
  (∀ s p sub x, Alive s → p < 32 → sub ≤ 1 → comingAt s (drvNo p sub) = none → driveAt s (drvNo p sub) = some x →
    ∀ u v, u = { unready (drvNo p sub) s with ext.loose := { x with resetting := false } :: s.ext.loose } →
    v = (if s.pwr.dumping then u else driveLost (drvNo p sub) 1 u) →
    Gives (.driveRemoval p sub) s ((drvInt R.DRV_INT_REMOVE_PORTS (drvNo p sub) (attn (drvNo p sub)
      ((drvDark (drvNo p sub) (v.wr (drvFld (drvNo p sub) 0 1) 0)).wr (drvFld (drvNo p sub) 14 1) 0))).emit
      (.drive (drvNo p sub) 6 [0, 0]))) ∧
  (∀ s d, driveAt (unready d s) d = none) ∧
  (∀ s l f, f ∈ linkAnswers s l → f.vendor = 0x1F3D ∧ (f.fn = 1 ∧ f.device = 0x9601 ∧ f.classCode = 0x088000 ∧ f.bar0 = 2 ^ 26 ∧ f.vectors = 64 ∨
    f.fn = 0 ∧ l % 2 = 0 ∧ fn0Up s (l / 2) = true ∧ f.classCode = 0x010802 ∧ f.bar0 = 2 ^ 16 ∧ f.vectors = 1025))

/-- The fabric ports (R236 to R244): a connect request takes a queue pair; ECN, CNP and recovery change its rate; a lossless priority sends pause
at XOFF and ends it at XON, a storm stops it for a second; a received pause holds transmission.
Model's choices: log entry 48. -/
def Obligations.FabricPortsFollowCongestion : Prop :=
  (∀ s host p sub, Alive s → taking s = true → fabUp s p sub = true → s.fab.qps.length < 4096 →
    ∀ q : Qp, q = ⟨s.fab.nextQp, host, 0xFFFF, 0, 4 * p + sub, fabRate s p * 65536, fabRate s p * 65536, 0, 0, 0, 0, false⟩ →
    Gives (.cmConnectRequest host p sub) s
      { s.emit (.eth p sub 4 [host, q.id]) with fab.qps := s.fab.qps ++ [q], fab.nextQp := s.fab.nextQp + 1 }) ∧
  (∀ s host p sub, Alive s → taking s = true → fabUp s p sub = true → 4096 ≤ s.fab.qps.length →
    Gives (.cmConnectRequest host p sub) s (s.emit (.eth p sub 3 [host]))) ∧
  (∀ s q x, Alive s → qpOf s q = some x → x.err = false → x.ctrl ≠ 0xFFFF →
    Gives (.qpRetryExhausted q) s (endAssociation x.ctrl ((s.modQp q fun y => { y with err := true }).raise R.FAB_INT_STATUS_QP_ERROR))) ∧
  (∀ s q x, Alive s → qpOf s q = some x → s.on (R.FAB_Pp_CFG_ECN_EN (x.port / 4)) = true →
    (x.lastCnp = 0 ∨ x.lastCnp + s.rd R.FAB_CC_CNP_GAP ≤ s.tet.epoch + 1) →
    Gives (.ecnCeReceived q) s (((s.modQp q fun y => { y with lastCnp := s.tet.epoch + 1 }).incSat (R.FAB_Pp_CNP_TX (x.port / 4))).emit
      (.eth (x.port / 4) (x.port % 4) 1 [q]))) ∧
  (∀ s q x, Alive s → qpOf s q = some x → x.lastCnp ≠ 0 → s.tet.epoch + 1 < x.lastCnp + s.rd R.FAB_CC_CNP_GAP →
    Gives (.ecnCeReceived q) s s) ∧
  (∀ s q x, Alive s → qpOf s q = some x → (s.incSat (R.FAB_Pp_CNP_RX (x.port / 4))).on (R.FAB_Pp_CFG_ECN_EN (x.port / 4)) = true → x.lastCut ≠ s.tet.epoch + 1 →
    ∃ t, exec (.cnpReceived q) s = .next t ∧ ∃ y ∈ t.fab.qps, y.id = q ∧
      y.rate = x.rate * (256 - (s.incSat (R.FAB_Pp_CNP_RX (x.port / 4))).rd R.FAB_CC_CUT) / 256 ∧ y.lastCut = s.tet.epoch + 1) ∧
  (∀ s q x, Alive s → qpOf s q = some x → s.on (R.FAB_Pp_CFG_ECN_EN (x.port / 4)) = true → x.lastRx + s.rd R.FAB_CC_RECOVER ≤ s.tet.epoch + 1 →
    x.lastUp ≠ s.tet.epoch + 1 → Gives (.ccRecover q) s
      (s.modQp q fun y => { y with lastUp := s.tet.epoch + 1, rate := min y.full (y.rate + s.rd R.FAB_CC_STEP * 65536) })) ∧
  (∀ s p sub prio, Alive s → fabUp s p sub = true → bit (s.rd (R.FAB_Pp_CFG_PFC_MASK p)) prio = true → ∀ x, x = pfcOf s p sub prio →
    (x.storm = false → x.sending = false → Gives (.pfcXoff p sub prio) s
      ((pauseTx p (putPfc { x with sending := true, since := s.tet.epoch } s)).emit (.eth p sub 0 [prio, 0xFFFF]))) ∧
    (x.storm = true → Gives (.pfcXoff p sub prio) s (putPfc { x with lastXoff := s.tet.epoch } s))) ∧
  (∀ s p sub prio x, Alive s → x = pfcOf s p sub prio → x.sending = true →
    Gives (.pfcXon p sub prio) s ((putPfc { x with sending := false } s).emit (.eth p sub 0 [prio, 0])) ∧
    Gives (.pfcPauseRefresh p sub prio) s ((pauseTx p s).emit (.eth p sub 0 [prio, 0xFFFF])) ∧
    (x.since + 1563 ≤ s.tet.epoch → Gives (.pfcStorm p sub prio) s
      ((putPfc { x with sending := false, storm := true, lastXoff := s.tet.epoch } s).raise (R.FAB_INT_STATUS_PFC_STORM p)))) ∧
  (∀ s p sub prio x, Alive s → x = pfcOf s p sub prio → x.storm = true → x.lastXoff + 15625 ≤ s.tet.epoch →
    Gives (.pfcStormEnd p sub prio) s (putPfc { x with storm := false } s)) ∧
  (∀ s p sub prio x, Alive s → fabUp s p sub = true → prio < 8 → x = pfcOf s p sub prio → x.drop = false →
    Gives (.pauseReceived p sub prio 0) s (putPfc { x with held := false } s)) ∧
  (∀ s p sub prio x quanta, Alive s → fabUp s p sub = true → prio < 8 → x = pfcOf s p sub prio → x.drop = false → x.held = false → quanta ≠ 0 →
    Gives (.pauseReceived p sub prio quanta) s (pauseRx p (putPfc { x with
      lastRx := s.tet.epoch, held := true, heldFrom := s.tet.epoch, heldTo := s.tet.epoch + quantaEpochs s p quanta } s))) ∧
  (∀ s p sub, Alive s → p < 4 → sub < fabSubs s p → groupDead s (4 + p) = false →
    Gives (.fabricLinkEvent p sub .up) s ((((s.raise (R.FAB_Pp_LINK_UP p) (2 ^ sub)).clr (R.FAB_Pp_LINK_LFAULT p) (2 ^ sub)).clr
      (R.FAB_Pp_LINK_RFAULT p) (2 ^ sub)).raise (R.FAB_INT_STATUS_LINK_UP p)) ∧
    Gives (.fabricLinkEvent p sub .localFault) s (s.raise (R.FAB_Pp_LINK_LFAULT p) (2 ^ sub)) ∧
    Gives (.fabricLinkEvent p sub .remoteFault) s (s.raise (R.FAB_Pp_LINK_RFAULT p) (2 ^ sub)) ∧
    Gives (.fabricLinkEvent p sub .down) s ((({ s with fab.pfc := s.fab.pfc.filter fun y => ¬ (y.port = p && y.sub = sub) }.clr
      (R.FAB_Pp_LINK_UP p) (2 ^ sub)).clr (R.FAB_Pp_LINK_PAUSED p) (2 ^ sub)).raise (R.FAB_INT_STATUS_LINK_DOWN p))) ∧
  (∀ s p, Alive s → p < 4 → Gives (.fecUncorrectable p) s ((s.incWrap (R.FAB_Pp_FEC_UE_UE p)).raise (R.FAB_INT_STATUS_FEC_UE p)))

/-- Spool channels under their controls (R247, R257, R258, R260, R262 to R264, R267, R268): each row of Table 10.5 that a control write, a
trigger or a timer takes, in its state; a device channel's controls answer E_AUTH; a control in a state that does not allow it E_STATE.
Model's choices: log entry 49. -/
def Obligations.SpoolChannelsFollowTheirControls : Prop :=
  (∀ s c, Alive s → c < 64 → splDevice c = true → ∀ u, u = s.wr R.SPL_STATUS_LAST_ERR eAuth →
    Gives (.splStart c) s u ∧ Gives (.splStop c) s u ∧ Gives (.splResume c) s u ∧ Gives (.splAbort c) s u) ∧
  (∀ s c, Alive s → c < 64 → splDevice c = false → s.chState c = chIdle →
    (∀ u, u = State.modCh (((s.wr (R.SPL_CHc_DONE_DESC_COUNT c) 0).wr (R.SPL_CHc_STATUS_MISSED c) 0).wr (R.SPL_CHc_ERR_INFO_VALID c) 0) c
        (fun x => { x with prevMode := none }) →
      (s.rd (R.SPL_CHc_CFG_TRIG_SRC c) = 0 → Gives (.splStart c) s (splRun c u)) ∧
      (s.rd (R.SPL_CHc_CFG_TRIG_SRC c) ≠ 0 → Gives (.splStart c) s
        ((u.modCh c fun x => { x with desc := none, phase := .fetch, stopReq := false }).wr (R.SPL_CHc_STATUS_STATE c) chWaiting))) ∧
    Gives (.splStop c) s s ∧ Gives (.splTrigger c) s s) ∧
  (∀ s c, Alive s → c < 64 → splDevice c = false → s.chState c = chWaiting →
    Gives (.splStart c) s (splRun c s) ∧ (s.rd (R.SPL_CHc_CFG_TRIG_SRC c) ≠ 0 → Gives (.splTrigger c) s (splRun c s))) ∧
  (∀ s c, Alive s → c < 64 → splDevice c = false → s.chState c = chQueued ∨ s.chState c = chRunning ∨ s.chState c = chHalted →
    Gives (.splStart c) s (s.wr R.SPL_STATUS_LAST_ERR eState) ∧
    (s.rd (R.SPL_CHc_CFG_TRIG_SRC c) ≠ 0 → s.rd (R.SPL_CHc_STATUS_PENDING c) = 0 →
      Gives (.splTrigger c) s (s.wr (R.SPL_CHc_STATUS_PENDING c) 1)) ∧
    (s.rd (R.SPL_CHc_CFG_TRIG_SRC c) ≠ 0 → s.rd (R.SPL_CHc_STATUS_PENDING c) ≠ 0 →
      Gives (.splTrigger c) s (s.incSat (R.SPL_CHc_STATUS_MISSED c)))) ∧
  (∀ s c, Alive s → c < 64 → splDevice c = false →
    (s.chState c = chQueued ∨ s.chState c = chWaiting → Gives (.splStop c) s (splDone c (splIdle c 5 s))) ∧
    (s.chState c = chRunning → splSerial c = false → (s.splCh c).phase ≠ .fetch →
      Gives (.splStop c) s (s.modCh c fun x => { x with stopReq := true })) ∧
    (s.chState c = chRunning → splSerial c = false → (s.splCh c).phase = .fetch → Gives (.splStop c) s (splDone c (splIdle c 5 s))) ∧
    (s.chState c = chRunning → splSerial c = true → Gives (.splStop c) s (splDrop true c s)) ∧
    (s.chState c = chHalted → Gives (.splStop c) s (s.wr R.SPL_STATUS_LAST_ERR eState)) ∧
    (s.chState c = chHalted → Gives (.splAbort c) s
      (splIdle c (s.rd (R.SPL_CHc_STATUS_STATUS c)) (s.wr (R.SPL_CHc_STATUS_PENDING c) 0))) ∧
    (s.chState c ≠ chHalted → Gives (.splAbort c) s (s.wr R.SPL_STATUS_LAST_ERR eState) ∧
      Gives (.splResume c) s (s.wr R.SPL_STATUS_LAST_ERR eState)) ∧
    (s.chState c = chHalted → ∀ u,
      u = ((s.wr (R.SPL_CHc_STATUS_STATE c) chRunning).modCh c fun x => { x with desc := if x.phase = .fetch then none else x.desc }) →
      (s.rd (R.SPL_CHc_STATUS_STATUS c) ≠ 3 → Gives (.splResume c) s (splIssue u)) ∧
      (s.rd (R.SPL_CHc_STATUS_STATUS c) = 3 → Gives (.splResume c) s (splIssue (u.modCh c fun x => { x with budget := 0 }))))) ∧
  (∀ s k, Alive s → k < 16 → s.rd (R.SPL_TMRk_PERIOD k) ≠ 0 → s.pwr.inNight = false → s.spl.align.contains k = false →
    Gives (.splTimerTick k) s (splTrigAll 1 k s)) ∧
  (∀ s k v, Alive s → k < 16 →
    (1 ≤ v % 2 ^ 31 → v % 2 ^ 31 ≤ 99 → Gives (.splTimerWrite k v) s (s.wr R.SPL_STATUS_LAST_ERR eRange)) ∧
    (v < 2 ^ 31 → v = 0 ∨ 100 ≤ v → Gives (.splTimerWrite k v) s
      { (s.wr (R.SPL_TMRk_PERIOD k) v).wr (R.SPL_TMRk_ALIGN k) 0 with spl.align := s.spl.align.filter (· ≠ k) }) ∧
    (v < 2 ^ 31 → 100 ≤ v → Gives (.splTimerWrite k (v + 2 ^ 31)) s
      { (s.wr (R.SPL_TMRk_PERIOD k) v).wr (R.SPL_TMRk_ALIGN k) 1 with spl.align := insNat k (s.spl.align.filter (· ≠ k)) })) ∧
  (∀ s c, Alive s → serialTaken s 64 = false → 56 ≤ c → c < 64 → s.chState c = chQueued → (∀ d, 56 ≤ d → d < c → s.chState d ≠ chQueued) →
    Gives .splSerialTurn s (s.wr (R.SPL_CHc_STATUS_STATE c) chRunning)) ∧
  (∀ s, Alive s → serialTaken s 64 = true → Gives .splSerialTurn s s) ∧
  (∀ s c, c < 64 → ∀ t, t = splRun c s → t.chState c = (if splSerial c && serialTaken s c then chQueued else chRunning) ∧
    RegsBut [R.SPL_CHc_STATUS_STATE c] s t ∧ SameStores s t ∧ SameWork s t)

/-- A Spool chain runs (R253 to R261, R263, R266, R267): a descriptor that passes its checks starts its data and one that fails halts the
channel; a burst moves its bytes from source to destination, never across a 4 KiB boundary of either; a request that fails latches where and why; bursts
are issued in rounds, each channel its share of 2^PRIO, the serial channel 8 and channels 52 to 55 two, until no channel has one to issue, and
at most 16 of a channel are in flight; the end of a descriptor posts what Table 10.5 says; a used-up budget halts with LOOP.
Model's choices: log entries 49, 82 and 84. -/
def Obligations.SpoolChainsMoveTheirData : Prop :=
  (∀ s c bytes p d, Alive s → c < 64 → s.chState c = chRunning → (s.splCh c).phase = .fetch →
    (s.splCh c).budget < s.rd (R.SPL_CHc_LIMIT_CHAIN_LIMIT c) → p = chDesc s c → spaceFault s p.1 = none →
    inSpace s p.1 p.2 64 = true → d = descOf (if p.1 < 4 then bytes else spaceRead s p.1 p.2 64) →
    ∀ u, u = s.modCh c (fun x => { x with desc := some d }) →
    (descCheck u (s.splCh c).prevMode d = none → Gives (.splDescFetch c (.ok bytes)) s
      (splIssue ((u.modCh c fun x => { x with
        phase := .data, budget := x.budget + 1, crc := if d.crcCont then x.crc else crcInit d.crcMode }).wr (R.SPL_CHc_BYTES_BYTES c) 0))) ∧
    (∀ st, descCheck u (s.splCh c).prevMode d = some st → Gives (.splDescFetch c (.ok bytes)) s (splHalt c st true u))) ∧
  (∀ s c p, Alive s → c < 64 → s.chState c = chRunning → (s.splCh c).phase = .fetch →
    (s.splCh c).budget < s.rd (R.SPL_CHc_LIMIT_CHAIN_LIMIT c) → p = chDesc s c → spaceFault s p.1 = none →
    Gives (.splRequestTimeout c 3) s (splBusErr c p.1 p.2 3 0 s)) ∧
  (∀ s c, Alive s → c < 64 → s.chState c = chRunning → (s.splCh c).phase = .fetch →
    s.rd (R.SPL_CHc_LIMIT_CHAIN_LIMIT c) ≤ (s.splCh c).budget → Gives (.splChainLimit c) s (splHalt c 3 true s)) ∧
  (∀ s c d m b bytes, Alive s → s.chState c = chRunning → (s.splCh c).phase = .data → (s.splCh c).desc = some d →
    m = s.rd (R.SPL_CHc_BYTES_BYTES c) → b = burstOf d m → ∀ u, u = splIssue s →
    (spaceFault s d.srcSpace = none → spaceFault s d.dstSpace = none → 4 ≤ d.srcSpace →
      Gives (.splBurstDone c (.ok bytes)) s
        (burstMove c d m b.1 b.2 (spaceRead s d.srcSpace (ringAddr d.srcRing d.srcAddr b.1) b.2) u)) ∧
    (spaceFault s d.srcSpace = none → spaceFault s d.dstSpace = none → d.srcSpace < 4 → bytes.length = b.2 →
      Gives (.splBurstDone c (.ok bytes)) s (burstMove c d m b.1 b.2 bytes u)) ∧
    (∀ cause, spaceFault s d.srcSpace = some cause →
      Gives (.splBurstDone c (.ok bytes)) s (splBusErr c d.srcSpace (ringAddr d.srcRing d.srcAddr b.1) 0 cause u)) ∧
    (spaceFault s d.srcSpace = none → spaceFault s d.dstSpace = none →
      Gives (.splRequestTimeout c 0) s (splBusErr c d.srcSpace (ringAddr d.srcRing d.srcAddr b.1) 0 0 u)) ∧
    (∀ cause, spaceFault s d.srcSpace = none → spaceFault s d.dstSpace = none →
      Gives (.splBurstDone c (.busErr cause 1)) s (splBusErr c d.dstSpace (ringAddr d.dstRing d.dstAddr b.1) 1 cause u))) ∧
  (∀ s c, c < 64 → roundShare s c = (if 56 ≤ c ∧ c ≤ 63 then 8 else if 52 ≤ c ∧ c ≤ 55 then 2 else 2 ^ s.rd (R.SPL_CHc_CFG_PRIO c))) ∧
  (∀ s, ∃ more, splIssue s = { s with spl.flight := s.spl.flight ++ more } ∧
    (∀ x ∈ more, s.chState x.1 = chRunning ∧ (s.splCh x.1).phase = .data ∧ ∃ d, (s.splCh x.1).desc = some d ∧ x.2.1 < d.length ∧
      x.2.2 = (burstOf d x.2.1).2) ∧
    (∀ c, (s.spl.flight.filter fun x => x.1 = c).length ≤ 16 → ((splIssue s).spl.flight.filter fun x => x.1 = c).length ≤ 16) ∧
    (∀ c, c < 64 → nextBurst (splIssue s) c = none)) ∧
  (∀ d m, m < d.length → 0 < (burstOf d m).2 ∧ (burstOf d m).2 ≤ 4096 ∧ (burstOf d m).2 ≤ d.length - m ∧
    (descending d = false → (ringAddr d.srcRing d.srcAddr m) % 4096 + (burstOf d m).2 ≤ 4096 ∧
      (ringAddr d.dstRing d.dstAddr m) % 4096 + (burstOf d m).2 ≤ 4096)) ∧
  (∀ s c d bytes, Alive s → s.chState c = chRunning → (s.splCh c).desc = some d → (s.splCh c).phase = .record →
    spaceFault s (chCompl s c).1 = none → Gives (.splDescDone c (.ok bytes)) s (descEnd c d s)) ∧
  (∀ s c d bytes, Alive s → c < 64 → s.spl.ch.length = 64 → s.chState c = chRunning → (s.splCh c).desc = some d → (s.splCh c).phase = .store →
    crcLen d = 0 → d.fence = false → (chCompl s c).1 = 7 →
    Gives (.splDescDone c (.ok bytes)) s (descEnd c d (s.modCh c fun x => { x with phase := .fence }))) ∧
  (∀ s c, c < 64 → s.spl.ch.length = 64 → ∀ d cause addr sp dir, dir ≠ 5 → (chCompl s c).1 = 7 → ∀ t, t = splBusErr c sp addr dir cause s →
    t.chState c = chHalted ∧ t.rd (R.SPL_CHc_STATUS_STATUS c) = 4 ∧ t.rd (R.SPL_CHc_ERR_INFO_CAUSE c) = cause % 8 ∧
    t.rd (R.SPL_CHc_ERR_INFO_VALID c) = 1 ∧ t.rd (R.SPL_CHc_ERR_ADDR_LO_ADDR_LO c) = addr % 2 ^ 32 ∧
    t.rd (R.SPL_CHc_BYTES_BYTES c) = s.rd (R.SPL_CHc_BYTES_BYTES c) ∧ chDesc t c = chDesc s c ∧ SameStores s t ∧
    ((s.splCh c).desc = some d → (t.splCh c).desc = some d))

/-- What a device does with a frame of the String (R275, R276, R282): a frame that fails its CRC is dropped and counted; a unicast frame for another
device is forwarded, one for this device acted on; of a broadcast the first copy is acted on and passed on, its own and later copies are dropped;
a closed bypass takes no frame.
Model's choices: log entry 51. -/
def Obligations.StringFramesAreForwarded : Prop :=
  (∀ s h ty vals act, s.str.bypassClosed = true → strRx h ty vals act s = s) ∧
  (∀ s h ty vals act, s.str.bypassClosed = false → strPortUp s h.port = true → h.crcOk = false →
    strRx h ty vals act s = s.incSat (portCrc h.port)) ∧
  (∀ s h ty vals act, s.str.bypassClosed = false → strPortUp s h.port = true → h.crcOk = true → h.dst = s.unit → s.unit ≠ 0xFFFF →
    strRx h ty vals act s = act s) ∧
  (∀ s h ty vals act, s.str.bypassClosed = false → strPortUp s h.port = true → h.crcOk = true → h.dst ≠ s.unit → h.dst ≠ 0xFFFF →
    strRx h ty vals act s = strForward h ty vals s) ∧
  (∀ s h ty vals act, s.str.bypassClosed = false → strPortUp s h.port = true → h.crcOk = true → h.dst = 0xFFFF →
    (h.src = s.unit ∨ (h.src, ty, h.seq) ∈ s.str.seen → strRx h ty vals act s = s) ∧
    (h.src ≠ s.unit → (h.src, ty, h.seq) ∉ s.str.seen → strRx h ty vals act s = act (strPass h ty vals (strSee h ty s)) ∧
      (h.src, ty, h.seq) ∈ (strSee h ty s).str.seen)) ∧
  (∀ s h ty, Alive s → s.str.bypassClosed = false → strPortUp s h.port = true → h.crcOk = true → h.src ≠ s.unit → h.dst ≠ 0xFFFF →
    h.dst ≠ s.unit → Gives (.stringFrameForward h ty) s (strPass h ty [] s)) ∧
  (∀ s h ty, Alive s → s.str.bypassClosed = false → strPortUp s h.port = true → h.crcOk = false →
    Gives (.stringFrameForward h ty) s (s.incSat (portCrc h.port))) ∧
  (∀ s h ty vals, strPortUp s (1 - h.port) = true → ∃ e, strForward h ty vals s = s.emit e ∧
    e = .string (1 - h.port) ty ([h.src, h.dst, h.seq, h.hops + 1, b2n (h.west ≠ false), b2n (h.wrapped || false), b2n h.uncal] ++ vals))

/-- Links, time and delays of the String (R272, R278, R279, R281): link up and down, LINK, EPOCH and the delay measurement.
Model's choices: log entry 52. -/
def Obligations.StringLinksAndTime : Prop :=
  (∀ s port, Alive s → port ≤ 1 → s.str.bypassClosed = false → strPortUp s port = false → groupDead s 8 = false → ∀ u,
    u = delayClear port ((s.wr (portLink port) 2).wr (portLock port) 3) →
    Gives (.stringLinkUp port) s (portReport port true { u with
      str.firstUp := if strState u = sTraining ∧ u.str.firstUp.isNone then some u.tet.epoch else u.str.firstUp })) ∧
  (∀ s port, Alive s → port ≤ 1 → s.str.bypassClosed = false → strPortUp s port = true → ∀ u,
    u = delayClear port ((s.wr (portLink port) 1).wr (portLock port) 0) →
    Gives (.stringLinkDown port false) s (portReport port false (u.incSat (portDown port)))) ∧
  (∀ s h id x y, Alive s → h.port ≤ 1 → s.str.bypassClosed = false → h.crcOk = true → id ≠ s.rd R.STG_STRING_ID_STRING_ID → s.rd (portLink h.port) = 3 →
    Gives (.linkFrame h id x y) s s) ∧
  (∀ s h x y, Alive s → h.port ≤ 1 → s.str.bypassClosed = false → h.crcOk = true → s.rd (portLink h.port) = 3 →
    Gives (.linkFrame h (s.rd R.STG_STRING_ID_STRING_ID) x y) s (s.wr (portLink h.port) 1)) ∧
  (∀ s h f, Alive s → s.str.bypassClosed = false → strPortUp s h.port = true → h.crcOk = true → h.src = s.unit → Gives (.epochFrame h f) s s) ∧
  (∀ s h f u, Alive s → s.str.bypassClosed = false → strPortUp s h.port = true → h.crcOk = true → h.src ≠ s.unit → u = epochPass h f s →
    isReel u = false → strState u = sJoined → reelUnit u = h.src → h.src ≠ 0xFFFF →
    Gives (.epochFrame h f) s (epochLearn f (epochTake h f { u with str.lastRx := u.tet.epoch, str.reelKey := f.reelKey }))) ∧
  (∀ a b : EpochCopy, copyBetter a b = a ∨ copyBetter a b = b) ∧ (∀ a b : EpochCopy, (copyBetter a b).hops ≤ a.hops ∧ (copyBetter a b).hops ≤ b.hops) ∧
  (∀ s, Alive s → s.tet.epoch % 16 = 8 → s.str.bypassClosed = false →
    Gives .delayMeasure s (s.each (strPorts s) fun s p => (s.emit (.string p 2 [s.freeNat 64])).useFree)) ∧
  (∀ s h t1, Alive s → s.str.bypassClosed = false → strPortUp s h.port = true → h.crcOk = true → ∃ t2 t3 u, Gives (.delayReq h t1) s u ∧
    u.out = .string h.port 3 [t1, t2, t3] :: s.out ∧ u.regs = s.regs ∧ u.str = s.str) ∧
  (∀ s h t1 t2 t3 t4 l, Alive s → s.str.bypassClosed = false → strPortUp s h.port = true → h.crcOk = true →
    l = (delayOf t1 t2 t3 t4 :: delaySamples s h.port).take 16 → ∀ u : State, u = { s with str.delays := (h.port, l) :: s.str.delays.filter fun d => d.1 ≠ h.port } →
    Gives (.delayResp h t1 t2 t3 t4) s (u.wr (portDelay h.port) (delayPs u h.port / 1000))) ∧
  (∀ t1 t2 t3 t4 d, t2 = t1 + d → t4 = t3 + d → delayOf t1 t2 t3 t4 = d)

/-- Training, elections, joining and leaving (R280, R283 to R286): who becomes the Reel, what the losses of links and of the Reel start, how a JOIN is answered.
Model's choices: log entry 51. -/
def Obligations.StringElectsAndJoins : Prop :=
  (∀ s, Alive s → strState s = sTraining → s.str.firstUp.getD s.str.trainFrom + 64 ≤ s.tet.epoch → Gives .trainingTimeout s (electionStart s)) ∧
  (∀ s, Alive s → strState s = sTraining → s.tet.epoch < s.str.firstUp.getD s.str.trainFrom + 64 → Gives .trainingTimeout s s) ∧
  (∀ s, Alive s → strState s = sElecting → s.str.electFrom + 33 ≤ s.tet.epoch → s.str.best ≤ ownKey s → Gives .electionEnd s (becomeReel s)) ∧
  (∀ s, Alive s → strState s = sElecting → s.str.electFrom + 33 ≤ s.tet.epoch → ownKey s < s.str.best →
    Gives .electionEnd s (joinAdd (strGo sJoining { s with str.lastRx := s.tet.epoch }))) ∧
  (∀ s h key unit, Alive s → s.str.bypassClosed = false → strPortUp s h.port = true → h.crcOk = true → h.dst = s.unit → s.unit ≠ 0xFFFF →
    strState s = sElecting → Gives (.candidate h key unit) s { s with str.best := max s.str.best key }) ∧
  (∀ s, Alive s → strState s = sJoined → reelUnit s ≠ 0xFFFF → isReel s = false → s.str.lastRx + 16 ≤ s.tet.epoch →
    Gives .reelLost s (electionStart (doSourceLoss 2 (s.raise R.STG_INT_STATUS_REEL_LOST)))) ∧
  (∀ s, Alive s → isReel s = true → Gives .reelect s (electionStart s)) ∧
  (∀ s, Alive s → isReel s = false → Gives .reelect s (s.wr R.STG_STATUS_LAST_ERR eState)) ∧
  (∀ s h size bs, Alive s → s.str.bypassClosed = false → strPortUp s h.port = true → h.crcOk = true → h.dst = s.unit → s.unit ≠ 0xFFFF → isReel s = false →
    h.src = reelUnit s → strState s = sJoined → h.wrapped = true → Gives (.ringState h size bs) s (breaksSet bs (s.wr R.STG_RING_SIZE size))) ∧
  (∀ s h r rs result, Alive s → s.str.bypassClosed = false → strPortUp s h.port = true → h.crcOk = true → h.dst = s.unit → s.unit ≠ 0xFFFF →
    s.str.reports = r :: rs → r.sent.isSome = true →
    (r.sub = subJoin → Gives (.ack h r.seq result) s (joinAnswer result { s with str.reports := rs })) ∧
    (r.sub = subLeave → Gives (.ack h r.seq result) s (reportNext { s with str.reports := rs, str.leaveAcked := true })) ∧
    (r.sub = subPublish → result ≠ 0 → Gives (.ack h r.seq result) s (reportNext (pubReply result { s with str.reports := rs })))) ∧
  (∀ s result, result ≠ 0 → joinAnswer result s = ((bypassClose sRefused s).wr R.STG_STATUS_REFUSE result).raise R.STG_INT_STATUS_REFUSED) ∧
  (∀ s e, Alive s → s.str.leaveAt = some e → e ≤ s.tet.epoch → Gives .leaveTimeout s (bypassClose sBypassed s)) ∧
  (∀ s r rs e, Alive s → s.str.reports = r :: rs → r.sent = some e → e + 256 ≤ s.tet.epoch → reelUnit s ≠ 0xFFFF → ∀ u,
    u = strSendSeq (reelUnit s) 6 r.seq (r.sub :: r.vals) s → Gives .reportRetry s { u with str.reports := { r with sent := some u.tet.epoch } :: rs }) ∧
  (∀ s d, Alive s → s.str.census = some d → isReel s = true → s.tet.epoch < d → censusFull s = false → Gives .censusEnd s s) ∧
  (∀ s d, Alive s → s.str.census = some d → isReel s = true → (d ≤ s.tet.epoch ∨ censusFull s = true) →
    Runs .censusEnd s fun t => t.str.census = none ∧ t.arrs = s.arrs ∧
      ∀ e, s.str.dir.filter (fun e => bit e.flags 0 && ¬ s.str.heard.contains e.unit) = [e] → e.flags < 4 → { e with flags := e.flags + 3 } ∈ t.str.dir) ∧
  (∀ s st, (bypassClose st s).str.bypassClosed = true ∧ (bypassClose st s).str.members = [] ∧ (bypassClose st s).str.offer = none) ∧
  (∀ s, (becomeReel s).str.members = [])

/-- Reports at the Reel (R280, R284, R286, R287, R290): a report is processed at once while none waits and fewer than 32 have been processed in this epoch, else it is
collected; the same SEQ is acted on once and acknowledged again; each SUB has its effect.
Model's choices: log entry 50. -/
def Obligations.ReelHandlesReports : Prop :=
  (∀ s h i, s.str.bypassClosed = false → strPortUp s h.port = true → h.crcOk = true → h.dst = s.unit → isReel s = true →
    s.str.acks.find? (fun x => x.1 = h.src && x.2.1 = h.seq) = none → s.str.collector = [] → s.str.processed < 32 →
    reportRx h i s = reportDo i { s with str.processed := s.str.processed + 1 }) ∧
  (∀ s h i x, s.str.bypassClosed = false → strPortUp s h.port = true → h.crcOk = true → h.dst = s.unit → isReel s = true →
    s.str.acks.find? (fun x => x.1 = h.src && x.2.1 = h.seq) = some x → reportRx h i s = ackSend h x.2.2 s) ∧
  (∀ s h slot peer gen, Alive s → Gives (.reportJoin h slot peer gen) s (reportRx h (.reportJoin h slot peer gen) s)) ∧
  (∀ s h night, Alive s → Gives (.reportLeave h night) s (reportRx h (.reportLeave h night) s)) ∧
  (∀ s h east, Alive s → Gives (.reportLinkDown h east) s (reportRx h (.reportLinkDown h east) s) ∧
    Gives (.reportLinkUp h east) s (reportRx h (.reportLinkUp h east) s)) ∧
  (∀ s h slot gen upTo, Alive s → Gives (.reportCensus h slot gen upTo) s (reportRx h (.reportCensus h slot gen upTo) s)) ∧
  (∀ s h gen code, Alive s → Gives (.reportGenReady h gen) s (reportRx h (.reportGenReady h gen) s) ∧
    Gives (.reportGenReject h gen code) s (reportRx h (.reportGenReject h gen code) s)) ∧
  (∀ s h gen missing, Alive s → Gives (.reportChunkNak h gen missing) s (reportRx h (.reportChunkNak h gen missing) s)) ∧
  (∀ s h size items tables, Alive s → Gives (.reportPublish h size items tables) s (reportRx h (.reportPublish h size items tables) s)) ∧
  (∀ s h b, Alive s → Gives (.reportSummary h b) s (reportRx h (.reportSummary h b) s)) ∧
  (∀ s h slot peer gen, joinRefuse s h slot peer ≠ 0 → reportDo (.reportJoin h slot peer gen) s = ackSend h (joinRefuse s h slot peer) s) ∧
  (∀ s h slot peer gen, joinRefuse s h slot peer = 0 → gen.configGen = s.dwn.configGen → ∃ k, (h.src, slot, k) ∈ (reportDo (.reportJoin h slot peer gen) s).str.members) ∧
  (∀ s h night, isMember s h.src = true → ∀ m ∈ (reportDo (.reportLeave h night) s).str.members, m.1 ≠ h.src) ∧
  (∀ s h b, b ∈ (reportDo (.reportSummary h b) s).str.summaries) ∧
  (∀ s h gen d, s.str.dist = some d → d.gen = gen → ∃ d', (reportDo (.reportGenReady h gen) s).str.dist = some d' ∧ h.src ∈ d'.ready) ∧
  (∀ s h, ReportTaken s h →
    (∀ slot peer n f a, joinRefuse s h slot peer = 0 → Runs (.reportJoin h slot peer ⟨s.dwn.configGen, n, f, a⟩) s fun t =>
      Acked h 0 t ∧ ∃ k, (h.src, slot, k) ∈ t.str.members) ∧
    (∀ slot peer gen, joinRefuse s h slot peer ≠ 0 →
      Gives (.reportJoin h slot peer gen) s (ackSend h (joinRefuse s h slot peer) { s with str.processed := s.str.processed + 1 })) ∧
    (∀ night, isMember s h.src = true → Runs (.reportLeave h night) s fun t => Acked h 0 t ∧ ∀ m ∈ t.str.members, m.1 ≠ h.src) ∧
    (∀ east, s.str.breaks.length < 8 → Runs (.reportLinkDown h east) s fun t => Acked h 0 t ∧ breakPos s h.src east ∈ t.str.breaks) ∧
    (∀ east, Runs (.reportLinkUp h east) s fun t => Acked h 0 t ∧ breakPos s h.src east ∉ t.str.breaks) ∧
    (∀ slot gen upTo p e, p ∈ strPorts s → e ∈ s.str.dir → (∀ x ∈ s.str.dir, bit x.flags 2 = false) →
      (∀ x ∈ s.str.dir, x.unit = h.src → x.slot = e.slot → x = e) → Runs (.reportCensus h slot gen upTo) s fun t =>
      Acked h 0 t ∧ ∃ q f g, OutEv.string p 0x0B [0xFFFF, q, e.slot, e.unit, f, g] ∈ t.out) ∧
    (∀ d, s.str.dist = some d → Runs (.reportGenReady h d.gen) s fun t =>
      Acked h 0 t ∧ t.str.dist = some { d with ready := insNat h.src d.ready }) ∧
    (∀ d code, s.str.dist = some d → Runs (.reportGenReject h d.gen code) s fun t =>
      Acked h 0 t ∧ t.str.dist = some { d with rejected := d.rejected ++ [(h.src, code)] }) ∧
    (∀ d ks k p, s.str.dist = some d → k ∈ ks.take (8 - d.sent) → p ∈ strPorts s → Runs (.reportChunkNak h d.gen ks) s fun t =>
      Acked h 0 t ∧ ∃ q, OutEv.string p 9 [0xFFFF, q, d.gen, k] ∈ t.out) ∧
    (∀ d ks k, s.str.dist = some d → k ∈ ks.drop (8 - d.sent) → Runs (.reportChunkNak h d.gen ks) s fun t =>
      Acked h 0 t ∧ ∃ d', t.str.dist = some d' ∧ k ∈ d'.again) ∧
    (∀ size items tables, s.str.dist = none → s.str.census = none → Runs (.reportPublish h size items tables) s fun t =>
      Acked h 0 t ∧ ∃ d, t.str.dist = some d ∧ d.gen = sysGen s + 1 ∧ d.items = items ∧ d.tables = tables ∧ d.applyEpoch = applyAt s.tet.epoch) ∧
    (∀ size items tables d, s.str.dist = some d → Runs (.reportPublish h size items tables) s fun t =>
      Acked h eBusy t ∧ t.str.dist = some d) ∧
    (∀ b, Runs (.reportSummary h b) s fun t => Acked h 0 t ∧ b ∈ t.str.summaries))

/-- Distributions, summaries, claims, the directory and wakes (R287, R288, R290, R291).
Model's choices: log entries 53 and 87. -/
def Obligations.StringSharesTheConfiguration : Prop :=
  (∀ s h gen size at_ ok, Alive s → s.str.bypassClosed = false → strPortUp s h.port = true → h.crcOk = true → h.dst = s.unit → s.unit ≠ 0xFFFF →
    strState s = sJoined → h.src = reelUnit s → sysGen s < gen → s.str.pub = none →
    Gives (.offer h gen size at_ ok) s { s with str.offer := some ⟨gen, size, at_, ok, [], [], [], 0⟩ }) ∧
  (∀ s h gen size at_ ok, Alive s → s.str.bypassClosed = false → strPortUp s h.port = true → h.crcOk = true → h.dst = s.unit → s.unit ≠ 0xFFFF →
    gen ≤ sysGen s → Gives (.offer h gen size at_ ok) s s) ∧
  (∀ s h gen items tables o, Alive s → s.str.bypassClosed = false → strPortUp s h.port = true → h.crcOk = true → h.dst = s.unit → s.unit ≠ 0xFFFF →
    s.str.offer = some o → o.gen = gen → h.src = reelUnit s → o.chunks = [] →
    Gives (.config h gen 0 items tables) s (offerCheck { s with str.offer := some { o with chunks := [0], items := o.items ++ items, tables := tables ++ o.tables } })) ∧
  (∀ s h role cause clm prev peer e, Alive s → s.str.bypassClosed = false → strPortUp s h.port = true → h.crcOk = true → h.dst = s.unit → s.unit ≠ 0xFFFF →
    dirOf s h.src = some e → clm < e.claim → Gives (.stringClaim h role cause clm prev peer) s s) ∧
  (∀ s h e gen, Alive s → s.str.bypassClosed = false → strPortUp s h.port = true → h.crcOk = true → h.dst = s.unit → s.unit ≠ 0xFFFF →
    isReel s = false → h.src = reelUnit s → gen ≤ s.str.dirGen →
    Gives (.directory h e gen) s (withDisc (fun s => { s with str.dir := dirPut e s.str.dir, str.dirGen := max s.str.dirGen gen }) s)) ∧
  (∀ s target, Alive s → strState s ≠ sJoined → Gives (.stgWake target) s (s.wr R.STG_STATUS_LAST_ERR eState)) ∧
  (∀ s target, Alive s → strState s = sJoined → inNightDir s target = false → Gives (.stgWake target) s (s.wr R.STG_STATUS_LAST_ERR eField)) ∧
  (∀ s target, Alive s → strState s = sJoined → inNightDir s target = true → Gives (.stgWake target) s (strBroadcast 0 [target] s) ∧
    ∃ p, p < 2 ∧ Gives (.wakeSequenceSend target) s (s.emit (.string p 0xFF (wakeCells target))).useFree) ∧
  (∀ s, Alive s → strState s = sJoined → isReel s = true → s.str.summaryBy.isSome = true →
    Gives .summaryDue s { s with
      str.newRecs := 0, str.summaryBy := none, wsk.worst := 0, wsk.worstSeq := 0,
      str.summaries := summaryOf s :: s.str.summaries.filter fun x => x.unit ≠ (summaryOf s).unit }) ∧
  (∀ s, Alive s → strState s ≠ sJoined → Gives .summaryDue s s) ∧
  (∀ e, applyAt e % 16 = 0 ∧ e + 1024 ≤ applyAt e ∧ applyAt e < e + 1040) ∧
  (∀ e l, e ∈ dirPut e l ∧ ∀ x ∈ dirPut e l, x.slot = e.slot → x = e) ∧
  (∀ u, (wakeCells u).length = 40)

/-- The mirror (R296 to R302): the link, the pages and records of a delta, its CUT, CONFIRM and negative reply, the bulk copy, fetches. A standby takes a delta whole or not at all.
Model's choices: log entry 54. -/
def Obligations.MirrorTakesWholeDeltas : Prop :=
  (∀ s, Alive s → 11 ≤ s.dwn.step → groupDead s 9 = false → Gives (.sparLinkUp 8) s
    ((((s.wr R.SPR_LINK_UP 1).wr R.SPR_LINK_LANES 8).wr R.SPR_LINK_CAP_GBS 80).raise R.SPR_INT_STATUS_SPAR_UP) ∧
    Gives (.sparLinkUp 4) s (((((s.wr R.SPR_LINK_UP 1).wr R.SPR_LINK_LANES 4).wr R.SPR_LINK_CAP_GBS 40).raise R.SPR_INT_STATUS_SPAR_UP).raise
      R.SPR_INT_STATUS_DEGRADED_LINK)) ∧
  (∀ s, Alive s → sparUp s = true → Runs .sparLinkDown s fun u => u.pair = { s.pair with stagedP := [], stagedR := [] } ∧
    u.rd R.SPR_LINK_UP = 0 ∧ u.rd R.SPR_LINK_LANES = 0 ∧ u.rd R.SPR_LINK_CAP_GBS = 0 ∧ u.rd R.SPR_INT_STATUS_SPAR_DOWN = 1 ∧ u.bsk = s.bsk ∧ u.nv = s.nv) ∧
  (∀ s addr blk, Alive s → sparUp s = true → standingBy s = true → addr < s.bsk.w →
    Gives (.page addr blk true) s { s with bsk.pages := SMap.set 0 addr blk s.bsk.pages } ∧
    Gives (.page addr blk false) s { s with pair.stagedP := s.pair.stagedP ++ [(addr, blk)] }) ∧
  (∀ s rs, Alive s → sparUp s = true → standingBy s = true → rs.length ≤ 64 →
    Gives (.records rs true) s (rs.foldl mirrorRec s) ∧ Gives (.records rs false) s { s with pair.stagedR := s.pair.stagedR ++ rs }) ∧
  (∀ s e f l, Alive s → sparUp s = true → standingBy s = true → s.pairState ≠ 5 →
    ∀ u, u = deltaApply { s with pair.lastCutRx := s.tet.epoch } →
    Gives (.cut e f l s.pair.stagedP.length s.pair.stagedR.length true) s
      (sparSend 4 [e, l] (State.wr { u with pair.confirmed := e } R.SPR_MIRROR_CONFIRMED e)) ∧
    Gives (.cut e f l s.pair.stagedP.length s.pair.stagedR.length false) s
      (control opNak [] { s with pair.lastCutRx := s.tet.epoch, pair.stagedP := [], pair.stagedR := [] })) ∧
  (∀ s, s.pair.stagedR = [] → (deltaApply s).pair.stagedP = [] ∧
    ∀ p q b, s.pair.stagedP = q ++ [(p, b)] → SMap.get 0 p (deltaApply s).bsk.pages = b) ∧
  (∀ s e l, Alive s → sparUp s = true → mirroring s = true → s.pair.unconf.any (fun u => u.1 = e) = true → s.pairState ≠ 5 → ∀ u,
    u = mirrorDone e ((State.wr { s with
      pair.unconf := s.pair.unconf.filter (fun u => e < u.1), pair.confirmed := e, pair.naks := 0, pair.lastRx := s.tet.epoch }
      R.SPR_MIRROR_CONFIRMED e).gaugeTime 10) → u.pairState = s.pairState → Gives (.confirm e l) s u) ∧
  (∀ s e l, Alive s → sparUp s = true → mirroring s = true → s.pair.unconf.any (fun u => u.1 = e) = true → s.pairState ≠ 5 →
    s.ce.ctxs = [] → s.ce.sops = [] → Gives (.confirm e l) s ((State.wr { s with
      pair.unconf := s.pair.unconf.filter (fun u => e < u.1), pair.confirmed := e, pair.naks := 0, pair.lastRx := s.tet.epoch }
      R.SPR_MIRROR_CONFIRMED e).gaugeTime 10)) ∧
  (∀ s u us, Alive s → s.pair.unconf = u :: us → sparUp s = true → mirroring s = true → s.pair.naks < 2 →
    Gives .deltaNak s (resend u { s with pair.naks := s.pair.naks + 1 })) ∧
  (∀ s u us, Alive s → s.pair.unconf = u :: us → sparUp s = true → mirroring s = true → 2 ≤ s.pair.naks →
    Gives .deltaNak s (doSparLinkDown { s with pair.naks := 0 })) ∧
  (∀ s addr, Alive s → sparUp s = true → s.pairState = 3 → addr < s.bsk.cap → addr ∉ s.bsk.fetching →
    Gives (.fetchReq addr) s (s.emit (.sparBlock 8 addr (pageAt s addr)))) ∧
  (∀ s addr blk, Alive s → sparUp s = true → addr ∈ s.bsk.fetching →
    Gives (.fetchData addr blk) s (pageArrived addr { s with bsk.pages := SMap.set 0 addr blk s.bsk.pages })) ∧
  (∀ s seq, Alive s → sparUp s = true → s.rd R.SPR_CFG_EN = 1 → s.pairState = 0 → s.pair.helloRx = none → noFence s = true →
    Gives (.syncBegin seq) s (s.wr R.SPR_STATUS_REASON 4)) ∧
  (∀ s seq h, Alive s → sparUp s = true → s.rd R.SPR_CFG_EN = 1 → s.pairState = 0 → s.pair.helloRx = some h → helloRefuse s h ≠ 0 →
    Gives (.syncBegin seq) s (s.wr R.SPR_STATUS_REASON (helloRefuse s h))) ∧
  (∀ s seq, Alive s → sparUp s = true → s.rd R.SPR_CFG_EN = 1 → s.pairState = 0 → noFence s = false →
    (∀ h, s.pair.helloRx = some h → helloRefuse s h = 0) → Runs (.syncBegin seq) s fun t =>
    seq + 1 ≤ t.jrn.nextSeq ∧ t.rd R.SPR_SYNC_PCT = 0 ∧ t.pair.unconf = [] ∧ t.pairState = 3) ∧
  (∀ s, Alive s → sparUp s = true → s.pairState = 3 →
    Gives .bulkCopyEnd s (control opSyncDone [] ((State.wr { s with pair.bulk := (0, 0) } R.SPR_SYNC_PCT 100).raise R.SPR_INT_STATUS_SYNCED))) ∧
  (∀ s, Alive s → sparUp s = true → s.pairState = 1 →
    Gives .syncDone s (setPair 2 (((setSynced true s).wr R.SPR_SYNC_PCT 100).raise R.SPR_INT_STATUS_SYNCED)))

/-- Takeover, split and hand-back (R303 to R314): what a lost active, a lost standby, a request and a release start.
Model's choices: log entries 55 and 88. -/
def Obligations.PairHandsControlOver : Prop :=
  (∀ s, Alive s → s.pairState = 2 → s.pair.lastCutRx + s.rd R.SPR_TIMING_DETECT_EPOCHS + 1 ≤ s.tet.epoch → bit s.pair.health 8 = true →
    Gives .activeLostDetect s (takeover s)) ∧
  (∀ s, Alive s → s.pairState = 2 → s.pair.lastCutRx + s.rd R.SPR_TIMING_DETECT_EPOCHS + 1 ≤ s.tet.epoch → bit s.pair.health 8 = false →
    Gives .activeLostDetect s (separate 5 s)) ∧
  (∀ s, Alive s → s.pairState ≠ 5 → s.tet.epoch < s.pair.lastCutRx + s.rd R.SPR_TIMING_DETECT_EPOCHS + 1 → Gives .activeLostDetect s s) ∧
  (∀ s, Alive s → s.pairState = 5 → s.pair.released = true → s.pair.lastRx + s.rd R.SPR_TIMING_DETECT_EPOCHS + 1 ≤ s.tet.epoch →
    s.pair.peerClaim < s.pair.claim → Gives .activeLostDetect s (takeover (memberStop s))) ∧
  (∀ s, Alive s → sparUp s = true → s.pairState = 2 → bit s.pair.health 8 = true → Gives .relinquish s (takeover s)) ∧
  (∀ s, Alive s → s.pairState ≠ 4 ∨ s.pair.preempted = false → Gives .preemptComplete s s) ∧
  (∀ s, Alive s → s.pairState = 4 → s.pair.preempted = true → s.jrn.opens = [] → s.bsk.fetching = [] → s.pair.cause = 1 → s.pair.mbxWait = none →
    ∀ u, u = State.wr (setPair 3 { s with
      pair.preempting := [], pair.lastRx := s.tet.epoch, pair.takeFrom := some s.pair.dEpoch,
      pair.deltaFirst := s.jrn.nextSeq, pair.unconf := [], pair.released := false, pair.handing := false }) R.SPR_STATUS_READY 0 →
    u.jrn.opens = [] → u.bsk.fetching = [] → u.pair.cause = 1 → u.pair.mbxWait = none →
    Gives .preemptComplete s (u.event 0x4400 0 (leBytes 8 u.pair.claim ++ [min 255 (u.tet.epoch - u.pair.dEpoch)]))) ∧
  (∀ s, Alive s → s.pairState = 4 → s.pair.preempted = false → s.pair.dEpoch + 16 ≤ s.tet.epoch →
    Gives .preemptDeadline s (pairReply eState (separate 5 { s with pair.preempting := [] }))) ∧
  (∀ s, Alive s → s.pairState = 3 → s.pair.lastRx + s.rd R.SPR_TIMING_SOLO_WAIT ≤ s.tet.epoch → s.pair.actUntil ≤ s.tet.epoch → sparUp s = false →
    Gives .soloWaitExpire s (splitNow 2 s)) ∧
  (∀ s, Alive s → s.pairState = 3 → s.tet.epoch < s.pair.lastRx + s.rd R.SPR_TIMING_SOLO_WAIT → Gives .soloWaitExpire s s) ∧
  (∀ s, Alive s → sparUp s = true → s.pairState = 3 → Gives .handbackReq s (startHanding s)) ∧
  (∀ s, Alive s → s.pairState = 5 → s.pair.handing = false → s.ce.ctxs = [] →
    Gives .handingDrainDone s { s with pair.handing := true, pair.releaseEpoch := s.tet.epoch + 1 }) ∧
  (∀ s c, Alive s → sparUp s = true → s.pairState = 2 → Gives (.release c) s (startTaking 2 s)) ∧
  (∀ s, Alive s → s.pairState = 5 → s.pair.released = true → s.pair.releaseEpoch + 16 ≤ s.tet.epoch → s.pair.peerClaim < s.pair.claim →
    Gives .releaseTimeout s (takeover (memberStop s))) ∧
  (∀ s e, Alive s → s.pair.readySince = some e → s.pairState = 2 → s.rd R.SPR_CFG_HOME = 1 → s.rd R.SPR_CFG_AUTO_BACK = 1 →
    s.rd R.SPR_STATUS_FLAPPING = 0 → e + s.rd R.SPR_CFG_HOLDOFF_S * 15625 ≤ s.tet.epoch → Gives .holdoffExpire s (control opHandback [] s)) ∧
  (∀ s, Alive s → s.rd R.SPR_STATUS_FLAPPING = 1 → Gives .rearm s (s.wr R.SPR_STATUS_FLAPPING 0)) ∧
  (∀ s, Alive s → s.rd R.SPR_STATUS_FLAPPING = 0 → Gives .rearm s (s.wr R.SPR_STATUS_LAST_ERR eState)) ∧
  (∀ s, Alive s → sparUp s = true → s.pairState = 3 →
    Gives .actBegin s { s.wr R.HPT_CE_ACT_PAIR_WAIT 1 with pair.actUntil := s.tet.epoch + 5000 } ∧
    (s.ce.commit = none → Gives .actDone s (State.wr { s with pair.actUntil := 0, pair.lastRx := s.tet.epoch } R.HPT_CE_ACT_PAIR_WAIT 0))) ∧
  (∀ s w, Alive s → sparUp s = true → s.pairState = 3 → s.rd R.SPR_STATUS_READY = 0 → w < 2 ^ 64 → Gives (.health w) s
    (State.wr (State.wr (State.wr { s with pair.lastRx := s.tet.epoch, pair.health := w } R.SPR_HEALTH_LO_HEALTH_LO w) R.SPR_HEALTH_HI_HEALTH_HI (w / 2 ^ 32))
      R.SPR_STATUS_READY (b2n (bit w 8)))) ∧
  (∀ s, Alive s → s.pairState = 6 → sparUp s = true → s.rd R.GON_STATUS_MRAM_OK = 1 → s.rd R.SPR_CFG_EN = 1 → s.rd R.SPR_CFG_HOME = 0 →
    Gives .standbyRejoin s (becomeStandby 0 s)) ∧
  (∀ s, Alive s → s.pairState ≠ 6 → Gives .standbyRejoin s s) ∧
  (∀ s cause, (startTaking cause s).pair.preempted = false ∧ (startTaking cause s).pair.dEpoch = s.tet.epoch)

/-- Claims and conflicts (R294, R298, R306, R315): a peer's claim is kept and recorded by a unit that serves; a unit that answers HELLO; a member command that meets
another unit's reservation makes the unit lose its claim.
Model's choices: log entry 56. -/
def Obligations.ClaimsAreKept : Prop :=
  (∀ s role cause c prev peer, Alive s → sparUp s = true → (mirroring s = true ∨ s.pairState = 0) → role ≠ 0 ∨ cause ≠ 3 →
    ∀ u, u = claimRegs { s with pair.peerClaim := max s.pair.peerClaim c } → (mirroring u = true ∨ u.pairState = 0) →
    Gives (.sparClaim role cause c prev peer) s (record (.clm role cause c prev peer) u)) ∧
  (∀ s role cause c prev peer, Alive s → sparUp s = true → mirroring s = false → s.pairState ≠ 0 → role ≠ 0 ∨ cause ≠ 3 →
    Gives (.sparClaim role cause c prev peer) s (claimRegs { s with pair.peerClaim := max s.pair.peerClaim c })) ∧
  (∀ s c prev peer u, Alive s → sparUp s = true → u = claimRegs { s with pair.peerClaim := max s.pair.peerClaim c } →
    (standingBy s = true → Gives (.sparClaim 0 3 c prev peer) s (goSolo 0 (setSynced false u))) ∧
    (s.pairState = 3 → Gives (.sparClaim 0 3 c prev peer) s (splitNow 0 (record (.clm 0 3 c prev peer) u)))) ∧
  (∀ s h, Alive s → sparUp s = true → s.rd R.SPR_CFG_EN = 1 → ∀ u, u = claimRegs { s with pair.helloRx := some h, pair.peerClaim := max s.pair.peerClaim h.lastClaim } →
    Gives (.hello h) s (if u.ready then control opHello [u.pair.lastClaim, u.jrn.nextSeq - 1] u else u)) ∧
  (∀ s h, Alive s → s.rd R.SPR_CFG_EN = 0 → Gives (.hello h) s s) ∧
  (∀ s a m holder, Alive s → arrOn s a = false ∨ memN s a ≤ m → Gives (.reservationConflict a m holder) s s) ∧
  (∀ s a m holder, Alive s → arrOn s a = true → m < memN s a → s.rd R.SPR_CFG_HOME = 0 → ∃ u, Gives (.reservationConflict a m holder) s (claimLost u) ∧
    u.pair.fenceMember = m ∧ (claimUnit holder ≠ s.unit → u.pair.peerClaim = max s.pair.peerClaim holder) ∧
    (∀ x, driveAt s (memDrv s a m) = some x → ∃ y, driveAt u (memDrv s a m) = some y ∧ y.holder = holder ∧ holder ∈ y.keys)) ∧
  (∀ s a m holder, Alive s → arrOn s a = true → m < memN s a → s.rd R.SPR_CFG_HOME = 0 → s.rd R.SPR_STATUS_CLAIM_LOST = 0 → s.pairState = 3 →
    Runs (.reservationConflict a m holder) s fun t => t.rd R.SPR_STATUS_CLAIM_LOST = 1 ∧ t.rd R.SPR_INT_STATUS_FENCED = 1 ∧
      t.pair.fenceMember = m ∧ (s.pair.preempting = [] → t.pairState = 6) ∧ (s.pair.preempting ≠ [] → t.pairState = 7)) ∧
  (∀ s role cause, (takeClaim role cause s).pair.claim = nextClaim s ∧ (takeClaim role cause s).pair.lastClaim = nextClaim s) ∧
  (∀ s, s.unit < 65536 → s.tet.epoch < 2 ^ 48 → s.pair.claim < (2 ^ 48 - 1) * 65536 → s.pair.lastClaim < (2 ^ 48 - 1) * 65536 →
    (∀ k ∈ s.pair.peerClaim :: foreignKeys s, k < (2 ^ 48 - 1) * 65536) → 0 < max s.pair.claim s.pair.lastClaim →
    claimUnit (nextClaim s) = s.unit ∧ s.pair.claim < nextClaim s ∧ s.pair.lastClaim < nextClaim s ∧
    ∀ k ∈ s.pair.peerClaim :: foreignKeys s, k < nextClaim s)

/-- DAWN_S00 to DAWN_S08 (Table 13.1, R318 to R323): a step acts only while it runs, ends with its outcome and the next one starts;
a failure of DAWN_S01 or DAWN_S02 enters the safe state, one of DAWN_S03 or DAWN_S04 starts DAWN_S03 on the other slot once.
Model's choices: log entries 22, 24 and 25. -/
def Obligations.DawnStartsStepByStep : Prop :=
  (∀ s, Alive s → stepOn s 0 = true → Gives (.powerGood true) s (stepEnd 0 oPass 0 (stepBegin 0 (startBegin s))) ∧ Gives (.powerGood false) s s) ∧
  (∀ s, Alive s → stepOn s 1 = true → s.nv.otpFail = false → Gives (.otpRead true) s (stepPass 1 s)) ∧
  (∀ s, Alive s → stepOn s 1 = true → Gives (.otpRead false) s (stepSafe 1 eInternal s)) ∧
  (∀ s, Alive s → stepOn s 2 = true → Gives (.romSelftest true) s (stepPass 2 s) ∧ Gives (.romSelftest false) s (stepSafe 2 eInternal s)) ∧
  (∀ s i, Alive s → stepOn s 3 = true → s.dwn.tried = true → slotImg s s.dwn.slot = some i → headerCheck i = none →
    Gives (.headerRead true) s (stepEnd 3 oAlt 0 s)) ∧
  (∀ s i, Alive s → stepOn s 3 = true → s.dwn.tried = false → altOn s 3 = false → altOn s 4 = false → altOn s 5 = false →
    slotImg s s.nv.preferred = some i → headerCheck i = none → altOn { s with dwn.slot := s.nv.preferred } 3 = false →
    Gives (.headerRead true) s (stepEnd 3 oPass 0 { s with dwn.slot := s.nv.preferred })) ∧
  (∀ s i, Alive s → stepOn s 4 = true → slotImg s s.dwn.slot = some i → signCheck s i = none → Gives (.signature true) s (stepPass 4 s)) ∧
  (∀ s i c, Alive s → stepOn s 4 = true → slotImg s s.dwn.slot = some i → signCheck s i = some c →
    Gives (.signature true) s (slotFails 4 eAuth (imageFail c s))) ∧
  (∀ s i, Alive s → stepOn s 5 = true → slotImg s s.dwn.slot = some i → loadCheck s i = none → Gives (.fwLoad true) s (stepPass 5 (runImage i s))) ∧
  (∀ s i, Alive s → stepOn s 5 = true → slotImg s s.dwn.slot = some i → loadCheck s i = none →
    Gives (.fwLoad false) s (stepReset 5 (s.dwn.slot * 256 + eAuth) (imageFail 7 s))) ∧
  (∀ s u, Alive s → stepOn s 6 = true → s.dwn.redo ≠ [] → s.bsk.selfRefresh = true →
    u = s.each (List.range 16) (fun x c => x.wr (R.BSK_CHc_TRAIN_OK c) (b2n (decide (c < if (popComing s).on R.BSK_POP_CHANNELS then 16 else 8)))) →
    altOn u 6 = false → u.bsk.selfRefresh = true →
    Gives (.basketTrain 0 true) s (stepPass 6 { (u.wr R.BSK_STATUS_HALF 0).wr R.BSK_STATUS_RETAINED 1 with bsk.selfRefresh := false })) ∧
  (∀ s banks, Alive s → stepOn s 7 = true → Gives (.mramCheck false banks) s (stepEnd 7 oFail eInternal (epochStart (mramLost s)))) ∧
  (∀ s, Alive s → stepOn s 8 = true → altOn s 8 = false → Gives (.replayScan false) s (stepReset 8 eInternal s)) ∧
  (∀ s ok, Alive s → stepOn s 8 = true → s.rd R.GON_STATUS_MRAM_OK = 1 → altOn s 8 = true →
    Gives (.replayScan ok) s (stepPass 8 { s with dwn.jrnBad := true, jrn.nextSeq := max s.jrn.nextSeq (seqAfter (ringScan s.nv.ring)) })) ∧
  (∀ s, Alive s → stepOn s 8 = true → s.rd R.GON_STATUS_MRAM_OK = 0 → Gives (.replayScan true) s (stepPass 8 s)) ∧
  (∀ s, Alive s → stepOn s 8 = true → s.rd R.GON_STATUS_MRAM_OK = 1 → altOn s 8 = false → ringUnreadable (ringScan s.nv.ring) = false →
    Gives (.replayScan true) s (stepPass 8 (scanInto (ringScan s.nv.ring) (rootNow s).reclaim s))) ∧
  (∀ s k, stepOn s k = false → deviceOff s = false →
    (k = 1 → Gives (.otpRead true) s s) ∧ (k = 2 → Gives (.romSelftest true) s s) ∧ (k = 3 → Gives (.headerRead true) s s) ∧
    (k = 4 → Gives (.signature true) s s) ∧ (k = 5 → Gives (.fwLoad true) s s) ∧ (k = 7 → Gives (.mramCheck true 0) s s) ∧
    (k = 8 → Gives (.replayScan true) s s)) ∧
  (∀ s k d code, s.dwn.redo = [] → s.dwn.step = k → k < 17 → (stepEnd k code d s).dwn.step = k + 1) ∧
  (∀ s k d, (stepSafe k d s).rd R.DWN_STATUS_SAFE = 1 ∧ (stepSafe k d s).rd R.GLB_STATUS_SAFE = 1)

/-- DAWN_S09 to DAWN_S17 (Table 13.1, R280, R315, R328, R419): the first configuration source that passes is applied, ports and SerDes are
trained in parts, the pair's role is chosen, the String and the time are waited for, arrays assembled, the journal replayed, service opened.
Model's choices: log entries 22, 23, 24, 25, 26 and 27. -/
def Obligations.DawnGoesOnToService : Prop :=
  (∀ s ok, Alive s → stepOn s 9 = true → cfgPick s (cfgSources s ok) = none → Gives (.configApply ok) s (stepSafe 9 eField s)) ∧
  (∀ s ok src img t, Alive s → stepOn s 9 = true → cfgPick s (cfgSources s ok) = some (src, img, t) → ∀ v,
    v = olderCheck (applySources s (needSet (pfcRegs (aclSet (layoutDawn ((shadowCopy (setGen img.gen t)).wr R.DWN_STATUS_CFG_SRC src)))))) →
    Gives (.configApply ok) s
      (stepPass 9 (if v.dwn.redo.isEmpty then v.event 0x0100 0 (leBytes 4 v.nv.startNo ++ [v.dwn.slot, src]) else v))) ∧
  (∀ s l src img t, cfgPick s l = some (src, img, t) → (src, img) ∈ l ∧ cfgTry s img = some t) ∧
  (∀ s, Alive s → stepOn s 10 = true → skipUnits s 10 = [] → Gives (.serdesCal 0) s (stepGo (stepLog 10 oPass 0 { s with dwn.dead := 0 }))) ∧
  (∀ s v0 v1, Alive s → stepOn s 11 = true → (List.range 2).filter (vaultHere s) = [] → ∀ u, u = State.useFree (State.wr
    { s with ext.coming := s.ext.coming.map fun (c : Coming) => if c.phase = 0 then { c with phase := 1 } else c } R.DWN_TIME_S11_MS (s.freeNat 16)) →
    s.dwn.redo ≠ [] → u.dwn.redo = s.dwn.redo → Gives (.portTrain v0 v1) s (stepGo (stepLog 11 oPass 0 u))) ∧
  (∀ s, Alive s → stepOn s 12 = true → bskUp s = true → s.dwn.redo ≠ [] → s.rd R.SPR_CFG_EN = 0 → Gives .pairNegotiate s (stepPass 12 s)) ∧
  (∀ s, Alive s → stepOn s 12 = true → bskUp s = false → Gives .pairNegotiate s s) ∧
  (∀ s, Alive s → stepOn s 12 = true → bskUp s = true → s.rd R.SPR_CFG_EN = 1 → s.pair.helloRx = none → s.pair.peerGone = false →
    Gives .peerWaitExpire s (chooseAbsent (epochRaise (claimsLoad { s with pair.peerGone := true })))) ∧
  (∀ s b, Alive s → stepOn s 13 = true → s.rd R.STG_CFG_EN = 0 ∨ strState s = sJoined → Gives (.stringJoin b) s (stepPass 13 s)) ∧
  (∀ s b, Alive s → stepOn s 13 = true → s.rd R.STG_CFG_EN = 1 → strState s = sRefused → Gives (.stringJoin b) s (stepEnd 13 oFail eState s)) ∧
  (∀ s b, Alive s → stepOn s 14 = true → s.rd R.TET_STATUS_STATE = tLocked → Gives (.timeLock b) s (stepPass 14 s)) ∧
  (∀ s, Alive s → stepOn s 14 = true → altOn s 14 = false → s.rd R.TET_CTRL_SOURCE ≠ 3 → s.rd R.TET_STATUS_STATE ≠ tLocked →
    Gives (.timeLock true) s (stepEnd 14 oFail eTime s)) ∧
  (∀ s, Alive s → stepOn s 15 = true → s.pwr.reassemble = false → s.dwn.needsRestore = false → s.dwn.redo = [] → ∀ u,
    u = assembleAll (altOn { s with dwn.evidence := List.replicate 16 0, dwn.tails := List.replicate 16 none } 15)
      { s with dwn.evidence := List.replicate 16 0, dwn.tails := List.replicate 16 none } →
    Gives .arrayAssembly s (stepPass 15 (restoreLate u))) ∧
  (∀ s, Alive s → stepOn s 16 = true → s.dwn.needsRestore = false →
    Gives .replayRepair s (stepPass 16 (if journals (persistLoad s) then replayAll (persistLoad s) else persistLoad s))) ∧
  (∀ s, Alive s → stepOn s 16 = true → s.dwn.needsRestore = true → Gives .replayRepair s s) ∧
  (∀ s, Alive s → stepOn s 17 = true → fails s 17 ≤ 3 → s.dwn.redo = [] → Gives .serviceOpen s (stepPass 17 (openService s))) ∧
  (∀ s, Alive s → stepOn s 17 = true → 3 < fails s 17 → Gives .serviceOpen s (enterSafe 17 eInternal s)) ∧
  (∀ s a id ds, (evidFor s a id ds).level ≤ 3)

/-- SPDM (R338, R339): every request that comes over MCTP to a device past DAWN_S05 is answered and counted, each error is counted; the certificate
chain is read in portions, measurements are taken of the state as it is.
Model's choices: log entry 62. -/
def Obligations.SpdmRequestsAreAnswered : Prop :=
  (∀ s r e l code body, r.src = .mctp e l → 6 ≤ s.dwn.step → r.verOk = true → ∀ t, t = spdmAnswer r (code, body) s →
    OutEv.spdm r.src code body ∈ t.out ∧ t.rd R.SEC_SPDM_REQUESTS = (s.incSat R.SEC_SPDM_REQUESTS).rd R.SEC_SPDM_REQUESTS ∧
    (code ≠ 0x7F → t = (s.incSat R.SEC_SPDM_REQUESTS).emit (.spdm r.src code body)) ∧
    (code = 0x7F → t = ((s.incSat R.SEC_SPDM_REQUESTS).emit (.spdm r.src code body)).incSat R.SEC_SPDM_ERRORS)) ∧
  (∀ s r e l, Alive s → r.src = .mctp e l → 6 ≤ s.dwn.step → r.verOk = true →
    Gives (.getVersion r) s (spdmAnswer r (0x04, [0x1200]) s) ∧
    Gives (.getCapabilities r) s (spdmAnswer r (0x61, [15, 0x16]) s) ∧
    Gives (.negotiateAlgorithms r) s (spdmAnswer r (0x63, [1, 4, 0x80, 2]) s) ∧
    Gives (.getDigests r) s (spdmAnswer r (0x01, [1, digest s.nv.certChain]) s) ∧
    (∀ off len, off ≤ s.nv.certChain.length → ∀ p, p = (s.nv.certChain.drop off).take len →
      Gives (.getCertificate r 0 off len) s (spdmAnswer r (0x02, [p.length, s.nv.certChain.length - off - p.length] ++ p) s)) ∧
    (∀ slot off len, slot ≠ 0 → Gives (.getCertificate r slot off len) s (spdmAnswer r (0x7F, [0x01, 0]) s)) ∧
    Runs (.challenge r 0) s (fun t => ∃ nonce sig, OutEv.spdm r.src 0x03
      [1, digest s.nv.certChain, nonce, digest ((rangeFrom 1 7).flatMap (measBlock s)), sig] ∈ t.out) ∧
    (∀ k, 1 ≤ k → k ≤ 7 → Runs (.getMeasurements r k false) s (fun t => ∃ nonce, OutEv.spdm r.src 0x60 (1 :: measBlock s k ++ [nonce]) ∈ t.out)) ∧
    Gives (.respondIfReady r) s (spdmAnswer r (0x7F, [0x04, 0]) s) ∧
    (∀ code, Gives (.spdmUnsupportedRequest r code) s (spdmAnswer r (0x7F, [0x07, code]) s))) ∧
  (∀ s r res b, r.src = .bank b → spdmAnswer r res s = s) ∧ (∀ s r res, s.dwn.step < 6 → spdmAnswer r res s = s)

/-- Power and resets (R358, R371, R372, R399): power-on resets all but what survives without power; RST_N, watchdog, thermal trip
and RESTART reset all but AON, after a dump that runs; a held reset or trip is released by its own row. Beyond the absolute maximum
ratings no behaviour is given: the command faults.
Model's choices: log entries 14, 15 and 16. -/
def Obligations.ResetsReachAllButAon : Prop :=
  (∀ s, s.pwr.powered = true → Gives .powerLoss s (unpowered s)) ∧
  (∀ s straps, s.pwr.powered = false → Gives (.powerOn false straps) s
    ((envWalk { s with pwr.powered := true, ext.straps := straps, nv.marker := s.nv.marker + 1 }).wr R.GLB_SMBUS_ADDR (0x58 + straps % 8))) ∧
  (∀ s straps, exec (.powerOn true straps) s = .fault .outsideRatings) ∧
  (∀ s, (unpowered s).pwr.powered = false ∧ (unpowered s).regs = State.reset.regs ∧ (unpowered s).dwn = State.reset.dwn ∧
    (unpowered s).bsk = State.reset.bsk ∧ (unpowered s).arrs = State.reset.arrs) ∧
  (∀ s, s.pwr.powered = true → s.pwr.rstHeld = false → s.pwr.inNight = false → s.rd R.BAL_STATUS_STATE ≠ 2 →
    Gives (.rstN true) s { resetDevice R.PWR_RESET_CAUSE_RST_N s with pwr.rstHeld := true }) ∧
  (∀ s, s.pwr.powered = true → s.pwr.rstHeld = false → s.pwr.inNight = false → s.rd R.BAL_STATUS_STATE = 2 →
    Gives (.rstN true) s { s with pwr.pendingRst := s.pwr.pendingRst ||| 5 }) ∧
  (∀ s, Gives (.rstN false) s { s with pwr.rstHeld := false, pwr.pendingRst := s.pwr.pendingRst - (s.pwr.pendingRst &&& 4) }) ∧
  (∀ s, Alive s → s.rd R.BAL_STATUS_STATE ≠ 2 → Gives .watchdog s (resetDevice R.PWR_RESET_CAUSE_WATCHDOG s)) ∧
  (∀ s, Alive s → s.safe = true → Gives .restart s (resetDevice R.PWR_RESET_CAUSE_RESTART s)) ∧
  (∀ s, Alive s → s.safe = false → Gives .restart s (s.wr R.DWN_STATUS_LAST_ERR eState)) ∧
  (∀ s, Alive s → Gives .clearFails s { s with nv.clearFails := true }) ∧
  (∀ s tj, 110 ≤ tj → s.pwr.powered = true → s.pwr.tripHeld = false → s.rd R.BAL_STATUS_STATE ≠ 2 →
    Gives (.thermTrip tj) s { resetDevice R.PWR_RESET_CAUSE_THERM_TRIP (((thermRegs tj s).incSat R.PWR_THERM_TRIPS).emit (.pin pinTherm false)) with
      pwr.tripHeld := true }) ∧
  (∀ s, s.pwr.tripHeld = true → Gives .thermTripRelease s (State.emit { s with pwr.tripHeld := false } (.pin pinTherm true))) ∧
  (∀ s tj, Alive s → 100 ≤ tj → Gives (.thermWarn tj) s ((thermRegs tj s).raise R.PWR_INT_STATUS_THERM_WARN)) ∧
  (∀ s cause, (resetDevice cause s).arrs = State.reset.arrs ∧ (resetDevice cause s).ce = State.reset.ce ∧
    (resetDevice cause s).dwn = State.reset.dwn ∧ (resetDevice cause s).mbx = State.reset.mbx) ∧
  (∀ s f, f ∈ [R.PWR_RESET_CAUSE_RST_N, R.PWR_RESET_CAUSE_WATCHDOG, R.PWR_RESET_CAUSE_THERM_TRIP, R.PWR_RESET_CAUSE_RESTART] →
    (resetDevice f s).rd f = 1)

/-- DUSK and NIGHT (R359 to R366): entry and exit of DUSK, the requests of NIGHT, its steps, commit, wake and exit.
Model's choices: log entries 18, 19, 20 and 21. -/
def Obligations.NightIsEnteredAndLeft : Prop :=
  (∀ s, Alive s → s.ready = true → s.rd R.PWR_STATUS_STATE = 0 → s.on R.PWR_CFG_DUSK_EN = true → s.rd R.PWR_CFG_DUSK_IDLE ≤ s.pwr.idleEpochs →
    Gives .duskEnter s ((s.wr R.PWR_STATUS_STATE 1).raise R.PWR_INT_STATUS_DUSK_ENTER)) ∧
  (∀ s, Alive s → s.rd R.PWR_STATUS_STATE = 1 →
    Gives .duskExit s ((State.wr { s with pwr.idleEpochs := 0 } R.PWR_STATUS_STATE 0).raise R.PWR_INT_STATUS_DUSK_EXIT)) ∧
  (∀ s, Alive s → nightCheck s = none → Gives .pwrCtrlNight s (nightAccept noHdr s)) ∧
  (∀ s c, Alive s → nightCheck s = some c → Gives .pwrCtrlNight s (s.wr R.PWR_STATUS_LAST_ERR c)) ∧
  (∀ s h, (nightAccept h s).rd R.PWR_STATUS_STATE = 2 ∧ (nightAccept h s).rd R.PWR_STATUS_PREP_STEP = 1 ∧ (nightAccept h s).pwr.latch = 0 ∧
    (nightAccept h s).pwr.nightReq = some h) ∧
  (∀ s h k, Alive s → s.pwr.nightReq = some h → s.rd R.PWR_STATUS_STATE = 2 → s.pwr.prepDone = false → s.rd R.PWR_STATUS_PREP_STEP = k →
    nightBad s = none →
    ((stopStep k s).1 = true → k ≠ 6 → Gives .nightPreparationStep s ((stopStep k s).2.wr R.PWR_STATUS_PREP_STEP (k + 1))) ∧
    (k = 6 → Gives .nightPreparationStep s { (stopStep 6 s).2 with pwr.prepDone := true }) ∧
    ((stopStep k s).1 = false → Gives .nightPreparationStep s (stopStep k s).2)) ∧
  (∀ s h c, Alive s → s.pwr.nightReq = some h → s.rd R.PWR_STATUS_STATE = 2 → s.pwr.prepDone = false → nightBad s = some c →
    Runs .nightPreparationStep s fun t => t.pwr.nightReq = none ∧ t.rd R.PWR_STATUS_STATE = 0 ∧ t.rd R.PWR_INT_STATUS_NIGHT_ABORT = 1) ∧
  (∀ s h, Alive s → s.pwr.nightReq = none → s.pwr.shutdownReq = some h → s.pwr.shutStep = 5 → Gives .nightPreparationStep s (shutdownEnd h (stopStep 5 s).2)) ∧
  (∀ s h cause, Alive s → s.pwr.nightReq = some h → s.pwr.prepDone = false → cause ≠ 0 →
    Gives (.nightAbort cause) s (mbxErr h opNight eState (State.raise (State.wr (State.wr (State.wr
      { s with pwr.nightReq := none, pwr.latch := 0, pwr.prepDone := false } R.PWR_STATUS_STATE 0) R.PWR_STATUS_PREP_STEP 0) R.PWR_STATUS_LAST_ERR eState)
      R.PWR_INT_STATUS_NIGHT_ABORT))) ∧
  (∀ s, Alive s → s.pwr.prepDone = true → s.wsk.queue = [] → s.wsk.staged = none →
    ∃ t, exec .nightCommit s = .next t ∧ t.pwr.inNight = true ∧ t.pwr.nightReq = none ∧ t.pwr.prepDone = false ∧ t.bsk.selfRefresh = true ∧
      t.rd R.PWR_STATUS_STATE = 3 ∧ t.rd R.PWR_STATUS_PREP_STEP = 0) ∧
  (∀ s us, s.rd R.PWR_STATUS_STATE = 3 → s.pwr.inNight = true → s.pwr.latch = 0 →
    Gives (.nightEntryComplete us) s ((s.wr R.PWR_TIMES_ENTRY_US (min us 65535)).wr R.PWR_STATUS_STATE 4)) ∧
  (∀ s us, s.rd R.PWR_STATUS_STATE = 3 → s.pwr.inNight = true → s.pwr.latch ≠ 0 →
    Gives (.nightEntryComplete us) s (wakeStart ((s.wr R.PWR_TIMES_ENTRY_US (min us 65535)).wr R.PWR_STATUS_STATE 4))) ∧
  (∀ s src, s.pwr.powered = true → src < 4 → bit (wakeEn s) src = true → s.pwr.nightReq.isSome = true →
    Gives (.wakeEvent src) s { s with pwr.latch := s.pwr.latch ||| 2 ^ src }) ∧
  (∀ s src, s.pwr.powered = true → src < 4 → bit (wakeEn s) src = true → s.pwr.nightReq = none → s.pwr.inNight = true →
    s.rd R.PWR_STATUS_STATE = 4 → Gives (.wakeEvent src) s (wakeStart { s with pwr.latch := 2 ^ src })) ∧
  (∀ s us m, s.rd R.PWR_STATUS_STATE = 5 → s.pwr.inNight = true → m < 2 ^ 24 → ∀ u, u = s.wr R.PWR_TIMES_EXIT_US (min us 65535) →
    (bit m 13 = true → Gives (.nightExitComplete us m) s (retRestart 1 m u)) ∧
    (bit m 13 = false → bit m 0 = true ∨ bit m 1 = true → Gives (.nightExitComplete us m) s (retRestart 5 m u)) ∧
    (bit m 13 = false → bit m 0 = false → bit m 1 = false → Gives (.nightExitComplete us m) s (noon (u.rd R.PWR_WAKE_SRC_SRC) m u))) ∧
  (∀ s, (wakeStart s).rd R.PWR_STATUS_STATE = 5 ∧ (wakeStart s).pwr.latch = 0 ∧ (wakeStart s).rd R.PWR_RET_STATUS_VALID = 1)

/-- The recorder (R345, R349 to R351): gauges go to the store every 16 epochs, an event is taken from the queue in its order, a repeated event counts up
REPEAT of the record it matches, a producer that waited gets the next free place, a record that commits gets NEXT_SEQ.
Model's choices: log entry 65. -/
def Obligations.WindsockRecordsInOrder : Prop :=
  (∀ s, Alive s → s.tet.epoch % 16 = 0 → s.wsk.clearing = none → Gives .gaugeStoreWrite s (gaugeStore s)) ∧
  (∀ s, Alive s → s.tet.epoch % 16 ≠ 0 → Gives .gaugeStoreWrite s s) ∧
  (∀ s e q, Alive s → s.wsk.queue = e :: q → wskCanTake s e = true → Gives .wskEvent s (wskTake e { s with wsk.queue := q })) ∧
  (∀ s e q, Alive s → s.wsk.queue = e :: q → wskCanTake s e = false → Gives .wskEvent s s) ∧
  (∀ s e q, Alive s → s.wsk.blocked = e :: q → s.wsk.queue.length < wskQueueMax →
    Gives .wskQueueRoom s (State.wr { s with wsk.queue := s.wsk.queue ++ [e], wsk.blocked := q } R.WSK_QUEUE_PEAK
      (max (s.rd R.WSK_QUEUE_PEAK) (s.wsk.queue.length + 1)))) ∧
  (∀ s e r, s.wsk.staged = some r → recMatches e r = true → r.count < 65535 → ∃ t, wskTake e s = t ∧
    t.wsk.staged = some { r with count := r.count + 1 } ∧ wskNext t = wskNext s) ∧
  (∀ s e r, s.wsk.staged = none → s.wsk.last = some r → recMatches e r = false → wskTake e s = recOpen e.code e.source 0 e.epoch e.payload s) ∧
  (∀ s r, (recCommit r s).wsk.staged = none ∧ (recCommit r s).wsk.last = some r ∧ (recCommit r s).rd R.WSK_LAST_SEQ_SEQ = wskNext s % 2 ^ 32 ∧
    (recCommit r s).rd R.WSK_INT_STATUS_RECORD = 1) ∧
  (∀ (s : State) code src p, s.pwr.dumping = false → s.wsk.queue.length < wskQueueMax →
    (s.event code src p).wsk.queue = s.wsk.queue ++ [⟨code, src, p, s.tet.epoch⟩]) ∧
  (∀ (s : State) code src p, s.pwr.dumping = false → wskQueueMax ≤ s.wsk.queue.length →
    (s.event code src p).wsk.blocked = s.wsk.blocked ++ [⟨code, src, p, s.tet.epoch⟩] ∧ (s.event code src p).rd R.WSK_INT_STATUS_QUEUE_WAIT = 1)

/-- The Gondola (R81, R90, R107, R108): the checkpoints at their epochs, tail copies, region maps, FORCE_TAIL, MRAM errors.
Model's choices: log entries 6 and 65. -/
def Obligations.GondolaKeepsItsCheckpoints : Prop :=
  (∀ s, Alive s → s.tet.epoch % 1024 = 0 → Gives .tailCopyCheckpoint s (tailCheckpoint s)) ∧
  (∀ s, Alive s → s.tet.epoch % 1024 ≠ 0 → Gives .tailCopyCheckpoint s s) ∧
  (∀ s a n t ms sched, Alive s → (s.arr a).tailJob = some (t, ms, sched) → journals s = true →
    Gives (.tailCopyDone a n) s (tailEnd a t (ms.take n) sched s)) ∧
  (∀ s, Alive s → s.tet.epoch % 16 = 0 → s.ready = true → journals s = true →
    SMap.get none (s.jrn.sealSeq % ringSlots) s.nv.ring = none → Gives .sealCheckpoint s (sealNow s)) ∧
  (∀ s q r, Alive s → s.jrn.sealSeq = q → SMap.get none (q % ringSlots) s.nv.ring = some r → r.seq = q → r.epoch / 16 < s.tet.epoch / 16 →
    s.ready = true → journals s = true → Gives .sealCheckpoint s (sealNow s)) ∧
  (∀ s, Alive s → sealDue s = false → Gives .sealCheckpoint s s) ∧
  (∀ s, Alive s → s.arrs.any (fun r => r.tailJob.isSome) = true → Gives .forceTail s (s.wr R.GON_STATUS_LAST_ERR eBusy)) ∧
  (∀ s, Alive s → s.arrs.any (fun r => r.tailJob.isSome) = false → Gives .forceTail s
    (s.each ((List.range 16).filter (arrOn s)) fun s a => s.modArr a fun r => { r with tailForced := true })) ∧
  (∀ s n, Alive s → Gives (.mramCe n) s ((s.incSat R.GON_MRAM_ERR_CE n).raise R.GON_INT_STATUS_MRAM_CE)) ∧
  (∀ s w, Alive s → ∀ u, u = (s.incSat R.GON_MRAM_ERR_UE).raise R.GON_INT_STATUS_MRAM_UE →
    (∀ c, w = .root c → c % 2 = 0 → Gives (.mramUe w) s { u with nv.rootA.ok := false }) ∧
    (∀ c, w = .root c → c % 2 = 1 → Gives (.mramUe w) s { u with nv.rootB.ok := false }) ∧
    (∀ x, w = .windsock x → Gives (.mramUe w) s { u with wsk.bad := insNat x u.wsk.bad }) ∧
    (w = .persistent → Gives (.mramUe w) s u) ∧
    (∀ x, w = .user x → Gives (.mramUe w) s u) ∧
    (∀ k, w = .ring k → SMap.get none (k % ringSlots) u.nv.ring = none → Gives (.mramUe w) s u)) ∧
  (∀ s a r, Alive s → s.ce.sops.filter (fun o => o.phase = .region && o.array = a && o.stripe / tailR s a = r) = [] →
    Gives (.regionMapUpdateDone a r) s s) ∧
  (∀ s a r o, Alive s → s.ce.sops.filter (fun o => o.phase = .region && o.array = a && o.stripe / tailR s a = r) = [o] →
    s.ce.sops.find? (fun x => x.id = o.id) = some o → mirroring s = true → o.mirEpoch ≠ 0 →
    Runs (.regionMapUpdateDone a r) s fun t => { o with phase := .mirror } ∈ t.ce.sops ∧
      ∀ b, b < s.arrs.length → (b = a → (t.arr b).regionGen = (s.arr b).regionGen + 1 ∧ (r, s.tet.epoch / 1024) ∈ (t.arr b).regions) ∧
        (b ≠ a → t.arr b = s.arr b)) ∧
  (∀ s a r o m d, Alive s → s.ce.sops.filter (fun o => o.phase = .region && o.array = a && o.stripe / tailR s a = r) = [o] →
    s.ce.sops.find? (fun x => x.id = o.id) = some o → mirroring s = false → m < memN s a → bit o.wmask m = true → d ∈ writeDrvs s a m o.stripe →
    Runs (.regionMapUpdateDone a r) s fun t => (∃ x ∈ t.ce.sops, x.id = o.id ∧ x.phase = .writes) ∧
      (∃ c ∈ t.ce.mcmds, c.sop = o.id ∧ c.drv = d ∧ c.wr = true) ∧
      (a < s.arrs.length → (t.arr a).regionGen = (s.arr a).regionGen + 1 ∧ (r, s.tet.epoch / 1024) ∈ (t.arr a).regions)) ∧
  (∀ s a t ms sched, (tailEnd a t ms sched s).arr a = { (tailEnd a t ms sched s).arr a with tailJob := none }) ∧
  (∀ s, (∀ r ∈ ringRecs s, r.seq < s.jrn.nextSeq ∧ s.jrn.nextSeq < r.seq + 172032) →
    (sealNow s).jrn.sealUpto = s.jrn.nextSeq - 1 ∧ (sealNow s).jrn.sealSeq = s.jrn.nextSeq)

/-- The test port (R416): it holds the instruction it is given, IDCODE shifts out 19600B47h, EXTEST and CLAMP drive the pins, HIGHZ releases
them, TRST_N resets the test logic only; any other instruction is not accepted, or not supported (R9), and changes nothing.
Model's choices: log entries 66 and 67. -/
def Obligations.TestPortTakesItsInstructions : Prop :=
  (∀ s, s.pwr.powered = true →
    Gives (.jtagInstruction .idcode) s (State.emit { s with jtag := { s.jtag with ins := 0, highz := false } } (.tdo 0x19600B47)) ∧
    Gives (.jtagInstruction .bypass) s { s with jtag := { s.jtag with ins := 1, highz := false } } ∧
    Gives (.jtagInstruction .samplePreload) s { s with jtag := { s.jtag with ins := 2, highz := false } } ∧
    Gives (.jtagInstruction .highz) s { s with jtag := { s.jtag with ins := 4, highz := true } } ∧
    Gives (.jtagInstruction .trst) s { s with jtag := State.reset.jtag } ∧
    (∀ outs, Gives (.jtagInstruction (.extest outs)) s
      (State.each { s with jtag := ⟨3, outs, false⟩ } outs fun s p => s.emit (.pin p.1 p.2))) ∧
    Gives (.jtagInstruction .clamp) s
      (State.each { s with jtag := { s.jtag with ins := 5, highz := false } } s.jtag.outs fun s p => s.emit (.pin p.1 p.2)) ∧
    (∀ k, Gives (.jtagInstruction (.debug k)) s s)) ∧
  (∀ s i, s.pwr.powered = false → Gives (.jtagInstruction i) s s)

/-- R386, R389: a command that completes leaves BUSY 0, DONE 1 and its code in LAST_CODE of the bank that sent it, its reply goes
to that bank's buffer and to nobody else's, DONE (and FAILED for a code other than OK) is raised, and its place is free.
Model's choices: log entries 63 and 64. -/
def Obligations.MailboxRepliesToItsSender : Prop :=
  (∀ s h b op code detail p, h.src = .bank b → h.resvBad = false → code < 256 →
    ∀ t, t = mbxReply h op code detail p s →
    t.rd (R.MBX_STATUS_BUSY b) = 0 ∧ t.rd (R.MBX_STATUS_DONE b) = 1 ∧ t.rd (R.MBX_STATUS_LAST_CODE b) = code ∧
    t.rd (R.MBX_INT_STATUS_DONE b) = 1 ∧ (code ≠ eOk → t.rd (R.MBX_INT_STATUS_FAILED b) = 1) ∧
    OutEv.reply (.bank b) op code h.tag detail p ∈ t.out ∧
    (∀ i, i < (replyBytes op code h.tag detail p).length →
      SMap.get 0 (b * mbxBuf + i) t.mbx.rep = (replyBytes op code h.tag detail p).getD i 0) ∧
    (∀ k, (k < b * mbxBuf ∨ b * mbxBuf + (replyBytes op code h.tag detail p).length ≤ k) →
      SMap.get 0 k t.mbx.rep = SMap.get 0 k s.mbx.rep) ∧
    (∀ f : Fld, f.off < 0x10000000 → f.lo < 32 → t.rd f = s.rd f) ∧ SameWork s t ∧ t.bsk = s.bsk ∧ t.nv = s.nv) ∧
  (∀ s h e l op code detail p, h.src = .mctp e l → h.resvBad = false →
    ∀ t, t = mbxReply h op code detail p s →
    OutEv.reply (.mctp e l) op code h.tag detail p ∈ t.out ∧ t.regs = s.regs ∧ t.mbx.rep = s.mbx.rep) ∧
  (∀ s h op code detail p, h.resvBad = true → (mbxReply h op code detail p s).out = s.out ∧ (mbxReply h op code detail p s).regs = s.regs)

/-- R388, R391, R392, R394: the checks of a mailbox command apply in their order, the first that fails ends it with its code, and a command
that passes them all does its own action. A token is used up by its check.
Model's choices: log entries 63 and 64. -/
def Obligations.MailboxChecksInOrder : Prop :=
  ∀ (s : State) (h : MbxHdr) (m : MbxSpec) (act : MbxHdr → State → State) (h0 : MbxHdr), h0 = { h with resvBad := false } →
  ((4080 < h.len ∨ m.lenOk = false) → mbxRunCmd h m act s = mbxErr h0 m.op eRange s) ∧
  (h.len ≤ 4080 → m.lenOk = true → (h.resvBad = true ∨ m.fieldBad = true) → mbxRunCmd h m act s = mbxErr h0 m.op eField s) ∧
  (h.len ≤ 4080 → m.lenOk = true → h.resvBad = false → m.fieldBad = false →
    (m.rangeBad = true → mbxRunCmd h m act s = mbxErr h0 m.op eRange s) ∧
    (m.rangeBad = false →
      (m.time = true → timeShared s = false → mbxRunCmd h m act s = mbxErr h0 m.op eTime s) ∧
      ((m.time = true → timeShared s = true) →
        (∀ t, m.tok = some t → tokenOk s m.op t = false →
          mbxRunCmd h m act s = mbxErr h0 m.op eAuth (State.raise { s with dwn.nonce := none } R.SEC_INT_STATUS_AUTH_FAIL)) ∧
        (∀ u, u = (match m.tok with | none => s | some _ => { s with dwn.nonce := none }) →
          (∀ t, m.tok = some t → tokenOk s m.op t = true) →
          (mbxRestricted s = true → m.safe = false → mbxRunCmd h m act s = mbxErr h0 m.op eState u) ∧
          ((mbxRestricted s = true → m.safe = true) →
            (claimed m.op = true → notActive s = true → mbxRunCmd h m act s = mbxErr h0 m.op eClaim u) ∧
            ((claimed m.op = true → notActive s = false) → mbxRunCmd h m act s = act h0 u))))))

/-- REG_READ, REG_WRITE, STEP_LOG_READ, SHUTDOWN, SUMMARY_READ, DIRECTORY_READ, WSK_READ and NS_LIST answer what they read;
an opcode that Table 16.8 does not hold gets E_UNSUP (R388, R392, R420).
Model's choices: log entries 11 and 60. -/
def Obligations.MailboxReadsAnswer : Prop :=
  (∀ s h off n vs v u, MbxReady h s → h.len = 8 → 1 ≤ n → n ≤ 1020 → off % 4 = 0 → u = mbxTaken h 1 s →
    readWords (actLink h) off n u = (some vs, v) → Gives (.regRead h off n) s (mbxReply h 1 eOk 0 (vs.flatMap (leBytes 4)) v)) ∧
  (∀ s h off v u, MbxReady h s → h.len = 8 → off % 4 = 0 → windowOf off = 0 → inBlock off = true → u = mbxTaken h 2 s →
    Gives (.regWrite h off v) s (mbxReply h 2 (writeReg (actLink h) off v u).1 0 [] (writeReg (actLink h) off v u).2)) ∧
  (∀ s h first n u, MbxReady h s → h.len = 4 → 1 ≤ n → n ≤ 255 → first ≤ 4095 → u = mbxTaken h 3 s →
    Gives (.stepLogRead h first n) s (mbxReply h 3 eOk 0 ((rangeFrom first n).flatMap fun k => stepBytes (SMap.get none (k % 4096) u.nv.stepLog)) u)) ∧
  (∀ s h u, MbxReady h s → h.len = 0 → u = mbxTaken h 4 s → u.ready = true → u.safe = false → u.pwr.shutdownDone = false →
    u.pwr.shutdownReq = none → u.pwr.nightReq = none → Gives (.shutdown h) s { u with pwr.shutdownReq := some h, pwr.shutStep := 1 }) ∧
  (∀ s h u, MbxReady h s → h.len = 0 → u = mbxTaken h 4 s → u.ready = true → u.safe = false → u.pwr.shutdownDone = true →
    Gives (.shutdown h) s (mbxOk h 4 u)) ∧
  (∀ s h, Alive s → s.pwr.nightReq = none → s.pwr.shutdownReq = some h →
    (s.pwr.shutStep < 5 → (stopStep s.pwr.shutStep s).1 = true →
      Gives .nightPreparationStep s { (stopStep s.pwr.shutStep s).2 with pwr.shutStep := s.pwr.shutStep + 1 }) ∧
    (s.pwr.shutStep = 5 → h.resvBad = false → Runs .nightPreparationStep s fun t =>
      t.pwr.shutdownDone = true ∧ t.pwr.shutdownReq = none ∧ Replied h 4 eOk t ∧ ∀ c ∈ t.ce.ctrls, c.fabric = false → c.shst = 2)) ∧
  (∀ s h first n u, MbxReady h s → h.len = 4 → 1 ≤ n → n ≤ 127 → isReel s = true → first + n ≤ strSize s → u = mbxTaken h 0x0304 s →
    ∃ bs, Gives (.summaryRead h first n) s (mbxReply h 0x0304 eOk 0 bs u) ∧ bs = (rangeFrom first n).flatMap fun p : Nat =>
      match (unitAt u p).bind fun x => u.str.summaries.find? fun b => b.unit = x with
      | some b => summaryBytes b
      | none => List.replicate 32 0) ∧
  (∀ s h first n u, MbxReady h s → h.len = 4 → 1 ≤ n → n ≤ 63 → first + n ≤ 1024 → strState s = sJoined → u = mbxTaken h 0x0305 s →
    ∃ bs, Gives (.directoryRead h first n) s (mbxReply h 0x0305 eOk 0 bs u) ∧ bs = (rangeFrom first n).flatMap fun k : Nat =>
      match u.str.dir.find? fun e => e.slot = k with
      | some e => dirBytes e
      | none => List.replicate 64 0) ∧
  (∀ s h off len u, MbxReady h s → h.len = 8 → u = mbxTaken h 0x0501 s → wskIsOpen s = true → len ≤ 4080 → off + len ≤ 2 ^ 20 →
    wskBad u off len = false → Gives (.wskRead h off len) s (mbxReply h 0x0501 eOk 0 (wskBytes u off len) u)) ∧
  (∀ s h first n u, MbxReady h s → h.len = 4 → 1 ≤ n → n ≤ 127 → first + n ≤ nsMax → u = mbxTaken h 0x0203 s →
    ∃ bs, Gives (.nsList h first n) s (mbxReply h 0x0203 eOk 0 bs u) ∧ bs = (rangeFrom first n).flatMap fun i : Nat =>
      match nsAt u i with
      | some x => logPlacement u x
      | none => 0xFF :: List.replicate 31 0) ∧
  (∀ s h opc u, MbxReady h s → opc ∉ mbxCodes → u = mbxTaken h opc s → Gives (.mbxUnsupportedOpcode h opc) s (mbxErr h opc eUnsup u)) ∧
  (∀ s h opc, opc ∈ mbxCodes → Gives (.mbxUnsupportedOpcode h opc) s s)

/-- The commands of the shadow set and of the configuration (R329 to R332): SHADOW_WRITE takes all its items or none, SHADOW_TABLE
replaces a table with its last chunk, SHADOW_RESET copies the active set, SHADOW_READ reads, LAUNCH answers E_STATE, E_BUSY, OK
without a change, the first failure of its validation, or stays pending; PERSIST_EXPORT reads the image of the active set.
Model's choices: log entries 57 and 59. -/
def Obligations.ShadowSetIsWrittenAndLaunched : Prop :=
  (∀ s h items u, MbxReady h s → h.len = 4 + 8 * items.length → notActive s = false → u = mbxTaken h 0x0101 s → shadowShut u = none →
    ((∀ i ∈ items, itemErr i = none) →
      Gives (.shadowWrite h items) s (mbxOk h 0x0101 { u with shadow := items.foldl (fun m i => setItem i m) u.shadow })) ∧
    (∀ k i c, items[k]? = some i → itemErr i = some c → (∀ j, j < k → ∀ x, items[j]? = some x → itemErr x = none) →
      Gives (.shadowWrite h items) s (mbxReply h 0x0101 c k [] u))) ∧
  (∀ s h n total off data u, MbxReady h s → h.len = 12 + data.length → n = 1 ∨ n = 2 → total ≤ tableMax n → off + data.length ≤ total →
    notActive s = false → u = mbxTaken h 0x0102 s → shadowShut u = none → off = 0 →
    (data.length < total → Gives (.shadowTable h n total off data) s (mbxOk h 0x0102 { u with dwn.chunk := some (n, total, data) })) ∧
    (data.length = total → tableErr n data = none →
      Gives (.shadowTable h n total off data) s (mbxOk h 0x0102
        { u with dwn.chunk := none, dwn.shadowTables := (n, data) :: u.dwn.shadowTables.filter fun t => t.1 ≠ n }))) ∧
  (∀ s h off u, MbxReady h s → h.len = 12 → off % 4 = 0 → off < 2 ^ 31 → inBlock off = true → u = mbxTaken h 0x0103 s →
    shadowShut u = none → Gives (.shadowRead h off 0 1) s (mbxReply h 0x0103 eOk 0 (leBytes 4 (shadowVal u (actLink h) off)) u)) ∧
  (∀ s h n len u, MbxReady h s → h.len = 12 → n = 1 ∨ n = 2 → 1 ≤ len → len ≤ 4080 → u = mbxTaken h 0x0103 s → shadowShut u = none →
    len ≤ (tableOf u.dwn.shadowTables n).length →
    Gives (.shadowRead h (2 ^ 31 + n) 0 len) s (mbxReply h 0x0103 eOk 0 ((tableOf u.dwn.shadowTables n).take len) u)) ∧
  (∀ s h u, MbxReady h s → h.len = 0 → notActive s = false → u = mbxTaken h 0x0104 s → shadowShut u = none →
    Gives (.shadowReset h) s (mbxOk h 0x0104 (shadowCopy u))) ∧
  (∀ s h u, MbxReady h s → h.len = 0 → notActive s = false → u = mbxTaken h 0x0105 s → u.ready = true → u.safe = false →
    u.rd R.HPT_CE_ACT_PHASE < 2 →
    (u.dwn.launch.isSome = true → Gives (.launch h) s (mbxErr h 0x0105 eBusy u)) ∧
    (u.dwn.launch = none → u.dwn.flashOp = none →
      (shadowDiff u = false → Gives (.launch h) s (mbxOk h 0x0105 (u.wr R.DWN_LAUNCH_LAST_CODE 0))) ∧
      (∀ f, shadowDiff u = true → launchFail u = some f →
        Gives (.launch h) s (mbxReply h 0x0105 f.1 (launchDetail (launchErr f u)) [] (launchErr f u))) ∧
      (shadowDiff u = true → launchFail u = none →
        Gives (.launch h) s (State.wr { u with dwn.launch := some h } R.DWN_LAUNCH_PENDING 1)))) ∧
  (∀ s h, s.dwn.launch = some h → launchFail s = none → h.resvBad = false → ∀ t, t = applyEffects s (shadowAsSet s) → t.dwn.configGen < 2 ^ 64 →
    Replied h 0x0105 eOk (launchBoundary s) ∧ (launchBoundary s).dwn.launch = none ∧ (launchBoundary s).rd R.DWN_LAUNCH_PENDING = 0 ∧
    (launchBoundary s).rd R.DWN_INT_STATUS_LAUNCH_DONE = 1 ∧ (launchBoundary s).dwn.configGen / 2 ^ 32 = t.dwn.configGen / 2 ^ 32 ∧
    (launchBoundary s).dwn.configGen % 2 ^ 32 = (t.dwn.configGen % 2 ^ 32 + 1) % 2 ^ 32) ∧
  (∀ s h off u e, MbxReady h s → h.len = 4 → u = mbxTaken h 0x0106 s → 10 ≤ s.dwn.step → off ≠ 0 →
    s.dwn.exported = some (s.dwn.configGen, e) → off < e.length →
    Gives (.persistExport h off) s (mbxReply h 0x0106 eOk 0 (leBytes 4 e.length ++ (e.drop off).take 4076) u)) ∧
  (∀ s, shadowShut s = some eState ↔ s.dwn.step < 10) ∧ (∀ s, shadowShut s = some eBusy ↔ 10 ≤ s.dwn.step ∧ s.dwn.launch.isSome = true)

/-- PERSIST, IMAGE_WRITE and PUBLISH take their chunks in order and act with the last one, which the checks of Table 13.9
decide; a flash write completes with FLASH_WRITE_COMPLETE (R288, R290, R327, R332).
Model's choices: log entries 57 and 59. -/
def Obligations.ImagesGoToFlash : Prop :=
  (∀ s h total off len img u, MbxReady h s → h.len = 8 + len → total ≤ 2 * 2 ^ 20 → notActive s = false → u = mbxTaken h 0x0107 s →
    u.dwn.launch = none → flashBusy u = false →
    (off = 0 → len < total → Gives (.persist h total off len img) s (mbxOk h 0x0107 { u with dwn.upload := some (0x0107, total, len) })) ∧
    ((off = 0 ∨ u.dwn.upload = some (0x0107, total, off)) → off + len = total →
      (∀ c, imageCheck u 1 img = some c →
        Gives (.persist h total off len img) s (mbxErr h 0x0107 c.2 (imageFail c.1 { u with dwn.upload := none }))) ∧
      (imageCheck u 1 img = none → sameSet u img = true →
        Gives (.persist h total off len img) s { u with dwn.upload := none, dwn.flashOp := some (0, h, img, oldHalf u) } ∧
        Runs (.persist h total off len img) s fun t => Runs (.flashWriteComplete true) t fun w =>
          slotImg w (oldHalf u) = some img ∧ w.rd R.DWN_INT_STATUS_PERSIST_DONE = 1 ∧ Replied h 0x0107 eOk w))) ∧
  (∀ s h slot pref total len img u, MbxReady h s → h.len = 12 + len → slot < 2 → pref < 2 → total ≤ 28 * 2 ^ 20 → notActive s = false →
    u = mbxTaken h 0x0108 s → flashBusy u = false → len = total → imageCheck u 0 img = none →
    Gives (.imageWrite h slot pref total 0 len img) s { u with dwn.upload := none, dwn.flashOp := some (1 + pref, h, img, slot) } ∧
    Runs (.imageWrite h slot pref total 0 len img) s fun t => Runs (.flashWriteComplete true) t fun w =>
      slotImg w slot = some img ∧ (pref = 1 → w.nv.preferred = slot) ∧ Replied h 0x0108 eOk w) ∧
  (∀ s h total len img u c, MbxReady h s → h.len = 8 + len → total ≤ 327680 → notActive s = false → timeShared s = true →
    u = mbxTaken h 0x0109 s → strState u = sJoined → u.str.pub = none → len = total → sectionsErr systemScope img.items img.tables = some c →
    Gives (.publish h total 0 len img) s (mbxErr h 0x0109 c { u with dwn.upload := none })) ∧
  (∀ s h total len img u r, MbxReady h s → h.len = 8 + len → total ≤ 327680 → notActive s = false → timeShared s = true →
    u = mbxTaken h 0x0109 s → strState u = sJoined → u.str.pub = none → len = total → sectionsErr systemScope img.items img.tables = none →
    isReel u = true → reelPublish total img.items img.tables { u with dwn.upload := none, str.pub := some (h, sysGen u + 1) } = (true, r) →
    Gives (.publish h total 0 len img) s r) ∧
  (∀ s h total len img u, MbxReady h s → h.len = 8 + len → total ≤ 327680 → notActive s = false → timeShared s = true →
    u = mbxTaken h 0x0109 s → strState u = sJoined → u.str.pub = none → len = total → sectionsErr systemScope img.items img.tables = none →
    isReel u = true → u.str.dist = none → u.str.census = none → systemFail img.items img.tables u = none →
    Runs (.publish h total 0 len img) s fun t => t.str.pub = some (h, sysGen s + 1) ∧
      ∃ o, t.str.offer = some o ∧ o.gen = sysGen s + 1 ∧ o.verdict = 1 ∧ o.items = img.items ∧ o.applyEpoch = applyAt s.tet.epoch) ∧
  (∀ s o h g u t, s.str.offer = some o → o.applyEpoch ≤ s.tet.epoch → o.verdict = 1 → o.gen < 2 ^ 32 → u = distEnd { s with str.offer := none } →
    t = applyEffects u (withSystem o.items o.tables u) → t.str.pub = some (h, g) → t.str.fetch = none → h.resvBad = false →
    Replied h 0x0109 eOk (sysBoundary s) ∧ (sysBoundary s).str.pub = none ∧ (sysBoundary s).dwn.configGen = o.gen * 2 ^ 32 ∧
    (sysBoundary s).rd R.STG_INT_STATUS_GEN_APPLIED = 1) ∧
  (∀ s p ok, Alive s → s.dwn.flashOp = some p → Gives (.flashWriteComplete ok) s (mbxPump (flashEnd p ok s))) ∧
  (∀ s w ws ok, Alive s → s.dwn.flashOp = none → s.ce.fwWrites = w :: ws →
    Gives (.flashWriteComplete ok) s (mbxPump (fwWritten w ok { s with ce.fwWrites := ws }))) ∧
  (∀ s h img k, k < 4 → slotImg (flashEnd (0, h, img, k) true s) k = some img ∧
    (flashEnd (0, h, img, k) true s).rd R.DWN_INT_STATUS_PERSIST_DONE = 1) ∧
  (∀ s h img k, h.resvBad = false → OutEv.reply h.src 0x0107 eInternal h.tag 0 [] ∈ (flashEnd (0, h, img, k) false s).out)

/-- GET_NONCE, KEY_PROVISION, KEY_REVOKE, HOSTKEY_ENROLL and SVN_ADVANCE (R333 to R335): a nonce is issued and replaces the one before;
an OTP programming starts where no rule forbids it; its end puts the value into its field and raises OTP_WRITE and MEAS_CHG.
Model's choices: log entry 61. -/
def Obligations.KeysAreProgrammed : Prop :=
  (∀ s h u, MbxReady h s → h.len = 0 → u = mbxTaken h 0x0401 s → ∃ n, n < 2 ^ 128 ∧
    Gives (.getNonce h) s (mbxReply h 0x0401 eOk 0 (leBytes 16 n) { u.useFree with dwn.nonce := some (n * 2 ^ 48 + u.tet.epoch) })) ∧
  (∀ s h slot key t u, MbxReady h s → customerSet s = false → h.len = 120 → slot ≤ 3 → u = mbxTaken h 0x0402 s →
    (keySlot u slot).programmed = false → (keySlot u slot).damaged = false → u.dwn.otpOp = none →
    Gives (.keyProvision h slot key t) s { u with dwn.otpOp := some (0, h, slot, key) } ∧
    (slot < s.nv.slots.length → Runs (.keyProvision h slot key t) s fun t => Runs (.otpProgramComplete true) t fun w =>
      keySlot w slot = ⟨true, false, false, key⟩ ∧ Replied h 0x0402 eOk w)) ∧
  (∀ s h slot t u, MbxReady h s → h.len = 128 → slot ≤ 4 → slot ≠ 0 → u = { mbxTaken h 0x0403 s with dwn.nonce := none } →
    tokenOk (mbxTaken h 0x0403 s) 0x0403 t = true → (bootImages u).any (fun i => keyCheck u i && ! keyCheck (revoked slot u) i) = false →
    u.dwn.otpOp = none → Gives (.keyRevoke h slot t) s { u with dwn.otpOp := some (1, h, slot, 0) } ∧
    (slot < 4 → slot < s.nv.slots.length → Runs (.keyRevoke h slot t) s fun t => Runs (.otpProgramComplete true) t fun w =>
      (keySlot w slot).revoked = true ∧ w.rd R.SEC_INT_STATUS_REVOKED = 1 ∧ Replied h 0x0403 eOk w)) ∧
  (∀ s h key t u, MbxReady h s → h.len = 224 → u = { mbxTaken h 0x0404 s with dwn.nonce := none } →
    tokenOk (mbxTaken h 0x0404 s) 0x0404 t = true → u.nv.persistMode = true → u.nv.hostKey.programmed = false → u.dwn.otpOp = none →
    Gives (.hostkeyEnroll h key t) s { u with dwn.otpOp := some (2, h, 4, key) } ∧
    Runs (.hostkeyEnroll h key t) s fun t => Runs (.otpProgramComplete true) t fun w =>
      w.nv.hostKey = ⟨true, false, false, key⟩ ∧ Replied h 0x0404 eOk w) ∧
  (∀ s h t u i, MbxReady h s → h.len = 120 → u = { mbxTaken h 0x0405 s with dwn.nonce := none } →
    tokenOk (mbxTaken h 0x0405 s) 0x0405 t = true → u.dwn.image = some i → (∀ j, otherImage u = some j → i.svn ≤ j.svn) →
    u.nv.fwSvn < i.svn → u.dwn.otpOp = none → Gives (.svnAdvance h t) s { u with dwn.otpOp := some (3, h, 0, i.svn) } ∧
    Runs (.svnAdvance h t) s fun t => Runs (.otpProgramComplete true) t fun w => w.nv.fwSvn = i.svn ∧ Replied h 0x0405 eOk w) ∧
  (∀ s k h slot v, Alive s → s.dwn.otpOp = some (k, h, slot, v) → Gives (.otpProgramComplete true) s
    (mbxPump (mbxOk h (0x0402 + k)
      (((otpApply k slot v { s with dwn.otpOp := none }).raise R.SEC_INT_STATUS_OTP_WRITE).raise R.SEC_INT_STATUS_MEAS_CHG)))) ∧
  (∀ s slot key, slot < s.nv.slots.length → keySlot (otpApply 0 slot key s) slot = ⟨true, false, false, key⟩) ∧
  (∀ s slot, slot < 4 → slot < s.nv.slots.length → (keySlot (otpApply 1 slot 0 s) slot).revoked = true) ∧
  (∀ s v, (otpApply 3 0 v s).nv.fwSvn = v ∧ (otpApply 2 0 v s).nv.hostKey = ⟨true, false, false, v⟩) ∧
  (∀ s opcode t, tokenOk s opcode t = true → 1 ≤ t.slot ∧ t.slot ≤ 3 ∧ t.device = s.nv.deviceId ∧ t.opcode = opcode ∧ t.sigOk = true ∧
    (keySlot s t.slot).ok = true ∧ ∃ n, s.dwn.nonce = some n ∧ t.nonce = n / 2 ^ 48 ∧ s.tet.epoch ≤ n % 2 ^ 48 + 15625)

/-- The array commands of the mailbox (Table 3.9, Table 5.4, Table 5.5; R129, R132, R392): what each does where it is accepted, and the states in which
it is rejected with E_STATE.
Model's choices: log entry 40. -/
def Obligations.ArrayCommandsAct : Prop :=
  (∀ s h a u, MbxReady h s → h.len = 1 → a ≤ 15 → notActive s = false → u = mbxTaken h 0x0204 s → arrOn u a = true →
    arrState u a ≠ aFailed → arrState u a ≠ aOffline → arrayInUse u a = false →
    Gives (.arrayOffline h a) s (mbxOk h 0x0204 (setArr a aOffline 1 u))) ∧
  (∀ s h a u, MbxReady h s → h.len = 1 → a ≤ 15 → notActive s = false → u = mbxTaken h 0x0204 s → arrOn u a = true →
    arrState u a = aOffline → arrReason u a = 1 → Gives (.arrayOffline h a) s (mbxOk h 0x0204 u)) ∧
  (∀ s h a u, MbxReady h s → h.len = 1 → a ≤ 15 → notActive s = false → u = mbxTaken h 0x0205 s → offHost u a = true →
    u.ce.sops.any (fun o => o.array = a) = false → Gives (.arrayOnline h a) s (mbxOk h 0x0205 (arrayBack a u))) ∧
  (∀ s h a u, MbxReady h s → h.len = 1 → a ≤ 15 → notActive s = false → u = mbxTaken h 0x0206 s → arrOn u a = true →
    arrState u a = aOffline → arrReason u a = 2 →
    ∀ v, v = setArr a aCritical 0 ((u.modArr a fun r => { r with rs := none }).wr (R.STR_An_STATUS_UNVERIFIED a) 1) →
    Gives (.arrayForce h a) s (mbxOk h 0x0206 (arrUpdate a (v.each (missMembers v a) fun s m => if hasTarget s a m then s else seekTarget a m s)))) ∧
  (∀ s h a m p sub u, MbxReady h s → h.len = 4 → a ≤ 15 → m ≤ 31 → p ≤ 31 → sub ≤ 1 → notActive s = false → u = mbxTaken h 0x0207 s →
    memberRefused u a m true = none → mbxDrive u a p sub = none → unfencedFor u (drvNo p sub) = false →
    Gives (.arrayReplace h a m p sub) s (mbxOk h 0x0207 (arrUpdate a (assignTarget a m (drvNo p sub) u)))) ∧
  (∀ s h a m p sub u, MbxReady h s → h.len = 4 → a ≤ 15 → m ≤ 31 → p ≤ 31 → sub ≤ 1 → notActive s = false → u = mbxTaken h 0x0208 s →
    memberRefused u a m false = none → mbxDrive u a p sub = none → (slots u a).any (·.act) = false → (u.arr a).waiting = [] →
    (u.arr a).rs = none → (u.arr a).cb = none →
    Gives (.arrayCopyback h a m p sub) s (mbxOk h 0x0208 (startCopyback a m (drvNo p sub) 0 u))) ∧
  (∀ s h a u c, MbxReady h s → h.len = 1 → a ≤ 15 → notActive s = false → u = mbxTaken h 0x0209 s → (u.arr a).cb = some c → arrOn u a = true →
    Gives (.arrayCopybackStop h a) s (mbxOk h 0x0209 (spareFreed c.dest (endCopyback a 1 u)))) ∧
  (∀ s h a u, MbxReady h s → h.len = 1 → a ≤ 15 → notActive s = false → u = mbxTaken h 0x020A s → arrOn u a = true →
    Gives (.patrolRestart h a) s (mbxOk h 0x020A (progressDue 3 a 0 (u.modArr a fun r => { r with pt := 0 })))) ∧
  (∀ s h a u, MbxReady h s → h.len = 1 → a ≤ 15 → notActive s = false → arrOn s a = false →
    (u = mbxTaken h 0x0204 s → Gives (.arrayOffline h a) s (mbxErr h 0x0204 eState u)) ∧
    (u = mbxTaken h 0x020A s → Gives (.patrolRestart h a) s (mbxErr h 0x020A eState u)))

/-- NS_CREATE and NS_DELETE (R57, R59, R60, R289): a namespace gets the lowest free index, its system NSID, a new NGUID and a place whose
stripes no other namespace has; NS_DELETE waits for the commands outstanding on it and removes it.
Model's choices: log entry 41. -/
def Obligations.NamespacesComeAndGo : Prop :=
  (∀ s h a flags lbaf nsze base x b u, MbxReady h s → h.len = 20 → a ≤ 15 → flags ≤ 1 → lbaf = 0 ∨ (lbaf = 1 ∧ u.on (R.STR_An_GEOM_META a) = true) →
    notActive s = false → u = mbxTaken h 0x0201 s → arrOn u a = true → arrState u a ≠ aFailed → arrState u a ≠ aOffline →
    freeIndex u = some x → nsze ≠ 0 →
    ∀ n, n = (nsze + perStripe u a - 1) / perStripe u a →
    (flags = 1 ∧ base = b ∧ stripesFree u a b n = true ∨ flags = 0 ∧ lowestBase u a n = some b) →
    ∀ v, v = (⟨x, systemNsid u x, newNguid u x, a, b, n, nsze, lbaf⟩ : Ns) → ∀ w, w = rangeGone a b n true u →
    Gives (.nsCreate h a flags lbaf nsze base) s
      (mbxReply h 0x0201 eOk 0 (leBytes 2 x ++ [0, 0] ++ leBytes 4 v.nsid ++ (leBytes 16 v.nguid).reverse)
        (noticeNs { w with ns := w.ns ++ [v], nv.nsTable := w.nv.nsTable ++ [v] }))) ∧
  (∀ s x, freeIndex s = some x → x < nsMax ∧ (∀ n ∈ s.ns, n.idx ≠ x) ∧ ∀ y, y < x → ∃ n ∈ s.ns, n.idx = y) ∧
  (∀ s a n b, lowestBase s a n = some b → stripesFree s a b n = true) ∧
  (∀ s a b n, stripesFree s a b n = true → ∀ x ∈ s.ns, x.array = a → ∀ st, x.base ≤ st → st < x.base + x.stripes → ¬ (b ≤ st ∧ st < b + n)) ∧
  (∀ s h nsid n u, MbxReady h s → h.len = 4 → notActive s = false → u = mbxTaken h 0x0202 s → u.ns.find? (fun n => n.nsid = nsid) = some n →
    formatting u n.idx = false → u.ce.nsGone.any (fun p => p.2 = n.idx) = false →
    Gives (.nsDelete h nsid) s (nsDeletePoll { u with ce.nsGone := u.ce.nsGone ++ [(h, n.idx)] })) ∧
  (∀ s h nsid u, MbxReady h s → h.len = 4 → notActive s = false → u = mbxTaken h 0x0202 s → u.ns.find? (fun n => n.nsid = nsid) = none →
    Gives (.nsDelete h nsid) s (mbxErr h 0x0202 eField u)) ∧
  (∀ s h nsid n u, MbxReady h s → h.len = 4 → notActive s = false → u = mbxTaken h 0x0202 s → u.ns.find? (fun n => n.nsid = nsid) = some n →
    nsAt u n.idx = some n → formatting u n.idx = false → u.ce.nsGone = [] → u.ce.ctxs.any (fun c => c.ns = n.idx || c.nsid = 0xFFFFFFFF) = false →
    rangeIdle u n.array n.base n.stripes = true → Runs (.nsDelete h nsid) s fun t =>
      Replied h 0x0202 eOk t ∧ (∀ x ∈ t.ns, x.idx ≠ n.idx) ∧ ∀ x ∈ t.nv.nsTable, x.idx ≠ n.idx) ∧
  (∀ s h n, s.ce.nsGone = [(h, n.idx)] → nsAt s n.idx = some n → s.ce.ctxs.any (fun c => c.ns = n.idx || c.nsid = 0xFFFFFFFF) = false →
    rangeIdle s n.array n.base n.stripes = true → nsDeletePoll s = mbxOk h 0x0202 (nsRemove n { s with ce.nsGone := [] })) ∧
  (∀ s n, ∀ x ∈ (nsRemove n s).nv.nsTable, x.idx ≠ n.idx)

/-- PAIR_FORCE, PAIR_SWITCHOVER, PAIR_UNPAIR, NIGHT and WSK_CLEAR where their unit is in the state that allows them; a record commits with
WSK_RECORD_COMMIT and the clear that waits for it then runs (R296, R309, R310, R356, R360).
Model's choices: log entries 56 and 65. -/
def Obligations.UnitCommandsAct : Prop :=
  (∀ s h t u, MbxReady h s → h.len = 120 → tokenOk (mbxTaken h 0x0301 s) 0x0301 t = true → u = { mbxTaken h 0x0301 s with dwn.nonce := none } →
    u.pairState = 7 → Gives (.pairForce h t) s (pairHold h 0x0301 (takeover (u.wr R.SPR_STATUS_REASON 0))) ∧
    Runs (.pairForce h t) s fun t => t.pairState = 4 ∧ t.rd R.SPR_INT_STATUS_TAKEOVER = 1 ∧ t.pair.preempted = false ∧
      t.pair.dEpoch = s.tet.epoch ∧ t.pair.mbxWait = some h ∧ t.pair.mbxOp = 0x0301) ∧
  (∀ s h, Alive s → s.pairState = 4 → s.pair.preempted = true → s.jrn.opens = [] → s.bsk.fetching = [] → s.pair.cause = 1 →
    s.pair.mbxWait = some h → h.resvBad = false → Runs .preemptComplete s fun t =>
      t.pairState = 3 ∧ t.pair.mbxWait = none ∧ Replied h s.pair.mbxOp eOk t) ∧
  (∀ s h u, MbxReady h s → h.len = 0 → u = mbxTaken h 0x0302 s → u.pairState = 2 → u.on R.SPR_STATUS_READY = true →
    Gives (.pairSwitchover h) s (mbxOk h 0x0302 (handbackAsk u))) ∧
  (∀ s h u, MbxReady h s → h.len = 0 → u = mbxTaken h 0x0302 s → u.pairState ≠ 2 → Gives (.pairSwitchover h) s (mbxErr h 0x0302 eState u)) ∧
  (∀ s h u, MbxReady h s → h.len = 0 → u = mbxTaken h 0x0303 s → u.pairState = 3 →
    (u.on R.SPR_CFG_HOME = true → Gives (.pairUnpair h) s (mbxOk h 0x0303 (splitNow 0 u)) ∧
      Runs (.pairUnpair h) s fun t => Replied h 0x0303 eOk t ∧
        (resvDrives u = [] → u.ce.ctxs = [] → u.ce.sops = [] → u.bsk.fetching = [] → t.pairState = 0 ∧ t.rd R.SPR_INT_STATUS_SPLIT = 1)) ∧
    (u.on R.SPR_CFG_HOME = false → Gives (.pairUnpair h) s (startHanding (pairHold h 0x0303 { u with pair.unpairing := true })))) ∧
  (∀ s h u, MbxReady h s → h.len = 0 → u = mbxTaken h 0x0601 s →
    (nightCheck u = none → Gives (.night h) s (nightAccept h u) ∧ Runs (.night h) s fun t => t.rd R.PWR_STATUS_STATE = 2 ∧
      t.rd R.PWR_STATUS_PREP_STEP = 1 ∧ t.pwr.nightReq = some h ∧ t.pwr.prepDone = false ∧ t.pwr.latch = 0) ∧
    (∀ c, nightCheck u = some c → Gives (.night h) s (mbxErr h 0x0601 c (u.wr R.PWR_STATUS_LAST_ERR c)))) ∧
  (∀ s h scope t u, MbxReady h s → h.len = 128 → 1 ≤ scope → scope ≤ 3 → tokenOk (mbxTaken h 0x0502 s) 0x0502 t = true →
    u = { mbxTaken h 0x0502 s with dwn.nonce := none } → u.wsk.clearing = none →
    (u.wsk.staged = none → Gives (.wskClear h scope t) s (wskClearNow scope t.slot { u with wsk.clearing := some (h, 0, t.slot) }) ∧
      Runs (.wskClear h scope t) s fun v => Runs .wskRecordCommit v fun w =>
        Replied h 0x0502 eOk w ∧ w.wsk.clearing = none ∧ w.rd R.WSK_INT_STATUS_CLEARED = 1) ∧
    (∀ r, u.wsk.staged = some r → Gives (.wskClear h scope t) s { u with wsk.clearing := some (h, scope, t.slot) })) ∧
  (∀ s r, Alive s → s.wsk.staged = some r → s.wsk.clearing = none → Gives .wskRecordCommit s (mbxPump (recCommit r s))) ∧
  (∀ s r h scope slot, Alive s → s.wsk.staged = some r → s.wsk.clearing = some (h, scope, slot) → scope ≠ 0 →
    Gives .wskRecordCommit s (mbxPump (wskClearNow scope slot { recCommit r s with wsk.clearing := some (h, 0, slot) }))) ∧
  (∀ s, Alive s → s.wsk.staged = none → s.mbx.wait = [] → Gives .wskRecordCommit s s)
end

