-- ==== Sys2Proof/Laws/Sparse.lean ====
section
/-! SUPPORT. The laws of sparse maps: a read after a write, and that every operation keeps the canonical form. -/

namespace Sys2Proof.Machine

variable {α : Type}

theorem SMap.get_erase_same (d : α) (k : Nat) (m : SMap α) : SMap.get d k (SMap.erase k m) = d := by
  induction m with
  | nil => rfl
  | cons e t ih =>
    by_cases h : e.1 = k
    · simp [SMap.erase, h, ih]
    · simp [SMap.erase, SMap.get, h, ih]

theorem SMap.get_erase_ne (d : α) {k k' : Nat} (h : k' ≠ k) (m : SMap α) :
    SMap.get d k' (SMap.erase k m) = SMap.get d k' m := by
  induction m with
  | nil => rfl
  | cons e t ih =>
    by_cases h1 : e.1 = k
    · have h2 : ¬ k = k' := fun x => h x.symm
      simp [SMap.erase, SMap.get, h1, h2, ih]
    · simp [SMap.erase, SMap.get, h1, ih]

theorem SMap.get_insert_same (d : α) (k : Nat) (v : α) (m : SMap α)
    (he : ∀ e ∈ m, e.1 ≠ k) : SMap.get d k (SMap.insert k v m) = v := by
  induction m with
  | nil => simp [SMap.insert, SMap.get]
  | cons e t ih =>
    have h1 := he e (by simp)
    by_cases h2 : k < e.1
    · simp [SMap.insert, SMap.get, h2]
    · simp [SMap.insert, SMap.get, h2, h1, ih (fun e' m' => he e' (by simp [m']))]

theorem SMap.get_insert_ne (d : α) {k k' : Nat} (h : k' ≠ k) (v : α) (m : SMap α) :
    SMap.get d k' (SMap.insert k v m) = SMap.get d k' m := by
  have h' : ¬ k = k' := fun x => h x.symm
  induction m with
  | nil => simp [SMap.insert, SMap.get, h']
  | cons e t ih =>
    by_cases h2 : k < e.1
    · simp [SMap.insert, SMap.get, h2, h']
    · simp [SMap.insert, SMap.get, h2, ih]

theorem SMap.erase_keys (k : Nat) (m : SMap α) : ∀ e ∈ SMap.erase k m, e.1 ≠ k := by
  induction m with
  | nil => intro e h; simp [SMap.erase] at h
  | cons x t ih =>
    intro e he
    by_cases h : x.1 = k
    · simp [SMap.erase, h] at he; exact ih e he
    · simp [SMap.erase, h] at he
      rcases he with rfl | he
      · exact h
      · exact ih e he

/-- Read after write at the same address. -/
theorem SMap.get_set_same [DecidableEq α] (d : α) (k : Nat) (v : α) (m : SMap α) :
    SMap.get d k (SMap.set d k v m) = v := by
  unfold SMap.set
  split
  · next h => rw [SMap.get_erase_same, h]
  · exact SMap.get_insert_same d k v _ (SMap.erase_keys k m)

/-- A write leaves every other address alone. -/
theorem SMap.get_set_ne [DecidableEq α] (d : α) {k k' : Nat} (h : k' ≠ k) (v : α) (m : SMap α) :
    SMap.get d k' (SMap.set d k v m) = SMap.get d k' m := by
  unfold SMap.set
  split
  · exact SMap.get_erase_ne d h m
  · rw [SMap.get_insert_ne d h, SMap.get_erase_ne d h]

theorem SMap.get_set [DecidableEq α] (d : α) (k k' : Nat) (v : α) (m : SMap α) :
    SMap.get d k' (SMap.set d k v m) = if k' = k then v else SMap.get d k' m := by
  split
  · next h => rw [h, SMap.get_set_same]
  · next h => exact SMap.get_set_ne d h v m

/-! ### The canonical form -/

theorem SMap.wfFrom_mono [DecidableEq α] (d : α) {lo hi : Nat} (h : lo ≤ hi) {m : SMap α} (w : SMap.wfFrom d hi m = true) :
    SMap.wfFrom d lo m = true := by
  cases m with
  | nil => rfl
  | cons e t =>
    simp only [SMap.wfFrom, Bool.and_eq_true, decide_eq_true_eq] at w ⊢
    exact ⟨⟨Nat.le_trans h w.1.1, w.1.2⟩, w.2⟩

theorem SMap.wfFrom_erase [DecidableEq α] (d : α) (k : Nat) {m : SMap α} : ∀ {lo : Nat}, SMap.wfFrom d lo m = true →
    SMap.wfFrom d lo (SMap.erase k m) = true := by
  induction m with
  | nil => intro lo _; rfl
  | cons e t ih =>
    intro lo w
    simp only [SMap.wfFrom, Bool.and_eq_true, decide_eq_true_eq] at w
    by_cases h : e.1 = k
    · simp only [SMap.erase, h, if_true]
      exact SMap.wfFrom_mono d (by omega) (ih w.2)
    · simp only [SMap.erase, h, if_false, SMap.wfFrom, Bool.and_eq_true, decide_eq_true_eq]
      exact ⟨w.1, ih w.2⟩

theorem SMap.wfFrom_insert [DecidableEq α] (d : α) {k : Nat} {v : α} (hv : v ≠ d) {m : SMap α} :
    ∀ {lo : Nat}, lo ≤ k → (∀ e ∈ m, e.1 ≠ k) → SMap.wfFrom d lo m = true → SMap.wfFrom d lo (SMap.insert k v m) = true := by
  induction m with
  | nil => intro lo hl _ _; simp [SMap.insert, SMap.wfFrom, hl, hv]
  | cons e t ih =>
    intro lo hl hk w
    simp only [SMap.wfFrom, Bool.and_eq_true, decide_eq_true_eq] at w
    have hek := hk e (by simp)
    by_cases h : k < e.1
    · simp only [SMap.insert, h, if_true, SMap.wfFrom, Bool.and_eq_true, decide_eq_true_eq]
      exact ⟨⟨hl, hv⟩, ⟨h, w.1.2⟩, w.2⟩
    · simp only [SMap.insert, h, if_false, SMap.wfFrom, Bool.and_eq_true, decide_eq_true_eq]
      exact ⟨w.1, ih (by omega) (fun e' m' => hk e' (by simp [m'])) w.2⟩

/-- A write keeps the canonical form. -/
theorem SMap.wf_set [DecidableEq α] (d : α) (k : Nat) (v : α) {m : SMap α} (w : SMap.wf d m = true) :
    SMap.wf d (SMap.set d k v m) = true := by
  unfold SMap.set SMap.wf at *
  split
  · exact SMap.wfFrom_erase d k w
  · next h => exact SMap.wfFrom_insert d h (by omega) (SMap.erase_keys k m) (SMap.wfFrom_erase d k w)

/-- A write of several values keeps the canonical form. -/
theorem SMap.wf_write [DecidableEq α] (d : α) (vs : List α) : ∀ (k : Nat) {m : SMap α}, SMap.wf d m = true →
    SMap.wf d (SMap.write d k vs m) = true := by
  induction vs with
  | nil => intro k m w; exact w
  | cons v vs ih => intro k m w; exact ih (k + 1) (SMap.wf_set d k v w)

theorem SMap.wfFrom_filter [DecidableEq α] (d : α) (p : Nat × α → Bool) {m : SMap α} : ∀ {lo : Nat},
    SMap.wfFrom d lo m = true → SMap.wfFrom d lo (m.filter p) = true := by
  induction m with
  | nil => intro lo _; rfl
  | cons e t ih =>
    intro lo w
    simp only [SMap.wfFrom, Bool.and_eq_true, decide_eq_true_eq] at w
    by_cases h : p e
    · simp only [List.filter, h, SMap.wfFrom, Bool.and_eq_true, decide_eq_true_eq]
      exact ⟨w.1, ih w.2⟩
    · simp only [List.filter, h]
      exact SMap.wfFrom_mono d (by omega) (ih w.2)

/-- Dropping a range keeps the canonical form. -/
theorem SMap.wf_clear [DecidableEq α] (d : α) (k n : Nat) {m : SMap α} (w : SMap.wf d m = true) :
    SMap.wf d (SMap.clear k n m) = true := SMap.wfFrom_filter d _ w

/-- A range that was dropped reads as the default. -/
theorem SMap.get_clear (d : α) (k n a : Nat) (m : SMap α) :
    SMap.get d a (SMap.clear k n m) = if k ≤ a ∧ a < k + n then d else SMap.get d a m := by
  induction m with
  | nil => simp [SMap.clear, SMap.get]
  | cons e t ih =>
    unfold SMap.clear at ih ⊢
    by_cases h : (e.1 < k || k + n ≤ e.1) = true
    · simp only [List.filter, h, SMap.get]
      by_cases h2 : e.1 = a
      · subst h2
        have : ¬ (k ≤ e.1 ∧ e.1 < k + n) := by
          simp at h; omega
        simp [this]
      · simp only [h2, if_false]; exact ih
    · simp only [List.filter, h, SMap.get]
      by_cases h2 : e.1 = a
      · subst h2
        have : k ≤ e.1 ∧ e.1 < k + n := by
          simp at h; omega
        simp only [this, and_self, if_true] at ih ⊢
        exact ih
      · simp only [h2, if_false]; exact ih

end Sys2Proof.Machine
end

