-- ==== Sys2Proof/Laws/State.lean ====
section
/-! SUPPORT. One lemma per field per named update of the state, each true by unfolding, and the laws of registers: a read
after a write, and that the interrupt aggregation changes no register. -/

namespace Sys2Proof.Machine

variable (s : State)

/-- What a register read depends on. -/
theorem State.rd_congr {s t : State} (h : t.regs = s.regs) (f : Fld) : t.rd f = s.rd f := by unfold State.rd; rw [h]

/-! ### wr -/

@[simp] theorem State.wr_pending (f : Fld) (v : Nat) : (s.wr f v).pending = s.pending := rfl
@[simp] theorem State.wr_shadow (f : Fld) (v : Nat) : (s.wr f v).shadow = s.shadow := rfl
@[simp] theorem State.wr_latch (f : Fld) (v : Nat) : (s.wr f v).latch = s.latch := rfl
@[simp] theorem State.wr_out (f : Fld) (v : Nat) : (s.wr f v).out = s.out := rfl
@[simp] theorem State.wr_freeCtr (f : Fld) (v : Nat) : (s.wr f v).freeCtr = s.freeCtr := rfl
@[simp] theorem State.wr_kicks (f : Fld) (v : Nat) : (s.wr f v).kicks = s.kicks := rfl
@[simp] theorem State.wr_tet (f : Fld) (v : Nat) : (s.wr f v).tet = s.tet := rfl
@[simp] theorem State.wr_arrs (f : Fld) (v : Nat) : (s.wr f v).arrs = s.arrs := rfl
@[simp] theorem State.wr_ns (f : Fld) (v : Nat) : (s.wr f v).ns = s.ns := rfl
@[simp] theorem State.wr_jrn (f : Fld) (v : Nat) : (s.wr f v).jrn = s.jrn := rfl
@[simp] theorem State.wr_bsk (f : Fld) (v : Nat) : (s.wr f v).bsk = s.bsk := rfl
@[simp] theorem State.wr_ce (f : Fld) (v : Nat) : (s.wr f v).ce = s.ce := rfl
@[simp] theorem State.wr_env (f : Fld) (v : Nat) : (s.wr f v).env = s.env := rfl
@[simp] theorem State.wr_wsk (f : Fld) (v : Nat) : (s.wr f v).wsk = s.wsk := rfl
@[simp] theorem State.wr_mbx (f : Fld) (v : Nat) : (s.wr f v).mbx = s.mbx := rfl
@[simp] theorem State.wr_links (f : Fld) (v : Nat) : (s.wr f v).links = s.links := rfl
@[simp] theorem State.wr_fab (f : Fld) (v : Nat) : (s.wr f v).fab = s.fab := rfl
@[simp] theorem State.wr_spl (f : Fld) (v : Nat) : (s.wr f v).spl = s.spl := rfl
@[simp] theorem State.wr_str (f : Fld) (v : Nat) : (s.wr f v).str = s.str := rfl
@[simp] theorem State.wr_pair (f : Fld) (v : Nat) : (s.wr f v).pair = s.pair := rfl
@[simp] theorem State.wr_dwn (f : Fld) (v : Nat) : (s.wr f v).dwn = s.dwn := rfl
@[simp] theorem State.wr_pwr (f : Fld) (v : Nat) : (s.wr f v).pwr = s.pwr := rfl
@[simp] theorem State.wr_jtag (f : Fld) (v : Nat) : (s.wr f v).jtag = s.jtag := rfl
@[simp] theorem State.wr_nv (f : Fld) (v : Nat) : (s.wr f v).nv = s.nv := rfl
@[simp] theorem State.wr_ext (f : Fld) (v : Nat) : (s.wr f v).ext = s.ext := rfl

/-! ### wrSet -/

@[simp] theorem State.wrSet_pending (f : Fld) (v : Nat) : (s.wrSet f v).pending = s.pending := rfl
@[simp] theorem State.wrSet_latch (f : Fld) (v : Nat) : (s.wrSet f v).latch = s.latch := rfl
@[simp] theorem State.wrSet_out (f : Fld) (v : Nat) : (s.wrSet f v).out = s.out := rfl
@[simp] theorem State.wrSet_freeCtr (f : Fld) (v : Nat) : (s.wrSet f v).freeCtr = s.freeCtr := rfl
@[simp] theorem State.wrSet_kicks (f : Fld) (v : Nat) : (s.wrSet f v).kicks = s.kicks := rfl
@[simp] theorem State.wrSet_tet (f : Fld) (v : Nat) : (s.wrSet f v).tet = s.tet := rfl
@[simp] theorem State.wrSet_arrs (f : Fld) (v : Nat) : (s.wrSet f v).arrs = s.arrs := rfl
@[simp] theorem State.wrSet_ns (f : Fld) (v : Nat) : (s.wrSet f v).ns = s.ns := rfl
@[simp] theorem State.wrSet_jrn (f : Fld) (v : Nat) : (s.wrSet f v).jrn = s.jrn := rfl
@[simp] theorem State.wrSet_bsk (f : Fld) (v : Nat) : (s.wrSet f v).bsk = s.bsk := rfl
@[simp] theorem State.wrSet_ce (f : Fld) (v : Nat) : (s.wrSet f v).ce = s.ce := rfl
@[simp] theorem State.wrSet_env (f : Fld) (v : Nat) : (s.wrSet f v).env = s.env := rfl
@[simp] theorem State.wrSet_wsk (f : Fld) (v : Nat) : (s.wrSet f v).wsk = s.wsk := rfl
@[simp] theorem State.wrSet_mbx (f : Fld) (v : Nat) : (s.wrSet f v).mbx = s.mbx := rfl
@[simp] theorem State.wrSet_links (f : Fld) (v : Nat) : (s.wrSet f v).links = s.links := rfl
@[simp] theorem State.wrSet_fab (f : Fld) (v : Nat) : (s.wrSet f v).fab = s.fab := rfl
@[simp] theorem State.wrSet_spl (f : Fld) (v : Nat) : (s.wrSet f v).spl = s.spl := rfl
@[simp] theorem State.wrSet_str (f : Fld) (v : Nat) : (s.wrSet f v).str = s.str := rfl
@[simp] theorem State.wrSet_pair (f : Fld) (v : Nat) : (s.wrSet f v).pair = s.pair := rfl
@[simp] theorem State.wrSet_dwn (f : Fld) (v : Nat) : (s.wrSet f v).dwn = s.dwn := rfl
@[simp] theorem State.wrSet_pwr (f : Fld) (v : Nat) : (s.wrSet f v).pwr = s.pwr := rfl
@[simp] theorem State.wrSet_jtag (f : Fld) (v : Nat) : (s.wrSet f v).jtag = s.jtag := rfl
@[simp] theorem State.wrSet_nv (f : Fld) (v : Nat) : (s.wrSet f v).nv = s.nv := rfl
@[simp] theorem State.wrSet_ext (f : Fld) (v : Nat) : (s.wrSet f v).ext = s.ext := rfl

/-! ### raise -/

@[simp] theorem State.raise_pending (f : Fld) (m : Nat) : (s.raise f m).pending = s.pending := rfl
@[simp] theorem State.raise_shadow (f : Fld) (m : Nat) : (s.raise f m).shadow = s.shadow := rfl
@[simp] theorem State.raise_latch (f : Fld) (m : Nat) : (s.raise f m).latch = s.latch := rfl
@[simp] theorem State.raise_out (f : Fld) (m : Nat) : (s.raise f m).out = s.out := rfl
@[simp] theorem State.raise_freeCtr (f : Fld) (m : Nat) : (s.raise f m).freeCtr = s.freeCtr := rfl
@[simp] theorem State.raise_kicks (f : Fld) (m : Nat) : (s.raise f m).kicks = s.kicks := rfl
@[simp] theorem State.raise_tet (f : Fld) (m : Nat) : (s.raise f m).tet = s.tet := rfl
@[simp] theorem State.raise_arrs (f : Fld) (m : Nat) : (s.raise f m).arrs = s.arrs := rfl
@[simp] theorem State.raise_ns (f : Fld) (m : Nat) : (s.raise f m).ns = s.ns := rfl
@[simp] theorem State.raise_jrn (f : Fld) (m : Nat) : (s.raise f m).jrn = s.jrn := rfl
@[simp] theorem State.raise_bsk (f : Fld) (m : Nat) : (s.raise f m).bsk = s.bsk := rfl
@[simp] theorem State.raise_ce (f : Fld) (m : Nat) : (s.raise f m).ce = s.ce := rfl
@[simp] theorem State.raise_env (f : Fld) (m : Nat) : (s.raise f m).env = s.env := rfl
@[simp] theorem State.raise_wsk (f : Fld) (m : Nat) : (s.raise f m).wsk = s.wsk := rfl
@[simp] theorem State.raise_mbx (f : Fld) (m : Nat) : (s.raise f m).mbx = s.mbx := rfl
@[simp] theorem State.raise_links (f : Fld) (m : Nat) : (s.raise f m).links = s.links := rfl
@[simp] theorem State.raise_fab (f : Fld) (m : Nat) : (s.raise f m).fab = s.fab := rfl
@[simp] theorem State.raise_spl (f : Fld) (m : Nat) : (s.raise f m).spl = s.spl := rfl
@[simp] theorem State.raise_str (f : Fld) (m : Nat) : (s.raise f m).str = s.str := rfl
@[simp] theorem State.raise_pair (f : Fld) (m : Nat) : (s.raise f m).pair = s.pair := rfl
@[simp] theorem State.raise_dwn (f : Fld) (m : Nat) : (s.raise f m).dwn = s.dwn := rfl
@[simp] theorem State.raise_pwr (f : Fld) (m : Nat) : (s.raise f m).pwr = s.pwr := rfl
@[simp] theorem State.raise_jtag (f : Fld) (m : Nat) : (s.raise f m).jtag = s.jtag := rfl
@[simp] theorem State.raise_nv (f : Fld) (m : Nat) : (s.raise f m).nv = s.nv := rfl
@[simp] theorem State.raise_ext (f : Fld) (m : Nat) : (s.raise f m).ext = s.ext := rfl

/-! ### clr -/

@[simp] theorem State.clr_pending (f : Fld) (m : Nat) : (s.clr f m).pending = s.pending := rfl
@[simp] theorem State.clr_shadow (f : Fld) (m : Nat) : (s.clr f m).shadow = s.shadow := rfl
@[simp] theorem State.clr_latch (f : Fld) (m : Nat) : (s.clr f m).latch = s.latch := rfl
@[simp] theorem State.clr_out (f : Fld) (m : Nat) : (s.clr f m).out = s.out := rfl
@[simp] theorem State.clr_freeCtr (f : Fld) (m : Nat) : (s.clr f m).freeCtr = s.freeCtr := rfl
@[simp] theorem State.clr_kicks (f : Fld) (m : Nat) : (s.clr f m).kicks = s.kicks := rfl
@[simp] theorem State.clr_tet (f : Fld) (m : Nat) : (s.clr f m).tet = s.tet := rfl
@[simp] theorem State.clr_arrs (f : Fld) (m : Nat) : (s.clr f m).arrs = s.arrs := rfl
@[simp] theorem State.clr_ns (f : Fld) (m : Nat) : (s.clr f m).ns = s.ns := rfl
@[simp] theorem State.clr_jrn (f : Fld) (m : Nat) : (s.clr f m).jrn = s.jrn := rfl
@[simp] theorem State.clr_bsk (f : Fld) (m : Nat) : (s.clr f m).bsk = s.bsk := rfl
@[simp] theorem State.clr_ce (f : Fld) (m : Nat) : (s.clr f m).ce = s.ce := rfl
@[simp] theorem State.clr_env (f : Fld) (m : Nat) : (s.clr f m).env = s.env := rfl
@[simp] theorem State.clr_wsk (f : Fld) (m : Nat) : (s.clr f m).wsk = s.wsk := rfl
@[simp] theorem State.clr_mbx (f : Fld) (m : Nat) : (s.clr f m).mbx = s.mbx := rfl
@[simp] theorem State.clr_links (f : Fld) (m : Nat) : (s.clr f m).links = s.links := rfl
@[simp] theorem State.clr_fab (f : Fld) (m : Nat) : (s.clr f m).fab = s.fab := rfl
@[simp] theorem State.clr_spl (f : Fld) (m : Nat) : (s.clr f m).spl = s.spl := rfl
@[simp] theorem State.clr_str (f : Fld) (m : Nat) : (s.clr f m).str = s.str := rfl
@[simp] theorem State.clr_pair (f : Fld) (m : Nat) : (s.clr f m).pair = s.pair := rfl
@[simp] theorem State.clr_dwn (f : Fld) (m : Nat) : (s.clr f m).dwn = s.dwn := rfl
@[simp] theorem State.clr_pwr (f : Fld) (m : Nat) : (s.clr f m).pwr = s.pwr := rfl
@[simp] theorem State.clr_jtag (f : Fld) (m : Nat) : (s.clr f m).jtag = s.jtag := rfl
@[simp] theorem State.clr_nv (f : Fld) (m : Nat) : (s.clr f m).nv = s.nv := rfl
@[simp] theorem State.clr_ext (f : Fld) (m : Nat) : (s.clr f m).ext = s.ext := rfl

/-! ### incSat -/

@[simp] theorem State.incSat_pending (f : Fld) (n : Nat) : (s.incSat f n).pending = s.pending := rfl
@[simp] theorem State.incSat_shadow (f : Fld) (n : Nat) : (s.incSat f n).shadow = s.shadow := rfl
@[simp] theorem State.incSat_latch (f : Fld) (n : Nat) : (s.incSat f n).latch = s.latch := rfl
@[simp] theorem State.incSat_out (f : Fld) (n : Nat) : (s.incSat f n).out = s.out := rfl
@[simp] theorem State.incSat_freeCtr (f : Fld) (n : Nat) : (s.incSat f n).freeCtr = s.freeCtr := rfl
@[simp] theorem State.incSat_kicks (f : Fld) (n : Nat) : (s.incSat f n).kicks = s.kicks := rfl
@[simp] theorem State.incSat_tet (f : Fld) (n : Nat) : (s.incSat f n).tet = s.tet := rfl
@[simp] theorem State.incSat_arrs (f : Fld) (n : Nat) : (s.incSat f n).arrs = s.arrs := rfl
@[simp] theorem State.incSat_ns (f : Fld) (n : Nat) : (s.incSat f n).ns = s.ns := rfl
@[simp] theorem State.incSat_jrn (f : Fld) (n : Nat) : (s.incSat f n).jrn = s.jrn := rfl
@[simp] theorem State.incSat_bsk (f : Fld) (n : Nat) : (s.incSat f n).bsk = s.bsk := rfl
@[simp] theorem State.incSat_ce (f : Fld) (n : Nat) : (s.incSat f n).ce = s.ce := rfl
@[simp] theorem State.incSat_env (f : Fld) (n : Nat) : (s.incSat f n).env = s.env := rfl
@[simp] theorem State.incSat_wsk (f : Fld) (n : Nat) : (s.incSat f n).wsk = s.wsk := rfl
@[simp] theorem State.incSat_mbx (f : Fld) (n : Nat) : (s.incSat f n).mbx = s.mbx := rfl
@[simp] theorem State.incSat_links (f : Fld) (n : Nat) : (s.incSat f n).links = s.links := rfl
@[simp] theorem State.incSat_fab (f : Fld) (n : Nat) : (s.incSat f n).fab = s.fab := rfl
@[simp] theorem State.incSat_spl (f : Fld) (n : Nat) : (s.incSat f n).spl = s.spl := rfl
@[simp] theorem State.incSat_str (f : Fld) (n : Nat) : (s.incSat f n).str = s.str := rfl
@[simp] theorem State.incSat_pair (f : Fld) (n : Nat) : (s.incSat f n).pair = s.pair := rfl
@[simp] theorem State.incSat_dwn (f : Fld) (n : Nat) : (s.incSat f n).dwn = s.dwn := rfl
@[simp] theorem State.incSat_pwr (f : Fld) (n : Nat) : (s.incSat f n).pwr = s.pwr := rfl
@[simp] theorem State.incSat_jtag (f : Fld) (n : Nat) : (s.incSat f n).jtag = s.jtag := rfl
@[simp] theorem State.incSat_nv (f : Fld) (n : Nat) : (s.incSat f n).nv = s.nv := rfl
@[simp] theorem State.incSat_ext (f : Fld) (n : Nat) : (s.incSat f n).ext = s.ext := rfl

/-! ### incWrap -/

@[simp] theorem State.incWrap_pending (f : Fld) (n : Nat) : (s.incWrap f n).pending = s.pending := rfl
@[simp] theorem State.incWrap_shadow (f : Fld) (n : Nat) : (s.incWrap f n).shadow = s.shadow := rfl
@[simp] theorem State.incWrap_latch (f : Fld) (n : Nat) : (s.incWrap f n).latch = s.latch := rfl
@[simp] theorem State.incWrap_out (f : Fld) (n : Nat) : (s.incWrap f n).out = s.out := rfl
@[simp] theorem State.incWrap_freeCtr (f : Fld) (n : Nat) : (s.incWrap f n).freeCtr = s.freeCtr := rfl
@[simp] theorem State.incWrap_kicks (f : Fld) (n : Nat) : (s.incWrap f n).kicks = s.kicks := rfl
@[simp] theorem State.incWrap_tet (f : Fld) (n : Nat) : (s.incWrap f n).tet = s.tet := rfl
@[simp] theorem State.incWrap_arrs (f : Fld) (n : Nat) : (s.incWrap f n).arrs = s.arrs := rfl
@[simp] theorem State.incWrap_ns (f : Fld) (n : Nat) : (s.incWrap f n).ns = s.ns := rfl
@[simp] theorem State.incWrap_jrn (f : Fld) (n : Nat) : (s.incWrap f n).jrn = s.jrn := rfl
@[simp] theorem State.incWrap_bsk (f : Fld) (n : Nat) : (s.incWrap f n).bsk = s.bsk := rfl
@[simp] theorem State.incWrap_ce (f : Fld) (n : Nat) : (s.incWrap f n).ce = s.ce := rfl
@[simp] theorem State.incWrap_env (f : Fld) (n : Nat) : (s.incWrap f n).env = s.env := rfl
@[simp] theorem State.incWrap_wsk (f : Fld) (n : Nat) : (s.incWrap f n).wsk = s.wsk := rfl
@[simp] theorem State.incWrap_mbx (f : Fld) (n : Nat) : (s.incWrap f n).mbx = s.mbx := rfl
@[simp] theorem State.incWrap_links (f : Fld) (n : Nat) : (s.incWrap f n).links = s.links := rfl
@[simp] theorem State.incWrap_fab (f : Fld) (n : Nat) : (s.incWrap f n).fab = s.fab := rfl
@[simp] theorem State.incWrap_spl (f : Fld) (n : Nat) : (s.incWrap f n).spl = s.spl := rfl
@[simp] theorem State.incWrap_str (f : Fld) (n : Nat) : (s.incWrap f n).str = s.str := rfl
@[simp] theorem State.incWrap_pair (f : Fld) (n : Nat) : (s.incWrap f n).pair = s.pair := rfl
@[simp] theorem State.incWrap_dwn (f : Fld) (n : Nat) : (s.incWrap f n).dwn = s.dwn := rfl
@[simp] theorem State.incWrap_pwr (f : Fld) (n : Nat) : (s.incWrap f n).pwr = s.pwr := rfl
@[simp] theorem State.incWrap_jtag (f : Fld) (n : Nat) : (s.incWrap f n).jtag = s.jtag := rfl
@[simp] theorem State.incWrap_nv (f : Fld) (n : Nat) : (s.incWrap f n).nv = s.nv := rfl
@[simp] theorem State.incWrap_ext (f : Fld) (n : Nat) : (s.incWrap f n).ext = s.ext := rfl

/-! ### emit -/

@[simp] theorem State.emit_pending (e : OutEv) : (s.emit e).pending = s.pending := rfl
@[simp] theorem State.emit_regs (e : OutEv) : (s.emit e).regs = s.regs := rfl
@[simp] theorem State.emit_shadow (e : OutEv) : (s.emit e).shadow = s.shadow := rfl
@[simp] theorem State.emit_latch (e : OutEv) : (s.emit e).latch = s.latch := rfl
@[simp] theorem State.emit_freeCtr (e : OutEv) : (s.emit e).freeCtr = s.freeCtr := rfl
@[simp] theorem State.emit_kicks (e : OutEv) : (s.emit e).kicks = s.kicks := rfl
@[simp] theorem State.emit_tet (e : OutEv) : (s.emit e).tet = s.tet := rfl
@[simp] theorem State.emit_arrs (e : OutEv) : (s.emit e).arrs = s.arrs := rfl
@[simp] theorem State.emit_ns (e : OutEv) : (s.emit e).ns = s.ns := rfl
@[simp] theorem State.emit_jrn (e : OutEv) : (s.emit e).jrn = s.jrn := rfl
@[simp] theorem State.emit_bsk (e : OutEv) : (s.emit e).bsk = s.bsk := rfl
@[simp] theorem State.emit_ce (e : OutEv) : (s.emit e).ce = s.ce := rfl
@[simp] theorem State.emit_env (e : OutEv) : (s.emit e).env = s.env := rfl
@[simp] theorem State.emit_wsk (e : OutEv) : (s.emit e).wsk = s.wsk := rfl
@[simp] theorem State.emit_mbx (e : OutEv) : (s.emit e).mbx = s.mbx := rfl
@[simp] theorem State.emit_links (e : OutEv) : (s.emit e).links = s.links := rfl
@[simp] theorem State.emit_fab (e : OutEv) : (s.emit e).fab = s.fab := rfl
@[simp] theorem State.emit_spl (e : OutEv) : (s.emit e).spl = s.spl := rfl
@[simp] theorem State.emit_str (e : OutEv) : (s.emit e).str = s.str := rfl
@[simp] theorem State.emit_pair (e : OutEv) : (s.emit e).pair = s.pair := rfl
@[simp] theorem State.emit_dwn (e : OutEv) : (s.emit e).dwn = s.dwn := rfl
@[simp] theorem State.emit_pwr (e : OutEv) : (s.emit e).pwr = s.pwr := rfl
@[simp] theorem State.emit_jtag (e : OutEv) : (s.emit e).jtag = s.jtag := rfl
@[simp] theorem State.emit_nv (e : OutEv) : (s.emit e).nv = s.nv := rfl
@[simp] theorem State.emit_ext (e : OutEv) : (s.emit e).ext = s.ext := rfl

/-! ### useFree -/

@[simp] theorem State.useFree_pending : (s.useFree).pending = s.pending := rfl
@[simp] theorem State.useFree_regs : (s.useFree).regs = s.regs := rfl
@[simp] theorem State.useFree_shadow : (s.useFree).shadow = s.shadow := rfl
@[simp] theorem State.useFree_latch : (s.useFree).latch = s.latch := rfl
@[simp] theorem State.useFree_out : (s.useFree).out = s.out := rfl
@[simp] theorem State.useFree_kicks : (s.useFree).kicks = s.kicks := rfl
@[simp] theorem State.useFree_tet : (s.useFree).tet = s.tet := rfl
@[simp] theorem State.useFree_arrs : (s.useFree).arrs = s.arrs := rfl
@[simp] theorem State.useFree_ns : (s.useFree).ns = s.ns := rfl
@[simp] theorem State.useFree_jrn : (s.useFree).jrn = s.jrn := rfl
@[simp] theorem State.useFree_bsk : (s.useFree).bsk = s.bsk := rfl
@[simp] theorem State.useFree_ce : (s.useFree).ce = s.ce := rfl
@[simp] theorem State.useFree_env : (s.useFree).env = s.env := rfl
@[simp] theorem State.useFree_wsk : (s.useFree).wsk = s.wsk := rfl
@[simp] theorem State.useFree_mbx : (s.useFree).mbx = s.mbx := rfl
@[simp] theorem State.useFree_links : (s.useFree).links = s.links := rfl
@[simp] theorem State.useFree_fab : (s.useFree).fab = s.fab := rfl
@[simp] theorem State.useFree_spl : (s.useFree).spl = s.spl := rfl
@[simp] theorem State.useFree_str : (s.useFree).str = s.str := rfl
@[simp] theorem State.useFree_pair : (s.useFree).pair = s.pair := rfl
@[simp] theorem State.useFree_dwn : (s.useFree).dwn = s.dwn := rfl
@[simp] theorem State.useFree_pwr : (s.useFree).pwr = s.pwr := rfl
@[simp] theorem State.useFree_jtag : (s.useFree).jtag = s.jtag := rfl
@[simp] theorem State.useFree_nv : (s.useFree).nv = s.nv := rfl
@[simp] theorem State.useFree_ext : (s.useFree).ext = s.ext := rfl

@[simp] theorem State.emit_out (e : OutEv) : (s.emit e).out = e :: s.out := rfl
@[simp] theorem State.useFree_freeCtr : s.useFree.freeCtr = s.freeCtr + 1 := rfl

/-! ### event -/

@[simp] theorem State.event_pending (c src : Nat) (pl : List Nat) : (s.event c src pl).pending = s.pending := by
  unfold State.event; split
  · rfl
  · dsimp only; split <;> rfl
@[simp] theorem State.event_shadow (c src : Nat) (pl : List Nat) : (s.event c src pl).shadow = s.shadow := by
  unfold State.event; split
  · rfl
  · dsimp only; split <;> rfl
@[simp] theorem State.event_latch (c src : Nat) (pl : List Nat) : (s.event c src pl).latch = s.latch := by
  unfold State.event; split
  · rfl
  · dsimp only; split <;> rfl
@[simp] theorem State.event_out (c src : Nat) (pl : List Nat) : (s.event c src pl).out = s.out := by
  unfold State.event; split
  · rfl
  · dsimp only; split <;> rfl
@[simp] theorem State.event_freeCtr (c src : Nat) (pl : List Nat) : (s.event c src pl).freeCtr = s.freeCtr := by
  unfold State.event; split
  · rfl
  · dsimp only; split <;> rfl
@[simp] theorem State.event_kicks (c src : Nat) (pl : List Nat) : (s.event c src pl).kicks = s.kicks := by
  unfold State.event; split
  · rfl
  · dsimp only; split <;> rfl
@[simp] theorem State.event_tet (c src : Nat) (pl : List Nat) : (s.event c src pl).tet = s.tet := by
  unfold State.event; split
  · rfl
  · dsimp only; split <;> rfl
@[simp] theorem State.event_arrs (c src : Nat) (pl : List Nat) : (s.event c src pl).arrs = s.arrs := by
  unfold State.event; split
  · rfl
  · dsimp only; split <;> rfl
@[simp] theorem State.event_ns (c src : Nat) (pl : List Nat) : (s.event c src pl).ns = s.ns := by
  unfold State.event; split
  · rfl
  · dsimp only; split <;> rfl
@[simp] theorem State.event_jrn (c src : Nat) (pl : List Nat) : (s.event c src pl).jrn = s.jrn := by
  unfold State.event; split
  · rfl
  · dsimp only; split <;> rfl
@[simp] theorem State.event_bsk (c src : Nat) (pl : List Nat) : (s.event c src pl).bsk = s.bsk := by
  unfold State.event; split
  · rfl
  · dsimp only; split <;> rfl
@[simp] theorem State.event_ce (c src : Nat) (pl : List Nat) : (s.event c src pl).ce = s.ce := by
  unfold State.event; split
  · rfl
  · dsimp only; split <;> rfl
@[simp] theorem State.event_env (c src : Nat) (pl : List Nat) : (s.event c src pl).env = s.env := by
  unfold State.event; split
  · rfl
  · dsimp only; split <;> rfl
@[simp] theorem State.event_mbx (c src : Nat) (pl : List Nat) : (s.event c src pl).mbx = s.mbx := by
  unfold State.event; split
  · rfl
  · dsimp only; split <;> rfl
@[simp] theorem State.event_links (c src : Nat) (pl : List Nat) : (s.event c src pl).links = s.links := by
  unfold State.event; split
  · rfl
  · dsimp only; split <;> rfl
@[simp] theorem State.event_fab (c src : Nat) (pl : List Nat) : (s.event c src pl).fab = s.fab := by
  unfold State.event; split
  · rfl
  · dsimp only; split <;> rfl
@[simp] theorem State.event_spl (c src : Nat) (pl : List Nat) : (s.event c src pl).spl = s.spl := by
  unfold State.event; split
  · rfl
  · dsimp only; split <;> rfl
@[simp] theorem State.event_str (c src : Nat) (pl : List Nat) : (s.event c src pl).str = s.str := by
  unfold State.event; split
  · rfl
  · dsimp only; split <;> rfl
@[simp] theorem State.event_pair (c src : Nat) (pl : List Nat) : (s.event c src pl).pair = s.pair := by
  unfold State.event; split
  · rfl
  · dsimp only; split <;> rfl
@[simp] theorem State.event_dwn (c src : Nat) (pl : List Nat) : (s.event c src pl).dwn = s.dwn := by
  unfold State.event; split
  · rfl
  · dsimp only; split <;> rfl
@[simp] theorem State.event_pwr (c src : Nat) (pl : List Nat) : (s.event c src pl).pwr = s.pwr := by
  unfold State.event; split
  · rfl
  · dsimp only; split <;> rfl
@[simp] theorem State.event_jtag (c src : Nat) (pl : List Nat) : (s.event c src pl).jtag = s.jtag := by
  unfold State.event; split
  · rfl
  · dsimp only; split <;> rfl
@[simp] theorem State.event_nv (c src : Nat) (pl : List Nat) : (s.event c src pl).nv = s.nv := by
  unfold State.event; split
  · rfl
  · dsimp only; split <;> rfl
@[simp] theorem State.event_ext (c src : Nat) (pl : List Nat) : (s.event c src pl).ext = s.ext := by
  unfold State.event; split
  · rfl
  · dsimp only; split <;> rfl

/-! ### gauge -/

@[simp] theorem State.gauge_pending (g v : Nat) : (s.gauge g v).pending = s.pending := by
  unfold State.gauge; split <;> rfl
@[simp] theorem State.gauge_regs (g v : Nat) : (s.gauge g v).regs = s.regs := by
  unfold State.gauge; split <;> rfl
@[simp] theorem State.gauge_shadow (g v : Nat) : (s.gauge g v).shadow = s.shadow := by
  unfold State.gauge; split <;> rfl
@[simp] theorem State.gauge_latch (g v : Nat) : (s.gauge g v).latch = s.latch := by
  unfold State.gauge; split <;> rfl
@[simp] theorem State.gauge_out (g v : Nat) : (s.gauge g v).out = s.out := by
  unfold State.gauge; split <;> rfl
@[simp] theorem State.gauge_freeCtr (g v : Nat) : (s.gauge g v).freeCtr = s.freeCtr := by
  unfold State.gauge; split <;> rfl
@[simp] theorem State.gauge_kicks (g v : Nat) : (s.gauge g v).kicks = s.kicks := by
  unfold State.gauge; split <;> rfl
@[simp] theorem State.gauge_tet (g v : Nat) : (s.gauge g v).tet = s.tet := by
  unfold State.gauge; split <;> rfl
@[simp] theorem State.gauge_arrs (g v : Nat) : (s.gauge g v).arrs = s.arrs := by
  unfold State.gauge; split <;> rfl
@[simp] theorem State.gauge_ns (g v : Nat) : (s.gauge g v).ns = s.ns := by
  unfold State.gauge; split <;> rfl
@[simp] theorem State.gauge_jrn (g v : Nat) : (s.gauge g v).jrn = s.jrn := by
  unfold State.gauge; split <;> rfl
@[simp] theorem State.gauge_bsk (g v : Nat) : (s.gauge g v).bsk = s.bsk := by
  unfold State.gauge; split <;> rfl
@[simp] theorem State.gauge_ce (g v : Nat) : (s.gauge g v).ce = s.ce := by
  unfold State.gauge; split <;> rfl
@[simp] theorem State.gauge_env (g v : Nat) : (s.gauge g v).env = s.env := by
  unfold State.gauge; split <;> rfl
@[simp] theorem State.gauge_mbx (g v : Nat) : (s.gauge g v).mbx = s.mbx := by
  unfold State.gauge; split <;> rfl
@[simp] theorem State.gauge_links (g v : Nat) : (s.gauge g v).links = s.links := by
  unfold State.gauge; split <;> rfl
@[simp] theorem State.gauge_fab (g v : Nat) : (s.gauge g v).fab = s.fab := by
  unfold State.gauge; split <;> rfl
@[simp] theorem State.gauge_spl (g v : Nat) : (s.gauge g v).spl = s.spl := by
  unfold State.gauge; split <;> rfl
@[simp] theorem State.gauge_str (g v : Nat) : (s.gauge g v).str = s.str := by
  unfold State.gauge; split <;> rfl
@[simp] theorem State.gauge_pair (g v : Nat) : (s.gauge g v).pair = s.pair := by
  unfold State.gauge; split <;> rfl
@[simp] theorem State.gauge_dwn (g v : Nat) : (s.gauge g v).dwn = s.dwn := by
  unfold State.gauge; split <;> rfl
@[simp] theorem State.gauge_pwr (g v : Nat) : (s.gauge g v).pwr = s.pwr := by
  unfold State.gauge; split <;> rfl
@[simp] theorem State.gauge_jtag (g v : Nat) : (s.gauge g v).jtag = s.jtag := by
  unfold State.gauge; split <;> rfl
@[simp] theorem State.gauge_nv (g v : Nat) : (s.gauge g v).nv = s.nv := by
  unfold State.gauge; split <;> rfl
@[simp] theorem State.gauge_ext (g v : Nat) : (s.gauge g v).ext = s.ext := by
  unfold State.gauge; split <;> rfl
@[simp] theorem State.rd_gauge (g v : Nat) (f : Fld) : (s.gauge g v).rd f = s.rd f := State.rd_congr (by simp) f

/-! ### gaugeTime -/

@[simp] theorem State.gaugeTime_pending (g : Nat) : (s.gaugeTime g).pending = s.pending := by
  unfold State.gaugeTime State.gauge; split <;> rfl
@[simp] theorem State.gaugeTime_regs (g : Nat) : (s.gaugeTime g).regs = s.regs := by
  unfold State.gaugeTime State.gauge; split <;> rfl
@[simp] theorem State.gaugeTime_shadow (g : Nat) : (s.gaugeTime g).shadow = s.shadow := by
  unfold State.gaugeTime State.gauge; split <;> rfl
@[simp] theorem State.gaugeTime_latch (g : Nat) : (s.gaugeTime g).latch = s.latch := by
  unfold State.gaugeTime State.gauge; split <;> rfl
@[simp] theorem State.gaugeTime_out (g : Nat) : (s.gaugeTime g).out = s.out := by
  unfold State.gaugeTime State.gauge; split <;> rfl
@[simp] theorem State.gaugeTime_kicks (g : Nat) : (s.gaugeTime g).kicks = s.kicks := by
  unfold State.gaugeTime State.gauge; split <;> rfl
@[simp] theorem State.gaugeTime_tet (g : Nat) : (s.gaugeTime g).tet = s.tet := by
  unfold State.gaugeTime State.gauge; split <;> rfl
@[simp] theorem State.gaugeTime_arrs (g : Nat) : (s.gaugeTime g).arrs = s.arrs := by
  unfold State.gaugeTime State.gauge; split <;> rfl
@[simp] theorem State.gaugeTime_ns (g : Nat) : (s.gaugeTime g).ns = s.ns := by
  unfold State.gaugeTime State.gauge; split <;> rfl
@[simp] theorem State.gaugeTime_jrn (g : Nat) : (s.gaugeTime g).jrn = s.jrn := by
  unfold State.gaugeTime State.gauge; split <;> rfl
@[simp] theorem State.gaugeTime_bsk (g : Nat) : (s.gaugeTime g).bsk = s.bsk := by
  unfold State.gaugeTime State.gauge; split <;> rfl
@[simp] theorem State.gaugeTime_ce (g : Nat) : (s.gaugeTime g).ce = s.ce := by
  unfold State.gaugeTime State.gauge; split <;> rfl
@[simp] theorem State.gaugeTime_env (g : Nat) : (s.gaugeTime g).env = s.env := by
  unfold State.gaugeTime State.gauge; split <;> rfl
@[simp] theorem State.gaugeTime_mbx (g : Nat) : (s.gaugeTime g).mbx = s.mbx := by
  unfold State.gaugeTime State.gauge; split <;> rfl
@[simp] theorem State.gaugeTime_links (g : Nat) : (s.gaugeTime g).links = s.links := by
  unfold State.gaugeTime State.gauge; split <;> rfl
@[simp] theorem State.gaugeTime_fab (g : Nat) : (s.gaugeTime g).fab = s.fab := by
  unfold State.gaugeTime State.gauge; split <;> rfl
@[simp] theorem State.gaugeTime_spl (g : Nat) : (s.gaugeTime g).spl = s.spl := by
  unfold State.gaugeTime State.gauge; split <;> rfl
@[simp] theorem State.gaugeTime_str (g : Nat) : (s.gaugeTime g).str = s.str := by
  unfold State.gaugeTime State.gauge; split <;> rfl
@[simp] theorem State.gaugeTime_pair (g : Nat) : (s.gaugeTime g).pair = s.pair := by
  unfold State.gaugeTime State.gauge; split <;> rfl
@[simp] theorem State.gaugeTime_dwn (g : Nat) : (s.gaugeTime g).dwn = s.dwn := by
  unfold State.gaugeTime State.gauge; split <;> rfl
@[simp] theorem State.gaugeTime_pwr (g : Nat) : (s.gaugeTime g).pwr = s.pwr := by
  unfold State.gaugeTime State.gauge; split <;> rfl
@[simp] theorem State.gaugeTime_jtag (g : Nat) : (s.gaugeTime g).jtag = s.jtag := by
  unfold State.gaugeTime State.gauge; split <;> rfl
@[simp] theorem State.gaugeTime_nv (g : Nat) : (s.gaugeTime g).nv = s.nv := by
  unfold State.gaugeTime State.gauge; split <;> rfl
@[simp] theorem State.gaugeTime_ext (g : Nat) : (s.gaugeTime g).ext = s.ext := by
  unfold State.gaugeTime State.gauge; split <;> rfl
@[simp] theorem State.rd_gaugeTime (g : Nat) (f : Fld) : (s.gaugeTime g).rd f = s.rd f := State.rd_congr (by simp) f

/-! ### settle -/

@[simp] theorem settle_pending : (settle s).pending = s.pending := rfl
@[simp] theorem settle_regs : (settle s).regs = s.regs := rfl
@[simp] theorem settle_shadow : (settle s).shadow = s.shadow := rfl
@[simp] theorem settle_latch : (settle s).latch = s.latch := rfl
@[simp] theorem settle_freeCtr : (settle s).freeCtr = s.freeCtr := rfl
@[simp] theorem settle_kicks : (settle s).kicks = [] := rfl
@[simp] theorem settle_tet : (settle s).tet = s.tet := rfl
@[simp] theorem settle_arrs : (settle s).arrs = s.arrs := rfl
@[simp] theorem settle_ns : (settle s).ns = s.ns := rfl
@[simp] theorem settle_jrn : (settle s).jrn = s.jrn := rfl
@[simp] theorem settle_bsk : (settle s).bsk = s.bsk := rfl
@[simp] theorem settle_ce : (settle s).ce = s.ce := rfl
@[simp] theorem settle_env : (settle s).env = s.env := rfl
@[simp] theorem settle_wsk : (settle s).wsk = s.wsk := rfl
@[simp] theorem settle_mbx : (settle s).mbx = s.mbx := rfl
@[simp] theorem settle_fab : (settle s).fab = s.fab := rfl
@[simp] theorem settle_spl : (settle s).spl = s.spl := rfl
@[simp] theorem settle_str : (settle s).str = s.str := rfl
@[simp] theorem settle_pair : (settle s).pair = s.pair := rfl
@[simp] theorem settle_dwn : (settle s).dwn = s.dwn := rfl
@[simp] theorem settle_pwr : (settle s).pwr = s.pwr := rfl
@[simp] theorem settle_jtag : (settle s).jtag = s.jtag := rfl
@[simp] theorem settle_nv : (settle s).nv = s.nv := rfl
@[simp] theorem settle_ext : (settle s).ext = s.ext := rfl

/-! ### Registers -/

/-- A field reads what was last written to it, cut to its width. -/
@[simp] theorem State.rd_wr_same (f : Fld) (v : Nat) : (s.wr f v).rd f = v % 2 ^ f.w := by
  simp [State.rd, State.wr, SMap.get_set_same, Nat.xor_assoc]

/-- A write to another field leaves this one. -/
theorem State.rd_wr_ne {f g : Fld} (h : g.key ≠ f.key) (v : Nat) : (s.wr f v).rd g = s.rd g := by
  simp [State.rd, State.wr, SMap.get_set_ne 0 h]

/-- An event changes no register beyond the recorder's own two. -/
theorem State.rd_event {f : Fld} (h1 : f.key ≠ R.WSK_QUEUE_PEAK.key) (h2 : f.key ≠ R.WSK_INT_STATUS_QUEUE_WAIT.key)
    (c src : Nat) (pl : List Nat) : (s.event c src pl).rd f = s.rd f := by
  unfold State.event
  split
  · rfl
  · dsimp only
    split
    · rw [State.rd_wr_ne _ h1]; rfl
    · unfold State.raise; rw [State.rd_wr_ne _ h2]; rfl

@[simp] theorem State.rd_emit (e : OutEv) (f : Fld) : (s.emit e).rd f = s.rd f := rfl
@[simp] theorem State.rd_useFree (f : Fld) : s.useFree.rd f = s.rd f := rfl
@[simp] theorem settle_rd (f : Fld) : (settle s).rd f = s.rd f := rfl
@[simp] theorem settle_on (f : Fld) : (settle s).on f = s.on f := rfl

theorem State.rd_wrSet (f g : Fld) (v : Nat) : (s.wrSet f v).rd g = (s.wr f v).rd g := rfl
@[simp] theorem State.rd_wrSet_same (f : Fld) (v : Nat) : (s.wrSet f v).rd f = v % 2 ^ f.w := by
  rw [State.rd_wrSet, State.rd_wr_same]
theorem State.rd_wrSet_ne {f g : Fld} (h : g.key ≠ f.key) (v : Nat) : (s.wrSet f v).rd g = s.rd g := by
  rw [State.rd_wrSet, State.rd_wr_ne s h]

/-- Raising bits of a field sets them and keeps the others. -/
@[simp] theorem State.rd_raise_same (f : Fld) (m : Nat) : (s.raise f m).rd f = (s.rd f ||| m) % 2 ^ f.w :=
  State.rd_wr_same s f _
theorem State.rd_raise_ne {f g : Fld} (h : g.key ≠ f.key) (m : Nat) : (s.raise f m).rd g = s.rd g := State.rd_wr_ne s h _
@[simp] theorem State.rd_clr_same (f : Fld) (m : Nat) : (s.clr f m).rd f = (s.rd f - (s.rd f &&& m)) % 2 ^ f.w :=
  State.rd_wr_same s f _
theorem State.rd_clr_ne {f g : Fld} (h : g.key ≠ f.key) (m : Nat) : (s.clr f m).rd g = s.rd g := State.rd_wr_ne s h _
@[simp] theorem State.rd_incSat_same (f : Fld) (n : Nat) :
    (s.incSat f n).rd f = min (s.rd f + n) (2 ^ f.w - 1) := by
  unfold State.incSat
  rw [State.rd_wr_same]
  exact Nat.mod_eq_of_lt (by have := Nat.one_le_two_pow (n := f.w); omega)
theorem State.rd_incSat_ne {f g : Fld} (h : g.key ≠ f.key) (n : Nat) : (s.incSat f n).rd g = s.rd g := State.rd_wr_ne s h _
@[simp] theorem State.rd_incWrap_same (f : Fld) (n : Nat) : (s.incWrap f n).rd f = (s.rd f + n) % 2 ^ f.w :=
  State.rd_wr_same s f _
theorem State.rd_incWrap_ne {f g : Fld} (h : g.key ≠ f.key) (n : Nat) : (s.incWrap f n).rd g = s.rd g := State.rd_wr_ne s h _

/-- A register write keeps the register store in its canonical form. -/
theorem State.wr_regs_wf (f : Fld) (v : Nat) (h : SMap.wf 0 s.regs = true) : SMap.wf 0 (s.wr f v).regs = true :=
  SMap.wf_set 0 _ _ h

end Sys2Proof.Machine
end

