-- ==== Sys2Proof/Laws/Frames.lean ====
section
/-! SUPPORT. What the named updates of one part of the state leave alone: one lemma per field, and the register reads. -/

namespace Sys2Proof.Machine

variable (s : State)

/-! ### State.modArr -/

@[simp] theorem State.modArr_pending (a : Nat) (f : Arr → Arr) : (s.modArr a f).pending = s.pending := rfl
@[simp] theorem State.modArr_regs (a : Nat) (f : Arr → Arr) : (s.modArr a f).regs = s.regs := rfl
@[simp] theorem State.modArr_shadow (a : Nat) (f : Arr → Arr) : (s.modArr a f).shadow = s.shadow := rfl
@[simp] theorem State.modArr_latch (a : Nat) (f : Arr → Arr) : (s.modArr a f).latch = s.latch := rfl
@[simp] theorem State.modArr_out (a : Nat) (f : Arr → Arr) : (s.modArr a f).out = s.out := rfl
@[simp] theorem State.modArr_freeCtr (a : Nat) (f : Arr → Arr) : (s.modArr a f).freeCtr = s.freeCtr := rfl
@[simp] theorem State.modArr_kicks (a : Nat) (f : Arr → Arr) : (s.modArr a f).kicks = s.kicks := rfl
@[simp] theorem State.modArr_tet (a : Nat) (f : Arr → Arr) : (s.modArr a f).tet = s.tet := rfl
@[simp] theorem State.modArr_ns (a : Nat) (f : Arr → Arr) : (s.modArr a f).ns = s.ns := rfl
@[simp] theorem State.modArr_jrn (a : Nat) (f : Arr → Arr) : (s.modArr a f).jrn = s.jrn := rfl
@[simp] theorem State.modArr_bsk (a : Nat) (f : Arr → Arr) : (s.modArr a f).bsk = s.bsk := rfl
@[simp] theorem State.modArr_ce (a : Nat) (f : Arr → Arr) : (s.modArr a f).ce = s.ce := rfl
@[simp] theorem State.modArr_env (a : Nat) (f : Arr → Arr) : (s.modArr a f).env = s.env := rfl
@[simp] theorem State.modArr_wsk (a : Nat) (f : Arr → Arr) : (s.modArr a f).wsk = s.wsk := rfl
@[simp] theorem State.modArr_mbx (a : Nat) (f : Arr → Arr) : (s.modArr a f).mbx = s.mbx := rfl
@[simp] theorem State.modArr_links (a : Nat) (f : Arr → Arr) : (s.modArr a f).links = s.links := rfl
@[simp] theorem State.modArr_fab (a : Nat) (f : Arr → Arr) : (s.modArr a f).fab = s.fab := rfl
@[simp] theorem State.modArr_spl (a : Nat) (f : Arr → Arr) : (s.modArr a f).spl = s.spl := rfl
@[simp] theorem State.modArr_str (a : Nat) (f : Arr → Arr) : (s.modArr a f).str = s.str := rfl
@[simp] theorem State.modArr_pair (a : Nat) (f : Arr → Arr) : (s.modArr a f).pair = s.pair := rfl
@[simp] theorem State.modArr_dwn (a : Nat) (f : Arr → Arr) : (s.modArr a f).dwn = s.dwn := rfl
@[simp] theorem State.modArr_pwr (a : Nat) (f : Arr → Arr) : (s.modArr a f).pwr = s.pwr := rfl
@[simp] theorem State.modArr_jtag (a : Nat) (f : Arr → Arr) : (s.modArr a f).jtag = s.jtag := rfl
@[simp] theorem State.modArr_nv (a : Nat) (f : Arr → Arr) : (s.modArr a f).nv = s.nv := rfl
@[simp] theorem State.modArr_ext (a : Nat) (f : Arr → Arr) : (s.modArr a f).ext = s.ext := rfl
@[simp] theorem State.modArr_rd (a : Nat) (f : Arr → Arr) (g : Fld) : (s.modArr a f).rd g = s.rd g := State.rd_congr (by simp) g
@[simp] theorem State.modArr_on (a : Nat) (f : Arr → Arr) (g : Fld) : (s.modArr a f).on g = s.on g := by simp [State.on]

/-! ### State.modDrive -/

@[simp] theorem State.modDrive_pending (d : Nat) (f : Drive → Drive) : (s.modDrive d f).pending = s.pending := by
  unfold State.modDrive; split <;> rfl
@[simp] theorem State.modDrive_regs (d : Nat) (f : Drive → Drive) : (s.modDrive d f).regs = s.regs := by
  unfold State.modDrive; split <;> rfl
@[simp] theorem State.modDrive_shadow (d : Nat) (f : Drive → Drive) : (s.modDrive d f).shadow = s.shadow := by
  unfold State.modDrive; split <;> rfl
@[simp] theorem State.modDrive_latch (d : Nat) (f : Drive → Drive) : (s.modDrive d f).latch = s.latch := by
  unfold State.modDrive; split <;> rfl
@[simp] theorem State.modDrive_out (d : Nat) (f : Drive → Drive) : (s.modDrive d f).out = s.out := by
  unfold State.modDrive; split <;> rfl
@[simp] theorem State.modDrive_freeCtr (d : Nat) (f : Drive → Drive) : (s.modDrive d f).freeCtr = s.freeCtr := by
  unfold State.modDrive; split <;> rfl
@[simp] theorem State.modDrive_kicks (d : Nat) (f : Drive → Drive) : (s.modDrive d f).kicks = s.kicks := by
  unfold State.modDrive; split <;> rfl
@[simp] theorem State.modDrive_tet (d : Nat) (f : Drive → Drive) : (s.modDrive d f).tet = s.tet := by
  unfold State.modDrive; split <;> rfl
@[simp] theorem State.modDrive_arrs (d : Nat) (f : Drive → Drive) : (s.modDrive d f).arrs = s.arrs := by
  unfold State.modDrive; split <;> rfl
@[simp] theorem State.modDrive_ns (d : Nat) (f : Drive → Drive) : (s.modDrive d f).ns = s.ns := by
  unfold State.modDrive; split <;> rfl
@[simp] theorem State.modDrive_jrn (d : Nat) (f : Drive → Drive) : (s.modDrive d f).jrn = s.jrn := by
  unfold State.modDrive; split <;> rfl
@[simp] theorem State.modDrive_bsk (d : Nat) (f : Drive → Drive) : (s.modDrive d f).bsk = s.bsk := by
  unfold State.modDrive; split <;> rfl
@[simp] theorem State.modDrive_ce (d : Nat) (f : Drive → Drive) : (s.modDrive d f).ce = s.ce := by
  unfold State.modDrive; split <;> rfl
@[simp] theorem State.modDrive_env (d : Nat) (f : Drive → Drive) : (s.modDrive d f).env = s.env := by
  unfold State.modDrive; split <;> rfl
@[simp] theorem State.modDrive_wsk (d : Nat) (f : Drive → Drive) : (s.modDrive d f).wsk = s.wsk := by
  unfold State.modDrive; split <;> rfl
@[simp] theorem State.modDrive_mbx (d : Nat) (f : Drive → Drive) : (s.modDrive d f).mbx = s.mbx := by
  unfold State.modDrive; split <;> rfl
@[simp] theorem State.modDrive_links (d : Nat) (f : Drive → Drive) : (s.modDrive d f).links = s.links := by
  unfold State.modDrive; split <;> rfl
@[simp] theorem State.modDrive_fab (d : Nat) (f : Drive → Drive) : (s.modDrive d f).fab = s.fab := by
  unfold State.modDrive; split <;> rfl
@[simp] theorem State.modDrive_spl (d : Nat) (f : Drive → Drive) : (s.modDrive d f).spl = s.spl := by
  unfold State.modDrive; split <;> rfl
@[simp] theorem State.modDrive_str (d : Nat) (f : Drive → Drive) : (s.modDrive d f).str = s.str := by
  unfold State.modDrive; split <;> rfl
@[simp] theorem State.modDrive_pair (d : Nat) (f : Drive → Drive) : (s.modDrive d f).pair = s.pair := by
  unfold State.modDrive; split <;> rfl
@[simp] theorem State.modDrive_dwn (d : Nat) (f : Drive → Drive) : (s.modDrive d f).dwn = s.dwn := by
  unfold State.modDrive; split <;> rfl
@[simp] theorem State.modDrive_pwr (d : Nat) (f : Drive → Drive) : (s.modDrive d f).pwr = s.pwr := by
  unfold State.modDrive; split <;> rfl
@[simp] theorem State.modDrive_jtag (d : Nat) (f : Drive → Drive) : (s.modDrive d f).jtag = s.jtag := by
  unfold State.modDrive; split <;> rfl
@[simp] theorem State.modDrive_nv (d : Nat) (f : Drive → Drive) : (s.modDrive d f).nv = s.nv := by
  unfold State.modDrive; split <;> rfl
@[simp] theorem State.modDrive_rd (d : Nat) (f : Drive → Drive) (g : Fld) : (s.modDrive d f).rd g = s.rd g := State.rd_congr (by simp) g
@[simp] theorem State.modDrive_on (d : Nat) (f : Drive → Drive) (g : Fld) : (s.modDrive d f).on g = s.on g := by simp [State.on]

/-! ### State.modCtrl -/

@[simp] theorem State.modCtrl_pending (c : Nat) (f : Ctrl → Ctrl) : (s.modCtrl c f).pending = s.pending := rfl
@[simp] theorem State.modCtrl_regs (c : Nat) (f : Ctrl → Ctrl) : (s.modCtrl c f).regs = s.regs := rfl
@[simp] theorem State.modCtrl_shadow (c : Nat) (f : Ctrl → Ctrl) : (s.modCtrl c f).shadow = s.shadow := rfl
@[simp] theorem State.modCtrl_latch (c : Nat) (f : Ctrl → Ctrl) : (s.modCtrl c f).latch = s.latch := rfl
@[simp] theorem State.modCtrl_out (c : Nat) (f : Ctrl → Ctrl) : (s.modCtrl c f).out = s.out := rfl
@[simp] theorem State.modCtrl_freeCtr (c : Nat) (f : Ctrl → Ctrl) : (s.modCtrl c f).freeCtr = s.freeCtr := rfl
@[simp] theorem State.modCtrl_kicks (c : Nat) (f : Ctrl → Ctrl) : (s.modCtrl c f).kicks = s.kicks := rfl
@[simp] theorem State.modCtrl_tet (c : Nat) (f : Ctrl → Ctrl) : (s.modCtrl c f).tet = s.tet := rfl
@[simp] theorem State.modCtrl_arrs (c : Nat) (f : Ctrl → Ctrl) : (s.modCtrl c f).arrs = s.arrs := rfl
@[simp] theorem State.modCtrl_ns (c : Nat) (f : Ctrl → Ctrl) : (s.modCtrl c f).ns = s.ns := rfl
@[simp] theorem State.modCtrl_jrn (c : Nat) (f : Ctrl → Ctrl) : (s.modCtrl c f).jrn = s.jrn := rfl
@[simp] theorem State.modCtrl_bsk (c : Nat) (f : Ctrl → Ctrl) : (s.modCtrl c f).bsk = s.bsk := rfl
@[simp] theorem State.modCtrl_env (c : Nat) (f : Ctrl → Ctrl) : (s.modCtrl c f).env = s.env := rfl
@[simp] theorem State.modCtrl_wsk (c : Nat) (f : Ctrl → Ctrl) : (s.modCtrl c f).wsk = s.wsk := rfl
@[simp] theorem State.modCtrl_mbx (c : Nat) (f : Ctrl → Ctrl) : (s.modCtrl c f).mbx = s.mbx := rfl
@[simp] theorem State.modCtrl_links (c : Nat) (f : Ctrl → Ctrl) : (s.modCtrl c f).links = s.links := rfl
@[simp] theorem State.modCtrl_fab (c : Nat) (f : Ctrl → Ctrl) : (s.modCtrl c f).fab = s.fab := rfl
@[simp] theorem State.modCtrl_spl (c : Nat) (f : Ctrl → Ctrl) : (s.modCtrl c f).spl = s.spl := rfl
@[simp] theorem State.modCtrl_str (c : Nat) (f : Ctrl → Ctrl) : (s.modCtrl c f).str = s.str := rfl
@[simp] theorem State.modCtrl_pair (c : Nat) (f : Ctrl → Ctrl) : (s.modCtrl c f).pair = s.pair := rfl
@[simp] theorem State.modCtrl_dwn (c : Nat) (f : Ctrl → Ctrl) : (s.modCtrl c f).dwn = s.dwn := rfl
@[simp] theorem State.modCtrl_pwr (c : Nat) (f : Ctrl → Ctrl) : (s.modCtrl c f).pwr = s.pwr := rfl
@[simp] theorem State.modCtrl_jtag (c : Nat) (f : Ctrl → Ctrl) : (s.modCtrl c f).jtag = s.jtag := rfl
@[simp] theorem State.modCtrl_nv (c : Nat) (f : Ctrl → Ctrl) : (s.modCtrl c f).nv = s.nv := rfl
@[simp] theorem State.modCtrl_ext (c : Nat) (f : Ctrl → Ctrl) : (s.modCtrl c f).ext = s.ext := rfl
@[simp] theorem State.modCtrl_rd (c : Nat) (f : Ctrl → Ctrl) (g : Fld) : (s.modCtrl c f).rd g = s.rd g := State.rd_congr (by simp) g
@[simp] theorem State.modCtrl_on (c : Nat) (f : Ctrl → Ctrl) (g : Fld) : (s.modCtrl c f).on g = s.on g := by simp [State.on]

/-! ### State.modQueue -/

@[simp] theorem State.modQueue_pending (c q : Nat) (f : Queue → Queue) : (s.modQueue c q f).pending = s.pending := rfl
@[simp] theorem State.modQueue_regs (c q : Nat) (f : Queue → Queue) : (s.modQueue c q f).regs = s.regs := rfl
@[simp] theorem State.modQueue_shadow (c q : Nat) (f : Queue → Queue) : (s.modQueue c q f).shadow = s.shadow := rfl
@[simp] theorem State.modQueue_latch (c q : Nat) (f : Queue → Queue) : (s.modQueue c q f).latch = s.latch := rfl
@[simp] theorem State.modQueue_out (c q : Nat) (f : Queue → Queue) : (s.modQueue c q f).out = s.out := rfl
@[simp] theorem State.modQueue_freeCtr (c q : Nat) (f : Queue → Queue) : (s.modQueue c q f).freeCtr = s.freeCtr := rfl
@[simp] theorem State.modQueue_kicks (c q : Nat) (f : Queue → Queue) : (s.modQueue c q f).kicks = s.kicks := rfl
@[simp] theorem State.modQueue_tet (c q : Nat) (f : Queue → Queue) : (s.modQueue c q f).tet = s.tet := rfl
@[simp] theorem State.modQueue_arrs (c q : Nat) (f : Queue → Queue) : (s.modQueue c q f).arrs = s.arrs := rfl
@[simp] theorem State.modQueue_ns (c q : Nat) (f : Queue → Queue) : (s.modQueue c q f).ns = s.ns := rfl
@[simp] theorem State.modQueue_jrn (c q : Nat) (f : Queue → Queue) : (s.modQueue c q f).jrn = s.jrn := rfl
@[simp] theorem State.modQueue_bsk (c q : Nat) (f : Queue → Queue) : (s.modQueue c q f).bsk = s.bsk := rfl
@[simp] theorem State.modQueue_env (c q : Nat) (f : Queue → Queue) : (s.modQueue c q f).env = s.env := rfl
@[simp] theorem State.modQueue_wsk (c q : Nat) (f : Queue → Queue) : (s.modQueue c q f).wsk = s.wsk := rfl
@[simp] theorem State.modQueue_mbx (c q : Nat) (f : Queue → Queue) : (s.modQueue c q f).mbx = s.mbx := rfl
@[simp] theorem State.modQueue_links (c q : Nat) (f : Queue → Queue) : (s.modQueue c q f).links = s.links := rfl
@[simp] theorem State.modQueue_fab (c q : Nat) (f : Queue → Queue) : (s.modQueue c q f).fab = s.fab := rfl
@[simp] theorem State.modQueue_spl (c q : Nat) (f : Queue → Queue) : (s.modQueue c q f).spl = s.spl := rfl
@[simp] theorem State.modQueue_str (c q : Nat) (f : Queue → Queue) : (s.modQueue c q f).str = s.str := rfl
@[simp] theorem State.modQueue_pair (c q : Nat) (f : Queue → Queue) : (s.modQueue c q f).pair = s.pair := rfl
@[simp] theorem State.modQueue_dwn (c q : Nat) (f : Queue → Queue) : (s.modQueue c q f).dwn = s.dwn := rfl
@[simp] theorem State.modQueue_pwr (c q : Nat) (f : Queue → Queue) : (s.modQueue c q f).pwr = s.pwr := rfl
@[simp] theorem State.modQueue_jtag (c q : Nat) (f : Queue → Queue) : (s.modQueue c q f).jtag = s.jtag := rfl
@[simp] theorem State.modQueue_nv (c q : Nat) (f : Queue → Queue) : (s.modQueue c q f).nv = s.nv := rfl
@[simp] theorem State.modQueue_ext (c q : Nat) (f : Queue → Queue) : (s.modQueue c q f).ext = s.ext := rfl
@[simp] theorem State.modQueue_rd (c q : Nat) (f : Queue → Queue) (g : Fld) : (s.modQueue c q f).rd g = s.rd g := State.rd_congr (by simp) g
@[simp] theorem State.modQueue_on (c q : Nat) (f : Queue → Queue) (g : Fld) : (s.modQueue c q f).on g = s.on g := by simp [State.on]

/-! ### State.putCtx -/

@[simp] theorem State.putCtx_pending (c : Ctx) : (s.putCtx c).pending = s.pending := rfl
@[simp] theorem State.putCtx_regs (c : Ctx) : (s.putCtx c).regs = s.regs := rfl
@[simp] theorem State.putCtx_shadow (c : Ctx) : (s.putCtx c).shadow = s.shadow := rfl
@[simp] theorem State.putCtx_latch (c : Ctx) : (s.putCtx c).latch = s.latch := rfl
@[simp] theorem State.putCtx_out (c : Ctx) : (s.putCtx c).out = s.out := rfl
@[simp] theorem State.putCtx_freeCtr (c : Ctx) : (s.putCtx c).freeCtr = s.freeCtr := rfl
@[simp] theorem State.putCtx_kicks (c : Ctx) : (s.putCtx c).kicks = s.kicks := rfl
@[simp] theorem State.putCtx_tet (c : Ctx) : (s.putCtx c).tet = s.tet := rfl
@[simp] theorem State.putCtx_arrs (c : Ctx) : (s.putCtx c).arrs = s.arrs := rfl
@[simp] theorem State.putCtx_ns (c : Ctx) : (s.putCtx c).ns = s.ns := rfl
@[simp] theorem State.putCtx_jrn (c : Ctx) : (s.putCtx c).jrn = s.jrn := rfl
@[simp] theorem State.putCtx_bsk (c : Ctx) : (s.putCtx c).bsk = s.bsk := rfl
@[simp] theorem State.putCtx_env (c : Ctx) : (s.putCtx c).env = s.env := rfl
@[simp] theorem State.putCtx_wsk (c : Ctx) : (s.putCtx c).wsk = s.wsk := rfl
@[simp] theorem State.putCtx_mbx (c : Ctx) : (s.putCtx c).mbx = s.mbx := rfl
@[simp] theorem State.putCtx_links (c : Ctx) : (s.putCtx c).links = s.links := rfl
@[simp] theorem State.putCtx_fab (c : Ctx) : (s.putCtx c).fab = s.fab := rfl
@[simp] theorem State.putCtx_spl (c : Ctx) : (s.putCtx c).spl = s.spl := rfl
@[simp] theorem State.putCtx_str (c : Ctx) : (s.putCtx c).str = s.str := rfl
@[simp] theorem State.putCtx_pair (c : Ctx) : (s.putCtx c).pair = s.pair := rfl
@[simp] theorem State.putCtx_dwn (c : Ctx) : (s.putCtx c).dwn = s.dwn := rfl
@[simp] theorem State.putCtx_pwr (c : Ctx) : (s.putCtx c).pwr = s.pwr := rfl
@[simp] theorem State.putCtx_jtag (c : Ctx) : (s.putCtx c).jtag = s.jtag := rfl
@[simp] theorem State.putCtx_nv (c : Ctx) : (s.putCtx c).nv = s.nv := rfl
@[simp] theorem State.putCtx_ext (c : Ctx) : (s.putCtx c).ext = s.ext := rfl
@[simp] theorem State.putCtx_rd (c : Ctx) (g : Fld) : (s.putCtx c).rd g = s.rd g := State.rd_congr (by simp) g
@[simp] theorem State.putCtx_on (c : Ctx) (g : Fld) : (s.putCtx c).on g = s.on g := by simp [State.on]

/-! ### State.modQp -/

@[simp] theorem State.modQp_pending (q : Nat) (f : Qp → Qp) : (s.modQp q f).pending = s.pending := rfl
@[simp] theorem State.modQp_regs (q : Nat) (f : Qp → Qp) : (s.modQp q f).regs = s.regs := rfl
@[simp] theorem State.modQp_shadow (q : Nat) (f : Qp → Qp) : (s.modQp q f).shadow = s.shadow := rfl
@[simp] theorem State.modQp_latch (q : Nat) (f : Qp → Qp) : (s.modQp q f).latch = s.latch := rfl
@[simp] theorem State.modQp_out (q : Nat) (f : Qp → Qp) : (s.modQp q f).out = s.out := rfl
@[simp] theorem State.modQp_freeCtr (q : Nat) (f : Qp → Qp) : (s.modQp q f).freeCtr = s.freeCtr := rfl
@[simp] theorem State.modQp_kicks (q : Nat) (f : Qp → Qp) : (s.modQp q f).kicks = s.kicks := rfl
@[simp] theorem State.modQp_tet (q : Nat) (f : Qp → Qp) : (s.modQp q f).tet = s.tet := rfl
@[simp] theorem State.modQp_arrs (q : Nat) (f : Qp → Qp) : (s.modQp q f).arrs = s.arrs := rfl
@[simp] theorem State.modQp_ns (q : Nat) (f : Qp → Qp) : (s.modQp q f).ns = s.ns := rfl
@[simp] theorem State.modQp_jrn (q : Nat) (f : Qp → Qp) : (s.modQp q f).jrn = s.jrn := rfl
@[simp] theorem State.modQp_bsk (q : Nat) (f : Qp → Qp) : (s.modQp q f).bsk = s.bsk := rfl
@[simp] theorem State.modQp_ce (q : Nat) (f : Qp → Qp) : (s.modQp q f).ce = s.ce := rfl
@[simp] theorem State.modQp_env (q : Nat) (f : Qp → Qp) : (s.modQp q f).env = s.env := rfl
@[simp] theorem State.modQp_wsk (q : Nat) (f : Qp → Qp) : (s.modQp q f).wsk = s.wsk := rfl
@[simp] theorem State.modQp_mbx (q : Nat) (f : Qp → Qp) : (s.modQp q f).mbx = s.mbx := rfl
@[simp] theorem State.modQp_links (q : Nat) (f : Qp → Qp) : (s.modQp q f).links = s.links := rfl
@[simp] theorem State.modQp_spl (q : Nat) (f : Qp → Qp) : (s.modQp q f).spl = s.spl := rfl
@[simp] theorem State.modQp_str (q : Nat) (f : Qp → Qp) : (s.modQp q f).str = s.str := rfl
@[simp] theorem State.modQp_pair (q : Nat) (f : Qp → Qp) : (s.modQp q f).pair = s.pair := rfl
@[simp] theorem State.modQp_dwn (q : Nat) (f : Qp → Qp) : (s.modQp q f).dwn = s.dwn := rfl
@[simp] theorem State.modQp_pwr (q : Nat) (f : Qp → Qp) : (s.modQp q f).pwr = s.pwr := rfl
@[simp] theorem State.modQp_jtag (q : Nat) (f : Qp → Qp) : (s.modQp q f).jtag = s.jtag := rfl
@[simp] theorem State.modQp_nv (q : Nat) (f : Qp → Qp) : (s.modQp q f).nv = s.nv := rfl
@[simp] theorem State.modQp_ext (q : Nat) (f : Qp → Qp) : (s.modQp q f).ext = s.ext := rfl
@[simp] theorem State.modQp_rd (q : Nat) (f : Qp → Qp) (g : Fld) : (s.modQp q f).rd g = s.rd g := State.rd_congr (by simp) g
@[simp] theorem State.modQp_on (q : Nat) (f : Qp → Qp) (g : Fld) : (s.modQp q f).on g = s.on g := by simp [State.on]

/-! ### State.modLink -/

@[simp] theorem State.modLink_pending (l : Nat) (f : HLink → HLink) : (s.modLink l f).pending = s.pending := rfl
@[simp] theorem State.modLink_regs (l : Nat) (f : HLink → HLink) : (s.modLink l f).regs = s.regs := rfl
@[simp] theorem State.modLink_shadow (l : Nat) (f : HLink → HLink) : (s.modLink l f).shadow = s.shadow := rfl
@[simp] theorem State.modLink_latch (l : Nat) (f : HLink → HLink) : (s.modLink l f).latch = s.latch := rfl
@[simp] theorem State.modLink_out (l : Nat) (f : HLink → HLink) : (s.modLink l f).out = s.out := rfl
@[simp] theorem State.modLink_freeCtr (l : Nat) (f : HLink → HLink) : (s.modLink l f).freeCtr = s.freeCtr := rfl
@[simp] theorem State.modLink_kicks (l : Nat) (f : HLink → HLink) : (s.modLink l f).kicks = s.kicks := rfl
@[simp] theorem State.modLink_tet (l : Nat) (f : HLink → HLink) : (s.modLink l f).tet = s.tet := rfl
@[simp] theorem State.modLink_arrs (l : Nat) (f : HLink → HLink) : (s.modLink l f).arrs = s.arrs := rfl
@[simp] theorem State.modLink_ns (l : Nat) (f : HLink → HLink) : (s.modLink l f).ns = s.ns := rfl
@[simp] theorem State.modLink_jrn (l : Nat) (f : HLink → HLink) : (s.modLink l f).jrn = s.jrn := rfl
@[simp] theorem State.modLink_bsk (l : Nat) (f : HLink → HLink) : (s.modLink l f).bsk = s.bsk := rfl
@[simp] theorem State.modLink_ce (l : Nat) (f : HLink → HLink) : (s.modLink l f).ce = s.ce := rfl
@[simp] theorem State.modLink_env (l : Nat) (f : HLink → HLink) : (s.modLink l f).env = s.env := rfl
@[simp] theorem State.modLink_wsk (l : Nat) (f : HLink → HLink) : (s.modLink l f).wsk = s.wsk := rfl
@[simp] theorem State.modLink_mbx (l : Nat) (f : HLink → HLink) : (s.modLink l f).mbx = s.mbx := rfl
@[simp] theorem State.modLink_fab (l : Nat) (f : HLink → HLink) : (s.modLink l f).fab = s.fab := rfl
@[simp] theorem State.modLink_spl (l : Nat) (f : HLink → HLink) : (s.modLink l f).spl = s.spl := rfl
@[simp] theorem State.modLink_str (l : Nat) (f : HLink → HLink) : (s.modLink l f).str = s.str := rfl
@[simp] theorem State.modLink_pair (l : Nat) (f : HLink → HLink) : (s.modLink l f).pair = s.pair := rfl
@[simp] theorem State.modLink_dwn (l : Nat) (f : HLink → HLink) : (s.modLink l f).dwn = s.dwn := rfl
@[simp] theorem State.modLink_pwr (l : Nat) (f : HLink → HLink) : (s.modLink l f).pwr = s.pwr := rfl
@[simp] theorem State.modLink_jtag (l : Nat) (f : HLink → HLink) : (s.modLink l f).jtag = s.jtag := rfl
@[simp] theorem State.modLink_nv (l : Nat) (f : HLink → HLink) : (s.modLink l f).nv = s.nv := rfl
@[simp] theorem State.modLink_ext (l : Nat) (f : HLink → HLink) : (s.modLink l f).ext = s.ext := rfl
@[simp] theorem State.modLink_rd (l : Nat) (f : HLink → HLink) (g : Fld) : (s.modLink l f).rd g = s.rd g := State.rd_congr (by simp) g
@[simp] theorem State.modLink_on (l : Nat) (f : HLink → HLink) (g : Fld) : (s.modLink l f).on g = s.on g := by simp [State.on]

/-! ### State.modCh -/

@[simp] theorem State.modCh_pending (c : Nat) (f : SplCh → SplCh) : (s.modCh c f).pending = s.pending := rfl
@[simp] theorem State.modCh_regs (c : Nat) (f : SplCh → SplCh) : (s.modCh c f).regs = s.regs := rfl
@[simp] theorem State.modCh_shadow (c : Nat) (f : SplCh → SplCh) : (s.modCh c f).shadow = s.shadow := rfl
@[simp] theorem State.modCh_latch (c : Nat) (f : SplCh → SplCh) : (s.modCh c f).latch = s.latch := rfl
@[simp] theorem State.modCh_out (c : Nat) (f : SplCh → SplCh) : (s.modCh c f).out = s.out := rfl
@[simp] theorem State.modCh_freeCtr (c : Nat) (f : SplCh → SplCh) : (s.modCh c f).freeCtr = s.freeCtr := rfl
@[simp] theorem State.modCh_kicks (c : Nat) (f : SplCh → SplCh) : (s.modCh c f).kicks = s.kicks := rfl
@[simp] theorem State.modCh_tet (c : Nat) (f : SplCh → SplCh) : (s.modCh c f).tet = s.tet := rfl
@[simp] theorem State.modCh_arrs (c : Nat) (f : SplCh → SplCh) : (s.modCh c f).arrs = s.arrs := rfl
@[simp] theorem State.modCh_ns (c : Nat) (f : SplCh → SplCh) : (s.modCh c f).ns = s.ns := rfl
@[simp] theorem State.modCh_jrn (c : Nat) (f : SplCh → SplCh) : (s.modCh c f).jrn = s.jrn := rfl
@[simp] theorem State.modCh_bsk (c : Nat) (f : SplCh → SplCh) : (s.modCh c f).bsk = s.bsk := rfl
@[simp] theorem State.modCh_ce (c : Nat) (f : SplCh → SplCh) : (s.modCh c f).ce = s.ce := rfl
@[simp] theorem State.modCh_env (c : Nat) (f : SplCh → SplCh) : (s.modCh c f).env = s.env := rfl
@[simp] theorem State.modCh_wsk (c : Nat) (f : SplCh → SplCh) : (s.modCh c f).wsk = s.wsk := rfl
@[simp] theorem State.modCh_mbx (c : Nat) (f : SplCh → SplCh) : (s.modCh c f).mbx = s.mbx := rfl
@[simp] theorem State.modCh_links (c : Nat) (f : SplCh → SplCh) : (s.modCh c f).links = s.links := rfl
@[simp] theorem State.modCh_fab (c : Nat) (f : SplCh → SplCh) : (s.modCh c f).fab = s.fab := rfl
@[simp] theorem State.modCh_str (c : Nat) (f : SplCh → SplCh) : (s.modCh c f).str = s.str := rfl
@[simp] theorem State.modCh_pair (c : Nat) (f : SplCh → SplCh) : (s.modCh c f).pair = s.pair := rfl
@[simp] theorem State.modCh_dwn (c : Nat) (f : SplCh → SplCh) : (s.modCh c f).dwn = s.dwn := rfl
@[simp] theorem State.modCh_pwr (c : Nat) (f : SplCh → SplCh) : (s.modCh c f).pwr = s.pwr := rfl
@[simp] theorem State.modCh_jtag (c : Nat) (f : SplCh → SplCh) : (s.modCh c f).jtag = s.jtag := rfl
@[simp] theorem State.modCh_nv (c : Nat) (f : SplCh → SplCh) : (s.modCh c f).nv = s.nv := rfl
@[simp] theorem State.modCh_ext (c : Nat) (f : SplCh → SplCh) : (s.modCh c f).ext = s.ext := rfl
@[simp] theorem State.modCh_rd (c : Nat) (f : SplCh → SplCh) (g : Fld) : (s.modCh c f).rd g = s.rd g := State.rd_congr (by simp) g
@[simp] theorem State.modCh_on (c : Nat) (f : SplCh → SplCh) (g : Fld) : (s.modCh c f).on g = s.on g := by simp [State.on]

/-! ### cqe -/

@[simp] theorem cqe_pending (h : IoHdr) (sct sc : Nat) (dnr : Bool) (d : Nat) (data : List Block) : (cqe h sct sc dnr d data s).pending = s.pending := by
  unfold cqe adminDone errLog; dsimp only; split <;> split <;> rfl
@[simp] theorem cqe_regs (h : IoHdr) (sct sc : Nat) (dnr : Bool) (d : Nat) (data : List Block) : (cqe h sct sc dnr d data s).regs = s.regs := by
  unfold cqe adminDone errLog; dsimp only; split <;> split <;> rfl
@[simp] theorem cqe_shadow (h : IoHdr) (sct sc : Nat) (dnr : Bool) (d : Nat) (data : List Block) : (cqe h sct sc dnr d data s).shadow = s.shadow := by
  unfold cqe adminDone errLog; dsimp only; split <;> split <;> rfl
@[simp] theorem cqe_latch (h : IoHdr) (sct sc : Nat) (dnr : Bool) (d : Nat) (data : List Block) : (cqe h sct sc dnr d data s).latch = s.latch := by
  unfold cqe adminDone errLog; dsimp only; split <;> split <;> rfl
@[simp] theorem cqe_freeCtr (h : IoHdr) (sct sc : Nat) (dnr : Bool) (d : Nat) (data : List Block) : (cqe h sct sc dnr d data s).freeCtr = s.freeCtr := by
  unfold cqe adminDone errLog; dsimp only; split <;> split <;> rfl
@[simp] theorem cqe_kicks (h : IoHdr) (sct sc : Nat) (dnr : Bool) (d : Nat) (data : List Block) : (cqe h sct sc dnr d data s).kicks = s.kicks := by
  unfold cqe adminDone errLog; dsimp only; split <;> split <;> rfl
@[simp] theorem cqe_tet (h : IoHdr) (sct sc : Nat) (dnr : Bool) (d : Nat) (data : List Block) : (cqe h sct sc dnr d data s).tet = s.tet := by
  unfold cqe adminDone errLog; dsimp only; split <;> split <;> rfl
@[simp] theorem cqe_arrs (h : IoHdr) (sct sc : Nat) (dnr : Bool) (d : Nat) (data : List Block) : (cqe h sct sc dnr d data s).arrs = s.arrs := by
  unfold cqe adminDone errLog; dsimp only; split <;> split <;> rfl
@[simp] theorem cqe_ns (h : IoHdr) (sct sc : Nat) (dnr : Bool) (d : Nat) (data : List Block) : (cqe h sct sc dnr d data s).ns = s.ns := by
  unfold cqe adminDone errLog; dsimp only; split <;> split <;> rfl
@[simp] theorem cqe_jrn (h : IoHdr) (sct sc : Nat) (dnr : Bool) (d : Nat) (data : List Block) : (cqe h sct sc dnr d data s).jrn = s.jrn := by
  unfold cqe adminDone errLog; dsimp only; split <;> split <;> rfl
@[simp] theorem cqe_bsk (h : IoHdr) (sct sc : Nat) (dnr : Bool) (d : Nat) (data : List Block) : (cqe h sct sc dnr d data s).bsk = s.bsk := by
  unfold cqe adminDone errLog; dsimp only; split <;> split <;> rfl
@[simp] theorem cqe_env (h : IoHdr) (sct sc : Nat) (dnr : Bool) (d : Nat) (data : List Block) : (cqe h sct sc dnr d data s).env = s.env := by
  unfold cqe adminDone errLog; dsimp only; split <;> split <;> rfl
@[simp] theorem cqe_wsk (h : IoHdr) (sct sc : Nat) (dnr : Bool) (d : Nat) (data : List Block) : (cqe h sct sc dnr d data s).wsk = s.wsk := by
  unfold cqe adminDone errLog; dsimp only; split <;> split <;> rfl
@[simp] theorem cqe_mbx (h : IoHdr) (sct sc : Nat) (dnr : Bool) (d : Nat) (data : List Block) : (cqe h sct sc dnr d data s).mbx = s.mbx := by
  unfold cqe adminDone errLog; dsimp only; split <;> split <;> rfl
@[simp] theorem cqe_links (h : IoHdr) (sct sc : Nat) (dnr : Bool) (d : Nat) (data : List Block) : (cqe h sct sc dnr d data s).links = s.links := by
  unfold cqe adminDone errLog; dsimp only; split <;> split <;> rfl
@[simp] theorem cqe_fab (h : IoHdr) (sct sc : Nat) (dnr : Bool) (d : Nat) (data : List Block) : (cqe h sct sc dnr d data s).fab = s.fab := by
  unfold cqe adminDone errLog; dsimp only; split <;> split <;> rfl
@[simp] theorem cqe_spl (h : IoHdr) (sct sc : Nat) (dnr : Bool) (d : Nat) (data : List Block) : (cqe h sct sc dnr d data s).spl = s.spl := by
  unfold cqe adminDone errLog; dsimp only; split <;> split <;> rfl
@[simp] theorem cqe_str (h : IoHdr) (sct sc : Nat) (dnr : Bool) (d : Nat) (data : List Block) : (cqe h sct sc dnr d data s).str = s.str := by
  unfold cqe adminDone errLog; dsimp only; split <;> split <;> rfl
@[simp] theorem cqe_pair (h : IoHdr) (sct sc : Nat) (dnr : Bool) (d : Nat) (data : List Block) : (cqe h sct sc dnr d data s).pair = s.pair := by
  unfold cqe adminDone errLog; dsimp only; split <;> split <;> rfl
@[simp] theorem cqe_dwn (h : IoHdr) (sct sc : Nat) (dnr : Bool) (d : Nat) (data : List Block) : (cqe h sct sc dnr d data s).dwn = s.dwn := by
  unfold cqe adminDone errLog; dsimp only; split <;> split <;> rfl
@[simp] theorem cqe_pwr (h : IoHdr) (sct sc : Nat) (dnr : Bool) (d : Nat) (data : List Block) : (cqe h sct sc dnr d data s).pwr = s.pwr := by
  unfold cqe adminDone errLog; dsimp only; split <;> split <;> rfl
@[simp] theorem cqe_jtag (h : IoHdr) (sct sc : Nat) (dnr : Bool) (d : Nat) (data : List Block) : (cqe h sct sc dnr d data s).jtag = s.jtag := by
  unfold cqe adminDone errLog; dsimp only; split <;> split <;> rfl
@[simp] theorem cqe_nv (h : IoHdr) (sct sc : Nat) (dnr : Bool) (d : Nat) (data : List Block) : (cqe h sct sc dnr d data s).nv = s.nv := by
  unfold cqe adminDone errLog; dsimp only; split <;> split <;> rfl
@[simp] theorem cqe_ext (h : IoHdr) (sct sc : Nat) (dnr : Bool) (d : Nat) (data : List Block) : (cqe h sct sc dnr d data s).ext = s.ext := by
  unfold cqe adminDone errLog; dsimp only; split <;> split <;> rfl
@[simp] theorem cqe_rd (h : IoHdr) (sct sc : Nat) (dnr : Bool) (d : Nat) (data : List Block) (g : Fld) : (cqe h sct sc dnr d data s).rd g = s.rd g := State.rd_congr (by simp) g
@[simp] theorem cqe_on (h : IoHdr) (sct sc : Nat) (dnr : Bool) (d : Nat) (data : List Block) (g : Fld) : (cqe h sct sc dnr d data s).on g = s.on g := by simp [State.on]

/-! ### cqeSt -/

@[simp] theorem cqeSt_pending (h : IoHdr) (st : Status) : (cqeSt h st s).pending = s.pending := cqe_pending s h st.1 st.2.1 st.2.2 0 []
@[simp] theorem cqeSt_regs (h : IoHdr) (st : Status) : (cqeSt h st s).regs = s.regs := cqe_regs s h st.1 st.2.1 st.2.2 0 []
@[simp] theorem cqeSt_shadow (h : IoHdr) (st : Status) : (cqeSt h st s).shadow = s.shadow := cqe_shadow s h st.1 st.2.1 st.2.2 0 []
@[simp] theorem cqeSt_latch (h : IoHdr) (st : Status) : (cqeSt h st s).latch = s.latch := cqe_latch s h st.1 st.2.1 st.2.2 0 []
@[simp] theorem cqeSt_freeCtr (h : IoHdr) (st : Status) : (cqeSt h st s).freeCtr = s.freeCtr := cqe_freeCtr s h st.1 st.2.1 st.2.2 0 []
@[simp] theorem cqeSt_kicks (h : IoHdr) (st : Status) : (cqeSt h st s).kicks = s.kicks := cqe_kicks s h st.1 st.2.1 st.2.2 0 []
@[simp] theorem cqeSt_tet (h : IoHdr) (st : Status) : (cqeSt h st s).tet = s.tet := cqe_tet s h st.1 st.2.1 st.2.2 0 []
@[simp] theorem cqeSt_arrs (h : IoHdr) (st : Status) : (cqeSt h st s).arrs = s.arrs := cqe_arrs s h st.1 st.2.1 st.2.2 0 []
@[simp] theorem cqeSt_ns (h : IoHdr) (st : Status) : (cqeSt h st s).ns = s.ns := cqe_ns s h st.1 st.2.1 st.2.2 0 []
@[simp] theorem cqeSt_jrn (h : IoHdr) (st : Status) : (cqeSt h st s).jrn = s.jrn := cqe_jrn s h st.1 st.2.1 st.2.2 0 []
@[simp] theorem cqeSt_bsk (h : IoHdr) (st : Status) : (cqeSt h st s).bsk = s.bsk := cqe_bsk s h st.1 st.2.1 st.2.2 0 []
@[simp] theorem cqeSt_env (h : IoHdr) (st : Status) : (cqeSt h st s).env = s.env := cqe_env s h st.1 st.2.1 st.2.2 0 []
@[simp] theorem cqeSt_wsk (h : IoHdr) (st : Status) : (cqeSt h st s).wsk = s.wsk := cqe_wsk s h st.1 st.2.1 st.2.2 0 []
@[simp] theorem cqeSt_mbx (h : IoHdr) (st : Status) : (cqeSt h st s).mbx = s.mbx := cqe_mbx s h st.1 st.2.1 st.2.2 0 []
@[simp] theorem cqeSt_links (h : IoHdr) (st : Status) : (cqeSt h st s).links = s.links := cqe_links s h st.1 st.2.1 st.2.2 0 []
@[simp] theorem cqeSt_fab (h : IoHdr) (st : Status) : (cqeSt h st s).fab = s.fab := cqe_fab s h st.1 st.2.1 st.2.2 0 []
@[simp] theorem cqeSt_spl (h : IoHdr) (st : Status) : (cqeSt h st s).spl = s.spl := cqe_spl s h st.1 st.2.1 st.2.2 0 []
@[simp] theorem cqeSt_str (h : IoHdr) (st : Status) : (cqeSt h st s).str = s.str := cqe_str s h st.1 st.2.1 st.2.2 0 []
@[simp] theorem cqeSt_pair (h : IoHdr) (st : Status) : (cqeSt h st s).pair = s.pair := cqe_pair s h st.1 st.2.1 st.2.2 0 []
@[simp] theorem cqeSt_dwn (h : IoHdr) (st : Status) : (cqeSt h st s).dwn = s.dwn := cqe_dwn s h st.1 st.2.1 st.2.2 0 []
@[simp] theorem cqeSt_pwr (h : IoHdr) (st : Status) : (cqeSt h st s).pwr = s.pwr := cqe_pwr s h st.1 st.2.1 st.2.2 0 []
@[simp] theorem cqeSt_jtag (h : IoHdr) (st : Status) : (cqeSt h st s).jtag = s.jtag := cqe_jtag s h st.1 st.2.1 st.2.2 0 []
@[simp] theorem cqeSt_nv (h : IoHdr) (st : Status) : (cqeSt h st s).nv = s.nv := cqe_nv s h st.1 st.2.1 st.2.2 0 []
@[simp] theorem cqeSt_ext (h : IoHdr) (st : Status) : (cqeSt h st s).ext = s.ext := cqe_ext s h st.1 st.2.1 st.2.2 0 []
@[simp] theorem cqeSt_rd (h : IoHdr) (st : Status) (g : Fld) : (cqeSt h st s).rd g = s.rd g := State.rd_congr (by simp) g
@[simp] theorem cqeSt_on (h : IoHdr) (st : Status) (g : Fld) : (cqeSt h st s).on g = s.on g := by simp [State.on]

end Sys2Proof.Machine
end

