-- ==== Sys2Proof/Laws/Fields.lean ====
section
/-! SUPPORT. The width of every register field, so that a read after a write needs no unfolding of the field. -/

namespace Sys2Proof.Machine

@[simp] theorem R.GLB_ID_PART_w : R.GLB_ID_PART.w = 16 := rfl
@[simp] theorem R.GLB_ID_REV_w : R.GLB_ID_REV.w = 8 := rfl
@[simp] theorem R.GLB_ID_MAP_VER_w : R.GLB_ID_MAP_VER.w = 8 := rfl
@[simp] theorem R.GLB_FW_NOLJO_VERSION_w : R.GLB_FW_NOLJO_VERSION.w = 32 := rfl
@[simp] theorem R.GLB_CTRL_CLR_ERR_w : R.GLB_CTRL_CLR_ERR.w = 1 := rfl
@[simp] theorem R.GLB_STATUS_READY_w : R.GLB_STATUS_READY.w = 1 := rfl
@[simp] theorem R.GLB_STATUS_SAFE_w : R.GLB_STATUS_SAFE.w = 1 := rfl
@[simp] theorem R.GLB_STATUS_STALE_w : R.GLB_STATUS_STALE.w = 1 := rfl
@[simp] theorem R.GLB_STATUS_LAST_ERR_w : R.GLB_STATUS_LAST_ERR.w = 8 := rfl
@[simp] theorem R.GLB_STATUS_LINK_w : R.GLB_STATUS_LINK.w = 2 := rfl
@[simp] theorem R.GLB_SCRATCH_SCRATCH_w : R.GLB_SCRATCH_SCRATCH.w = 32 := rfl
@[simp] theorem R.GLB_ERR_PARTIAL_w : R.GLB_ERR_PARTIAL.w = 16 := rfl
@[simp] theorem R.GLB_ERR_UNMAPPED_w : R.GLB_ERR_UNMAPPED.w = 16 := rfl
@[simp] theorem R.GLB_SMBUS_ADDR_w : R.GLB_SMBUS_ADDR.w = 7 := rfl
@[simp] theorem R.GLB_INT_PEND_PEND_w : R.GLB_INT_PEND_PEND.w = 25 := rfl
@[simp] theorem R.GLB_INT_PEND_STALE_w : R.GLB_INT_PEND_STALE.w = 1 := rfl
@[simp] theorem R.GLB_VEC_LVL_LO_LVL_LO_w : R.GLB_VEC_LVL_LO_LVL_LO.w = 32 := rfl
@[simp] theorem R.GLB_VEC_LVL_HI_LVL_HI_w : R.GLB_VEC_LVL_HI_LVL_HI.w = 32 := rfl
@[simp] theorem R.GLB_INT_MAPs_VECTOR_w (n : Nat) : (R.GLB_INT_MAPs_VECTOR n).w = 6 := rfl
@[simp] theorem R.GLB_INT_MAPs_ROUTE_w (n : Nat) : (R.GLB_INT_MAPs_ROUTE n).w = 4 := rfl
@[simp] theorem R.TET_CTRL_SOURCE_w : R.TET_CTRL_SOURCE.w = 2 := rfl
@[simp] theorem R.TET_CTRL_ALT_SOURCE_w : R.TET_CTRL_ALT_SOURCE.w = 2 := rfl
@[simp] theorem R.TET_CTRL_AUTO_STEP_w : R.TET_CTRL_AUTO_STEP.w = 1 := rfl
@[simp] theorem R.TET_CTRL_FORCE_STEP_w : R.TET_CTRL_FORCE_STEP.w = 1 := rfl
@[simp] theorem R.TET_CTRL_ACQUIRE_w : R.TET_CTRL_ACQUIRE.w = 1 := rfl
@[simp] theorem R.TET_CTRL_CLR_ERR_w : R.TET_CTRL_CLR_ERR.w = 1 := rfl
@[simp] theorem R.TET_STATUS_STATE_w : R.TET_STATUS_STATE.w = 2 := rfl
@[simp] theorem R.TET_STATUS_SRC_ACT_w : R.TET_STATUS_SRC_ACT.w = 2 := rfl
@[simp] theorem R.TET_STATUS_TOD_VALID_w : R.TET_STATUS_TOD_VALID.w = 1 := rfl
@[simp] theorem R.TET_STATUS_EVER_LOCKED_w : R.TET_STATUS_EVER_LOCKED.w = 1 := rfl
@[simp] theorem R.TET_STATUS_TIME_FAULT_w : R.TET_STATUS_TIME_FAULT.w = 1 := rfl
@[simp] theorem R.TET_STATUS_STALE_w : R.TET_STATUS_STALE.w = 1 := rfl
@[simp] theorem R.TET_STATUS_LAST_ERR_w : R.TET_STATUS_LAST_ERR.w = 8 := rfl
@[simp] theorem R.TET_EPOCH_LO_EPOCH_LO_w : R.TET_EPOCH_LO_EPOCH_LO.w = 32 := rfl
@[simp] theorem R.TET_EPOCH_HI_EPOCH_HI_w : R.TET_EPOCH_HI_EPOCH_HI.w = 16 := rfl
@[simp] theorem R.TET_EPOCH_HI_STALE_w : R.TET_EPOCH_HI_STALE.w = 1 := rfl
@[simp] theorem R.TET_PHASE_CYCLE_w : R.TET_PHASE_CYCLE.w = 16 := rfl
@[simp] theorem R.TET_OFFSET_OFFSET_NS_w : R.TET_OFFSET_OFFSET_NS.w = 32 := rfl
@[simp] theorem R.TET_SRC_CFG_PTP_DOMAIN_w : R.TET_SRC_CFG_PTP_DOMAIN.w = 8 := rfl
@[simp] theorem R.TET_SRC_CFG_PTP_TRANSPORT_w : R.TET_SRC_CFG_PTP_TRANSPORT.w = 2 := rfl
@[simp] theorem R.TET_SRC_CFG_PTP_DELAY_w : R.TET_SRC_CFG_PTP_DELAY.w = 1 := rfl
@[simp] theorem R.TET_SRC_CFG_FP0_SUB_w : R.TET_SRC_CFG_FP0_SUB.w = 2 := rfl
@[simp] theorem R.TET_LOCAL_UTC_OFS_w : R.TET_LOCAL_UTC_OFS.w = 12 := rfl
@[simp] theorem R.TET_LOCAL_TAI_UTC_w : R.TET_LOCAL_TAI_UTC.w = 8 := rfl
@[simp] theorem R.TET_LIMITS_HOLD_MAX_w : R.TET_LIMITS_HOLD_MAX.w = 16 := rfl
@[simp] theorem R.TET_LIMITS_STEP_LIMIT_w : R.TET_LIMITS_STEP_LIMIT.w = 8 := rfl
@[simp] theorem R.TET_LIMITS_CRIT_FLOOR_w : R.TET_LIMITS_CRIT_FLOOR.w = 7 := rfl
@[simp] theorem R.TET_TOD_LO_TOD_LO_w : R.TET_TOD_LO_TOD_LO.w = 32 := rfl
@[simp] theorem R.TET_TOD_HI_TOD_HI_w : R.TET_TOD_HI_TOD_HI.w = 16 := rfl
@[simp] theorem R.TET_DAY_CUR_SLOT_w : R.TET_DAY_CUR_SLOT.w = 7 := rfl
@[simp] theorem R.TET_DAY_CUR_FALLBACK_w : R.TET_DAY_CUR_FALLBACK.w = 1 := rfl
@[simp] theorem R.TET_DAY_CUR_OVERRIDE_w : R.TET_DAY_CUR_OVERRIDE.w = 1 := rfl
@[simp] theorem R.TET_DAY_OVR_SLOT_w : R.TET_DAY_OVR_SLOT.w = 7 := rfl
@[simp] theorem R.TET_DAY_OVR_EN_w : R.TET_DAY_OVR_EN.w = 1 := rfl
@[simp] theorem R.TET_INT_STATUS_LOCKED_w : R.TET_INT_STATUS_LOCKED.w = 1 := rfl
@[simp] theorem R.TET_INT_STATUS_HOLDOVER_w : R.TET_INT_STATUS_HOLDOVER.w = 1 := rfl
@[simp] theorem R.TET_INT_STATUS_FREE_RUN_w : R.TET_INT_STATUS_FREE_RUN.w = 1 := rfl
@[simp] theorem R.TET_INT_STATUS_TIME_FAULT_w : R.TET_INT_STATUS_TIME_FAULT.w = 1 := rfl
@[simp] theorem R.TET_INT_STATUS_SLOT_CHG_w : R.TET_INT_STATUS_SLOT_CHG.w = 1 := rfl
@[simp] theorem R.TET_INT_STATUS_STEPPED_w : R.TET_INT_STATUS_STEPPED.w = 1 := rfl
@[simp] theorem R.TET_INT_STATUS_STEP_WAIT_w : R.TET_INT_STATUS_STEP_WAIT.w = 1 := rfl
@[simp] theorem R.TET_INT_STATUS_ALARM_w : R.TET_INT_STATUS_ALARM.w = 8 := rfl
@[simp] theorem R.TET_INT_ENABLE_LOCKED_w : R.TET_INT_ENABLE_LOCKED.w = 1 := rfl
@[simp] theorem R.TET_INT_ENABLE_HOLDOVER_w : R.TET_INT_ENABLE_HOLDOVER.w = 1 := rfl
@[simp] theorem R.TET_INT_ENABLE_FREE_RUN_w : R.TET_INT_ENABLE_FREE_RUN.w = 1 := rfl
@[simp] theorem R.TET_INT_ENABLE_TIME_FAULT_w : R.TET_INT_ENABLE_TIME_FAULT.w = 1 := rfl
@[simp] theorem R.TET_INT_ENABLE_SLOT_CHG_w : R.TET_INT_ENABLE_SLOT_CHG.w = 1 := rfl
@[simp] theorem R.TET_INT_ENABLE_STEPPED_w : R.TET_INT_ENABLE_STEPPED.w = 1 := rfl
@[simp] theorem R.TET_INT_ENABLE_STEP_WAIT_w : R.TET_INT_ENABLE_STEP_WAIT.w = 1 := rfl
@[simp] theorem R.TET_INT_ENABLE_ALARM_w : R.TET_INT_ENABLE_ALARM.w = 8 := rfl
@[simp] theorem R.TET_ALARMn_CTRL_EN_w (n : Nat) : (R.TET_ALARMn_CTRL_EN n).w = 1 := rfl
@[simp] theorem R.TET_ALARMn_CTRL_T_INT_w (n : Nat) : (R.TET_ALARMn_CTRL_T_INT n).w = 1 := rfl
@[simp] theorem R.TET_ALARMn_CTRL_T_SPOOL_w (n : Nat) : (R.TET_ALARMn_CTRL_T_SPOOL n).w = 1 := rfl
@[simp] theorem R.TET_ALARMn_CTRL_T_WAKE_w (n : Nat) : (R.TET_ALARMn_CTRL_T_WAKE n).w = 1 := rfl
@[simp] theorem R.TET_ALARMn_CTRL_PERIOD_w (n : Nat) : (R.TET_ALARMn_CTRL_PERIOD n).w = 24 := rfl
@[simp] theorem R.TET_ALARMn_EPOCH_LO_TARGET_LO_w (n : Nat) : (R.TET_ALARMn_EPOCH_LO_TARGET_LO n).w = 32 := rfl
@[simp] theorem R.TET_ALARMn_EPOCH_HI_TARGET_HI_w (n : Nat) : (R.TET_ALARMn_EPOCH_HI_TARGET_HI n).w = 16 := rfl
@[simp] theorem R.TET_DAYk_REBUILD_w (n : Nat) : (R.TET_DAYk_REBUILD n).w = 7 := rfl
@[simp] theorem R.TET_DAYk_PATROL_w (n : Nat) : (R.TET_DAYk_PATROL n).w = 7 := rfl
@[simp] theorem R.TET_DAYk_DESTAGE_w (n : Nat) : (R.TET_DAYk_DESTAGE n).w = 7 := rfl
@[simp] theorem R.TET_DAYk_COPYBACK_w (n : Nat) : (R.TET_DAYk_COPYBACK n).w = 7 := rfl
@[simp] theorem R.TET_DAYk_IDLE_FILL_w (n : Nat) : (R.TET_DAYk_IDLE_FILL n).w = 1 := rfl
@[simp] theorem R.TET_DAY_FALLBACK_REBUILD_w : R.TET_DAY_FALLBACK_REBUILD.w = 7 := rfl
@[simp] theorem R.TET_DAY_FALLBACK_PATROL_w : R.TET_DAY_FALLBACK_PATROL.w = 7 := rfl
@[simp] theorem R.TET_DAY_FALLBACK_DESTAGE_w : R.TET_DAY_FALLBACK_DESTAGE.w = 7 := rfl
@[simp] theorem R.TET_DAY_FALLBACK_COPYBACK_w : R.TET_DAY_FALLBACK_COPYBACK.w = 7 := rfl
@[simp] theorem R.TET_DAY_FALLBACK_IDLE_FILL_w : R.TET_DAY_FALLBACK_IDLE_FILL.w = 1 := rfl
@[simp] theorem R.STR_CTRL_AUTO_REBUILD_w : R.STR_CTRL_AUTO_REBUILD.w = 1 := rfl
@[simp] theorem R.STR_CTRL_CLR_ERR_w : R.STR_CTRL_CLR_ERR.w = 1 := rfl
@[simp] theorem R.STR_STATUS_ARRAYS_w : R.STR_STATUS_ARRAYS.w = 5 := rfl
@[simp] theorem R.STR_STATUS_LAST_ERR_w : R.STR_STATUS_LAST_ERR.w = 8 := rfl
@[simp] theorem R.STR_ENG_STATUS_SLICE_OFF_w : R.STR_ENG_STATUS_SLICE_OFF.w = 4 := rfl
@[simp] theorem R.STR_ENG_STATUS_SLICE_BUSY_w : R.STR_ENG_STATUS_SLICE_BUSY.w = 4 := rfl
@[simp] theorem R.STR_ENG_STATUS_FAULTS_w : R.STR_ENG_STATUS_FAULTS.w = 8 := rfl
@[simp] theorem R.STR_INT_ARRAY_STATE_CHG_w : R.STR_INT_ARRAY_STATE_CHG.w = 16 := rfl
@[simp] theorem R.STR_INT_ARRAY_LOST_CHG_w : R.STR_INT_ARRAY_LOST_CHG.w = 16 := rfl
@[simp] theorem R.STR_INT_ARRAY_EN_STATE_CHG_w : R.STR_INT_ARRAY_EN_STATE_CHG.w = 16 := rfl
@[simp] theorem R.STR_INT_ARRAY_EN_LOST_CHG_w : R.STR_INT_ARRAY_EN_LOST_CHG.w = 16 := rfl
@[simp] theorem R.STR_INT_DEV_SLICE_FAIL_w : R.STR_INT_DEV_SLICE_FAIL.w = 4 := rfl
@[simp] theorem R.STR_INT_DEV_SPARE_TAKEN_w : R.STR_INT_DEV_SPARE_TAKEN.w = 1 := rfl
@[simp] theorem R.STR_INT_DEV_NO_SPARE_w : R.STR_INT_DEV_NO_SPARE.w = 1 := rfl
@[simp] theorem R.STR_INT_DEV_LABEL_ERR_w : R.STR_INT_DEV_LABEL_ERR.w = 1 := rfl
@[simp] theorem R.STR_INT_DEV_CREATE_FAIL_w : R.STR_INT_DEV_CREATE_FAIL.w = 1 := rfl
@[simp] theorem R.STR_INT_DEV_EN_SLICE_FAIL_w : R.STR_INT_DEV_EN_SLICE_FAIL.w = 4 := rfl
@[simp] theorem R.STR_INT_DEV_EN_SPARE_TAKEN_w : R.STR_INT_DEV_EN_SPARE_TAKEN.w = 1 := rfl
@[simp] theorem R.STR_INT_DEV_EN_NO_SPARE_w : R.STR_INT_DEV_EN_NO_SPARE.w = 1 := rfl
@[simp] theorem R.STR_INT_DEV_EN_LABEL_ERR_w : R.STR_INT_DEV_EN_LABEL_ERR.w = 1 := rfl
@[simp] theorem R.STR_INT_DEV_EN_CREATE_FAIL_w : R.STR_INT_DEV_EN_CREATE_FAIL.w = 1 := rfl
@[simp] theorem R.STR_GFMUL_A_w : R.STR_GFMUL_A.w = 8 := rfl
@[simp] theorem R.STR_GFMUL_B_w : R.STR_GFMUL_B.w = 8 := rfl
@[simp] theorem R.STR_GFMUL_PRODUCT_w : R.STR_GFMUL_PRODUCT.w = 8 := rfl
@[simp] theorem R.STR_ENG_CNTj_INPUT_4K_w (n : Nat) : (R.STR_ENG_CNTj_INPUT_4K n).w = 32 := rfl
@[simp] theorem R.STR_SPAREk_PORT_w (n : Nat) : (R.STR_SPAREk_PORT n).w = 5 := rfl
@[simp] theorem R.STR_SPAREk_SUB_w (n : Nat) : (R.STR_SPAREk_SUB n).w = 1 := rfl
@[simp] theorem R.STR_SPAREk_META_w (n : Nat) : (R.STR_SPAREk_META n).w = 1 := rfl
@[simp] theorem R.STR_SPAREk_VALID_w (n : Nat) : (R.STR_SPAREk_VALID n).w = 1 := rfl
@[simp] theorem R.STR_SPAREk_SPARE_STATE_w (n : Nat) : (R.STR_SPAREk_SPARE_STATE n).w = 2 := rfl
@[simp] theorem R.STR_SPAREk_ARRAY_w (n : Nat) : (R.STR_SPAREk_ARRAY n).w = 4 := rfl
@[simp] theorem R.STR_An_GEOM_MEMBERS_w (n : Nat) : (R.STR_An_GEOM_MEMBERS n).w = 6 := rfl
@[simp] theorem R.STR_An_GEOM_STRIP_w (n : Nat) : (R.STR_An_GEOM_STRIP n).w = 3 := rfl
@[simp] theorem R.STR_An_GEOM_META_w (n : Nat) : (R.STR_An_GEOM_META n).w = 1 := rfl
@[simp] theorem R.STR_An_GEOM_EN_w (n : Nat) : (R.STR_An_GEOM_EN n).w = 1 := rfl
@[simp] theorem R.STR_An_STATUS_STATE_w (n : Nat) : (R.STR_An_STATUS_STATE n).w = 3 := rfl
@[simp] theorem R.STR_An_STATUS_MISSING_w (n : Nat) : (R.STR_An_STATUS_MISSING n).w = 2 := rfl
@[simp] theorem R.STR_An_STATUS_REBUILD_ACT_w (n : Nat) : (R.STR_An_STATUS_REBUILD_ACT n).w = 1 := rfl
@[simp] theorem R.STR_An_STATUS_UNVERIFIED_w (n : Nat) : (R.STR_An_STATUS_UNVERIFIED n).w = 1 := rfl
@[simp] theorem R.STR_An_STATUS_REASON_w (n : Nat) : (R.STR_An_STATUS_REASON n).w = 4 := rfl
@[simp] theorem R.STR_An_STATUS_LOST_ANY_w (n : Nat) : (R.STR_An_STATUS_LOST_ANY n).w = 1 := rfl
@[simp] theorem R.STR_An_STRIPES_LO_S_LO_w (n : Nat) : (R.STR_An_STRIPES_LO_S_LO n).w = 32 := rfl
@[simp] theorem R.STR_An_STRIPES_HI_S_HI_w (n : Nat) : (R.STR_An_STRIPES_HI_S_HI n).w = 1 := rfl
@[simp] theorem R.STR_An_LOST_LOST_w (n : Nat) : (R.STR_An_LOST_LOST n).w = 32 := rfl
@[simp] theorem R.STR_An_MISSMAP_MISS_w (n : Nat) : (R.STR_An_MISSMAP_MISS n).w = 32 := rfl
@[simp] theorem R.STR_An_NSCOUNT_NS_w (n : Nat) : (R.STR_An_NSCOUNT_NS n).w = 13 := rfl
@[simp] theorem R.STR_An_MEMBERk_PORT_w (n k : Nat) : (R.STR_An_MEMBERk_PORT n k).w = 5 := rfl
@[simp] theorem R.STR_An_MEMBERk_SUB_w (n k : Nat) : (R.STR_An_MEMBERk_SUB n k).w = 1 := rfl
@[simp] theorem R.STR_An_MEMBERk_VALID_w (n k : Nat) : (R.STR_An_MEMBERk_VALID n k).w = 1 := rfl
@[simp] theorem R.STR_An_MEMBERk_MAPHOLD_w (n k : Nat) : (R.STR_An_MEMBERk_MAPHOLD n k).w = 1 := rfl
@[simp] theorem R.STR_An_MEMBERk_MISSING_w (n k : Nat) : (R.STR_An_MEMBERk_MISSING n k).w = 1 := rfl
@[simp] theorem R.STR_An_POLICY_PATROL_FIX_w (n : Nat) : (R.STR_An_POLICY_PATROL_FIX n).w = 2 := rfl
@[simp] theorem R.STR_An_POLICY_PATROL_EN_w (n : Nat) : (R.STR_An_POLICY_PATROL_EN n).w = 1 := rfl
@[simp] theorem R.STR_An_POLICY_CB_AUTO_w (n : Nat) : (R.STR_An_POLICY_CB_AUTO n).w = 1 := rfl
@[simp] theorem R.STR_An_POLICY_CB_MEDIA_w (n : Nat) : (R.STR_An_POLICY_CB_MEDIA n).w = 1 := rfl
@[simp] theorem R.STR_An_POLICY_HEDGE_MS_w (n : Nat) : (R.STR_An_POLICY_HEDGE_MS n).w = 8 := rfl
@[simp] theorem R.STR_An_POLICY_MEMBER_TMO_w (n : Nat) : (R.STR_An_POLICY_MEMBER_TMO n).w = 8 := rfl
@[simp] theorem R.STR_An_POLICY_MEDIA_LIMIT_w (n : Nat) : (R.STR_An_POLICY_MEDIA_LIMIT n).w = 8 := rfl
@[simp] theorem R.STR_An_RB0_WM_LO_WM_LO_w (n : Nat) : (R.STR_An_RB0_WM_LO_WM_LO n).w = 32 := rfl
@[simp] theorem R.STR_An_RB0_HI_WM_HI_w (n : Nat) : (R.STR_An_RB0_HI_WM_HI n).w = 1 := rfl
@[simp] theorem R.STR_An_RB0_HI_END_HI_w (n : Nat) : (R.STR_An_RB0_HI_END_HI n).w = 1 := rfl
@[simp] theorem R.STR_An_RB0_HI_TARGET_w (n : Nat) : (R.STR_An_RB0_HI_TARGET n).w = 5 := rfl
@[simp] theorem R.STR_An_RB0_HI_RSTATE_w (n : Nat) : (R.STR_An_RB0_HI_RSTATE n).w = 2 := rfl
@[simp] theorem R.STR_An_RB0_HI_JOINED_w (n : Nat) : (R.STR_An_RB0_HI_JOINED n).w = 1 := rfl
@[simp] theorem R.STR_An_RB0_HI_TWO_ERASE_w (n : Nat) : (R.STR_An_RB0_HI_TWO_ERASE n).w = 1 := rfl
@[simp] theorem R.STR_An_RB0_HI_SHORT_w (n : Nat) : (R.STR_An_RB0_HI_SHORT n).w = 1 := rfl
@[simp] theorem R.STR_An_RB1_WM_LO_WM_LO_w (n : Nat) : (R.STR_An_RB1_WM_LO_WM_LO n).w = 32 := rfl
@[simp] theorem R.STR_An_RB1_HI_WM_HI_w (n : Nat) : (R.STR_An_RB1_HI_WM_HI n).w = 1 := rfl
@[simp] theorem R.STR_An_RB1_HI_END_HI_w (n : Nat) : (R.STR_An_RB1_HI_END_HI n).w = 1 := rfl
@[simp] theorem R.STR_An_RB1_HI_TARGET_w (n : Nat) : (R.STR_An_RB1_HI_TARGET n).w = 5 := rfl
@[simp] theorem R.STR_An_RB1_HI_RSTATE_w (n : Nat) : (R.STR_An_RB1_HI_RSTATE n).w = 2 := rfl
@[simp] theorem R.STR_An_RB1_HI_JOINED_w (n : Nat) : (R.STR_An_RB1_HI_JOINED n).w = 1 := rfl
@[simp] theorem R.STR_An_RB1_HI_TWO_ERASE_w (n : Nat) : (R.STR_An_RB1_HI_TWO_ERASE n).w = 1 := rfl
@[simp] theorem R.STR_An_RB1_HI_SHORT_w (n : Nat) : (R.STR_An_RB1_HI_SHORT n).w = 1 := rfl
@[simp] theorem R.STR_An_RB_END_LO_END_LO_w (n : Nat) : (R.STR_An_RB_END_LO_END_LO n).w = 32 := rfl
@[simp] theorem R.STR_An_CB_WM_LO_WM_LO_w (n : Nat) : (R.STR_An_CB_WM_LO_WM_LO n).w = 32 := rfl
@[simp] theorem R.STR_An_CB_HI_WM_HI_w (n : Nat) : (R.STR_An_CB_HI_WM_HI n).w = 1 := rfl
@[simp] theorem R.STR_An_CB_HI_SOURCE_w (n : Nat) : (R.STR_An_CB_HI_SOURCE n).w = 5 := rfl
@[simp] theorem R.STR_An_CB_HI_DEST_PORT_w (n : Nat) : (R.STR_An_CB_HI_DEST_PORT n).w = 5 := rfl
@[simp] theorem R.STR_An_CB_HI_DEST_SUB_w (n : Nat) : (R.STR_An_CB_HI_DEST_SUB n).w = 1 := rfl
@[simp] theorem R.STR_An_CB_HI_CSTATE_w (n : Nat) : (R.STR_An_CB_HI_CSTATE n).w = 2 := rfl
@[simp] theorem R.STR_An_CB_HI_CAUSE_w (n : Nat) : (R.STR_An_CB_HI_CAUSE n).w = 2 := rfl
@[simp] theorem R.STR_An_RS_WM_LO_WM_LO_w (n : Nat) : (R.STR_An_RS_WM_LO_WM_LO n).w = 32 := rfl
@[simp] theorem R.STR_An_RS_HI_WM_HI_w (n : Nat) : (R.STR_An_RS_HI_WM_HI n).w = 1 := rfl
@[simp] theorem R.STR_An_RS_HI_SCOPE_w (n : Nat) : (R.STR_An_RS_HI_SCOPE n).w = 1 := rfl
@[simp] theorem R.STR_An_RS_HI_ACTIVE_w (n : Nat) : (R.STR_An_RS_HI_ACTIVE n).w = 1 := rfl
@[simp] theorem R.STR_An_PT_WM_LO_WM_LO_w (n : Nat) : (R.STR_An_PT_WM_LO_WM_LO n).w = 32 := rfl
@[simp] theorem R.STR_An_PT_HI_WM_HI_w (n : Nat) : (R.STR_An_PT_HI_WM_HI n).w = 1 := rfl
@[simp] theorem R.STR_An_PT_HI_PSTATE_w (n : Nat) : (R.STR_An_PT_HI_PSTATE n).w = 2 := rfl
@[simp] theorem R.STR_An_PT_HI_CYCLES_w (n : Nat) : (R.STR_An_PT_HI_CYCLES n).w = 16 := rfl
@[simp] theorem R.STR_An_PT_FIX_DATA_FIXED_w (n : Nat) : (R.STR_An_PT_FIX_DATA_FIXED n).w = 16 := rfl
@[simp] theorem R.STR_An_PT_FIX_PARITY_FIXED_w (n : Nat) : (R.STR_An_PT_FIX_PARITY_FIXED n).w = 16 := rfl
@[simp] theorem R.STR_An_PT_MULTI_MULTI_w (n : Nat) : (R.STR_An_PT_MULTI_MULTI n).w = 16 := rfl
@[simp] theorem R.STR_An_PT_MULTI_UNFIXED_w (n : Nat) : (R.STR_An_PT_MULTI_UNFIXED n).w = 16 := rfl
@[simp] theorem R.STR_An_REPAIR_READ_REPAIRED_w (n : Nat) : (R.STR_An_REPAIR_READ_REPAIRED n).w = 16 := rfl
@[simp] theorem R.STR_An_REPAIR_HEDGED_w (n : Nat) : (R.STR_An_REPAIR_HEDGED n).w = 16 := rfl
@[simp] theorem R.STR_An_MEDIA_WARN_WARN_w (n : Nat) : (R.STR_An_MEDIA_WARN_WARN n).w = 32 := rfl
@[simp] theorem R.GON_CTRL_TAIL_EN_w : R.GON_CTRL_TAIL_EN.w = 1 := rfl
@[simp] theorem R.GON_CTRL_FORCE_TAIL_w : R.GON_CTRL_FORCE_TAIL.w = 1 := rfl
@[simp] theorem R.GON_CTRL_CLR_ERR_w : R.GON_CTRL_CLR_ERR.w = 1 := rfl
@[simp] theorem R.GON_STATUS_MRAM_OK_w : R.GON_STATUS_MRAM_OK.w = 1 := rfl
@[simp] theorem R.GON_STATUS_CLEAN_START_w : R.GON_STATUS_CLEAN_START.w = 1 := rfl
@[simp] theorem R.GON_STATUS_EVIDENCE_w : R.GON_STATUS_EVIDENCE.w = 2 := rfl
@[simp] theorem R.GON_STATUS_REPLAY_ACT_w : R.GON_STATUS_REPLAY_ACT.w = 1 := rfl
@[simp] theorem R.GON_STATUS_STALE_w : R.GON_STATUS_STALE.w = 1 := rfl
@[simp] theorem R.GON_STATUS_LAST_ERR_w : R.GON_STATUS_LAST_ERR.w = 8 := rfl
@[simp] theorem R.GON_SEQ_LO_SEQ_LO_w : R.GON_SEQ_LO_SEQ_LO.w = 32 := rfl
@[simp] theorem R.GON_SEQ_HI_SEQ_HI_w : R.GON_SEQ_HI_SEQ_HI.w = 32 := rfl
@[simp] theorem R.GON_RING_FREE_FREE_w : R.GON_RING_FREE_FREE.w = 18 := rfl
@[simp] theorem R.GON_RING_CFG_RING_LOW_w : R.GON_RING_CFG_RING_LOW.w = 18 := rfl
@[simp] theorem R.GON_OPEN_OPEN_w : R.GON_OPEN_OPEN.w = 17 := rfl
@[simp] theorem R.GON_INT_STATUS_RING_LOW_w : R.GON_INT_STATUS_RING_LOW.w = 1 := rfl
@[simp] theorem R.GON_INT_STATUS_CARRY_w : R.GON_INT_STATUS_CARRY.w = 1 := rfl
@[simp] theorem R.GON_INT_STATUS_TAIL_FAIL_w : R.GON_INT_STATUS_TAIL_FAIL.w = 1 := rfl
@[simp] theorem R.GON_INT_STATUS_MRAM_CE_w : R.GON_INT_STATUS_MRAM_CE.w = 1 := rfl
@[simp] theorem R.GON_INT_STATUS_MRAM_UE_w : R.GON_INT_STATUS_MRAM_UE.w = 1 := rfl
@[simp] theorem R.GON_INT_STATUS_REPLAY_LOSS_w : R.GON_INT_STATUS_REPLAY_LOSS.w = 1 := rfl
@[simp] theorem R.GON_INT_ENABLE_RING_LOW_w : R.GON_INT_ENABLE_RING_LOW.w = 1 := rfl
@[simp] theorem R.GON_INT_ENABLE_CARRY_w : R.GON_INT_ENABLE_CARRY.w = 1 := rfl
@[simp] theorem R.GON_INT_ENABLE_TAIL_FAIL_w : R.GON_INT_ENABLE_TAIL_FAIL.w = 1 := rfl
@[simp] theorem R.GON_INT_ENABLE_MRAM_CE_w : R.GON_INT_ENABLE_MRAM_CE.w = 1 := rfl
@[simp] theorem R.GON_INT_ENABLE_MRAM_UE_w : R.GON_INT_ENABLE_MRAM_UE.w = 1 := rfl
@[simp] theorem R.GON_INT_ENABLE_REPLAY_LOSS_w : R.GON_INT_ENABLE_REPLAY_LOSS.w = 1 := rfl
@[simp] theorem R.GON_TAIL_CKPT_NUM_w : R.GON_TAIL_CKPT_NUM.w = 32 := rfl
@[simp] theorem R.GON_MRAM_ERR_CE_w : R.GON_MRAM_ERR_CE.w = 16 := rfl
@[simp] theorem R.GON_MRAM_ERR_UE_w : R.GON_MRAM_ERR_UE.w = 16 := rfl
@[simp] theorem R.GON_REPLAY0_RECORDS_w : R.GON_REPLAY0_RECORDS.w = 32 := rfl
@[simp] theorem R.GON_REPLAY1_REPAIRED_w : R.GON_REPLAY1_REPAIRED.w = 16 := rfl
@[simp] theorem R.GON_REPLAY1_LOST_w : R.GON_REPLAY1_LOST.w = 16 := rfl
@[simp] theorem R.GON_REPLAY2_REINSERTED_w : R.GON_REPLAY2_REINSERTED.w = 32 := rfl
@[simp] theorem R.ENV_CTRL_CLR_ERR_w : R.ENV_CTRL_CLR_ERR.w = 1 := rfl
@[simp] theorem R.ENV_STATUS_MODE_w : R.ENV_STATUS_MODE.w = 2 := rfl
@[simp] theorem R.ENV_STATUS_SCRATCH_w : R.ENV_STATUS_SCRATCH.w = 1 := rfl
@[simp] theorem R.ENV_STATUS_INIT_w : R.ENV_STATUS_INIT.w = 1 := rfl
@[simp] theorem R.ENV_STATUS_MAINT_BUSY_w : R.ENV_STATUS_MAINT_BUSY.w = 1 := rfl
@[simp] theorem R.ENV_STATUS_STALE_w : R.ENV_STATUS_STALE.w = 1 := rfl
@[simp] theorem R.ENV_STATUS_LAST_ERR_w : R.ENV_STATUS_LAST_ERR.w = 8 := rfl
@[simp] theorem R.ENV_STATUS_RET_FAIL_w : R.ENV_STATUS_RET_FAIL.w = 4 := rfl
@[simp] theorem R.ENV_CFG_OFFER_w : R.ENV_CFG_OFFER.w = 2 := rfl
@[simp] theorem R.ENV_CFG_SKIRT_EN_w : R.ENV_CFG_SKIRT_EN.w = 1 := rfl
@[simp] theorem R.ENV_CFG_DIRTY_MAX_w : R.ENV_CFG_DIRTY_MAX.w = 8 := rfl
@[simp] theorem R.ENV_SKIRT_CFG_DEPTH_w : R.ENV_SKIRT_CFG_DEPTH.w = 6 := rfl
@[simp] theorem R.ENV_SKIRT_CFG_STREAMS_w : R.ENV_SKIRT_CFG_STREAMS.w = 7 := rfl
@[simp] theorem R.ENV_SKIRT_CFG_WINDOW_w : R.ENV_SKIRT_CFG_WINDOW.w = 5 := rfl
@[simp] theorem R.ENV_SKIRT_CFG_PREF_RECON_w : R.ENV_SKIRT_CFG_PREF_RECON.w = 1 := rfl
@[simp] theorem R.ENV_DISABLE_DISABLE_w : R.ENV_DISABLE_DISABLE.w = 1 := rfl
@[simp] theorem R.ENV_DISABLE_CLEAN_FIRST_w : R.ENV_DISABLE_CLEAN_FIRST.w = 1 := rfl
@[simp] theorem R.ENV_MAINT_OP_w : R.ENV_MAINT_OP.w = 4 := rfl
@[simp] theorem R.ENV_MAINT_FORM_w : R.ENV_MAINT_FORM.w = 1 := rfl
@[simp] theorem R.ENV_MAINT_ALL_SETS_w : R.ENV_MAINT_ALL_SETS.w = 1 := rfl
@[simp] theorem R.ENV_MAINT_COUNT_w : R.ENV_MAINT_COUNT.w = 17 := rfl
@[simp] theorem R.ENV_MAINT_START_w : R.ENV_MAINT_START.w = 1 := rfl
@[simp] theorem R.ENV_MAINT_KEY_LO_KEY_LO_w : R.ENV_MAINT_KEY_LO_KEY_LO.w = 32 := rfl
@[simp] theorem R.ENV_MAINT_KEY_HI_KEY_HI_w : R.ENV_MAINT_KEY_HI_KEY_HI.w = 32 := rfl
@[simp] theorem R.ENV_MAINT_RES_CLEANED_w : R.ENV_MAINT_RES_CLEANED.w = 16 := rfl
@[simp] theorem R.ENV_MAINT_RES_SKIPPED_w : R.ENV_MAINT_RES_SKIPPED.w = 16 := rfl
@[simp] theorem R.ENV_OCC_VALID_w : R.ENV_OCC_VALID.w = 15 := rfl
@[simp] theorem R.ENV_OCC_DIRTY_w : R.ENV_OCC_DIRTY.w = 14 := rfl
@[simp] theorem R.ENV_OCC_STALE_w : R.ENV_OCC_STALE.w = 1 := rfl
@[simp] theorem R.ENV_OCC2_SKIRT_w : R.ENV_OCC2_SKIRT.w = 10 := rfl
@[simp] theorem R.ENV_OCC2_EVB_w : R.ENV_OCC2_EVB.w = 7 := rfl
@[simp] theorem R.ENV_OCC2_STALE_w : R.ENV_OCC2_STALE.w = 1 := rfl
@[simp] theorem R.ENV_INT_STATUS_MAINT_DONE_w : R.ENV_INT_STATUS_MAINT_DONE.w = 1 := rfl
@[simp] theorem R.ENV_INT_STATUS_DISABLE_DONE_w : R.ENV_INT_STATUS_DISABLE_DONE.w = 1 := rfl
@[simp] theorem R.ENV_INT_STATUS_ECC_CE_w : R.ENV_INT_STATUS_ECC_CE.w = 1 := rfl
@[simp] theorem R.ENV_INT_STATUS_ECC_UE_w : R.ENV_INT_STATUS_ECC_UE.w = 1 := rfl
@[simp] theorem R.ENV_INT_STATUS_RET_FAIL_w : R.ENV_INT_STATUS_RET_FAIL.w = 1 := rfl
@[simp] theorem R.ENV_INT_STATUS_WIN_OFF_w : R.ENV_INT_STATUS_WIN_OFF.w = 1 := rfl
@[simp] theorem R.ENV_INT_STATUS_EVB_FULL_w : R.ENV_INT_STATUS_EVB_FULL.w = 1 := rfl
@[simp] theorem R.ENV_INT_ENABLE_MAINT_DONE_w : R.ENV_INT_ENABLE_MAINT_DONE.w = 1 := rfl
@[simp] theorem R.ENV_INT_ENABLE_DISABLE_DONE_w : R.ENV_INT_ENABLE_DISABLE_DONE.w = 1 := rfl
@[simp] theorem R.ENV_INT_ENABLE_ECC_CE_w : R.ENV_INT_ENABLE_ECC_CE.w = 1 := rfl
@[simp] theorem R.ENV_INT_ENABLE_ECC_UE_w : R.ENV_INT_ENABLE_ECC_UE.w = 1 := rfl
@[simp] theorem R.ENV_INT_ENABLE_RET_FAIL_w : R.ENV_INT_ENABLE_RET_FAIL.w = 1 := rfl
@[simp] theorem R.ENV_INT_ENABLE_WIN_OFF_w : R.ENV_INT_ENABLE_WIN_OFF.w = 1 := rfl
@[simp] theorem R.ENV_INT_ENABLE_EVB_FULL_w : R.ENV_INT_ENABLE_EVB_FULL.w = 1 := rfl
@[simp] theorem R.ENV_ECC_CE_w : R.ENV_ECC_CE.w = 16 := rfl
@[simp] theorem R.ENV_ECC_UE_w : R.ENV_ECC_UE.w = 16 := rfl
@[simp] theorem R.ENV_CNTj_COUNT_w (n : Nat) : (R.ENV_CNTj_COUNT n).w = 32 := rfl
@[simp] theorem R.BSK_CTRL_CLR_ERR_w : R.BSK_CTRL_CLR_ERR.w = 1 := rfl
@[simp] theorem R.BSK_CTRL_SCRUB_NOW_w : R.BSK_CTRL_SCRUB_NOW.w = 1 := rfl
@[simp] theorem R.BSK_STATUS_MODE_w : R.BSK_STATUS_MODE.w = 2 := rfl
@[simp] theorem R.BSK_STATUS_RETAINED_w : R.BSK_STATUS_RETAINED.w = 1 := rfl
@[simp] theorem R.BSK_STATUS_HALF_w : R.BSK_STATUS_HALF.w = 1 := rfl
@[simp] theorem R.BSK_STATUS_LAYOUT_HELD_w : R.BSK_STATUS_LAYOUT_HELD.w = 1 := rfl
@[simp] theorem R.BSK_STATUS_STALE_w : R.BSK_STATUS_STALE.w = 1 := rfl
@[simp] theorem R.BSK_STATUS_LAST_ERR_w : R.BSK_STATUS_LAST_ERR.w = 8 := rfl
@[simp] theorem R.BSK_STATUS_WT_CAUSE_w : R.BSK_STATUS_WT_CAUSE.w = 2 := rfl
@[simp] theorem R.BSK_POP_CHANNELS_w : R.BSK_POP_CHANNELS.w = 1 := rfl
@[simp] theorem R.BSK_POP_RANKS_w : R.BSK_POP_RANKS.w = 1 := rfl
@[simp] theorem R.BSK_POP_DENSITY_w : R.BSK_POP_DENSITY.w = 1 := rfl
@[simp] theorem R.BSK_POP_RL_w : R.BSK_POP_RL.w = 5 := rfl
@[simp] theorem R.BSK_POP_CONSERVATIVE_w : R.BSK_POP_CONSERVATIVE.w = 1 := rfl
@[simp] theorem R.BSK_LAYOUT_WS_UNITS_w : R.BSK_LAYOUT_WS_UNITS.w = 7 := rfl
@[simp] theorem R.BSK_LAYOUT_USER_UNITS_w : R.BSK_LAYOUT_USER_UNITS.w = 7 := rfl
@[simp] theorem R.BSK_LAYOUT_WS_ACT_w : R.BSK_LAYOUT_WS_ACT.w = 7 := rfl
@[simp] theorem R.BSK_DIRTY_CFG_LIMIT_GIB_w : R.BSK_DIRTY_CFG_LIMIT_GIB.w = 5 := rfl
@[simp] theorem R.BSK_DIRTY_CFG_HWM_PCT_w : R.BSK_DIRTY_CFG_HWM_PCT.w = 7 := rfl
@[simp] theorem R.BSK_DIRTY_CFG_DELAY_w : R.BSK_DIRTY_CFG_DELAY.w = 12 := rfl
@[simp] theorem R.BSK_DIRTY_CFG_CLEAN_MAX_GIB_w : R.BSK_DIRTY_CFG_CLEAN_MAX_GIB.w = 4 := rfl
@[simp] theorem R.BSK_DIRTY_DIRTY_PAGES_w : R.BSK_DIRTY_DIRTY_PAGES.w = 23 := rfl
@[simp] theorem R.BSK_DIRTY_CLEAN_UNITS_w : R.BSK_DIRTY_CLEAN_UNITS.w = 7 := rfl
@[simp] theorem R.BSK_DIRTY_STALE_w : R.BSK_DIRTY_STALE.w = 1 := rfl
@[simp] theorem R.BSK_SCRUB_HOURS_w : R.BSK_SCRUB_HOURS.w = 8 := rfl
@[simp] theorem R.BSK_SCRUB_PASSES_w : R.BSK_SCRUB_PASSES.w = 16 := rfl
@[simp] theorem R.BSK_INT_STATUS_ECC_CE_w : R.BSK_INT_STATUS_ECC_CE.w = 1 := rfl
@[simp] theorem R.BSK_INT_STATUS_ECC_UE_w : R.BSK_INT_STATUS_ECC_UE.w = 1 := rfl
@[simp] theorem R.BSK_INT_STATUS_LANE_FAIL_w : R.BSK_INT_STATUS_LANE_FAIL.w = 1 := rfl
@[simp] theorem R.BSK_INT_STATUS_CH_FAIL_w : R.BSK_INT_STATUS_CH_FAIL.w = 1 := rfl
@[simp] theorem R.BSK_INT_STATUS_WT_ENTER_w : R.BSK_INT_STATUS_WT_ENTER.w = 1 := rfl
@[simp] theorem R.BSK_INT_STATUS_HWM_w : R.BSK_INT_STATUS_HWM.w = 1 := rfl
@[simp] theorem R.BSK_INT_STATUS_LIMIT_w : R.BSK_INT_STATUS_LIMIT.w = 1 := rfl
@[simp] theorem R.BSK_INT_STATUS_NOT_RETAINED_w : R.BSK_INT_STATUS_NOT_RETAINED.w = 1 := rfl
@[simp] theorem R.BSK_INT_STATUS_SCRUB_DONE_w : R.BSK_INT_STATUS_SCRUB_DONE.w = 1 := rfl
@[simp] theorem R.BSK_INT_ENABLE_ECC_CE_w : R.BSK_INT_ENABLE_ECC_CE.w = 1 := rfl
@[simp] theorem R.BSK_INT_ENABLE_ECC_UE_w : R.BSK_INT_ENABLE_ECC_UE.w = 1 := rfl
@[simp] theorem R.BSK_INT_ENABLE_LANE_FAIL_w : R.BSK_INT_ENABLE_LANE_FAIL.w = 1 := rfl
@[simp] theorem R.BSK_INT_ENABLE_CH_FAIL_w : R.BSK_INT_ENABLE_CH_FAIL.w = 1 := rfl
@[simp] theorem R.BSK_INT_ENABLE_WT_ENTER_w : R.BSK_INT_ENABLE_WT_ENTER.w = 1 := rfl
@[simp] theorem R.BSK_INT_ENABLE_HWM_w : R.BSK_INT_ENABLE_HWM.w = 1 := rfl
@[simp] theorem R.BSK_INT_ENABLE_LIMIT_w : R.BSK_INT_ENABLE_LIMIT.w = 1 := rfl
@[simp] theorem R.BSK_INT_ENABLE_NOT_RETAINED_w : R.BSK_INT_ENABLE_NOT_RETAINED.w = 1 := rfl
@[simp] theorem R.BSK_INT_ENABLE_SCRUB_DONE_w : R.BSK_INT_ENABLE_SCRUB_DONE.w = 1 := rfl
@[simp] theorem R.BSK_ECC_CE_w : R.BSK_ECC_CE.w = 16 := rfl
@[simp] theorem R.BSK_ECC_UE_w : R.BSK_ECC_UE.w = 16 := rfl
@[simp] theorem R.BSK_UE_ADDR_PAGE_w : R.BSK_UE_ADDR_PAGE.w = 24 := rfl
@[simp] theorem R.BSK_UE_ADDR_CHANNEL_w : R.BSK_UE_ADDR_CHANNEL.w = 4 := rfl
@[simp] theorem R.BSK_UE_ADDR_REGION_w : R.BSK_UE_ADDR_REGION.w = 3 := rfl
@[simp] theorem R.BSK_UE_ADDR_VALID_w : R.BSK_UE_ADDR_VALID.w = 1 := rfl
@[simp] theorem R.BSK_CHc_LANE_w (n : Nat) : (R.BSK_CHc_LANE n).w = 7 := rfl
@[simp] theorem R.BSK_CHc_TRAIN_OK_w (n : Nat) : (R.BSK_CHc_TRAIN_OK n).w = 1 := rfl
@[simp] theorem R.BSK_CHc_FAILED_w (n : Nat) : (R.BSK_CHc_FAILED n).w = 1 := rfl
@[simp] theorem R.BSK_CHc_CE_w (n : Nat) : (R.BSK_CHc_CE n).w = 16 := rfl
@[simp] theorem R.BAL_CTRL_CLR_ERR_w : R.BAL_CTRL_CLR_ERR.w = 1 := rfl
@[simp] theorem R.BAL_CTRL_DISCARD_w : R.BAL_CTRL_DISCARD.w = 1 := rfl
@[simp] theorem R.BAL_STATUS_STATE_w : R.BAL_STATUS_STATE.w = 3 := rfl
@[simp] theorem R.BAL_STATUS_VAULT0_w : R.BAL_STATUS_VAULT0.w = 1 := rfl
@[simp] theorem R.BAL_STATUS_VAULT1_w : R.BAL_STATUS_VAULT1.w = 1 := rfl
@[simp] theorem R.BAL_STATUS_STALE_w : R.BAL_STATUS_STALE.w = 1 := rfl
@[simp] theorem R.BAL_STATUS_LAST_ERR_w : R.BAL_STATUS_LAST_ERR.w = 8 := rfl
@[simp] theorem R.BAL_STATUS_REASON_w : R.BAL_STATUS_REASON.w = 4 := rfl
@[simp] theorem R.BAL_CFG_EN_w : R.BAL_CFG_EN.w = 1 := rfl
@[simp] theorem R.BAL_CFG_MODE_w : R.BAL_CFG_MODE.w = 1 := rfl
@[simp] theorem R.BAL_CFG_HOLDUP_MS_w : R.BAL_CFG_HOLDUP_MS.w = 12 := rfl
@[simp] theorem R.BAL_NEED_NEED_MS_w : R.BAL_NEED_NEED_MS.w = 16 := rfl
@[simp] theorem R.BAL_SEQ_DUMP_SEQ_w : R.BAL_SEQ_DUMP_SEQ.w = 32 := rfl
@[simp] theorem R.BAL_LAST_DUMP_MS_w : R.BAL_LAST_DUMP_MS.w = 16 := rfl
@[simp] theorem R.BAL_LAST_RESTORE_MS_w : R.BAL_LAST_RESTORE_MS.w = 16 := rfl
@[simp] theorem R.BAL_LAST_PAGES_PAGES_w : R.BAL_LAST_PAGES_PAGES.w = 23 := rfl
@[simp] theorem R.BAL_LAST_PAGES_PARTIAL_w : R.BAL_LAST_PAGES_PARTIAL.w = 1 := rfl
@[simp] theorem R.BAL_INT_STATUS_ARMED_w : R.BAL_INT_STATUS_ARMED.w = 1 := rfl
@[simp] theorem R.BAL_INT_STATUS_DISARMED_w : R.BAL_INT_STATUS_DISARMED.w = 1 := rfl
@[simp] theorem R.BAL_INT_STATUS_RESTORED_w : R.BAL_INT_STATUS_RESTORED.w = 1 := rfl
@[simp] theorem R.BAL_INT_STATUS_RESTORE_LOSS_w : R.BAL_INT_STATUS_RESTORE_LOSS.w = 1 := rfl
@[simp] theorem R.BAL_INT_STATUS_VAULT_ERR_w : R.BAL_INT_STATUS_VAULT_ERR.w = 1 := rfl
@[simp] theorem R.BAL_INT_STATUS_HELD_w : R.BAL_INT_STATUS_HELD.w = 1 := rfl
@[simp] theorem R.BAL_INT_ENABLE_ARMED_w : R.BAL_INT_ENABLE_ARMED.w = 1 := rfl
@[simp] theorem R.BAL_INT_ENABLE_DISARMED_w : R.BAL_INT_ENABLE_DISARMED.w = 1 := rfl
@[simp] theorem R.BAL_INT_ENABLE_RESTORED_w : R.BAL_INT_ENABLE_RESTORED.w = 1 := rfl
@[simp] theorem R.BAL_INT_ENABLE_RESTORE_LOSS_w : R.BAL_INT_ENABLE_RESTORE_LOSS.w = 1 := rfl
@[simp] theorem R.BAL_INT_ENABLE_VAULT_ERR_w : R.BAL_INT_ENABLE_VAULT_ERR.w = 1 := rfl
@[simp] theorem R.BAL_INT_ENABLE_HELD_w : R.BAL_INT_ENABLE_HELD.w = 1 := rfl
@[simp] theorem R.HPT_CTRL_CLR_ERR_w : R.HPT_CTRL_CLR_ERR.w = 1 := rfl
@[simp] theorem R.HPT_STATUS_STALE_w : R.HPT_STATUS_STALE.w = 1 := rfl
@[simp] theorem R.HPT_STATUS_LAST_ERR_w : R.HPT_STATUS_LAST_ERR.w = 8 := rfl
@[simp] theorem R.HPT_ID_DEVICE_w : R.HPT_ID_DEVICE.w = 16 := rfl
@[simp] theorem R.HPT_ID_REV_w : R.HPT_ID_REV.w = 8 := rfl
@[simp] theorem R.HPT_Pn_CFG_BIF_w (n : Nat) : (R.HPT_Pn_CFG_BIF n).w = 1 := rfl
@[simp] theorem R.HPT_Pn_CFG_MAX_SPEED_w (n : Nat) : (R.HPT_Pn_CFG_MAX_SPEED n).w = 3 := rfl
@[simp] theorem R.HPT_Pn_CFG_L0P_EN_w (n : Nat) : (R.HPT_Pn_CFG_L0P_EN n).w = 1 := rfl
@[simp] theorem R.HPT_Pn_CFG_L1_EN_w (n : Nat) : (R.HPT_Pn_CFG_L1_EN n).w = 1 := rfl
@[simp] theorem R.HPT_Pn_LINK_UP0_w (n : Nat) : (R.HPT_Pn_LINK_UP0 n).w = 1 := rfl
@[simp] theorem R.HPT_Pn_LINK_SPEED0_w (n : Nat) : (R.HPT_Pn_LINK_SPEED0 n).w = 3 := rfl
@[simp] theorem R.HPT_Pn_LINK_WIDTH0_w (n : Nat) : (R.HPT_Pn_LINK_WIDTH0 n).w = 5 := rfl
@[simp] theorem R.HPT_Pn_LINK_FLIT0_w (n : Nat) : (R.HPT_Pn_LINK_FLIT0 n).w = 1 := rfl
@[simp] theorem R.HPT_Pn_LINK_UP1_w (n : Nat) : (R.HPT_Pn_LINK_UP1 n).w = 1 := rfl
@[simp] theorem R.HPT_Pn_LINK_SPEED1_w (n : Nat) : (R.HPT_Pn_LINK_SPEED1 n).w = 3 := rfl
@[simp] theorem R.HPT_Pn_LINK_WIDTH1_w (n : Nat) : (R.HPT_Pn_LINK_WIDTH1 n).w = 5 := rfl
@[simp] theorem R.HPT_Pn_LINK_FLIT1_w (n : Nat) : (R.HPT_Pn_LINK_FLIT1 n).w = 1 := rfl
@[simp] theorem R.HPT_Pn_LINK_STALE_w (n : Nat) : (R.HPT_Pn_LINK_STALE n).w = 1 := rfl
@[simp] theorem R.HPT_Pn_ERR_CORR_w (n : Nat) : (R.HPT_Pn_ERR_CORR n).w = 16 := rfl
@[simp] theorem R.HPT_Pn_ERR_UNCORR_w (n : Nat) : (R.HPT_Pn_ERR_UNCORR n).w = 16 := rfl
@[simp] theorem R.HPT_Pn_CNT_LINK_DOWN_w (n : Nat) : (R.HPT_Pn_CNT_LINK_DOWN n).w = 16 := rfl
@[simp] theorem R.HPT_Pn_CNT_PERST_w (n : Nat) : (R.HPT_Pn_CNT_PERST n).w = 16 := rfl
@[simp] theorem R.HPT_INT_STATUS_LINK_UP_w (p : Nat) : (R.HPT_INT_STATUS_LINK_UP p).w = 1 := rfl
@[simp] theorem R.HPT_INT_STATUS_LINK_DOWN_w (p : Nat) : (R.HPT_INT_STATUS_LINK_DOWN p).w = 1 := rfl
@[simp] theorem R.HPT_INT_STATUS_PERST_w (p : Nat) : (R.HPT_INT_STATUS_PERST p).w = 1 := rfl
@[simp] theorem R.HPT_INT_STATUS_UNCORR_w (p : Nat) : (R.HPT_INT_STATUS_UNCORR p).w = 1 := rfl
@[simp] theorem R.HPT_INT_STATUS_DEGRADED_w (p : Nat) : (R.HPT_INT_STATUS_DEGRADED p).w = 1 := rfl
@[simp] theorem R.HPT_INT_ENABLE_LINK_UP_w (p : Nat) : (R.HPT_INT_ENABLE_LINK_UP p).w = 1 := rfl
@[simp] theorem R.HPT_INT_ENABLE_LINK_DOWN_w (p : Nat) : (R.HPT_INT_ENABLE_LINK_DOWN p).w = 1 := rfl
@[simp] theorem R.HPT_INT_ENABLE_PERST_w (p : Nat) : (R.HPT_INT_ENABLE_PERST p).w = 1 := rfl
@[simp] theorem R.HPT_INT_ENABLE_UNCORR_w (p : Nat) : (R.HPT_INT_ENABLE_UNCORR p).w = 1 := rfl
@[simp] theorem R.HPT_INT_ENABLE_DEGRADED_w (p : Nat) : (R.HPT_INT_ENABLE_DEGRADED p).w = 1 := rfl
@[simp] theorem R.HPT_CE_CTRL_CLR_ERR_w : R.HPT_CE_CTRL_CLR_ERR.w = 1 := rfl
@[simp] theorem R.HPT_CE_STATUS_FETCH_STOPPED_w : R.HPT_CE_STATUS_FETCH_STOPPED.w = 1 := rfl
@[simp] theorem R.HPT_CE_STATUS_SANITIZING_w : R.HPT_CE_STATUS_SANITIZING.w = 1 := rfl
@[simp] theorem R.HPT_CE_STATUS_STALE_w : R.HPT_CE_STATUS_STALE.w = 1 := rfl
@[simp] theorem R.HPT_CE_STATUS_LAST_ERR_w : R.HPT_CE_STATUS_LAST_ERR.w = 8 := rfl
@[simp] theorem R.HPT_CE_POOL_CFG_RSV_DEFAULT_w : R.HPT_CE_POOL_CFG_RSV_DEFAULT.w = 6 := rfl
@[simp] theorem R.HPT_CE_POOL_CFG_Q_CAP_w : R.HPT_CE_POOL_CFG_Q_CAP.w = 13 := rfl
@[simp] theorem R.HPT_CE_POOL_FLOOR_SHARED_FLOOR_w : R.HPT_CE_POOL_FLOOR_SHARED_FLOOR.w = 15 := rfl
@[simp] theorem R.HPT_CE_POOL_FLOOR_LOW_MARK_w : R.HPT_CE_POOL_FLOOR_LOW_MARK.w = 15 := rfl
@[simp] theorem R.HPT_CE_POOL_USE_IN_USE_w : R.HPT_CE_POOL_USE_IN_USE.w = 15 := rfl
@[simp] theorem R.HPT_CE_POOL_USE_RESERVED_w : R.HPT_CE_POOL_USE_RESERVED.w = 15 := rfl
@[simp] theorem R.HPT_CE_POOL_USE_STALE_w : R.HPT_CE_POOL_USE_STALE.w = 1 := rfl
@[simp] theorem R.HPT_CE_WAIT0_BASKET_w : R.HPT_CE_WAIT0_BASKET.w = 15 := rfl
@[simp] theorem R.HPT_CE_WAIT0_SPAR_w : R.HPT_CE_WAIT0_SPAR.w = 15 := rfl
@[simp] theorem R.HPT_CE_WAIT0_STALE_w : R.HPT_CE_WAIT0_STALE.w = 1 := rfl
@[simp] theorem R.HPT_CE_WAIT1_DRIVE_w : R.HPT_CE_WAIT1_DRIVE.w = 15 := rfl
@[simp] theorem R.HPT_CE_WAIT1_LOCK_w : R.HPT_CE_WAIT1_LOCK.w = 15 := rfl
@[simp] theorem R.HPT_CE_WAIT1_STALE_w : R.HPT_CE_WAIT1_STALE.w = 1 := rfl
@[simp] theorem R.HPT_CE_WAIT2_RING_w : R.HPT_CE_WAIT2_RING.w = 15 := rfl
@[simp] theorem R.HPT_CE_WAIT2_ORDERED_w : R.HPT_CE_WAIT2_ORDERED.w = 15 := rfl
@[simp] theorem R.HPT_CE_WAIT2_STALE_w : R.HPT_CE_WAIT2_STALE.w = 1 := rfl
@[simp] theorem R.HPT_CE_INT_STATUS_POOL_LOW_w : R.HPT_CE_INT_STATUS_POOL_LOW.w = 1 := rfl
@[simp] theorem R.HPT_CE_INT_STATUS_SQ_THROTTLE_w : R.HPT_CE_INT_STATUS_SQ_THROTTLE.w = 1 := rfl
@[simp] theorem R.HPT_CE_INT_STATUS_RNR_w : R.HPT_CE_INT_STATUS_RNR.w = 1 := rfl
@[simp] theorem R.HPT_CE_INT_STATUS_ACT_START_w : R.HPT_CE_INT_STATUS_ACT_START.w = 1 := rfl
@[simp] theorem R.HPT_CE_INT_STATUS_ACT_DONE_w : R.HPT_CE_INT_STATUS_ACT_DONE.w = 1 := rfl
@[simp] theorem R.HPT_CE_INT_STATUS_ACT_FAIL_w : R.HPT_CE_INT_STATUS_ACT_FAIL.w = 1 := rfl
@[simp] theorem R.HPT_CE_INT_STATUS_FORMAT_DONE_w : R.HPT_CE_INT_STATUS_FORMAT_DONE.w = 1 := rfl
@[simp] theorem R.HPT_CE_INT_STATUS_SANITIZE_DONE_w : R.HPT_CE_INT_STATUS_SANITIZE_DONE.w = 1 := rfl
@[simp] theorem R.HPT_CE_INT_STATUS_SANITIZE_FAIL_w : R.HPT_CE_INT_STATUS_SANITIZE_FAIL.w = 1 := rfl
@[simp] theorem R.HPT_CE_INT_STATUS_QUEUE_REFUSED_w : R.HPT_CE_INT_STATUS_QUEUE_REFUSED.w = 1 := rfl
@[simp] theorem R.HPT_CE_INT_ENABLE_POOL_LOW_w : R.HPT_CE_INT_ENABLE_POOL_LOW.w = 1 := rfl
@[simp] theorem R.HPT_CE_INT_ENABLE_SQ_THROTTLE_w : R.HPT_CE_INT_ENABLE_SQ_THROTTLE.w = 1 := rfl
@[simp] theorem R.HPT_CE_INT_ENABLE_RNR_w : R.HPT_CE_INT_ENABLE_RNR.w = 1 := rfl
@[simp] theorem R.HPT_CE_INT_ENABLE_ACT_START_w : R.HPT_CE_INT_ENABLE_ACT_START.w = 1 := rfl
@[simp] theorem R.HPT_CE_INT_ENABLE_ACT_DONE_w : R.HPT_CE_INT_ENABLE_ACT_DONE.w = 1 := rfl
@[simp] theorem R.HPT_CE_INT_ENABLE_ACT_FAIL_w : R.HPT_CE_INT_ENABLE_ACT_FAIL.w = 1 := rfl
@[simp] theorem R.HPT_CE_INT_ENABLE_FORMAT_DONE_w : R.HPT_CE_INT_ENABLE_FORMAT_DONE.w = 1 := rfl
@[simp] theorem R.HPT_CE_INT_ENABLE_SANITIZE_DONE_w : R.HPT_CE_INT_ENABLE_SANITIZE_DONE.w = 1 := rfl
@[simp] theorem R.HPT_CE_INT_ENABLE_SANITIZE_FAIL_w : R.HPT_CE_INT_ENABLE_SANITIZE_FAIL.w = 1 := rfl
@[simp] theorem R.HPT_CE_INT_ENABLE_QUEUE_REFUSED_w : R.HPT_CE_INT_ENABLE_QUEUE_REFUSED.w = 1 := rfl
@[simp] theorem R.HPT_CE_ACT_PHASE_w : R.HPT_CE_ACT_PHASE.w = 3 := rfl
@[simp] theorem R.HPT_CE_ACT_PAIR_WAIT_w : R.HPT_CE_ACT_PAIR_WAIT.w = 1 := rfl
@[simp] theorem R.HPT_CE_ACT_LAST_STATUS_w : R.HPT_CE_ACT_LAST_STATUS.w = 8 := rfl
@[simp] theorem R.HPT_CE_ACT_LAST_PAUSE_MS_w : R.HPT_CE_ACT_LAST_PAUSE_MS.w = 16 := rfl
@[simp] theorem R.HPT_CE_SANI_SSTAT_w : R.HPT_CE_SANI_SSTAT.w = 3 := rfl
@[simp] theorem R.HPT_CE_SANI_ACTION_w : R.HPT_CE_SANI_ACTION.w = 3 := rfl
@[simp] theorem R.HPT_CE_SANI_SPROG_w : R.HPT_CE_SANI_SPROG.w = 16 := rfl
@[simp] theorem R.HPT_CE_CNT_THROTTLE_EPOCHS_w : R.HPT_CE_CNT_THROTTLE_EPOCHS.w = 32 := rfl
@[simp] theorem R.HPT_CE_CNT_RNR_RNR_w : R.HPT_CE_CNT_RNR_RNR.w = 32 := rfl
@[simp] theorem R.HPT_CE_CNT_ABORT_ABORTS_w : R.HPT_CE_CNT_ABORT_ABORTS.w = 32 := rfl
@[simp] theorem R.HPT_CE_CNT_ORDERED_ORDERED_w : R.HPT_CE_CNT_ORDERED_ORDERED.w = 32 := rfl
@[simp] theorem R.FAB_CTRL_CLR_ERR_w : R.FAB_CTRL_CLR_ERR.w = 1 := rfl
@[simp] theorem R.FAB_STATUS_STALE_w : R.FAB_STATUS_STALE.w = 1 := rfl
@[simp] theorem R.FAB_STATUS_LAST_ERR_w : R.FAB_STATUS_LAST_ERR.w = 8 := rfl
@[simp] theorem R.FAB_CFG_ACL_MODE_w : R.FAB_CFG_ACL_MODE.w = 1 := rfl
@[simp] theorem R.FAB_CFG_REFERRALS_w : R.FAB_CFG_REFERRALS.w = 1 := rfl
@[simp] theorem R.FAB_CC_CUT_w : R.FAB_CC_CUT.w = 8 := rfl
@[simp] theorem R.FAB_CC_RECOVER_w : R.FAB_CC_RECOVER.w = 8 := rfl
@[simp] theorem R.FAB_CC_STEP_w : R.FAB_CC_STEP.w = 8 := rfl
@[simp] theorem R.FAB_CC_CNP_GAP_w : R.FAB_CC_CNP_GAP.w = 8 := rfl
@[simp] theorem R.FAB_QP_QPS_w : R.FAB_QP_QPS.w = 13 := rfl
@[simp] theorem R.FAB_QP_CTRLS_w : R.FAB_QP_CTRLS.w = 10 := rfl
@[simp] theorem R.FAB_QP_STALE_w : R.FAB_QP_STALE.w = 1 := rfl
@[simp] theorem R.FAB_INT_STATUS_LINK_UP_w (p : Nat) : (R.FAB_INT_STATUS_LINK_UP p).w = 1 := rfl
@[simp] theorem R.FAB_INT_STATUS_LINK_DOWN_w (p : Nat) : (R.FAB_INT_STATUS_LINK_DOWN p).w = 1 := rfl
@[simp] theorem R.FAB_INT_STATUS_FEC_UE_w (p : Nat) : (R.FAB_INT_STATUS_FEC_UE p).w = 1 := rfl
@[simp] theorem R.FAB_INT_STATUS_PFC_STORM_w (p : Nat) : (R.FAB_INT_STATUS_PFC_STORM p).w = 1 := rfl
@[simp] theorem R.FAB_INT_STATUS_ACL_REJECT_w : R.FAB_INT_STATUS_ACL_REJECT.w = 1 := rfl
@[simp] theorem R.FAB_INT_STATUS_DISC_CHG_w : R.FAB_INT_STATUS_DISC_CHG.w = 1 := rfl
@[simp] theorem R.FAB_INT_STATUS_QP_ERROR_w : R.FAB_INT_STATUS_QP_ERROR.w = 1 := rfl
@[simp] theorem R.FAB_INT_ENABLE_LINK_UP_w (p : Nat) : (R.FAB_INT_ENABLE_LINK_UP p).w = 1 := rfl
@[simp] theorem R.FAB_INT_ENABLE_LINK_DOWN_w (p : Nat) : (R.FAB_INT_ENABLE_LINK_DOWN p).w = 1 := rfl
@[simp] theorem R.FAB_INT_ENABLE_FEC_UE_w (p : Nat) : (R.FAB_INT_ENABLE_FEC_UE p).w = 1 := rfl
@[simp] theorem R.FAB_INT_ENABLE_PFC_STORM_w (p : Nat) : (R.FAB_INT_ENABLE_PFC_STORM p).w = 1 := rfl
@[simp] theorem R.FAB_INT_ENABLE_ACL_REJECT_w : R.FAB_INT_ENABLE_ACL_REJECT.w = 1 := rfl
@[simp] theorem R.FAB_INT_ENABLE_DISC_CHG_w : R.FAB_INT_ENABLE_DISC_CHG.w = 1 := rfl
@[simp] theorem R.FAB_INT_ENABLE_QP_ERROR_w : R.FAB_INT_ENABLE_QP_ERROR.w = 1 := rfl
@[simp] theorem R.FAB_Pp_CFG_BREAKOUT_w (n : Nat) : (R.FAB_Pp_CFG_BREAKOUT n).w = 2 := rfl
@[simp] theorem R.FAB_Pp_CFG_MEDIA_w (n : Nat) : (R.FAB_Pp_CFG_MEDIA n).w = 1 := rfl
@[simp] theorem R.FAB_Pp_CFG_ECN_EN_w (n : Nat) : (R.FAB_Pp_CFG_ECN_EN n).w = 1 := rfl
@[simp] theorem R.FAB_Pp_CFG_ROCE_PRIO_w (n : Nat) : (R.FAB_Pp_CFG_ROCE_PRIO n).w = 3 := rfl
@[simp] theorem R.FAB_Pp_CFG_PFC_MASK_w (n : Nat) : (R.FAB_Pp_CFG_PFC_MASK n).w = 8 := rfl
@[simp] theorem R.FAB_Pp_CFG_CABLE_M_w (n : Nat) : (R.FAB_Pp_CFG_CABLE_M n).w = 11 := rfl
@[simp] theorem R.FAB_Pp_LINK_UP_w (n : Nat) : (R.FAB_Pp_LINK_UP n).w = 4 := rfl
@[simp] theorem R.FAB_Pp_LINK_LFAULT_w (n : Nat) : (R.FAB_Pp_LINK_LFAULT n).w = 4 := rfl
@[simp] theorem R.FAB_Pp_LINK_RFAULT_w (n : Nat) : (R.FAB_Pp_LINK_RFAULT n).w = 4 := rfl
@[simp] theorem R.FAB_Pp_LINK_PAUSED_w (n : Nat) : (R.FAB_Pp_LINK_PAUSED n).w = 4 := rfl
@[simp] theorem R.FAB_Pp_LINK_STALE_w (n : Nat) : (R.FAB_Pp_LINK_STALE n).w = 1 := rfl
@[simp] theorem R.FAB_Pp_PFC_HEADROOM_w (n : Nat) : (R.FAB_Pp_PFC_HEADROOM n).w = 12 := rfl
@[simp] theorem R.FAB_Pp_PFC_XOFF_w (n : Nat) : (R.FAB_Pp_PFC_XOFF n).w = 12 := rfl
@[simp] theorem R.FAB_Pp_FEC_CE_CE_w (n : Nat) : (R.FAB_Pp_FEC_CE_CE n).w = 32 := rfl
@[simp] theorem R.FAB_Pp_FEC_UE_UE_w (n : Nat) : (R.FAB_Pp_FEC_UE_UE n).w = 32 := rfl
@[simp] theorem R.FAB_Pp_PAUSE_TX_EPOCHS_w (n : Nat) : (R.FAB_Pp_PAUSE_TX_EPOCHS n).w = 32 := rfl
@[simp] theorem R.FAB_Pp_PAUSE_RX_EPOCHS_w (n : Nat) : (R.FAB_Pp_PAUSE_RX_EPOCHS n).w = 32 := rfl
@[simp] theorem R.FAB_Pp_CNP_TX_w (n : Nat) : (R.FAB_Pp_CNP_TX n).w = 16 := rfl
@[simp] theorem R.FAB_Pp_CNP_RX_w (n : Nat) : (R.FAB_Pp_CNP_RX n).w = 16 := rfl
@[simp] theorem R.DRV_CTRL_CLR_ERR_w : R.DRV_CTRL_CLR_ERR.w = 1 := rfl
@[simp] theorem R.DRV_STATUS_STALE_w : R.DRV_STATUS_STALE.w = 1 := rfl
@[simp] theorem R.DRV_STATUS_LAST_ERR_w : R.DRV_STATUS_LAST_ERR.w = 8 := rfl
@[simp] theorem R.DRV_INT_ADD_PORTS_w : R.DRV_INT_ADD_PORTS.w = 32 := rfl
@[simp] theorem R.DRV_INT_REMOVE_PORTS_w : R.DRV_INT_REMOVE_PORTS.w = 32 := rfl
@[simp] theorem R.DRV_INT_LINK_PORTS_w : R.DRV_INT_LINK_PORTS.w = 32 := rfl
@[simp] theorem R.DRV_INT_FENCE_PORTS_w : R.DRV_INT_FENCE_PORTS.w = 32 := rfl
@[simp] theorem R.DRV_INT_ADD_EN_PORTS_w : R.DRV_INT_ADD_EN_PORTS.w = 32 := rfl
@[simp] theorem R.DRV_INT_REMOVE_EN_PORTS_w : R.DRV_INT_REMOVE_EN_PORTS.w = 32 := rfl
@[simp] theorem R.DRV_INT_LINK_EN_PORTS_w : R.DRV_INT_LINK_EN_PORTS.w = 32 := rfl
@[simp] theorem R.DRV_INT_FENCE_EN_PORTS_w : R.DRV_INT_FENCE_EN_PORTS.w = 32 := rfl
@[simp] theorem R.DRV_Pp_CFG_BIF_w (n : Nat) : (R.DRV_Pp_CFG_BIF n).w = 1 := rfl
@[simp] theorem R.DRV_Pp_CFG_MAX_SPEED_w (n : Nat) : (R.DRV_Pp_CFG_MAX_SPEED n).w = 3 := rfl
@[simp] theorem R.DRV_Pp_CFG_L1SS_EN_w (n : Nat) : (R.DRV_Pp_CFG_L1SS_EN n).w = 1 := rfl
@[simp] theorem R.DRV_Pp_S0_PRESENT_w (n : Nat) : (R.DRV_Pp_S0_PRESENT n).w = 1 := rfl
@[simp] theorem R.DRV_Pp_S0_POWERED_w (n : Nat) : (R.DRV_Pp_S0_POWERED n).w = 1 := rfl
@[simp] theorem R.DRV_Pp_S0_LINK_UP_w (n : Nat) : (R.DRV_Pp_S0_LINK_UP n).w = 1 := rfl
@[simp] theorem R.DRV_Pp_S0_SPEED_w (n : Nat) : (R.DRV_Pp_S0_SPEED n).w = 3 := rfl
@[simp] theorem R.DRV_Pp_S0_WIDTH_w (n : Nat) : (R.DRV_Pp_S0_WIDTH n).w = 3 := rfl
@[simp] theorem R.DRV_Pp_S0_USE_w (n : Nat) : (R.DRV_Pp_S0_USE n).w = 3 := rfl
@[simp] theorem R.DRV_Pp_S0_NOFENCE_w (n : Nat) : (R.DRV_Pp_S0_NOFENCE n).w = 1 := rfl
@[simp] theorem R.DRV_Pp_S0_DEGRADED_LINK_w (n : Nat) : (R.DRV_Pp_S0_DEGRADED_LINK n).w = 1 := rfl
@[simp] theorem R.DRV_Pp_S0_LINK_FAIL_w (n : Nat) : (R.DRV_Pp_S0_LINK_FAIL n).w = 1 := rfl
@[simp] theorem R.DRV_Pp_S0_STALE_w (n : Nat) : (R.DRV_Pp_S0_STALE n).w = 1 := rfl
@[simp] theorem R.DRV_Pp_S1_PRESENT_w (n : Nat) : (R.DRV_Pp_S1_PRESENT n).w = 1 := rfl
@[simp] theorem R.DRV_Pp_S1_POWERED_w (n : Nat) : (R.DRV_Pp_S1_POWERED n).w = 1 := rfl
@[simp] theorem R.DRV_Pp_S1_LINK_UP_w (n : Nat) : (R.DRV_Pp_S1_LINK_UP n).w = 1 := rfl
@[simp] theorem R.DRV_Pp_S1_SPEED_w (n : Nat) : (R.DRV_Pp_S1_SPEED n).w = 3 := rfl
@[simp] theorem R.DRV_Pp_S1_WIDTH_w (n : Nat) : (R.DRV_Pp_S1_WIDTH n).w = 3 := rfl
@[simp] theorem R.DRV_Pp_S1_USE_w (n : Nat) : (R.DRV_Pp_S1_USE n).w = 3 := rfl
@[simp] theorem R.DRV_Pp_S1_NOFENCE_w (n : Nat) : (R.DRV_Pp_S1_NOFENCE n).w = 1 := rfl
@[simp] theorem R.DRV_Pp_S1_DEGRADED_LINK_w (n : Nat) : (R.DRV_Pp_S1_DEGRADED_LINK n).w = 1 := rfl
@[simp] theorem R.DRV_Pp_S1_LINK_FAIL_w (n : Nat) : (R.DRV_Pp_S1_LINK_FAIL n).w = 1 := rfl
@[simp] theorem R.DRV_Pp_S1_STALE_w (n : Nat) : (R.DRV_Pp_S1_STALE n).w = 1 := rfl
@[simp] theorem R.DRV_Pp_CTRL_ATTN0_w (n : Nat) : (R.DRV_Pp_CTRL_ATTN0 n).w = 1 := rfl
@[simp] theorem R.DRV_Pp_CTRL_ATTN1_w (n : Nat) : (R.DRV_Pp_CTRL_ATTN1 n).w = 1 := rfl
@[simp] theorem R.DRV_Pp_CTRL_OFF0_w (n : Nat) : (R.DRV_Pp_CTRL_OFF0 n).w = 1 := rfl
@[simp] theorem R.DRV_Pp_CTRL_OFF1_w (n : Nat) : (R.DRV_Pp_CTRL_OFF1 n).w = 1 := rfl
@[simp] theorem R.DRV_Pp_CTRL_ON0_w (n : Nat) : (R.DRV_Pp_CTRL_ON0 n).w = 1 := rfl
@[simp] theorem R.DRV_Pp_CTRL_ON1_w (n : Nat) : (R.DRV_Pp_CTRL_ON1 n).w = 1 := rfl
@[simp] theorem R.DRV_BPn_PRESENT_w (n : Nat) : (R.DRV_BPn_PRESENT n).w = 1 := rfl
@[simp] theorem R.DRV_BPn_POWERED_w (n : Nat) : (R.DRV_BPn_POWERED n).w = 1 := rfl
@[simp] theorem R.DRV_BPn_LINK_UP_w (n : Nat) : (R.DRV_BPn_LINK_UP n).w = 1 := rfl
@[simp] theorem R.DRV_BPn_SPEED_w (n : Nat) : (R.DRV_BPn_SPEED n).w = 3 := rfl
@[simp] theorem R.DRV_BPn_WIDTH_w (n : Nat) : (R.DRV_BPn_WIDTH n).w = 3 := rfl
@[simp] theorem R.DRV_BPn_USE_w (n : Nat) : (R.DRV_BPn_USE n).w = 3 := rfl
@[simp] theorem R.DRV_BPn_NOFENCE_w (n : Nat) : (R.DRV_BPn_NOFENCE n).w = 1 := rfl
@[simp] theorem R.DRV_BPn_DEGRADED_LINK_w (n : Nat) : (R.DRV_BPn_DEGRADED_LINK n).w = 1 := rfl
@[simp] theorem R.DRV_BPn_LINK_FAIL_w (n : Nat) : (R.DRV_BPn_LINK_FAIL n).w = 1 := rfl
@[simp] theorem R.DRV_BPn_STALE_w (n : Nat) : (R.DRV_BPn_STALE n).w = 1 := rfl
@[simp] theorem R.SPL_CTRL_CLR_ERR_w : R.SPL_CTRL_CLR_ERR.w = 1 := rfl
@[simp] theorem R.SPL_STATUS_RUNNING_w : R.SPL_STATUS_RUNNING.w = 7 := rfl
@[simp] theorem R.SPL_STATUS_STALE_w : R.SPL_STATUS_STALE.w = 1 := rfl
@[simp] theorem R.SPL_STATUS_LAST_ERR_w : R.SPL_STATUS_LAST_ERR.w = 8 := rfl
@[simp] theorem R.SPL_STATUS_WAITING_w : R.SPL_STATUS_WAITING.w = 7 := rfl
@[simp] theorem R.SPL_CFG_HOST_MASK_w : R.SPL_CFG_HOST_MASK.w = 4 := rfl
@[simp] theorem R.SPL_INT_DONE_LO_DONE_w : R.SPL_INT_DONE_LO_DONE.w = 32 := rfl
@[simp] theorem R.SPL_INT_DONE_HI_DONE_w : R.SPL_INT_DONE_HI_DONE.w = 32 := rfl
@[simp] theorem R.SPL_INT_ERR_LO_ERR_w : R.SPL_INT_ERR_LO_ERR.w = 32 := rfl
@[simp] theorem R.SPL_INT_ERR_HI_ERR_w : R.SPL_INT_ERR_HI_ERR.w = 32 := rfl
@[simp] theorem R.SPL_INT_DONE_LO_EN_DONE_w : R.SPL_INT_DONE_LO_EN_DONE.w = 32 := rfl
@[simp] theorem R.SPL_INT_DONE_HI_EN_DONE_w : R.SPL_INT_DONE_HI_EN_DONE.w = 32 := rfl
@[simp] theorem R.SPL_INT_ERR_LO_EN_ERR_w : R.SPL_INT_ERR_LO_EN_ERR.w = 32 := rfl
@[simp] theorem R.SPL_INT_ERR_HI_EN_ERR_w : R.SPL_INT_ERR_HI_EN_ERR.w = 32 := rfl
@[simp] theorem R.SPL_TMRk_PERIOD_w (n : Nat) : (R.SPL_TMRk_PERIOD n).w = 31 := rfl
@[simp] theorem R.SPL_TMRk_ALIGN_w (n : Nat) : (R.SPL_TMRk_ALIGN n).w = 1 := rfl
@[simp] theorem R.SPL_CHc_CTRL_START_w (n : Nat) : (R.SPL_CHc_CTRL_START n).w = 1 := rfl
@[simp] theorem R.SPL_CHc_CTRL_STOP_w (n : Nat) : (R.SPL_CHc_CTRL_STOP n).w = 1 := rfl
@[simp] theorem R.SPL_CHc_CTRL_RESUME_w (n : Nat) : (R.SPL_CHc_CTRL_RESUME n).w = 1 := rfl
@[simp] theorem R.SPL_CHc_CTRL_ABORT_w (n : Nat) : (R.SPL_CHc_CTRL_ABORT n).w = 1 := rfl
@[simp] theorem R.SPL_CHc_CFG_PRIO_w (n : Nat) : (R.SPL_CHc_CFG_PRIO n).w = 2 := rfl
@[simp] theorem R.SPL_CHc_CFG_TRIG_SRC_w (n : Nat) : (R.SPL_CHc_CFG_TRIG_SRC n).w = 3 := rfl
@[simp] theorem R.SPL_CHc_CFG_TRIG_SEL_w (n : Nat) : (R.SPL_CHc_CFG_TRIG_SEL n).w = 6 := rfl
@[simp] theorem R.SPL_CHc_LIMIT_CHAIN_LIMIT_w (n : Nat) : (R.SPL_CHc_LIMIT_CHAIN_LIMIT n).w = 21 := rfl
@[simp] theorem R.SPL_CHc_STATUS_STATE_w (n : Nat) : (R.SPL_CHc_STATUS_STATE n).w = 3 := rfl
@[simp] theorem R.SPL_CHc_STATUS_STATUS_w (n : Nat) : (R.SPL_CHc_STATUS_STATUS n).w = 3 := rfl
@[simp] theorem R.SPL_CHc_STATUS_PENDING_w (n : Nat) : (R.SPL_CHc_STATUS_PENDING n).w = 1 := rfl
@[simp] theorem R.SPL_CHc_STATUS_DEVICE_w (n : Nat) : (R.SPL_CHc_STATUS_DEVICE n).w = 1 := rfl
@[simp] theorem R.SPL_CHc_STATUS_MISSED_w (n : Nat) : (R.SPL_CHc_STATUS_MISSED n).w = 8 := rfl
@[simp] theorem R.SPL_CHc_STATUS_STALE_w (n : Nat) : (R.SPL_CHc_STATUS_STALE n).w = 1 := rfl
@[simp] theorem R.SPL_CHc_DESC_LO_SPACE_w (n : Nat) : (R.SPL_CHc_DESC_LO_SPACE n).w = 4 := rfl
@[simp] theorem R.SPL_CHc_DESC_LO_ADDR_LO_w (n : Nat) : (R.SPL_CHc_DESC_LO_ADDR_LO n).w = 26 := rfl
@[simp] theorem R.SPL_CHc_DESC_HI_ADDR_HI_w (n : Nat) : (R.SPL_CHc_DESC_HI_ADDR_HI n).w = 32 := rfl
@[simp] theorem R.SPL_CHc_COMPL_LO_SPACE_w (n : Nat) : (R.SPL_CHc_COMPL_LO_SPACE n).w = 4 := rfl
@[simp] theorem R.SPL_CHc_COMPL_LO_ADDR_LO_w (n : Nat) : (R.SPL_CHc_COMPL_LO_ADDR_LO n).w = 28 := rfl
@[simp] theorem R.SPL_CHc_COMPL_HI_ADDR_HI_w (n : Nat) : (R.SPL_CHc_COMPL_HI_ADDR_HI n).w = 32 := rfl
@[simp] theorem R.SPL_CHc_DONE_DESC_COUNT_w (n : Nat) : (R.SPL_CHc_DONE_DESC_COUNT n).w = 32 := rfl
@[simp] theorem R.SPL_CHc_BYTES_BYTES_w (n : Nat) : (R.SPL_CHc_BYTES_BYTES n).w = 24 := rfl
@[simp] theorem R.SPL_CHc_ERR_ADDR_LO_ADDR_LO_w (n : Nat) : (R.SPL_CHc_ERR_ADDR_LO_ADDR_LO n).w = 32 := rfl
@[simp] theorem R.SPL_CHc_ERR_ADDR_HI_ADDR_HI_w (n : Nat) : (R.SPL_CHc_ERR_ADDR_HI_ADDR_HI n).w = 32 := rfl
@[simp] theorem R.SPL_CHc_ERR_INFO_SPACE_w (n : Nat) : (R.SPL_CHc_ERR_INFO_SPACE n).w = 4 := rfl
@[simp] theorem R.SPL_CHc_ERR_INFO_DIR_w (n : Nat) : (R.SPL_CHc_ERR_INFO_DIR n).w = 3 := rfl
@[simp] theorem R.SPL_CHc_ERR_INFO_CAUSE_w (n : Nat) : (R.SPL_CHc_ERR_INFO_CAUSE n).w = 3 := rfl
@[simp] theorem R.SPL_CHc_ERR_INFO_VALID_w (n : Nat) : (R.SPL_CHc_ERR_INFO_VALID n).w = 1 := rfl
@[simp] theorem R.STG_CTRL_CLR_ERR_w : R.STG_CTRL_CLR_ERR.w = 1 := rfl
@[simp] theorem R.STG_CTRL_REELECT_w : R.STG_CTRL_REELECT.w = 1 := rfl
@[simp] theorem R.STG_STATUS_STATE_w : R.STG_STATUS_STATE.w = 3 := rfl
@[simp] theorem R.STG_STATUS_REEL_w : R.STG_STATUS_REEL.w = 1 := rfl
@[simp] theorem R.STG_STATUS_WRAPPED_w : R.STG_STATUS_WRAPPED.w = 1 := rfl
@[simp] theorem R.STG_STATUS_GEN_BEHIND_w : R.STG_STATUS_GEN_BEHIND.w = 1 := rfl
@[simp] theorem R.STG_STATUS_STALE_w : R.STG_STATUS_STALE.w = 1 := rfl
@[simp] theorem R.STG_STATUS_LAST_ERR_w : R.STG_STATUS_LAST_ERR.w = 8 := rfl
@[simp] theorem R.STG_STATUS_REFUSE_w : R.STG_STATUS_REFUSE.w = 3 := rfl
@[simp] theorem R.STG_CFG_EN_w : R.STG_CFG_EN.w = 1 := rfl
@[simp] theorem R.STG_CFG_REEL_PRIO_w : R.STG_CFG_REEL_PRIO.w = 8 := rfl
@[simp] theorem R.STG_ID_UNIT_w : R.STG_ID_UNIT.w = 16 := rfl
@[simp] theorem R.STG_ID_SLOT_w : R.STG_ID_SLOT.w = 10 := rfl
@[simp] theorem R.STG_STRING_ID_STRING_ID_w : R.STG_STRING_ID_STRING_ID.w = 32 := rfl
@[simp] theorem R.STG_RING_POS_w : R.STG_RING_POS.w = 10 := rfl
@[simp] theorem R.STG_RING_SIZE_w : R.STG_RING_SIZE.w = 11 := rfl
@[simp] theorem R.STG_RING_STALE_w : R.STG_RING_STALE.w = 1 := rfl
@[simp] theorem R.STG_REEL_REEL_UNIT_w : R.STG_REEL_REEL_UNIT.w = 16 := rfl
@[simp] theorem R.STG_REEL_HOPS_w : R.STG_REEL_HOPS.w = 10 := rfl
@[simp] theorem R.STG_REEL_DIR_w : R.STG_REEL_DIR.w = 1 := rfl
@[simp] theorem R.STG_REEL_STALE_w : R.STG_REEL_STALE.w = 1 := rfl
@[simp] theorem R.STG_COLLECT_DEPTH_w : R.STG_COLLECT_DEPTH.w = 11 := rfl
@[simp] theorem R.STG_COLLECT_PEAK_w : R.STG_COLLECT_PEAK.w = 11 := rfl
@[simp] theorem R.STG_COLLECT_STALE_w : R.STG_COLLECT_STALE.w = 1 := rfl
@[simp] theorem R.STG_PORT_W_LINK_w : R.STG_PORT_W_LINK.w = 2 := rfl
@[simp] theorem R.STG_PORT_W_LOCK_w : R.STG_PORT_W_LOCK.w = 2 := rfl
@[simp] theorem R.STG_PORT_W_INVERT_w : R.STG_PORT_W_INVERT.w = 2 := rfl
@[simp] theorem R.STG_PORT_W_DELAY_NS_w : R.STG_PORT_W_DELAY_NS.w = 12 := rfl
@[simp] theorem R.STG_PORT_W_STALE_w : R.STG_PORT_W_STALE.w = 1 := rfl
@[simp] theorem R.STG_PORT_E_LINK_w : R.STG_PORT_E_LINK.w = 2 := rfl
@[simp] theorem R.STG_PORT_E_LOCK_w : R.STG_PORT_E_LOCK.w = 2 := rfl
@[simp] theorem R.STG_PORT_E_INVERT_w : R.STG_PORT_E_INVERT.w = 2 := rfl
@[simp] theorem R.STG_PORT_E_DELAY_NS_w : R.STG_PORT_E_DELAY_NS.w = 12 := rfl
@[simp] theorem R.STG_PORT_E_STALE_w : R.STG_PORT_E_STALE.w = 1 := rfl
@[simp] theorem R.STG_ERR_W_CRC_w : R.STG_ERR_W_CRC.w = 16 := rfl
@[simp] theorem R.STG_ERR_W_DOWN_w : R.STG_ERR_W_DOWN.w = 16 := rfl
@[simp] theorem R.STG_ERR_E_CRC_w : R.STG_ERR_E_CRC.w = 16 := rfl
@[simp] theorem R.STG_ERR_E_DOWN_w : R.STG_ERR_E_DOWN.w = 16 := rfl
@[simp] theorem R.STG_INT_STATUS_JOINED_w : R.STG_INT_STATUS_JOINED.w = 1 := rfl
@[simp] theorem R.STG_INT_STATUS_REFUSED_w : R.STG_INT_STATUS_REFUSED.w = 1 := rfl
@[simp] theorem R.STG_INT_STATUS_WRAP_w : R.STG_INT_STATUS_WRAP.w = 1 := rfl
@[simp] theorem R.STG_INT_STATUS_UNWRAP_w : R.STG_INT_STATUS_UNWRAP.w = 1 := rfl
@[simp] theorem R.STG_INT_STATUS_REEL_LOST_w : R.STG_INT_STATUS_REEL_LOST.w = 1 := rfl
@[simp] theorem R.STG_INT_STATUS_REEL_CHG_w : R.STG_INT_STATUS_REEL_CHG.w = 1 := rfl
@[simp] theorem R.STG_INT_STATUS_GEN_APPLIED_w : R.STG_INT_STATUS_GEN_APPLIED.w = 1 := rfl
@[simp] theorem R.STG_INT_STATUS_GEN_REJECTED_w : R.STG_INT_STATUS_GEN_REJECTED.w = 1 := rfl
@[simp] theorem R.STG_INT_STATUS_DIR_CHG_w : R.STG_INT_STATUS_DIR_CHG.w = 1 := rfl
@[simp] theorem R.STG_INT_STATUS_FOREIGN_w : R.STG_INT_STATUS_FOREIGN.w = 1 := rfl
@[simp] theorem R.STG_INT_ENABLE_JOINED_w : R.STG_INT_ENABLE_JOINED.w = 1 := rfl
@[simp] theorem R.STG_INT_ENABLE_REFUSED_w : R.STG_INT_ENABLE_REFUSED.w = 1 := rfl
@[simp] theorem R.STG_INT_ENABLE_WRAP_w : R.STG_INT_ENABLE_WRAP.w = 1 := rfl
@[simp] theorem R.STG_INT_ENABLE_UNWRAP_w : R.STG_INT_ENABLE_UNWRAP.w = 1 := rfl
@[simp] theorem R.STG_INT_ENABLE_REEL_LOST_w : R.STG_INT_ENABLE_REEL_LOST.w = 1 := rfl
@[simp] theorem R.STG_INT_ENABLE_REEL_CHG_w : R.STG_INT_ENABLE_REEL_CHG.w = 1 := rfl
@[simp] theorem R.STG_INT_ENABLE_GEN_APPLIED_w : R.STG_INT_ENABLE_GEN_APPLIED.w = 1 := rfl
@[simp] theorem R.STG_INT_ENABLE_GEN_REJECTED_w : R.STG_INT_ENABLE_GEN_REJECTED.w = 1 := rfl
@[simp] theorem R.STG_INT_ENABLE_DIR_CHG_w : R.STG_INT_ENABLE_DIR_CHG.w = 1 := rfl
@[simp] theorem R.STG_INT_ENABLE_FOREIGN_w : R.STG_INT_ENABLE_FOREIGN.w = 1 := rfl
@[simp] theorem R.STG_WAKE_TARGET_w : R.STG_WAKE_TARGET.w = 16 := rfl
@[simp] theorem R.STG_WAKE_SEND_w : R.STG_WAKE_SEND.w = 1 := rfl
@[simp] theorem R.SPR_CTRL_CLR_ERR_w : R.SPR_CTRL_CLR_ERR.w = 1 := rfl
@[simp] theorem R.SPR_CTRL_REARM_w : R.SPR_CTRL_REARM.w = 1 := rfl
@[simp] theorem R.SPR_STATUS_STATE_w : R.SPR_STATUS_STATE.w = 3 := rfl
@[simp] theorem R.SPR_STATUS_READY_w : R.SPR_STATUS_READY.w = 1 := rfl
@[simp] theorem R.SPR_STATUS_FLAPPING_w : R.SPR_STATUS_FLAPPING.w = 1 := rfl
@[simp] theorem R.SPR_STATUS_CLAIM_LOST_w : R.SPR_STATUS_CLAIM_LOST.w = 1 := rfl
@[simp] theorem R.SPR_STATUS_STALE_w : R.SPR_STATUS_STALE.w = 1 := rfl
@[simp] theorem R.SPR_STATUS_LAST_ERR_w : R.SPR_STATUS_LAST_ERR.w = 8 := rfl
@[simp] theorem R.SPR_STATUS_REASON_w : R.SPR_STATUS_REASON.w = 4 := rfl
@[simp] theorem R.SPR_CFG_EN_w : R.SPR_CFG_EN.w = 1 := rfl
@[simp] theorem R.SPR_CFG_HOME_w : R.SPR_CFG_HOME.w = 1 := rfl
@[simp] theorem R.SPR_CFG_AUTO_BACK_w : R.SPR_CFG_AUTO_BACK.w = 1 := rfl
@[simp] theorem R.SPR_CFG_HOLDOFF_S_w : R.SPR_CFG_HOLDOFF_S.w = 12 := rfl
@[simp] theorem R.SPR_CFG_PEER_UNIT_w : R.SPR_CFG_PEER_UNIT.w = 16 := rfl
@[simp] theorem R.SPR_TIMING_DETECT_EPOCHS_w : R.SPR_TIMING_DETECT_EPOCHS.w = 4 := rfl
@[simp] theorem R.SPR_TIMING_SOLO_WAIT_w : R.SPR_TIMING_SOLO_WAIT.w = 8 := rfl
@[simp] theorem R.SPR_TIMING_FLAP_MIN_w : R.SPR_TIMING_FLAP_MIN.w = 8 := rfl
@[simp] theorem R.SPR_TIMING_PEER_WAIT_S_w : R.SPR_TIMING_PEER_WAIT_S.w = 8 := rfl
@[simp] theorem R.SPR_CLAIM_LO_CLAIM_LO_w : R.SPR_CLAIM_LO_CLAIM_LO.w = 32 := rfl
@[simp] theorem R.SPR_CLAIM_HI_CLAIM_HI_w : R.SPR_CLAIM_HI_CLAIM_HI.w = 32 := rfl
@[simp] theorem R.SPR_PEER_CLAIM_LO_CLAIM_LO_w : R.SPR_PEER_CLAIM_LO_CLAIM_LO.w = 32 := rfl
@[simp] theorem R.SPR_PEER_CLAIM_HI_CLAIM_HI_w : R.SPR_PEER_CLAIM_HI_CLAIM_HI.w = 32 := rfl
@[simp] theorem R.SPR_HEALTH_LO_HEALTH_LO_w : R.SPR_HEALTH_LO_HEALTH_LO.w = 32 := rfl
@[simp] theorem R.SPR_HEALTH_HI_HEALTH_HI_w : R.SPR_HEALTH_HI_HEALTH_HI.w = 32 := rfl
@[simp] theorem R.SPR_LINK_LANES_w : R.SPR_LINK_LANES.w = 4 := rfl
@[simp] theorem R.SPR_LINK_UP_w : R.SPR_LINK_UP.w = 1 := rfl
@[simp] theorem R.SPR_LINK_STALE_w : R.SPR_LINK_STALE.w = 1 := rfl
@[simp] theorem R.SPR_LINK_CAP_GBS_w : R.SPR_LINK_CAP_GBS.w = 8 := rfl
@[simp] theorem R.SPR_LINK_CRC_w : R.SPR_LINK_CRC.w = 16 := rfl
@[simp] theorem R.SPR_MIRROR_CONFIRMED_w : R.SPR_MIRROR_CONFIRMED.w = 32 := rfl
@[simp] theorem R.SPR_SYNC_PCT_w : R.SPR_SYNC_PCT.w = 7 := rfl
@[simp] theorem R.SPR_SYNC_STALE_w : R.SPR_SYNC_STALE.w = 1 := rfl
@[simp] theorem R.SPR_INT_STATUS_TAKEOVER_w : R.SPR_INT_STATUS_TAKEOVER.w = 1 := rfl
@[simp] theorem R.SPR_INT_STATUS_FENCED_w : R.SPR_INT_STATUS_FENCED.w = 1 := rfl
@[simp] theorem R.SPR_INT_STATUS_HANDBACK_w : R.SPR_INT_STATUS_HANDBACK.w = 1 := rfl
@[simp] theorem R.SPR_INT_STATUS_SPAR_DOWN_w : R.SPR_INT_STATUS_SPAR_DOWN.w = 1 := rfl
@[simp] theorem R.SPR_INT_STATUS_SPAR_UP_w : R.SPR_INT_STATUS_SPAR_UP.w = 1 := rfl
@[simp] theorem R.SPR_INT_STATUS_SYNCED_w : R.SPR_INT_STATUS_SYNCED.w = 1 := rfl
@[simp] theorem R.SPR_INT_STATUS_PEER_NOT_READY_w : R.SPR_INT_STATUS_PEER_NOT_READY.w = 1 := rfl
@[simp] theorem R.SPR_INT_STATUS_SPLIT_w : R.SPR_INT_STATUS_SPLIT.w = 1 := rfl
@[simp] theorem R.SPR_INT_STATUS_SEPARATED_w : R.SPR_INT_STATUS_SEPARATED.w = 1 := rfl
@[simp] theorem R.SPR_INT_STATUS_FLAPPING_w : R.SPR_INT_STATUS_FLAPPING.w = 1 := rfl
@[simp] theorem R.SPR_INT_STATUS_DEGRADED_LINK_w : R.SPR_INT_STATUS_DEGRADED_LINK.w = 1 := rfl
@[simp] theorem R.SPR_INT_ENABLE_TAKEOVER_w : R.SPR_INT_ENABLE_TAKEOVER.w = 1 := rfl
@[simp] theorem R.SPR_INT_ENABLE_FENCED_w : R.SPR_INT_ENABLE_FENCED.w = 1 := rfl
@[simp] theorem R.SPR_INT_ENABLE_HANDBACK_w : R.SPR_INT_ENABLE_HANDBACK.w = 1 := rfl
@[simp] theorem R.SPR_INT_ENABLE_SPAR_DOWN_w : R.SPR_INT_ENABLE_SPAR_DOWN.w = 1 := rfl
@[simp] theorem R.SPR_INT_ENABLE_SPAR_UP_w : R.SPR_INT_ENABLE_SPAR_UP.w = 1 := rfl
@[simp] theorem R.SPR_INT_ENABLE_SYNCED_w : R.SPR_INT_ENABLE_SYNCED.w = 1 := rfl
@[simp] theorem R.SPR_INT_ENABLE_PEER_NOT_READY_w : R.SPR_INT_ENABLE_PEER_NOT_READY.w = 1 := rfl
@[simp] theorem R.SPR_INT_ENABLE_SPLIT_w : R.SPR_INT_ENABLE_SPLIT.w = 1 := rfl
@[simp] theorem R.SPR_INT_ENABLE_SEPARATED_w : R.SPR_INT_ENABLE_SEPARATED.w = 1 := rfl
@[simp] theorem R.SPR_INT_ENABLE_FLAPPING_w : R.SPR_INT_ENABLE_FLAPPING.w = 1 := rfl
@[simp] theorem R.SPR_INT_ENABLE_DEGRADED_LINK_w : R.SPR_INT_ENABLE_DEGRADED_LINK.w = 1 := rfl
@[simp] theorem R.SPR_CNT_TAKEOVERS_w : R.SPR_CNT_TAKEOVERS.w = 16 := rfl
@[simp] theorem R.SPR_CNT_HANDBACKS_w : R.SPR_CNT_HANDBACKS.w = 16 := rfl
@[simp] theorem R.SPR_LAST_TAKEOVER_EPOCHS_w : R.SPR_LAST_TAKEOVER_EPOCHS.w = 8 := rfl
@[simp] theorem R.DWN_CTRL_CLR_ERR_w : R.DWN_CTRL_CLR_ERR.w = 1 := rfl
@[simp] theorem R.DWN_CTRL_CLEAR_FAILS_w : R.DWN_CTRL_CLEAR_FAILS.w = 1 := rfl
@[simp] theorem R.DWN_CTRL_RESTART_w : R.DWN_CTRL_RESTART.w = 1 := rfl
@[simp] theorem R.DWN_STATUS_STEP_w : R.DWN_STATUS_STEP.w = 5 := rfl
@[simp] theorem R.DWN_STATUS_RUNNING_w : R.DWN_STATUS_RUNNING.w = 1 := rfl
@[simp] theorem R.DWN_STATUS_SAFE_w : R.DWN_STATUS_SAFE.w = 1 := rfl
@[simp] theorem R.DWN_STATUS_STALE_w : R.DWN_STATUS_STALE.w = 1 := rfl
@[simp] theorem R.DWN_STATUS_LAST_ERR_w : R.DWN_STATUS_LAST_ERR.w = 8 := rfl
@[simp] theorem R.DWN_STATUS_IMAGE_SLOT_w : R.DWN_STATUS_IMAGE_SLOT.w = 1 := rfl
@[simp] theorem R.DWN_STATUS_CFG_SRC_w : R.DWN_STATUS_CFG_SRC.w = 1 := rfl
@[simp] theorem R.DWN_STATUS_CONFIG_OLDER_w : R.DWN_STATUS_CONFIG_OLDER.w = 1 := rfl
@[simp] theorem R.DWN_CFG_LOCK_WAIT_S_w : R.DWN_CFG_LOCK_WAIT_S.w = 8 := rfl
@[simp] theorem R.DWN_CFG_DRIVE_WAIT_S_w : R.DWN_CFG_DRIVE_WAIT_S.w = 8 := rfl
@[simp] theorem R.DWN_START_START_NO_w : R.DWN_START_START_NO.w = 32 := rfl
@[simp] theorem R.DWN_FAIL_STEP_w : R.DWN_FAIL_STEP.w = 5 := rfl
@[simp] theorem R.DWN_FAIL_DETAIL_w : R.DWN_FAIL_DETAIL.w = 16 := rfl
@[simp] theorem R.DWN_FAILMASK_FAILED_w : R.DWN_FAILMASK_FAILED.w = 18 := rfl
@[simp] theorem R.DWN_ALTMASK_ALT_w : R.DWN_ALTMASK_ALT.w = 18 := rfl
@[simp] theorem R.DWN_TIME_S11_MS_w : R.DWN_TIME_S11_MS.w = 16 := rfl
@[simp] theorem R.DWN_TIME_S17_100MS_w : R.DWN_TIME_S17_100MS.w = 16 := rfl
@[simp] theorem R.DWN_GEN_LO_GEN_LO_w : R.DWN_GEN_LO_GEN_LO.w = 32 := rfl
@[simp] theorem R.DWN_GEN_HI_GEN_HI_w : R.DWN_GEN_HI_GEN_HI.w = 32 := rfl
@[simp] theorem R.DWN_LAUNCH_PENDING_w : R.DWN_LAUNCH_PENDING.w = 1 := rfl
@[simp] theorem R.DWN_LAUNCH_SHADOW_DIFF_w : R.DWN_LAUNCH_SHADOW_DIFF.w = 1 := rfl
@[simp] theorem R.DWN_LAUNCH_LAST_CODE_w : R.DWN_LAUNCH_LAST_CODE.w = 8 := rfl
@[simp] theorem R.DWN_LAUNCH_ERR_WHERE_w : R.DWN_LAUNCH_ERR_WHERE.w = 26 := rfl
@[simp] theorem R.DWN_LAUNCH_ERR_IS_TABLE_w : R.DWN_LAUNCH_ERR_IS_TABLE.w = 1 := rfl
@[simp] theorem R.DWN_INT_STATUS_DAWN_DONE_w : R.DWN_INT_STATUS_DAWN_DONE.w = 1 := rfl
@[simp] theorem R.DWN_INT_STATUS_STEP_FAIL_w : R.DWN_INT_STATUS_STEP_FAIL.w = 1 := rfl
@[simp] theorem R.DWN_INT_STATUS_SAFE_STATE_w : R.DWN_INT_STATUS_SAFE_STATE.w = 1 := rfl
@[simp] theorem R.DWN_INT_STATUS_LAUNCH_DONE_w : R.DWN_INT_STATUS_LAUNCH_DONE.w = 1 := rfl
@[simp] theorem R.DWN_INT_STATUS_LAUNCH_REJECT_w : R.DWN_INT_STATUS_LAUNCH_REJECT.w = 1 := rfl
@[simp] theorem R.DWN_INT_STATUS_PERSIST_DONE_w : R.DWN_INT_STATUS_PERSIST_DONE.w = 1 := rfl
@[simp] theorem R.DWN_INT_STATUS_CONFIG_OLDER_w : R.DWN_INT_STATUS_CONFIG_OLDER.w = 1 := rfl
@[simp] theorem R.DWN_INT_ENABLE_DAWN_DONE_w : R.DWN_INT_ENABLE_DAWN_DONE.w = 1 := rfl
@[simp] theorem R.DWN_INT_ENABLE_STEP_FAIL_w : R.DWN_INT_ENABLE_STEP_FAIL.w = 1 := rfl
@[simp] theorem R.DWN_INT_ENABLE_SAFE_STATE_w : R.DWN_INT_ENABLE_SAFE_STATE.w = 1 := rfl
@[simp] theorem R.DWN_INT_ENABLE_LAUNCH_DONE_w : R.DWN_INT_ENABLE_LAUNCH_DONE.w = 1 := rfl
@[simp] theorem R.DWN_INT_ENABLE_LAUNCH_REJECT_w : R.DWN_INT_ENABLE_LAUNCH_REJECT.w = 1 := rfl
@[simp] theorem R.DWN_INT_ENABLE_PERSIST_DONE_w : R.DWN_INT_ENABLE_PERSIST_DONE.w = 1 := rfl
@[simp] theorem R.DWN_INT_ENABLE_CONFIG_OLDER_w : R.DWN_INT_ENABLE_CONFIG_OLDER.w = 1 := rfl
@[simp] theorem R.SEC_CTRL_CLR_ERR_w : R.SEC_CTRL_CLR_ERR.w = 1 := rfl
@[simp] theorem R.SEC_STATUS_SECURE_BOOT_w : R.SEC_STATUS_SECURE_BOOT.w = 1 := rfl
@[simp] theorem R.SEC_STATUS_DEBUG_LOCKED_w : R.SEC_STATUS_DEBUG_LOCKED.w = 1 := rfl
@[simp] theorem R.SEC_STATUS_IMAGE_KEY_w : R.SEC_STATUS_IMAGE_KEY.w = 2 := rfl
@[simp] theorem R.SEC_STATUS_HOSTKEY_w : R.SEC_STATUS_HOSTKEY.w = 1 := rfl
@[simp] theorem R.SEC_STATUS_PERSIST_MODE_w : R.SEC_STATUS_PERSIST_MODE.w = 1 := rfl
@[simp] theorem R.SEC_STATUS_STALE_w : R.SEC_STATUS_STALE.w = 1 := rfl
@[simp] theorem R.SEC_STATUS_LAST_ERR_w : R.SEC_STATUS_LAST_ERR.w = 8 := rfl
@[simp] theorem R.SEC_KEYS_PROGRAMMED_w : R.SEC_KEYS_PROGRAMMED.w = 4 := rfl
@[simp] theorem R.SEC_KEYS_DAMAGED_w : R.SEC_KEYS_DAMAGED.w = 4 := rfl
@[simp] theorem R.SEC_KEYS_REVOKED_w : R.SEC_KEYS_REVOKED.w = 4 := rfl
@[simp] theorem R.SEC_SVN_OTP_SVN_w : R.SEC_SVN_OTP_SVN.w = 8 := rfl
@[simp] theorem R.SEC_SVN_RUN_SVN_w : R.SEC_SVN_RUN_SVN.w = 8 := rfl
@[simp] theorem R.SEC_SVN_OTHER_SVN_w : R.SEC_SVN_OTHER_SVN.w = 8 := rfl
@[simp] theorem R.SEC_DEVIDn_DEVID_w (n : Nat) : (R.SEC_DEVIDn_DEVID n).w = 32 := rfl
@[simp] theorem R.SEC_SPDM_REQUESTS_w : R.SEC_SPDM_REQUESTS.w = 16 := rfl
@[simp] theorem R.SEC_SPDM_ERRORS_w : R.SEC_SPDM_ERRORS.w = 16 := rfl
@[simp] theorem R.SEC_INT_STATUS_AUTH_FAIL_w : R.SEC_INT_STATUS_AUTH_FAIL.w = 1 := rfl
@[simp] theorem R.SEC_INT_STATUS_ROLLBACK_w : R.SEC_INT_STATUS_ROLLBACK.w = 1 := rfl
@[simp] theorem R.SEC_INT_STATUS_REVOKED_w : R.SEC_INT_STATUS_REVOKED.w = 1 := rfl
@[simp] theorem R.SEC_INT_STATUS_OTP_WRITE_w : R.SEC_INT_STATUS_OTP_WRITE.w = 1 := rfl
@[simp] theorem R.SEC_INT_STATUS_MEAS_CHG_w : R.SEC_INT_STATUS_MEAS_CHG.w = 1 := rfl
@[simp] theorem R.SEC_INT_ENABLE_AUTH_FAIL_w : R.SEC_INT_ENABLE_AUTH_FAIL.w = 1 := rfl
@[simp] theorem R.SEC_INT_ENABLE_ROLLBACK_w : R.SEC_INT_ENABLE_ROLLBACK.w = 1 := rfl
@[simp] theorem R.SEC_INT_ENABLE_REVOKED_w : R.SEC_INT_ENABLE_REVOKED.w = 1 := rfl
@[simp] theorem R.SEC_INT_ENABLE_OTP_WRITE_w : R.SEC_INT_ENABLE_OTP_WRITE.w = 1 := rfl
@[simp] theorem R.SEC_INT_ENABLE_MEAS_CHG_w : R.SEC_INT_ENABLE_MEAS_CHG.w = 1 := rfl
@[simp] theorem R.WSK_CTRL_CLR_ERR_w : R.WSK_CTRL_CLR_ERR.w = 1 := rfl
@[simp] theorem R.WSK_STATUS_STAGING_w : R.WSK_STATUS_STAGING.w = 1 := rfl
@[simp] theorem R.WSK_STATUS_FIXED_FULL_w : R.WSK_STATUS_FIXED_FULL.w = 1 := rfl
@[simp] theorem R.WSK_STATUS_WRAPPED_w : R.WSK_STATUS_WRAPPED.w = 1 := rfl
@[simp] theorem R.WSK_STATUS_STALE_w : R.WSK_STATUS_STALE.w = 1 := rfl
@[simp] theorem R.WSK_STATUS_LAST_ERR_w : R.WSK_STATUS_LAST_ERR.w = 8 := rfl
@[simp] theorem R.WSK_CFG_ACCESS_w : R.WSK_CFG_ACCESS.w = 1 := rfl
@[simp] theorem R.WSK_CFG_GAUGES_EN_w : R.WSK_CFG_GAUGES_EN.w = 1 := rfl
@[simp] theorem R.WSK_CURSOR_PAGE_w (b : Nat) : (R.WSK_CURSOR_PAGE b).w = 8 := rfl
@[simp] theorem R.WSK_COMMIT_LO_NEXT_SEQ_w : R.WSK_COMMIT_LO_NEXT_SEQ.w = 32 := rfl
@[simp] theorem R.WSK_COMMIT_HI_HEAD_w : R.WSK_COMMIT_HI_HEAD.w = 16 := rfl
@[simp] theorem R.WSK_COMMIT_HI_TAIL_w : R.WSK_COMMIT_HI_TAIL.w = 16 := rfl
@[simp] theorem R.WSK_LAST_SEQ_SEQ_w : R.WSK_LAST_SEQ_SEQ.w = 32 := rfl
@[simp] theorem R.WSK_QUEUE_DEPTH_w : R.WSK_QUEUE_DEPTH.w = 9 := rfl
@[simp] theorem R.WSK_QUEUE_PEAK_w : R.WSK_QUEUE_PEAK.w = 9 := rfl
@[simp] theorem R.WSK_QUEUE_STALE_w : R.WSK_QUEUE_STALE.w = 1 := rfl
@[simp] theorem R.WSK_INT_STATUS_RECORD_w : R.WSK_INT_STATUS_RECORD.w = 1 := rfl
@[simp] theorem R.WSK_INT_STATUS_ERROR_RECORD_w : R.WSK_INT_STATUS_ERROR_RECORD.w = 1 := rfl
@[simp] theorem R.WSK_INT_STATUS_FIXED_FULL_w : R.WSK_INT_STATUS_FIXED_FULL.w = 1 := rfl
@[simp] theorem R.WSK_INT_STATUS_WRAPPED_w : R.WSK_INT_STATUS_WRAPPED.w = 1 := rfl
@[simp] theorem R.WSK_INT_STATUS_CLEARED_w : R.WSK_INT_STATUS_CLEARED.w = 1 := rfl
@[simp] theorem R.WSK_INT_STATUS_REINIT_w : R.WSK_INT_STATUS_REINIT.w = 1 := rfl
@[simp] theorem R.WSK_INT_STATUS_QUEUE_WAIT_w : R.WSK_INT_STATUS_QUEUE_WAIT.w = 1 := rfl
@[simp] theorem R.WSK_INT_ENABLE_RECORD_w : R.WSK_INT_ENABLE_RECORD.w = 1 := rfl
@[simp] theorem R.WSK_INT_ENABLE_ERROR_RECORD_w : R.WSK_INT_ENABLE_ERROR_RECORD.w = 1 := rfl
@[simp] theorem R.WSK_INT_ENABLE_FIXED_FULL_w : R.WSK_INT_ENABLE_FIXED_FULL.w = 1 := rfl
@[simp] theorem R.WSK_INT_ENABLE_WRAPPED_w : R.WSK_INT_ENABLE_WRAPPED.w = 1 := rfl
@[simp] theorem R.WSK_INT_ENABLE_CLEARED_w : R.WSK_INT_ENABLE_CLEARED.w = 1 := rfl
@[simp] theorem R.WSK_INT_ENABLE_REINIT_w : R.WSK_INT_ENABLE_REINIT.w = 1 := rfl
@[simp] theorem R.WSK_INT_ENABLE_QUEUE_WAIT_w : R.WSK_INT_ENABLE_QUEUE_WAIT.w = 1 := rfl
@[simp] theorem R.PWR_CTRL_CLR_ERR_w : R.PWR_CTRL_CLR_ERR.w = 1 := rfl
@[simp] theorem R.PWR_CTRL_NIGHT_w : R.PWR_CTRL_NIGHT.w = 1 := rfl
@[simp] theorem R.PWR_STATUS_STATE_w : R.PWR_STATUS_STATE.w = 3 := rfl
@[simp] theorem R.PWR_STATUS_STALE_w : R.PWR_STATUS_STALE.w = 1 := rfl
@[simp] theorem R.PWR_STATUS_PREP_STEP_w : R.PWR_STATUS_PREP_STEP.w = 3 := rfl
@[simp] theorem R.PWR_STATUS_LAST_ERR_w : R.PWR_STATUS_LAST_ERR.w = 8 := rfl
@[simp] theorem R.PWR_CFG_DUSK_EN_w : R.PWR_CFG_DUSK_EN.w = 1 := rfl
@[simp] theorem R.PWR_CFG_ONLINE_ON_WAKE_w : R.PWR_CFG_ONLINE_ON_WAKE.w = 1 := rfl
@[simp] theorem R.PWR_CFG_DUSK_IDLE_w : R.PWR_CFG_DUSK_IDLE.w = 8 := rfl
@[simp] theorem R.PWR_CFG_DUSK_CMDS_w : R.PWR_CFG_DUSK_CMDS.w = 16 := rfl
@[simp] theorem R.PWR_WAKE_EN_PIN_w : R.PWR_WAKE_EN_PIN.w = 1 := rfl
@[simp] theorem R.PWR_WAKE_EN_STRING_w : R.PWR_WAKE_EN_STRING.w = 1 := rfl
@[simp] theorem R.PWR_WAKE_EN_ALARM_w : R.PWR_WAKE_EN_ALARM.w = 1 := rfl
@[simp] theorem R.PWR_WAKE_EN_SMBUS_w : R.PWR_WAKE_EN_SMBUS.w = 1 := rfl
@[simp] theorem R.PWR_WAKE_SRC_SRC_w : R.PWR_WAKE_SRC_SRC.w = 4 := rfl
@[simp] theorem R.PWR_WAKE_SRC_WAKES_w : R.PWR_WAKE_SRC_WAKES.w = 16 := rfl
@[simp] theorem R.PWR_RET_STATUS_FAILED_w : R.PWR_RET_STATUS_FAILED.w = 24 := rfl
@[simp] theorem R.PWR_RET_STATUS_VALID_w : R.PWR_RET_STATUS_VALID.w = 1 := rfl
@[simp] theorem R.PWR_RESET_CAUSE_POWER_ON_w : R.PWR_RESET_CAUSE_POWER_ON.w = 1 := rfl
@[simp] theorem R.PWR_RESET_CAUSE_RST_N_w : R.PWR_RESET_CAUSE_RST_N.w = 1 := rfl
@[simp] theorem R.PWR_RESET_CAUSE_WATCHDOG_w : R.PWR_RESET_CAUSE_WATCHDOG.w = 1 := rfl
@[simp] theorem R.PWR_RESET_CAUSE_RESTART_w : R.PWR_RESET_CAUSE_RESTART.w = 1 := rfl
@[simp] theorem R.PWR_RESET_CAUSE_DUMP_RESET_w : R.PWR_RESET_CAUSE_DUMP_RESET.w = 1 := rfl
@[simp] theorem R.PWR_RESET_CAUSE_THERM_TRIP_w : R.PWR_RESET_CAUSE_THERM_TRIP.w = 1 := rfl
@[simp] theorem R.PWR_RESET_CAUSE_RET_RESTART_w : R.PWR_RESET_CAUSE_RET_RESTART.w = 1 := rfl
@[simp] theorem R.PWR_TIMES_ENTRY_US_w : R.PWR_TIMES_ENTRY_US.w = 16 := rfl
@[simp] theorem R.PWR_TIMES_EXIT_US_w : R.PWR_TIMES_EXIT_US.w = 16 := rfl
@[simp] theorem R.PWR_THERM_TJ_w : R.PWR_THERM_TJ.w = 8 := rfl
@[simp] theorem R.PWR_THERM_TJ_MAX_w : R.PWR_THERM_TJ_MAX.w = 8 := rfl
@[simp] theorem R.PWR_THERM_TRIPS_w : R.PWR_THERM_TRIPS.w = 16 := rfl
@[simp] theorem R.PWR_INT_STATUS_DUSK_ENTER_w : R.PWR_INT_STATUS_DUSK_ENTER.w = 1 := rfl
@[simp] theorem R.PWR_INT_STATUS_DUSK_EXIT_w : R.PWR_INT_STATUS_DUSK_EXIT.w = 1 := rfl
@[simp] theorem R.PWR_INT_STATUS_WAKE_w : R.PWR_INT_STATUS_WAKE.w = 1 := rfl
@[simp] theorem R.PWR_INT_STATUS_RET_FAIL_w : R.PWR_INT_STATUS_RET_FAIL.w = 1 := rfl
@[simp] theorem R.PWR_INT_STATUS_NIGHT_ABORT_w : R.PWR_INT_STATUS_NIGHT_ABORT.w = 1 := rfl
@[simp] theorem R.PWR_INT_STATUS_THERM_WARN_w : R.PWR_INT_STATUS_THERM_WARN.w = 1 := rfl
@[simp] theorem R.PWR_INT_ENABLE_DUSK_ENTER_w : R.PWR_INT_ENABLE_DUSK_ENTER.w = 1 := rfl
@[simp] theorem R.PWR_INT_ENABLE_DUSK_EXIT_w : R.PWR_INT_ENABLE_DUSK_EXIT.w = 1 := rfl
@[simp] theorem R.PWR_INT_ENABLE_WAKE_w : R.PWR_INT_ENABLE_WAKE.w = 1 := rfl
@[simp] theorem R.PWR_INT_ENABLE_RET_FAIL_w : R.PWR_INT_ENABLE_RET_FAIL.w = 1 := rfl
@[simp] theorem R.PWR_INT_ENABLE_NIGHT_ABORT_w : R.PWR_INT_ENABLE_NIGHT_ABORT.w = 1 := rfl
@[simp] theorem R.PWR_INT_ENABLE_THERM_WARN_w : R.PWR_INT_ENABLE_THERM_WARN.w = 1 := rfl
@[simp] theorem R.MBX_CTRL_CLR_ERR_w (b : Nat) : (R.MBX_CTRL_CLR_ERR b).w = 1 := rfl
@[simp] theorem R.MBX_CTRL_DOORBELL_w (b : Nat) : (R.MBX_CTRL_DOORBELL b).w = 1 := rfl
@[simp] theorem R.MBX_STATUS_BUSY_w (b : Nat) : (R.MBX_STATUS_BUSY b).w = 1 := rfl
@[simp] theorem R.MBX_STATUS_DONE_w (b : Nat) : (R.MBX_STATUS_DONE b).w = 1 := rfl
@[simp] theorem R.MBX_STATUS_STALE_w (b : Nat) : (R.MBX_STATUS_STALE b).w = 1 := rfl
@[simp] theorem R.MBX_STATUS_LAST_ERR_w (b : Nat) : (R.MBX_STATUS_LAST_ERR b).w = 8 := rfl
@[simp] theorem R.MBX_STATUS_LAST_CODE_w (b : Nat) : (R.MBX_STATUS_LAST_CODE b).w = 8 := rfl
@[simp] theorem R.MBX_INT_STATUS_DONE_w (b : Nat) : (R.MBX_INT_STATUS_DONE b).w = 1 := rfl
@[simp] theorem R.MBX_INT_STATUS_FAILED_w (b : Nat) : (R.MBX_INT_STATUS_FAILED b).w = 1 := rfl
@[simp] theorem R.MBX_INT_ENABLE_DONE_w (b : Nat) : (R.MBX_INT_ENABLE_DONE b).w = 1 := rfl
@[simp] theorem R.MBX_INT_ENABLE_FAILED_w (b : Nat) : (R.MBX_INT_ENABLE_FAILED b).w = 1 := rfl

end Sys2Proof.Machine
end

