-- ==== Sys2Proof/Laws/Settle.lean ====
section
/-! SUPPORT. How a command ends: `live` and `fin` with the aggregation stage after them, and the register reads of a state
that differs in other fields. -/

namespace Sys2Proof.Machine

/-- A register read looks at the register store alone. -/
@[simp] theorem State.rd_mk (pending regs shadow latch out freeCtr kicks tet arrs ns jrn bsk ce env wsk mbx links fab spl str pair
    dwn pwr jtag nv ext) (f : Fld) :
    (State.mk pending regs shadow latch out freeCtr kicks tet arrs ns jrn bsk ce env wsk mbx links fab spl str pair dwn pwr
      jtag nv ext).rd f = SMap.get 0 f.key regs ^^^ f.rst := rfl

@[simp] theorem State.rd_fold (s : State) (f : Fld) : SMap.get 0 f.key s.regs ^^^ f.rst = s.rd f := rfl

theorem alive_iff (s : State) : Alive s ↔
    s.pwr.powered = true ∧ s.pwr.rstHeld = false ∧ s.pwr.tripHeld = false ∧ s.pwr.inNight = false := by
  unfold Alive deviceOff
  cases s.pwr.powered <;> cases s.pwr.rstHeld <;> cases s.pwr.tripHeld <;> cases s.pwr.inNight <;> decide

/-- Raising a one-bit cause leaves it 1. -/
@[simp] theorem or_one_mod_two (x : Nat) : (x ||| 1) % 2 = 1 := by
  have h := Nat.or_mod_two_pow (a := x) (b := 1) (n := 1)
  simp only [Nat.pow_one] at h
  rcases Nat.mod_two_eq_zero_or_one x with e | e <;> simp [h, e]

theorem live_on {s : State} (h : Alive s) (t : State) : live s t = .next (settle t) := by
  unfold live fin; rw [h]; rfl

theorem live_off {s : State} (h : deviceOff s = true) (t : State) : live s t = .next (settle s) := by
  unfold live fin; rw [h]; rfl

/-- A command whose meaning is `live s t` completes with `settle t` while the device takes part. -/
theorem Runs.of_live {c : Instr} {s t : State} {P : State → Prop} (e : exec c s = live s t) (h : Alive s)
    (p : P (settle t)) : Runs c s P := ⟨_, by rw [e, live_on h], p⟩

/-- A command whose meaning is `fin t` completes with `settle t`. -/
theorem Runs.of_fin {c : Instr} {s t : State} {P : State → Prop} (e : exec c s = fin t) (p : P (settle t)) : Runs c s P :=
  ⟨_, e, p⟩

/-- The complete effect of a command whose meaning is `live s t`. -/
theorem Gives.of_live {c : Instr} {s t : State} (e : exec c s = live s t) (h : Alive s) : Gives c s t := by
  unfold Gives; rw [e, live_on h]

theorem Gives.of_live_eq {c : Instr} {s t u : State} (e : exec c s = live s t) (h : Alive s) (he : t = u) : Gives c s u :=
  he ▸ Gives.of_live e h

theorem Gives.of_fin_eq {c : Instr} {s t u : State} (e : exec c s = fin t) (he : t = u) : Gives c s u := he ▸ e

theorem RegsBut.refl (fs : List Fld) (s : State) : RegsBut fs s s := fun _ _ => rfl

theorem RegsBut.of_regs {fs : List Fld} {s t : State} (h : t.regs = s.regs) : RegsBut fs s t := fun f _ => State.rd_congr h f

/-- One more write to a listed field. -/
theorem RegsBut.wr {fs : List Fld} {s t : State} (h : RegsBut fs s t) {g : Fld} (hg : g ∈ fs) (v : Nat) :
    RegsBut fs s (t.wr g v) := fun f hf => by rw [State.rd_wr_ne t (hf g hg) v, h f hf]

/-- The aggregation stage changes no register. -/
theorem RegsBut.settle {fs : List Fld} {s t : State} (h : RegsBut fs s t) : RegsBut fs s (settle t) := fun f hf => h f hf

end Sys2Proof.Machine
end

