-- ==== Sys2Proof/Laws/Commands.lean ====
section
/-! SUPPORT. What the shared operations of commands do: completions, admin contexts, messages that a command has sent. -/

namespace Sys2Proof.Machine

/-! ### Outputs -/

theorem settleLinks_mem (s : State) (e : OutEv) : ∀ (ls : List HLink) (i : Nat) (out : List OutEv), e ∈ out →
    e ∈ (settleLinks s ls i out).2 := by
  intro ls
  induction ls with
  | nil => intro i out h; exact h
  | cons l ls ih =>
    intro i out h
    refine ih (i + 1) _ ?_
    unfold settleLink
    dsimp only
    split
    · exact List.mem_append_right _ h
    · exact h

/-- What a command sent is still among the outputs after the aggregation stage. -/
theorem settle_mem {s : State} {e : OutEv} (h : e ∈ s.out) : e ∈ (settle s).out := settleLinks_mem s e s.links 0 s.out h

/-! ### Completions -/

theorem cqe_mem (h : IoHdr) (sct sc : Nat) (dnr : Bool) (d : Nat) (data : List Block) (s : State) :
    OutEv.cqe h.ctrl h.q h.cid sct sc dnr d data (sqHead s h) ∈ (cqe h sct sc dnr d data s).out := by
  unfold cqe adminDone errLog
  dsimp only
  split <;> split <;> simp

/-! ### Admin commands -/

/-- With a context free, an admin command takes its effect at once. -/
theorem adminGo_free {h : IoHdr} {i : Instr} {s : State} (a : AdminFree h s) (n : saniForbids i = false ∨ sanitizing s = false) :
    adminGo h i s = adminDo i s := by
  obtain ⟨_, h1, h2, h3, h4⟩ := a
  unfold adminGo adminRun
  rcases n with n | n <;> simp [h1, h2, h3, h4, n]

end Sys2Proof.Machine
end

