-- ==== Sys2Proof/Laws/Mailbox.lean ====
section
/-! SUPPORT. What the shared operations of the mailbox do: the arrival of a request that is served at once, the checks that it passes,
its reply. -/

namespace Sys2Proof.Machine

theorem busy_key (b : Nat) (f : Fld) (h : f.off < 0x10000000) (hl : f.lo < 32) : f.key ≠ (R.MBX_STATUS_BUSY b).key := by
  simp only [Fld.key, R.MBX_STATUS_BUSY, bankOff]; omega

theorem done_key (b : Nat) (f : Fld) (h : f.off < 0x10000000) (hl : f.lo < 32) : f.key ≠ (R.MBX_STATUS_DONE b).key := by
  simp only [Fld.key, R.MBX_STATUS_DONE, bankOff]; omega

/-- Taking a request changes only its bank's BUSY and DONE and the list of running commands. -/
theorem mbxTaken_rd (h : MbxHdr) (op : Nat) (s : State) (f : Fld) (ho : f.off < 0x10000000) (hl : f.lo < 32) :
    (mbxTaken h op s).rd f = s.rd f := by
  unfold mbxTaken
  cases hs : h.src with
  | bank b =>
    show ((s.wr (R.MBX_STATUS_BUSY b) 1).wr (R.MBX_STATUS_DONE b) 0).rd f = s.rd f
    rw [State.rd_wr_ne _ (done_key b f ho hl), State.rd_wr_ne _ (busy_key b f ho hl)]
  | mctp ep l => rfl

theorem mbxTaken_run (h : MbxHdr) (op : Nat) (s : State) : (mbxTaken h op s).mbx = { s.mbx with run := s.mbx.run ++ [⟨h, op⟩] } := by
  unfold mbxTaken; cases h.src <;> rfl

theorem mbxTaken_dwn (h : MbxHdr) (op : Nat) (s : State) : (mbxTaken h op s).dwn = s.dwn := by
  unfold mbxTaken; cases h.src <;> rfl

theorem mbxTaken_restricted (h : MbxHdr) (op : Nat) (s : State) : mbxRestricted (mbxTaken h op s) = mbxRestricted s := by
  simp only [mbxRestricted, State.safe, State.on, mbxTaken_dwn, mbxTaken_rd h op s R.DWN_STATUS_SAFE (by decide) (by decide)]

theorem mbxTaken_notActive (h : MbxHdr) (op : Nat) (s : State) : notActive (mbxTaken h op s) = notActive s := by
  simp only [notActive, State.pairState, mbxTaken_rd h op s R.SPR_STATUS_STATE (by decide) (by decide)]

theorem mbxTaken_timeShared (h : MbxHdr) (op : Nat) (s : State) : timeShared (mbxTaken h op s) = timeShared s := by
  simp only [timeShared, mbxTaken_rd h op s R.TET_STATUS_STATE (by decide) (by decide)]

/-- A request that can be served at once runs in the state in which it has been taken. -/
theorem mbxArrive_ready {h : MbxHdr} {s : State} (r : MbxReady h s) (op : MbxOp) :
    mbxArrive h op s = mbxDo h op (mbxTaken h (opOf op) s) := by
  obtain ⟨_, _, hb, hw, hr, hv, _, hs⟩ := r
  have hh : ({ h with resvBad := false } : MbxHdr) = h := by cases h; simp_all
  have hm : ({ s.mbx with wait := [] } : Mbx) = s.mbx := by rw [← hw]
  unfold MbxSenderFree at hs
  unfold mbxArrive mbxTake mbxPump mbxTaken
  cases hsrc : h.src with
  | bank b =>
    rw [hsrc] at hs
    obtain ⟨h1, h2, h3⟩ := hs
    have h4 : s.on (R.MBX_STATUS_BUSY b) = false := by simp [State.on, h3]
    have h5 : ∀ w : List MbxReq, mbxServes { ((s.wr (R.MBX_STATUS_BUSY b) 1).wr (R.MBX_STATUS_DONE b) 0) with mbx.wait := w } = true := by
      intro w
      rw [← hv]
      simp only [mbxServes, State.safe, State.on]
      have e : ∀ f : Fld, f.off < 0x10000000 → f.lo < 32 →
          State.rd { ((s.wr (R.MBX_STATUS_BUSY b) 1).wr (R.MBX_STATUS_DONE b) 0) with mbx.wait := w } f = s.rd f := by
        intro f a c
        show ((s.wr (R.MBX_STATUS_BUSY b) 1).wr (R.MBX_STATUS_DONE b) 0).rd f = s.rd f
        rw [State.rd_wr_ne _ (done_key b f a c), State.rd_wr_ne _ (busy_key b f a c)]
      rw [e _ (by decide) (by decide), e _ (by decide) (by decide)]
      rfl
    simp only [h1, h2, h4, not_true_eq_false, if_false, Bool.false_eq_true]
    simp only [State.wr_mbx, hw, List.nil_append, List.length_singleton, mbxPumpN]
    rw [if_pos ⟨hr, h5 _⟩]
    simp only [mbxStart, hh]
  | mctp ep l =>
    rw [hsrc] at hs
    have h4 : ¬ (16 ≤ mctpWaiting s ∧ ¬ (s.mbx.run.length < mbxPlaces ∧ s.mbx.wait.isEmpty)) := by
      simp [hr, hw]
    simp only [hs, h4, Bool.false_eq_true, or_self, if_false]
    simp only [hw, List.nil_append, List.length_singleton, mbxPumpN]
    rw [if_pos ⟨hr, hv⟩]
    simp only [mbxStart, hh, ← hw]

/-- A command whose checks all pass takes its own action. -/
theorem mbxRunCmd_pass {h : MbxHdr} {m : MbxSpec} {act : MbxHdr → State → State} {s : State} (hl : h.len ≤ 4080) (hr : h.resvBad = false)
    (h1 : m.lenOk = true) (h2 : m.fieldBad = false) (h3 : m.rangeBad = false) (h4 : m.time = true → timeShared s = true)
    (h5 : m.tok = none) (h6 : mbxRestricted s = false ∨ m.safe = true) (h7 : claimed m.op = true → notActive s = false) :
    mbxRunCmd h m act s = act h s := by
  have hh : ({ h with resvBad := false } : MbxHdr) = h := by cases h; simp_all
  have a4 : ¬ (m.time = true ∧ ¬ timeShared s = true) := fun ⟨x, y⟩ => y (h4 x)
  have a6 : ¬ (mbxRestricted s = true ∧ ¬ m.safe = true) := by rcases h6 with x | x <;> simp [x]
  have a7 : ¬ (claimed m.op = true ∧ notActive s = true) := fun ⟨x, y⟩ => by rw [h7 x] at y; cases y
  unfold mbxRunCmd
  simp only [hh, h5, hr, h1, h2, h3, Nat.not_lt.2 hl, not_true_eq_false, or_self, Bool.false_eq_true, if_false, if_neg a4, if_neg a6, if_neg a7]

/-- A command without a token that passes its checks: its own action on the state in which it has been taken is its whole effect. -/
theorem Gives.mbx {h : MbxHdr} {m : MbxSpec} {act : MbxHdr → State → State} {s r : State} {c : Instr} {o : MbxOp} (rd : MbxReady h s)
    (he : exec c s = live s (mbxArrive h o s)) (hd : ∀ x, mbxDo h o x = mbxRunCmd h m act x)
    (h1 : m.lenOk = true) (h2 : m.fieldBad = false) (h3 : m.rangeBad = false) (h4 : m.time = true → timeShared s = true)
    (h5 : m.tok = none) (h7 : claimed m.op = true → notActive s = false) (hr : act h (mbxTaken h (opOf o) s) = r) : Gives c s r := by
  refine Gives.of_live_eq he rd.1 ?_
  rw [mbxArrive_ready rd, hd, mbxRunCmd_pass rd.2.1 rd.2.2.1 h1 h2 h3 ?_ h5 ?_ ?_, hr]
  · intro t; rw [mbxTaken_timeShared]; exact h4 t
  · rw [mbxTaken_restricted]; exact .inl rd.2.2.2.2.2.2.1
  · intro t; rw [mbxTaken_notActive]; exact h7 t

/-- The same for a command whose token authorizes it: the nonce is used up. -/
theorem Gives.mbxTok {h : MbxHdr} {m : MbxSpec} {act : MbxHdr → State → State} {s r : State} {c : Instr} {o : MbxOp} (tk : Token)
    (rd : MbxReady h s) (he : exec c s = live s (mbxArrive h o s)) (hd : ∀ x, mbxDo h o x = mbxRunCmd h m act x)
    (h1 : m.lenOk = true) (h2 : m.fieldBad = false) (h3 : m.rangeBad = false) (h4 : m.time = false)
    (h5 : m.tok = some tk) (h6 : tokenOk (mbxTaken h (opOf o) s) m.op tk = true) (h7 : claimed m.op = true → notActive s = false)
    (hr : act h { mbxTaken h (opOf o) s with dwn.nonce := none } = r) : Gives c s r := by
  refine Gives.of_live_eq he rd.1 ?_
  rw [mbxArrive_ready rd, hd, ← hr]
  have hh : ({ h with resvBad := false } : MbxHdr) = h := by cases h; simp_all [MbxReady]
  have hr : mbxRestricted ({ mbxTaken h (opOf o) s with dwn.nonce := none }) = false := by
    have := mbxTaken_restricted h (opOf o) s; rw [rd.2.2.2.2.2.2.1] at this; exact this
  have hn : claimed m.op = true → notActive ({ mbxTaken h (opOf o) s with dwn.nonce := none }) = false := by
    intro t; have := mbxTaken_notActive h (opOf o) s; rw [h7 t] at this; exact this
  have hc : ¬ (claimed m.op = true ∧ notActive ({ mbxTaken h (opOf o) s with dwn.nonce := none }) = true) :=
    fun ⟨x, y⟩ => by rw [hn x] at y; cases y
  unfold mbxRunCmd
  simp only [hh, h1, h2, h3, h4, h5, tokenUse, h6, Nat.not_lt.2 rd.2.1, rd.2.2.1, hr, if_neg hc, not_true_eq_false, or_self,
    Bool.false_eq_true, false_and, if_false, if_true]

end Sys2Proof.Machine
end

