-- ==== Sys2Proof/WellFormed.lean ====
section
/-! DEFINITION. Which commands are well formed: every operand fits the field, the register number, the queue number or the
mask of the spec that carries it. What a command with a value in range but not allowed does is its meaning's. -/

namespace Sys2Proof

/-- A number fits `w` bits. -/
def fits (w v : Nat) : Bool := decide (v < 2 ^ w)

/-- The identifiers of an NVMe command are 16 bits wide. -/
def IoHdr.wf (h : IoHdr) : Bool := fits 16 h.ctrl && fits 16 h.q && fits 16 h.cid

/-- The identifier of a member command is 64 bits wide, a drive's number 8. -/
def RdOf.wf : RdOf → Bool
  | .cmd id => fits 64 id
  | .step drv => fits 8 drv

/-- A sender acts for one of four links (R386, R392). -/
def MbxSrc.wf : MbxSrc → Bool
  | .bank l => decide (l < 4)
  | .mctp _ l => decide (l < 4)

/-- TAG and LENGTH are 32 bits wide (Table 16.5). -/
def MbxHdr.wf (h : MbxHdr) : Bool := h.src.wf && fits 32 h.tag && fits 32 h.len

/-- The fields of a String frame's header (Table 11.1) and its port. -/
def StrHdr.wf (h : StrHdr) : Bool := decide (h.port < 2) && fits 16 h.src && fits 16 h.dst && fits 16 h.seq && fits 16 h.hops

/-- What a report tells of its sender. -/
def UnitInfo.wf (u : UnitInfo) : Bool := fits 64 u.configGen && fits 16 u.nsCount && fits 8 u.family && fits 128 u.addr

/-- The fields of a token (R335). -/
def Token.wf (t : Token) : Bool := fits 8 t.slot && fits 128 t.nonce && fits 128 t.device && fits 16 t.opcode

/-- A sender of SPDM. -/
def SpdmReq.wf (r : SpdmReq) : Bool := r.src.wf

/-- A REG item (R326). -/
def CfgItem.wf (i : CfgItem) : Bool := fits 26 i.off && fits 32 i.val

/-- A TABLE item (R326). -/
def tableWf (t : Nat × List Nat) : Bool := fits 26 t.1 && t.2.all (fits 8)

/-- A burst's bytes, or a cause and direction of Table 10.11. -/
def BurstRes.wf : BurstRes → Bool
  | .ok data => data.all (fits 8)
  | .busErr _ dir => decide (dir < 5)

/-- A command is well formed. -/
def wellFormed : Instr → Bool
  | .epochBoundary => true
  | .tailCopyCheckpoint => true
  | .tailCopyDone a reached => fits 8 a && decide (reached < 33)
  | .regionMapUpdateDone a region => fits 8 a && fits 32 region
  | .sealCheckpoint => true
  | .soloRateRefresh a reb pat cb dst => fits 8 a && fits 64 reb && fits 64 pat && fits 64 cb && fits 64 dst
  | .gaugeStoreWrite => true
  | .duskEnter => true
  | .duskExit => true
  | .sourceSignalPresent src => fits 2 src
  | .sourceRetry => true
  | .ptpSync _ => true
  | .ptpAnnounce rank utcOffset => fits 64 rank && fits 16 utcOffset.offset
  | .ppsEdge => true
  | .sourceLockCriterionMet src _ => fits 2 src
  | .sourceLoss src => fits 2 src
  | .holdMaxExpire => true
  | .forceStep => true
  | .acquire => true
  | .tetClrErr => true
  | .todArm v => fits 64 v
  | .alarmArm n reg v => fits 3 n && decide (reg < 4) && fits 64 v
  | .dayOverrideWrite v => fits 64 v
  | .sqFetch c q avail => fits 16 c && fits 16 q && fits 16 avail
  | .capsuleReceipt c q bytes => fits 16 c && fits 16 q && fits 32 bytes
  | .creditWithdraw c q => fits 16 c && fits 16 q
  | .contextGrant => true
  | .adminContextGrant => true
  | .stripeLockGrant => true
  | .basketAdmit => true
  | .sparShareAdmit => true
  | .ringSpaceAdmit => true
  | .envAllocationGrant => true
  | .evictionBufferGrant => true
  | .savePageGrant => true
  | .orderedStart c q => fits 16 c && fits 16 q
  | .read h nsid slba nlb _ => h.wf && fits 32 nsid && fits 64 slba && decide (nlb < 65537)
  | .write h nsid slba _ _ => h.wf && fits 32 nsid && fits 64 slba
  | .orderedWrite h nsid slba _ _ => h.wf && fits 32 nsid && fits 64 slba
  | .orderedRead h nsid slba nlb _ => h.wf && fits 32 nsid && fits 64 slba && decide (nlb < 65537)
  | .flush h nsid => h.wf && fits 32 nsid
  | .writeZeroes h nsid slba nlb _ _ => h.wf && fits 32 nsid && fits 64 slba && decide (nlb < 65537)
  | .datasetManagement h nsid _ ranges _ => h.wf && fits 32 nsid && ranges.all fun r => fits 64 r.1 && decide (r.2 < 2 ^ 32)
  | .reservationRegister h nsid rrega _ crkey nrkey cptpl => h.wf && fits 32 nsid && fits 3 rrega && fits 64 crkey && fits 64 nrkey && fits 2 cptpl
  | .reservationReport h nsid => h.wf && fits 32 nsid
  | .reservationAcquire h nsid racqa rtype crkey prkey _ => h.wf && fits 32 nsid && fits 3 racqa && fits 8 rtype && fits 64 crkey && fits 64 prkey
  | .reservationRelease h nsid rrela rtype crkey _ => h.wf && fits 32 nsid && fits 3 rrela && fits 8 rtype && fits 64 crkey
  | .getLogPage h nsid lid offset len => h.wf && fits 32 nsid && fits 8 lid && fits 64 offset && fits 32 len
  | .identify h cns nsid => h.wf && fits 8 cns && fits 32 nsid
  | .abort h sq cid => h.wf && fits 16 sq && fits 16 cid
  | .setFeatures h fid nsid v _ => h.wf && fits 8 fid && fits 32 nsid && fits 32 v
  | .getFeatures h fid v => h.wf && fits 8 fid && fits 64 v
  | .asynchronousEventRequest h => h.wf
  | .firmwareImageDownload h offset len _ => h.wf && fits 64 offset && fits 32 len
  | .firmwareCommit h slot action => h.wf && fits 16 slot && fits 3 action
  | .fwActivationCheckDone _ => true
  | .fwActivationDrainDone => true
  | .fwActivationResume pauseMs => fits 16 pauseMs
  | .formatNvm h nsid lbaf ses => h.wf && fits 32 nsid && fits 8 lbaf && fits 3 ses
  | .formatProgressStep => true
  | .sanitizeBlockErase h => h.hdr.wf && fits 3 h.sanact && h.sanact ≠ 1 && h.sanact ≠ 3
  | .sanitizeOverwrite h owpass _ ovrpat => h.wf && fits 4 owpass && fits 32 ovrpat
  | .sanitizeExitFailureMode h => h.wf
  | .sanitizeProgressStep => true
  | .createIoSq h qid qsize cqid => h.wf && fits 16 qid && decide (qsize < 65537) && fits 16 cqid
  | .deleteIoSq h qid => h.wf && fits 16 qid
  | .createIoCq h qid qsize iv => h.wf && fits 16 qid && decide (qsize < 65537) && fits 16 iv
  | .deleteIoCq h qid => h.wf && fits 16 qid
  | .keepAlive h => h.wf
  | .keepAliveTimeout c => fits 16 c
  | .connect _ => true
  | .propertyGet h ofst => h.wf && fits 32 ofst
  | .propertySet h ofst v => h.wf && fits 32 ofst && fits 64 v
  | .disconnect h => h.wf
  | .ccEnSet c => fits 16 c
  | .controllerReset c => fits 16 c
  | .memberCompletion id _ => fits 64 id
  | .memberReadError id lbas => id.wf && lbas.all (fits 64)
  | .readRepair a stripe _ => fits 8 a && fits 64 stripe
  | .hedgeExpire id => fits 64 id
  | .memberTimeout id => fits 64 id
  | .memberControllerReadyTimeout drv => decide (drv < 66)
  | .memberMissing _ => true
  | .sliceResidueFail slice _ => fits 3 slice
  | .engineJobRetire slice => fits 3 slice
  | .destageStep a stripe => fits 8 a && fits 64 stripe
  | .rebuildTargetAssign a member drv => fits 8 a && fits 8 member && decide (drv < 66)
  | .rebuildStep a slot => fits 8 a && fits 16 slot
  | .rebuildComplete a slot => fits 8 a && fits 16 slot
  | .mapCopy a member => fits 8 a && fits 8 member
  | .copybackStep a => fits 8 a
  | .copybackSwap a => fits 8 a
  | .copybackAutoStart a member => fits 8 a && fits 8 member
  | .patrolStep a => fits 8 a
  | .resyncStep a => fits 8 a
  | .arrayOffline h a => h.wf && fits 8 a
  | .arrayOnline h a => h.wf && fits 8 a
  | .arrayForce h a => h.wf && fits 8 a
  | .arrayReplace h a member port sub => h.wf && fits 8 a && fits 8 member && fits 8 port && fits 8 sub
  | .arrayCopyback h a member port sub => h.wf && fits 8 a && fits 8 member && fits 8 port && fits 8 sub
  | .arrayCopybackStop h a => h.wf && fits 8 a
  | .patrolRestart h a => h.wf && fits 8 a
  | .nsCreate h a flags lbaf nsze base => h.wf && fits 8 a && fits 8 flags && fits 8 lbaf && fits 64 nsze && fits 64 base
  | .nsDelete h nsid => h.wf && fits 32 nsid
  | .nsList h first count => h.wf && fits 16 first && fits 32 count
  | .envEvictionConfirm key => fits 1024 key
  | .envOffer key => fits 1024 key
  | .skirtFillReturn key => fits 1024 key
  | .skirtStreamExpire ns next => decide (ns < 4096) && fits 64 next
  | .envMaintClean v => fits 64 v
  | .envMaintInvalidate v => fits 64 v
  | .envMaintCleanInval v => fits 64 v
  | .scratchOn v => fits 64 v
  | .scratchOff v => fits 64 v
  | .envDisableWrite v => fits 64 v
  | .envCleanFirstDone => true
  | .envClrErr => true
  | .scratchWindowAccess link offset bytes _ len => fits 2 link && fits 64 offset && bytes.all (fits 8) && fits 32 len
  | .sramUe _ => true
  | .sramCe count => fits 32 count
  | .basketEccError channel lane page _ => fits 4 channel && fits 8 lane && fits 32 page
  | .scrubPass => true
  | .scrubNow => true
  | .bskClrErr => true
  | .bankRefresh => true
  | .calibrate => true
  | .pfailRecognised => true
  | .dumpComplete ms _ => fits 32 ms
  | .dumpSelfReset => true
  | .vaultDriveFailure n => fits 3 n
  | .ballastRestore ms badUnits => fits 32 ms && badUnits.all (fits 64)
  | .discard => true
  | .balClrErr => true
  | .hostLinkReset link _ => fits 2 link
  | .hostLinkUp link speed width _ => fits 2 link && fits 8 speed && fits 8 width
  | .flrFunction1 link => fits 2 link
  | .hostCompletionTimeout h => h.wf
  | .msixUnmask link vec => fits 2 link && fits 11 vec
  | .intStatusW1c link source v => fits 2 link && decide (source < 25) && fits 64 v
  | .drivePresence port sub d => fits 8 port && fits 8 sub && fits 8 d.used
  | .driveBringupTimer port sub => fits 8 port && fits 8 sub
  | .driveLinkUp port sub speed width => fits 8 port && fits 8 sub && fits 8 speed && fits 8 width
  | .driveReady port sub => fits 8 port && fits 8 sub
  | .driveRemoval port sub => fits 8 port && fits 8 sub
  | .driveOff port sub => fits 8 port && fits 8 sub
  | .driveOn port sub => fits 8 port && fits 8 sub
  | .driveLinkEvent port sub _ => fits 8 port && fits 8 sub
  | .driveLinkRetrainTimeout port sub => fits 8 port && fits 8 sub
  | .reservationConflict a member holder => fits 8 a && fits 8 member && fits 64 holder
  | .cmConnectRequest host p sub => fits 256 host && fits 2 p && fits 8 sub
  | .qpRetryExhausted qp => fits 24 qp
  | .ecnCeReceived qp => fits 24 qp
  | .cnpReceived qp => fits 24 qp
  | .ccRecover qp => fits 24 qp
  | .pfcXoff p sub prio => fits 2 p && fits 8 sub && fits 3 prio
  | .pfcXon p sub prio => fits 2 p && fits 8 sub && fits 3 prio
  | .pfcPauseRefresh p sub prio => fits 2 p && fits 8 sub && fits 3 prio
  | .pfcStorm p sub prio => fits 2 p && fits 8 sub && fits 3 prio
  | .pfcStormEnd p sub prio => fits 2 p && fits 8 sub && fits 3 prio
  | .pauseReceived p sub prio quanta => fits 2 p && fits 8 sub && fits 3 prio && fits 16 quanta
  | .fabricLinkEvent p sub _ => fits 2 p && fits 8 sub
  | .splStart ch => fits 6 ch
  | .splStop ch => fits 6 ch
  | .splResume ch => fits 6 ch
  | .splAbort ch => fits 6 ch
  | .splTrigger ch => fits 6 ch
  | .splTimerTick k => fits 4 k
  | .splTimerWrite k v => fits 4 k && fits 64 v
  | .splDescFetch ch res => fits 6 ch && res.wf
  | .splSerialTurn => true
  | .splBurstDone ch res => fits 6 ch && res.wf
  | .splDescDone ch res => fits 6 ch && res.wf
  | .splChainLimit ch => fits 6 ch
  | .splRequestTimeout ch dir => fits 6 ch && fits 1 dir
  | .splClrErr => true
  | .stringLinkUp port => fits 8 port
  | .stringLinkDown port _ => fits 8 port
  | .epochFrame h _ => h.wf
  | .delayMeasure => true
  | .delayReq h t1 => h.wf && fits 64 t1
  | .delayResp h t1 t2 t3 t4 => h.wf && fits 64 t1 && fits 64 t2 && fits 64 t3 && fits 64 t4
  | .candidate h key unit => h.wf && fits 1024 key && fits 16 unit
  | .ringState h size breaks => h.wf && fits 32 size && breaks.all (fits 64)
  | .linkFrame h stringId unit slot => h.wf && fits 32 stringId && fits 16 unit && fits 16 slot
  | .ack h acked result => h.wf && fits 16 acked && fits 8 result
  | .offer h gen size applyEpoch _ => h.wf && fits 32 gen && fits 32 size && fits 48 applyEpoch
  | .config h gen chunk items tables => h.wf && fits 32 gen && fits 16 chunk && items.all CfgItem.wf && tables.all tableWf
  | .stringClaim h role cause clm prev peer => h.wf && fits 8 role && fits 8 cause && fits 64 clm && fits 64 prev && fits 16 peer
  | .directory h _ dirGen => h.wf && fits 32 dirGen
  | .reportJoin h slot peer sysGen => h.wf && fits 16 slot && fits 16 peer && sysGen.wf
  | .reportLeave h _ => h.wf
  | .reportLinkDown h _ => h.wf
  | .reportLinkUp h _ => h.wf
  | .reportCensus h slot sysGen upTo => h.wf && fits 16 slot && sysGen.wf && fits 32 upTo
  | .reportGenReady h gen => h.wf && fits 32 gen
  | .reportGenReject h gen code => h.wf && fits 32 gen && fits 8 code
  | .reportChunkNak h gen missing => h.wf && fits 32 gen && missing.all (fits 64)
  | .reportPublish h size items tables => h.wf && fits 32 size && items.all CfgItem.wf && tables.all tableWf
  | .reportSummary h _ => h.wf
  | .reportRetry => true
  | .summaryDue => true
  | .trainingTimeout => true
  | .leaveTimeout => true
  | .reelLost => true
  | .electionEnd => true
  | .censusEnd => true
  | .reelect => true
  | .stgClrErr => true
  | .stgWake target => fits 32 target
  | .wakeSequenceSend target => fits 32 target
  | .sparLinkUp lanes => decide (lanes < 9)
  | .sparLinkDown => true
  | .page addr _ _ => fits 32 addr
  | .records _ _ => true
  | .cut epoch firstSeq lastSeq pages records _ => fits 48 epoch && fits 64 firstSeq && fits 64 lastSeq && fits 32 pages && fits 32 records
  | .confirm epoch lastSeq => fits 48 epoch && fits 64 lastSeq
  | .deltaNak => true
  | .health word => fits 64 word
  | .sparClaim role cause clm prev peer => fits 8 role && fits 8 cause && fits 64 clm && fits 64 prev && fits 16 peer
  | .fetchReq addr => fits 32 addr
  | .fetchData addr _ => fits 32 addr
  | .handbackReq => true
  | .handingDrainDone => true
  | .release clm => fits 64 clm
  | .releaseTimeout => true
  | .relinquish => true
  | .actBegin => true
  | .actDone => true
  | .syncBegin seq => fits 64 seq
  | .bulkCopyEnd => true
  | .syncDone => true
  | .hello _ => true
  | .activeLostDetect => true
  | .preemptComplete => true
  | .preemptDeadline => true
  | .soloWaitExpire => true
  | .holdoffExpire => true
  | .peerWaitExpire => true
  | .rearm => true
  | .sprClrErr => true
  | .pairForce h tok => h.wf && tok.wf
  | .pairSwitchover h => h.wf
  | .pairUnpair h => h.wf
  | .powerOn _ straps => fits 3 straps
  | .rstN _ => true
  | .watchdog => true
  | .powerGood _ => true
  | .otpRead _ => true
  | .romSelftest _ => true
  | .headerRead _ => true
  | .signature _ => true
  | .fwLoad _ => true
  | .basketTrain chans _ => fits 16 chans
  | .mramCheck _ banks => fits 24 banks
  | .replayScan _ => true
  | .configApply _ => true
  | .serdesCal fails => fits 42 fails
  | .portTrain _ _ => true
  | .pairNegotiate => true
  | .stringJoin _ => true
  | .timeLock _ => true
  | .arrayAssembly => true
  | .replayRepair => true
  | .serviceOpen => true
  | .clearFails => true
  | .restart => true
  | .dwnClrErr => true
  | .secClrErr => true
  | .gonClrErr => true
  | .forceTail => true
  | .mramUe _ => true
  | .strClrErr => true
  | .hptCeClrErr => true
  | .hptClrErr => true
  | .fabClrErr => true
  | .drvClrErr => true
  | .wskClrErr => true
  | .pwrClrErr => true
  | .glbClrErr => true
  | .mbxClrErr link => fits 2 link
  | .bar0RegisterWrite link offset size v => fits 2 link && fits 64 offset && fits 32 size && fits 64 v
  | .mbxReplyBufferWrite link => fits 2 link
  | .wskWindowWrite link => fits 2 link
  | .wskEvent => true
  | .wskQueueRoom => true
  | .wskRecordCommit => true
  | .wskRead h offset len => h.wf && fits 64 offset && fits 32 len
  | .wskClear h scope tok => h.wf && fits 8 scope && tok.wf
  | .pwrCtrlNight => true
  | .night h => h.wf
  | .nightPreparationStep => true
  | .nightAbort cause => fits 8 cause
  | .nightCommit => true
  | .nightEntryComplete us => fits 32 us
  | .wakeEvent src => fits 2 src
  | .nightExitComplete us failedBanks => fits 32 us && fits 24 failedBanks
  | .shutdown h => h.wf
  | .thermTrip tj => fits 8 tj
  | .thermTripRelease => true
  | .thermWarn tj => fits 8 tj
  | .regRead h offset count => h.wf && fits 64 offset && fits 32 count
  | .regWrite h offset v => h.wf && fits 64 offset && fits 64 v
  | .stepLogRead h first count => h.wf && fits 16 first && fits 32 count
  | .shadowWrite h items => h.wf && items.all CfgItem.wf
  | .shadowTable h table total offset data => h.wf && fits 32 table && fits 32 total && fits 64 offset && data.all (fits 8)
  | .shadowRead h target offset count => h.wf && fits 32 target && fits 64 offset && fits 32 count
  | .shadowReset h => h.wf
  | .launch h => h.wf
  | .persistExport h offset => h.wf && fits 64 offset
  | .persist h total offset len _ => h.wf && fits 32 total && fits 64 offset && fits 32 len
  | .imageWrite h slot prefer total offset len _ => h.wf && fits 16 slot && fits 8 prefer && fits 32 total && fits 64 offset && fits 32 len
  | .publish h total offset len _ => h.wf && fits 32 total && fits 64 offset && fits 32 len
  | .summaryRead h first count => h.wf && fits 16 first && fits 32 count
  | .directoryRead h first count => h.wf && fits 16 first && fits 32 count
  | .getNonce h => h.wf
  | .keyProvision h slot key tok => h.wf && fits 16 slot && fits 1024 key && tok.wf
  | .keyRevoke h slot tok => h.wf && fits 16 slot && tok.wf
  | .hostkeyEnroll h key tok => h.wf && fits 1024 key && tok.wf
  | .svnAdvance h tok => h.wf && tok.wf
  | .getVersion r => r.wf
  | .getCapabilities r => r.wf
  | .negotiateAlgorithms r => r.wf
  | .getDigests r => r.wf
  | .getCertificate r slot offset len => r.wf && fits 16 slot && fits 64 offset && fits 32 len
  | .challenge r slot => r.wf && fits 16 slot
  | .getMeasurements r index _ => r.wf && fits 8 index
  | .respondIfReady r => r.wf
  | .powerLoss => true
  | .mramCe count => fits 32 count
  | .maintDone => true
  | .commandParityError channel page _ => fits 4 channel && fits 32 page
  | .loRegisterRead link offset => fits 2 link && fits 64 offset
  | .standbyRejoin => true
  | .stringFrameForward h ftype => h.wf && fits 8 ftype
  | .hostCompletionError h => h.wf
  | .fecUncorrectable p => fits 2 p
  | .invalidOpcode h opc => h.wf && fits 16 opc
  | .mbxUnsupportedOpcode h opc => h.wf && fits 16 opc
  | .spdmUnsupportedRequest r code => r.wf && fits 8 code
  | .busMasterEnable link _ => fits 2 link
  | .flashWriteComplete _ => true
  | .otpProgramComplete _ => true
  | .jtagInstruction _ => true

end Sys2Proof
end

