-- ==== Sys2Proof/Tests/Slice0.lean ====
section
/-! SUPPORT. Tests: worked examples of the spec, the smoke test of WellFormed (every row well formed once, an ill-formed term for each
check), and for every statement with hypotheses a theorem wit_<statement> that shows, clause by clause, a state and operands that meet
them all. -/

open Sys2Proof Sys2Proof.Machine
namespace Sys2Proof.Tests

/-! ### Small states, and witnesses of the statements' hypotheses -/

/-- After Dawn: step 17, service open. -/
def srv : State := { State.reset.wr R.GLB_STATUS_READY 1 with dwn.step := 17 }

/-- A drive of 300,000 blocks. -/
def drv (n : Nat) : Drive := blankDrive ⟨n, 300000, 0, true, true, true, true, 0⟩

/-- Array 0 with 4 members on ports 0 to 3, 16-block strips, 8 stripes, and namespace 1 on its stripes 0 to 3. -/
def arr : State :=
  let s := (srv.wr (R.STR_An_GEOM_EN 0) 1).wr (R.STR_An_GEOM_MEMBERS 0) 4
  let s := ((s.wr (R.STR_An_GEOM_STRIP 0) 0).wr (R.STR_An_STATUS_STATE 0) 0).wr (R.STR_An_MISSMAP_MISS 0) 0
  let s := (((s.wr (R.STR_An_MEMBERk_PORT 0 0) 0).wr (R.STR_An_MEMBERk_PORT 0 1) 1).wr (R.STR_An_MEMBERk_PORT 0 2) 2).wr (R.STR_An_MEMBERk_PORT 0 3) 3
  let s := s.modArr 0 fun r => { r with arrayId := 1, stripes := 8 }
  { s with
    ns := [⟨1, 1, 1, 0, 0, 4, 128, 0⟩],
    ext.drives := [(0, some (drv 1)), (2, some (drv 2)), (4, some (drv 3)), (6, some (drv 4)), (8, some (drv 5))] }

/-- The device without power. -/
def dark : State := { State.reset with pwr.powered := false }

theorem test_arr_geometry : memN arr 0 = 4 ∧ strB arr 0 = 16 ∧ arrServes arr 0 = true ∧ missCount arr 0 = 0 ∧ memDrv arr 0 3 = 6 ∧
    dataN arr 0 = 2 := by decide

/-- The Tether in a state, with a source selected and signals present. -/
def tet (st src : Nat) (sig : List Nat) : State :=
  { (State.reset.wr R.TET_STATUS_STATE st).wr R.TET_CTRL_SOURCE src with tet.signals := sig }

/-- Member command 7: one block of member 0 of array 0. -/
def mcmd (wr : Bool) : MCmd := ⟨7, 0, 0, 0, 262144, 1, wr, false, [], 0, 0, true, false, false⟩

/-- The array with member command 7 outstanding. -/
def mc (wr : Bool) : State := { arr with ce.mcmds := [mcmd wr] }

theorem wit_StepRunsTheFrontCommand :
    (∃ s : State, s.pending = []) ∧
    (∃ s : State, deviceOff s = true) ∧
    (∃ s : State, deviceOff s = true) ∧
    (∃ s : State, deviceOff s = true) ∧
    (∃ s : State, deviceOff s = true) ∧
    (∃ s : State, deviceOff s = true) ∧
    (∃ s : State, deviceOff s = true) :=
  ⟨⟨srv, by decide⟩,
   ⟨dark, by decide⟩,
   ⟨dark, by decide⟩,
   ⟨dark, by decide⟩,
   ⟨dark, by decide⟩,
   ⟨dark, by decide⟩,
   ⟨dark, by decide⟩⟩

theorem wit_TetherMeasuresItsSources :
    (∃ s : State, ∃ src, Alive s ∧ (s.rd R.TET_STATUS_STATE = 0 ∨ (s.rd R.TET_STATUS_STATE = 1 ∧ s.tet.measuring = none)) ∧ src ∈ tetSources s) ∧
    (∃ s : State, ∃ src, Alive s ∧ ((s.rd R.TET_STATUS_STATE ≠ 0 ∧ (s.rd R.TET_STATUS_STATE ≠ 1 ∨ s.tet.measuring ≠ none)) ∨ src ∉ tetSources s)) ∧
    (∃ s : State, ∃ src, Alive s ∧ (s.rd R.TET_STATUS_STATE = 0 ∨ (s.rd R.TET_STATUS_STATE = 1 ∧ s.tet.measuring = none)) ∧
      tetPresent s 3 = some src) ∧
    (∃ s : State, ∃ src, Alive s ∧ s.rd R.TET_STATUS_STATE = 3 ∧ tetPresent s 3 = some src) ∧
    (∃ s : State, Alive s ∧ s.rd R.TET_STATUS_STATE = 2) ∧
    (∃ s : State, Alive s ∧ s.rd R.TET_STATUS_STATE ≠ 2) ∧
    (∃ s : State, Alive s ∧ (s.tet.measuring = some 0 ∨ s.rd R.TET_STATUS_SRC_ACT = 0)) ∧
    (∃ s : State, ∃ rank, Alive s ∧ (s.tet.ptpRank = 0 ∨ rank ≤ s.tet.ptpRank)) ∧
    (∃ s : State, ∃ rank, Alive s ∧ 0 < s.tet.ptpRank ∧ s.tet.ptpRank < rank) ∧
    (∃ s : State, ∃ sec, Alive s ∧ s.tet.tod = some sec ∧ s.tet.measuring ≠ some 1 ∧ s.rd R.TET_STATUS_SRC_ACT ≠ 1) ∧
    (∃ s : State, Alive s ∧ s.tet.tod = none ∧ s.tet.ppsSeconds ≠ 0 ∧ s.tet.measuring ≠ some 1 ∧ s.rd R.TET_STATUS_SRC_ACT ≠ 1) ∧
    (∃ s : State, ∃ sec, Alive s ∧ s.tet.tod = some sec ∧ sec ≠ 0 ∧ (s.tet.measuring = some 1 ∨ s.rd R.TET_STATUS_SRC_ACT = 1)) :=
  ⟨⟨tet 0 0 [], 0, by decide, by decide, by decide⟩,
   ⟨tet 2 0 [0], 0, by decide, by decide⟩,
   ⟨tet 1 0 [0], 0, by decide, by decide, by decide⟩,
   ⟨tet 3 0 [0], 0, by decide, by decide, by decide⟩,
   ⟨tet 2 0 [], by decide, by decide⟩,
   ⟨tet 1 0 [], by decide, by decide⟩,
   ⟨{ srv with tet.measuring := some 0 }, by decide, by decide⟩,
   ⟨srv, 5, by decide, by decide⟩,
   ⟨{ srv with tet.ptpRank := 5 }, 6, by decide, by decide, by decide⟩,
   ⟨{ tet 0 0 [] with tet.tod := some 9 }, 9, by decide, by decide, by decide, by decide⟩,
   ⟨{ tet 0 0 [] with tet.ppsSeconds := 9 }, by decide, by decide, by decide, by decide, by decide⟩,
   ⟨{ tet 0 0 [] with tet.tod := some 9, tet.measuring := some 1 }, 9, by decide, by decide, by decide, by decide⟩⟩

theorem wit_TetherLocksAndLoses :
    (∃ s : State, ∃ src, ∃ o : Int, Alive s ∧ src < 3 ∧ src ∈ tetSources s ∧ (s.rd R.TET_STATUS_STATE = 1 ∨ s.rd R.TET_STATUS_STATE = 3) ∧
      criterionMet s src = true ∧ o.natAbs ≤ s.rd R.TET_LIMITS_STEP_LIMIT * 1000000) ∧
    (∃ s : State, ∃ src, ∃ o : Int, Alive s ∧ src ∈ tetSources s ∧ (s.rd R.TET_STATUS_STATE = 1 ∨ s.rd R.TET_STATUS_STATE = 3) ∧
      criterionMet s src = true ∧ o < 0 ∧ s.rd R.TET_LIMITS_STEP_LIMIT * 1000000 < o.natAbs) ∧
    (∃ s : State, ∃ src, ∃ o : Int, Alive s ∧ src < 3 ∧ src ∈ tetSources s ∧ (s.rd R.TET_STATUS_STATE = 1 ∨ s.rd R.TET_STATUS_STATE = 3) ∧
      criterionMet s src = true ∧ 0 ≤ o ∧ s.rd R.TET_LIMITS_STEP_LIMIT * 1000000 < o.natAbs ∧ stepPermitted s = true) ∧
    (∃ s : State, ∃ src, ∃ o : Int, Alive s ∧ src ∈ tetSources s ∧ (s.rd R.TET_STATUS_STATE = 1 ∨ s.rd R.TET_STATUS_STATE = 3) ∧
      criterionMet s src = true ∧ 0 ≤ o ∧ s.rd R.TET_LIMITS_STEP_LIMIT * 1000000 < o.natAbs ∧ stepPermitted s = false ∧ s.tet.stepWaited = false) ∧
    (∃ s : State, ∃ src, Alive s ∧ s.rd R.TET_STATUS_STATE = 2 ∧ s.rd R.TET_STATUS_SRC_ACT = src) ∧
    (∃ s : State, ∃ src, ∃ x, Alive s ∧ s.rd R.TET_STATUS_STATE = 1 ∧ s.tet.measuring = some src ∧ src ∉ s.tet.signals ∧ tetPresent s src = some x ∧
      s.tet.awaiting = none) ∧
    (∃ s : State, ∃ src, Alive s ∧ s.rd R.TET_STATUS_STATE = 1 ∧ s.tet.measuring = some src ∧ s.tet.signals = [src]) ∧
    (∃ s : State, Alive s ∧ s.rd R.TET_STATUS_STATE = 3) ∧
    (∃ s : State, Alive s ∧ s.rd R.TET_STATUS_STATE ≠ 3) ∧
    (∃ s : State, Alive s ∧ s.tet.awaiting.isSome = true) ∧
    (∃ s : State, Alive s ∧ s.tet.awaiting = none) :=
  ⟨⟨{ tet 1 0 [0] with tet.syncRun := 16 }, 0, -5, by decide, by decide, by decide, by decide, by decide, by decide⟩,
   ⟨{ tet 3 0 [0] with tet.syncRun := 16 }, 0, -4000000000000, by decide, by decide, by decide, by decide, by decide, by decide⟩,
   ⟨{ tet 1 0 [0] with tet.syncRun := 16 }, 0, 4000000000000, by decide, by decide, by decide, by decide, by decide, by decide, by decide, by decide⟩,
   ⟨{ ((tet 1 0 [0]).wr R.GLB_STATUS_READY 1).wr R.TET_CTRL_AUTO_STEP 0 with tet.syncRun := 16 }, 0, 4000000000000, by decide, by decide, by decide,
     by decide, by decide, by decide, by decide, by decide⟩,
   ⟨(tet 2 0 [0]).wr R.TET_STATUS_SRC_ACT 0, 0, by decide, by decide, by decide⟩,
   ⟨{ (tet 1 0 [1]).wr R.TET_CTRL_ALT_SOURCE 1 with tet.measuring := some 0 }, 0, 1, by decide, by decide, by decide, by decide, by decide,
     by decide⟩,
   ⟨{ tet 1 0 [0] with tet.measuring := some 0 }, 0, by decide, by decide, by decide, by decide⟩,
   ⟨tet 3 0 [], by decide, by decide⟩,
   ⟨tet 2 0 [], by decide, by decide⟩,
   ⟨{ srv with tet.awaiting := some (0, 9) }, by decide, by decide⟩,
   ⟨srv, by decide, by decide⟩⟩

theorem wit_TetherWritesActOrAreRejected :
    (∃ s : State, Alive s ∧ s.rd R.TET_CTRL_SOURCE = 1) ∧
    (∃ s : State, Alive s ∧ s.rd R.TET_CTRL_SOURCE ≠ 1) ∧
    (∃ s : State, ∃ n, ∃ v, Alive s ∧ n < 8 ∧ bit v 0 = true ∧ s.tet.epoch < alarmTarget s n ∧ bits v 1 3 ≠ 0) ∧
    (∃ s : State, ∃ n, ∃ v, Alive s ∧ n < 8 ∧ bit v 0 = true ∧ (alarmTarget s n ≤ s.tet.epoch ∨ bits v 1 3 = 0)) ∧
    (∃ s : State, ∃ n, Alive s ∧ n < 8 ∧ s.rd (R.TET_ALARMn_CTRL_EN n) = 0) ∧
    (∃ s : State, ∃ n, Alive s ∧ n < 8 ∧ s.rd (R.TET_ALARMn_CTRL_EN n) ≠ 0) ∧
    (∃ s : State, ∃ v, Alive s ∧ bits v 0 7 ≤ 95) ∧
    (∃ s : State, ∃ v, Alive s ∧ 95 < bits v 0 7) ∧
    (∃ s : State, Alive s) :=
  ⟨⟨tet 0 1 [], by decide, by decide⟩,
   ⟨tet 0 0 [], by decide, by decide⟩,
   ⟨State.reset.wr (R.TET_ALARMn_EPOCH_LO_TARGET_LO 7) 5, 7, 3, by decide, by decide, by decide, by decide, by decide⟩,
   ⟨srv, 7, 1, by decide, by decide, by decide, by decide⟩,
   ⟨srv, 7, by decide, by decide, by decide⟩,
   ⟨srv.wr (R.TET_ALARMn_CTRL_EN 7) 1, 7, by decide, by decide, by decide⟩,
   ⟨srv, 95, by decide, by decide⟩,
   ⟨srv, 96, by decide, by decide⟩,
   ⟨srv, by decide⟩⟩

theorem wit_EpochBoundaryOrder :
    (∃ s : State, ∃ u : State, ∃ v : State, Alive s ∧ s.dwn.step ≠ 0 ∧ u = counterAdvance (epochClose s) ∧
      v = tailsForced ((if u.tet.epoch % 1024 = 0 then tailCheckpoint else id) (strBoundary (pairBoundary (helloBoundary (dayEvaluate (actSwitch (configBoundary (skippedWork s.tet.epoch u))))))))) ∧
    (∃ s : State, s.pwr.powered = true ∧ s.pwr.rstHeld = false ∧ s.pwr.tripHeld = false ∧ s.dwn.step ≠ 0 ∧ s.pwr.inNight = true ∧ ((∀ n < 8,
      s.rd (R.TET_ALARMn_CTRL_EN n) = 0 ∨ s.rd (R.TET_ALARMn_CTRL_T_WAKE n) = 0 ∨ s.tet.epoch + 1 < alarmTarget s n))) ∧
    (∃ s : State, ∃ old, s.tet.epoch ≤ old + 1) ∧
    (∃ s : State, s.tet.awaiting = none ∧ s.tet.stepAhead = 0) ∧
    (∃ s : State, s.tet.awaiting = none ∧ s.tet.stepAhead ≠ 0) ∧
    (∃ s : State, ∃ src, ∃ n, s.tet.awaiting = some (src, n) ∧ stepPermitted s = true) ∧
    (∃ s : State, ∃ src, ∃ n, s.tet.awaiting = some (src, n) ∧ stepPermitted s = false) :=
  ⟨⟨srv, _, _, by decide, by decide, rfl, rfl⟩,
   ⟨{ srv with pwr.inNight := true }, by decide, by decide, by decide, by decide, by decide, by decide⟩,
   ⟨srv, 0, by decide⟩,
   ⟨srv, by decide, by decide⟩,
   ⟨{ srv with tet.stepAhead := 1 }, by decide, by decide⟩,
   ⟨{ State.reset with tet.awaiting := some (0, 9) }, 0, 9, by decide, by decide⟩,
   ⟨{ srv.wr R.TET_CTRL_AUTO_STEP 0 with tet.awaiting := some (0, 9) }, 0, 9, by decide, by decide⟩⟩

theorem wit_ParityUpdateEqualsRecompute :
    (∃ ds : List Block, ∃ i : Nat, ∃ old : Block, ds[i]? = some old) ∧
    (∃ ds : List Block, ∃ es : List Block, ds.length = es.length) :=
  ⟨⟨[5, 6], 1, 6, rfl⟩,
   ⟨[5, 6], [7, 6], by decide⟩⟩

theorem wit_TwoErasuresAreReconstructed :
    (∃ ds : List Block, ∃ c : Column, ds.length ≤ 30 ∧ c.ds.length = ds.length ∧ ((∀ (i : Nat) (v : Block),
      c.ds[i]? = some (some v) → ds[i]? = some v)) ∧ ((c.p = none ∨ c.p = some (parityP ds))) ∧ ((c.q = none ∨ c.q = some (parityQ ds)))) :=
  ⟨[5, 6], ⟨[none, none], some (parityP [5, 6]), some (parityQ [5, 6])⟩, by decide, by decide,
    by intro i v h; match i with | 0 | 1 | n + 2 => simp at h, .inr rfl, .inr rfl⟩

theorem wit_MembersAnswerOrAreLost :
    (∃ s : State, ∃ i, ∃ m, Alive s ∧ mcmdOf s i = some m ∧ s.pwr.dumping = false ∧ m.wr = true) ∧
    (∃ s : State, ∃ i, ∃ m, Alive s ∧ mcmdOf s i = some m ∧ s.pwr.dumping = false ∧ m.wr = false) ∧
    (∃ s : State, ∃ i, ∃ m, Alive s ∧ mcmdOf s i = some m ∧ s.pwr.dumping = false ∧ m.wr = true ∧ m.reissued = false) ∧
    (∃ s : State, ∃ i, ∃ m, ∃ lba, ∃ n, Alive s ∧ mcmdOf s i = some m ∧ s.pwr.dumping = false ∧ m.wr = false ∧ lba = m.lba ∧ 0 < m.count ∧
      n = m.array) ∧
    (∃ s : State, ∃ d, ∃ a, ∃ m, ∃ x, Alive s ∧ memberOf s d = some (a, m) ∧ a < s.arrs.length ∧ holdsPlace s d = true ∧ s.pwr.dumping = false ∧
      driveAt s d = some x ∧ (s.arr a).repairs = []) ∧
    (∃ s : State, ∃ i, ∃ m, ∃ d, Alive s ∧ mcmdOf s i = some m ∧ s.pwr.dumping = false ∧ driveAt s m.drv = some d ∧ d.resetAt = none) ∧
    (∃ s : State, ∃ d, ((∀ m ∈ s.ce.mcmds, m.drv ≠ d ∨ m.wr = true ∨ (m.owner = 0 ∧ m.sop = 0)))) ∧
    (∃ s : State, ∃ i, ∃ m, ∃ l, ∃ v, Alive s ∧ mcmdOf s i = some m ∧ s.pwr.dumping = false ∧ m.wr = true ∧ m.dealloc = false ∧ m.data = [(l, v)] ∧
      (s.ce.sops.any fun o => o.id = m.sop) = false ∧ (driveAt s m.drv).isSome = true) ∧
    (∃ s : State, ∃ i, ∃ m, ∃ d, ∃ e, Alive s ∧ mcmdOf s i = some m ∧ s.pwr.dumping = false ∧ driveAt s m.drv = some d ∧ d.resetAt = some e ∧
      s.tet.epoch ≤ e + 15625 ∧ m.drv = memDrv s m.array m.member) ∧
    (∃ s : State, ∃ d, ∃ x, Alive s ∧ driveAt s d = some x ∧ x.resetting = true ∧ s.pwr.dumping = false) ∧
    (∃ s : State, ∃ ls : List Loss, Alive s ∧ (∀ l ∈ ls, 1 ≤ l.row ∧ l.row ≤ 6)) ∧
    (∃ s : State, ∃ i, ∃ m, Alive s ∧ mcmdOf s i = some m ∧ m.wr = false ∧ m.hedged = false ∧ s.rd (R.STR_An_POLICY_HEDGE_MS m.array) ≠ 0 ∧
      missCount s m.array ≤ 1 ∧ s.pwr.dumping = false ∧ erasable s m = true) ∧
    (∃ s : State, ∃ a, ∃ st, ∃ p, Alive s ∧ (s.arr a).repairs = [p] ∧ (p.2.1 - dataLba) / strB s a = st ∧ arrServes s a = true ∧
      lockFree s a st = true ∧ s.pwr.dumping = false ∧ erasuresAt s a st ((p.2.1 - dataLba) % strB s a) [] ≤ 2) :=
  ⟨⟨mc true, 7, mcmd true, by decide, by decide, by decide, by decide⟩,
   ⟨mc false, 7, mcmd false, by decide, by decide, by decide, by decide⟩,
   ⟨mc true, 7, mcmd true, by decide, by decide, by decide, by decide, by decide⟩,
   ⟨mc false, 7, mcmd false, 262144, _, by decide, by decide, by decide, by decide, by decide, by decide, rfl⟩,
   ⟨arr, 0, 0, 0, drv 1, by decide, by decide, by decide, by decide, by decide, by decide, by decide⟩,
   ⟨mc true, 7, mcmd true, drv 1, by decide, by decide, by decide, by decide, by decide⟩,
   ⟨mc true, 0, by decide⟩,
   ⟨{ arr with ce.mcmds := [{ mcmd true with data := [(262144, 5#32896)] }] }, 7, { mcmd true with data := [(262144, 5#32896)] }, 262144, 5#32896,
     by decide, rfl, by decide, by decide, by decide, rfl, by decide, by decide⟩,
   ⟨{ mc true with ext.drives := [(0, some { drv 1 with resetAt := some 0 })] }, 7, mcmd true, { drv 1 with resetAt := some 0 }, 0, by decide,
     by decide, by decide, by decide, by decide, by decide, by decide⟩,
   ⟨{ arr with ext.drives := [(0, some { drv 1 with resetting := true })] }, 0, { drv 1 with resetting := true }, by decide, by decide, by decide,
     by decide⟩,
   ⟨arr, [⟨0, 1, 6⟩], by decide, by decide⟩,
   ⟨mc false, 7, mcmd false, by decide, by decide, by decide, by decide, by decide, by decide, by decide, by decide⟩,
   ⟨arr.modArr 0 (fun r => { r with repairs := [(0, 262144 + 17, 0)] }), 0, 1, (0, 262144 + 17, 0), by decide, by decide, by decide, by decide,
     by decide, by decide, by decide⟩⟩

theorem wit_EngineSlicesRetireOrFail :
    (∃ s : State, ∃ j, ∃ x, ∃ rest, Alive s ∧ takeFirst (fun x : Job => x.slice = j) s.ce.jobs = some (x, rest) ∧ s.ce.jobWait = [] ∧
      rest.any (fun y => y.op = x.op) = true) ∧
    (∃ s : State, ∃ j, ∃ x, ∃ rest, Alive s ∧ takeFirst (fun x : Job => x.slice = j) s.ce.jobs = some (x, rest) ∧ s.ce.jobWait = [] ∧
      rest.any (fun y => y.op = x.op) = false ∧ 2 ^ 33 ≤ x.op) ∧
    (∃ j, j < 4) ∧
    (∃ s : State, ∃ j, Alive s ∧ j < 4 ∧ bit (s.rd R.STR_ENG_STATUS_SLICE_OFF) j = false ∧ (s.rd R.STR_ENG_STATUS_SLICE_OFF ||| 2 ^ j) % 16 ≠ 15) ∧
    (∃ s : State, ∃ j, ∃ k, ∃ x, ∃ rest, Alive s ∧ j < 4 ∧ bit (s.rd R.STR_ENG_STATUS_SLICE_OFF) j = false ∧
      ((s.ce.sliceFails.filter fun p => p.1 = j && decide (s.tet.epoch < p.2 + 1024)).length < 2) ∧
      takeFirst (fun x : Job => x.slice = j) s.ce.jobs = some (x, rest) ∧ x.tried = false ∧ slicePick (fun i => i ≠ j) s = some k) ∧
    (∃ s : State, ∃ j, Alive s ∧ j < 4 ∧ bit (s.rd R.STR_ENG_STATUS_SLICE_OFF) j = false ∧ s.ce.jobs.all (fun x => x.slice ≠ j) = true ∧
      ((s.ce.sliceFails.filter fun p => p.1 = j && decide (s.tet.epoch < p.2 + 1024)).length < 2)) :=
  ⟨⟨{ srv with ce.jobs := [⟨3, 5, 9, false⟩, ⟨3, 6, 9, false⟩] }, 3, (⟨3, 5, 9, false⟩ : Job), ([⟨3, 6, 9, false⟩] : List Job), by decide,
    by decide, by decide, by decide⟩,
   ⟨{ srv with ce.jobs := [⟨3, 5, 2 ^ 33, false⟩] }, 3, (⟨3, 5, 2 ^ 33, false⟩ : Job), ([] : List Job), by decide, by decide, by decide, by decide,
     by decide⟩,
   ⟨3, by decide⟩,
   ⟨srv, 3, by decide, by decide, by decide, by decide⟩,
   ⟨{ srv with ce.jobs := [⟨3, 5, 9, false⟩] }, 3, 0, (⟨3, 5, 9, false⟩ : Job), ([] : List Job), by decide, by decide, by decide, by decide,
     by decide, by decide, by decide⟩,
   ⟨srv, 3, by decide, by decide, by decide, by decide, by decide⟩⟩

theorem wit_BackgroundWorkSteps :
    (∃ s : State, ∃ a, ∃ st, Alive s ∧ bgOk s = true ∧ (dirtyStripes s).filter (fun p => eligible s p.1 p.2) = [(a, st)] ∧ coversAll s a st = true ∧
      lockFree s a st = true ∧ synced s a st = true ∧ engineOn s = true ∧ 0 < strB s a ∧ dirtyCols s a st ≠ []) ∧
    (∃ s : State, ∃ a, ∃ st, Alive s ∧ bgOk s = true ∧ (dirtyStripes s).filter (fun p => eligible s p.1 p.2) = [(a, st)]) ∧
    (∃ s : State, ∃ a, ∃ m, ∃ d, ∃ u, Alive s ∧ (s.arr a).waiting.contains (m, d) = true ∧ arrServes s a = true ∧ arrState s a ≠ aResyncing ∧
      bgOk s = true ∧ u = s.modArr a (fun r => { r with waiting := r.waiting.filter fun p => p.1 ≠ m }) ∧
      passesR55 u d (u.rd (R.STR_An_GEOM_META a)) = true) ∧
    (∃ s : State, ∃ a, ∃ i, ∃ u, ∃ st, Alive s ∧ i < 2 ∧ slotRuns s a i = true ∧ (slotAt s a (1 - i)).act = false ∧ u = modSlot a i skipWm s ∧
      (slotAt u a i).joined = false ∧ slotNext u a (slotAt u a i) = some st ∧ st = (slotAt u a i).wm ∧ ringShort s = false ∧
      coalescing (rebuildStripe a st [(slotAt u a i).target] u) a st = false) ∧
    (∃ s : State, ∃ a, ∃ i, Alive s ∧ i < 2 ∧ a < s.arrs.length ∧ slotRuns s a i = true ∧ (slotAt s a (1 - i)).act = false ∧
      (slotAt s a i).joined = false ∧ (slotAt s a i).ahead = [] ∧ (slotAt s a i).exHi ≤ (slotAt s a i).wm ∧
      slotNext s a (slotAt s a i) = some (slotAt s a i).wm ∧ nsOfStripe s a (slotAt s a i).wm = none ∧ coalescing s a (slotAt s a i).wm = false) ∧
    (∃ s : State, ∃ a, ∃ i, Alive s ∧ i < 2 ∧ bgOk s = true ∧ slotEnded s a i = true ∧ slotEnded (completeSlot a i s) a (1 - i) = false) ∧
    (∃ s : State, ∃ a, ∃ m, Alive s ∧ bgOk s = true ∧ arrOn s a = true ∧ (mapWanted s a).contains m = true ∧
      s.rd (R.STR_An_MEMBERk_MAPHOLD a m) = 0) ∧
    (∃ s : State, ∃ a, ∃ c, Alive s ∧ (s.arr a).cb = some c ∧ cbRuns s a = true ∧ c.wm < (s.arr a).stripes ∧ lockFree s a c.wm = true ∧
      ringShort s = false ∧ coalescing (copyStripe a c.wm c.src c.dest s) a c.wm = false) ∧
    (∃ s : State, ∃ a, ∃ c, ∃ u, Alive s ∧ (s.arr a).cb = some c ∧ cbRuns s a = true ∧ (s.arr a).stripes ≤ c.wm ∧
      s.ce.mcmds.any (fun m => m.array = a && m.member = c.src && m.wr) = false ∧ (s.arr a).taken = [] ∧
      u = State.event (setMember a c.src c.dest (entryKeep a ((progress 1 a c.src 2 s).modArr a fun r => { r with cb := none }))) 0x0304 (srcArr a) (cbPayload c) ∧ u.rd (R.STR_An_MEMBERk_MAPHOLD a c.src) = 0 ∧ (progress 1 a c.src 2 s).arrs = s.arrs) ∧
    (∃ s : State, ∃ a, ∃ m, ∃ d, Alive s ∧ arrOn s a = true ∧ m < memN s a ∧ missing s a m = false ∧ (s.arr a).cb = none ∧ cbRuns s a = true ∧
      returnPlace s a m = some d) ∧
    (∃ s : State, ∃ a, ∃ m, ∃ k, Alive s ∧ arrOn s a = true ∧ m < memN s a ∧ missing s a m = false ∧ (s.arr a).cb = none ∧ cbRuns s a = true ∧
      returnPlace s a m = none ∧ s.rd (R.STR_An_POLICY_CB_MEDIA a) ≠ 0 ∧ bit (s.rd (R.STR_An_MEDIA_WARN_WARN a)) m = true ∧ spareFor s a = some k) ∧
    (∃ s : State, ∃ a, Alive s ∧ patrolRuns s a = true ∧ (s.arr a).stripes ≤ (s.arr a).pt) ∧
    (∃ s : State, ∃ a, ∃ u, ∃ v, Alive s ∧ patrolRuns s a = true ∧ (s.arr a).pt < (s.arr a).stripes ∧ nsOfStripe s a (s.arr a).pt ≠ none ∧
      isLost s a (s.arr a).pt = false ∧ lockFree s a (s.arr a).pt = true ∧ ringShort s = false ∧
      u = State.modArr (State.modArr (patrolStripe a (s.arr a).pt s) a fun r => { r with patrolled := r.patrolled + 1 }) a (fun r => { r with pt := (s.arr a).pt + 1 }) ∧ v = (if (u.arr a).stripes ≤ (s.arr a).pt + 1 then (u.modArr a fun r => { r with pt := 0 }).incSat (R.STR_An_PT_HI_CYCLES a) else u)) ∧
    (∃ s : State, ∃ a, ∃ r, Alive s ∧ (s.arr a).rs = some r ∧ bgOk s = true ∧ arrServes s a = true ∧ shareOk (sharesFor s a).1 = true ∧
      (s.arr a).stripes ≤ r.wm) ∧
    (∃ s : State, ∃ a, ∃ r, Alive s ∧ (s.arr a).rs = some r ∧ bgOk s = true ∧ arrServes s a = true ∧ a < s.arrs.length ∧
      shareOk (sharesFor s a).1 = true ∧ r.wm + 1 < (s.arr a).stripes ∧ synced s a r.wm = true ∧ ringShort s = false) :=
  ⟨⟨{ arr with tet.epoch := 5000, bsk.extents := [⟨1, 0, 1, 0, 32, 0, false, 0, 0, List.range 32, 0, true⟩] }, 0, 0, by decide, by decide,
    by decide, by decide, by decide, by decide, by decide, by decide, by decide⟩,
   ⟨{ arr with tet.epoch := 5000, bsk.extents := [⟨1, 0, 1, 0, 1, 0, false, 0, 0, [0], 0, true⟩] }, 0, 0, by decide, by decide, by decide⟩,
   ⟨arr.modArr 0 (fun r => { r with waiting := [(1, 8)] }), 0, 1, 8, _, by decide, by decide, by decide, by decide, by decide, rfl, by decide⟩,
   ⟨arr.modArr 0 (fun r => { r with rb0 := ⟨true, 1, 2, 8, false, 0, [], 8, 0, 0⟩ }), 0, 0, _, _, by decide, by decide, by decide, by decide, rfl,
     by decide, by decide, rfl, by decide, by decide⟩,
   ⟨arr.modArr 0 (fun r => { r with rb0 := ⟨true, 1, 5, 8, false, 0, [], 8, 0, 0⟩ }), 0, 0, by decide, by decide, by decide, by decide, by decide,
     by decide, by decide, by decide, by decide, by decide, by decide⟩,
   ⟨arr.modArr 0 (fun r => { r with rb0 := ⟨true, 1, 8, 8, false, 0, [], 8, 0, 0⟩ }), 0, 0, by decide, by decide, by decide, by decide, by decide⟩,
   ⟨arr, 0, 2, by decide, by decide, by decide, by decide, by decide⟩,
   ⟨arr.modArr 0 (fun r => { r with cb := some ⟨0, 8, 2, 0⟩ }), 0, ⟨0, 8, 2, 0⟩, by decide, by decide, by decide, by decide, by decide, by decide,
     by decide +kernel⟩,
   ⟨arr.modArr 0 (fun r => { r with cb := some ⟨0, 8, 8, 0⟩ }), 0, ⟨0, 8, 8, 0⟩, _, by decide, by decide, by decide, by decide, by decide,
     by decide, rfl, by decide, by decide⟩,
   ⟨(arr.wr (R.STR_An_POLICY_CB_AUTO 0) 1).modArr 0 (fun r => { r with taken := [(0, 0)], places := [(0, 8)] }), 0, 0, 8, by decide, by decide,
     by decide, by decide, by decide, by decide, by decide⟩,
   ⟨((((arr.wr (R.STR_An_POLICY_CB_MEDIA 0) 1).wr (R.STR_An_MEDIA_WARN_WARN 0) 1).wr (R.STR_SPAREk_VALID 0) 1).wr (R.STR_SPAREk_SPARE_STATE 0) 1).wr (R.STR_SPAREk_PORT 0) 4, 0, 0, 0, by decide, by decide, by decide, by decide, by decide, by decide, by decide, by decide, by decide, by decide⟩,
   ⟨arr.modArr 0 (fun r => { r with pt := 8 }), 0, by decide, by decide, by decide⟩,
   ⟨arr, 0, _, _, by decide, by decide, by decide, by decide, by decide, by decide, by decide, rfl, rfl⟩,
   ⟨arr.modArr 0 (fun r => { r with rs := some ⟨8, 0, [], [], 0⟩ }), 0, ⟨8, 0, [], [], 0⟩, by decide, by decide, by decide, by decide, by decide,
     by decide⟩,
   ⟨arr.modArr 0 (fun r => { r with rs := some ⟨2, 0, [], [2], 0⟩ }), 0, ⟨2, 0, [], [2], 0⟩, by decide, by decide, by decide, by decide, by decide,
     by decide, by decide, by decide, by decide⟩⟩

/-- A controller that is ready. -/
def ctl (id : Nat) (fab : Bool) : Ctrl := ⟨id, fab, true, true, 0, false, false, 5, 6, 100, [], 0, none, [], false, [], 1, [], 0, 0, 0, 0, 32, 0⟩

/-- Queue 1 of a controller: size 8, completion queue 1, reservation 2. -/
def que (c credits fetched waiting : Nat) (used : Bool) (idle : Nat) : Queue := ⟨c, 1, 8, 1, 2, credits, fetched, waiting, used, idle, 0, 0, false, 9, false⟩

/-- A queue pair of the fabric. -/
def qp (id ctrl : Nat) : Qp := ⟨id, 5, ctrl, 1, 0, 1000, 500, 0, 0, 0, 0, false⟩

/-- The array served to controllers 0 and 16 with these queues. -/
def adm (qs : List Queue) : State :=
  { arr with ce.ctrls := [ctl 0 false, ctl 16 true], ce.queues := qs, ce.cqs := [⟨0, 1, 8, 0⟩], fab.qps := [qp 9 16, qp 10 0xFFFF] }

/-- Command 3 of the admin queue, and of queue 1, of controller 0. -/
def ah : IoHdr := ⟨0, 0, 3⟩
def ih : IoHdr := ⟨0, 1, 3⟩

/-- A host connects on queue pair 10. -/
def con : ConnectReq := ⟨10, 3, 0, 31, 5, 6, 0xFFFF, false, 0, false⟩

/-- A Noljo image that passes its checks. -/
def img : Image := ⟨true, 0, 0, true, true, 0, true, 1, 0, 0, 1, 1, 0, [1], [], [], 0⟩

/-- A read of one block in a phase. -/
def ctx (id : Nat) (p : CPhase) : Ctx := ⟨id, ih, .read, 1, 1, 0, 1, [], noFlags, p, [], [], false, [], [], [], [], [], false, 0, [], 0, [], none⟩

/-- A read of block 0 that waits for the line of its member block. -/
def readCtx : Ctx := { ctx 4 .alloc with wantKeys := [1099511889920] }

/-- One context. -/
def oneCtx (p : CPhase) : State := { adm [que 0 0 0 0 false 0] with ce.ctxs := [ctx 4 p] }

/-- A namespace with one registrant that holds a reservation of a type. -/
def resv (t : Nat) : State := { adm [que 0 0 0 0 false 0] with ce.resvs := [⟨1, [(6, 77)], 6, t, 1, []⟩] }

/-- Namespace 1. -/
def ns1 : Ns := ⟨1, 1, 1, 0, 0, 4, 128, 0⟩

/-- Block 0 of namespace 1 in a CLEAN line. -/
def hit : State := { adm [que 0 0 0 0 false 0] with env.lines := [⟨0, 0, .clean, 1099511889920, false, 0⟩] }

/-- Write-back with free pages, caching off. -/
def page : State :=
  let s := ((adm [que 0 0 0 0 false 0]).wr R.BSK_STATUS_MODE 1).wr R.ENV_STATUS_MODE 1
  { s with bsk.w := 10000000 }

/-- A write whose one Basket part is left. -/
def left (p : CPhase) : Ctx := { ctx 4 p with op := .write, data := [5#32896], bparts := [(0, 1)], compan := some 0 }

theorem wit_QueuesTakeContexts :
    (∃ s : State, ∃ c, ∃ q, ∃ avail, ∃ x, ∃ k, ∃ n, ∃ u, ∃ v, Alive s ∧ taking s = true ∧ c < 2 ∧ queueOf s c q = some x ∧
      (ctrlOf s c).map (·.rdy) = some true ∧ k = turnShare s c q ∧ (n, u) = fetchUpTo c q (min 8 avail) k s ∧
      v = u.modQueue c q (fun y => { y with waiting := if n < min 8 avail then avail - n else 0, throttledFull := y.throttledFull && n = 0 })) ∧
    (∃ s : State, ∃ c, ∃ q, ∃ avail, ∃ x, Alive s ∧ taking s = true ∧ c < 2 ∧ queueOf s c q = some x ∧ (ctrlOf s c).map (·.rdy) = some true ∧
      heldBy s x + min 8 avail ≤ x.r ∧ x.r < x.size) ∧
    (∃ s : State, ∃ c, ∃ q, ∃ x, queueOf s c q = some x ∧ mayHold s x = false) ∧
    (∃ s : State, ∃ c, ∃ q, ∃ bytes, ∃ x, Alive s ∧ taking s = true ∧ 16 ≤ c ∧ bytes ≤ 16384 ∧ queueOf s c q = some x ∧ 0 < x.credits) ∧
    (∃ s : State, ∃ bytes, Alive s ∧ 16384 < bytes) ∧
    (∃ s : State, ∃ c, ∃ q, ∃ bytes, ∃ x, ∃ p, Alive s ∧ 16 ≤ c ∧ bytes ≤ 16384 ∧ queueOf s c q = some x ∧ x.credits = 0 ∧
      s.fab.qps.find? (fun p => p.id = x.qp) = some p) ∧
    (∃ s : State, ∃ c, ∃ q, ∃ x, Alive s ∧ queueOf s c q = some x ∧ 16 ≤ x.idle ∧ x.r < heldBy s x) ∧
    (∃ s : State, ∃ c, ∃ q, ∃ x, Alive s ∧ queueOf s c q = some x ∧ (x.idle < 16 ∨ heldBy s x ≤ x.r)) ∧
    (∃ s : State, ∃ i, ∃ x, Alive s ∧ taking s = true ∧ nextQueue s = some (i, x) ∧ 16 ≤ x.ctrl) ∧
    (∃ s : State, ∃ i, ∃ x, Alive s ∧ taking s = true ∧ nextQueue s = some (i, x) ∧ x.ctrl < 16) ∧
    (∃ s : State, ∃ i, ∃ rest, Alive s ∧ taking s = true ∧ s.ce.adminWait = i :: rest ∧ adminHeld s < 64 ∧
      (saniForbids i = false ∨ sanitizing s = false)) :=
  ⟨⟨adm [que 0 0 0 0 false 0], 0, 1, 3, que 0 0 0 0 false 0, _, _, _, _, by decide, by decide, by decide, by decide, by decide, rfl, rfl, rfl⟩,
   ⟨adm [que 0 0 0 0 false 0], 0, 1, 2, que 0 0 0 0 false 0, by decide, by decide, by decide, by decide, by decide, by decide, by decide⟩,
   ⟨adm [que 0 0 7 0 false 0], 0, 1, que 0 0 7 0 false 0, by decide, by decide⟩,
   ⟨adm [que 16 1 0 0 false 0], 16, 1, 64, que 16 1 0 0 false 0, by decide, by decide, by decide, by decide, by decide, by decide⟩,
   ⟨srv, 16385, by decide, by decide⟩,
   ⟨adm [que 16 0 0 0 false 0], 16, 1, 64, que 16 0 0 0 false 0, qp 9 16, by decide, by decide, by decide, by decide, by decide, by decide⟩,
   ⟨adm [que 16 3 0 0 false 16], 16, 1, que 16 3 0 0 false 16, by decide, by decide, by decide, by decide⟩,
   ⟨adm [que 16 3 0 0 false 15], 16, 1, que 16 3 0 0 false 15, by decide, by decide, by decide⟩,
   ⟨adm [que 16 0 0 0 true 0], 0, que 16 0 0 0 true 0, by decide, by decide, by decide, by decide⟩,
   ⟨adm [que 0 0 0 1 false 0], 0, que 0 0 0 1 false 0, by decide, by decide, by decide, by decide⟩,
   ⟨{ adm [] with ce.adminWait := [.keepAlive ah] }, .keepAlive ah, [], by decide, by decide, rfl, by decide, by decide⟩⟩

theorem wit_ControllersAndQueuesComeAndGo :
    (∃ s : State, ∃ h : IoHdr, ∃ qid, ∃ qsize, ∃ cqid, AdminFree h s ∧ h.ctrl < 16 ∧ s.ce.cqs.any (fun x => x.ctrl = h.ctrl && x.qid = cqid) = true ∧
      0 < qid ∧ qid ≤ maxQid s h.ctrl ∧ queueOf s h.ctrl qid = none ∧ 2 ≤ qsize ∧ qsize ≤ 4096 ∧
      floorOk s (min (qsize - 1) (s.rd R.HPT_CE_POOL_CFG_RSV_DEFAULT)) = true) ∧
    (∃ s : State, ∃ h : IoHdr, ∃ qid, ∃ qsize, ∃ cqid, AdminFree h s ∧ h.ctrl < 16 ∧ s.ce.cqs.any (fun x => x.ctrl = h.ctrl && x.qid = cqid) = true ∧
      0 < qid ∧ qid ≤ maxQid s h.ctrl ∧ queueOf s h.ctrl qid = none ∧
      (qsize < 2 ∨ 4096 < qsize ∨ floorOk s (min (qsize - 1) (s.rd R.HPT_CE_POOL_CFG_RSV_DEFAULT)) = false)) ∧
    (∃ s : State, ∃ h : IoHdr, ∃ qid, ∃ qsize, ∃ iv, AdminFree h s ∧ h.ctrl < 16 ∧ 0 < qid ∧ qid ≤ maxQid s h.ctrl ∧
      s.ce.cqs.any (fun x => x.ctrl = h.ctrl && x.qid = qid) = false ∧ 2 ≤ qsize ∧ qsize ≤ 4096 ∧ iv < 1025) ∧
    (∃ s : State, ∃ h : IoHdr, AdminFree h s ∧ h.ctrl < 16) ∧
    (∃ s : State, ∃ h : IoHdr, ∃ qid, ∃ x, AdminFree h s ∧ h.ctrl < 16 ∧ queueOf s h.ctrl qid = some x) ∧
    (∃ s : State, ∃ h : IoHdr, ∃ qid, AdminFree h s ∧ h.ctrl < 16 ∧ queueOf s h.ctrl qid = none) ∧
    (∃ s : State, ∃ h : IoHdr, ∃ qid, AdminFree h s ∧ h.ctrl < 16 ∧ s.ce.cqs.any (fun x => x.ctrl = h.ctrl && x.qid = qid) = true ∧
      s.ce.queues.any (fun x => x.ctrl = h.ctrl && x.cq = qid) = false) ∧
    (∃ s : State, ∃ h : IoHdr, ∃ qid, AdminFree h s ∧ h.ctrl < 16 ∧ s.ce.cqs.any (fun x => x.ctrl = h.ctrl && x.qid = qid) = true ∧
      s.ce.queues.any (fun x => x.ctrl = h.ctrl && x.cq = qid) = true) ∧
    (∃ s : State, ∃ r : ConnectReq, ∃ q, Alive s ∧ taking s = true ∧ s.fab.qps.find? (fun q => q.id = r.qp) = some q ∧ q.ctrl = 0xFFFF ∧
      q.err = false ∧ r.qid = 0 ∧ r.cntlid = 0xFFFF ∧ aclOk s r.hostNqn = true ∧
      (s.ce.ctrls.filter fun c => c.fabric && ¬ c.discovery).length < 512) ∧
    (∃ s : State, ∃ r : ConnectReq, ∃ q, Alive s ∧ taking s = true ∧ s.fab.qps.find? (fun q => q.id = r.qp) = some q ∧ q.ctrl = 0xFFFF ∧
      q.err = false ∧ r.qid = 0 ∧ aclOk s r.hostNqn = false) ∧
    (∃ s : State, ∃ h : IoHdr, ∃ x, Alive s ∧ taking s = true ∧ 16 ≤ h.ctrl ∧ 0 < h.q ∧ queueOf s h.ctrl h.q = some x) ∧
    (∃ s : State, ∃ h : IoHdr, ∃ c, Alive s ∧ taking s = true ∧ ctrlOf s h.ctrl = some c ∧ c.fabric = true) ∧
    (∃ s : State, ∃ h : IoHdr, ∃ c, ∃ v, Alive s ∧ taking s = true ∧ ctrlOf s h.ctrl = some c ∧ c.fabric = true ∧ (c.en = false ∨ bit v 0 = true)) ∧
    (∃ s : State, ∃ h : IoHdr, ∃ c, ∃ v, Alive s ∧ taking s = true ∧ ctrlOf s h.ctrl = some c ∧ c.fabric = true ∧ c.en = true ∧ bit v 0 = false) ∧
    (∃ s : State, ∃ h : IoHdr, Alive s ∧ adminOpen s h = true ∧ 16 ≤ h.ctrl) ∧
    (∃ s : State, ∃ c, ∃ x, Alive s ∧ ctrlOf s c = some x ∧ x.fabric = true ∧ x.kato ≠ 0) ∧
    (∃ s : State, ∃ c, Alive s ∧ c < 2 ∧ fn0Up s c = true) ∧
    (∃ s : State, ∃ c, ∃ x, Alive s ∧ ctrlOf s c = some x ∧ x.fabric = false) ∧
    (∃ s : State, ∃ c, ∃ x, Alive s ∧ ctrlOf s c = some x ∧ x.fabric = true) ∧
    (∃ s : State, ∃ c, ∃ x, ctrlOf s c = some x ∧ x.fabric = false) :=
  ⟨⟨adm [], ah, 1, 4096, 1, by unfold AdminFree; decide, by decide, by decide, by decide, by decide, by decide, by decide, by decide, by decide⟩,
   ⟨adm [], ah, 1024, 1, 1, by unfold AdminFree; decide, by decide, by decide, by decide, by decide, by decide, by decide⟩,
   ⟨adm [], ah, 2, 2, 1024, by unfold AdminFree; decide, by decide, by decide, by decide, by decide, by decide, by decide, by decide⟩,
   ⟨adm [], ah, by unfold AdminFree; decide, by decide⟩,
   ⟨adm [que 0 0 0 0 false 0], ah, 1, que 0 0 0 0 false 0, by unfold AdminFree; decide, by decide, by decide⟩,
   ⟨adm [], ah, 1, by unfold AdminFree; decide, by decide, by decide⟩,
   ⟨adm [], ah, 1, by unfold AdminFree; decide, by decide, by decide, by decide⟩,
   ⟨adm [que 0 0 0 0 false 0], ah, 1, by unfold AdminFree; decide, by decide, by decide, by decide⟩,
   ⟨(adm []).wr R.FAB_CFG_ACL_MODE 0, con, qp 10 0xFFFF, by decide, by decide, by decide, by decide, by decide, by decide, by decide, by decide,
     by decide⟩,
   ⟨adm [], con, qp 10 0xFFFF, by decide, by decide, by decide, by decide, by decide, by decide, by decide⟩,
   ⟨adm [que 16 1 0 0 false 0], ⟨16, 1, 3⟩, que 16 1 0 0 false 0, by decide, by decide, by decide, by decide, by decide⟩,
   ⟨adm [que 16 1 0 0 false 0], ⟨16, 0, 3⟩, ctl 16 true, by decide, by decide, by decide, by decide⟩,
   ⟨adm [que 16 1 0 0 false 0], ⟨16, 0, 3⟩, ctl 16 true, 1, by decide, by decide, by decide, by decide, by decide⟩,
   ⟨adm [que 16 1 0 0 false 0], ⟨16, 0, 3⟩, ctl 16 true, 0, by decide, by decide, by decide, by decide, by decide, by decide⟩,
   ⟨adm [que 16 1 0 0 false 0], ⟨16, 0, 3⟩, by decide, by decide, by decide⟩,
   ⟨adm [que 16 1 0 0 false 0], 16, ctl 16 true, by decide, by decide, by decide, by decide⟩,
   ⟨{ srv with links := [{ HLink.down with up := true }] }, 0, by decide, by decide, by decide⟩,
   ⟨adm [que 16 1 0 0 false 0], 0, ctl 0 false, by decide, by decide, by decide⟩,
   ⟨adm [que 16 1 0 0 false 0], 16, ctl 16 true, by decide, by decide, by decide⟩,
   ⟨adm [que 16 1 0 0 false 0], 0, ctl 0 false, by decide, by decide⟩⟩

theorem wit_AdminCommandsAnswer :
    (∃ s : State, ∃ h : IoHdr, ∃ c, AdminFree h s ∧ ctrlOf s h.ctrl = some c) ∧
    (∃ s : State, ∃ h : IoHdr, ∃ c, ∃ nsid, ∃ n, AdminFree h s ∧ ctrlOf s h.ctrl = some c ∧ nsById s nsid = some n) ∧
    (∃ s : State, ∃ h : IoHdr, ∃ c, ∃ nsid, AdminFree h s ∧ ctrlOf s h.ctrl = some c ∧ nsById s nsid = none) ∧
    (∃ s : State, ∃ h : IoHdr, ∃ c, ∃ nsid, ∃ off, ∃ len, ∃ bs, AdminFree h s ∧ ctrlOf s h.ctrl = some c ∧ logOf s c nsid 1 off len = .page bs ∧
      off ≤ bs.length) ∧
    (∃ s : State, ∃ h : IoHdr, ∃ c, ∃ v, AdminFree h s ∧ ctrlOf s h.ctrl = some c ∧ bits v 0 3 = 3) ∧
    (∃ s : State, ∃ h : IoHdr, ∃ c, ∃ v, AdminFree h s ∧ ctrlOf s h.ctrl = some c ∧ bits v 0 3 ≠ 3) ∧
    (∃ s : State, ∃ h : IoHdr, ∃ c, AdminFree h s ∧ ctrlOf s h.ctrl = some c) ∧
    (∃ s : State, ∃ h : IoHdr, ∃ c, AdminFree h s ∧ ctrlOf s h.ctrl = some c) ∧
    (∃ s : State, ∃ h : IoHdr, AdminFree h s) ∧
    (∃ s : State, ∃ h : IoHdr, ∃ c, Alive s ∧ adminOpen s h = true ∧ ctrlOf s h.ctrl = some c ∧ adminWaiting s h.ctrl = 0 ∧ c.aer.length < 4 ∧
      c.aenPend = []) ∧
    (∃ s : State, ∃ h : IoHdr, ∃ c, Alive s ∧ adminOpen s h = true ∧ ctrlOf s h.ctrl = some c ∧ adminWaiting s h.ctrl = 0 ∧ 4 ≤ c.aer.length) ∧
    (∃ s : State, ∃ h : IoHdr, AdminFree h s ∧ h.q = 0) :=
  ⟨⟨adm [], ah, ctl 0 false, by unfold AdminFree; decide, by decide⟩,
   ⟨adm [], ah, ctl 0 false, 1, ⟨1, 1, 1, 0, 0, 4, 128, 0⟩, by unfold AdminFree; decide, by decide, by decide⟩,
   ⟨adm [], ah, ctl 0 false, 2, by unfold AdminFree; decide, by decide, by decide⟩,
   ⟨adm [], ah, ctl 0 false, 0, 0, 0, _, by unfold AdminFree; decide, by decide, rfl, Nat.zero_le _⟩,
   ⟨adm [], ah, ctl 0 false, 3, by unfold AdminFree; decide, by decide, by decide⟩,
   ⟨adm [], ah, ctl 0 false, 4, by unfold AdminFree; decide, by decide, by decide⟩,
   ⟨adm [], ah, ctl 0 false, by unfold AdminFree; decide, by decide⟩,
   ⟨adm [], ah, ctl 0 false, by unfold AdminFree; decide, by decide⟩,
   ⟨adm [], ah, by unfold AdminFree; decide⟩,
   ⟨adm [], ah, ctl 0 false, by decide, by decide, by decide, by decide, by decide, by decide⟩,
   ⟨{ adm [] with ce.ctrls := [{ ctl 0 false with aer := [1, 2, 3, 4] }] }, ah, { ctl 0 false with aer := [1, 2, 3, 4] }, by decide, by decide,
     by decide, by decide, by decide⟩,
   ⟨adm [], ah, by unfold AdminFree; decide, by decide⟩⟩

theorem wit_FirmwareActivatesInPhases :
    (∃ s : State, ∃ h : IoHdr, ∃ len, AdminFree h s ∧ sanitizing s = false ∧ 0 < len ∧ len % 4 = 0 ∧ len ≤ 28 * 2 ^ 20) ∧
    (∃ s : State, ∃ h : IoHdr, ∃ slot, ∃ img, AdminFree h s ∧ sanitizing s = false ∧ (slot = 1 ∨ slot = 2) ∧ slotImg s (slot - 1) = some img ∧
      imageCheck s 0 img = none) ∧
    (∃ s : State, ∃ h : IoHdr, ∃ slot, ∃ action, ∃ img, AdminFree h s ∧ sanitizing s = false ∧ (slot = 1 ∨ slot = 2) ∧ action < 2 ∧
      downloadWhole s = true ∧ s.ce.dlImage = some img ∧ imageCheck s 0 img = none) ∧
    (∃ s : State, ∃ h : IoHdr, ∃ slot, ∃ action, ∃ img, AdminFree h s ∧ sanitizing s = false ∧ (slot = 1 ∨ slot = 2) ∧ action < 2 ∧
      downloadWhole s = true ∧ s.ce.dlImage = some img ∧ imageCheck s 0 img = none ∧ s.ce.fwWrites = [] ∧ s.dwn.flashOp = none ∧ s.mbx.wait = []) ∧
    (∃ s : State, ∃ c, Alive s ∧ s.ce.commit = some c ∧ s.rd R.HPT_CE_ACT_PHASE = 1 ∧ s.rd R.HPT_CE_ACT_PAIR_WAIT = 0 ∧ s.pairState ≠ 2 ∧
      s.pairState ≠ 3) ∧
    (∃ s : State, ∃ c, Alive s ∧ s.ce.commit = some c ∧ s.rd R.HPT_CE_ACT_PHASE = 1 ∧ s.rd R.HPT_CE_ACT_PAIR_WAIT = 0) ∧
    (∃ s : State, Alive s ∧ s.rd R.HPT_CE_ACT_PHASE = 2 ∧ drained s = true) ∧
    (∃ s : State, ∃ c, Alive s ∧ s.ce.commit = some c ∧ 3 ≤ s.rd R.HPT_CE_ACT_PHASE ∧ s.pairState = 2 ∧ s.rd R.SPR_LINK_UP = 1 ∧
      s.pair.second = false) ∧
    (∃ s : State, ∃ c, Alive s ∧ s.ce.commit = some c ∧ s.rd R.HPT_CE_ACT_PHASE = 0 ∧ s.pairState = 3 ∧ s.rd R.SPR_LINK_UP = 1) ∧
    (∃ s : State, ∃ c, Alive s ∧ s.ce.commit = some c ∧ 3 ≤ s.rd R.HPT_CE_ACT_PHASE ∧ s.pairState ≠ 2) :=
  ⟨⟨adm [], ah, 4, by unfold AdminFree; decide, by decide, by decide, by decide, by decide⟩,
   ⟨{ adm [] with nv.flashB := some img }, ah, 2, img, by unfold AdminFree; decide, by decide, by decide, by decide, by decide⟩,
   ⟨{ adm [] with ce.download := [(0, 4)], ce.dlImage := some img }, ah, 1, 1, img, by unfold AdminFree; decide, by decide, by decide, by decide,
     by decide, by decide, by decide⟩,
   ⟨{ adm [] with ce.download := [(0, 4096)], ce.dlImage := some img }, ah, 1, 0, img, by unfold AdminFree; decide, by decide, by decide, by decide,
     by decide, by decide, by decide, by decide, by decide, by decide⟩,
   ⟨{ srv.wr R.HPT_CE_ACT_PHASE 1 with ce.commit := some ⟨some ah, 1, 3⟩ }, ⟨some ah, 1, 3⟩, by decide, by decide, by decide, by decide, by decide,
     by decide⟩,
   ⟨{ srv.wr R.HPT_CE_ACT_PHASE 1 with ce.commit := some ⟨some ah, 1, 3⟩ }, ⟨some ah, 1, 3⟩, by decide, by decide, by decide, by decide⟩,
   ⟨srv.wr R.HPT_CE_ACT_PHASE 2, by decide, by decide, by decide⟩,
   ⟨{ ((srv.wr R.HPT_CE_ACT_PHASE 3).wr R.SPR_STATUS_STATE 2).wr R.SPR_LINK_UP 1 with ce.commit := some ⟨none, 1, 1⟩ }, ⟨none, 1, 1⟩, by decide,
     by decide, by decide, by decide, by decide, by decide⟩,
   ⟨{ (srv.wr R.SPR_STATUS_STATE 3).wr R.SPR_LINK_UP 1 with ce.commit := some ⟨none, 1, 1⟩ }, ⟨none, 1, 1⟩, by decide, by decide, by decide,
     by decide, by decide⟩,
   ⟨{ srv.wr R.HPT_CE_ACT_PHASE 3 with ce.commit := some ⟨none, 1, 1⟩ }, ⟨none, 1, 1⟩, by decide, by decide, by decide, by decide⟩⟩

theorem wit_FormatAndSanitizeRun :
    (∃ s : State, ∃ h : IoHdr, ∃ nsid, ∃ lbaf, ∃ ses, ∃ n, AdminFree h s ∧ sanitizing s = false ∧ ses ≤ 1 ∧ nsid ≠ 0xFFFFFFFF ∧
      nsById s nsid = some n ∧ formatRefusal s h n lbaf = none) ∧
    (∃ s : State, ∃ p, Alive s ∧ bgOk s = true ∧ s.nv.progs.find? (fun p => p.kind = 4 && formatMay s p) = some p) ∧
    (∃ s : State, ∃ h : IoHdr, ∃ nsid, ∃ lbaf, ∃ ses, ∃ n, AdminFree h s ∧ sanitizing s = false ∧ ses ≤ 1 ∧ nsid ≠ 0xFFFFFFFF ∧
      nsById s nsid = some n ∧ formatRefusal s h n lbaf = none ∧ bgOk s = true ∧ s.nv.progs = [] ∧ s.ce.formats = [] ∧ s.ce.ctxs = [] ∧
      s.ce.sops = [] ∧ s.bsk.extents = [] ∧ (s.arr n.array).lost = [] ∧ nsAt s n.idx = some n ∧ arrServes s n.array = true ∧ n.stripes ≤ 1024) ∧
    (∃ s : State, ∃ h : IoHdr, AdminFree h s ∧ blockEraseOk s = true ∧ s.nv.sani = none ∧ saniSeqErr s = false ∧ s.ce.ctxs = []) ∧
    (∃ s : State, ∃ h : IoHdr, ∃ act, AdminFree h s ∧ (act ≠ 2 ∨ blockEraseOk s = false)) ∧
    (∃ s : State, ∃ h : IoHdr, ∃ owpass, AdminFree h s ∧ owpass ≤ 15 ∧ s.nv.sani = none ∧ saniSeqErr s = false ∧ s.ce.ctxs = []) ∧
    (∃ s : State, ∃ h : IoHdr, AdminFree h s ∧ s.nv.saniFail = true) ∧
    (∃ s : State, ∃ h : IoHdr, AdminFree h s ∧ s.nv.saniFail = false) ∧
    (∃ s : State, ∃ x, Alive s ∧ bgOk s = true ∧ s.nv.sani = some x ∧ x.action = 2 ∧ x.arr < 16 ∧ arrOn s x.arr = false) ∧
    (∃ s : State, ∃ x, Alive s ∧ bgOk s = true ∧ s.nv.sani = some x ∧ x.action = 2 ∧ 16 ≤ x.arr) ∧
    (∃ s : State, ∃ a, ∃ st, ∃ x, Alive s ∧ bgOk s = true ∧ s.nv.sani = some x ∧ x.action = 3 ∧ nthStripe s.ns x.st = some (a, st) ∧
      arrServes s a = true ∧ lockFree s a st = true) :=
  ⟨⟨adm [], ah, 1, 0, 1, ⟨1, 1, 1, 0, 0, 4, 128, 0⟩, by unfold AdminFree; decide, by decide, by decide, by decide, by decide, by decide⟩,
   ⟨{ adm [] with nv.progs := [(⟨4, 1, 0, 4, 0⟩ : Prog)] }, (⟨4, 1, 0, 4, 0⟩ : Prog), by decide, by decide, by decide⟩,
   ⟨adm [], ah, 1, 0, 0, ns1, by unfold AdminFree; decide, by decide, by decide, by decide, by decide, by decide, by decide, by decide, by decide,
     by decide, by decide, by decide, by decide, by decide, by decide, by decide⟩,
   ⟨adm [], ah, by unfold AdminFree; decide, by decide, by decide, by decide, by decide⟩,
   ⟨adm [], ah, 3, by unfold AdminFree; decide, by decide⟩,
   ⟨adm [], ah, 15, by unfold AdminFree; decide, by decide, by decide, by decide, by decide⟩,
   ⟨{ adm [] with nv.saniFail := true }, ah, by unfold AdminFree; decide, by decide⟩,
   ⟨adm [], ah, by unfold AdminFree; decide, by decide⟩,
   ⟨{ arr with nv.sani := some ⟨2, 1, false, 0, 0, 1, 0⟩ }, ⟨2, 1, false, 0, 0, 1, 0⟩, by decide, by decide, by decide, by decide, by decide,
     by decide⟩,
   ⟨{ arr with nv.sani := some ⟨2, 1, false, 0, 0, 16, 0⟩ }, ⟨2, 1, false, 0, 0, 16, 0⟩, by decide, by decide, by decide, by decide, by decide⟩,
   ⟨{ arr with nv.sani := some ⟨3, 1, false, 0, 0, 0, 3⟩ }, 0, 3, ⟨3, 1, false, 0, 0, 0, 3⟩, by decide, by decide, by decide, by decide, by decide,
     by decide, by decide⟩⟩

theorem wit_ReservationsAreKept :
    (∃ s : State, ∃ h : IoHdr, ∃ nsid, ∃ n, Alive s ∧ ioOpen s h = true ∧ nsById s nsid = some n ∧ anaState s n.array = 1 ∧
      formatting s n.idx = false ∧ sanitizing s = false ∧ keyOf (resvOf s n.idx) (hostOf s h.ctrl) = none) ∧
    (∃ s : State, ∃ h : IoHdr, ∃ nsid, ∃ n, ∃ key, ∃ rtype, Alive s ∧ ioOpen s h = true ∧ nsById s nsid = some n ∧ anaState s n.array = 1 ∧
      formatting s n.idx = false ∧ sanitizing s = false ∧ 1 ≤ rtype ∧ rtype ≤ 6 ∧ (resvOf s n.idx).rtype = 0 ∧
      keyOf (resvOf s n.idx) (hostOf s h.ctrl) = some key) ∧
    (∃ s : State, ∃ h : IoHdr, ∃ nsid, ∃ n, ∃ key, Alive s ∧ ioOpen s h = true ∧ nsById s nsid = some n ∧ anaState s n.array = 1 ∧
      formatting s n.idx = false ∧ sanitizing s = false ∧ (resvOf s n.idx).rtype = 1 ∧ (resvOf s n.idx).holder = hostOf s h.ctrl ∧
      keyOf (resvOf s n.idx) (hostOf s h.ctrl) = some key) ∧
    (∃ s : State, ∃ h : IoHdr, ∃ nsid, ∃ n, Alive s ∧ ioOpen s h = true ∧ nsById s nsid = some n ∧ anaState s n.array = 1 ∧
      formatting s n.idx = false ∧ sanitizing s = false) :=
  ⟨⟨adm [que 0 0 0 0 false 0], ih, 1, ⟨1, 1, 1, 0, 0, 4, 128, 0⟩, by decide, by decide, by decide, by decide, by decide, by decide, by decide⟩,
   ⟨resv 0, ih, 1, ⟨1, 1, 1, 0, 0, 4, 128, 0⟩, 77, 6, by decide, by decide, by decide, by decide, by decide, by decide, by decide, by decide,
     by decide, by decide⟩,
   ⟨resv 1, ih, 1, ⟨1, 1, 1, 0, 0, 4, 128, 0⟩, 77, by decide, by decide, by decide, by decide, by decide, by decide, by decide, by decide, by decide⟩,
   ⟨adm [que 0 0 0 0 false 0], ih, 1, ⟨1, 1, 1, 0, 0, 4, 128, 0⟩, by decide, by decide, by decide, by decide, by decide, by decide⟩⟩

theorem wit_IoCommandsTakeTheSteps :
    (∃ s : State, ∃ h : IoHdr, Alive s ∧ ioOpen s h = true) ∧
    (∃ s : State, ∃ h : IoHdr, Alive s ∧ ioOpen s h = true) ∧
    (∃ s : State, ∃ h : IoHdr, Alive s ∧ ioOpen s h = true) ∧
    (∃ s : State, ∃ h : IoHdr, Alive s ∧ ioOpen s h = true) ∧
    (∃ s : State, ∃ h : IoHdr, ∃ slba, ∃ nlb, ∃ f, ∃ c : Ctx, ∃ u : State, Alive s ∧ ioOpen s h = true ∧ (c,
      u) = arrive h .read slba nlb [] f true s) ∧
    (∃ s : State, ∃ h : IoHdr, ∃ slba, ∃ data, ∃ f, ∃ c : Ctx, ∃ u : State, Alive s ∧ ioOpen s h = true ∧ (c,
      u) = arrive h .write slba data.length data f true s) ∧
    (∃ s : State, ∃ h : IoHdr, ∃ nsid, ∃ c : Ctx, ∃ u : State, Alive s ∧ ioOpen s h = true ∧ (c, u) = arrive h .flush 0 0 [] noFlags false s ∧
      flushErr c.id h nsid u = none ∧ mirroring u = false) ∧
    (∃ s : State, ∃ h : IoHdr, ∃ nsid, ∃ c : Ctx, ∃ u : State, ∃ e, Alive s ∧ ioOpen s h = true ∧ (c, u) = arrive h .flush 0 0 [] noFlags false s ∧
      flushErr c.id h nsid u = some e) ∧
    (∃ s : State, ∃ h : IoHdr, ∃ nsid, ∃ l, ∃ f, ∃ ns, ∃ v, Alive s ∧ ioOpen s h = true ∧ nsById s nsid = some ns ∧ BlockCached s ns l v ∧
      ioCheck s s.ce.nextId h (nsById s nsid) 1 (l + 1) false true f = none ∧ f.xferErr = false ∧
      lockFree s ns.array (placeOf s ns l).stripe = true ∧ engineBusy s s.ce.nextId = false) ∧
    (∃ s : State, ∃ h : IoHdr, ∃ nsid, ∃ l, ∃ f, ∃ ns, ∃ v, Alive s ∧ ioOpen s h = true ∧ nsById s nsid = some ns ∧ BlockCached s ns l v ∧
      ioCheck s s.ce.nextId h (nsById s nsid) 1 (l + 1) false true f = none ∧ f.xferErr = false ∧
      lockFree s ns.array (placeOf s ns l).stripe = true ∧ engineBusy s s.ce.nextId = false ∧ NoneEarlier s h s.ce.nextId) ∧
    (∃ s : State, ∃ h : IoHdr, ∃ nsid, ∃ l, ∃ f, ∃ ns, Alive s ∧ ioOpen s h = true ∧ nsById s nsid = some ns ∧ PageReady s ns l ∧ f.xferErr = false ∧
      lockFree s ns.array (placeOf s ns l).stripe = true ∧ oldest s .basket = none ∧
      ioCheck s s.ce.nextId h (nsById s nsid) 1 (l + 1) true true f = none) ∧
    (∃ s : State, ∃ h : IoHdr, ∃ nsid, ∃ l, ∃ f, ∃ ns, Alive s ∧ ioOpen s h = true ∧ nsById s nsid = some ns ∧ PageReady s ns l ∧ f.xferErr = false ∧
      lockFree s ns.array (placeOf s ns l).stripe = true ∧ oldest s .basket = none ∧
      ioCheck s s.ce.nextId h (nsById s nsid) 1 (l + 1) true true f = none ∧ NoneEarlier s h s.ce.nextId) ∧
    (∃ s : State, ∃ h : IoHdr, ∃ nsid, ∃ l, ∃ f, ∃ ns, Alive s ∧ ioOpen s h = true ∧ nsById s nsid = some ns ∧ PageReady s ns l ∧ f.xferErr = false ∧
      lockFree s ns.array (placeOf s ns l).stripe = true ∧ oldest s .basket = none ∧
      ioCheck s s.ce.nextId h (nsById s nsid) 1 (l + 1) true false f = none) ∧
    (∃ s : State, ∃ h : IoHdr, ∃ nsid, Alive s ∧ ioOpen s h = true ∧ nsid ≠ 0xFFFFFFFF ∧
      ioCheck s s.ce.nextId h (nsById s nsid) 0 0 true false noFlags = none ∧ mirroring s = false) ∧
    (∃ s : State, ∃ h : IoHdr, ∃ nsid, ∃ f, ∃ ns, ∃ rs : List (Nat × Nat), ∃ ad, Alive s ∧ ioOpen s h = true ∧ nsById s nsid = some ns ∧
      nsAt s ns.idx = some ns ∧ ioCheck s s.ce.nextId h (nsById s nsid) 0 (rs.foldl (fun m r => max m (r.1 + r.2)) 0) true false f = none ∧
      f.xferErr = false ∧ ((∀ r ∈ rs, wholeStripes s ns r.1 r.2 = []) ∨ ad = false)) ∧
    (∃ s : State, ∃ c : Ctx, ∃ n, ∃ e, c.op = .read ∧ ioCheck s c.id c.h n c.nlb (c.slba + c.nlb) false true c.flags = some e) :=
  ⟨⟨adm [que 0 0 0 0 false 0], ih, by decide, by decide⟩,
   ⟨adm [que 0 0 0 0 false 0], ih, by decide, by decide⟩,
   ⟨adm [que 0 0 0 0 false 0], ih, by decide, by decide⟩,
   ⟨adm [que 0 0 0 0 false 0], ih, by decide, by decide⟩,
   ⟨adm [que 0 0 0 0 false 0], ih, 0, 1, noFlags, _, _, by decide, by decide, rfl⟩,
   ⟨adm [que 0 0 0 0 false 0], ih, 0, [5], noFlags, _, _, by decide, by decide, rfl⟩,
   ⟨adm [que 0 0 0 0 false 0], ih, 1, _, _, by decide, by decide, rfl, by decide, by decide⟩,
   ⟨adm [que 0 0 0 0 false 0], ih, 9, _, _, stNs, by decide, by decide, rfl, by decide⟩,
   ⟨hit, ih, 1, 0, noFlags, ns1, 0#32896, by decide, by decide, by decide, ⟨by decide, by decide, by decide, by decide, by decide, by decide,
     by decide, rfl, .inr (by decide)⟩, by decide, by decide, by decide, by decide⟩,
   ⟨hit, ih, 1, 0, noFlags, ns1, 0#32896, by decide, by decide, by decide, ⟨by decide, by decide, by decide, by decide, by decide, by decide,
     by decide, rfl, .inr (by decide)⟩, by decide, by decide, by decide, by decide, by unfold NoneEarlier; decide⟩,
   ⟨page, ih, 1, 0, noFlags, ns1, by decide, by decide, by decide, by unfold PageReady; decide, by decide, by decide, by decide, by decide⟩,
   ⟨page, ih, 1, 0, noFlags, ns1, by decide, by decide, by decide, by unfold PageReady; decide, by decide, by decide, by decide, by decide,
     by unfold NoneEarlier; decide⟩,
   ⟨page, ih, 1, 0, noFlags, ns1, by decide, by decide, by decide, by unfold PageReady; decide, by decide, by decide, by decide, by decide⟩,
   ⟨adm [que 0 0 0 0 false 0], ih, 1, by decide, by decide, by decide, by decide, by decide⟩,
   ⟨adm [que 0 0 0 0 false 0], ih, 1, noFlags, ns1, [(0, 1)], false, by decide, by decide, by decide, by decide, by decide, by decide, .inr rfl⟩,
   ⟨arr, ctx 4 .lock, (none : Option Ns), stNs, by decide, by decide⟩⟩

theorem wit_FinishedCommandsComplete :
    (∃ c : Ctx, ∃ ns : Ns, ns.lbaf = 0 ∧ c.flags.xferErr = false) ∧
    (∃ s : State, ∃ ns : Ns, ∃ l, ∃ v, bskRead s ns.idx l = some v) ∧
    (∃ s : State, ∃ ns : Ns, ∃ l, bskRead s ns.idx l = none) :=
  ⟨⟨ctx 4 .member, ⟨1, 1, 1, 0, 0, 4, 128, 0⟩, by decide, by decide⟩,
   ⟨{ arr with bsk.extents := [⟨1, 0, 1, 0, 1, 0, false, 0, 0, [0], 0, true⟩] }, ⟨1, 1, 1, 0, 0, 4, 128, 0⟩, 0, 0, rfl⟩,
   ⟨arr, ⟨1, 1, 1, 0, 0, 4, 128, 0⟩, 0, by decide⟩⟩

theorem wit_WaitsEndInOrder :
    (∃ s : State, ∃ c, Alive s ∧ oldest s .basket = some c) ∧
    (∃ s : State, ∃ c, Alive s ∧ oldest s .spar = some c) ∧
    (∃ s : State, ∃ c, Alive s ∧ ringShort s = false ∧ s.ce.sops.filter (fun o => o.phase = .ring) = [] ∧
      s.ce.ctxs.filter (fun c => c.phase = .ring) = [c] ∧ ctxOf s c.id = some c ∧ c.phase = .ring) ∧
    (∃ s : State, Alive s ∧ ringShort s = true) ∧
    (∃ s : State, ∃ o : SOp, Alive s ∧ s.ce.sops.find? (fun o => o.phase = .save) = some o) ∧
    (∃ s : State, ∃ c, ∃ q, ∃ x, Alive s ∧ s.ce.ctxs.find? (fun x => x.h.ctrl = c && x.h.q = q && x.phase = .ordered) = some x ∧
      earlier s x = false) ∧
    (∃ s : State, ∃ c, ∃ q, ∃ x, Alive s ∧ s.ce.ctxs.find? (fun x => x.h.ctrl = c && x.h.q = q && x.phase = .ordered) = some x ∧ earlier s x = true) ∧
    (∃ s : State, ∃ e, ∃ q, ∃ c, ∃ t, Alive s ∧ s.env.allocQ = e :: q ∧ e.1 ≠ 0 ∧ ctxOf s e.1 = some c ∧ t = resume c { s with env.allocQ := [] } ∧
      ((∀ x, ctxOf t e.1 = some x → x.phase ≠ c.phase))) ∧
    (∃ s : State, ∃ e, ∃ q, ∃ c, Alive s ∧ s.env.evb.length < evbMax ∧ s.env.evbQ = e :: q ∧ e.1 ≠ 0 ∧
      s.env.evb.any (fun x => x.1 = e.2 && ¬ x.2) = false ∧ ctxOf s e.1 = some c ∧ ctxOf (resume c { s with env.evbQ := q }) e.1 = none) ∧
    (∃ s : State, ∃ idx, ∃ w, ∃ c, Alive s ∧ s.ce.locks.findSome? (fun e => (grantable e).map fun w => (e.idx, w)) = some (idx, w) ∧
      s.ce.sops.find? (fun o => sopOwner o.id = w.1) = none ∧ ctxOf s w.1 = some c ∧ c.need = [idx]) ∧
    (∃ s : State, ∃ c, ∃ ns, ∃ l, ∃ v, ∃ P : State → Prop, Alive s ∧ PageReady s ns l ∧ PartLeft s ns c l v ∧
      (P = fun t => bskRead t ns.idx l = some v ∧ Completed c.h stOk [] t) ∧ oldest s .basket = some c) ∧
    (∃ s : State, ∃ c, ∃ ns, ∃ l, ∃ v, ∃ P : State → Prop, Alive s ∧ PageReady s ns l ∧ PartLeft s ns c l v ∧
      (P = fun t => bskRead t ns.idx l = some v ∧ Completed c.h stOk [] t) ∧ oldest s .spar = some c) ∧
    (∃ s : State, ∃ c, ∃ ns, ∃ l, ∃ v, ∃ P : State → Prop, Alive s ∧ PageReady s ns l ∧ PartLeft s ns c l v ∧
      (P = fun t => bskRead t ns.idx l = some v ∧ Completed c.h stOk [] t) ∧ s.ce.sops.filter (fun o => o.phase = .ring) = [] ∧
      s.ce.ctxs.filter (fun c => c.phase = .ring) = [c]) ∧
    (∃ s : State, ∃ c, ∃ ns, ∃ l, ∃ v, ∃ P : State → Prop, ∃ k, Alive s ∧ PageReady s ns l ∧ PartLeft s ns c l v ∧
      (P = fun t => bskRead t ns.idx l = some v ∧ Completed c.h stOk [] t) ∧ s.env.allocQ = [(c.id, k)] ∧ c.id ≠ 0 ∧ c.phase = .alloc) ∧
    (∃ s : State, ∃ c, ∃ ns, ∃ l, ∃ v, ∃ P : State → Prop, ∃ k, Alive s ∧ PageReady s ns l ∧ PartLeft s ns c l v ∧
      (P = fun t => bskRead t ns.idx l = some v ∧ Completed c.h stOk [] t) ∧ s.env.evbQ = [(c.id, k)] ∧ s.env.evb.length < evbMax ∧
      s.env.evb.any (fun x => x.1 = k && ¬ x.2) = false ∧ c.id ≠ 0 ∧ c.phase = .evb) ∧
    (∃ s : State, ∃ o, ∃ addr, Alive s ∧ s.ce.sops.find? (fun o => o.phase = .save) = some o ∧ o.saveIdx ≠ [] ∧ s.bsk.clean = [] ∧
      freeRun s (o.saveIdx.length * o.cols) = some addr ∧ ringShort s = true) ∧
    (∃ s : State, ∃ x, ∃ ns, ∃ v, ∃ c, ∃ q, Alive s ∧ BlockCached s ns x.slba v ∧ x.op = .read ∧ x.nlb = 1 ∧ engineBusy s x.id = false ∧
      x.flags.xferErr = false ∧ s.ce.ctxs.find? (fun x => x.h.ctrl = c && x.h.q = q && x.phase = .ordered) = some x ∧ NoneEarlier s x.h x.id ∧
      nsAt s x.ns = some ns ∧ ioCheck s x.id x.h (some ns) 1 (x.slba + 1) false true x.flags = none ∧
      lockFree s ns.array (placeOf s ns x.slba).stripe = true ∧ x.erased = []) ∧
    (∃ s : State, ∃ x, ∃ ns, ∃ v, ∃ idx, ∃ w, Alive s ∧ BlockCached s ns x.slba v ∧ x.op = .read ∧ x.nlb = 1 ∧ engineBusy s x.id = false ∧
      x.flags.xferErr = false ∧ s.ce.locks.findSome? (fun e => (grantable e).map fun w => (e.idx, w)) = some (idx, w) ∧
      s.ce.sops.find? (fun o => sopOwner o.id = w.1) = none ∧ ctxOf s w.1 = some x ∧ x.need = [idx] ∧ x.ns = ns.idx ∧ x.shared = true ∧
      x.erased = []) :=
  ⟨⟨oneCtx .basket, ctx 4 .basket, by decide, by decide⟩,
   ⟨oneCtx .spar, ctx 4 .spar, by decide, by decide⟩,
   ⟨oneCtx .ring, ctx 4 .ring, by decide, by decide, by decide, by decide, by decide, by decide⟩,
   ⟨{ arr.wr R.GON_RING_CFG_RING_LOW 0x3FFFF with nv.ring := [] }, by decide, by decide⟩,
   ⟨{ arr with ce.sops := [⟨3, 0, .rmw, 0, 0, 0, 1, 1, 1, 0, 0, [], .save, [], [], [], 0, 0⟩] }, ⟨3, 0, .rmw, 0, 0, 0, 1, 1, 1, 0, 0, [], .save, [],
     [], [], 0, 0⟩, by decide, by decide⟩,
   ⟨oneCtx .ordered, 0, 1, ctx 4 .ordered, by decide, by decide, by decide⟩,
   ⟨{ adm [] with ce.ctxs := [ctx 2 .member, ctx 4 .ordered] }, 0, 1, ctx 4 .ordered, by decide, by decide, by decide⟩,
   ⟨{ oneCtx .alloc with env.allocQ := [(4, 9)], ns := [] }, (4, 9), [], ctx 4 .alloc, _, by decide, by decide, by decide, by decide, rfl,
     fun x h => nomatch h⟩,
   ⟨{ oneCtx .evb with env.evbQ := [(4, 9)], ns := [] }, (4, 9), [], ctx 4 .evb, by decide, by decide, by decide, by decide, by decide, by decide,
     by decide⟩,
   ⟨{ adm [] with ce.ctxs := [{ ctx 4 .lock with need := [7] }], ce.locks := [⟨7, [], [(4, false)]⟩] }, 7, (4, false),
     { ctx 4 .lock with need := [7] }, by decide, by decide, by decide, by decide, by decide⟩,
   ⟨{ page with ce.ctxs := [left .basket] }, left .basket, ns1, 0, 5#32896, _, by decide, by unfold PageReady; decide, ⟨rfl, rfl, rfl, rfl, rfl,
     rfl, rfl, rfl, rfl, rfl, rfl, rfl⟩, rfl, rfl⟩,
   ⟨{ page with ce.ctxs := [left .spar] }, left .spar, ns1, 0, 5#32896, _, by decide, by unfold PageReady; decide, ⟨rfl, rfl, rfl, rfl, rfl, rfl,
     rfl, rfl, rfl, rfl, rfl, rfl⟩, rfl, rfl⟩,
   ⟨{ page with ce.ctxs := [left .ring] }, left .ring, ns1, 0, 5#32896, _, by decide, by unfold PageReady; decide, ⟨rfl, rfl, rfl, rfl, rfl, rfl,
     rfl, rfl, rfl, rfl, rfl, rfl⟩, rfl, rfl, rfl⟩,
   ⟨{ page with ce.ctxs := [left .alloc], env.allocQ := [(4, 9)] }, left .alloc, ns1, 0, 5#32896, _, 9, by decide, by unfold PageReady; decide,
     ⟨rfl, rfl, rfl, rfl, rfl, rfl, rfl, rfl, rfl, rfl, rfl, rfl⟩, rfl, by decide, by decide, by decide⟩,
   ⟨{ page with ce.ctxs := [left .evb], env.evbQ := [(4, 9)] }, left .evb, ns1, 0, 5#32896, _, 9, by decide, by unfold PageReady; decide, ⟨rfl, rfl,
     rfl, rfl, rfl, rfl, rfl, rfl, rfl, rfl, rfl, rfl⟩, rfl, by decide, by decide, by decide, by decide, by decide⟩,
   ⟨{ page.wr R.GON_RING_CFG_RING_LOW 0x3FFFF with nv.ring := [], ce.sops := [⟨3, 0, .rmw, 0, 0, 0, 1, 1, 1, 0, 0, [0], .save, [], [], [], 0, 0⟩] },
     ⟨3, 0, .rmw, 0, 0, 0, 1, 1, 1, 0, 0, [0], .save, [], [], [], 0, 0⟩, 0, by decide, by decide, by decide, by decide, by decide, by decide⟩,
   ⟨{ hit with ce.ctxs := [ctx 4 .ordered] }, ctx 4 .ordered, ns1, 0#32896, 0, 1, by decide, ⟨by decide, by decide, by decide, by decide, by decide,
     by decide, by decide, rfl, .inr (by decide)⟩, by decide, by decide, by decide, by decide, by decide, by unfold NoneEarlier; decide, by decide,
     by decide, by decide, by decide⟩,
   ⟨{ hit with ce.ctxs := [{ ctx 4 .lock with need := [0], shared := true }], ce.locks := [⟨0, [], [(4, true)]⟩] },
     { ctx 4 .lock with need := [0], shared := true }, ns1, 0#32896, 0, (4, true), by decide, ⟨by decide, by decide, by decide, by decide,
     by decide, by decide, by decide, rfl, .inr (by decide)⟩, by decide, by decide, by decide, by decide, by decide, by decide, by decide,
     by decide, by decide, by decide, by decide⟩⟩

/-- After Dawn, with the Envelope's walk over. -/
def env : State := srv.wr R.ENV_STATUS_INIT 0

/-- The Envelope with a maintenance operation of this code running, by set and way. -/
def mnt (op : Nat) : State := { env with env.maint := some (op, 1, 1, 0, 0xFFFF0000), env.lines := [⟨3, 7, .dirty, 9, false, 0⟩] }

/-- A maintenance start for one key. -/
def go : Nat := 2 ^ 31 + 256

/-- A vault drive that passes its checks, holding the seals of dump 5. -/
def vlt : Vault := { Vault.absent with present := true, passes := true, sealSeq := 5, journalSeal := true, indexSeal := true }

/-- Two vault drives and dump 5 started. -/
def bal (st : Nat) : State :=
  { srv.wr R.BAL_STATUS_STATE st with ext.vaults := [vlt, vlt], nv.dumpStart := some (5, 0, 0), nv.armedSeq := 5 }

/-- Link 0 up, link 0's mailbox bank idle. -/
def bar : State := { srv with links := [⟨true, true, false, [], [7], [7], true⟩, HLink.down, HLink.down, HLink.down] }

/-- HP0 bifurcated. -/
def bifu : State := bar.wr (R.HPT_Pn_CFG_BIF 0) 1

/-- The drive on port 0 is being brought up, in a phase. -/
def cm (p : Nat) : State := { srv with ext.coming := [⟨0, p, drv 1⟩] }

theorem wit_EnvelopeLinesComeAndGo :
    (∃ s : State, ∃ k : Nat, ∃ e : Nat × Bool, ∃ q : List (Nat × Bool), Alive s ∧
      takeFirst (fun e : Nat × Bool => e.1 = k && ¬ e.2) s.env.evb = some (e, q)) ∧
    (∃ s : State, ∃ k : Nat, ∃ e : Nat × Bool, ∃ q : List (Nat × Bool), ∃ u : State, Alive s ∧
      takeFirst (fun e : Nat × Bool => e.1 = k && e.2) s.env.evb = some (e, q) ∧ u = { s with env.evb := q } ∧ acceptsOffer u k = false) ∧
    (∃ s : State, ∃ k : Nat, ∃ e : Nat × Bool, ∃ q : List (Nat × Bool), ∃ u : State, ∃ p, Alive s ∧
      takeFirst (fun e : Nat × Bool => e.1 = k && e.2) s.env.evb = some (e, q) ∧ u = { s with env.evb := q } ∧ acceptsOffer u k = true ∧
      freeRun u 1 = some p) ∧
    (∃ s : State, ∃ k : Nat, ∃ l : SkirtLine, Alive s ∧ s.env.skirt.find? (fun l => l.key = k && ¬ l.filled) = some l ∧ l.valid = true) ∧
    (∃ s : State, ∃ k : Nat, ∃ l : SkirtLine, Alive s ∧ s.env.skirt.find? (fun l => l.key = k && ¬ l.filled) = some l ∧ l.valid = false) ∧
    (∃ s : State, Alive s) ∧
    (∃ s : State, Alive s) ∧
    (∃ s : State, ∃ u : State, Alive s ∧ u = (s.incSat R.ENV_ECC_UE).raise R.ENV_INT_STATUS_ECC_UE) ∧
    (∃ s : State, ∃ u : State, ∃ i, ∃ c : Ctx, Alive s ∧ u = (s.incSat R.ENV_ECC_UE).raise R.ENV_INT_STATUS_ECC_UE ∧ ctxOf s i = some c ∧
      c.op ≠ .read ∧ (∀ o ∈ s.ce.sops, o.owner ≠ c.id) ∧ c.seqs = []) ∧
    (∃ s : State, ∃ u : State, Alive s ∧ u = (s.incSat R.ENV_ECC_UE).raise R.ENV_INT_STATUS_ECC_UE) :=
  ⟨⟨{ env with env.evb := [(9, false), (9, true)] }, 9, (9, false), [(9, true)], by decide, by decide⟩,
   ⟨{ env with env.evb := [(9, false), (9, true)] }, 9, (9, true), [(9, false)], _, by decide, by decide, rfl, by decide⟩,
   ⟨{ arr.wr R.BSK_STATUS_MODE 1 with bsk.w := 10000000, env.evb := [(262144, true)] }, 262144, (262144, true), [], _, 0, by decide, by decide, rfl,
     by decide, by decide⟩,
   ⟨{ env with env.skirt := [⟨9, false, true⟩] }, 9, ⟨9, false, true⟩, by decide, by decide, by decide⟩,
   ⟨{ env with env.skirt := [⟨9, false, false⟩] }, 9, ⟨9, false, false⟩, by decide, by decide, by decide⟩,
   ⟨srv, by decide⟩,
   ⟨srv, by decide⟩,
   ⟨srv, _, by decide, rfl⟩,
   ⟨{ oneCtx .member with ce.ctxs := [{ ctx 4 .member with op := .flush }] }, _, 4, { ctx 4 .member with op := .flush }, by decide, rfl, by decide,
     by decide, by decide, by decide⟩,
   ⟨srv, _, by decide, rfl⟩⟩

theorem wit_EnvelopeIsMaintained :
    (∃ s : State, ∃ op : Nat, ∃ v, ∃ u : State, ∃ c, ∃ w : State, Alive s ∧ bit v 31 = true ∧
      u = State.wr ((((s.wr R.ENV_MAINT_OP op).wr R.ENV_MAINT_FORM (bits v 4 1)).wr R.ENV_MAINT_ALL_SETS (bits v 5 1)).wr R.ENV_MAINT_COUNT (bits v 8 17)) R.ENV_STATUS_MAINT_BUSY 1 ∧ maintRefusal s op (bits v 4 1) (bits v 8 17) = some c ∧ w = s.wr R.ENV_STATUS_LAST_ERR c ∧ op = 0) ∧
    (∃ s : State, ∃ op : Nat, ∃ v, ∃ u : State, ∃ c, ∃ w : State, Alive s ∧ bit v 31 = true ∧
      u = State.wr ((((s.wr R.ENV_MAINT_OP op).wr R.ENV_MAINT_FORM (bits v 4 1)).wr R.ENV_MAINT_ALL_SETS (bits v 5 1)).wr R.ENV_MAINT_COUNT (bits v 8 17)) R.ENV_STATUS_MAINT_BUSY 1 ∧ maintRefusal s op (bits v 4 1) (bits v 8 17) = some c ∧ w = s.wr R.ENV_STATUS_LAST_ERR c ∧ op = 1) ∧
    (∃ s : State, ∃ op : Nat, ∃ v, ∃ u : State, ∃ c, ∃ w : State, Alive s ∧ bit v 31 = true ∧
      u = State.wr ((((s.wr R.ENV_MAINT_OP op).wr R.ENV_MAINT_FORM (bits v 4 1)).wr R.ENV_MAINT_ALL_SETS (bits v 5 1)).wr R.ENV_MAINT_COUNT (bits v 8 17)) R.ENV_STATUS_MAINT_BUSY 1 ∧ maintRefusal s op (bits v 4 1) (bits v 8 17) = some c ∧ w = s.wr R.ENV_STATUS_LAST_ERR c ∧ op = 2) ∧
    (∃ s : State, ∃ op : Nat, ∃ v, ∃ u : State, ∃ c, ∃ w : State, Alive s ∧ bit v 31 = true ∧
      u = State.wr ((((s.wr R.ENV_MAINT_OP op).wr R.ENV_MAINT_FORM (bits v 4 1)).wr R.ENV_MAINT_ALL_SETS (bits v 5 1)).wr R.ENV_MAINT_COUNT (bits v 8 17)) R.ENV_STATUS_MAINT_BUSY 1 ∧ maintRefusal s op (bits v 4 1) (bits v 8 17) = some c ∧ w = s.wr R.ENV_STATUS_LAST_ERR c ∧ op = 3) ∧
    (∃ s : State, ∃ op : Nat, ∃ v, ∃ u : State, ∃ c, ∃ w : State, Alive s ∧ bit v 31 = true ∧
      u = State.wr ((((s.wr R.ENV_MAINT_OP op).wr R.ENV_MAINT_FORM (bits v 4 1)).wr R.ENV_MAINT_ALL_SETS (bits v 5 1)).wr R.ENV_MAINT_COUNT (bits v 8 17)) R.ENV_STATUS_MAINT_BUSY 1 ∧ maintRefusal s op (bits v 4 1) (bits v 8 17) = some c ∧ w = s.wr R.ENV_STATUS_LAST_ERR c ∧ op = 4) ∧
    (∃ s : State, ∃ op : Nat, ∃ v, ∃ u : State, ∃ w : State, Alive s ∧ bit v 31 = true ∧
      u = State.wr ((((s.wr R.ENV_MAINT_OP op).wr R.ENV_MAINT_FORM (bits v 4 1)).wr R.ENV_MAINT_ALL_SETS (bits v 5 1)).wr R.ENV_MAINT_COUNT (bits v 8 17)) R.ENV_STATUS_MAINT_BUSY 1 ∧ maintRefusal s op (bits v 4 1) (bits v 8 17) = none ∧ w = { u with env.maint := some (op, bits v 4 1, bits v 5 1, bits v 8 17, maintKey u) } ∧ op = 0) ∧
    (∃ s : State, ∃ op : Nat, ∃ v, ∃ u : State, ∃ w : State, Alive s ∧ bit v 31 = true ∧
      u = State.wr ((((s.wr R.ENV_MAINT_OP op).wr R.ENV_MAINT_FORM (bits v 4 1)).wr R.ENV_MAINT_ALL_SETS (bits v 5 1)).wr R.ENV_MAINT_COUNT (bits v 8 17)) R.ENV_STATUS_MAINT_BUSY 1 ∧ maintRefusal s op (bits v 4 1) (bits v 8 17) = none ∧ w = { u with env.maint := some (op, bits v 4 1, bits v 5 1, bits v 8 17, maintKey u) } ∧ op = 1) ∧
    (∃ s : State, ∃ op : Nat, ∃ v, ∃ u : State, ∃ w : State, Alive s ∧ bit v 31 = true ∧
      u = State.wr ((((s.wr R.ENV_MAINT_OP op).wr R.ENV_MAINT_FORM (bits v 4 1)).wr R.ENV_MAINT_ALL_SETS (bits v 5 1)).wr R.ENV_MAINT_COUNT (bits v 8 17)) R.ENV_STATUS_MAINT_BUSY 1 ∧ maintRefusal s op (bits v 4 1) (bits v 8 17) = none ∧ w = { u with env.maint := some (op, bits v 4 1, bits v 5 1, bits v 8 17, maintKey u) } ∧ op = 2) ∧
    (∃ s : State, ∃ op : Nat, ∃ v, ∃ u : State, ∃ w : State, Alive s ∧ bit v 31 = true ∧
      u = State.wr ((((s.wr R.ENV_MAINT_OP op).wr R.ENV_MAINT_FORM (bits v 4 1)).wr R.ENV_MAINT_ALL_SETS (bits v 5 1)).wr R.ENV_MAINT_COUNT (bits v 8 17)) R.ENV_STATUS_MAINT_BUSY 1 ∧ maintRefusal s op (bits v 4 1) (bits v 8 17) = none ∧ w = { u with env.maint := some (op, bits v 4 1, bits v 5 1, bits v 8 17, maintKey u) } ∧ op = 3) ∧
    (∃ s : State, ∃ op : Nat, ∃ v, ∃ u : State, ∃ w : State, Alive s ∧ bit v 31 = true ∧
      u = State.wr ((((s.wr R.ENV_MAINT_OP op).wr R.ENV_MAINT_FORM (bits v 4 1)).wr R.ENV_MAINT_ALL_SETS (bits v 5 1)).wr R.ENV_MAINT_COUNT (bits v 8 17)) R.ENV_STATUS_MAINT_BUSY 1 ∧ maintRefusal s op (bits v 4 1) (bits v 8 17) = none ∧ w = { u with env.maint := some (op, bits v 4 1, bits v 5 1, bits v 8 17, maintKey u) } ∧ op = 4) ∧
    (∃ s : State, ∃ op : Nat, ∃ v, ∃ w : State, Alive s ∧ bit v 31 = false ∧ bits v 4 1 = 0 ∧ (bits v 8 17 = 0 ∨ 65536 < bits v 8 17) ∧
      w = s.wr R.ENV_STATUS_LAST_ERR eRange ∧ op = 0) ∧
    (∃ s : State, ∃ op : Nat, ∃ v, ∃ w : State, Alive s ∧ bit v 31 = false ∧ bits v 4 1 = 0 ∧ (bits v 8 17 = 0 ∨ 65536 < bits v 8 17) ∧
      w = s.wr R.ENV_STATUS_LAST_ERR eRange ∧ op = 1) ∧
    (∃ s : State, ∃ op : Nat, ∃ v, ∃ w : State, Alive s ∧ bit v 31 = false ∧ bits v 4 1 = 0 ∧ (bits v 8 17 = 0 ∨ 65536 < bits v 8 17) ∧
      w = s.wr R.ENV_STATUS_LAST_ERR eRange ∧ op = 2) ∧
    (∃ s : State, ∃ op : Nat, ∃ v, ∃ w : State, Alive s ∧ bit v 31 = false ∧ bits v 4 1 = 0 ∧ (bits v 8 17 = 0 ∨ 65536 < bits v 8 17) ∧
      w = s.wr R.ENV_STATUS_LAST_ERR eRange ∧ op = 3) ∧
    (∃ s : State, ∃ op : Nat, ∃ v, ∃ w : State, Alive s ∧ bit v 31 = false ∧ bits v 4 1 = 0 ∧ (bits v 8 17 = 0 ∨ 65536 < bits v 8 17) ∧
      w = s.wr R.ENV_STATUS_LAST_ERR eRange ∧ op = 4) ∧
    (∃ s : State, ∃ op : Nat, ∃ v, ∃ w : State, Alive s ∧ bit v 31 = false ∧ (bits v 4 1 = 1 ∨ (1 ≤ bits v 8 17 ∧ bits v 8 17 ≤ 65536)) ∧
      w = (((s.wr R.ENV_MAINT_OP op).wr R.ENV_MAINT_FORM (bits v 4 1)).wr R.ENV_MAINT_ALL_SETS (bits v 5 1)).wr R.ENV_MAINT_COUNT (bits v 8 17) ∧
      op = 0) ∧
    (∃ s : State, ∃ op : Nat, ∃ v, ∃ w : State, Alive s ∧ bit v 31 = false ∧ (bits v 4 1 = 1 ∨ (1 ≤ bits v 8 17 ∧ bits v 8 17 ≤ 65536)) ∧
      w = (((s.wr R.ENV_MAINT_OP op).wr R.ENV_MAINT_FORM (bits v 4 1)).wr R.ENV_MAINT_ALL_SETS (bits v 5 1)).wr R.ENV_MAINT_COUNT (bits v 8 17) ∧
      op = 1) ∧
    (∃ s : State, ∃ op : Nat, ∃ v, ∃ w : State, Alive s ∧ bit v 31 = false ∧ (bits v 4 1 = 1 ∨ (1 ≤ bits v 8 17 ∧ bits v 8 17 ≤ 65536)) ∧
      w = (((s.wr R.ENV_MAINT_OP op).wr R.ENV_MAINT_FORM (bits v 4 1)).wr R.ENV_MAINT_ALL_SETS (bits v 5 1)).wr R.ENV_MAINT_COUNT (bits v 8 17) ∧
      op = 2) ∧
    (∃ s : State, ∃ op : Nat, ∃ v, ∃ w : State, Alive s ∧ bit v 31 = false ∧ (bits v 4 1 = 1 ∨ (1 ≤ bits v 8 17 ∧ bits v 8 17 ≤ 65536)) ∧
      w = (((s.wr R.ENV_MAINT_OP op).wr R.ENV_MAINT_FORM (bits v 4 1)).wr R.ENV_MAINT_ALL_SETS (bits v 5 1)).wr R.ENV_MAINT_COUNT (bits v 8 17) ∧
      op = 3) ∧
    (∃ s : State, ∃ op : Nat, ∃ v, ∃ w : State, Alive s ∧ bit v 31 = false ∧ (bits v 4 1 = 1 ∨ (1 ≤ bits v 8 17 ∧ bits v 8 17 ≤ 65536)) ∧
      w = (((s.wr R.ENV_MAINT_OP op).wr R.ENV_MAINT_FORM (bits v 4 1)).wr R.ENV_MAINT_ALL_SETS (bits v 5 1)).wr R.ENV_MAINT_COUNT (bits v 8 17) ∧
      op = 4) ∧
    (∃ s : State, ∃ op : Nat, ∃ form, ∃ count, op < 5 ∧ 1 ≤ count ∧ count ≤ 65536 ∧ form = 0 ∧ maintKey s / 2 ^ 62 = 0 ∧
      maintKey s / 2 ^ 40 = (maintKey s + count - 1) / 2 ^ 40 ∧ ((op = 3 → s.on R.ENV_STATUS_SCRATCH = false)) ∧
      ((op = 4 → s.on R.ENV_STATUS_SCRATCH = true))) ∧
    (∃ s : State, ∃ op : Nat, ∃ form, ∃ all, ∃ count, ∃ k, ∃ cov : Line → Bool, ∃ u : State, Alive s ∧ s.env.maint = some (op, form, all, count, k) ∧
      cov = maintCovers form all count k ∧
      u = envClean cov (maintCount (s.env.lines.filter fun l => cov l && l.st = .dirty).length (s.env.lines.filter fun l => cov l && l.st.busy).length s) ∧ op = 0) ∧
    (∃ s : State, ∃ op : Nat, ∃ form, ∃ all, ∃ count, ∃ k, ∃ cov : Line → Bool, ∃ u : State, Alive s ∧ s.env.maint = some (op, form, all, count, k) ∧
      cov = maintCovers form all count k ∧
      u = envClean cov (maintCount (s.env.lines.filter fun l => cov l && l.st = .dirty).length (s.env.lines.filter fun l => cov l && l.st.busy).length s) ∧ op = 3 ∧ (∀ l ∈ s.env.lines, l.way < 8)) ∧
    (∃ s : State, ∃ op : Nat, ∃ form, ∃ all, ∃ count, ∃ k, ∃ cov : Line → Bool, ∃ u : State, Alive s ∧ s.env.maint = some (op, form, all, count, k) ∧
      cov = maintCovers form all count k ∧
      u = envClean cov (maintCount (s.env.lines.filter fun l => cov l && l.st = .dirty).length (s.env.lines.filter fun l => cov l && l.st.busy).length s) ∧ op = 4) ∧
    (∃ s : State, ∃ op : Nat, ∃ form, ∃ all, ∃ count, ∃ k, ∃ cov : Line → Bool, ∃ u : State, Alive s ∧ s.env.maint = some (op, form, all, count, k) ∧
      cov = maintCovers form all count k ∧
      u = envClean cov (maintCount (s.env.lines.filter fun l => cov l && l.st = .dirty).length (s.env.lines.filter fun l => cov l && l.st.busy).length s) ∧ (op = 1 ∨ op = 2)) ∧
    (∃ s : State, Alive s ∧ scratchMapped s = true) ∧
    (∃ s : State, Alive s ∧ scratchMapped s = false) ∧
    (∃ off, ∃ bytes : List Nat, (∀ b ∈ bytes, b < 256) ∧ off + bytes.length ≤ scratchSize) ∧
    (∃ s : State, Alive s ∧ s.on R.ENV_STATUS_MAINT_BUSY = true) ∧
    (∃ s : State, ∃ v, Alive s ∧ s.on R.ENV_STATUS_MAINT_BUSY = false ∧ s.rd R.ENV_STATUS_MODE = 0 ∧ bit v 0 = true ∧ bit v 1 = false ∧
      dirtyLines s ≠ 0) ∧
    (∃ s : State, ∃ v, Alive s ∧ s.on R.ENV_STATUS_MAINT_BUSY = false ∧ s.rd R.ENV_STATUS_MODE = 0 ∧ bit v 0 = true ∧ bit v 1 = false ∧
      dirtyLines s = 0) ∧
    (∃ s : State, ∃ v, Alive s ∧ s.on R.ENV_STATUS_MAINT_BUSY = false ∧ s.rd R.ENV_STATUS_MODE = 0 ∧ bit v 0 = true ∧ bit v 1 = true) ∧
    (∃ s : State, ∃ v, Alive s ∧ s.on R.ENV_STATUS_MAINT_BUSY = false ∧ s.rd R.ENV_STATUS_MODE = 1 ∧ bit v 0 = false) ∧
    (∃ s : State, ∃ v, Alive s ∧ s.on R.ENV_STATUS_MAINT_BUSY = false ∧ s.rd R.ENV_STATUS_MODE = 2 ∧ bit v 0 = false) ∧
    (∃ s : State, ∃ v, Alive s ∧ s.on R.ENV_STATUS_MAINT_BUSY = false ∧ s.rd R.ENV_STATUS_MODE = 2 ∧ bit v 0 = true) ∧
    (∃ s : State, Alive s ∧ s.rd R.ENV_STATUS_MODE = 1) :=
  ⟨⟨env.wr R.ENV_STATUS_MAINT_BUSY 1, _, go, _, eBusy, _, by decide, by decide, rfl, by decide, rfl, rfl⟩,
   ⟨env.wr R.ENV_STATUS_MAINT_BUSY 1, _, go, _, eBusy, _, by decide, by decide, rfl, by decide, rfl, rfl⟩,
   ⟨env.wr R.ENV_STATUS_MAINT_BUSY 1, _, go, _, eBusy, _, by decide, by decide, rfl, by decide, rfl, rfl⟩,
   ⟨(env.wr R.ENV_STATUS_SCRATCH 1), _, go, _, eState, _, by decide, by decide, rfl, by decide, rfl, rfl⟩,
   ⟨env, _, go, _, eState, _, by decide, by decide, rfl, by decide, rfl, rfl⟩,
   ⟨env, _, go, _, _, by decide, by decide, rfl, by decide, rfl, rfl⟩,
   ⟨env, _, go, _, _, by decide, by decide, rfl, by decide, rfl, rfl⟩,
   ⟨env, _, go, _, _, by decide, by decide, rfl, by decide, rfl, rfl⟩,
   ⟨env, _, go, _, _, by decide, by decide, rfl, by decide, rfl, rfl⟩,
   ⟨(env.wr R.ENV_STATUS_SCRATCH 1), _, go, _, _, by decide, by decide, rfl, by decide, rfl, rfl⟩,
   ⟨env, _, 0, _, by decide, by decide, by decide, by decide, rfl, rfl⟩,
   ⟨env, _, 0, _, by decide, by decide, by decide, by decide, rfl, rfl⟩,
   ⟨env, _, 0, _, by decide, by decide, by decide, by decide, rfl, rfl⟩,
   ⟨env, _, 0, _, by decide, by decide, by decide, by decide, rfl, rfl⟩,
   ⟨env, _, 0, _, by decide, by decide, by decide, by decide, rfl, rfl⟩,
   ⟨env, _, 256, _, by decide, by decide, by decide, rfl, rfl⟩,
   ⟨env, _, 256, _, by decide, by decide, by decide, rfl, rfl⟩,
   ⟨env, _, 256, _, by decide, by decide, by decide, rfl, rfl⟩,
   ⟨env, _, 256, _, by decide, by decide, by decide, rfl, rfl⟩,
   ⟨env, _, 256, _, by decide, by decide, by decide, rfl, rfl⟩,
   ⟨env, 2, _, 65536, by decide, by decide, by decide, rfl, by decide, by decide, by decide, by decide⟩,
   ⟨mnt 0, _, 1, 1, 0, 0xFFFF0000, _, _, by decide, by decide, rfl, rfl, rfl⟩,
   ⟨mnt 3, _, 1, 1, 0, 0xFFFF0000, _, _, by decide, by decide, rfl, rfl, rfl, by decide⟩,
   ⟨mnt 4, _, 1, 1, 0, 0xFFFF0000, _, _, by decide, by decide, rfl, rfl, rfl⟩,
   ⟨mnt 1, 1, 1, 1, 0, 0xFFFF0000, _, _, by decide, by decide, rfl, rfl, by decide⟩,
   ⟨env.wr R.ENV_STATUS_SCRATCH 1, by decide, by decide⟩,
   ⟨env, by decide, by decide⟩,
   ⟨33554430, [255, 0], by decide, by decide⟩,
   ⟨env.wr R.ENV_STATUS_MAINT_BUSY 1, by decide, by decide⟩,
   ⟨{ env with env.lines := [⟨3, 7, .dirty, 9, false, 0⟩] }, 1, by decide, by decide, by decide, by decide, by decide, by decide⟩,
   ⟨env, 1, by decide, by decide, by decide, by decide, by decide, by decide⟩,
   ⟨env, 3, by decide, by decide, by decide, by decide, by decide⟩,
   ⟨env.wr R.ENV_STATUS_MODE 1, 2, by decide, by decide, by decide, by decide⟩,
   ⟨env.wr R.ENV_STATUS_MODE 2, 2, by decide, by decide, by decide, by decide⟩,
   ⟨env.wr R.ENV_STATUS_MODE 2, 1, by decide, by decide, by decide, by decide⟩,
   ⟨env.wr R.ENV_STATUS_MODE 1, by decide, by decide⟩⟩

theorem wit_BasketErrorsAreHandled :
    (∃ s : State, ∃ c, ∃ l, ∃ u : State, ∃ ls : List (Nat × Nat × Nat), Alive s ∧
      u = ((s.incSat R.BSK_ECC_CE).incSat (R.BSK_CHc_CE c)).raise R.BSK_INT_STATUS_ECC_CE ∧
      ls = (s.bsk.laneCe.filter fun x => decide (s.tet.epoch < x.2.2 + 15625)) ++ [(c, l, s.tet.epoch)] ∧
      ((ls.filter fun x => x.1 = c && x.2.1 = l).length < 8 ∨ s.rd (R.BSK_CHc_LANE c) = l)) ∧
    (∃ s : State, ∃ c, ∃ l, ∃ u : State, ∃ ls : List (Nat × Nat × Nat), Alive s ∧
      u = ((s.incSat R.BSK_ECC_CE).incSat (R.BSK_CHc_CE c)).raise R.BSK_INT_STATUS_ECC_CE ∧
      ls = (s.bsk.laneCe.filter fun x => decide (s.tet.epoch < x.2.2 + 15625)) ++ [(c, l, s.tet.epoch)] ∧
      8 ≤ (ls.filter fun x => x.1 = c && x.2.1 = l).length ∧ s.rd (R.BSK_CHc_LANE c) = 127 ∧ l ≠ 127) ∧
    (∃ s : State, ∃ c, ∃ l, ∃ u : State, ∃ ls : List (Nat × Nat × Nat), Alive s ∧
      u = ((s.incSat R.BSK_ECC_CE).incSat (R.BSK_CHc_CE c)).raise R.BSK_INT_STATUS_ECC_CE ∧
      ls = (s.bsk.laneCe.filter fun x => decide (s.tet.epoch < x.2.2 + 15625)) ++ [(c, l, s.tet.epoch)] ∧
      8 ≤ (ls.filter fun x => x.1 = c && x.2.1 = l).length ∧ s.rd (R.BSK_CHc_LANE c) ≠ 127 ∧ s.rd (R.BSK_CHc_LANE c) ≠ l) ∧
    (∃ s : State, ∃ c, ∃ p, ∃ b : Bool, ∃ k, ∃ us : List (Nat × Nat), ∃ u : State, Alive s ∧
      k = (if b then EccKind.uncorrectableBothIndex else EccKind.uncorrectable) ∧
      us = (s.bsk.chanUe.filter fun x => decide (s.tet.epoch < x.2 + 15625)) ++ [(c, s.tet.epoch)] ∧
      u = (((((s.incSat R.BSK_ECC_UE).raise R.BSK_INT_STATUS_ECC_UE).wr R.BSK_UE_ADDR_PAGE p).wr R.BSK_UE_ADDR_CHANNEL c).wr R.BSK_UE_ADDR_REGION (pageRegion s p)).wr R.BSK_UE_ADDR_VALID 1 ∧ (us.filter fun x => x.1 = c).length < 16) ∧
    (∃ s : State, ∃ c, ∃ p, ∃ b : Bool, ∃ k, ∃ us : List (Nat × Nat), ∃ u : State, Alive s ∧
      k = (if b then EccKind.uncorrectableBothIndex else EccKind.uncorrectable) ∧
      us = (s.bsk.chanUe.filter fun x => decide (s.tet.epoch < x.2 + 15625)) ++ [(c, s.tet.epoch)] ∧
      u = (((((s.incSat R.BSK_ECC_UE).raise R.BSK_INT_STATUS_ECC_UE).wr R.BSK_UE_ADDR_PAGE p).wr R.BSK_UE_ADDR_CHANNEL c).wr R.BSK_UE_ADDR_REGION (pageRegion s p)).wr R.BSK_UE_ADDR_VALID 1 ∧ 16 ≤ (us.filter fun x => x.1 = c).length) ∧
    (∃ s : State, ∃ c, ∃ p, ∃ b : Bool, ∃ k, ∃ us : List (Nat × Nat), ∃ u : State, Alive s ∧
      k = (if b then EccKind.uncorrectableBothIndex else EccKind.uncorrectable) ∧
      us = (s.bsk.chanUe.filter fun x => decide (s.tet.epoch < x.2 + 15625)) ++ [(c, s.tet.epoch)] ∧
      u = (((((s.incSat R.BSK_ECC_UE).raise R.BSK_INT_STATUS_ECC_UE).wr R.BSK_UE_ADDR_PAGE p).wr R.BSK_UE_ADDR_CHANNEL c).wr R.BSK_UE_ADDR_REGION (pageRegion s p)).wr R.BSK_UE_ADDR_VALID 1 ∧ b = false ∧ (us.filter fun x => x.1 = c).length < 16) ∧
    (∃ s : State, Alive s) ∧
    (∃ s : State, ∃ p, ∃ u : State,
      u = (if s.bsk.clean.any (fun c => c.2.1 = p) then pagesGone p 1 { s with bsk.clean := s.bsk.clean.filter fun c => c.2.1 ≠ p } else s)) ∧
    (∃ s : State, ∃ c, s.on (R.BSK_CHc_FAILED c) = false ∧ s.ready = false ∧ s.rd R.BAL_STATUS_STATE ≠ 1) ∧
    (∃ s : State, Alive s) ∧
    (∃ s : State, Alive s ∧ s.bsk.scrubbing = true) ∧
    (∃ s : State, Alive s ∧ s.bsk.scrubbing = false) ∧
    (∃ s : State, Alive s ∧ s.bsk.selfRefresh = false) :=
  ⟨⟨srv, 3, 5, _, _, by decide, rfl, rfl, by decide⟩,
   ⟨{ srv with bsk.laneCe := List.replicate 7 (3, 5, 0) }, 3, 5, _, _, by decide, rfl, rfl, by decide, by decide, by decide⟩,
   ⟨{ srv.wr (R.BSK_CHc_LANE 3) 4 with bsk.laneCe := List.replicate 7 (3, 5, 0) }, 3, 5, _, _, by decide, rfl, rfl, by decide, by decide, by decide⟩,
   ⟨srv, 3, 7, false, _, _, _, by decide, rfl, rfl, rfl, by decide⟩,
   ⟨{ srv with bsk.chanUe := List.replicate 15 (3, 0) }, 3, 7, true, _, _, _, by decide, rfl, rfl, rfl, by decide⟩,
   ⟨srv, 3, 7, _, _, _, _, by decide, rfl, rfl, rfl, rfl, by decide⟩,
   ⟨srv, by decide⟩,
   ⟨srv, 3, _, rfl⟩,
   ⟨State.reset, 3, by decide, by decide, by decide⟩,
   ⟨srv, by decide⟩,
   ⟨{ srv with bsk.scrubbing := true }, by decide, by decide⟩,
   ⟨srv, by decide, by decide⟩,
   ⟨srv, by decide, by decide⟩⟩

theorem wit_BallastDumpsAndRestores :
    (∃ s : State, ∃ u : State, Alive s ∧ u = { nightAbortNow s with pwr.pfail := true } ∧ dumpDue u = false) ∧
    (∃ s : State, ∃ u : State, Alive s ∧ u = { nightAbortNow s with pwr.pfail := true } ∧ dumpDue u = true) ∧
    (∃ s : State, Alive s ∧ s.rd R.BAL_STATUS_STATE ≠ 2) ∧
    (∃ s : State, ∃ ms, ∃ q, ∃ e, ∃ n, Alive s ∧ s.rd R.BAL_STATUS_STATE = 2 ∧ vaultOk s 0 = true ∧ vaultOk s 1 = true ∧ s.pwr.given = [] ∧
      s.pwr.pendingRst = 0 ∧ s.nv.dumpStart = some (q, e, n) ∧ ms < 65536) ∧
    (∃ s : State, Alive s ∧ s.rd R.BAL_STATUS_STATE = 2 ∧ s.pwr.pendingRst = 0) ∧
    (∃ s : State, Alive s ∧ s.rd R.BAL_STATUS_STATE = 3) ∧
    (∃ s : State, Alive s ∧ s.rd R.BAL_STATUS_STATE ≠ 3) ∧
    (∃ s : State, ∃ n, ∃ u : State, Alive s ∧ n < 2 ∧ ((s.ext.vaults[n]?).map (·.present)).getD false = true ∧
      u = State.raise ((s.modVaults fun i v => if i = n then { v with present := false } else v).wr (if n = 0 then R.BAL_STATUS_VAULT0 else R.BAL_STATUS_VAULT1) 0) R.BAL_INT_STATUS_VAULT_ERR ∧ u.rd R.BAL_STATUS_STATE ≠ 2) ∧
    (∃ s : State, ∃ n, ∃ u : State, Alive s ∧ n < 2 ∧ ((s.ext.vaults[n]?).map (·.present)).getD false = true ∧
      u = State.raise ((s.modVaults fun i v => if i = n then { v with present := false } else v).wr (if n = 0 then R.BAL_STATUS_VAULT0 else R.BAL_STATUS_VAULT1) 0) R.BAL_INT_STATUS_VAULT_ERR ∧ u.rd R.BAL_STATUS_STATE = 2 ∧ vaultOk u (1 - n) = true) ∧
    (∃ s : State, ∃ d : DumpFound, ∃ v : Vault, Alive s ∧ s.dwn.needsRestore = true ∧ 12 ≤ s.dwn.step ∧ s.dwn.step ≤ 16 ∧ dumpFound s = some d ∧
      restoreVault s d.seq = some v) ∧
    (∃ s : State, Alive s ∧ s.rd R.BAL_STATUS_STATE ≠ 5) ∧
    (∃ s : State, Alive s ∧ s.rd R.BAL_STATUS_STATE = 5) ∧
    (∃ s : State, s.ready = false ∧ s.rd R.BAL_STATUS_STATE = 1) :=
  ⟨⟨srv, _, by decide, rfl, by decide⟩,
   ⟨bal 1, _, by decide, rfl, by decide⟩,
   ⟨srv, by decide, by decide⟩,
   ⟨bal 2, 65535, 5, 0, 0, by decide, by decide, by decide, by decide, by decide, by decide, by decide, by decide⟩,
   ⟨bal 2, by decide, by decide, by decide⟩,
   ⟨bal 3, by decide, by decide⟩,
   ⟨srv, by decide, by decide⟩,
   ⟨bal 1, 1, _, by decide, by decide, by decide, rfl, by decide⟩,
   ⟨bal 2, 1, _, by decide, by decide, by decide, rfl, by decide, by decide⟩,
   ⟨{ (bal 4).wr R.GON_STATUS_MRAM_OK 1 with dwn.step := 16, dwn.needsRestore := true }, _, _, by decide, by decide, by decide, by decide, rfl, rfl⟩,
   ⟨srv, by decide, by decide⟩,
   ⟨bal 5, by decide, by decide⟩,
   ⟨State.reset.wr R.BAL_STATUS_STATE 1, by decide, by decide⟩⟩

theorem wit_ClrErrClearsLastErr :
    (∃ s : State, Alive s) ∧
    (∃ s : State, ∃ link, Alive s ∧ link < 4) ∧
    (∃ s : State, Alive s) :=
  ⟨⟨srv, by decide⟩,
   ⟨srv, 3, by decide, by decide⟩,
   ⟨srv, by decide⟩⟩

theorem wit_Bar0AccessesAreServed :
    (∃ s : State, ∃ link, ∃ off, Alive s ∧ barUp s link = true ∧ inBlock off = true ∧ windowOf off = 0 ∧ off % 4 = 0) ∧
    (∃ s : State, ∃ link, ∃ off, ∃ size, Alive s ∧ barUp s link = true ∧ inBlock off = true ∧ windowOf off = 0 ∧ 0 < size ∧ ((size < 4 ∨ size = 4 ∧
      off % 4 ≠ 0))) ∧
    (∃ s : State, ∃ link, ∃ off, ∃ size, Alive s ∧ barUp s link = true ∧ 0 < size ∧ inBlock off = false ∧ windowOf off = 0) ∧
    (∃ s : State, ∃ link, ∃ k, ∃ size, Alive s ∧ barUp s link = true ∧ 0 < size ∧ k + size ≤ 0x1000 ∧ s.rd (R.MBX_STATUS_BUSY link) = 0) ∧
    (∃ s : State, ∃ link, ∃ k, ∃ size, Alive s ∧ barUp s link = true ∧ 0 < size ∧ k + size ≤ 0x1000 ∧ s.rd (R.MBX_STATUS_BUSY link) = 1) ∧
    (∃ s : State, ∃ link, barUp s link = false) ∧
    (∃ s : State, ∃ link, Alive s ∧ barUp s link = true) ∧
    (∃ s : State, Alive s) ∧
    (∃ s : State, ∃ link, ∃ off, Alive s ∧ barUp s link = true ∧ windowOf off = 0 ∧ inBlock off = true ∧ off % 4 = 0) ∧
    (∃ s : State, ∃ link, ∃ off, ∃ k, Alive s ∧ barUp s link = true ∧ windowOf (off + k) = 0 ∧ inBlock (off + k) = true ∧ off % 4 = 0 ∧ k < 4 ∧
      windowOf off = 0 ∧ inBlock off = true) ∧
    (∃ off, latchedHi off = false ∧ latchedHi (off + 4) = true ∧ off ≠ 0x100010) :=
  ⟨⟨bar, 0, 0x10, by decide, by decide, by decide, by decide, by decide⟩,
   ⟨bar, 0, 0x11, 4, by decide, by decide, by decide, by decide, by decide, by decide⟩,
   ⟨bar, 0, 0x1000, 8, by decide, by decide, by decide, by decide, by decide⟩,
   ⟨bar, 0, 0, 0x1000, by decide, by decide, by decide, by decide, by decide⟩,
   ⟨bar.wr (R.MBX_STATUS_BUSY 0) 1, 0, 0xFFF, 1, by decide, by decide, by decide, by decide, by decide⟩,
   ⟨srv, 0, by decide⟩,
   ⟨bar, 0, by decide, by decide⟩,
   ⟨bar, by decide⟩,
   ⟨bar, 0, 0x10, by decide, by decide, by decide, by decide, by decide⟩,
   ⟨bar, 0, 0x10, 2, by decide, by decide, by decide, by decide, by decide, by decide, by decide, by decide⟩,
   ⟨0x100008, by decide, by decide, by decide⟩⟩

theorem wit_RegisterFieldsHoldTheirValues :
    (∃ f : Fld, ∃ v, v < 2 ^ f.w ∧ f.rst < 2 ^ f.w) ∧
    (∃ f : Fld, ∃ g : Fld, f.key ≠ g.key) ∧
    (∃ s : State, ∃ f : Fld, ∃ i, s.rd f < 2 ^ f.w ∧ i < f.w ∧ f.rst < 2 ^ f.w) ∧
    (∃ s : State, ∃ f : Fld, f.rst < 2 ^ f.w ∧ s.rd f < 2 ^ f.w) ∧
    (∃ s : State, ∃ n, Alive s ∧ n < intSources.length) :=
  ⟨⟨R.BSK_SCRUB_PASSES, 5, by decide, by decide⟩,
   ⟨R.BSK_SCRUB_PASSES, R.BSK_ECC_CE, by decide⟩,
   ⟨srv, R.ENV_INT_STATUS_ECC_UE, 0, by decide, by decide, by decide⟩,
   ⟨srv, R.ENV_ECC_CE, by decide, by decide⟩,
   ⟨srv, 24, by decide, by decide⟩⟩

theorem wit_LinksAndDrivesComeAndGo :
    (∃ s : State, ∃ l : Nat, ∃ v : Nat, ∃ x : HLink, Alive s ∧ s.links[l]? = some x ∧ x.up = true ∧ v < 64 ∧ x.msixEn = true ∧ v ∈ x.pend ∧
      v ∈ x.levels) ∧
    (∃ s : State, ∃ l : Nat, ∃ v : Nat, ∃ x : HLink, Alive s ∧ s.links[l]? = some x ∧ x.up = true ∧ v < 64 ∧ v ∉ x.pend) ∧
    (∃ s : State, ∃ l : Nat, Alive s ∧ barUp s l = true) ∧
    (∃ s : State, ∃ l : Nat, Alive s ∧ hostLinkExists s l = true) ∧
    (∃ s : State, ∃ l : Nat, ∃ speed, ∃ width, ∃ flit, ∃ n, ∃ full, ∃ u : State, Alive s ∧ hostLinkExists s l = true ∧ 3 ≤ s.dwn.step ∧
      groupDead s (l / 2) = false ∧ n = l / 2 ∧ full = (if s.on (R.HPT_Pn_CFG_BIF n) then 8 else 16) ∧
      u = (linkRegs l 1 speed width flit (s.modLink l fun x => { x with up := true })).raise (R.HPT_INT_STATUS_LINK_UP n) ∧ full ≤ width ∧
      s.rd (R.HPT_Pn_CFG_MAX_SPEED n) ≤ speed ∧ u.rd (R.HPT_Pn_CFG_MAX_SPEED n) = s.rd (R.HPT_Pn_CFG_MAX_SPEED n)) ∧
    (∃ s : State, ∃ l : Nat, ∃ speed, ∃ width, ∃ flit, ∃ n, ∃ full, ∃ u : State, Alive s ∧ hostLinkExists s l = true ∧ 3 ≤ s.dwn.step ∧
      groupDead s (l / 2) = false ∧ n = l / 2 ∧ full = (if s.on (R.HPT_Pn_CFG_BIF n) then 8 else 16) ∧
      u = (linkRegs l 1 speed width flit (s.modLink l fun x => { x with up := true })).raise (R.HPT_INT_STATUS_LINK_UP n) ∧ width < full) ∧
    (∃ s : State, ∃ l : Nat, ∃ u : State, Alive s ∧ hostLinkExists s l = true ∧ l % 2 = 1 ∧
      u = fn1Reset l (linkRegs l 0 0 0 false (s.modLink l fun x => { x with up := false }))) ∧
    (∃ s : State, ∃ l : Nat, ∃ u : State, ∃ k : LinkReset, Alive s ∧ hostLinkExists s l = true ∧ l % 2 = 1 ∧
      u = fn1Reset l (linkRegs l 0 0 0 false (s.modLink l fun x => { x with up := false })) ∧ (k = .linkDisable ∨ k = .linkDown)) ∧
    (∃ s : State, ∃ h : IoHdr, ∃ c : Ctx, ∃ u : State, Alive s ∧ h.ctrl < 2 ∧ s.ce.ctxs.find? (fun c => c.h = h) = some c ∧ c.sops = [] ∧
      c.seqs = [] ∧ u = finishCtx c (0, 4, false) [] ((s.incSat (R.HPT_Pn_ERR_UNCORR h.ctrl)).raise (R.HPT_INT_STATUS_UNCORR h.ctrl))) ∧
    (∃ s : State, ∃ p, ∃ sub, ∃ x : DriveDesc, subExists s p sub = true ∧ p < 32 ∧ comingAt s (drvNo p sub) = none ∧ driveAt s (drvNo p sub) = none ∧
      s.ext.loose.find? (fun y => y.desc.nguid = x.nguid) = none) ∧
    (∃ s : State, ∃ p, ∃ sub, ∃ c : Coming, Alive s ∧ comingAt s (drvNo p sub) = some c ∧ c.phase = 1) ∧
    (∃ s : State, ∃ p, ∃ sub, ∃ c : Coming, Alive s ∧ comingAt s (drvNo p sub) = some c ∧ c.phase = 2) ∧
    (∃ s : State, ∃ p, ∃ sub, ∃ c : Coming, Alive s ∧ comingAt s (drvNo p sub) = some c ∧ (c.phase = 3 ∨ c.phase = 4)) ∧
    (∃ s : State, ∃ p, ∃ sub, ∃ c : Coming, Alive s ∧ groupDead s (if p < 32 then 10 + p else p - 30) = false ∧ comingAt s (drvNo p sub) = some c ∧
      3 ≤ c.phase ∧ c.phase ≤ 5) ∧
    (∃ s : State, ∃ p, ∃ sub, ∃ c : Coming, ∃ d, ∃ u : State, Alive s ∧ p < 32 ∧ sub ≤ 1 ∧ d = drvNo p sub ∧ comingAt s d = some c ∧ c.phase = 6 ∧
      u = drvInt R.DRV_INT_ADD_PORTS d (State.wr (takeComing d { s with ext.drives := SMap.set none d (some c.drive) s.ext.drives }) (drvFld d 12 1) (b2n (! c.drive.desc.resvOk))) ∧ sparesOn ((takeComing d { s with ext.drives := SMap.set none d (some c.drive) s.ext.drives }).wr (drvFld d 12 1) (b2n (! c.drive.desc.resvOk))) d = [] ∧ (resvDrives u).contains d = false) ∧
    (∃ s : State, ∃ p, ∃ sub, ∃ c : Coming, Alive s ∧ (p = 32 ∨ p = 33) ∧ sub = 0 ∧ comingAt s (drvNo p sub) = some c ∧ c.phase = 6) ∧
    (∃ s : State, ∃ p, ∃ sub, Alive s ∧ p < 32 ∧ sub ≤ 1 ∧ subExists s p sub = true ∧ driveHeld s (drvNo p sub) = true) ∧
    (∃ s : State, ∃ p, ∃ sub, ∃ c : Coming, Alive s ∧ p < 32 ∧ subExists s p sub = true ∧ driveHeld s (drvNo p sub) = false ∧
      driveAt s (drvNo p sub) = none ∧ comingAt s (drvNo p sub) = some c) ∧
    (∃ s : State, ∃ p, ∃ sub, ∃ c : Coming, Alive s ∧ p < 32 ∧ subExists s p sub = true ∧ comingAt s (drvNo p sub) = some c ∧ 7 ≤ c.phase) ∧
    (∃ s : State, ∃ p, ∃ sub, Alive s ∧ p < 32 ∧ subExists s p sub = true ∧ comingAt s (drvNo p sub) = none ∧ driveAt s (drvNo p sub) = none) ∧
    (∃ s : State, ∃ p, ∃ sub, ∃ k : LinkEvent, ∃ x, Alive s ∧ p < 32 ∧ sub ≤ 1 ∧ comingAt s (drvNo p sub) = none ∧ driveAt s (drvNo p sub) = some x ∧
      k ≠ .correctable) ∧
    (∃ s : State, ∃ p, ∃ sub, ∃ x, Alive s ∧ p < 32 ∧ sub ≤ 1 ∧ comingAt s (drvNo p sub) = none ∧ driveAt s (drvNo p sub) = some x) ∧
    (∃ s : State, ∃ p, ∃ sub, ∃ x, Alive s ∧ p < 32 ∧ sub ≤ 1 ∧ driveAt s (drvNo p sub) = some x ∧ s.rd (drvFld (drvNo p sub) 2 1) = 0 ∧
      s.pwr.dumping = false) ∧
    (∃ s : State, ∃ p, ∃ sub, ∃ x, ∃ u, ∃ v, Alive s ∧ p < 32 ∧ sub ≤ 1 ∧ comingAt s (drvNo p sub) = none ∧ driveAt s (drvNo p sub) = some x ∧
      u = { unready (drvNo p sub) s with ext.loose := { x with resetting := false } :: s.ext.loose } ∧
      v = (if s.pwr.dumping then u else driveLost (drvNo p sub) 1 u)) ∧
    (∃ s : State, ∃ l, ∃ f, f ∈ linkAnswers s l) :=
  ⟨⟨bar, 0, 7, ⟨true, true, false, [], [7], [7], true⟩, by decide, by decide, by decide, by decide, by decide, by decide, by decide⟩,
   ⟨bar, 0, 63, ⟨true, true, false, [], [7], [7], true⟩, by decide, by decide, by decide, by decide, by decide⟩,
   ⟨bar, 0, by decide, by decide⟩,
   ⟨bifu, 1, by decide, by decide⟩,
   ⟨bifu, 1, 6, 8, true, _, _, _, by decide, by decide, by decide, by decide, rfl, rfl, rfl, by decide, by decide, by decide⟩,
   ⟨bifu, 1, 6, 4, true, _, _, _, by decide, by decide, by decide, by decide, rfl, rfl, rfl, by decide⟩,
   ⟨bifu, 1, _, by decide, by decide, by decide, rfl⟩,
   ⟨bifu, 1, _, .linkDown, by decide, by decide, by decide, rfl, by decide⟩,
   ⟨oneCtx .member, ih, ctx 4 .member, _, by decide, by decide, by decide, by decide, by decide, rfl⟩,
   ⟨srv, 31, 0, ⟨1, 300000, 0, true, true, true, true, 0⟩, by decide, by decide, by decide, by decide, by decide⟩,
   ⟨cm 1, 0, 0, ⟨0, 1, drv 1⟩, by decide, by decide, by decide⟩,
   ⟨cm 2, 0, 0, ⟨0, 2, drv 1⟩, by decide, by decide, by decide⟩,
   ⟨cm 4, 0, 0, ⟨0, 4, drv 1⟩, by decide, by decide, by decide⟩,
   ⟨cm 5, 0, 0, ⟨0, 5, drv 1⟩, by decide, by decide, by decide, by decide, by decide⟩,
   ⟨cm 6, 0, 0, ⟨0, 6, drv 1⟩, _, _, by decide, by decide, by decide, rfl, by decide, by decide, rfl, by decide, by decide⟩,
   ⟨{ srv with ext.coming := [⟨64, 6, drv 1⟩] }, 32, _, ⟨64, 6, drv 1⟩, by decide, by decide, rfl, by decide, by decide⟩,
   ⟨arr, 3, 0, by decide, by decide, by decide, by decide, by decide⟩,
   ⟨cm 3, 0, 0, ⟨0, 3, drv 1⟩, by decide, by decide, by decide, by decide, by decide, by decide⟩,
   ⟨cm 7, 0, 0, ⟨0, 7, drv 1⟩, by decide, by decide, by decide, by decide, by decide⟩,
   ⟨srv, 31, 0, by decide, by decide, by decide, by decide, by decide⟩,
   ⟨{ srv with ext.drives := [(0, some (drv 1))] }, 0, 0, .down, drv 1, by decide, by decide, by decide, by decide, by decide, by decide⟩,
   ⟨{ srv with ext.drives := [(0, some (drv 1))] }, 0, 0, drv 1, by decide, by decide, by decide, by decide, by decide⟩,
   ⟨{ srv with ext.drives := [(0, some (drv 1))] }, 0, 0, drv 1, by decide, by decide, by decide, by decide, by decide, by decide⟩,
   ⟨{ srv with ext.drives := [(0, some (drv 1))] }, 0, 0, drv 1, _, _, by decide, by decide, by decide, by decide, by decide, rfl, rfl⟩,
   ⟨srv.modLink 0 (fun x => { x with up := true }), 0, ⟨1, 0x1F3D, 0x9601, 0xB1, 0x088000, 67108864, 8192, 64⟩, by decide⟩⟩

/-- Fabric port 3 up, with queue pair 9 on it. -/
def fab : State := { (srv.wr (R.FAB_Pp_LINK_UP 3) 1).wr (R.FAB_Pp_LINK_UP 0) 1 with fab.qps := [qp 9 16] }

/-- Flow control of priority 3 of port 3: pause sent or not, storm or not. -/
def pfc (sending storm : Bool) : State := { fab with tet.epoch := 15625, fab.pfc := [⟨3, 0, 3, sending, 0, storm, 0, false, 0, 0, 0, false⟩] }

/-- Spool channel c in a state. -/
def spl (c st : Nat) : State := srv.wr (R.SPL_CHc_STATUS_STATE c) st

/-- A descriptor of 4,097 bytes from the user region of the Basket to NULL or to a host. -/
def dsc (src dst : Nat) : SplDesc :=
  ⟨true, 4097, true, false, false, false, 0, false, false, src, dst, 0, 0, 7, 0, 0, 7, 0, 0, 0⟩

/-- Channel 51 RUNNING with a descriptor in a phase. -/
def run (d : SplDesc) (p : SplPhase) : State :=
  ((spl 51 2).wr (R.SPL_CHc_COMPL_LO_SPACE 51) 7).modCh 51 fun x => { x with desc := some d, phase := p }

/-- Channel 51 RUNNING, its descriptor at offset 0 of the Gondola user region. -/
def fet (user : SMap Nat) : State :=
  { (((spl 51 2).wr (R.SPL_CHc_DESC_LO_SPACE 51) 6).wr (R.SPL_CHc_COMPL_LO_SPACE 51) 7) with nv.user := user }

/-- 16 bytes from the Gondola user region to NULL: CONTROL 0x01000010, SPACES 0x76, MAGIC. -/
def dscBytes : SMap Nat := [(0, 0x10), (3, 1), (4, 0x76), (60, 0x50), (61, 0x4C), (62, 0x53), (63, 0x44)]

/-- The String: unit 1, both ports up, bypass open, STATE, the Reel's unit. -/
def str (st reel : Nat) : State :=
  let s := ((srv.wr R.STG_ID_UNIT 1).wr R.STG_STATUS_STATE st).wr R.STG_REEL_REEL_UNIT reel
  { (s.wr R.STG_PORT_W_LINK 2).wr R.STG_PORT_E_LINK 2 with str.bypassClosed := false }

/-- The same device as Reel. -/
def reel : State := (str 3 1).wr R.STG_STATUS_REEL 1

/-- A frame from unit 2 to a destination. -/
def hd (dst : Nat) : StrHdr := ⟨0, 2, dst, 5, 1, false, false, false, true⟩

/-- A report of this device that has been sent at epoch 0. -/
def rep (sub : Nat) : Report := ⟨sub, [], 4, some 0⟩

/-- The directory entry of unit 2. -/
def ent (flags clm : Nat) : DirEntry := ⟨0, 2, flags, 0, 0, clm, 0, 0, 0, 0, 0⟩

theorem wit_FabricPortsFollowCongestion :
    (∃ s : State, ∃ host, ∃ p, ∃ sub, ∃ q : Qp, Alive s ∧ taking s = true ∧ fabUp s p sub = true ∧ s.fab.qps.length < 4096 ∧ q = ⟨s.fab.nextQp,
      host, 0xFFFF, 0, 4 * p + sub, fabRate s p * 65536, fabRate s p * 65536, 0, 0, 0, 0, false⟩) ∧
    (∃ s : State, ∃ p, ∃ sub, Alive s ∧ taking s = true ∧ fabUp s p sub = true ∧ 4096 ≤ s.fab.qps.length) ∧
    (∃ s : State, ∃ q, ∃ x, Alive s ∧ qpOf s q = some x ∧ x.err = false ∧ x.ctrl ≠ 0xFFFF) ∧
    (∃ s : State, ∃ q, ∃ x, Alive s ∧ qpOf s q = some x ∧ s.on (R.FAB_Pp_CFG_ECN_EN (x.port / 4)) = true ∧
      ((x.lastCnp = 0 ∨ x.lastCnp + s.rd R.FAB_CC_CNP_GAP ≤ s.tet.epoch + 1))) ∧
    (∃ s : State, ∃ q, ∃ x, Alive s ∧ qpOf s q = some x ∧ x.lastCnp ≠ 0 ∧ s.tet.epoch + 1 < x.lastCnp + s.rd R.FAB_CC_CNP_GAP) ∧
    (∃ s : State, ∃ q, ∃ x, Alive s ∧ qpOf s q = some x ∧ (s.incSat (R.FAB_Pp_CNP_RX (x.port / 4))).on (R.FAB_Pp_CFG_ECN_EN (x.port / 4)) = true ∧
      x.lastCut ≠ s.tet.epoch + 1) ∧
    (∃ s : State, ∃ q, ∃ x, Alive s ∧ qpOf s q = some x ∧ s.on (R.FAB_Pp_CFG_ECN_EN (x.port / 4)) = true ∧
      x.lastRx + s.rd R.FAB_CC_RECOVER ≤ s.tet.epoch + 1 ∧ x.lastUp ≠ s.tet.epoch + 1) ∧
    (∃ s : State, ∃ p, ∃ sub, ∃ prio, ∃ x, Alive s ∧ fabUp s p sub = true ∧ bit (s.rd (R.FAB_Pp_CFG_PFC_MASK p)) prio = true ∧
      x = pfcOf s p sub prio ∧ x.storm = false ∧ x.sending = false) ∧
    (∃ s : State, ∃ p, ∃ sub, ∃ prio, ∃ x, Alive s ∧ fabUp s p sub = true ∧ bit (s.rd (R.FAB_Pp_CFG_PFC_MASK p)) prio = true ∧
      x = pfcOf s p sub prio ∧ x.storm = true) ∧
    (∃ s : State, ∃ p, ∃ sub, ∃ prio, ∃ x, Alive s ∧ x = pfcOf s p sub prio ∧ x.sending = true) ∧
    (∃ s : State, ∃ p, ∃ sub, ∃ prio, ∃ x, Alive s ∧ x = pfcOf s p sub prio ∧ x.sending = true ∧ x.since + 1563 ≤ s.tet.epoch) ∧
    (∃ s : State, ∃ p, ∃ sub, ∃ prio, ∃ x, Alive s ∧ x = pfcOf s p sub prio ∧ x.storm = true ∧ x.lastXoff + 15625 ≤ s.tet.epoch) ∧
    (∃ s : State, ∃ p, ∃ sub, ∃ prio, ∃ x, Alive s ∧ fabUp s p sub = true ∧ prio < 8 ∧ x = pfcOf s p sub prio ∧ x.drop = false) ∧
    (∃ s : State, ∃ p, ∃ sub, ∃ prio, ∃ x, ∃ quanta, Alive s ∧ fabUp s p sub = true ∧ prio < 8 ∧ x = pfcOf s p sub prio ∧ x.drop = false ∧
      x.held = false ∧ quanta ≠ 0) ∧
    (∃ s : State, ∃ p, ∃ sub, Alive s ∧ p < 4 ∧ sub < fabSubs s p ∧ groupDead s (4 + p) = false) ∧
    (∃ s : State, ∃ p, Alive s ∧ p < 4) :=
  ⟨⟨fab, 5, 3, 0, _, by decide, by decide, by decide, by decide, rfl⟩,
   ⟨{ fab with fab.qps := List.replicate 4096 (qp 9 16) }, 3, 0, by decide, by decide, by decide, Nat.le_of_eq List.length_replicate.symm⟩,
   ⟨fab, 9, qp 9 16, by decide, by decide, by decide, by decide⟩,
   ⟨fab, 9, qp 9 16, by decide, by decide, by decide, by decide⟩,
   ⟨{ (srv.wr R.FAB_CC_CNP_GAP 3) with fab.qps := [{ qp 9 16 with lastCnp := 1 }] }, 9, { qp 9 16 with lastCnp := 1 }, by decide, by decide,
     by decide, by decide⟩,
   ⟨fab, 9, qp 9 16, by decide, by decide, by decide, by decide⟩,
   ⟨{ fab with tet.epoch := 9 }, 9, qp 9 16, by decide, by decide, by decide, by decide, by decide⟩,
   ⟨pfc false false, 3, 0, 3, _, by decide, by decide, by decide, rfl, by decide, by decide⟩,
   ⟨pfc false true, 3, 0, 3, _, by decide, by decide, by decide, rfl, by decide⟩,
   ⟨pfc true false, 3, 0, 3, _, by decide, rfl, by decide⟩,
   ⟨pfc true false, 3, 0, 3, _, by decide, rfl, by decide, by decide⟩,
   ⟨pfc false true, 3, 0, 3, _, by decide, rfl, by decide, by decide⟩,
   ⟨pfc false false, 3, 0, 7, _, by decide, by decide, by decide, rfl, by decide⟩,
   ⟨pfc false false, 3, 0, 7, _, 0xFFFF, by decide, by decide, by decide, rfl, by decide, by decide, by decide⟩,
   ⟨srv, 3, 0, by decide, by decide, by decide, by decide⟩,
   ⟨srv, 3, by decide, by decide⟩⟩

theorem wit_SpoolChannelsFollowTheirControls :
    (∃ s : State, ∃ c : Nat, ∃ u : State, Alive s ∧ c < 64 ∧ splDevice c = true ∧ u = s.wr R.SPL_STATUS_LAST_ERR eAuth) ∧
    (∃ s : State, ∃ c : Nat, ∃ u : State, Alive s ∧ c < 64 ∧ splDevice c = false ∧ s.chState c = chIdle ∧
      u = State.modCh (((s.wr (R.SPL_CHc_DONE_DESC_COUNT c) 0).wr (R.SPL_CHc_STATUS_MISSED c) 0).wr (R.SPL_CHc_ERR_INFO_VALID c) 0) c (fun x => { x with prevMode := none }) ∧ s.rd (R.SPL_CHc_CFG_TRIG_SRC c) = 0) ∧
    (∃ s : State, ∃ c : Nat, ∃ u : State, Alive s ∧ c < 64 ∧ splDevice c = false ∧ s.chState c = chIdle ∧
      u = State.modCh (((s.wr (R.SPL_CHc_DONE_DESC_COUNT c) 0).wr (R.SPL_CHc_STATUS_MISSED c) 0).wr (R.SPL_CHc_ERR_INFO_VALID c) 0) c (fun x => { x with prevMode := none }) ∧ s.rd (R.SPL_CHc_CFG_TRIG_SRC c) ≠ 0) ∧
    (∃ s : State, ∃ c : Nat, Alive s ∧ c < 64 ∧ splDevice c = false ∧ s.chState c = chIdle) ∧
    (∃ s : State, ∃ c : Nat, Alive s ∧ c < 64 ∧ splDevice c = false ∧ s.chState c = chWaiting) ∧
    (∃ s : State, ∃ c : Nat, Alive s ∧ c < 64 ∧ splDevice c = false ∧ s.chState c = chWaiting ∧ s.rd (R.SPL_CHc_CFG_TRIG_SRC c) ≠ 0) ∧
    (∃ s : State, ∃ c : Nat, Alive s ∧ c < 64 ∧ splDevice c = false ∧ (s.chState c = chQueued ∨ s.chState c = chRunning ∨ s.chState c = chHalted)) ∧
    (∃ s : State, ∃ c : Nat, Alive s ∧ c < 64 ∧ splDevice c = false ∧ (s.chState c = chQueued ∨ s.chState c = chRunning ∨ s.chState c = chHalted) ∧
      s.rd (R.SPL_CHc_CFG_TRIG_SRC c) ≠ 0 ∧ s.rd (R.SPL_CHc_STATUS_PENDING c) = 0) ∧
    (∃ s : State, ∃ c : Nat, Alive s ∧ c < 64 ∧ splDevice c = false ∧ (s.chState c = chQueued ∨ s.chState c = chRunning ∨ s.chState c = chHalted) ∧
      s.rd (R.SPL_CHc_CFG_TRIG_SRC c) ≠ 0 ∧ s.rd (R.SPL_CHc_STATUS_PENDING c) ≠ 0) ∧
    (∃ s : State, ∃ c : Nat, Alive s ∧ c < 64 ∧ splDevice c = false ∧ (s.chState c = chQueued ∨ s.chState c = chWaiting)) ∧
    (∃ s : State, ∃ c : Nat, Alive s ∧ c < 64 ∧ splDevice c = false ∧ s.chState c = chRunning ∧ splSerial c = false ∧ (s.splCh c).phase ≠ .fetch) ∧
    (∃ s : State, ∃ c : Nat, Alive s ∧ c < 64 ∧ splDevice c = false ∧ s.chState c = chRunning ∧ splSerial c = false ∧ (s.splCh c).phase = .fetch) ∧
    (∃ s : State, ∃ c : Nat, Alive s ∧ c < 64 ∧ splDevice c = false ∧ s.chState c = chRunning ∧ splSerial c = true) ∧
    (∃ s : State, ∃ c : Nat, Alive s ∧ c < 64 ∧ splDevice c = false ∧ s.chState c = chHalted) ∧
    (∃ s : State, ∃ c : Nat, Alive s ∧ c < 64 ∧ splDevice c = false ∧ s.chState c ≠ chHalted) ∧
    (∃ s : State, ∃ c : Nat, ∃ u : State, Alive s ∧ c < 64 ∧ splDevice c = false ∧ s.chState c = chHalted ∧
      u = ((s.wr (R.SPL_CHc_STATUS_STATE c) chRunning).modCh c fun x => { x with desc := if x.phase = .fetch then none else x.desc }) ∧
      s.rd (R.SPL_CHc_STATUS_STATUS c) ≠ 3) ∧
    (∃ s : State, ∃ c : Nat, ∃ u : State, Alive s ∧ c < 64 ∧ splDevice c = false ∧ s.chState c = chHalted ∧
      u = ((s.wr (R.SPL_CHc_STATUS_STATE c) chRunning).modCh c fun x => { x with desc := if x.phase = .fetch then none else x.desc }) ∧
      s.rd (R.SPL_CHc_STATUS_STATUS c) = 3) ∧
    (∃ s : State, ∃ k, Alive s ∧ k < 16 ∧ s.rd (R.SPL_TMRk_PERIOD k) ≠ 0 ∧ s.pwr.inNight = false ∧ s.spl.align.contains k = false) ∧
    (∃ s : State, ∃ k, ∃ v : Nat, Alive s ∧ k < 16 ∧ 1 ≤ v % 2 ^ 31 ∧ v % 2 ^ 31 ≤ 99) ∧
    (∃ s : State, ∃ k, ∃ v : Nat, Alive s ∧ k < 16 ∧ v < 2 ^ 31 ∧ (v = 0 ∨ 100 ≤ v)) ∧
    (∃ s : State, ∃ k, ∃ v : Nat, Alive s ∧ k < 16 ∧ v < 2 ^ 31 ∧ 100 ≤ v) ∧
    (∃ s : State, ∃ c : Nat, Alive s ∧ serialTaken s 64 = false ∧ 56 ≤ c ∧ c < 64 ∧ s.chState c = chQueued ∧ ((∀ d,
      56 ≤ d → d < c → s.chState d ≠ chQueued))) ∧
    (∃ s : State, Alive s ∧ serialTaken s 64 = true) ∧
    (∃ s : State, ∃ c : Nat, ∃ t, c < 64 ∧ t = splRun c s) :=
  ⟨⟨srv, 63, _, by decide, by decide, by decide, rfl⟩,
   ⟨srv, 62, _, by decide, by decide, by decide, by decide, rfl, by decide⟩,
   ⟨srv.wr (R.SPL_CHc_CFG_TRIG_SRC 51) 1, 51, _, by decide, by decide, by decide, by decide, rfl, by decide⟩,
   ⟨srv, 0, by decide, by decide, by decide, by decide⟩,
   ⟨spl 56 3, 56, by decide, by decide, by decide, by decide⟩,
   ⟨(spl 51 3).wr (R.SPL_CHc_CFG_TRIG_SRC 51) 1, 51, by decide, by decide, by decide, by decide, by decide⟩,
   ⟨spl 51 4, 51, by decide, by decide, by decide, by decide⟩,
   ⟨(spl 56 1).wr (R.SPL_CHc_CFG_TRIG_SRC 56) 1, 56, by decide, by decide, by decide, by decide, by decide, by decide⟩,
   ⟨((spl 51 4).wr (R.SPL_CHc_CFG_TRIG_SRC 51) 1).wr (R.SPL_CHc_STATUS_PENDING 51) 1, 51, by decide, by decide, by decide, by decide, by decide,
     by decide⟩,
   ⟨spl 56 1, 56, by decide, by decide, by decide, by decide⟩,
   ⟨run (dsc 4 7) .data, 51, by decide, by decide, by decide, by decide, by decide, by decide⟩,
   ⟨spl 51 2, 51, by decide, by decide, by decide, by decide, by decide, by decide⟩,
   ⟨spl 62 2, 62, by decide, by decide, by decide, by decide, by decide⟩,
   ⟨spl 51 4, 51, by decide, by decide, by decide, by decide⟩,
   ⟨srv, 0, by decide, by decide, by decide, by decide⟩,
   ⟨spl 51 4, 51, _, by decide, by decide, by decide, by decide, rfl, by decide⟩,
   ⟨(spl 51 4).wr (R.SPL_CHc_STATUS_STATUS 51) 3, 51, _, by decide, by decide, by decide, by decide, rfl, by decide⟩,
   ⟨srv.wr (R.SPL_TMRk_PERIOD 15) 100, 15, by decide, by decide, by decide, by decide, by decide⟩,
   ⟨srv, 15, 99, by decide, by decide, by decide, by decide⟩,
   ⟨srv, 15, 0, by decide, by decide, by decide, by decide⟩,
   ⟨srv, 0, 100, by decide, by decide, by decide, by decide⟩,
   ⟨spl 56 1, 56, by decide, by decide, by decide, by decide, by decide, fun d h1 h2 => absurd h2 (by omega)⟩,
   ⟨spl 57 4, by decide, by decide⟩,
   ⟨srv, 56, _, by decide, rfl⟩⟩

theorem wit_SpoolChainsMoveTheirData :
    (∃ s : State, ∃ c : Nat, ∃ bytes : List Nat, ∃ p : Nat × Nat, ∃ d : SplDesc, ∃ u : State, Alive s ∧ c < 64 ∧ s.chState c = chRunning ∧
      (s.splCh c).phase = .fetch ∧ (s.splCh c).budget < s.rd (R.SPL_CHc_LIMIT_CHAIN_LIMIT c) ∧ p = chDesc s c ∧ spaceFault s p.1 = none ∧
      inSpace s p.1 p.2 64 = true ∧ d = descOf (if p.1 < 4 then bytes else spaceRead s p.1 p.2 64) ∧
      u = s.modCh c (fun x => { x with desc := some d }) ∧ descCheck u (s.splCh c).prevMode d = none) ∧
    (∃ s : State, ∃ c : Nat, ∃ bytes : List Nat, ∃ p : Nat × Nat, ∃ d : SplDesc, ∃ u : State, ∃ st, Alive s ∧ c < 64 ∧ s.chState c = chRunning ∧
      (s.splCh c).phase = .fetch ∧ (s.splCh c).budget < s.rd (R.SPL_CHc_LIMIT_CHAIN_LIMIT c) ∧ p = chDesc s c ∧ spaceFault s p.1 = none ∧
      inSpace s p.1 p.2 64 = true ∧ d = descOf (if p.1 < 4 then bytes else spaceRead s p.1 p.2 64) ∧
      u = s.modCh c (fun x => { x with desc := some d }) ∧ descCheck u (s.splCh c).prevMode d = some st) ∧
    (∃ s : State, ∃ c : Nat, ∃ p : Nat × Nat, Alive s ∧ c < 64 ∧ s.chState c = chRunning ∧ (s.splCh c).phase = .fetch ∧
      (s.splCh c).budget < s.rd (R.SPL_CHc_LIMIT_CHAIN_LIMIT c) ∧ p = chDesc s c ∧ spaceFault s p.1 = none) ∧
    (∃ s : State, ∃ c : Nat, Alive s ∧ c < 64 ∧ s.chState c = chRunning ∧ (s.splCh c).phase = .fetch ∧
      s.rd (R.SPL_CHc_LIMIT_CHAIN_LIMIT c) ≤ (s.splCh c).budget) ∧
    (∃ s : State, ∃ c : Nat, ∃ d : SplDesc, ∃ m : Nat, ∃ b : Nat × Nat, ∃ u : State, Alive s ∧ s.chState c = chRunning ∧ (s.splCh c).phase = .data ∧
      (s.splCh c).desc = some d ∧ m = s.rd (R.SPL_CHc_BYTES_BYTES c) ∧ b = burstOf d m ∧ u = splIssue s ∧ spaceFault s d.srcSpace = none ∧
      spaceFault s d.dstSpace = none ∧ 4 ≤ d.srcSpace) ∧
    (∃ s : State, ∃ c : Nat, ∃ d : SplDesc, ∃ m : Nat, ∃ b : Nat × Nat, ∃ bytes : List Nat, ∃ u : State, Alive s ∧ s.chState c = chRunning ∧
      (s.splCh c).phase = .data ∧ (s.splCh c).desc = some d ∧ m = s.rd (R.SPL_CHc_BYTES_BYTES c) ∧ b = burstOf d m ∧ u = splIssue s ∧
      spaceFault s d.srcSpace = none ∧ spaceFault s d.dstSpace = none ∧ d.srcSpace < 4 ∧ bytes.length = b.2) ∧
    (∃ s : State, ∃ c : Nat, ∃ d : SplDesc, ∃ m : Nat, ∃ b : Nat × Nat, ∃ u : State, ∃ cause, Alive s ∧ s.chState c = chRunning ∧
      (s.splCh c).phase = .data ∧ (s.splCh c).desc = some d ∧ m = s.rd (R.SPL_CHc_BYTES_BYTES c) ∧ b = burstOf d m ∧ u = splIssue s ∧
      spaceFault s d.srcSpace = some cause) ∧
    (∃ s : State, ∃ c : Nat, ∃ d : SplDesc, ∃ m : Nat, ∃ b : Nat × Nat, ∃ u : State, Alive s ∧ s.chState c = chRunning ∧ (s.splCh c).phase = .data ∧
      (s.splCh c).desc = some d ∧ m = s.rd (R.SPL_CHc_BYTES_BYTES c) ∧ b = burstOf d m ∧ u = splIssue s ∧ spaceFault s d.srcSpace = none ∧
      spaceFault s d.dstSpace = none) ∧
    (∃ s : State, ∃ c : Nat, ∃ d : SplDesc, ∃ m : Nat, ∃ b : Nat × Nat, ∃ u : State, Alive s ∧ s.chState c = chRunning ∧ (s.splCh c).phase = .data ∧
      (s.splCh c).desc = some d ∧ m = s.rd (R.SPL_CHc_BYTES_BYTES c) ∧ b = burstOf d m ∧ u = splIssue s ∧ spaceFault s d.srcSpace = none ∧
      spaceFault s d.dstSpace = none) ∧
    (∃ c : Nat, c < 64) ∧
    (∃ d : SplDesc, ∃ m : Nat, m < d.length) ∧
    (∃ s : State, ∃ c : Nat, ∃ d : SplDesc, Alive s ∧ s.chState c = chRunning ∧ (s.splCh c).desc = some d ∧ (s.splCh c).phase = .record ∧
      spaceFault s (chCompl s c).1 = none) ∧
    (∃ s : State, ∃ c : Nat, ∃ d : SplDesc, Alive s ∧ c < 64 ∧ s.spl.ch.length = 64 ∧ s.chState c = chRunning ∧ (s.splCh c).desc = some d ∧
      (s.splCh c).phase = .store ∧ crcLen d = 0 ∧ d.fence = false ∧ (chCompl s c).1 = 7) ∧
    (∃ s : State, ∃ c : Nat, ∃ cause, ∃ addr, ∃ sp, ∃ dir, ∃ t : State, c < 64 ∧ s.spl.ch.length = 64 ∧ dir ≠ 5 ∧ (chCompl s c).1 = 7 ∧
      t = splBusErr c sp addr dir cause s) :=
  ⟨⟨fet dscBytes, 51, [], _, _, _, by decide, by decide, by decide, by decide, by decide, rfl, by decide, by decide, rfl, rfl, by decide⟩,
   ⟨fet [], 51, [], _, _, _, 2, by decide, by decide, by decide, by decide, by decide, rfl, by decide, by decide, rfl, rfl, by decide⟩,
   ⟨fet [], 51, _, by decide, by decide, by decide, by decide, by decide, rfl, by decide⟩,
   ⟨{ fet [] with spl.ch := List.replicate 64 { SplCh.idle with budget := 65536 } }, 51, by decide, by decide, by decide, by decide, by decide⟩,
   ⟨run (dsc 4 7) .data, 51, dsc 4 7, _, _, _, by decide, by decide, by decide, by decide, rfl, rfl, rfl, by decide, by decide, by decide⟩,
   ⟨{ run (dsc 0 7) .data with links := bar.links }, 51, dsc 0 7, _, _, List.replicate 4096 0, _, by decide, by decide, by decide, by decide, rfl,
     rfl, rfl, by decide, by decide, by decide, by rw [List.length_replicate]; decide⟩,
   ⟨run (dsc 0 7) .data, 51, dsc 0 7, _, _, _, 3, by decide, by decide, by decide, by decide, rfl, rfl, rfl, by decide⟩,
   ⟨run (dsc 4 7) .data, 51, dsc 4 7, _, _, _, by decide, by decide, by decide, by decide, rfl, rfl, rfl, by decide, by decide⟩,
   ⟨run (dsc 4 7) .data, 51, dsc 4 7, _, _, _, by decide, by decide, by decide, by decide, rfl, rfl, rfl, by decide, by decide⟩,
   ⟨51, by decide⟩,
   ⟨dsc 4 7, 4096, by decide⟩,
   ⟨run (dsc 4 7) .record, 51, dsc 4 7, by decide, by decide, by decide, by decide, by decide⟩,
   ⟨run (dsc 4 7) .store, 51, dsc 4 7, by decide, by decide, by decide, by decide, by decide, by decide, by decide, by decide, by decide⟩,
   ⟨run (dsc 4 7) .data, 51, 3, 0, 6, 4, _, by decide, by decide, by decide, by decide, rfl⟩⟩

theorem wit_StringFramesAreForwarded :
    (∃ s : State, s.str.bypassClosed = true) ∧
    (∃ s : State, ∃ h : StrHdr, s.str.bypassClosed = false ∧ strPortUp s h.port = true ∧ h.crcOk = false) ∧
    (∃ s : State, ∃ h : StrHdr, s.str.bypassClosed = false ∧ strPortUp s h.port = true ∧ h.crcOk = true ∧ h.dst = s.unit ∧ s.unit ≠ 0xFFFF) ∧
    (∃ s : State, ∃ h : StrHdr, s.str.bypassClosed = false ∧ strPortUp s h.port = true ∧ h.crcOk = true ∧ h.dst ≠ s.unit ∧ h.dst ≠ 0xFFFF) ∧
    (∃ s : State, ∃ h : StrHdr, s.str.bypassClosed = false ∧ strPortUp s h.port = true ∧ h.crcOk = true ∧ h.dst = 0xFFFF) ∧
    (∃ s : State, ∃ h : StrHdr, Alive s ∧ s.str.bypassClosed = false ∧ strPortUp s h.port = true ∧ h.crcOk = true ∧ h.src ≠ s.unit ∧ h.dst ≠ 0xFFFF ∧
      h.dst ≠ s.unit) ∧
    (∃ s : State, ∃ h : StrHdr, Alive s ∧ s.str.bypassClosed = false ∧ strPortUp s h.port = true ∧ h.crcOk = false) ∧
    (∃ s : State, ∃ h : StrHdr, strPortUp s (1 - h.port) = true) :=
  ⟨⟨{ str 3 2 with str.bypassClosed := true }, by decide⟩,
   ⟨str 3 2, { hd 1 with crcOk := false }, by decide, by decide, by decide⟩,
   ⟨str 3 2, hd 1, by decide, by decide, by decide, by decide, by decide⟩,
   ⟨str 3 2, hd 7, by decide, by decide, by decide, by decide, by decide⟩,
   ⟨str 3 2, hd 0xFFFF, by decide, by decide, by decide, by decide⟩,
   ⟨str 3 2, hd 7, by decide, by decide, by decide, by decide, by decide, by decide, by decide⟩,
   ⟨str 3 2, { hd 1 with crcOk := false }, by decide, by decide, by decide, by decide⟩,
   ⟨str 3 2, hd 1, by decide⟩⟩

theorem wit_StringLinksAndTime :
    (∃ s : State, ∃ port, ∃ u : State, Alive s ∧ port ≤ 1 ∧ s.str.bypassClosed = false ∧ strPortUp s port = false ∧ groupDead s 8 = false ∧
      u = delayClear port ((s.wr (portLink port) 2).wr (portLock port) 3)) ∧
    (∃ s : State, ∃ port, ∃ u : State, Alive s ∧ port ≤ 1 ∧ s.str.bypassClosed = false ∧ strPortUp s port = true ∧
      u = delayClear port ((s.wr (portLink port) 1).wr (portLock port) 0)) ∧
    (∃ s : State, ∃ h : StrHdr, ∃ id, Alive s ∧ h.port ≤ 1 ∧ s.str.bypassClosed = false ∧ h.crcOk = true ∧ id ≠ s.rd R.STG_STRING_ID_STRING_ID ∧
      s.rd (portLink h.port) = 3) ∧
    (∃ s : State, ∃ h : StrHdr, Alive s ∧ h.port ≤ 1 ∧ s.str.bypassClosed = false ∧ h.crcOk = true ∧ s.rd (portLink h.port) = 3) ∧
    (∃ s : State, ∃ h : StrHdr, Alive s ∧ s.str.bypassClosed = false ∧ strPortUp s h.port = true ∧ h.crcOk = true ∧ h.src = s.unit) ∧
    (∃ s : State, ∃ h : StrHdr, ∃ f : EpochFrame, ∃ u : State, Alive s ∧ s.str.bypassClosed = false ∧ strPortUp s h.port = true ∧ h.crcOk = true ∧
      h.src ≠ s.unit ∧ u = epochPass h f s ∧ isReel u = false ∧ strState u = sJoined ∧ reelUnit u = h.src ∧ h.src ≠ 0xFFFF) ∧
    (∃ s : State, Alive s ∧ s.tet.epoch % 16 = 8 ∧ s.str.bypassClosed = false) ∧
    (∃ s : State, ∃ h : StrHdr, Alive s ∧ s.str.bypassClosed = false ∧ strPortUp s h.port = true ∧ h.crcOk = true) ∧
    (∃ s : State, ∃ h : StrHdr, ∃ t1 : Nat, ∃ t2 : Nat, ∃ t3 : Nat, ∃ t4 : Nat, ∃ l : List Nat, ∃ u : State, Alive s ∧ s.str.bypassClosed = false ∧
      strPortUp s h.port = true ∧ h.crcOk = true ∧ l = (delayOf t1 t2 t3 t4 :: delaySamples s h.port).take 16 ∧
      u = { s with str.delays := (h.port, l) :: s.str.delays.filter fun d => d.1 ≠ h.port }) ∧
    (∃ t1 : Nat, ∃ t2 : Nat, ∃ t3 : Nat, ∃ t4 : Nat, ∃ d : Nat, t2 = t1 + d ∧ t4 = t3 + d) :=
  ⟨⟨(str 1 2).wr R.STG_PORT_E_LINK 1, 1, _, by decide, by decide, by decide, by decide, by decide, rfl⟩,
   ⟨str 3 2, 1, _, by decide, by decide, by decide, by decide, rfl⟩,
   ⟨(str 3 2).wr R.STG_PORT_W_LINK 3, hd 1, 9, by decide, by decide, by decide, by decide, by decide, by decide⟩,
   ⟨(str 3 2).wr R.STG_PORT_W_LINK 3, hd 1, by decide, by decide, by decide, by decide, by decide⟩,
   ⟨str 3 2, { hd 1 with src := 1 }, by decide, by decide, by decide, by decide, by decide⟩,
   ⟨str 3 2, hd 0xFFFF, ⟨5, 0, 7, 4, true, true, 37, 0, 0, 0⟩, _, by decide, by decide, by decide, by decide, by decide, rfl, by decide, by decide,
     by decide, by decide⟩,
   ⟨{ str 3 2 with tet.epoch := 8 }, by decide, by decide, by decide⟩,
   ⟨str 3 2, hd 1, by decide, by decide, by decide, by decide⟩,
   ⟨str 3 2, hd 1, 5, 8, 9, 12, _, _, by decide, by decide, by decide, by decide, rfl, rfl⟩,
   ⟨5, _, 9, _, 3, rfl, rfl⟩⟩

theorem wit_StringElectsAndJoins :
    (∃ s : State, Alive s ∧ strState s = sTraining ∧ s.str.firstUp.getD s.str.trainFrom + 64 ≤ s.tet.epoch) ∧
    (∃ s : State, Alive s ∧ strState s = sTraining ∧ s.tet.epoch < s.str.firstUp.getD s.str.trainFrom + 64) ∧
    (∃ s : State, Alive s ∧ strState s = sElecting ∧ s.str.electFrom + 33 ≤ s.tet.epoch ∧ s.str.best ≤ ownKey s) ∧
    (∃ s : State, Alive s ∧ strState s = sElecting ∧ s.str.electFrom + 33 ≤ s.tet.epoch ∧ ownKey s < s.str.best) ∧
    (∃ s : State, ∃ h : StrHdr, Alive s ∧ s.str.bypassClosed = false ∧ strPortUp s h.port = true ∧ h.crcOk = true ∧ h.dst = s.unit ∧
      s.unit ≠ 0xFFFF ∧ strState s = sElecting) ∧
    (∃ s : State, Alive s ∧ strState s = sJoined ∧ reelUnit s ≠ 0xFFFF ∧ isReel s = false ∧ s.str.lastRx + 16 ≤ s.tet.epoch) ∧
    (∃ s : State, Alive s ∧ isReel s = true) ∧
    (∃ s : State, Alive s ∧ isReel s = false) ∧
    (∃ s : State, ∃ h : StrHdr, Alive s ∧ s.str.bypassClosed = false ∧ strPortUp s h.port = true ∧ h.crcOk = true ∧ h.dst = s.unit ∧
      s.unit ≠ 0xFFFF ∧ isReel s = false ∧ h.src = reelUnit s ∧ strState s = sJoined ∧ h.wrapped = true) ∧
    (∃ s : State, ∃ h : StrHdr, ∃ r : Report, ∃ rs, Alive s ∧ s.str.bypassClosed = false ∧ strPortUp s h.port = true ∧ h.crcOk = true ∧
      h.dst = s.unit ∧ s.unit ≠ 0xFFFF ∧ s.str.reports = r :: rs ∧ r.sent.isSome = true ∧ r.sub = subJoin) ∧
    (∃ s : State, ∃ h : StrHdr, ∃ r : Report, ∃ rs, Alive s ∧ s.str.bypassClosed = false ∧ strPortUp s h.port = true ∧ h.crcOk = true ∧
      h.dst = s.unit ∧ s.unit ≠ 0xFFFF ∧ s.str.reports = r :: rs ∧ r.sent.isSome = true ∧ r.sub = subLeave) ∧
    (∃ s : State, ∃ h : StrHdr, ∃ r : Report, ∃ rs, ∃ result, Alive s ∧ s.str.bypassClosed = false ∧ strPortUp s h.port = true ∧ h.crcOk = true ∧
      h.dst = s.unit ∧ s.unit ≠ 0xFFFF ∧ s.str.reports = r :: rs ∧ r.sent.isSome = true ∧ r.sub = subPublish ∧ result ≠ 0) ∧
    (∃ result, result ≠ 0) ∧
    (∃ s : State, ∃ e, Alive s ∧ s.str.leaveAt = some e ∧ e ≤ s.tet.epoch) ∧
    (∃ s : State, ∃ r : Report, ∃ rs, ∃ e, ∃ u : State, Alive s ∧ s.str.reports = r :: rs ∧ r.sent = some e ∧ e + 256 ≤ s.tet.epoch ∧
      reelUnit s ≠ 0xFFFF ∧ u = strSendSeq (reelUnit s) 6 r.seq (r.sub :: r.vals) s) ∧
    (∃ s : State, ∃ d, Alive s ∧ s.str.census = some d ∧ isReel s = true ∧ s.tet.epoch < d ∧ censusFull s = false) ∧
    (∃ s : State, ∃ d, Alive s ∧ s.str.census = some d ∧ isReel s = true ∧ ((d ≤ s.tet.epoch ∨ censusFull s = true))) :=
  ⟨⟨{ str 1 0xFFFF with tet.epoch := 64 }, by decide, by decide, by decide⟩,
   ⟨{ str 1 0xFFFF with tet.epoch := 63 }, by decide, by decide, by decide⟩,
   ⟨{ str 4 0xFFFF with tet.epoch := 33 }, by decide, by decide, by decide, by decide⟩,
   ⟨{ str 4 0xFFFF with tet.epoch := 33, str.best := 2 ^ 31 }, by decide, by decide, by decide, by decide⟩,
   ⟨str 4 0xFFFF, hd 1, by decide, by decide, by decide, by decide, by decide, by decide, by decide⟩,
   ⟨{ str 3 2 with tet.epoch := 16 }, by decide, by decide, by decide, by decide, by decide⟩,
   ⟨reel, by decide, by decide⟩,
   ⟨str 3 2, by decide, by decide⟩,
   ⟨str 3 2, { hd 1 with wrapped := true }, by decide, by decide, by decide, by decide, by decide, by decide, by decide, by decide, by decide,
     by decide⟩,
   ⟨{ str 2 2 with str.reports := [rep subJoin] }, hd 1, rep subJoin, [], by decide, by decide, by decide, by decide, by decide, by decide,
     by decide, by decide, by decide⟩,
   ⟨{ str 3 2 with str.reports := [rep subLeave] }, hd 1, rep subLeave, [], by decide, by decide, by decide, by decide, by decide, by decide,
     by decide, by decide, by decide⟩,
   ⟨{ str 3 2 with str.reports := [rep subPublish] }, hd 1, rep subPublish, [], 4, by decide, by decide, by decide, by decide, by decide, by decide,
     by decide, by decide, by decide, by decide⟩,
   ⟨4, by decide⟩,
   ⟨{ str 3 2 with str.leaveAt := some 0 }, 0, by decide, by decide, by decide⟩,
   ⟨{ str 3 2 with str.reports := [rep subJoin], tet.epoch := 256 }, rep subJoin, [], 0, _, by decide, by decide, by decide, by decide, by decide,
     rfl⟩,
   ⟨{ reel with str.census := some 1, str.dir := [ent 1 0] }, 1, by decide, by decide, by decide, by decide, by decide⟩,
   ⟨{ reel with str.census := some 1 }, 1, by decide, by decide, by decide, by decide⟩⟩

theorem wit_ReelHandlesReports :
    (∃ s : State, ∃ h : StrHdr, s.str.bypassClosed = false ∧ strPortUp s h.port = true ∧ h.crcOk = true ∧ h.dst = s.unit ∧ isReel s = true ∧
      s.str.acks.find? (fun x => x.1 = h.src && x.2.1 = h.seq) = none ∧ s.str.collector = [] ∧ s.str.processed < 32) ∧
    (∃ s : State, ∃ h : StrHdr, ∃ x : Nat × Nat × Nat, s.str.bypassClosed = false ∧ strPortUp s h.port = true ∧ h.crcOk = true ∧ h.dst = s.unit ∧
      isReel s = true ∧ s.str.acks.find? (fun x => x.1 = h.src && x.2.1 = h.seq) = some x) ∧
    (∃ s : State, Alive s) ∧
    (∃ s : State, Alive s) ∧
    (∃ s : State, Alive s) ∧
    (∃ s : State, Alive s) ∧
    (∃ s : State, Alive s) ∧
    (∃ s : State, Alive s) ∧
    (∃ s : State, Alive s) ∧
    (∃ s : State, Alive s) ∧
    (∃ s : State, ∃ h : StrHdr, ∃ slot, ∃ peer, joinRefuse s h slot peer ≠ 0) ∧
    (∃ s : State, ∃ h : StrHdr, ∃ slot, ∃ peer, ∃ gen : UnitInfo, joinRefuse s h slot peer = 0 ∧ gen.configGen = s.dwn.configGen) ∧
    (∃ s : State, ∃ h : StrHdr, isMember s h.src = true) ∧
    (∃ s : State, ∃ gen, ∃ d : Dist, s.str.dist = some d ∧ d.gen = gen) ∧
    (∃ s : State, ∃ h : StrHdr, ∃ slot, ∃ peer, ReportTaken s h ∧ joinRefuse s h slot peer = 0) ∧
    (∃ s : State, ∃ h : StrHdr, ∃ slot, ∃ peer, ReportTaken s h ∧ joinRefuse s h slot peer ≠ 0) ∧
    (∃ s : State, ∃ h : StrHdr, ReportTaken s h ∧ isMember s h.src = true) ∧
    (∃ s : State, ∃ h : StrHdr, ReportTaken s h ∧ s.str.breaks.length < 8) ∧
    (∃ s : State, ∃ h : StrHdr, ReportTaken s h) ∧
    (∃ s : State, ∃ h : StrHdr, ∃ p, ∃ e, ReportTaken s h ∧ p ∈ strPorts s ∧ e ∈ s.str.dir ∧ (∀ x ∈ s.str.dir, bit x.flags 2 = false) ∧
      ((∀ x ∈ s.str.dir, x.unit = h.src → x.slot = e.slot → x = e))) ∧
    (∃ s : State, ∃ h : StrHdr, ∃ d : Dist, ReportTaken s h ∧ s.str.dist = some d) ∧
    (∃ s : State, ∃ h : StrHdr, ∃ d : Dist, ReportTaken s h ∧ s.str.dist = some d) ∧
    (∃ s : State, ∃ h : StrHdr, ∃ d : Dist, ∃ ks : List Nat, ∃ k, ∃ p : Nat, ReportTaken s h ∧ s.str.dist = some d ∧ k ∈ ks.take (8 - d.sent) ∧
      p ∈ strPorts s) ∧
    (∃ s : State, ∃ h : StrHdr, ∃ d : Dist, ∃ ks : List Nat, ∃ k, ReportTaken s h ∧ s.str.dist = some d ∧ k ∈ ks.drop (8 - d.sent)) ∧
    (∃ s : State, ∃ h : StrHdr, ReportTaken s h ∧ s.str.dist = none ∧ s.str.census = none) ∧
    (∃ s : State, ∃ h : StrHdr, ∃ d : Dist, ReportTaken s h ∧ s.str.dist = some d) ∧
    (∃ s : State, ∃ h : StrHdr, ReportTaken s h) :=
  ⟨⟨reel, hd 1, by decide, by decide, by decide, by decide, by decide, by decide, by decide, by decide⟩,
   ⟨{ reel with str.acks := [(2, 5, 0)] }, hd 1, (2, 5, 0), by decide, by decide, by decide, by decide, by decide, by decide⟩,
   ⟨reel, by decide⟩,
   ⟨reel, by decide⟩,
   ⟨reel, by decide⟩,
   ⟨reel, by decide⟩,
   ⟨reel, by decide⟩,
   ⟨reel, by decide⟩,
   ⟨reel, by decide⟩,
   ⟨reel, by decide⟩,
   ⟨reel, hd 1, 0, 5, by decide⟩,
   ⟨reel, hd 1, 8, 0, ⟨reel.dwn.configGen, 0, 0, 0⟩, by decide, by decide⟩,
   ⟨{ reel with str.members := [(2, 9, 0)] }, hd 1, by decide⟩,
   ⟨{ reel with str.dist := some ⟨6, 0, 9, [], [], 0, [], [], [], 0⟩ }, 6, ⟨6, 0, 9, [], [], 0, [], [], [], 0⟩, by decide, by decide⟩,
   ⟨reel, hd 1, 8, 0, by unfold ReportTaken; decide, by decide⟩,
   ⟨reel, hd 1, 0, 5, by unfold ReportTaken; decide, by decide⟩,
   ⟨{ reel with str.members := [(2, 9, 0)] }, hd 1, by unfold ReportTaken; decide, by decide⟩,
   ⟨reel, hd 1, by unfold ReportTaken; decide, by decide⟩,
   ⟨reel, hd 1, by unfold ReportTaken; decide⟩,
   ⟨{ reel with str.dir := [ent 0 9] }, hd 1, 0, ent 0 9, by unfold ReportTaken; decide, by decide, by decide, by decide, by decide⟩,
   ⟨{ reel with str.dist := some ⟨6, 0, 9, [], [], 0, [], [], [], 0⟩ }, hd 1, ⟨6, 0, 9, [], [], 0, [], [], [], 0⟩, by unfold ReportTaken; decide,
     by decide⟩,
   ⟨{ reel with str.dist := some ⟨6, 0, 9, [], [], 0, [], [], [], 0⟩ }, hd 1, ⟨6, 0, 9, [], [], 0, [], [], [], 0⟩, by unfold ReportTaken; decide,
     by decide⟩,
   ⟨{ reel with str.dist := some ⟨6, 0, 9, [], [], 0, [], [], [], 0⟩ }, hd 1, ⟨6, 0, 9, [], [], 0, [], [], [], 0⟩, [3], 3, 0,
     by unfold ReportTaken; decide, by decide, by decide, by decide⟩,
   ⟨{ reel with str.dist := some ⟨6, 0, 9, [], [], 0, [], [], [], 0⟩ }, hd 1, ⟨6, 0, 9, [], [], 0, [], [], [], 0⟩, List.range 9, 8,
     by unfold ReportTaken; decide, by decide, by decide⟩,
   ⟨reel, hd 1, by unfold ReportTaken; decide, by decide, by decide⟩,
   ⟨{ reel with str.dist := some ⟨6, 0, 9, [], [], 0, [], [], [], 0⟩ }, hd 1, ⟨6, 0, 9, [], [], 0, [], [], [], 0⟩, by unfold ReportTaken; decide,
     by decide⟩,
   ⟨reel, hd 1, by unfold ReportTaken; decide⟩⟩

theorem wit_StringSharesTheConfiguration :
    (∃ s : State, ∃ h : StrHdr, ∃ gen, Alive s ∧ s.str.bypassClosed = false ∧ strPortUp s h.port = true ∧ h.crcOk = true ∧ h.dst = s.unit ∧
      s.unit ≠ 0xFFFF ∧ strState s = sJoined ∧ h.src = reelUnit s ∧ sysGen s < gen ∧ s.str.pub = none) ∧
    (∃ s : State, ∃ h : StrHdr, ∃ gen, Alive s ∧ s.str.bypassClosed = false ∧ strPortUp s h.port = true ∧ h.crcOk = true ∧ h.dst = s.unit ∧
      s.unit ≠ 0xFFFF ∧ gen ≤ sysGen s) ∧
    (∃ s : State, ∃ h : StrHdr, ∃ gen, ∃ o : Offer, Alive s ∧ s.str.bypassClosed = false ∧ strPortUp s h.port = true ∧ h.crcOk = true ∧
      h.dst = s.unit ∧ s.unit ≠ 0xFFFF ∧ s.str.offer = some o ∧ o.gen = gen ∧ h.src = reelUnit s ∧ o.chunks = []) ∧
    (∃ s : State, ∃ h : StrHdr, ∃ clm, ∃ e : DirEntry, Alive s ∧ s.str.bypassClosed = false ∧ strPortUp s h.port = true ∧ h.crcOk = true ∧
      h.dst = s.unit ∧ s.unit ≠ 0xFFFF ∧ dirOf s h.src = some e ∧ clm < e.claim) ∧
    (∃ s : State, ∃ h : StrHdr, ∃ gen, Alive s ∧ s.str.bypassClosed = false ∧ strPortUp s h.port = true ∧ h.crcOk = true ∧ h.dst = s.unit ∧
      s.unit ≠ 0xFFFF ∧ isReel s = false ∧ h.src = reelUnit s ∧ gen ≤ s.str.dirGen) ∧
    (∃ s : State, Alive s ∧ strState s ≠ sJoined) ∧
    (∃ s : State, ∃ target, Alive s ∧ strState s = sJoined ∧ inNightDir s target = false) ∧
    (∃ s : State, ∃ target, Alive s ∧ strState s = sJoined ∧ inNightDir s target = true) ∧
    (∃ s : State, Alive s ∧ strState s = sJoined ∧ isReel s = true ∧ s.str.summaryBy.isSome = true) ∧
    (∃ s : State, Alive s ∧ strState s ≠ sJoined) :=
  ⟨⟨str 3 2, hd 1, 1, by decide, by decide, by decide, by decide, by decide, by decide, by decide, by decide, by decide, by decide⟩,
   ⟨str 3 2, hd 1, 0, by decide, by decide, by decide, by decide, by decide, by decide, by decide⟩,
   ⟨{ str 3 2 with str.offer := some ⟨6, 0, 9, true, [], [], [], 0⟩ }, hd 1, 6, ⟨6, 0, 9, true, [], [], [], 0⟩, by decide, by decide, by decide,
     by decide, by decide, by decide, by decide, by decide, by decide, by decide⟩,
   ⟨{ str 3 2 with str.dir := [ent 0 9] }, hd 1, 8, ent 0 9, by decide, by decide, by decide, by decide, by decide, by decide, by decide, by decide⟩,
   ⟨str 3 2, hd 1, 0, by decide, by decide, by decide, by decide, by decide, by decide, by decide, by decide, by decide⟩,
   ⟨str 1 2, by decide, by decide⟩,
   ⟨str 3 2, 2, by decide, by decide, by decide⟩,
   ⟨{ str 3 2 with str.dir := [ent 2 9] }, 2, by decide, by decide, by decide⟩,
   ⟨{ reel with str.summaryBy := some 3 }, by decide, by decide, by decide, by decide⟩,
   ⟨str 1 2, by decide, by decide⟩⟩

/-- A home of a pair in a state, the Spar up. -/
def par (st : Nat) : State := (((srv.wr R.SPR_CFG_EN 1).wr R.SPR_CFG_HOME 1).wr R.SPR_LINK_UP 1).wr R.SPR_STATUS_STATE st

/-- The same in service with pages, and with one delta unconfirmed. -/
def bsk (st : Nat) : State := { par st with bsk := { (par st).bsk with w := 64, cap := 64 }, pair.unconf := [(5, 5, 5, [])] }

/-- A CLAIM record of SEQ n. -/
def rec (n : Nat) : Rec := ⟨n, 1, 7, false, true, n, true, .clm 1 1 65538 0 0⟩

/-- A HELLO of unit 2. -/
def hel : Hello := ⟨2, 1, false, 65538, 40, 1, true, true, true, true, 0, true⟩

/-- A mailbox request of no payload through bank 0. -/
def mh : MbxHdr := ⟨.bank 0, 1, 0, false⟩

/-- NIGHT is being prepared at a step. -/
def ngt (st k : Nat) (l : List Ctx) : State :=
  { (srv.wr R.PWR_STATUS_STATE st).wr R.PWR_STATUS_PREP_STEP k with pwr := { srv.pwr with nightReq := some mh, prepDone := false }, ce.ctxs := l }

/-- In NIGHT, in a state of the power controller, with wake sources latched. -/
def inN (st l : Nat) : State := { srv.wr R.PWR_STATUS_STATE st with pwr := { srv.pwr with inNight := true, latch := l } }

/-- A tail copy without regions or records. -/
def tail0 : Tail := ⟨true, false, 0, 1, 0, 0, 0, 0, 1, [], [], ⟨Root.blank, [], [], [], Root.blank, []⟩⟩

/-- A stripe operation that waits for its region's mark. -/
def sop : SOp := ⟨3, 4, .rmw, 0, 0, 0, 1, 1, 1, 0, 0, [], .region, [], [], [], 0, 0⟩

/-- Dawn runs step k, for the first time. -/
def dwn (k : Nat) : State := { State.reset with dwn.step := k, ext.vaults := [] }

/-- Dawn runs step k with an image in slot A. -/
def boot (k : Nat) : State := { dwn k with nv := { (dwn k).nv with flashA := some img } }

/-- DAWN_S09 with an image as its one source. -/
def cfg9 : State := { dwn 9 with dwn := { (dwn 9).dwn with image := some img } }

set_option maxRecDepth 20000 in
theorem cfg9_rules : (setFail { cfg9 with bsk.cap := 0 } { withSet (itemsSet []) cfg9 with dwn.tables := [] } (itemsSet [])).isSome = false := by decide

theorem cfg9_try : cfgTry cfg9 img = some { withSet (itemsSet []) cfg9 with dwn.tables := [] } := by
  unfold cfgTry
  rw [if_neg]
  · rfl
  · intro h
    rcases h with h | h
    · revert h; decide
    · exact absurd (h.symm.trans cfg9_rules) (by decide)

theorem cfg9_pick : ∃ t, cfgPick cfg9 [(1, img)] = some (1, img, t) :=
  ⟨{ withSet (itemsSet []) cfg9 with dwn.tables := [] }, by unfold cfgPick; rw [cfg9_try]⟩

theorem wit_DawnGoesOnToService_config : ∃ s ok src i t, Alive s ∧ stepOn s 9 = true ∧ cfgPick s (cfgSources s ok) = some (src, i, t) :=
  cfg9_pick.elim fun t h => ⟨cfg9, true, 1, img, t, by decide, by decide, h⟩

theorem wit_MirrorTakesWholeDeltas :
    (∃ s : State, Alive s ∧ 11 ≤ s.dwn.step ∧ groupDead s 9 = false) ∧
    (∃ s : State, Alive s ∧ sparUp s = true) ∧
    (∃ s : State, ∃ addr : Nat, Alive s ∧ sparUp s = true ∧ standingBy s = true ∧ addr < s.bsk.w) ∧
    (∃ s : State, ∃ rs : List Rec, Alive s ∧ sparUp s = true ∧ standingBy s = true ∧ rs.length ≤ 64) ∧
    (∃ s : State, ∃ u : State, Alive s ∧ sparUp s = true ∧ standingBy s = true ∧ s.pairState ≠ 5 ∧
      u = deltaApply { s with pair.lastCutRx := s.tet.epoch }) ∧
    (∃ s : State, s.pair.stagedR = []) ∧
    (∃ s : State, ∃ e : Nat, ∃ u : State, Alive s ∧ sparUp s = true ∧ mirroring s = true ∧ s.pair.unconf.any (fun u => u.1 = e) = true ∧
      s.pairState ≠ 5 ∧
      u = mirrorDone e ((State.wr { s with pair.unconf := s.pair.unconf.filter (fun u => e < u.1), pair.confirmed := e, pair.naks := 0, pair.lastRx := s.tet.epoch } R.SPR_MIRROR_CONFIRMED e).gaugeTime 10) ∧ u.pairState = s.pairState) ∧
    (∃ s : State, ∃ e : Nat, Alive s ∧ sparUp s = true ∧ mirroring s = true ∧ s.pair.unconf.any (fun u => u.1 = e) = true ∧ s.pairState ≠ 5 ∧
      s.ce.ctxs = [] ∧ s.ce.sops = []) ∧
    (∃ s : State, ∃ u : Nat × Nat × Nat × List Nat, ∃ us : List (Nat × Nat × Nat × List Nat), Alive s ∧ s.pair.unconf = u :: us ∧ sparUp s = true ∧
      mirroring s = true ∧ s.pair.naks < 2) ∧
    (∃ s : State, ∃ u : Nat × Nat × Nat × List Nat, ∃ us : List (Nat × Nat × Nat × List Nat), Alive s ∧ s.pair.unconf = u :: us ∧ sparUp s = true ∧
      mirroring s = true ∧ 2 ≤ s.pair.naks) ∧
    (∃ s : State, ∃ addr : Nat, Alive s ∧ sparUp s = true ∧ s.pairState = 3 ∧ addr < s.bsk.cap ∧ addr ∉ s.bsk.fetching) ∧
    (∃ s : State, ∃ addr : Nat, Alive s ∧ sparUp s = true ∧ addr ∈ s.bsk.fetching) ∧
    (∃ s : State, Alive s ∧ sparUp s = true ∧ s.rd R.SPR_CFG_EN = 1 ∧ s.pairState = 0 ∧ s.pair.helloRx = none ∧ noFence s = true) ∧
    (∃ s : State, ∃ h : Hello, Alive s ∧ sparUp s = true ∧ s.rd R.SPR_CFG_EN = 1 ∧ s.pairState = 0 ∧ s.pair.helloRx = some h ∧ helloRefuse s h ≠ 0) ∧
    (∃ s : State, Alive s ∧ sparUp s = true ∧ s.rd R.SPR_CFG_EN = 1 ∧ s.pairState = 0 ∧ noFence s = false ∧ ((∀ h,
      s.pair.helloRx = some h → helloRefuse s h = 0))) ∧
    (∃ s : State, Alive s ∧ sparUp s = true ∧ s.pairState = 3) ∧
    (∃ s : State, Alive s ∧ sparUp s = true ∧ s.pairState = 1) :=
  ⟨⟨srv, by decide, by decide, by decide⟩,
   ⟨par 3, by decide, by decide⟩,
   ⟨bsk 2, 63, by decide, by decide, by decide, by decide⟩,
   ⟨bsk 1, [rec 3], by decide, by decide, by decide, by decide⟩,
   ⟨{ bsk 2 with pair.stagedR := [rec 3], pair.stagedP := [(5, 0#32896)] }, _, by decide, by decide, by decide, by decide, rfl⟩,
   ⟨{ par 2 with pair.stagedR := [] }, by decide⟩,
   ⟨bsk 3, 5, _, by decide, by decide, by decide, by decide, by decide, rfl, by decide⟩,
   ⟨bsk 3, 5, by decide, by decide, by decide, by decide, by decide, by decide, by decide⟩,
   ⟨{ bsk 3 with pair.naks := 1 }, (5, 5, 5, []), [], by decide, by decide, by decide, by decide, by decide⟩,
   ⟨{ bsk 3 with pair.naks := 2 }, (5, 5, 5, []), [], by decide, by decide, by decide, by decide, by decide⟩,
   ⟨bsk 3, 63, by decide, by decide, by decide, by decide, by decide⟩,
   ⟨{ bsk 3 with bsk.fetching := [9] }, 9, by decide, by decide, by decide⟩,
   ⟨{ (((arr.wr R.SPR_CFG_EN 1).wr R.SPR_CFG_HOME 1).wr R.SPR_LINK_UP 1).wr R.SPR_STATUS_STATE 0 with ext.drives := [(0, some { drv 1 with desc.resvOk := false })] }, by decide, by decide, by decide, by decide, by decide, by decide⟩,
   ⟨{ par 0 with pair.helloRx := some { hel with accepts := false } }, { hel with accepts := false }, by decide, by decide, by decide, by decide,
     by decide, by decide⟩,
   ⟨par 0, by decide, by decide, by decide, by decide, by decide, fun h e => nomatch e⟩,
   ⟨par 3, by decide, by decide, by decide⟩,
   ⟨par 1, by decide, by decide, by decide⟩⟩

theorem wit_PairHandsControlOver :
    (∃ s : State, Alive s ∧ s.pairState = 2 ∧ s.pair.lastCutRx + s.rd R.SPR_TIMING_DETECT_EPOCHS + 1 ≤ s.tet.epoch ∧ bit s.pair.health 8 = true) ∧
    (∃ s : State, Alive s ∧ s.pairState = 2 ∧ s.pair.lastCutRx + s.rd R.SPR_TIMING_DETECT_EPOCHS + 1 ≤ s.tet.epoch ∧ bit s.pair.health 8 = false) ∧
    (∃ s : State, Alive s ∧ s.pairState ≠ 5 ∧ s.tet.epoch < s.pair.lastCutRx + s.rd R.SPR_TIMING_DETECT_EPOCHS + 1) ∧
    (∃ s : State, Alive s ∧ s.pairState = 5 ∧ s.pair.released = true ∧ s.pair.lastRx + s.rd R.SPR_TIMING_DETECT_EPOCHS + 1 ≤ s.tet.epoch ∧
      s.pair.peerClaim < s.pair.claim) ∧
    (∃ s : State, Alive s ∧ sparUp s = true ∧ s.pairState = 2 ∧ bit s.pair.health 8 = true) ∧
    (∃ s : State, Alive s ∧ (s.pairState ≠ 4 ∨ s.pair.preempted = false)) ∧
    (∃ s : State, ∃ u : State, Alive s ∧ s.pairState = 4 ∧ s.pair.preempted = true ∧ s.jrn.opens = [] ∧ s.bsk.fetching = [] ∧ s.pair.cause = 1 ∧
      s.pair.mbxWait = none ∧
      u = State.wr (setPair 3 { s with pair.preempting := [], pair.lastRx := s.tet.epoch, pair.takeFrom := some s.pair.dEpoch, pair.deltaFirst := s.jrn.nextSeq, pair.unconf := [], pair.released := false, pair.handing := false }) R.SPR_STATUS_READY 0 ∧ u.jrn.opens = [] ∧ u.bsk.fetching = [] ∧ u.pair.cause = 1 ∧ u.pair.mbxWait = none) ∧
    (∃ s : State, Alive s ∧ s.pairState = 4 ∧ s.pair.preempted = false ∧ s.pair.dEpoch + 16 ≤ s.tet.epoch) ∧
    (∃ s : State, Alive s ∧ s.pairState = 3 ∧ s.pair.lastRx + s.rd R.SPR_TIMING_SOLO_WAIT ≤ s.tet.epoch ∧ s.pair.actUntil ≤ s.tet.epoch ∧
      sparUp s = false) ∧
    (∃ s : State, Alive s ∧ s.pairState = 3 ∧ s.tet.epoch < s.pair.lastRx + s.rd R.SPR_TIMING_SOLO_WAIT) ∧
    (∃ s : State, Alive s ∧ sparUp s = true ∧ s.pairState = 3) ∧
    (∃ s : State, Alive s ∧ s.pairState = 5 ∧ s.pair.handing = false ∧ s.ce.ctxs = []) ∧
    (∃ s : State, Alive s ∧ sparUp s = true ∧ s.pairState = 2) ∧
    (∃ s : State, Alive s ∧ s.pairState = 5 ∧ s.pair.released = true ∧ s.pair.releaseEpoch + 16 ≤ s.tet.epoch ∧ s.pair.peerClaim < s.pair.claim) ∧
    (∃ s : State, ∃ e : Nat, Alive s ∧ s.pair.readySince = some e ∧ s.pairState = 2 ∧ s.rd R.SPR_CFG_HOME = 1 ∧ s.rd R.SPR_CFG_AUTO_BACK = 1 ∧
      s.rd R.SPR_STATUS_FLAPPING = 0 ∧ e + s.rd R.SPR_CFG_HOLDOFF_S * 15625 ≤ s.tet.epoch) ∧
    (∃ s : State, Alive s ∧ s.rd R.SPR_STATUS_FLAPPING = 1) ∧
    (∃ s : State, Alive s ∧ s.rd R.SPR_STATUS_FLAPPING = 0) ∧
    (∃ s : State, Alive s ∧ sparUp s = true ∧ s.pairState = 3 ∧ s.ce.commit = none) ∧
    (∃ s : State, ∃ w, Alive s ∧ sparUp s = true ∧ s.pairState = 3 ∧ s.rd R.SPR_STATUS_READY = 0 ∧ w < 2 ^ 64) ∧
    (∃ s : State, Alive s ∧ s.pairState = 6 ∧ sparUp s = true ∧ s.rd R.GON_STATUS_MRAM_OK = 1 ∧ s.rd R.SPR_CFG_EN = 1 ∧ s.rd R.SPR_CFG_HOME = 0) ∧
    (∃ s : State, Alive s ∧ s.pairState ≠ 6) :=
  ⟨⟨{ par 2 with tet.epoch := 9000, pair.health := 256 }, by decide, by decide, by decide, by decide⟩,
   ⟨{ par 2 with tet.epoch := 9000 }, by decide, by decide, by decide, by decide⟩,
   ⟨par 3, by decide, by decide, by decide⟩,
   ⟨{ par 5 with pair.released := true, tet.epoch := 9000, pair.claim := 65537 }, by decide, by decide, by decide, by decide, by decide⟩,
   ⟨{ par 2 with pair.health := 256 }, by decide, by decide, by decide, by decide⟩,
   ⟨par 4, by decide, by decide⟩,
   ⟨{ par 4 with pair.preempted := true, pair.cause := 1 }, _, by decide, by decide, by decide, by decide, by decide, by decide, by decide, rfl,
     by decide, by decide, by decide, by decide⟩,
   ⟨{ par 4 with tet.epoch := 16 }, by decide, by decide, by decide, by decide⟩,
   ⟨{ (par 3).wr R.SPR_LINK_UP 0 with tet.epoch := 156250 }, by decide, by decide, by decide, by decide, by decide⟩,
   ⟨par 3, by decide, by decide, by decide⟩,
   ⟨par 3, by decide, by decide, by decide⟩,
   ⟨par 5, by decide, by decide, by decide, by decide⟩,
   ⟨par 2, by decide, by decide, by decide⟩,
   ⟨{ par 5 with pair.released := true, tet.epoch := 16, pair.claim := 65537 }, by decide, by decide, by decide, by decide, by decide⟩,
   ⟨{ (par 2).wr R.SPR_CFG_AUTO_BACK 1 with pair.readySince := some 0, tet.epoch := 15625000 }, 0, by decide, by decide, by decide, by decide,
     by decide, by decide, by decide⟩,
   ⟨(par 2).wr R.SPR_STATUS_FLAPPING 1, by decide, by decide⟩,
   ⟨par 2, by decide, by decide⟩,
   ⟨par 3, by decide, by decide, by decide, by decide⟩,
   ⟨par 3, 256, by decide, by decide, by decide, by decide, by decide⟩,
   ⟨((par 6).wr R.SPR_CFG_HOME 0).wr R.GON_STATUS_MRAM_OK 1, by decide, by decide, by decide, by decide, by decide, by decide⟩,
   ⟨par 3, by decide, by decide⟩⟩

theorem wit_ClaimsAreKept :
    (∃ s : State, ∃ role, ∃ cause, ∃ c : Nat, ∃ u : State, Alive s ∧ sparUp s = true ∧ ((mirroring s = true ∨ s.pairState = 0)) ∧
      (role ≠ 0 ∨ cause ≠ 3) ∧ u = claimRegs { s with pair.peerClaim := max s.pair.peerClaim c } ∧ ((mirroring u = true ∨ u.pairState = 0))) ∧
    (∃ s : State, ∃ role, ∃ cause, Alive s ∧ sparUp s = true ∧ mirroring s = false ∧ s.pairState ≠ 0 ∧ (role ≠ 0 ∨ cause ≠ 3)) ∧
    (∃ s : State, ∃ c : Nat, ∃ u : State, Alive s ∧ sparUp s = true ∧ u = claimRegs { s with pair.peerClaim := max s.pair.peerClaim c } ∧
      standingBy s = true) ∧
    (∃ s : State, ∃ c : Nat, ∃ u : State, Alive s ∧ sparUp s = true ∧ u = claimRegs { s with pair.peerClaim := max s.pair.peerClaim c } ∧
      s.pairState = 3) ∧
    (∃ s : State, ∃ h : Hello, ∃ u : State, Alive s ∧ sparUp s = true ∧ s.rd R.SPR_CFG_EN = 1 ∧
      u = claimRegs { s with pair.helloRx := some h, pair.peerClaim := max s.pair.peerClaim h.lastClaim }) ∧
    (∃ s : State, Alive s ∧ s.rd R.SPR_CFG_EN = 0) ∧
    (∃ s : State, ∃ a, ∃ m, Alive s ∧ (arrOn s a = false ∨ memN s a ≤ m)) ∧
    (∃ s : State, ∃ a, ∃ m, Alive s ∧ arrOn s a = true ∧ m < memN s a ∧ s.rd R.SPR_CFG_HOME = 0) ∧
    (∃ s : State, ∃ a, ∃ m, Alive s ∧ arrOn s a = true ∧ m < memN s a ∧ s.rd R.SPR_CFG_HOME = 0 ∧ s.rd R.SPR_STATUS_CLAIM_LOST = 0 ∧
      s.pairState = 3) ∧
    (∃ s : State, s.unit < 65536 ∧ s.tet.epoch < 2 ^ 48 ∧ s.pair.claim < (2 ^ 48 - 1) * 65536 ∧ s.pair.lastClaim < (2 ^ 48 - 1) * 65536 ∧
      (∀ k ∈ s.pair.peerClaim :: foreignKeys s, k < (2 ^ 48 - 1) * 65536) ∧ 0 < max s.pair.claim s.pair.lastClaim) :=
  ⟨⟨par 3, 1, 1, 65538, _, by decide, by decide, by decide, by decide, rfl, by decide⟩,
   ⟨par 2, 1, 1, by decide, by decide, by decide, by decide, by decide⟩,
   ⟨par 2, 65538, _, by decide, by decide, rfl, by decide⟩,
   ⟨par 3, 65538, _, by decide, by decide, rfl, by decide⟩,
   ⟨par 3, hel, _, by decide, by decide, by decide, rfl⟩,
   ⟨srv, by decide, by decide⟩,
   ⟨arr, 15, 0, by decide, by decide⟩,
   ⟨arr, 0, 3, by decide, by decide, by decide, by decide⟩,
   ⟨arr.wr R.SPR_STATUS_STATE 3, 0, 1, by decide, by decide, by decide, by decide, by decide, by decide⟩,
   ⟨{ (par 0).wr R.STG_ID_UNIT 1 with pair.claim := 65537, pair.peerClaim := 131074, ext := arr.ext }, by decide, by decide, by decide, by decide,
     by decide, by decide⟩⟩

theorem wit_DawnStartsStepByStep :
    (∃ s : State, Alive s ∧ stepOn s 0 = true) ∧
    (∃ s : State, Alive s ∧ stepOn s 1 = true ∧ s.nv.otpFail = false) ∧
    (∃ s : State, Alive s ∧ stepOn s 1 = true) ∧
    (∃ s : State, Alive s ∧ stepOn s 2 = true) ∧
    (∃ s : State, ∃ i : Image, Alive s ∧ stepOn s 3 = true ∧ s.dwn.tried = true ∧ slotImg s s.dwn.slot = some i ∧ headerCheck i = none) ∧
    (∃ s : State, ∃ i : Image, Alive s ∧ stepOn s 3 = true ∧ s.dwn.tried = false ∧ altOn s 3 = false ∧ altOn s 4 = false ∧ altOn s 5 = false ∧
      slotImg s s.nv.preferred = some i ∧ headerCheck i = none ∧ altOn { s with dwn.slot := s.nv.preferred } 3 = false) ∧
    (∃ s : State, ∃ i : Image, Alive s ∧ stepOn s 4 = true ∧ slotImg s s.dwn.slot = some i ∧ signCheck s i = none) ∧
    (∃ s : State, ∃ i : Image, ∃ c : Nat, Alive s ∧ stepOn s 4 = true ∧ slotImg s s.dwn.slot = some i ∧ signCheck s i = some c) ∧
    (∃ s : State, ∃ i : Image, Alive s ∧ stepOn s 5 = true ∧ slotImg s s.dwn.slot = some i ∧ loadCheck s i = none) ∧
    (∃ s : State, ∃ u : State, Alive s ∧ stepOn s 6 = true ∧ s.dwn.redo ≠ [] ∧ s.bsk.selfRefresh = true ∧
      u = s.each (List.range 16) (fun x c => x.wr (R.BSK_CHc_TRAIN_OK c) (b2n (decide (c < if (popComing s).on R.BSK_POP_CHANNELS then 16 else 8)))) ∧ altOn u 6 = false ∧ u.bsk.selfRefresh = true) ∧
    (∃ s : State, Alive s ∧ stepOn s 7 = true) ∧
    (∃ s : State, Alive s ∧ stepOn s 8 = true ∧ altOn s 8 = false) ∧
    (∃ s : State, Alive s ∧ stepOn s 8 = true ∧ s.rd R.GON_STATUS_MRAM_OK = 1 ∧ altOn s 8 = true) ∧
    (∃ s : State, Alive s ∧ stepOn s 8 = true ∧ s.rd R.GON_STATUS_MRAM_OK = 0) ∧
    (∃ s : State, Alive s ∧ stepOn s 8 = true ∧ s.rd R.GON_STATUS_MRAM_OK = 1 ∧ altOn s 8 = false ∧ ringUnreadable (ringScan s.nv.ring) = false) ∧
    (∃ s : State, ∃ k : Nat, stepOn s k = false ∧ deviceOff s = false ∧ k = 1) ∧
    (∃ s : State, ∃ k : Nat, stepOn s k = false ∧ deviceOff s = false ∧ k = 2) ∧
    (∃ s : State, ∃ k : Nat, stepOn s k = false ∧ deviceOff s = false ∧ k = 3) ∧
    (∃ s : State, ∃ k : Nat, stepOn s k = false ∧ deviceOff s = false ∧ k = 4) ∧
    (∃ s : State, ∃ k : Nat, stepOn s k = false ∧ deviceOff s = false ∧ k = 5) ∧
    (∃ s : State, ∃ k : Nat, stepOn s k = false ∧ deviceOff s = false ∧ k = 7) ∧
    (∃ s : State, ∃ k : Nat, stepOn s k = false ∧ deviceOff s = false ∧ k = 8) ∧
    (∃ s : State, ∃ k : Nat, s.dwn.redo = [] ∧ s.dwn.step = k ∧ k < 17) :=
  ⟨⟨dwn 0, by decide, by decide⟩,
   ⟨dwn 1, by decide, by decide, by decide⟩,
   ⟨dwn 1, by decide, by decide⟩,
   ⟨dwn 2, by decide, by decide⟩,
   ⟨{ boot 3 with dwn.tried := true }, img, by decide, by decide, by decide, by decide, by decide⟩,
   ⟨boot 3, img, by decide, by decide, by decide, by decide, by decide, by decide, by decide, by decide, by decide⟩,
   ⟨boot 4, img, by decide, by decide, by decide, by decide⟩,
   ⟨{ dwn 4 with nv := { (dwn 4).nv with flashA := some { img with sigOk := false } } }, { img with sigOk := false }, 4, by decide, by decide,
     by decide, by decide⟩,
   ⟨boot 5, img, by decide, by decide, by decide, by decide⟩,
   ⟨{ dwn 6 with dwn.redo := [18], bsk.selfRefresh := true }, _, by decide, by decide, by decide, by decide, rfl, by decide, by decide⟩,
   ⟨dwn 7, by decide, by decide⟩,
   ⟨dwn 8, by decide, by decide, by decide⟩,
   ⟨{ (dwn 8).wr R.GON_STATUS_MRAM_OK 1 with nv := { (dwn 8).nv with startNo := 1, stepNext := 1, stepLog := [(0, some ⟨0, 8, 2, 0, 0⟩)] } },
     by decide, by decide, by decide, by decide⟩,
   ⟨(dwn 8).wr R.GON_STATUS_MRAM_OK 0, by decide, by decide, by decide⟩,
   ⟨(dwn 8).wr R.GON_STATUS_MRAM_OK 1, by decide, by decide, by decide, by decide, by decide⟩,
   ⟨dwn 0, _, by decide, by decide, rfl⟩,
   ⟨dwn 0, _, by decide, by decide, rfl⟩,
   ⟨dwn 0, _, by decide, by decide, rfl⟩,
   ⟨dwn 0, _, by decide, by decide, rfl⟩,
   ⟨dwn 0, _, by decide, by decide, rfl⟩,
   ⟨dwn 0, _, by decide, by decide, rfl⟩,
   ⟨dwn 0, _, by decide, by decide, rfl⟩,
   ⟨dwn 16, 16, by decide, by decide, by decide⟩⟩

theorem wit_DawnGoesOnToService :
    (∃ s : State, ∃ ok, Alive s ∧ stepOn s 9 = true ∧ cfgPick s (cfgSources s ok) = none) ∧
    (∃ s : State, Alive s ∧ stepOn s 10 = true ∧ skipUnits s 10 = []) ∧
    (∃ s : State, ∃ u : State, Alive s ∧ stepOn s 11 = true ∧ (List.range 2).filter (vaultHere s) = [] ∧
      u = State.useFree (State.wr { s with ext.coming := s.ext.coming.map fun (c : Coming) => if c.phase = 0 then { c with phase := 1 } else c } R.DWN_TIME_S11_MS (s.freeNat 16)) ∧ s.dwn.redo ≠ [] ∧ u.dwn.redo = s.dwn.redo) ∧
    (∃ s : State, Alive s ∧ stepOn s 12 = true ∧ bskUp s = true ∧ s.dwn.redo ≠ [] ∧ s.rd R.SPR_CFG_EN = 0) ∧
    (∃ s : State, Alive s ∧ stepOn s 12 = true ∧ bskUp s = false) ∧
    (∃ s : State, Alive s ∧ stepOn s 12 = true ∧ bskUp s = true ∧ s.rd R.SPR_CFG_EN = 1 ∧ s.pair.helloRx = none ∧ s.pair.peerGone = false) ∧
    (∃ s : State, Alive s ∧ stepOn s 13 = true ∧ (s.rd R.STG_CFG_EN = 0 ∨ strState s = sJoined)) ∧
    (∃ s : State, Alive s ∧ stepOn s 13 = true ∧ s.rd R.STG_CFG_EN = 1 ∧ strState s = sRefused) ∧
    (∃ s : State, Alive s ∧ stepOn s 14 = true ∧ s.rd R.TET_STATUS_STATE = tLocked) ∧
    (∃ s : State, Alive s ∧ stepOn s 14 = true ∧ altOn s 14 = false ∧ s.rd R.TET_CTRL_SOURCE ≠ 3 ∧ s.rd R.TET_STATUS_STATE ≠ tLocked) ∧
    (∃ s : State, ∃ u : State, Alive s ∧ stepOn s 15 = true ∧ s.pwr.reassemble = false ∧ s.dwn.needsRestore = false ∧ s.dwn.redo = [] ∧
      u = assembleAll (altOn { s with dwn.evidence := List.replicate 16 0, dwn.tails := List.replicate 16 none } 15) { s with dwn.evidence := List.replicate 16 0, dwn.tails := List.replicate 16 none }) ∧
    (∃ s : State, Alive s ∧ stepOn s 16 = true ∧ s.dwn.needsRestore = false) ∧
    (∃ s : State, Alive s ∧ stepOn s 16 = true ∧ s.dwn.needsRestore = true) ∧
    (∃ s : State, Alive s ∧ stepOn s 17 = true ∧ fails s 17 ≤ 3 ∧ s.dwn.redo = []) ∧
    (∃ s : State, Alive s ∧ stepOn s 17 = true ∧ 3 < fails s 17) :=
  ⟨⟨{ dwn 9 with dwn := { (dwn 9).dwn with image := none } }, false, by decide, by decide, by decide⟩,
   ⟨dwn 10, by decide, by decide, by decide⟩,
   ⟨{ dwn 11 with dwn := { (dwn 11).dwn with redo := [18] } }, _, by decide, by decide, by decide, rfl, by decide, by decide⟩,
   ⟨{ dwn 12 with dwn := { (dwn 12).dwn with redo := [18] } }, by decide, by decide, by decide, by decide, by decide⟩,
   ⟨(dwn 12).wr R.BSK_STATUS_MODE 3, by decide, by decide, by decide⟩,
   ⟨(dwn 12).wr R.SPR_CFG_EN 1, by decide, by decide, by decide, by decide, by decide, by decide⟩,
   ⟨dwn 13, by decide, by decide, by decide⟩,
   ⟨((dwn 13).wr R.STG_CFG_EN 1).wr R.STG_STATUS_STATE 5, by decide, by decide, by decide, by decide⟩,
   ⟨(dwn 14).wr R.TET_STATUS_STATE 2, by decide, by decide, by decide⟩,
   ⟨(dwn 14).wr R.TET_CTRL_SOURCE 0, by decide, by decide, by decide, by decide, by decide⟩,
   ⟨dwn 15, _, by decide, by decide, by decide, by decide, by decide, rfl⟩,
   ⟨dwn 16, by decide, by decide, by decide⟩,
   ⟨{ dwn 16 with dwn := { (dwn 16).dwn with needsRestore := true } }, by decide, by decide, by decide⟩,
   ⟨dwn 17, by decide, by decide, by decide, by decide⟩,
   ⟨{ dwn 17 with nv := { (dwn 17).nv with startNo := 5, stepNext := 4, stepLog := [(0, some ⟨1, 17, 0, 0, 0⟩), (1, some ⟨2, 17, 0, 0, 0⟩), (2, some ⟨3, 17, 0, 0, 0⟩), (3, some ⟨4, 17, 0, 0, 0⟩)] } }, by decide, by decide, by decide⟩⟩

theorem wit_SpdmRequestsAreAnswered :
    (∃ s : State, ∃ r : SpdmReq, ∃ e : Nat, ∃ l, ∃ code : Nat, ∃ body : List Nat, ∃ t : State, r.src = .mctp e l ∧ 6 ≤ s.dwn.step ∧ r.verOk = true ∧
      t = spdmAnswer r (code, body) s) ∧
    (∃ s : State, ∃ r : SpdmReq, ∃ e : Nat, ∃ l, Alive s ∧ r.src = .mctp e l ∧ 6 ≤ s.dwn.step ∧ r.verOk = true) ∧
    (∃ s : State, ∃ r : SpdmReq, ∃ e : Nat, ∃ l, ∃ off, ∃ len, ∃ p : List Nat, Alive s ∧ r.src = .mctp e l ∧ 6 ≤ s.dwn.step ∧ r.verOk = true ∧
      off ≤ s.nv.certChain.length ∧ p = (s.nv.certChain.drop off).take len) ∧
    (∃ s : State, ∃ r : SpdmReq, ∃ e : Nat, ∃ l, ∃ slot, Alive s ∧ r.src = .mctp e l ∧ 6 ≤ s.dwn.step ∧ r.verOk = true ∧ slot ≠ 0) ∧
    (∃ s : State, ∃ r : SpdmReq, ∃ e : Nat, ∃ l, ∃ k : Nat, Alive s ∧ r.src = .mctp e l ∧ 6 ≤ s.dwn.step ∧ r.verOk = true ∧ 1 ≤ k ∧ k ≤ 7) ∧
    (∃ s : State, ∃ r : SpdmReq, ∃ e : Nat, ∃ l, Alive s ∧ r.src = .mctp e l ∧ 6 ≤ s.dwn.step ∧ r.verOk = true) ∧
    (∃ r : SpdmReq, ∃ b, r.src = .bank b) ∧
    (∃ s : State, s.dwn.step < 6) :=
  ⟨⟨srv, ⟨.mctp 8 0, true⟩, 8, 0, 4, [], _, by decide, by decide, by decide, rfl⟩,
   ⟨srv, ⟨.mctp 8 0, true⟩, 8, 0, by decide, by decide, by decide, by decide⟩,
   ⟨srv, ⟨.mctp 8 0, true⟩, 8, 0, 0, 0, _, by decide, by decide, by decide, by decide, by decide, rfl⟩,
   ⟨srv, ⟨.mctp 8 0, true⟩, 8, 0, 1, by decide, by decide, by decide, by decide, by decide⟩,
   ⟨srv, ⟨.mctp 8 0, true⟩, 8, 0, 7, by decide, by decide, by decide, by decide, by decide, by decide⟩,
   ⟨srv, ⟨.mctp 8 0, true⟩, 8, 0, by decide, by decide, by decide, by decide⟩,
   ⟨⟨.bank 0, true⟩, 0, by decide⟩,
   ⟨dwn 5, by decide⟩⟩

theorem wit_ResetsReachAllButAon :
    (∃ s : State, s.pwr.powered = true) ∧
    (∃ s : State, s.pwr.powered = false) ∧
    (∃ s : State, s.pwr.powered = true ∧ s.pwr.rstHeld = false ∧ s.pwr.inNight = false ∧ s.rd R.BAL_STATUS_STATE ≠ 2) ∧
    (∃ s : State, s.pwr.powered = true ∧ s.pwr.rstHeld = false ∧ s.pwr.inNight = false ∧ s.rd R.BAL_STATUS_STATE = 2) ∧
    (∃ s : State, Alive s ∧ s.rd R.BAL_STATUS_STATE ≠ 2) ∧
    (∃ s : State, Alive s ∧ s.safe = true) ∧
    (∃ s : State, Alive s ∧ s.safe = false) ∧
    (∃ s : State, Alive s) ∧
    (∃ s : State, ∃ tj, 110 ≤ tj ∧ s.pwr.powered = true ∧ s.pwr.tripHeld = false ∧ s.rd R.BAL_STATUS_STATE ≠ 2) ∧
    (∃ s : State, s.pwr.tripHeld = true) ∧
    (∃ s : State, ∃ tj, Alive s ∧ 100 ≤ tj) ∧
    (∃ f, f ∈ [R.PWR_RESET_CAUSE_RST_N, R.PWR_RESET_CAUSE_WATCHDOG, R.PWR_RESET_CAUSE_THERM_TRIP, R.PWR_RESET_CAUSE_RESTART]) :=
  ⟨⟨srv, by decide⟩,
   ⟨dark, by decide⟩,
   ⟨srv, by decide, by decide, by decide, by decide⟩,
   ⟨srv.wr R.BAL_STATUS_STATE 2, by decide, by decide, by decide, by decide⟩,
   ⟨srv, by decide, by decide⟩,
   ⟨(dwn 2).wr R.DWN_STATUS_SAFE 1, by decide, by decide⟩,
   ⟨srv, by decide, by decide⟩,
   ⟨srv, by decide⟩,
   ⟨srv, 110, by decide, by decide, by decide, by decide⟩,
   ⟨{ srv with pwr := { srv.pwr with tripHeld := true } }, by decide⟩,
   ⟨srv, 100, by decide, by decide⟩,
   ⟨R.PWR_RESET_CAUSE_WATCHDOG, by decide⟩⟩

theorem wit_NightIsEnteredAndLeft :
    (∃ s : State, Alive s ∧ s.ready = true ∧ s.rd R.PWR_STATUS_STATE = 0 ∧ s.on R.PWR_CFG_DUSK_EN = true ∧
      s.rd R.PWR_CFG_DUSK_IDLE ≤ s.pwr.idleEpochs) ∧
    (∃ s : State, Alive s ∧ s.rd R.PWR_STATUS_STATE = 1) ∧
    (∃ s : State, Alive s ∧ nightCheck s = none) ∧
    (∃ s : State, ∃ c : Nat, Alive s ∧ nightCheck s = some c) ∧
    (∃ s : State, ∃ h : MbxHdr, ∃ k : Nat, Alive s ∧ s.pwr.nightReq = some h ∧ s.rd R.PWR_STATUS_STATE = 2 ∧ s.pwr.prepDone = false ∧
      s.rd R.PWR_STATUS_PREP_STEP = k ∧ nightBad s = none ∧ (stopStep k s).1 = true ∧ k ≠ 6) ∧
    (∃ s : State, ∃ h : MbxHdr, ∃ k : Nat, Alive s ∧ s.pwr.nightReq = some h ∧ s.rd R.PWR_STATUS_STATE = 2 ∧ s.pwr.prepDone = false ∧
      s.rd R.PWR_STATUS_PREP_STEP = k ∧ nightBad s = none ∧ k = 6) ∧
    (∃ s : State, ∃ h : MbxHdr, ∃ k : Nat, Alive s ∧ s.pwr.nightReq = some h ∧ s.rd R.PWR_STATUS_STATE = 2 ∧ s.pwr.prepDone = false ∧
      s.rd R.PWR_STATUS_PREP_STEP = k ∧ nightBad s = none ∧ (stopStep k s).1 = false) ∧
    (∃ s : State, ∃ h : MbxHdr, ∃ c : Nat, Alive s ∧ s.pwr.nightReq = some h ∧ s.rd R.PWR_STATUS_STATE = 2 ∧ s.pwr.prepDone = false ∧
      nightBad s = some c) ∧
    (∃ s : State, ∃ h : MbxHdr, Alive s ∧ s.pwr.nightReq = none ∧ s.pwr.shutdownReq = some h ∧ s.pwr.shutStep = 5) ∧
    (∃ s : State, ∃ h : MbxHdr, ∃ cause, Alive s ∧ s.pwr.nightReq = some h ∧ s.pwr.prepDone = false ∧ cause ≠ 0) ∧
    (∃ s : State, Alive s ∧ s.pwr.prepDone = true ∧ s.wsk.queue = [] ∧ s.wsk.staged = none) ∧
    (∃ s : State, s.rd R.PWR_STATUS_STATE = 3 ∧ s.pwr.inNight = true ∧ s.pwr.latch = 0) ∧
    (∃ s : State, s.rd R.PWR_STATUS_STATE = 3 ∧ s.pwr.inNight = true ∧ s.pwr.latch ≠ 0) ∧
    (∃ s : State, ∃ src : Nat, s.pwr.powered = true ∧ src < 4 ∧ bit (wakeEn s) src = true ∧ s.pwr.nightReq.isSome = true) ∧
    (∃ s : State, ∃ src : Nat, s.pwr.powered = true ∧ src < 4 ∧ bit (wakeEn s) src = true ∧ s.pwr.nightReq = none ∧ s.pwr.inNight = true ∧
      s.rd R.PWR_STATUS_STATE = 4) ∧
    (∃ s : State, ∃ us, ∃ m, ∃ u : State, s.rd R.PWR_STATUS_STATE = 5 ∧ s.pwr.inNight = true ∧ m < 2 ^ 24 ∧
      u = s.wr R.PWR_TIMES_EXIT_US (min us 65535) ∧ bit m 13 = true) ∧
    (∃ s : State, ∃ us, ∃ m, ∃ u : State, s.rd R.PWR_STATUS_STATE = 5 ∧ s.pwr.inNight = true ∧ m < 2 ^ 24 ∧
      u = s.wr R.PWR_TIMES_EXIT_US (min us 65535) ∧ bit m 13 = false ∧ (bit m 0 = true ∨ bit m 1 = true)) ∧
    (∃ s : State, ∃ us, ∃ m, ∃ u : State, s.rd R.PWR_STATUS_STATE = 5 ∧ s.pwr.inNight = true ∧ m < 2 ^ 24 ∧
      u = s.wr R.PWR_TIMES_EXIT_US (min us 65535) ∧ bit m 13 = false ∧ bit m 0 = false ∧ bit m 1 = false) :=
  ⟨⟨{ srv.wr R.PWR_CFG_DUSK_EN 1 with pwr := { srv.pwr with idleEpochs := 4294967295 } }, by decide, by decide, by decide, by decide, by decide⟩,
   ⟨srv.wr R.PWR_STATUS_STATE 1, by decide, by decide⟩,
   ⟨srv.wr R.PWR_WAKE_EN_PIN 1, by decide, by decide⟩,
   ⟨srv.wr R.PWR_WAKE_EN_PIN 0, eState, by decide, by decide⟩,
   ⟨ngt 2 1 [], mh, 1, by decide, by decide, by decide, by decide, by decide, by decide, by decide, by decide⟩,
   ⟨ngt 2 6 [], mh, _, by decide, by decide, by decide, by decide, by decide, by decide, rfl⟩,
   ⟨{ ngt 2 1 [] with ce.ctxs := [ctx 4 .alloc] }, mh, 1, by decide, by decide, by decide, by decide, by decide, by decide, by decide⟩,
   ⟨(ngt 2 1 []).wr R.PWR_WAKE_EN_PIN 0, mh, eState, by decide, by decide, by decide, by decide, by decide⟩,
   ⟨{ srv with pwr := { srv.pwr with shutdownReq := some mh, shutStep := 5 } }, mh, by decide, by decide, by decide, by decide⟩,
   ⟨ngt 2 1 [], mh, 1, by decide, by decide, by decide, by decide⟩,
   ⟨{ srv with pwr := { srv.pwr with prepDone := true } }, by decide, by decide, by decide, by decide⟩,
   ⟨inN 3 0, by decide, by decide, by decide⟩,
   ⟨inN 3 1, by decide, by decide, by decide⟩,
   ⟨(ngt 2 1 []).wr R.PWR_WAKE_EN_PIN 1, 0, by decide, by decide, by decide, by decide⟩,
   ⟨(inN 4 0).wr R.PWR_WAKE_EN_PIN 1, 0, by decide, by decide, by decide, by decide, by decide, by decide⟩,
   ⟨inN 5 0, 9, 8192, _, by decide, by decide, by decide, rfl, by decide⟩,
   ⟨inN 5 0, 9, 1, _, by decide, by decide, by decide, rfl, by decide, by decide⟩,
   ⟨inN 5 0, 9, 0, _, by decide, by decide, by decide, rfl, by decide, by decide, by decide⟩⟩

theorem wit_WindsockRecordsInOrder :
    (∃ s : State, Alive s ∧ s.tet.epoch % 16 = 0 ∧ s.wsk.clearing = none) ∧
    (∃ s : State, Alive s ∧ s.tet.epoch % 16 ≠ 0) ∧
    (∃ s : State, ∃ e : WEv, ∃ q : List WEv, Alive s ∧ s.wsk.queue = e :: q ∧ wskCanTake s e = true) ∧
    (∃ s : State, ∃ e : WEv, ∃ q : List WEv, Alive s ∧ s.wsk.queue = e :: q ∧ wskCanTake s e = false) ∧
    (∃ s : State, ∃ e : WEv, ∃ q : List WEv, Alive s ∧ s.wsk.blocked = e :: q ∧ s.wsk.queue.length < wskQueueMax) ∧
    (∃ s : State, ∃ e : WEv, ∃ r : WStage, s.wsk.staged = some r ∧ recMatches e r = true ∧ r.count < 65535) ∧
    (∃ s : State, ∃ e : WEv, ∃ r : WStage, s.wsk.staged = none ∧ s.wsk.last = some r ∧ recMatches e r = false) ∧
    (∃ s : State, s.pwr.dumping = false ∧ s.wsk.queue.length < wskQueueMax) ∧
    (∃ s : State, s.pwr.dumping = false ∧ wskQueueMax ≤ s.wsk.queue.length) :=
  ⟨⟨srv, by decide, by decide, by decide⟩,
   ⟨{ srv with tet.epoch := 15 }, by decide, by decide⟩,
   ⟨{ srv with wsk.queue := [⟨0x0101, 3, [], 0⟩] }, ⟨0x0101, 3, [], 0⟩, [], by decide, by decide, by decide⟩,
   ⟨{ dwn 7 with wsk.queue := [⟨0x0101, 3, [], 0⟩] }, ⟨0x0101, 3, [], 0⟩, [], by decide, by decide, by decide⟩,
   ⟨{ srv with wsk.blocked := [⟨0x0101, 3, [], 0⟩] }, ⟨0x0101, 3, [], 0⟩, [], by decide, by decide, by decide⟩,
   ⟨{ srv with wsk.staged := some ⟨5, 2, 0x0101, 3, 0, 1⟩ }, ⟨0x0101, 3, [], 0⟩, ⟨5, 2, 0x0101, 3, 0, 1⟩, by decide, by decide, by decide⟩,
   ⟨{ srv with wsk.last := some ⟨5, 2, 0x0101, 3, 0, 1⟩ }, ⟨0x0101, 4, [], 0⟩, ⟨5, 2, 0x0101, 3, 0, 1⟩, by decide, by decide, by decide⟩,
   ⟨srv, by decide, by decide⟩,
   ⟨{ srv with wsk.queue := List.replicate 256 ⟨0x0101, 3, [], 0⟩ }, by decide, Nat.le_of_eq List.length_replicate.symm⟩⟩

theorem wit_GondolaKeepsItsCheckpoints :
    (∃ s : State, Alive s ∧ s.tet.epoch % 1024 = 0) ∧
    (∃ s : State, Alive s ∧ s.tet.epoch % 1024 ≠ 0) ∧
    (∃ s : State, ∃ a, ∃ t : Tail, ∃ ms : List Nat, ∃ sched : Bool, Alive s ∧ (s.arr a).tailJob = some (t, ms, sched) ∧ journals s = true) ∧
    (∃ s : State, Alive s ∧ s.tet.epoch % 16 = 0 ∧ s.ready = true ∧ journals s = true ∧ SMap.get none (s.jrn.sealSeq % ringSlots) s.nv.ring = none) ∧
    (∃ s : State, ∃ q, ∃ r, Alive s ∧ s.jrn.sealSeq = q ∧ SMap.get none (q % ringSlots) s.nv.ring = some r ∧ r.seq = q ∧
      r.epoch / 16 < s.tet.epoch / 16 ∧ s.ready = true ∧ journals s = true) ∧
    (∃ s : State, Alive s ∧ sealDue s = false) ∧
    (∃ s : State, Alive s ∧ s.arrs.any (fun r => r.tailJob.isSome) = true) ∧
    (∃ s : State, Alive s ∧ s.arrs.any (fun r => r.tailJob.isSome) = false) ∧
    (∃ s : State, Alive s) ∧
    (∃ s : State, ∃ w : MramWhere, ∃ u : State, ∃ c : Nat, Alive s ∧ u = (s.incSat R.GON_MRAM_ERR_UE).raise R.GON_INT_STATUS_MRAM_UE ∧ w = .root c ∧
      c % 2 = 0) ∧
    (∃ s : State, ∃ w : MramWhere, ∃ u : State, ∃ c : Nat, Alive s ∧ u = (s.incSat R.GON_MRAM_ERR_UE).raise R.GON_INT_STATUS_MRAM_UE ∧ w = .root c ∧
      c % 2 = 1) ∧
    (∃ s : State, ∃ w : MramWhere, ∃ u : State, ∃ x : Nat, Alive s ∧ u = (s.incSat R.GON_MRAM_ERR_UE).raise R.GON_INT_STATUS_MRAM_UE ∧
      w = .windsock x) ∧
    (∃ s : State, ∃ w : MramWhere, ∃ u : State, Alive s ∧ u = (s.incSat R.GON_MRAM_ERR_UE).raise R.GON_INT_STATUS_MRAM_UE ∧ w = .persistent) ∧
    (∃ s : State, ∃ w : MramWhere, ∃ u : State, ∃ x : Nat, Alive s ∧ u = (s.incSat R.GON_MRAM_ERR_UE).raise R.GON_INT_STATUS_MRAM_UE ∧ w = .user x) ∧
    (∃ s : State, ∃ w : MramWhere, ∃ u : State, ∃ k : Nat, Alive s ∧ u = (s.incSat R.GON_MRAM_ERR_UE).raise R.GON_INT_STATUS_MRAM_UE ∧ w = .ring k ∧
      SMap.get none (k % ringSlots) u.nv.ring = none) ∧
    (∃ s : State, ∃ a, ∃ r, Alive s ∧ s.ce.sops.filter (fun o => o.phase = .region && o.array = a && o.stripe / tailR s a = r) = []) ∧
    (∃ s : State, ∃ a, ∃ r, ∃ o : SOp, Alive s ∧ s.ce.sops.filter (fun o => o.phase = .region && o.array = a && o.stripe / tailR s a = r) = [o] ∧
      s.ce.sops.find? (fun x => x.id = o.id) = some o ∧ mirroring s = true ∧ o.mirEpoch ≠ 0) ∧
    (∃ s : State, ∃ a, ∃ r, ∃ o : SOp, ∃ m, ∃ d, Alive s ∧
      s.ce.sops.filter (fun o => o.phase = .region && o.array = a && o.stripe / tailR s a = r) = [o] ∧
      s.ce.sops.find? (fun x => x.id = o.id) = some o ∧ mirroring s = false ∧ m < memN s a ∧ bit o.wmask m = true ∧ d ∈ writeDrvs s a m o.stripe) ∧
    (∃ s : State, (∀ r ∈ ringRecs s, r.seq < s.jrn.nextSeq ∧ s.jrn.nextSeq < r.seq + 172032)) :=
  ⟨⟨srv, by decide, by decide⟩,
   ⟨{ srv with tet.epoch := 1023 }, by decide, by decide⟩,
   ⟨{ srv with arrs := modAt 0 (fun r => { r with tailJob := some (tail0, [0, 1, 2], true) }) srv.arrs }, 0, tail0, [0, 1, 2], true, by decide,
     by decide, by decide⟩,
   ⟨srv, by decide, by decide, by decide, by decide, by decide⟩,
   ⟨{ srv with jrn.sealSeq := 5, nv.ring := [(5, some (rec 5))], tet.epoch := 16 }, 5, rec 5, by decide, by decide, by decide, by decide, by decide,
     by decide, by decide⟩,
   ⟨{ srv with tet.epoch := 1 }, by decide, by decide⟩,
   ⟨{ srv with arrs := modAt 0 (fun r => { r with tailJob := some (tail0, [0, 1, 2], true) }) srv.arrs }, by decide, by decide⟩,
   ⟨srv, by decide, by decide⟩,
   ⟨srv, by decide⟩,
   ⟨srv, _, _, 0, by decide, rfl, rfl, by decide⟩,
   ⟨srv, _, _, 1, by decide, rfl, rfl, by decide⟩,
   ⟨srv, _, _, 131071, by decide, rfl, rfl⟩,
   ⟨srv, _, _, by decide, rfl, rfl⟩,
   ⟨srv, _, _, 3, by decide, rfl, rfl⟩,
   ⟨srv, _, _, 229375, by decide, rfl, rfl, by decide⟩,
   ⟨arr, 0, 0, by decide, by decide⟩,
   ⟨{ arr.wr R.SPR_STATUS_STATE 3 with ce.sops := [{ sop with mirEpoch := 3 }] }, 0, 0, { sop with mirEpoch := 3 }, by decide, by decide, by decide,
     by decide, by decide⟩,
   ⟨{ arr with ce.sops := [sop] }, 0, 0, sop, 0, 0, by decide, by decide, by decide, by decide, by decide, by decide, by decide⟩,
   ⟨srv, by decide⟩⟩

theorem wit_TestPortTakesItsInstructions :
    (∃ s : State, s.pwr.powered = true) ∧
    (∃ s : State, s.pwr.powered = true) ∧
    (∃ s : State, s.pwr.powered = true) ∧
    (∃ s : State, s.pwr.powered = false) :=
  ⟨⟨srv, by decide⟩,
   ⟨srv, by decide⟩,
   ⟨srv, by decide⟩,
   ⟨dark, by decide⟩⟩

/-- A mailbox request of n payload bytes from MCTP endpoint 8. -/
def mq (n : Nat) : MbxHdr := ⟨.mctp 8 0, 1, n, false⟩

/-- A customer key in slot 1 and an outstanding nonce. -/
def sec : State := { srv with nv := { srv.nv with slots := [⟨true, false, false, 0⟩, ⟨true, false, false, 5⟩, ⟨false, false, false, 0⟩, ⟨false, false, false, 0⟩] }, dwn := { srv.dwn with nonce := some (77 * 2 ^ 48) } }

/-- A token for an opcode that verifies. -/
def tok (op : Nat) : Token := ⟨1, true, 77, 0, op⟩

/-- A configuration image. -/
def cimg : Image := ⟨true, 0xFF, 0, true, true, 0, true, 0, 0, 0, 0, 1, 1, [0x0101], [], [], 0⟩

/-- The host key enrolled. -/
def hk : State := { srv with nv := { srv.nv with hostKey := ⟨true, false, false, 0⟩, persistMode := true } }

/-- The Reel with shared time. -/
def pub : State := reel.wr R.TET_STATUS_STATE 2

/-- A firmware write of Firmware Commit. -/
def fw : FwWrite := ⟨none, 0, 1, img⟩

/-- Array 0 with member 1 missing. -/
def deg : State := (arr.wr (R.STR_An_STATUS_STATE 0) 1).wr (R.STR_An_MISSMAP_MISS 0) 2

theorem wit_MailboxRepliesToItsSender :
    (∃ s : State, ∃ h : MbxHdr, ∃ b : Nat, ∃ op : Nat, ∃ code : Nat, ∃ detail : Nat, ∃ p : List Nat, ∃ t : State, h.src = .bank b ∧
      h.resvBad = false ∧ code < 256 ∧ t = mbxReply h op code detail p s) ∧
    (∃ s : State, ∃ h : MbxHdr, ∃ b : Nat, ∃ op : Nat, ∃ code : Nat, ∃ detail : Nat, ∃ p : List Nat, ∃ t : State, h.src = .bank b ∧
      h.resvBad = false ∧ code < 256 ∧ t = mbxReply h op code detail p s ∧ code ≠ eOk) ∧
    (∃ s : State, ∃ h : MbxHdr, ∃ b : Nat, ∃ op : Nat, ∃ code : Nat, ∃ detail : Nat, ∃ p : List Nat, ∃ t : State, ∃ i : Nat, h.src = .bank b ∧
      h.resvBad = false ∧ code < 256 ∧ t = mbxReply h op code detail p s ∧ i < (replyBytes op code h.tag detail p).length) ∧
    (∃ s : State, ∃ h : MbxHdr, ∃ b : Nat, ∃ op : Nat, ∃ code : Nat, ∃ detail : Nat, ∃ p : List Nat, ∃ t : State, ∃ k : Nat, h.src = .bank b ∧
      h.resvBad = false ∧ code < 256 ∧ t = mbxReply h op code detail p s ∧
      ((k < b * mbxBuf ∨ b * mbxBuf + (replyBytes op code h.tag detail p).length ≤ k))) ∧
    (∃ s : State, ∃ h : MbxHdr, ∃ b : Nat, ∃ op : Nat, ∃ code : Nat, ∃ detail : Nat, ∃ p : List Nat, ∃ t : State, ∃ f : Fld, h.src = .bank b ∧
      h.resvBad = false ∧ code < 256 ∧ t = mbxReply h op code detail p s ∧ f.off < 0x10000000 ∧ f.lo < 32) ∧
    (∃ s : State, ∃ h : MbxHdr, ∃ e, ∃ l, ∃ op : Nat, ∃ code : Nat, ∃ detail : Nat, ∃ p : List Nat, ∃ t : State, h.src = .mctp e l ∧
      h.resvBad = false ∧ t = mbxReply h op code detail p s) ∧
    (∃ h : MbxHdr, h.resvBad = true) :=
  ⟨⟨srv, ⟨.bank 1, 1, 4, false⟩, 1, 1, 5, 0, [], _, by decide, by decide, by decide, rfl⟩,
   ⟨srv, ⟨.bank 1, 1, 4, false⟩, 1, 1, 5, 0, [], _, by decide, by decide, by decide, rfl, by decide⟩,
   ⟨srv, ⟨.bank 1, 1, 4, false⟩, 1, 1, 5, 0, [], _, 0, by decide, by decide, by decide, rfl, by decide⟩,
   ⟨srv, ⟨.bank 1, 1, 4, false⟩, 1, 1, 5, 0, [], _, 0, by decide, by decide, by decide, rfl, by decide⟩,
   ⟨srv, ⟨.bank 1, 1, 4, false⟩, 1, 1, 5, 0, [], _, R.TET_STATUS_STATE, by decide, by decide, by decide, rfl, by decide, by decide⟩,
   ⟨srv, ⟨.mctp 8 0, 1, 4, false⟩, 8, 0, 1, 5, 0, [], _, by decide, by decide, rfl⟩,
   ⟨{ mq 0 with resvBad := true }, by decide⟩⟩

theorem wit_MailboxChecksInOrder :
    (∃ h : MbxHdr, ∃ h0 : MbxHdr, h0 = { h with resvBad := false }) :=
  ⟨mq 0, _, rfl⟩

theorem wit_MailboxReadsAnswer :
    (∃ s : State, ∃ h : MbxHdr, ∃ off : Nat, ∃ n : Nat, ∃ vs : List Nat, ∃ v : State, ∃ u : State, MbxReady h s ∧ h.len = 8 ∧ 1 ≤ n ∧ n ≤ 1020 ∧
      off % 4 = 0 ∧ u = mbxTaken h 1 s ∧ readWords (actLink h) off n u = (some vs, v)) ∧
    (∃ s : State, ∃ h : MbxHdr, ∃ off : Nat, ∃ u : State, MbxReady h s ∧ h.len = 8 ∧ off % 4 = 0 ∧ windowOf off = 0 ∧ inBlock off = true ∧
      u = mbxTaken h 2 s) ∧
    (∃ s : State, ∃ h : MbxHdr, ∃ first, ∃ n : Nat, ∃ u : State, MbxReady h s ∧ h.len = 4 ∧ 1 ≤ n ∧ n ≤ 255 ∧ first ≤ 4095 ∧ u = mbxTaken h 3 s) ∧
    (∃ s : State, ∃ h : MbxHdr, ∃ u : State, MbxReady h s ∧ h.len = 0 ∧ u = mbxTaken h 4 s ∧ u.ready = true ∧ u.safe = false ∧
      u.pwr.shutdownDone = false ∧ u.pwr.shutdownReq = none ∧ u.pwr.nightReq = none) ∧
    (∃ s : State, ∃ h : MbxHdr, ∃ u : State, MbxReady h s ∧ h.len = 0 ∧ u = mbxTaken h 4 s ∧ u.ready = true ∧ u.safe = false ∧
      u.pwr.shutdownDone = true) ∧
    (∃ s : State, ∃ h : MbxHdr, Alive s ∧ s.pwr.nightReq = none ∧ s.pwr.shutdownReq = some h ∧ s.pwr.shutStep < 5 ∧
      (stopStep s.pwr.shutStep s).1 = true) ∧
    (∃ s : State, ∃ h : MbxHdr, Alive s ∧ s.pwr.nightReq = none ∧ s.pwr.shutdownReq = some h ∧ s.pwr.shutStep = 5 ∧ h.resvBad = false) ∧
    (∃ s : State, ∃ h : MbxHdr, ∃ first, ∃ n : Nat, ∃ u : State, MbxReady h s ∧ h.len = 4 ∧ 1 ≤ n ∧ n ≤ 127 ∧ isReel s = true ∧
      first + n ≤ strSize s ∧ u = mbxTaken h 0x0304 s) ∧
    (∃ s : State, ∃ h : MbxHdr, ∃ first, ∃ n : Nat, ∃ u : State, MbxReady h s ∧ h.len = 4 ∧ 1 ≤ n ∧ n ≤ 63 ∧ first + n ≤ 1024 ∧
      strState s = sJoined ∧ u = mbxTaken h 0x0305 s) ∧
    (∃ s : State, ∃ h : MbxHdr, ∃ off : Nat, ∃ len : Nat, ∃ u : State, MbxReady h s ∧ h.len = 8 ∧ u = mbxTaken h 0x0501 s ∧ wskIsOpen s = true ∧
      len ≤ 4080 ∧ off + len ≤ 2 ^ 20 ∧ wskBad u off len = false) ∧
    (∃ s : State, ∃ h : MbxHdr, ∃ first, ∃ n : Nat, ∃ u : State, MbxReady h s ∧ h.len = 4 ∧ 1 ≤ n ∧ n ≤ 127 ∧ first + n ≤ nsMax ∧
      u = mbxTaken h 0x0203 s) ∧
    (∃ s : State, ∃ h : MbxHdr, ∃ opc, ∃ u : State, MbxReady h s ∧ opc ∉ mbxCodes ∧ u = mbxTaken h opc s) ∧
    (∃ opc, opc ∈ mbxCodes) :=
  ⟨⟨srv, mq 8, 0x100000, 1, _, _, _, ⟨by decide, by decide, by decide, by decide, by decide, by decide, by decide,
    by change mctpOpen _ _ = false; decide⟩, by decide, by decide, by decide, by decide, rfl, rfl⟩,
   ⟨srv, mq 8, 0x100000, _, ⟨by decide, by decide, by decide, by decide, by decide, by decide, by decide, by change mctpOpen _ _ = false; decide⟩,
     by decide, by decide, by decide, by decide, rfl⟩,
   ⟨srv, mq 4, 4095, 255, _, ⟨by decide, by decide, by decide, by decide, by decide, by decide, by decide, by change mctpOpen _ _ = false; decide⟩,
     by decide, by decide, by decide, by decide, rfl⟩,
   ⟨srv, mq 0, _, ⟨by decide, by decide, by decide, by decide, by decide, by decide, by decide, by change mctpOpen _ _ = false; decide⟩, by decide,
     rfl, by decide, by decide, by decide, by decide, by decide⟩,
   ⟨{ srv with pwr := { srv.pwr with shutdownDone := true } }, mq 0, _, ⟨by decide, by decide, by decide, by decide, by decide, by decide,
     by decide, by change mctpOpen _ _ = false; decide⟩, by decide, rfl, by decide, by decide, by decide⟩,
   ⟨{ srv with pwr := { srv.pwr with shutdownReq := some (mq 0) } }, mq 0, by decide, by decide, by decide, by decide, by decide⟩,
   ⟨{ srv with pwr := { srv.pwr with shutdownReq := some (mq 0), shutStep := 5 } }, mq 0, by decide, by decide, by decide, by decide, by decide⟩,
   ⟨((str 3 1).wr R.STG_STATUS_REEL 1).wr R.STG_RING_SIZE 1, mq 4, 0, 1, _, ⟨by decide, by decide, by decide, by decide, by decide, by decide,
     by decide, by change mctpOpen _ _ = false; decide⟩, by decide, by decide, by decide, by decide, by decide, rfl⟩,
   ⟨str 3 2, mq 4, 961, 63, _, ⟨by decide, by decide, by decide, by decide, by decide, by decide, by decide,
     by change mctpOpen _ _ = false; decide⟩, by decide, by decide, by decide, by decide, by decide, rfl⟩,
   ⟨srv.wr R.WSK_CFG_ACCESS 1, mq 8, 2 ^ 20 - 4080, 4080, _, ⟨by decide, by decide, by decide, by decide, by decide, by decide, by decide,
     by change mctpOpen _ _ = false; decide⟩, by decide, rfl, by decide, by decide, by decide, by decide⟩,
   ⟨srv, mq 4, 0, 1, _, ⟨by decide, by decide, by decide, by decide, by decide, by decide, by decide, by change mctpOpen _ _ = false; decide⟩,
     by decide, by decide, by decide, by decide, rfl⟩,
   ⟨srv, mq 0, 0x0999, _, ⟨by decide, by decide, by decide, by decide, by decide, by decide, by decide, by change mctpOpen _ _ = false; decide⟩,
     by decide, rfl⟩,
   ⟨0x0101, by decide⟩⟩

set_option maxRecDepth 20000 in
theorem wit_ShadowSetIsWrittenAndLaunched :
    (∃ s : State, ∃ h : MbxHdr, ∃ items : List CfgItem, ∃ u : State, MbxReady h s ∧ h.len = 4 + 8 * items.length ∧ notActive s = false ∧
      u = mbxTaken h 0x0101 s ∧ shadowShut u = none ∧ (∀ i ∈ items, itemErr i = none)) ∧
    (∃ s : State, ∃ h : MbxHdr, ∃ items : List CfgItem, ∃ u : State, ∃ k : Nat, ∃ i : CfgItem, ∃ c : Nat, MbxReady h s ∧
      h.len = 4 + 8 * items.length ∧ notActive s = false ∧ u = mbxTaken h 0x0101 s ∧ shadowShut u = none ∧ items[k]? = some i ∧ itemErr i = some c ∧
      ((∀ j, j < k → ∀ x, items[j]? = some x → itemErr x = none))) ∧
    (∃ s : State, ∃ h : MbxHdr, ∃ n : Nat, ∃ total, ∃ off : Nat, ∃ data : List Nat, ∃ u : State, MbxReady h s ∧ h.len = 12 + data.length ∧
      (n = 1 ∨ n = 2) ∧ total ≤ tableMax n ∧ off + data.length ≤ total ∧ notActive s = false ∧ u = mbxTaken h 0x0102 s ∧ shadowShut u = none ∧
      off = 0 ∧ data.length < total) ∧
    (∃ s : State, ∃ h : MbxHdr, ∃ n : Nat, ∃ total, ∃ off : Nat, ∃ data : List Nat, ∃ u : State, MbxReady h s ∧ h.len = 12 + data.length ∧
      (n = 1 ∨ n = 2) ∧ total ≤ tableMax n ∧ off + data.length ≤ total ∧ notActive s = false ∧ u = mbxTaken h 0x0102 s ∧ shadowShut u = none ∧
      off = 0 ∧ data.length = total ∧ tableErr n data = none) ∧
    (∃ s : State, ∃ h : MbxHdr, ∃ off : Nat, ∃ u : State, MbxReady h s ∧ h.len = 12 ∧ off % 4 = 0 ∧ off < 2 ^ 31 ∧ inBlock off = true ∧
      u = mbxTaken h 0x0103 s ∧ shadowShut u = none) ∧
    (∃ s : State, ∃ h : MbxHdr, ∃ n : Nat, ∃ len : Nat, ∃ u : State, MbxReady h s ∧ h.len = 12 ∧ (n = 1 ∨ n = 2) ∧ 1 ≤ len ∧ len ≤ 4080 ∧
      u = mbxTaken h 0x0103 s ∧ shadowShut u = none ∧ len ≤ (tableOf u.dwn.shadowTables n).length) ∧
    (∃ s : State, ∃ h : MbxHdr, ∃ u : State, MbxReady h s ∧ h.len = 0 ∧ notActive s = false ∧ u = mbxTaken h 0x0104 s ∧ shadowShut u = none) ∧
    (∃ s : State, ∃ h : MbxHdr, ∃ u : State, MbxReady h s ∧ h.len = 0 ∧ notActive s = false ∧ u = mbxTaken h 0x0105 s ∧ u.ready = true ∧
      u.safe = false ∧ u.rd R.HPT_CE_ACT_PHASE < 2 ∧ u.dwn.launch.isSome = true) ∧
    (∃ s : State, ∃ h : MbxHdr, ∃ u : State, MbxReady h s ∧ h.len = 0 ∧ notActive s = false ∧ u = mbxTaken h 0x0105 s ∧ u.ready = true ∧
      u.safe = false ∧ u.rd R.HPT_CE_ACT_PHASE < 2 ∧ u.dwn.launch = none ∧ u.dwn.flashOp = none ∧ shadowDiff u = false) ∧
    (∃ s : State, ∃ h : MbxHdr, ∃ u : State, ∃ f : CfgFail, MbxReady h s ∧ h.len = 0 ∧ notActive s = false ∧ u = mbxTaken h 0x0105 s ∧
      u.ready = true ∧ u.safe = false ∧ u.rd R.HPT_CE_ACT_PHASE < 2 ∧ u.dwn.launch = none ∧ u.dwn.flashOp = none ∧ shadowDiff u = true ∧
      launchFail u = some f) ∧
    (∃ s : State, ∃ h : MbxHdr, ∃ u : State, MbxReady h s ∧ h.len = 0 ∧ notActive s = false ∧ u = mbxTaken h 0x0105 s ∧ u.ready = true ∧
      u.safe = false ∧ u.rd R.HPT_CE_ACT_PHASE < 2 ∧ u.dwn.launch = none ∧ u.dwn.flashOp = none ∧ shadowDiff u = true ∧ launchFail u = none) ∧
    (∃ s : State, ∃ h : MbxHdr, ∃ t : State, s.dwn.launch = some h ∧ launchFail s = none ∧ h.resvBad = false ∧ t = applyEffects s (shadowAsSet s) ∧
      t.dwn.configGen < 2 ^ 64) ∧
    (∃ s : State, ∃ h : MbxHdr, ∃ off : Nat, ∃ u : State, ∃ e : List Nat, MbxReady h s ∧ h.len = 4 ∧ u = mbxTaken h 0x0106 s ∧ 10 ≤ s.dwn.step ∧
      off ≠ 0 ∧ s.dwn.exported = some (s.dwn.configGen, e) ∧ off < e.length) :=
  ⟨⟨srv, mq 4, [], _, ⟨by decide, by decide, by decide, by decide, by decide, by decide, by decide, by change mctpOpen _ _ = false; decide⟩,
    by decide, by decide, rfl, by decide, by decide⟩,
   ⟨srv, mq 12, [⟨0, 0⟩], _, 0, ⟨0, 0⟩, eField, ⟨by decide, by decide, by decide, by decide, by decide, by decide, by decide,
     by change mctpOpen _ _ = false; decide⟩, by decide, by decide, rfl, by decide, by decide, by decide, by decide⟩,
   ⟨srv, mq 13, 1, 512, _, [7], _, ⟨by decide, by decide, by decide, by decide, by decide, by decide, by decide,
     by change mctpOpen _ _ = false; decide⟩, by decide, by decide, by decide, by decide, by decide, rfl, by decide, rfl, by decide⟩,
   ⟨srv, mq 12, 1, 0, _, [], _, ⟨by decide, by decide, by decide, by decide, by decide, by decide, by decide,
     by change mctpOpen _ _ = false; decide⟩, by decide, by decide, by decide, by decide, by decide, rfl, by decide, rfl, by decide, by decide⟩,
   ⟨srv, mq 12, 0x100000, _, ⟨by decide, by decide, by decide, by decide, by decide, by decide, by decide, by change mctpOpen _ _ = false; decide⟩,
     by decide, by decide, by decide, by decide, rfl, by decide⟩,
   ⟨{ srv with dwn := { srv.dwn with shadowTables := [(1, [1, 2])] } }, mq 12, 1, 2, _, ⟨by decide, by decide, by decide, by decide, by decide,
     by decide, by decide, by change mctpOpen _ _ = false; decide⟩, by decide, by decide, by decide, by decide, rfl, by decide, by decide⟩,
   ⟨srv, mq 0, _, ⟨by decide, by decide, by decide, by decide, by decide, by decide, by decide, by change mctpOpen _ _ = false; decide⟩, by decide,
     by decide, rfl, by decide⟩,
   ⟨{ srv with dwn := { srv.dwn with launch := some mh } }, mq 0, _, ⟨by decide, by decide, by decide, by decide, by decide, by decide, by decide,
     by change mctpOpen _ _ = false; decide⟩, by decide, by decide, rfl, by decide, by decide, by decide, by decide⟩,
   ⟨srv, mq 0, _, ⟨by decide, by decide, by decide, by decide, by decide, by decide, by decide, by change mctpOpen _ _ = false; decide⟩, by decide,
     by decide, rfl, by decide, by decide, by decide, by decide, by decide, by decide⟩,
   ⟨{ srv with shadow := [(R.BSK_LAYOUT_USER_UNITS.key, 127)] }, mq 0, _, (eRange, 0x50000C), ⟨by decide, by decide, by decide, by decide,
     by decide, by decide, by decide, by change mctpOpen _ _ = false; decide⟩, by decide, by decide, rfl, by decide, by decide, by decide,
     by decide, by decide, by decide, by decide⟩,
   ⟨{ srv with shadow := [(R.WSK_CFG_ACCESS.key, 1)] }, mq 0, _, ⟨by decide, by decide, by decide, by decide, by decide, by decide, by decide,
     by change mctpOpen _ _ = false; decide⟩, by decide, by decide, rfl, by decide, by decide, by decide, by decide, by decide, by decide, by decide⟩,
   ⟨{ srv with dwn := { srv.dwn with launch := some mh } }, mh, _, by decide, by decide, by decide, rfl, by decide⟩,
   ⟨{ srv with dwn := { srv.dwn with exported := some (0, [1, 2, 3]) } }, mq 4, 2, _, [1, 2, 3], ⟨by decide, by decide, by decide, by decide,
     by decide, by decide, by decide, by change mctpOpen _ _ = false; decide⟩, by decide, rfl, by decide, by decide, by decide, by decide⟩⟩

theorem wit_ImagesGoToFlash :
    (∃ s : State, ∃ h : MbxHdr, ∃ total : Nat, ∃ off : Nat, ∃ len : Nat, ∃ u : State, MbxReady h s ∧ h.len = 8 + len ∧ total ≤ 2 * 2 ^ 20 ∧
      notActive s = false ∧ u = mbxTaken h 0x0107 s ∧ u.dwn.launch = none ∧ flashBusy u = false ∧ off = 0 ∧ len < total) ∧
    (∃ s : State, ∃ h : MbxHdr, ∃ total : Nat, ∃ off : Nat, ∃ len : Nat, ∃ img : Image, ∃ u : State, ∃ c : Nat × Nat, MbxReady h s ∧
      h.len = 8 + len ∧ total ≤ 2 * 2 ^ 20 ∧ notActive s = false ∧ u = mbxTaken h 0x0107 s ∧ u.dwn.launch = none ∧ flashBusy u = false ∧
      ((off = 0 ∨ u.dwn.upload = some (0x0107, total, off))) ∧ off + len = total ∧ imageCheck u 1 img = some c) ∧
    (∃ s : State, ∃ h : MbxHdr, ∃ total : Nat, ∃ off : Nat, ∃ len : Nat, ∃ img : Image, ∃ u : State, MbxReady h s ∧ h.len = 8 + len ∧
      total ≤ 2 * 2 ^ 20 ∧ notActive s = false ∧ u = mbxTaken h 0x0107 s ∧ u.dwn.launch = none ∧ flashBusy u = false ∧
      ((off = 0 ∨ u.dwn.upload = some (0x0107, total, off))) ∧ off + len = total ∧ imageCheck u 1 img = none ∧ sameSet u img = true) ∧
    (∃ s : State, ∃ h : MbxHdr, ∃ slot, ∃ pref, ∃ total : Nat, ∃ len : Nat, ∃ img : Image, ∃ u : State, MbxReady h s ∧ h.len = 12 + len ∧ slot < 2 ∧
      pref < 2 ∧ total ≤ 28 * 2 ^ 20 ∧ notActive s = false ∧ u = mbxTaken h 0x0108 s ∧ flashBusy u = false ∧ len = total ∧
      imageCheck u 0 img = none) ∧
    (∃ s : State, ∃ h : MbxHdr, ∃ total : Nat, ∃ len : Nat, ∃ img : Image, ∃ u : State, ∃ c : Nat, MbxReady h s ∧ h.len = 8 + len ∧ total ≤ 327680 ∧
      notActive s = false ∧ timeShared s = true ∧ u = mbxTaken h 0x0109 s ∧ strState u = sJoined ∧ u.str.pub = none ∧ len = total ∧
      sectionsErr systemScope img.items img.tables = some c) ∧
    (∃ s : State, ∃ h : MbxHdr, ∃ total : Nat, ∃ len : Nat, ∃ img : Image, ∃ u : State, ∃ r : State, MbxReady h s ∧ h.len = 8 + len ∧
      total ≤ 327680 ∧ notActive s = false ∧ timeShared s = true ∧ u = mbxTaken h 0x0109 s ∧ strState u = sJoined ∧ u.str.pub = none ∧ len = total ∧
      sectionsErr systemScope img.items img.tables = none ∧ isReel u = true ∧
      reelPublish total img.items img.tables { u with dwn.upload := none, str.pub := some (h, sysGen u + 1) } = (true, r)) ∧
    (∃ s : State, ∃ h : MbxHdr, ∃ total : Nat, ∃ len : Nat, ∃ img : Image, ∃ u : State, MbxReady h s ∧ h.len = 8 + len ∧ total ≤ 327680 ∧
      notActive s = false ∧ timeShared s = true ∧ u = mbxTaken h 0x0109 s ∧ strState u = sJoined ∧ u.str.pub = none ∧ len = total ∧
      sectionsErr systemScope img.items img.tables = none ∧ isReel u = true ∧ u.str.dist = none ∧ u.str.census = none ∧
      systemFail img.items img.tables u = none) ∧
    (∃ s : State, ∃ o : Offer, ∃ h : MbxHdr, ∃ g, ∃ u : State, ∃ t : State, s.str.offer = some o ∧ o.applyEpoch ≤ s.tet.epoch ∧ o.verdict = 1 ∧
      o.gen < 2 ^ 32 ∧ u = distEnd { s with str.offer := none } ∧ t = applyEffects u (withSystem o.items o.tables u) ∧ t.str.pub = some (h, g) ∧
      t.str.fetch = none ∧ h.resvBad = false) ∧
    (∃ s : State, ∃ p : Nat × MbxHdr × Image × Nat, Alive s ∧ s.dwn.flashOp = some p) ∧
    (∃ s : State, ∃ w : FwWrite, ∃ ws : List FwWrite, Alive s ∧ s.dwn.flashOp = none ∧ s.ce.fwWrites = w :: ws) ∧
    (∃ k : Nat, k < 4) ∧
    (∃ h : MbxHdr, h.resvBad = false) :=
  ⟨⟨srv, mq 24, 4096, _, 16, _, ⟨by decide, by decide, by decide, by decide, by decide, by decide, by decide,
    by change mctpOpen _ _ = false; decide⟩, by decide, by decide, by decide, rfl, by decide, by decide, rfl, by decide⟩,
   ⟨srv, mq 12, 4, 0, 4, cimg, _, (2, eAuth), ⟨by decide, by decide, by decide, by decide, by decide, by decide, by decide,
     by change mctpOpen _ _ = false; decide⟩, by decide, by decide, by decide, rfl, by decide, by decide, by decide, by decide, by decide⟩,
   ⟨hk, mq 12, 4, 0, 4, cimg, _, ⟨by decide, by decide, by decide, by decide, by decide, by decide, by decide,
     by change mctpOpen _ _ = false; decide⟩, by decide, by decide, by decide, rfl, by decide, by decide, by decide, by decide, by decide, by decide⟩,
   ⟨srv, mq 16, 1, 1, 4, _, img, _, ⟨by decide, by decide, by decide, by decide, by decide, by decide, by decide,
     by change mctpOpen _ _ = false; decide⟩, by decide, by decide, by decide, by decide, by decide, rfl, by decide, rfl, by decide⟩,
   ⟨pub, mq 12, 4, _, { cimg with items := [⟨0, 0⟩] }, _, eField, ⟨by decide, by decide, by decide, by decide, by decide, by decide, by decide,
     by change mctpOpen _ _ = false; decide⟩, by decide, by decide, by decide, by decide, rfl, by decide, by decide, rfl, by decide⟩,
   ⟨pub, mq 12, 4, _, cimg, _, _, ⟨by decide, by decide, by decide, by decide, by decide, by decide, by decide,
     by change mctpOpen _ _ = false; decide⟩, by decide, by decide, by decide, by decide, rfl, by decide, by decide, rfl, by decide, by decide, rfl⟩,
   ⟨pub, mq 12, 4, _, cimg, _, ⟨by decide, by decide, by decide, by decide, by decide, by decide, by decide,
     by change mctpOpen _ _ = false; decide⟩, by decide, by decide, by decide, by decide, rfl, by decide, by decide, rfl, by decide +kernel,
     by decide, by decide, by decide +kernel, by decide +kernel⟩,
   ⟨{ reel with str.offer := some ⟨6, 0, 0, true, [], [], [], 1⟩, str.pub := some (mq 0, 6) }, ⟨6, 0, 0, true, [], [], [], 1⟩, mq 0, 6, _, _,
     by decide, by decide, by decide, by decide, rfl, rfl, by decide +kernel, by decide +kernel, by decide +kernel⟩,
   ⟨{ srv with dwn := { srv.dwn with flashOp := some (0, mh, cimg, 2) } }, (0, mh, cimg, 2), by decide, by decide⟩,
   ⟨{ srv with ce.fwWrites := [fw] }, fw, [], by decide, by decide, by decide⟩,
   ⟨0, by decide⟩,
   ⟨mh, by decide⟩⟩

theorem wit_KeysAreProgrammed :
    (∃ s : State, ∃ h : MbxHdr, ∃ u : State, MbxReady h s ∧ h.len = 0 ∧ u = mbxTaken h 0x0401 s) ∧
    (∃ s : State, ∃ h : MbxHdr, ∃ slot, ∃ u : State, MbxReady h s ∧ customerSet s = false ∧ h.len = 120 ∧ slot ≤ 3 ∧ u = mbxTaken h 0x0402 s ∧
      (keySlot u slot).programmed = false ∧ (keySlot u slot).damaged = false ∧ u.dwn.otpOp = none) ∧
    (∃ s : State, ∃ h : MbxHdr, ∃ slot, ∃ u : State, MbxReady h s ∧ customerSet s = false ∧ h.len = 120 ∧ slot ≤ 3 ∧ u = mbxTaken h 0x0402 s ∧
      (keySlot u slot).programmed = false ∧ (keySlot u slot).damaged = false ∧ u.dwn.otpOp = none ∧ slot < s.nv.slots.length) ∧
    (∃ s : State, ∃ h : MbxHdr, ∃ slot, ∃ t : Token, ∃ u : State, MbxReady h s ∧ h.len = 128 ∧ slot ≤ 4 ∧ slot ≠ 0 ∧
      u = { mbxTaken h 0x0403 s with dwn.nonce := none } ∧ tokenOk (mbxTaken h 0x0403 s) 0x0403 t = true ∧
      (bootImages u).any (fun i => keyCheck u i && ! keyCheck (revoked slot u) i) = false ∧ u.dwn.otpOp = none) ∧
    (∃ s : State, ∃ h : MbxHdr, ∃ slot, ∃ t : Token, ∃ u : State, MbxReady h s ∧ h.len = 128 ∧ slot ≤ 4 ∧ slot ≠ 0 ∧
      u = { mbxTaken h 0x0403 s with dwn.nonce := none } ∧ tokenOk (mbxTaken h 0x0403 s) 0x0403 t = true ∧
      (bootImages u).any (fun i => keyCheck u i && ! keyCheck (revoked slot u) i) = false ∧ u.dwn.otpOp = none ∧ slot < 4 ∧
      slot < s.nv.slots.length) ∧
    (∃ s : State, ∃ h : MbxHdr, ∃ t : Token, ∃ u : State, MbxReady h s ∧ h.len = 224 ∧ u = { mbxTaken h 0x0404 s with dwn.nonce := none } ∧
      tokenOk (mbxTaken h 0x0404 s) 0x0404 t = true ∧ u.nv.persistMode = true ∧ u.nv.hostKey.programmed = false ∧ u.dwn.otpOp = none) ∧
    (∃ s : State, ∃ h : MbxHdr, ∃ t : Token, ∃ u : State, ∃ i : Image, MbxReady h s ∧ h.len = 120 ∧
      u = { mbxTaken h 0x0405 s with dwn.nonce := none } ∧ tokenOk (mbxTaken h 0x0405 s) 0x0405 t = true ∧ u.dwn.image = some i ∧ ((∀ j,
      otherImage u = some j → i.svn ≤ j.svn)) ∧ u.nv.fwSvn < i.svn ∧ u.dwn.otpOp = none) ∧
    (∃ s : State, ∃ k : Nat, ∃ h : MbxHdr, ∃ slot, ∃ v, Alive s ∧ s.dwn.otpOp = some (k, h, slot, v)) ∧
    (∃ s : State, ∃ slot, slot < s.nv.slots.length) ∧
    (∃ s : State, ∃ slot, slot < 4 ∧ slot < s.nv.slots.length) ∧
    (∃ s : State, ∃ opcode, ∃ t : Token, tokenOk s opcode t = true) :=
  ⟨⟨srv, mq 0, _, ⟨by decide, by decide, by decide, by decide, by decide, by decide, by decide, by change mctpOpen _ _ = false; decide⟩, by decide,
    rfl⟩,
   ⟨srv, mq 120, 1, _, ⟨by decide, by decide, by decide, by decide, by decide, by decide, by decide, by change mctpOpen _ _ = false; decide⟩,
     by decide, by decide, by decide, rfl, by decide, by decide, by decide⟩,
   ⟨srv, mq 120, 1, _, ⟨by decide, by decide, by decide, by decide, by decide, by decide, by decide, by change mctpOpen _ _ = false; decide⟩,
     by decide, by decide, by decide, rfl, by decide, by decide, by decide, by decide⟩,
   ⟨sec, mq 128, 1, tok 0x0403, _, ⟨by decide, by decide, by decide, by decide, by decide, by decide, by decide,
     by change mctpOpen _ _ = false; decide⟩, by decide, by decide, by decide, rfl, by decide, by decide, by decide⟩,
   ⟨sec, mq 128, 1, tok 0x0403, _, ⟨by decide, by decide, by decide, by decide, by decide, by decide, by decide,
     by change mctpOpen _ _ = false; decide⟩, by decide, by decide, by decide, rfl, by decide, by decide, by decide, by decide, by decide⟩,
   ⟨{ sec with nv := { sec.nv with persistMode := true } }, mq 224, tok 0x0404, _, ⟨by decide, by decide, by decide, by decide, by decide,
     by decide, by decide, by change mctpOpen _ _ = false; decide⟩, by decide, rfl, by decide, by decide, by decide, by decide⟩,
   ⟨{ sec with dwn := { sec.dwn with image := some { img with svn := 3 } } }, mq 120, tok 0x0405, _, { img with svn := 3 }, ⟨by decide, by decide,
     by decide, by decide, by decide, by decide, by decide, by change mctpOpen _ _ = false; decide⟩, by decide, rfl, by decide, by decide,
     by decide, by decide, by decide⟩,
   ⟨{ srv with dwn := { srv.dwn with otpOp := some (0, mh, 1, 5) } }, 0, mh, 1, 5, by decide, by decide⟩,
   ⟨srv, 3, by decide⟩,
   ⟨srv, 3, by decide, by decide⟩,
   ⟨sec, 0x0403, tok 0x0403, by decide⟩⟩

theorem wit_ArrayCommandsAct :
    (∃ s : State, ∃ h : MbxHdr, ∃ a : Nat, ∃ u : State, MbxReady h s ∧ h.len = 1 ∧ a ≤ 15 ∧ notActive s = false ∧ u = mbxTaken h 0x0204 s ∧
      arrOn u a = true ∧ arrState u a ≠ aFailed ∧ arrState u a ≠ aOffline ∧ arrayInUse u a = false) ∧
    (∃ s : State, ∃ h : MbxHdr, ∃ a : Nat, ∃ u : State, MbxReady h s ∧ h.len = 1 ∧ a ≤ 15 ∧ notActive s = false ∧ u = mbxTaken h 0x0204 s ∧
      arrOn u a = true ∧ arrState u a = aOffline ∧ arrReason u a = 1) ∧
    (∃ s : State, ∃ h : MbxHdr, ∃ a : Nat, ∃ u : State, MbxReady h s ∧ h.len = 1 ∧ a ≤ 15 ∧ notActive s = false ∧ u = mbxTaken h 0x0205 s ∧
      offHost u a = true ∧ u.ce.sops.any (fun o => o.array = a) = false) ∧
    (∃ s : State, ∃ h : MbxHdr, ∃ a : Nat, ∃ u : State, ∃ v : State, MbxReady h s ∧ h.len = 1 ∧ a ≤ 15 ∧ notActive s = false ∧
      u = mbxTaken h 0x0206 s ∧ arrOn u a = true ∧ arrState u a = aOffline ∧ arrReason u a = 2 ∧
      v = setArr a aCritical 0 ((u.modArr a fun r => { r with rs := none }).wr (R.STR_An_STATUS_UNVERIFIED a) 1)) ∧
    (∃ s : State, ∃ h : MbxHdr, ∃ a : Nat, ∃ m, ∃ p, ∃ sub, ∃ u : State, MbxReady h s ∧ h.len = 4 ∧ a ≤ 15 ∧ m ≤ 31 ∧ p ≤ 31 ∧ sub ≤ 1 ∧
      notActive s = false ∧ u = mbxTaken h 0x0207 s ∧ memberRefused u a m true = none ∧ mbxDrive u a p sub = none ∧
      unfencedFor u (drvNo p sub) = false) ∧
    (∃ s : State, ∃ h : MbxHdr, ∃ a : Nat, ∃ m, ∃ p, ∃ sub, ∃ u : State, MbxReady h s ∧ h.len = 4 ∧ a ≤ 15 ∧ m ≤ 31 ∧ p ≤ 31 ∧ sub ≤ 1 ∧
      notActive s = false ∧ u = mbxTaken h 0x0208 s ∧ memberRefused u a m false = none ∧ mbxDrive u a p sub = none ∧
      (slots u a).any (·.act) = false ∧ (u.arr a).waiting = [] ∧ (u.arr a).rs = none ∧ (u.arr a).cb = none) ∧
    (∃ s : State, ∃ h : MbxHdr, ∃ a : Nat, ∃ u : State, ∃ c : Copyback, MbxReady h s ∧ h.len = 1 ∧ a ≤ 15 ∧ notActive s = false ∧
      u = mbxTaken h 0x0209 s ∧ (u.arr a).cb = some c ∧ arrOn u a = true) ∧
    (∃ s : State, ∃ h : MbxHdr, ∃ a : Nat, ∃ u : State, MbxReady h s ∧ h.len = 1 ∧ a ≤ 15 ∧ notActive s = false ∧ u = mbxTaken h 0x020A s ∧
      arrOn u a = true) ∧
    (∃ s : State, ∃ h : MbxHdr, ∃ a : Nat, ∃ u : State, MbxReady h s ∧ h.len = 1 ∧ a ≤ 15 ∧ notActive s = false ∧ arrOn s a = false ∧
      u = mbxTaken h 0x0204 s) ∧
    (∃ s : State, ∃ h : MbxHdr, ∃ a : Nat, ∃ u : State, MbxReady h s ∧ h.len = 1 ∧ a ≤ 15 ∧ notActive s = false ∧ arrOn s a = false ∧
      u = mbxTaken h 0x020A s) :=
  ⟨⟨arr, mq 1, 0, _, ⟨by decide, by decide, by decide, by decide, by decide, by decide, by decide, by change mctpOpen _ _ = false; decide⟩,
    by decide, by decide, by decide, rfl, by decide, by decide, by decide, by decide⟩,
   ⟨(arr.wr (R.STR_An_STATUS_STATE 0) 6).wr (R.STR_An_STATUS_REASON 0) 1, mq 1, 0, _, ⟨by decide, by decide, by decide, by decide, by decide,
     by decide, by decide, by change mctpOpen _ _ = false; decide⟩, by decide, by decide, by decide, rfl, by decide, by decide, by decide⟩,
   ⟨(arr.wr (R.STR_An_STATUS_STATE 0) 6).wr (R.STR_An_STATUS_REASON 0) 1, mq 1, 0, _, ⟨by decide, by decide, by decide, by decide, by decide,
     by decide, by decide, by change mctpOpen _ _ = false; decide⟩, by decide, by decide, by decide, rfl, by decide, by decide⟩,
   ⟨(arr.wr (R.STR_An_STATUS_STATE 0) 6).wr (R.STR_An_STATUS_REASON 0) 2, mq 1, 0, _, _, ⟨by decide, by decide, by decide, by decide, by decide,
     by decide, by decide, by change mctpOpen _ _ = false; decide⟩, by decide, by decide, by decide, rfl, by decide, by decide, by decide, rfl⟩,
   ⟨deg, mq 4, 0, 1, 4, 0, _, ⟨by decide, by decide, by decide, by decide, by decide, by decide, by decide, by change mctpOpen _ _ = false; decide⟩,
     by decide, by decide, by decide, by decide, by decide, by decide, rfl, by decide, by decide, by decide⟩,
   ⟨arr, mq 4, 0, 1, 4, 0, _, ⟨by decide, by decide, by decide, by decide, by decide, by decide, by decide, by change mctpOpen _ _ = false; decide⟩,
     by decide, by decide, by decide, by decide, by decide, by decide, rfl, by decide, by decide, by decide, by decide, by decide, by decide⟩,
   ⟨{ arr with arrs := modAt 0 (fun r => { r with cb := some ⟨2, 8, 0, 0⟩ }) arr.arrs }, mq 1, 0, _, ⟨2, 8, 0, 0⟩, ⟨by decide, by decide, by decide,
     by decide, by decide, by decide, by decide, by change mctpOpen _ _ = false; decide⟩, by decide, by decide, by decide, rfl, by decide, by decide⟩,
   ⟨arr, mq 1, 0, _, ⟨by decide, by decide, by decide, by decide, by decide, by decide, by decide, by change mctpOpen _ _ = false; decide⟩,
     by decide, by decide, by decide, rfl, by decide⟩,
   ⟨arr, mq 1, 15, _, ⟨by decide, by decide, by decide, by decide, by decide, by decide, by decide, by change mctpOpen _ _ = false; decide⟩,
     by decide, by decide, by decide, by decide, rfl⟩,
   ⟨arr, mq 1, 15, _, ⟨by decide, by decide, by decide, by decide, by decide, by decide, by decide, by change mctpOpen _ _ = false; decide⟩,
     by decide, by decide, by decide, by decide, rfl⟩⟩

set_option maxRecDepth 20000 in
theorem wit_NamespacesComeAndGo :
    (∃ s : State, ∃ h : MbxHdr, ∃ a : Nat, ∃ flags, ∃ lbaf, ∃ nsze, ∃ base, ∃ x : Nat, ∃ b : Nat, ∃ u : State, ∃ n : Nat, ∃ v : Ns, ∃ w : State,
      MbxReady h s ∧ h.len = 20 ∧ a ≤ 15 ∧ flags ≤ 1 ∧ (lbaf = 0 ∨ (lbaf = 1 ∧ u.on (R.STR_An_GEOM_META a) = true)) ∧ notActive s = false ∧
      u = mbxTaken h 0x0201 s ∧ arrOn u a = true ∧ arrState u a ≠ aFailed ∧ arrState u a ≠ aOffline ∧ freeIndex u = some x ∧ nsze ≠ 0 ∧
      n = (nsze + perStripe u a - 1) / perStripe u a ∧ ((flags = 1 ∧ base = b ∧ stripesFree u a b n = true ∨ flags = 0 ∧
      lowestBase u a n = some b)) ∧ v = (⟨x, systemNsid u x, newNguid u x, a, b, n, nsze, lbaf⟩ : Ns) ∧ w = rangeGone a b n true u) ∧
    (∃ s : State, ∃ x : Nat, freeIndex s = some x) ∧
    (∃ s : State, ∃ x : Nat, ∃ y, freeIndex s = some x ∧ y < x) ∧
    (∃ s : State, ∃ a : Nat, ∃ n : Nat, ∃ b : Nat, lowestBase s a n = some b) ∧
    (∃ s : State, ∃ a : Nat, ∃ b : Nat, ∃ n : Nat, stripesFree s a b n = true) ∧
    (∃ s : State, ∃ h : MbxHdr, ∃ nsid, ∃ n : Ns, ∃ u : State, MbxReady h s ∧ h.len = 4 ∧ notActive s = false ∧ u = mbxTaken h 0x0202 s ∧
      u.ns.find? (fun n => n.nsid = nsid) = some n ∧ formatting u n.idx = false ∧ u.ce.nsGone.any (fun p => p.2 = n.idx) = false) ∧
    (∃ s : State, ∃ h : MbxHdr, ∃ nsid, ∃ u : State, MbxReady h s ∧ h.len = 4 ∧ notActive s = false ∧ u = mbxTaken h 0x0202 s ∧
      u.ns.find? (fun n => n.nsid = nsid) = none) ∧
    (∃ s : State, ∃ h : MbxHdr, ∃ nsid, ∃ n : Ns, ∃ u : State, MbxReady h s ∧ h.len = 4 ∧ notActive s = false ∧ u = mbxTaken h 0x0202 s ∧
      u.ns.find? (fun n => n.nsid = nsid) = some n ∧ nsAt u n.idx = some n ∧ formatting u n.idx = false ∧ u.ce.nsGone = [] ∧
      u.ce.ctxs.any (fun c => c.ns = n.idx || c.nsid = 0xFFFFFFFF) = false ∧ rangeIdle u n.array n.base n.stripes = true) ∧
    (∃ s : State, ∃ h : MbxHdr, ∃ n : Ns, s.ce.nsGone = [(h, n.idx)] ∧ nsAt s n.idx = some n ∧
      s.ce.ctxs.any (fun c => c.ns = n.idx || c.nsid = 0xFFFFFFFF) = false ∧ rangeIdle s n.array n.base n.stripes = true) :=
  ⟨⟨arr, mq 20, 0, 0, 0, 33, 0, 0, 4, _, _, _, _, ⟨by decide, by decide, by decide, by decide, by decide, by decide, by decide,
    by change mctpOpen _ _ = false; decide⟩, by decide, by decide, by decide, by decide, by decide, rfl, by decide, by decide, by decide, by decide,
    by decide, rfl, by decide, rfl, rfl⟩,
   ⟨srv, 0, by decide⟩,
   ⟨{ srv with ns := [⟨0, 1, 1, 0, 0, 4, 128, 0⟩] }, 1, 0, by decide, by decide⟩,
   ⟨arr, 0, 4, 4, by decide⟩,
   ⟨arr, 0, 4, 4, by decide⟩,
   ⟨arr, mq 4, 1, ⟨1, 1, 1, 0, 0, 4, 128, 0⟩, _, ⟨by decide, by decide, by decide, by decide, by decide, by decide, by decide,
     by change mctpOpen _ _ = false; decide⟩, by decide, by decide, rfl, by decide, by decide, by decide⟩,
   ⟨arr, mq 4, 99, _, ⟨by decide, by decide, by decide, by decide, by decide, by decide, by decide, by change mctpOpen _ _ = false; decide⟩,
     by decide, by decide, rfl, by decide⟩,
   ⟨arr, mq 4, 1, ns1, _, ⟨by decide, by decide, by decide, by decide, by decide, by decide, by decide, by change mctpOpen _ _ = false; decide⟩,
     by decide, by decide, rfl, by decide, by decide, by decide, by decide, by decide, by decide⟩,
   ⟨{ arr with ce.nsGone := [(mq 4, 1)] }, mq 4, ns1, by decide, by decide, by decide, by decide⟩⟩

theorem wit_UnitCommandsAct :
    (∃ s : State, ∃ h : MbxHdr, ∃ t : Token, ∃ u : State, MbxReady h s ∧ h.len = 120 ∧ tokenOk (mbxTaken h 0x0301 s) 0x0301 t = true ∧
      u = { mbxTaken h 0x0301 s with dwn.nonce := none } ∧ u.pairState = 7) ∧
    (∃ s : State, ∃ h : MbxHdr, Alive s ∧ s.pairState = 4 ∧ s.pair.preempted = true ∧ s.jrn.opens = [] ∧ s.bsk.fetching = [] ∧ s.pair.cause = 1 ∧
      s.pair.mbxWait = some h ∧ h.resvBad = false) ∧
    (∃ s : State, ∃ h : MbxHdr, ∃ u : State, MbxReady h s ∧ h.len = 0 ∧ u = mbxTaken h 0x0302 s ∧ u.pairState = 2 ∧ u.on R.SPR_STATUS_READY = true) ∧
    (∃ s : State, ∃ h : MbxHdr, ∃ u : State, MbxReady h s ∧ h.len = 0 ∧ u = mbxTaken h 0x0302 s ∧ u.pairState ≠ 2) ∧
    (∃ s : State, ∃ h : MbxHdr, ∃ u : State, MbxReady h s ∧ h.len = 0 ∧ u = mbxTaken h 0x0303 s ∧ u.pairState = 3 ∧ u.on R.SPR_CFG_HOME = true) ∧
    (∃ s : State, ∃ h : MbxHdr, ∃ u : State, MbxReady h s ∧ h.len = 0 ∧ u = mbxTaken h 0x0303 s ∧ u.pairState = 3 ∧ u.on R.SPR_CFG_HOME = false) ∧
    (∃ s : State, ∃ h : MbxHdr, ∃ u : State, MbxReady h s ∧ h.len = 0 ∧ u = mbxTaken h 0x0601 s ∧ nightCheck u = none) ∧
    (∃ s : State, ∃ h : MbxHdr, ∃ u : State, ∃ c : Nat, MbxReady h s ∧ h.len = 0 ∧ u = mbxTaken h 0x0601 s ∧ nightCheck u = some c) ∧
    (∃ s : State, ∃ h : MbxHdr, ∃ scope : Nat, ∃ t : Token, ∃ u : State, MbxReady h s ∧ h.len = 128 ∧ 1 ≤ scope ∧ scope ≤ 3 ∧
      tokenOk (mbxTaken h 0x0502 s) 0x0502 t = true ∧ u = { mbxTaken h 0x0502 s with dwn.nonce := none } ∧ u.wsk.clearing = none ∧
      u.wsk.staged = none) ∧
    (∃ s : State, ∃ h : MbxHdr, ∃ scope : Nat, ∃ t : Token, ∃ u : State, ∃ r : WStage, MbxReady h s ∧ h.len = 128 ∧ 1 ≤ scope ∧ scope ≤ 3 ∧
      tokenOk (mbxTaken h 0x0502 s) 0x0502 t = true ∧ u = { mbxTaken h 0x0502 s with dwn.nonce := none } ∧ u.wsk.clearing = none ∧
      u.wsk.staged = some r) ∧
    (∃ s : State, ∃ r : WStage, Alive s ∧ s.wsk.staged = some r ∧ s.wsk.clearing = none) ∧
    (∃ s : State, ∃ r : WStage, ∃ h : MbxHdr, ∃ scope : Nat, ∃ slot, Alive s ∧ s.wsk.staged = some r ∧ s.wsk.clearing = some (h, scope, slot) ∧
      scope ≠ 0) ∧
    (∃ s : State, Alive s ∧ s.wsk.staged = none ∧ s.mbx.wait = []) :=
  ⟨⟨sec.wr R.SPR_STATUS_STATE 7, mq 120, tok 0x0301, _, ⟨by decide, by decide, by decide, by decide, by decide, by decide, by decide,
    by change mctpOpen _ _ = false; decide⟩, by decide, by decide, rfl, by decide⟩,
   ⟨{ par 4 with pair.preempted := true, pair.cause := 1, pair.mbxWait := some mh }, mh, by decide, by decide, by decide, by decide, by decide,
     by decide, by decide, by decide⟩,
   ⟨(srv.wr R.SPR_STATUS_STATE 2).wr R.SPR_STATUS_READY 1, mq 0, _, ⟨by decide, by decide, by decide, by decide, by decide, by decide, by decide,
     by change mctpOpen _ _ = false; decide⟩, by decide, rfl, by decide, by decide⟩,
   ⟨(srv.wr R.SPR_STATUS_STATE 3), mq 0, _, ⟨by decide, by decide, by decide, by decide, by decide, by decide, by decide,
     by change mctpOpen _ _ = false; decide⟩, by decide, rfl, by decide⟩,
   ⟨par 3, mq 0, _, ⟨by decide, by decide, by decide, by decide, by decide, by decide, by decide, by change mctpOpen _ _ = false; decide⟩,
     by decide, rfl, by decide, by decide⟩,
   ⟨(srv.wr R.SPR_STATUS_STATE 3), mq 0, _, ⟨by decide, by decide, by decide, by decide, by decide, by decide, by decide,
     by change mctpOpen _ _ = false; decide⟩, by decide, rfl, by decide, by decide⟩,
   ⟨srv.wr R.PWR_WAKE_EN_PIN 1, mq 0, _, ⟨by decide, by decide, by decide, by decide, by decide, by decide, by decide,
     by change mctpOpen _ _ = false; decide⟩, by decide, rfl, by decide⟩,
   ⟨srv.wr R.PWR_WAKE_EN_PIN 0, mq 0, _, eState, ⟨by decide, by decide, by decide, by decide, by decide, by decide, by decide,
     by change mctpOpen _ _ = false; decide⟩, by decide, rfl, by decide⟩,
   ⟨sec, mq 128, 3, tok 0x0502, _, ⟨by decide, by decide, by decide, by decide, by decide, by decide, by decide,
     by change mctpOpen _ _ = false; decide⟩, by decide, by decide, by decide, by decide, rfl, by decide, by decide⟩,
   ⟨{ sec with wsk.staged := some ⟨5, 2, 0x0101, 3, 0, 1⟩ }, mq 128, 1, tok 0x0502, _, ⟨5, 2, 0x0101, 3, 0, 1⟩, ⟨by decide, by decide, by decide,
     by decide, by decide, by decide, by decide, by change mctpOpen _ _ = false; decide⟩, by decide, by decide, by decide, by decide, rfl,
     by decide, by decide⟩,
   ⟨{ srv with wsk.staged := some ⟨5, 2, 0x0101, 3, 0, 1⟩ }, ⟨5, 2, 0x0101, 3, 0, 1⟩, by decide, by decide, by decide⟩,
   ⟨{ srv with wsk.staged := some ⟨5, 2, 0x0101, 3, 0, 1⟩, wsk.clearing := some (mh, 3, 1) }, ⟨5, 2, 0x0101, 3, 0, 1⟩, mh, 3, 1, by decide,
     by decide, by decide, by decide⟩,
   ⟨srv, by decide, by decide, by decide⟩⟩

theorem wit_RolesRotateOverTheMembers :
    (∃ n : Nat, 4 ≤ n) ∧
    (∃ n : Nat, ∃ i : Nat, 4 ≤ n ∧ i < n - 2) ∧
    (∃ n : Nat, ∃ st : Nat, ∃ m : Nat, 4 ≤ n ∧ m < n ∧ m ≠ pMem n st ∧ m ≠ qMem n st) ∧
    (∃ n : Nat, ∃ m : Nat, 4 ≤ n ∧ m < n) :=
  ⟨⟨4, by decide⟩,
   ⟨4, 1, by decide, by decide⟩,
   ⟨5, 9, 4, by decide, by decide, by decide, by decide⟩,
   ⟨32, 31, by decide, by decide⟩⟩

theorem wit_BlocksMapToMembers :
    (∃ s : State, ∃ ns : Ns, ∃ l : Nat, ∃ b, ∃ d : Nat, ∃ p, 3 ≤ memN s ns.array ∧ b = strB s ns.array ∧ d = memN s ns.array - 2 ∧
      p = placeOf s ns l) ∧
    (∃ s : State, ∃ ns : Ns, 3 ≤ memN s ns.array) ∧
    (∃ s : State, ∃ ns : Ns, ∃ l : Nat, ∃ l' : Nat, 3 ≤ memN s ns.array ∧ placeOf s ns l = placeOf s ns l') :=
  ⟨⟨arr, ⟨1, 1, 1, 0, 0, 4, 128, 0⟩, 127, _, _, _, by decide, rfl, rfl, rfl⟩,
   ⟨arr, ⟨1, 1, 1, 0, 0, 4, 128, 0⟩, by decide⟩,
   ⟨arr, ⟨1, 1, 1, 0, 0, 4, 128, 0⟩, 127, 127, by decide, by decide⟩⟩

theorem wit_SerialChannelsTakeTurns :
    (∃ s : State, ∃ c : Nat, ∃ d : Nat, Alive s ∧ 56 ≤ c ∧ c < 63 ∧ 56 ≤ d ∧ d < 64 ∧ d ≠ c ∧ (s.chState d = chRunning ∨ s.chState d = chHalted) ∧
      s.chState c = chIdle ∧ s.rd (R.SPL_CHc_CFG_TRIG_SRC c) = 0) ∧
    (∃ s : State, ∃ c : Nat, ∃ d : Nat, Alive s ∧ 56 ≤ c ∧ c < 63 ∧ 56 ≤ d ∧ d < 64 ∧ d ≠ c ∧ (s.chState d = chRunning ∨ s.chState d = chHalted) ∧
      s.chState c = chWaiting) ∧
    (∃ s : State, ∃ c : Nat, ∃ d : Nat, Alive s ∧ 56 ≤ c ∧ c < 63 ∧ 56 ≤ d ∧ d < 64 ∧ d ≠ c ∧ (s.chState d = chRunning ∨ s.chState d = chHalted) ∧
      s.chState c = chWaiting ∧ s.rd (R.SPL_CHc_CFG_TRIG_SRC c) ≠ 0) ∧
    (∃ s : State, ∃ c : Nat, ∃ d : Nat, Alive s ∧ 56 ≤ c ∧ c < 63 ∧ 56 ≤ d ∧ d < 64 ∧ d ≠ c ∧ (s.chState d = chRunning ∨ s.chState d = chHalted)) ∧
    (∃ s : State, ∃ c : Nat, Alive s ∧ 56 ≤ c ∧ c < 63 ∧ ((∀ d, 56 ≤ d → d < 64 → d ≠ c → s.chState d ≠ chRunning ∧ s.chState d ≠ chHalted)) ∧
      s.chState c = chIdle ∧ s.rd (R.SPL_CHc_CFG_TRIG_SRC c) = 0) ∧
    (∃ s : State, ∃ c : Nat, Alive s ∧ 56 ≤ c ∧ c < 63 ∧ ((∀ d, 56 ≤ d → d < 64 → d ≠ c → s.chState d ≠ chRunning ∧ s.chState d ≠ chHalted)) ∧
      s.chState c = chWaiting) ∧
    (∃ s : State, ∃ c : Nat, Alive s ∧ 56 ≤ c ∧ c < 64 ∧ s.chState c = chQueued ∧ ((∀ d, 56 ≤ d → d < c → s.chState d ≠ chQueued)) ∧ ((∀ d,
      56 ≤ d → d < 64 → s.chState d ≠ chRunning ∧ s.chState d ≠ chHalted))) :=
  ⟨⟨spl 63 2, 62, 63, by decide, by decide, by decide, by decide, by decide, by decide, by decide, by decide, by decide⟩,
   ⟨(spl 63 2).wr (R.SPL_CHc_STATUS_STATE 62) 3, 62, 63, by decide, by decide, by decide, by decide, by decide, by decide, by decide, by decide⟩,
   ⟨((spl 63 4).wr (R.SPL_CHc_STATUS_STATE 56) 3).wr (R.SPL_CHc_CFG_TRIG_SRC 56) 1, 56, 63, by decide, by decide, by decide, by decide, by decide,
     by decide, by decide, by decide, by decide⟩,
   ⟨spl 56 4, 62, 56, by decide, by decide, by decide, by decide, by decide, by decide, by decide⟩,
   ⟨srv, 62, by decide, by decide, by decide, fun d h1 h2 h3 => (show ∀ d < 64, 56 ≤ d → d ≠ 62 → (srv).chState d ≠ chRunning ∧
     (srv).chState d ≠ chHalted by decide) d h2 h1 h3, by decide, by decide⟩,
   ⟨spl 62 3, 62, by decide, by decide, by decide, fun d h1 h2 h3 => (show ∀ d < 64, 56 ≤ d → d ≠ 62 → (spl 62 3).chState d ≠ chRunning ∧
     (spl 62 3).chState d ≠ chHalted by decide) d h2 h1 h3, by decide⟩,
   ⟨spl 57 1, 57, by decide, by decide, by decide, by decide, fun d h1 h2 => (show ∀ d < 57,
     56 ≤ d → (spl 57 1).chState d ≠ chQueued by decide) d h2 h1, fun d h1 h2 => (show ∀ d < 64, 56 ≤ d → (spl 57 1).chState d ≠ chRunning ∧
     (spl 57 1).chState d ≠ chHalted by decide) d h2 h1⟩⟩

/-! ### Worked examples of the spec, and the step -/

theorem test_claim_number : claimUnit 0x00000001E8480003 = 3 ∧ 0x00000001E8480003 / 65536 = 125000 := by decide

theorem test_field_product : gfMul 0x05 0x5A = 0x2F ∧ gfMul 2 0xC3 = 0x9B ∧ gfMul (gfPow 2) 0xC3 = 0x2B ∧ gfMul 0x2F (gfInv 0x05) = 0x5A := by decide

theorem test_rotation : pMem 32 3604 = 11 ∧ qMem 32 3604 = 12 ∧ dMem 32 3604 5 = 18 ∧ memLba 64 3604 0 = 492800 ∧ dIdx 32 0 5 = 4 := by decide

theorem test_stripes : stripesFor 15000000000 64 = 234370904 := by decide

theorem test_member_key : memKey 0 18 492800 = 0x0000120000078500 := by decide

theorem test_page_channel : pageChannel State.reset 0x123400 = 4 := by decide

theorem test_pfc_headroom :
    pfcHeadroom ((State.reset.wr (R.FAB_Pp_CFG_CABLE_M 2) 100).wr (R.FAB_Pp_CFG_BREAKOUT 2) 0) 2 = 112 ∧
    pfcHeadroom ((State.reset.wr (R.FAB_Pp_CFG_CABLE_M 2) 100).wr (R.FAB_Pp_CFG_BREAKOUT 2) 2) 2 = 35 := by decide

theorem test_ring_wraps : ringSize 7 = 0x40000 ∧ ringAddr 7 0x3F000 4096 = 0 ∧ ringAddr 7 0x3F000 24575 = 0x4FFF := by decide

/-- The published check value of CRC-32C. -/
theorem test_crc32c : crc32c [0x31, 0x32, 0x33, 0x34, 0x35, 0x36, 0x37, 0x38, 0x39] = 0xE3069283 := by decide +kernel

theorem test_set_index : envSet (memKey 0 18 492800) = 243 ∧ envSet (memKey 0 19 492800) = 242 ∧ envSet (bskKey 0x123400) = 396 := by decide

theorem test_descriptor_control :
    let d := descOf ([0x00, 0x20, 0x00, 0xD9] ++ List.replicate 60 0)
    d.length = 0x2000 ∧ d.last = true ∧ d.wait = false ∧ d.signal = false ∧ d.fence = true ∧ d.crcMode = 1 ∧ d.crcCont = true ∧
      d.crcStore = true := by decide

/-- The queue of a step: the command at the front of the queue is taken, and the queue keeps the rest. -/
theorem test_step_takes_the_front :
    (match step { dark with pending := [.clearFails, .epochBoundary] } with | .next t => t.pending | _ => []) = [.epochBoundary] := by decide

theorem test_idle : step State.reset = .next State.reset := rfl

theorem wit_EveryStepKeepsTheAggregationSettled : ∃ s t, Settled s ∧ step s = .next t :=
  ⟨{ State.reset with links := [] }, { State.reset with links := [] }, ⟨rfl, fun i l h => by simp at h⟩, rfl⟩

/-! ### WellFormed -/

/-- An SPDM request over MCTP. -/
def sq : SpdmReq := ⟨.mctp 8 0, true⟩

theorem test_well_formed_1 : List.all (α := Instr) [
  .epochBoundary, .tailCopyCheckpoint, .tailCopyDone 0 0, .regionMapUpdateDone 0 0, .sealCheckpoint, .soloRateRefresh 0 0 0 0 0,
  .gaugeStoreWrite, .duskEnter, .duskExit, .sourceSignalPresent 0, .sourceRetry, .ptpSync 0, .ptpAnnounce 0 ⟨0, true⟩, .ppsEdge,
  .sourceLockCriterionMet 0 0, .sourceLoss 0, .holdMaxExpire, .forceStep, .acquire, .tetClrErr, .todArm 0, .alarmArm 0 0 0,
  .dayOverrideWrite 0, .sqFetch 0 0 0, .capsuleReceipt 0 0 0, .creditWithdraw 0 0, .contextGrant, .adminContextGrant, .stripeLockGrant,
  .basketAdmit, .sparShareAdmit, .ringSpaceAdmit, .envAllocationGrant, .evictionBufferGrant, .savePageGrant, .orderedStart 0 0,
  .read ih 0 0 0 noFlags, .write ih 0 0 [] noFlags, .orderedWrite ih 0 0 [] noFlags, .orderedRead ih 0 0 0 noFlags, .flush ih 0,
  .writeZeroes ih 0 0 0 false noFlags, .datasetManagement ih 0 false [] noFlags, .reservationRegister ih 0 0 false 0 0 0,
  .reservationReport ih 0, .reservationAcquire ih 0 0 0 0 0 false, .reservationRelease ih 0 0 0 0 false, .getLogPage ih 0 0 0 0,
  .identify ih 0 0, .abort ih 0 0, .setFeatures ih 0 0 0 false, .getFeatures ih 0 0, .asynchronousEventRequest ih,
  .firmwareImageDownload ih 0 0 img, .firmwareCommit ih 0 0, .fwActivationCheckDone false, .fwActivationDrainDone,
  .fwActivationResume 0, .formatNvm ih 0 0 0, .formatProgressStep] wellFormed = true := by decide +kernel

theorem test_well_formed_2 : List.all (α := Instr) [
  .sanitizeBlockErase ⟨ih, 2⟩, .sanitizeOverwrite ih 0 false 0, .sanitizeExitFailureMode ih, .sanitizeProgressStep, .createIoSq ih 0 0 0,
  .deleteIoSq ih 0, .createIoCq ih 0 0 0, .deleteIoCq ih 0, .keepAlive ih, .keepAliveTimeout 0, .connect con, .propertyGet ih 0,
  .propertySet ih 0 0, .disconnect ih, .ccEnSet 0, .controllerReset 0, .memberCompletion 0 .ok, .memberReadError (.cmd 0) [],
    .memberReadError (.step 0) [],
  .readRepair 0 0 false, .hedgeExpire 0, .memberTimeout 0, .memberControllerReadyTimeout 0, .memberMissing [],
  .sliceResidueFail 0 false, .engineJobRetire 0, .destageStep 0 0, .rebuildTargetAssign 0 0 0, .rebuildStep 0 0, .rebuildComplete 0 0,
  .mapCopy 0 0, .copybackStep 0, .copybackSwap 0, .copybackAutoStart 0 0, .patrolStep 0, .resyncStep 0, .arrayOffline mh 0,
  .arrayOnline mh 0, .arrayForce mh 0, .arrayReplace mh 0 0 0 0, .arrayCopyback mh 0 0 0 0, .arrayCopybackStop mh 0,
  .patrolRestart mh 0, .nsCreate mh 0 0 0 0 0, .nsDelete mh 0, .nsList mh 0 0, .envEvictionConfirm 0, .envOffer 0, .skirtFillReturn 0,
  .skirtStreamExpire 0 0, .envMaintClean 0, .envMaintInvalidate 0, .envMaintCleanInval 0, .scratchOn 0, .scratchOff 0,
  .envDisableWrite 0, .envCleanFirstDone, .envClrErr, .scratchWindowAccess 0 0 [] false 0, .sramUe (.clean 0),
    .sramCe 0] wellFormed = true := by decide +kernel

theorem test_well_formed_3 : List.all (α := Instr) [
  .basketEccError 0 0 0 .corrected, .scrubPass, .scrubNow, .bskClrErr, .bankRefresh, .calibrate, .pfailRecognised,
  .dumpComplete 0 false, .dumpSelfReset, .vaultDriveFailure 0, .ballastRestore 0 [], .discard, .balClrErr, .hostLinkReset 0 .perst,
  .hostLinkUp 0 0 0 false, .flrFunction1 0, .hostCompletionTimeout ih, .msixUnmask 0 0, .intStatusW1c 0 0 0,
  .drivePresence 0 0 ⟨1, 0, 0, true, true, true, true, 0⟩, .driveBringupTimer 0 0, .driveLinkUp 0 0 0 0, .driveReady 0 0,
  .driveRemoval 0 0, .driveOff 0 0, .driveOn 0 0, .driveLinkEvent 0 0 .down, .driveLinkRetrainTimeout 0 0, .reservationConflict 0 0 0,
  .cmConnectRequest 0 0 0, .qpRetryExhausted 0, .ecnCeReceived 0, .cnpReceived 0, .ccRecover 0, .pfcXoff 0 0 0, .pfcXon 0 0 0,
  .pfcPauseRefresh 0 0 0, .pfcStorm 0 0 0, .pfcStormEnd 0 0 0, .pauseReceived 0 0 0 0, .fabricLinkEvent 0 0 .up, .splStart 0,
  .splStop 0, .splResume 0, .splAbort 0, .splTrigger 0, .splTimerTick 0, .splTimerWrite 0 0, .splDescFetch 0 (.ok []), .splSerialTurn,
  .splBurstDone 0 (.ok []), .splDescDone 0 (.ok []), .splChainLimit 0, .splRequestTimeout 0 0, .splClrErr, .stringLinkUp 0,
  .stringLinkDown 0 false, .epochFrame (hd 1) ⟨0, 0, 0, 0, true, true, 0, 0, 0, 0⟩, .delayMeasure,
    .delayReq (hd 1) 0] wellFormed = true := by decide +kernel

theorem test_well_formed_4 : List.all (α := Instr) [
  .delayResp (hd 1) 0 0 0 0, .candidate (hd 1) 0 0, .ringState (hd 1) 0 [], .linkFrame (hd 1) 0 0 0, .ack (hd 1) 0 0,
  .offer (hd 1) 0 0 0 false, .config (hd 1) 0 0 [] [], .stringClaim (hd 1) 0 0 0 0 0, .directory (hd 1) (ent 0 0) 0,
  .reportJoin (hd 1) 0 0 ⟨0, 0, 0, 0⟩, .reportLeave (hd 1) false, .reportLinkDown (hd 1) false, .reportLinkUp (hd 1) false,
  .reportCensus (hd 1) 0 ⟨0, 0, 0, 0⟩ 0, .reportGenReady (hd 1) 0, .reportGenReject (hd 1) 0 0, .reportChunkNak (hd 1) 0 [],
  .reportPublish (hd 1) 0 [] [], .reportSummary (hd 1) ⟨0, 0, 0, 0, 0, 0, 0, 0, 0, 0, 0, 0⟩, .reportRetry, .summaryDue,
  .trainingTimeout, .leaveTimeout, .reelLost, .electionEnd, .censusEnd, .reelect, .stgClrErr, .stgWake 0, .wakeSequenceSend 0,
  .sparLinkUp 0, .sparLinkDown, .page 0 0#32896 false, .records [] false, .cut 0 0 0 0 0 false, .confirm 0 0, .deltaNak, .health 0,
  .sparClaim 0 0 0 0 0, .fetchReq 0, .fetchData 0 0#32896, .handbackReq, .handingDrainDone, .release 0, .releaseTimeout, .relinquish,
  .actBegin, .actDone, .syncBegin 0, .bulkCopyEnd, .syncDone, .hello hel, .activeLostDetect, .preemptComplete, .preemptDeadline,
  .soloWaitExpire, .holdoffExpire, .peerWaitExpire, .rearm, .sprClrErr] wellFormed = true := by decide +kernel

theorem test_well_formed_5 : List.all (α := Instr) [
  .pairForce mh (tok 0), .pairSwitchover mh, .pairUnpair mh, .powerOn false 0, .rstN false, .watchdog, .powerGood false,
  .otpRead false, .romSelftest false, .headerRead false, .signature false, .fwLoad false, .basketTrain 0 false, .mramCheck false 0,
  .replayScan false, .configApply false, .serdesCal 0, .portTrain false false, .pairNegotiate, .stringJoin false, .timeLock false,
  .arrayAssembly, .replayRepair, .serviceOpen, .clearFails, .restart, .dwnClrErr, .secClrErr, .gonClrErr, .forceTail,
  .mramUe .persistent, .strClrErr, .hptCeClrErr, .hptClrErr, .fabClrErr, .drvClrErr, .wskClrErr, .pwrClrErr, .glbClrErr, .mbxClrErr 0,
  .bar0RegisterWrite 0 0 0 0, .mbxReplyBufferWrite 0, .wskWindowWrite 0, .wskEvent, .wskQueueRoom, .wskRecordCommit, .wskRead mh 0 0,
  .wskClear mh 0 (tok 0), .pwrCtrlNight, .night mh, .nightPreparationStep, .nightAbort 0, .nightCommit, .nightEntryComplete 0,
  .wakeEvent 0, .nightExitComplete 0 0, .shutdown mh, .thermTrip 0, .thermTripRelease, .thermWarn 0] wellFormed = true := by decide +kernel

theorem test_well_formed_6 : List.all (α := Instr) [
  .regRead mh 0 0, .regWrite mh 0 0, .stepLogRead mh 0 0, .shadowWrite mh [], .shadowTable mh 0 0 0 [], .shadowRead mh 0 0 0,
  .shadowReset mh, .launch mh, .persistExport mh 0, .persist mh 0 0 0 img, .imageWrite mh 0 0 0 0 0 img, .publish mh 0 0 0 img,
  .summaryRead mh 0 0, .directoryRead mh 0 0, .getNonce mh, .keyProvision mh 0 0 (tok 0), .keyRevoke mh 0 (tok 0),
  .hostkeyEnroll mh 0 (tok 0), .svnAdvance mh (tok 0), .getVersion sq, .getCapabilities sq, .negotiateAlgorithms sq, .getDigests sq,
  .getCertificate sq 0 0 0, .challenge sq 0, .getMeasurements sq 0 false, .respondIfReady sq, .powerLoss, .mramCe 0, .maintDone,
  .commandParityError 0 0 false, .loRegisterRead 0 0, .standbyRejoin, .stringFrameForward (hd 1) 0, .hostCompletionError ih,
  .fecUncorrectable 0, .invalidOpcode ih 0, .mbxUnsupportedOpcode mh 0, .spdmUnsupportedRequest sq 0, .busMasterEnable 0 false,
  .flashWriteComplete false, .otpProgramComplete false, .jtagInstruction .idcode] wellFormed = true := by decide +kernel

theorem test_ill_formed_1 : List.all (α := Instr) [
  .tailCopyDone 256 0, .tailCopyDone 0 33, .regionMapUpdateDone 256 0, .regionMapUpdateDone 0 (2 ^ 32), .soloRateRefresh 256 0 0 0 0,
  .soloRateRefresh 0 (2 ^ 64) 0 0 0, .soloRateRefresh 0 0 (2 ^ 64) 0 0, .soloRateRefresh 0 0 0 (2 ^ 64) 0,
  .soloRateRefresh 0 0 0 0 (2 ^ 64), .sourceSignalPresent 4, .ptpAnnounce (2 ^ 64) ⟨0, true⟩, .ptpAnnounce 0 ⟨65536, true⟩,
  .sourceLockCriterionMet 4 0, .sourceLoss 4, .todArm (2 ^ 64), .alarmArm 8 0 0, .alarmArm 0 4 0, .alarmArm 0 0 (2 ^ 64),
  .dayOverrideWrite (2 ^ 64), .sqFetch 65536 0 0, .sqFetch 0 65536 0, .sqFetch 0 0 65536, .capsuleReceipt 65536 0 0,
  .capsuleReceipt 0 65536 0, .capsuleReceipt 0 0 (2 ^ 32), .creditWithdraw 65536 0, .creditWithdraw 0 65536, .orderedStart 65536 0,
  .orderedStart 0 65536, .read ⟨65536, 0, 0⟩ 0 0 0 noFlags, .read ⟨0, 65536, 0⟩ 0 0 0 noFlags, .read ⟨0, 0, 65536⟩ 0 0 0 noFlags,
  .read ih (2 ^ 32) 0 0 noFlags, .read ih 0 (2 ^ 64) 0 noFlags, .read ih 0 0 65537 noFlags, .write ⟨0, 0, 65536⟩ 0 0 [] noFlags,
  .write ih (2 ^ 32) 0 [] noFlags, .write ih 0 (2 ^ 64) [] noFlags, .orderedWrite ⟨0, 0, 65536⟩ 0 0 [] noFlags,
  .orderedWrite ih (2 ^ 32) 0 [] noFlags, .orderedWrite ih 0 (2 ^ 64) [] noFlags, .orderedRead ⟨0, 0, 65536⟩ 0 0 0 noFlags,
  .orderedRead ih (2 ^ 32) 0 0 noFlags, .orderedRead ih 0 (2 ^ 64) 0 noFlags, .orderedRead ih 0 0 65537 noFlags,
  .flush ⟨65536, 0, 0⟩ 0, .flush ih (2 ^ 32), .writeZeroes ⟨0, 0, 65536⟩ 0 0 0 false noFlags,
  .writeZeroes ih (2 ^ 32) 0 0 false noFlags, .writeZeroes ih 0 (2 ^ 64) 0 false noFlags, .writeZeroes ih 0 0 65537 false noFlags,
  .datasetManagement ⟨65536, 0, 0⟩ 0 false [] noFlags, .datasetManagement ih (2 ^ 32) false [] noFlags,
  .datasetManagement ih 0 false [(2 ^ 64, 0)] noFlags, .datasetManagement ih 0 false [(0, 2 ^ 32)] noFlags,
  .reservationRegister ⟨0, 65536, 0⟩ 0 0 false 0 0 0, .reservationRegister ih (2 ^ 32) 0 false 0 0 0,
  .reservationRegister ih 0 8 false 0 0 0, .reservationRegister ih 0 0 false (2 ^ 64) 0 0,
  .reservationRegister ih 0 0 false 0 (2 ^ 64) 0] (fun i => ! wellFormed i) = true := by decide +kernel

theorem test_ill_formed_2 : List.all (α := Instr) [
  .reservationRegister ih 0 0 false 0 0 4, .reservationReport ⟨0, 65536, 0⟩ 0, .reservationReport ih (2 ^ 32),
  .reservationAcquire ⟨65536, 0, 0⟩ 0 0 0 0 0 false, .reservationAcquire ih (2 ^ 32) 0 0 0 0 false,
  .reservationAcquire ih 0 8 0 0 0 false, .reservationAcquire ih 0 0 256 0 0 false, .reservationAcquire ih 0 0 0 (2 ^ 64) 0 false,
  .reservationAcquire ih 0 0 0 0 (2 ^ 64) false, .reservationRelease ⟨65536, 0, 0⟩ 0 0 0 0 false,
  .reservationRelease ih (2 ^ 32) 0 0 0 false, .reservationRelease ih 0 8 0 0 false, .reservationRelease ih 0 0 256 0 false,
  .reservationRelease ih 0 0 0 (2 ^ 64) false, .getLogPage ⟨0, 0, 65536⟩ 0 0 0 0, .getLogPage ih (2 ^ 32) 0 0 0,
  .getLogPage ih 0 256 0 0, .getLogPage ih 0 0 (2 ^ 64) 0, .getLogPage ih 0 0 0 (2 ^ 32), .identify ⟨0, 65536, 0⟩ 0 0,
  .identify ih 256 0, .identify ih 0 (2 ^ 32), .abort ⟨0, 65536, 0⟩ 0 0, .abort ih 65536 0, .abort ih 0 65536,
  .setFeatures ⟨0, 65536, 0⟩ 0 0 0 false, .setFeatures ih 256 0 0 false, .setFeatures ih 0 (2 ^ 32) 0 false,
  .setFeatures ih 0 0 (2 ^ 32) false, .getFeatures ⟨0, 0, 65536⟩ 0 0, .getFeatures ih 256 0, .getFeatures ih 0 (2 ^ 64),
  .asynchronousEventRequest ⟨0, 0, 65536⟩, .firmwareImageDownload ⟨65536, 0, 0⟩ 0 0 img, .firmwareImageDownload ih (2 ^ 64) 0 img,
  .firmwareImageDownload ih 0 (2 ^ 32) img, .firmwareCommit ⟨65536, 0, 0⟩ 0 0, .firmwareCommit ih 65536 0, .firmwareCommit ih 0 8,
  .fwActivationResume 65536, .formatNvm ⟨0, 65536, 0⟩ 0 0 0, .formatNvm ih (2 ^ 32) 0 0, .formatNvm ih 0 256 0, .formatNvm ih 0 0 8,
  .sanitizeBlockErase ⟨⟨0, 0, 65536⟩, 2⟩, .sanitizeBlockErase ⟨ih, 8⟩, .sanitizeBlockErase ⟨ih, 1⟩, .sanitizeBlockErase ⟨ih, 3⟩,
  .sanitizeOverwrite ⟨65536, 0, 0⟩ 0 false 0, .sanitizeOverwrite ih 16 false 0,
  .sanitizeOverwrite ih 0 false (2 ^ 32), .sanitizeExitFailureMode ⟨65536, 0, 0⟩, .createIoSq ⟨0, 65536, 0⟩ 0 0 0,
  .createIoSq ih 65536 0 0, .createIoSq ih 0 65537 0, .createIoSq ih 0 0 65536, .deleteIoSq ⟨0, 0, 65536⟩ 0, .deleteIoSq ih 65536,
  .createIoCq ⟨0, 65536, 0⟩ 0 0 0, .createIoCq ih 65536 0 0, .createIoCq ih 0 65537 0, .createIoCq ih 0 0 65536,
  .deleteIoCq ⟨0, 0, 65536⟩ 0] (fun i => ! wellFormed i) = true := by decide +kernel

theorem test_ill_formed_3 : List.all (α := Instr) [
  .deleteIoCq ih 65536, .keepAlive ⟨0, 65536, 0⟩, .keepAliveTimeout 65536, .propertyGet ⟨65536, 0, 0⟩ 0, .propertyGet ih (2 ^ 32),
  .propertySet ⟨0, 0, 65536⟩ 0 0, .propertySet ih (2 ^ 32) 0, .propertySet ih 0 (2 ^ 64), .disconnect ⟨0, 0, 65536⟩, .ccEnSet 65536,
  .controllerReset 65536, .memberCompletion (2 ^ 64) .ok, .memberReadError (.cmd (2 ^ 64)) [], .memberReadError (.step 256) [],
    .memberReadError (.cmd 0) [2 ^ 64],
  .readRepair 256 0 false, .readRepair 0 (2 ^ 64) false, .hedgeExpire (2 ^ 64), .memberTimeout (2 ^ 64),
  .memberControllerReadyTimeout 66, .sliceResidueFail 8 false, .engineJobRetire 8, .destageStep 256 0, .destageStep 0 (2 ^ 64),
  .rebuildTargetAssign 256 0 0, .rebuildTargetAssign 0 256 0, .rebuildTargetAssign 0 0 66, .rebuildStep 256 0, .rebuildStep 0 65536,
  .rebuildComplete 256 0, .rebuildComplete 0 65536, .mapCopy 256 0, .mapCopy 0 256, .copybackStep 256, .copybackSwap 256,
  .copybackAutoStart 256 0, .copybackAutoStart 0 256, .patrolStep 256, .resyncStep 256, .arrayOffline { mh with src := .bank 4 } 0,
  .arrayOffline { mh with src := .mctp 0 4 } 0, .arrayOffline { mh with tag := 2 ^ 32 } 0, .arrayOffline { mh with len := 2 ^ 32 } 0,
  .arrayOffline mh 256, .arrayOnline { mh with len := 2 ^ 32 } 0, .arrayOnline mh 256, .arrayForce { mh with src := .mctp 0 4 } 0,
  .arrayForce mh 256, .arrayReplace { mh with len := 2 ^ 32 } 0 0 0 0, .arrayReplace mh 256 0 0 0, .arrayReplace mh 0 256 0 0,
  .arrayReplace mh 0 0 256 0, .arrayReplace mh 0 0 0 256, .arrayCopyback { mh with src := .bank 4 } 0 0 0 0,
  .arrayCopyback mh 256 0 0 0, .arrayCopyback mh 0 256 0 0, .arrayCopyback mh 0 0 256 0, .arrayCopyback mh 0 0 0 256,
  .arrayCopybackStop { mh with src := .mctp 0 4 } 0, .arrayCopybackStop mh 256,
    .patrolRestart { mh with len := 2 ^ 32 } 0] (fun i => ! wellFormed i) = true := by decide +kernel

theorem test_ill_formed_4 : List.all (α := Instr) [
  .patrolRestart mh 256, .nsCreate { mh with src := .mctp 0 4 } 0 0 0 0 0, .nsCreate mh 256 0 0 0 0, .nsCreate mh 0 256 0 0 0,
  .nsCreate mh 0 0 256 0 0, .nsCreate mh 0 0 0 (2 ^ 64) 0, .nsCreate mh 0 0 0 0 (2 ^ 64), .nsDelete { mh with len := 2 ^ 32 } 0,
  .nsDelete mh (2 ^ 32), .nsList { mh with src := .mctp 0 4 } 0 0, .nsList mh 65536 0, .nsList mh 0 (2 ^ 32),
  .envEvictionConfirm (2 ^ 1024), .envOffer (2 ^ 1024), .skirtFillReturn (2 ^ 1024), .skirtStreamExpire 4096 0,
  .skirtStreamExpire 0 (2 ^ 64), .envMaintClean (2 ^ 64), .envMaintInvalidate (2 ^ 64), .envMaintCleanInval (2 ^ 64),
  .scratchOn (2 ^ 64), .scratchOff (2 ^ 64), .envDisableWrite (2 ^ 64), .scratchWindowAccess 4 0 [] false 0,
  .scratchWindowAccess 0 (2 ^ 64) [] false 0, .scratchWindowAccess 0 0 [256] false 0, .scratchWindowAccess 0 0 [] false (2 ^ 32),
  .sramCe (2 ^ 32), .basketEccError 16 0 0 .corrected, .basketEccError 0 256 0 .corrected, .basketEccError 0 0 (2 ^ 32) .corrected,
  .dumpComplete (2 ^ 32) false, .vaultDriveFailure 8, .ballastRestore (2 ^ 32) [], .ballastRestore 0 [2 ^ 64], .hostLinkReset 4 .perst,
  .hostLinkUp 4 0 0 false, .hostLinkUp 0 256 0 false, .hostLinkUp 0 0 256 false, .flrFunction1 4, .hostCompletionTimeout ⟨0, 65536, 0⟩,
  .msixUnmask 4 0, .msixUnmask 0 2048, .intStatusW1c 4 0 0, .intStatusW1c 0 25 0, .intStatusW1c 0 0 (2 ^ 64),
  .drivePresence 256 0 ⟨1, 0, 0, true, true, true, true, 0⟩, .drivePresence 0 256 ⟨1, 0, 0, true, true, true, true, 0⟩,
  .drivePresence 0 0 ⟨1, 0, 0, true, true, true, true, 256⟩,
  .driveBringupTimer 256 0, .driveBringupTimer 0 256, .driveLinkUp 256 0 0 0, .driveLinkUp 0 256 0 0, .driveLinkUp 0 0 256 0,
  .driveLinkUp 0 0 0 256, .driveReady 256 0, .driveReady 0 256, .driveRemoval 256 0, .driveRemoval 0 256, .driveOff 256 0,
  .driveOff 0 256] (fun i => ! wellFormed i) = true := by decide +kernel

theorem test_ill_formed_5 : List.all (α := Instr) [
  .driveOn 256 0, .driveOn 0 256, .driveLinkEvent 256 0 .down, .driveLinkEvent 0 256 .down, .driveLinkRetrainTimeout 256 0,
  .driveLinkRetrainTimeout 0 256, .reservationConflict 256 0 0, .reservationConflict 0 256 0, .reservationConflict 0 0 (2 ^ 64),
  .cmConnectRequest (2 ^ 256) 0 0, .cmConnectRequest 0 4 0, .cmConnectRequest 0 0 256, .qpRetryExhausted (2 ^ 24),
  .ecnCeReceived (2 ^ 24), .cnpReceived (2 ^ 24), .ccRecover (2 ^ 24), .pfcXoff 4 0 0, .pfcXoff 0 256 0, .pfcXoff 0 0 8, .pfcXon 4 0 0,
  .pfcXon 0 256 0, .pfcXon 0 0 8, .pfcPauseRefresh 4 0 0, .pfcPauseRefresh 0 256 0, .pfcPauseRefresh 0 0 8, .pfcStorm 4 0 0,
  .pfcStorm 0 256 0, .pfcStorm 0 0 8, .pfcStormEnd 4 0 0, .pfcStormEnd 0 256 0, .pfcStormEnd 0 0 8, .pauseReceived 4 0 0 0,
  .pauseReceived 0 256 0 0, .pauseReceived 0 0 8 0, .pauseReceived 0 0 0 65536, .fabricLinkEvent 4 0 .up, .fabricLinkEvent 0 256 .up,
  .splStart 64, .splStop 64, .splResume 64, .splAbort 64, .splTrigger 64, .splTimerTick 16, .splTimerWrite 16 0,
  .splTimerWrite 0 (2 ^ 64), .splDescFetch 64 (.ok []), .splDescFetch 0 (.ok [256]), .splDescFetch 0 (.busErr 0 5),
  .splBurstDone 64 (.ok []), .splBurstDone 0 (.busErr 0 5), .splDescDone 64 (.ok []), .splDescDone 0 (.busErr 0 5), .splChainLimit 64,
  .splRequestTimeout 64 0, .splRequestTimeout 0 2, .stringLinkUp 256, .stringLinkDown 256 false,
  .epochFrame { hd 1 with port := 2 } ⟨0, 0, 0, 0, true, true, 0, 0, 0, 0⟩,
  .epochFrame { hd 1 with src := 65536 } ⟨0, 0, 0, 0, true, true, 0, 0, 0, 0⟩,
  .epochFrame { hd 1 with dst := 65536 } ⟨0, 0, 0, 0, true, true, 0, 0, 0, 0⟩] (fun i => ! wellFormed i) = true := by decide +kernel

theorem test_ill_formed_6 : List.all (α := Instr) [
  .epochFrame { hd 1 with seq := 65536 } ⟨0, 0, 0, 0, true, true, 0, 0, 0, 0⟩,
  .epochFrame { hd 1 with hops := 65536 } ⟨0, 0, 0, 0, true, true, 0, 0, 0, 0⟩, .delayReq { hd 1 with dst := 65536 } 0,
  .delayReq (hd 1) (2 ^ 64), .delayResp { hd 1 with hops := 65536 } 0 0 0 0, .delayResp (hd 1) (2 ^ 64) 0 0 0,
  .delayResp (hd 1) 0 (2 ^ 64) 0 0, .delayResp (hd 1) 0 0 (2 ^ 64) 0, .delayResp (hd 1) 0 0 0 (2 ^ 64),
  .candidate { hd 1 with hops := 65536 } 0 0, .candidate (hd 1) (2 ^ 1024) 0, .candidate (hd 1) 0 65536,
  .ringState { hd 1 with dst := 65536 } 0 [], .ringState (hd 1) (2 ^ 32) [], .ringState (hd 1) 0 [2 ^ 64],
  .linkFrame { hd 1 with port := 2 } 0 0 0, .linkFrame (hd 1) (2 ^ 32) 0 0, .linkFrame (hd 1) 0 65536 0, .linkFrame (hd 1) 0 0 65536,
  .ack { hd 1 with hops := 65536 } 0 0, .ack (hd 1) 65536 0, .ack (hd 1) 0 256, .offer { hd 1 with dst := 65536 } 0 0 0 false,
  .offer (hd 1) (2 ^ 32) 0 0 false, .offer (hd 1) 0 (2 ^ 32) 0 false, .offer (hd 1) 0 0 (2 ^ 48) false,
  .config { hd 1 with src := 65536 } 0 0 [] [], .config (hd 1) (2 ^ 32) 0 [] [], .config (hd 1) 0 65536 [] [],
  .config (hd 1) 0 0 [⟨2 ^ 26, 0⟩] [], .config (hd 1) 0 0 [⟨0, 2 ^ 32⟩] [], .config (hd 1) 0 0 [] [(2 ^ 26, [])],
  .config (hd 1) 0 0 [] [(1, [256])], .stringClaim { hd 1 with seq := 65536 } 0 0 0 0 0, .stringClaim (hd 1) 256 0 0 0 0,
  .stringClaim (hd 1) 0 256 0 0 0, .stringClaim (hd 1) 0 0 (2 ^ 64) 0 0, .stringClaim (hd 1) 0 0 0 (2 ^ 64) 0,
  .stringClaim (hd 1) 0 0 0 0 65536, .directory { hd 1 with hops := 65536 } (ent 0 0) 0, .directory (hd 1) (ent 0 0) (2 ^ 32),
  .reportJoin { hd 1 with src := 65536 } 0 0 ⟨0, 0, 0, 0⟩, .reportJoin (hd 1) 65536 0 ⟨0, 0, 0, 0⟩, .reportJoin (hd 1) 0 65536 ⟨0, 0, 0, 0⟩,
  .reportJoin (hd 1) 0 0 ⟨0, 65536, 0, 0⟩, .reportJoin (hd 1) 0 0 ⟨0, 0, 256, 0⟩, .reportJoin (hd 1) 0 0 ⟨0, 0, 0, 2 ^ 128⟩,
  .reportJoin (hd 1) 0 0 ⟨2 ^ 64, 0, 0, 0⟩, .reportLeave { hd 1 with port := 2 } false, .reportLinkDown { hd 1 with src := 65536 } false,
  .reportLinkUp { hd 1 with dst := 65536 } false, .reportCensus { hd 1 with seq := 65536 } 0 ⟨0, 0, 0, 0⟩ 0, .reportCensus (hd 1) 65536 ⟨0, 0, 0,
    0⟩ 0,
  .reportCensus (hd 1) 0 ⟨2 ^ 64, 0, 0, 0⟩ 0, .reportCensus (hd 1) 0 ⟨0, 0, 0, 0⟩ (2 ^ 32), .reportGenReady { hd 1 with dst := 65536 } 0,
  .reportGenReady (hd 1) (2 ^ 32), .reportGenReject { hd 1 with hops := 65536 } 0 0, .reportGenReject (hd 1) (2 ^ 32) 0,
  .reportGenReject (hd 1) 0 256, .reportChunkNak { hd 1 with dst := 65536 } 0 [], .reportChunkNak (hd 1) (2 ^ 32) [],
  .reportChunkNak (hd 1) 0 [2 ^ 64]] (fun i => ! wellFormed i) = true := by decide +kernel

theorem test_ill_formed_7 : List.all (α := Instr) [
  .reportPublish { hd 1 with port := 2 } 0 [] [], .reportPublish (hd 1) (2 ^ 32) [] [], .reportPublish (hd 1) 0 [⟨2 ^ 26, 0⟩] [],
  .reportPublish (hd 1) 0 [⟨0, 2 ^ 32⟩] [], .reportPublish (hd 1) 0 [] [(2 ^ 26, [])], .reportPublish (hd 1) 0 [] [(1, [256])],
  .reportSummary { hd 1 with src := 65536 } ⟨0, 0, 0, 0, 0, 0, 0, 0, 0, 0, 0, 0⟩, .stgWake (2 ^ 32), .wakeSequenceSend (2 ^ 32),
  .sparLinkUp 9, .page (2 ^ 32) 0#32896 false, .cut (2 ^ 48) 0 0 0 0 false, .cut 0 (2 ^ 64) 0 0 0 false, .cut 0 0 (2 ^ 64) 0 0 false,
  .cut 0 0 0 (2 ^ 32) 0 false, .cut 0 0 0 0 (2 ^ 32) false, .confirm (2 ^ 48) 0, .confirm 0 (2 ^ 64), .health (2 ^ 64),
  .sparClaim 256 0 0 0 0, .sparClaim 0 256 0 0 0, .sparClaim 0 0 (2 ^ 64) 0 0, .sparClaim 0 0 0 (2 ^ 64) 0, .sparClaim 0 0 0 0 65536,
  .fetchReq (2 ^ 32), .fetchData (2 ^ 32) 0#32896, .release (2 ^ 64), .syncBegin (2 ^ 64),
  .pairForce { mh with src := .bank 4 } (tok 0), .pairForce mh { tok 0 with slot := 256 },
  .pairForce mh { tok 0 with nonce := 2 ^ 128 }, .pairForce mh { tok 0 with device := 2 ^ 128 },
  .pairForce mh { tok 0 with opcode := 65536 }, .pairSwitchover { mh with src := .mctp 0 4 }, .pairUnpair { mh with tag := 2 ^ 32 },
  .powerOn false 8, .basketTrain 65536 false, .mramCheck false (2 ^ 24), .serdesCal (2 ^ 42), .mbxClrErr 4, .bar0RegisterWrite 4 0 0 0,
  .bar0RegisterWrite 0 (2 ^ 64) 0 0, .bar0RegisterWrite 0 0 (2 ^ 32) 0, .bar0RegisterWrite 0 0 0 (2 ^ 64), .mbxReplyBufferWrite 4,
  .wskWindowWrite 4, .wskRead { mh with tag := 2 ^ 32 } 0 0, .wskRead mh (2 ^ 64) 0, .wskRead mh 0 (2 ^ 32),
  .wskClear { mh with src := .mctp 0 4 } 0 (tok 0), .wskClear mh 256 (tok 0), .wskClear mh 0 { tok 0 with opcode := 65536 },
  .night { mh with src := .bank 4 }, .nightAbort 256, .nightEntryComplete (2 ^ 32), .wakeEvent 4, .nightExitComplete (2 ^ 32) 0,
  .nightExitComplete 0 (2 ^ 24), .shutdown { mh with tag := 2 ^ 32 }, .thermTrip 256] (fun i => ! wellFormed i) = true := by decide +kernel

theorem test_ill_formed_8 : List.all (α := Instr) [
  .thermWarn 256, .regRead { mh with src := .mctp 0 4 } 0 0, .regRead mh (2 ^ 64) 0, .regRead mh 0 (2 ^ 32),
  .regWrite { mh with src := .bank 4 } 0 0, .regWrite mh (2 ^ 64) 0, .regWrite mh 0 (2 ^ 64),
  .stepLogRead { mh with len := 2 ^ 32 } 0 0, .stepLogRead mh 65536 0, .stepLogRead mh 0 (2 ^ 32),
  .shadowWrite { mh with tag := 2 ^ 32 } [], .shadowWrite mh [⟨2 ^ 26, 0⟩], .shadowWrite mh [⟨0, 2 ^ 32⟩],
  .shadowTable { mh with src := .mctp 0 4 } 0 0 0 [], .shadowTable mh (2 ^ 32) 0 0 [], .shadowTable mh 0 (2 ^ 32) 0 [],
  .shadowTable mh 0 0 (2 ^ 64) [], .shadowTable mh 0 0 0 [256], .shadowRead { mh with tag := 2 ^ 32 } 0 0 0,
  .shadowRead mh (2 ^ 32) 0 0, .shadowRead mh 0 (2 ^ 64) 0, .shadowRead mh 0 0 (2 ^ 32), .shadowReset { mh with tag := 2 ^ 32 },
  .launch { mh with len := 2 ^ 32 }, .persistExport { mh with src := .bank 4 } 0, .persistExport mh (2 ^ 64),
  .persist { mh with tag := 2 ^ 32 } 0 0 0 img, .persist mh (2 ^ 32) 0 0 img, .persist mh 0 (2 ^ 64) 0 img,
  .persist mh 0 0 (2 ^ 32) img, .imageWrite { mh with tag := 2 ^ 32 } 0 0 0 0 0 img, .imageWrite mh 65536 0 0 0 0 img,
  .imageWrite mh 0 256 0 0 0 img, .imageWrite mh 0 0 (2 ^ 32) 0 0 img, .imageWrite mh 0 0 0 (2 ^ 64) 0 img,
  .imageWrite mh 0 0 0 0 (2 ^ 32) img, .publish { mh with src := .bank 4 } 0 0 0 img, .publish mh (2 ^ 32) 0 0 img,
  .publish mh 0 (2 ^ 64) 0 img, .publish mh 0 0 (2 ^ 32) img, .summaryRead { mh with src := .bank 4 } 0 0, .summaryRead mh 65536 0,
  .summaryRead mh 0 (2 ^ 32), .directoryRead { mh with len := 2 ^ 32 } 0 0, .directoryRead mh 65536 0, .directoryRead mh 0 (2 ^ 32),
  .getNonce { mh with tag := 2 ^ 32 }, .keyProvision { mh with len := 2 ^ 32 } 0 0 (tok 0), .keyProvision mh 65536 0 (tok 0),
  .keyProvision mh 0 (2 ^ 1024) (tok 0), .keyProvision mh 0 0 { tok 0 with device := 2 ^ 128 },
  .keyRevoke { mh with len := 2 ^ 32 } 0 (tok 0), .keyRevoke mh 65536 (tok 0), .keyRevoke mh 0 { tok 0 with nonce := 2 ^ 128 },
  .hostkeyEnroll { mh with tag := 2 ^ 32 } 0 (tok 0), .hostkeyEnroll mh (2 ^ 1024) (tok 0),
  .hostkeyEnroll mh 0 { tok 0 with slot := 256 }, .svnAdvance { mh with src := .mctp 0 4 } (tok 0),
  .svnAdvance mh { tok 0 with device := 2 ^ 128 }, .getVersion ⟨.bank 4, true⟩] (fun i => ! wellFormed i) = true := by decide +kernel

theorem test_ill_formed_9 : List.all (α := Instr) [
  .getCapabilities ⟨.bank 4, true⟩, .negotiateAlgorithms ⟨.bank 4, true⟩, .getDigests ⟨.bank 4, true⟩,
  .getCertificate ⟨.bank 4, true⟩ 0 0 0, .getCertificate sq 65536 0 0, .getCertificate sq 0 (2 ^ 64) 0,
  .getCertificate sq 0 0 (2 ^ 32), .challenge ⟨.bank 4, true⟩ 0, .challenge sq 65536, .getMeasurements ⟨.bank 4, true⟩ 0 false,
  .getMeasurements sq 256 false, .respondIfReady ⟨.bank 4, true⟩, .mramCe (2 ^ 32), .commandParityError 16 0 false,
  .commandParityError 0 (2 ^ 32) false, .loRegisterRead 4 0, .loRegisterRead 0 (2 ^ 64),
  .stringFrameForward { hd 1 with dst := 65536 } 0, .stringFrameForward (hd 1) 256, .hostCompletionError ⟨0, 65536, 0⟩,
  .fecUncorrectable 4, .invalidOpcode ⟨65536, 0, 0⟩ 0, .invalidOpcode ih 65536, .mbxUnsupportedOpcode { mh with len := 2 ^ 32 } 0,
  .mbxUnsupportedOpcode mh 65536, .spdmUnsupportedRequest ⟨.bank 4, true⟩ 0, .spdmUnsupportedRequest sq 256,
    .busMasterEnable 4 false] (fun i => ! wellFormed i) = true := by decide +kernel

end Sys2Proof.Tests
end

section
/-! SUPPORT. The scope family: what the machine holds right after reset (R8, R383), the register store's reads after writes, and the BAR0
accesses to registers and windows (R8, R189, R354, R373, R377, R379, R384, R389). -/

namespace Sys2Proof.Machine

/-! ### The state after reset -/

/-- The register store lists differences from the reset values, and lists none at reset. -/
@[simp] theorem State.rd_reset (f : Fld) : State.reset.rd f = f.rst := by
  simp [State.reset, SMap.get]

/-- Where every cause of a register reads 0, no enable makes its source pending. -/
theorem layAnd_of_causes_zero {s : State} : ∀ {causes : List LFld} (enables : List LFld),
    (∀ f ∈ causes, s.rd f.fld = 0) → layAnd s causes enables = false
  | [], _, _ => rfl
  | _ :: _, [], _ => rfl
  | c :: cs, e :: es, h => by
    have hc : s.rd c.fld = 0 := h c (by simp)
    have hcs : layAnd s cs es = false := layAnd_of_causes_zero es fun f hf => h f (by simp [hf])
    simp [layAnd, hc, hcs]

/-- Every cause field of the interrupt sources resets to 0 on each of the four links (Table 16.4). -/
theorem intSources_causes_rst : ∀ link < 4, ∀ p ∈ intSources, ∀ f ∈ (layoutAt link p.1).getD [], f.fld.rst = 0 := by
  decide

theorem srcPending_reset {link : Nat} (hl : link < 4) (n : Nat) : srcPending State.reset link n = false := by
  unfold srcPending
  split
  · next st en hn =>
    have hz := intSources_causes_rst link hl (st, en) (List.mem_of_getElem? hn)
    split
    · next causes enables hc _ =>
      exact layAnd_of_causes_zero enables fun f hf => by simpa [hc] using hz f (by simpa [hc] using hf)
    · rfl
  · rfl

theorem vecLevels_reset {link : Nat} (hl : link < 4) : vecLevels State.reset link = [] := by
  have hnone : ((List.range 25).filter fun n => srcRouted State.reset link n && srcPending State.reset link n) = [] :=
    List.filter_eq_nil_iff.mpr fun n _ => by rw [srcPending_reset hl, Bool.and_false]; exact Bool.false_ne_true
  rw [vecLevels, hnone, List.foldl_nil]

/-- All four links are down after reset. -/
theorem links_reset {i : Nat} {l : HLink} (h : State.reset.links[i]? = some l) : i < 4 ∧ l = HLink.down := by
  have h' : (List.replicate 4 HLink.down)[i]? = some l := h
  obtain ⟨hi, _⟩ := List.getElem?_eq_some_iff.mp h'
  exact ⟨by simpa using hi, List.eq_of_mem_replicate (List.mem_of_getElem? h')⟩

/-- No source is pending after reset, so the links' levels of 0 are up to date (R384). -/
theorem settled_reset : Settled State.reset := by
  refine ⟨rfl, fun i l h => ?_⟩
  obtain ⟨hi, rfl⟩ := links_reset h
  exact ⟨(vecLevels_reset hi).symm, fun v hv => nomatch hv⟩

/-- Settles O2: the register store lists no difference from the reset values, and no cause field resets to 1. -/
theorem resetLeavesResetValues : Obligations.ResetLeavesResetValues :=
  ⟨State.rd_reset, rfl, rfl, rfl, rfl, rfl, rfl, rfl, fun _ hc => List.eq_of_mem_replicate hc, settled_reset⟩

/-! ### The register store -/

/-- The bits that `a` shares with `m` borrow nothing when they are taken away from it. -/
theorem sub_and_div_two (a m : Nat) : (a - (a &&& m)) / 2 = a / 2 - (a / 2 &&& m / 2) := by
  have hlow : (a &&& m) % 2 ≤ a % 2 := by
    rw [show 2 = 2 ^ 1 from rfl, Nat.and_mod_two_pow]
    exact Nat.and_le_left
  rw [← Nat.and_div_two]
  omega

/-- A number less the bits it shares with `m` has the bits that `m` lacks. -/
theorem testBit_sub_and (a m i : Nat) : (a - (a &&& m)).testBit i = (a.testBit i && ! m.testBit i) := by
  induction i generalizing a m with
  | zero =>
    have hlow : (a &&& m) % 2 = 1 ↔ a % 2 = 1 ∧ m % 2 = 1 := Nat.and_mod_two_eq_one
    have hle : a &&& m ≤ a := Nat.and_le_left
    rw [Bool.eq_iff_iff]
    simp only [Nat.testBit_zero, Bool.and_eq_true, Bool.not_eq_true', decide_eq_true_eq, decide_eq_false_iff_not]
    omega
  | succ i ih => rw [Nat.testBit_succ, Nat.testBit_succ, Nat.testBit_succ, sub_and_div_two, ih]

/-- A W1C write clears the bits written with 1 and keeps the others (R8). -/
theorem State.testBit_rd_clr {s : State} {f : Fld} (h : s.rd f < 2 ^ f.w) (m i : Nat) :
    ((s.clr f m).rd f).testBit i = ((s.rd f).testBit i && ! m.testBit i) := by
  have hlt : s.rd f - (s.rd f &&& m) < 2 ^ f.w := Nat.lt_of_le_of_lt (Nat.sub_le _ _) h
  rw [State.rd_clr_same, Nat.mod_eq_of_lt hlt, testBit_sub_and]

/-- The meaning of `INT_STATUS_W1C` (R384). -/
theorem exec_intStatusW1c (link n v : Nat) (s : State) : exec (.intStatusW1c link n v) s = live s (doIntStatusW1c link n v s) := rfl

/-- A W1C write to a source of Table 16.6 clears its causes and lets its vectors send again. -/
theorem doIntStatusW1c_eq {n : Nat} (h : n < intSources.length) (link v : Nat) (s : State) :
    doIntStatusW1c link n v s = { w1cWrite link intSources[n].1 v s with kicks := [kickOf link n] } := by
  simp only [doIntStatusW1c, List.getElem?_eq_getElem h]

/-- Settles O31: a register read is the last write cut to the field's width, and a W1C write takes away the bits it shares with the field. -/
theorem registerFieldsHoldTheirValues : Obligations.RegisterFieldsHoldTheirValues := by
  refine ⟨fun s f v hv _ => ?_, fun s f g v hk => s.rd_wr_ne hk.symm v, fun s f v i hs _ _ => s.testBit_rd_clr hs v i,
    fun s f _ _ => s.rd_incSat_same f 1, fun s link n v ha hn => ?_⟩
  · rw [State.rd_wr_same, Nat.mod_eq_of_lt hv]
  · exact ⟨intSources[n], List.getElem?_eq_getElem hn,
      Gives.of_live_eq (exec_intStatusW1c link n v s) ha (doIntStatusW1c_eq hn link v s)⟩

/-! ### BAR0 writes -/

/-- The meaning of `BAR0_REGISTER_WRITE` (R379). -/
theorem exec_bar0RegisterWrite (link off size v : Nat) (s : State) :
    exec (.bar0RegisterWrite link off size v) s = live s (doBar0RegisterWrite link off size v s) := rfl

/-- The meaning of `MBX_REPLY_BUFFER_WRITE` (R389). -/
theorem exec_mbxReplyBufferWrite (link : Nat) (s : State) :
    exec (.mbxReplyBufferWrite link) s = live s (doMbxReplyBufferWrite link s) := rfl

/-- The meaning of `WSK_WINDOW_WRITE` (R354). -/
theorem exec_wskWindowWrite (link : Nat) (s : State) : exec (.wskWindowWrite link) s = live s (doWskWindowWrite link s) := rfl

/-- A meaning that changes nothing ends the same way whether or not the device takes part. -/
theorem live_same (s : State) : live s s = .next (settle s) := by
  rw [live, ite_self, fin]

theorem Gives.of_live_same {c : Instr} {s t : State} (e : exec c s = live s t) (h : t = s) : Gives c s s := by
  rw [Gives, e, h, live_same]

/-- A write over a link that is down reaches nothing. -/
theorem doBar0RegisterWrite_of_down {s : State} {link : Nat} (h : barUp s link = false) (off size v : Nat) :
    doBar0RegisterWrite link off size v s = s := by
  simp [doBar0RegisterWrite, h]

section
variable {s : State} {link off size : Nat} (hup : barUp s link = true) (hsize : 0 < size)
include hup hsize

/-- A write that lies in a window is the window's. -/
theorem doBar0RegisterWrite_of_window (hw : windowOf off ≠ 0) (hend : off + size ≤ windowEnd (windowOf off)) (v : Nat) :
    doBar0RegisterWrite link off size v s = writeWindow link (windowOf off) off (leBytes size v) s := by
  simp [doBar0RegisterWrite, hup, Nat.ne_of_gt hsize, hw, hend]

/-- A write outside the map is counted in UNMAPPED and answered with Unsupported Request (R377). -/
theorem doBar0RegisterWrite_of_unmapped (hw : windowOf off = 0) (hb : inBlock off = false) (v : Nat) :
    doBar0RegisterWrite link off size v s = hostUr link (s.incSat R.GLB_ERR_UNMAPPED) := by
  simp [doBar0RegisterWrite, hup, Nat.ne_of_gt hsize, hw, hb, unmapped]

/-- A write of part of a register's word is discarded and counted in PARTIAL (R379). -/
theorem doBar0RegisterWrite_of_partial (hw : windowOf off = 0) (hb : inBlock off = true) (hp : size < 4 ∨ size = 4 ∧ off % 4 ≠ 0)
    (v : Nat) : doBar0RegisterWrite link off size v s = s.incSat R.GLB_ERR_PARTIAL := by
  have hle : ¬ 4 < size := by omega
  have hpart : size < 4 ∨ off % 4 ≠ 0 := hp.imp_right And.right
  simp [doBar0RegisterWrite, hup, hw, hb, hle, hpart, Nat.ne_of_gt hsize]

end

/-- An aligned write of a whole word is the register's (R379). -/
theorem doBar0RegisterWrite_of_word {s : State} {link off : Nat} (hup : barUp s link = true) (hw : windowOf off = 0)
    (hb : inBlock off = true) (ha : off % 4 = 0) (v : Nat) :
    doBar0RegisterWrite link off 4 v s = (writeReg link off v s).2 := by
  simp [doBar0RegisterWrite, hup, hw, hb, ha]

/-- The request buffer's window (Table 16.1). -/
theorem windowOf_request {k : Nat} (h : k < 0x1000) : windowOf (0x1101000 + k) = 1 := by
  have hin : 0x1101000 ≤ 0x1101000 + k ∧ 0x1101000 + k < 0x1102000 := by omega
  simp only [windowOf, hin, and_self, if_true]

/-- A write that lies in the request buffer, from byte `k` on, is the request buffer's. -/
theorem doBar0RegisterWrite_request {s : State} {link k size : Nat} (hup : barUp s link = true) (hsize : 0 < size)
    (hk : k + size ≤ 0x1000) (v : Nat) :
    doBar0RegisterWrite link (0x1101000 + k) size v s = writeWindow link 1 (0x1101000 + k) (leBytes size v) s := by
  have hw : windowOf (0x1101000 + k) = 1 := windowOf_request (by omega)
  have hend : 0x1101000 + k + size ≤ windowEnd 1 := by simp only [windowEnd, if_true]; omega
  rw [doBar0RegisterWrite_of_window hup hsize (by rw [hw]; decide) (by rw [hw]; exact hend), hw]

/-- While BUSY is 0 the request buffer takes its bytes (R389). -/
theorem writeWindow_request_idle {s : State} {link : Nat} (h : s.rd (R.MBX_STATUS_BUSY link) = 0) (k : Nat) (bs : List Nat) :
    writeWindow link 1 (0x1101000 + k) bs s = { s with mbx.req := SMap.write 0 (link * mbxBuf + k) bs s.mbx.req } := by
  simp [writeWindow, State.on, h]

/-- While BUSY is 1 the request buffer takes nothing (R389). -/
theorem writeWindow_request_busy {s : State} {link : Nat} (h : s.rd (R.MBX_STATUS_BUSY link) = 1) (off : Nat) (bs : List Nat) :
    writeWindow link 1 off bs s = s := by
  simp [writeWindow, State.on, h]

/-! ### BAR0 reads -/

/-- The meaning of `LO_REGISTER_READ` (R373). -/
theorem exec_loRegisterRead (link off : Nat) (s : State) : exec (.loRegisterRead link off) s = live s (doLoRegisterRead link off s) := rfl

/-- A read of a mapped offset beside the windows is a read of a register. -/
theorem readWord_of_reg {off : Nat} (hw : windowOf off = 0) (hb : inBlock off = true) (link : Nat) (s : State) :
    readWord link off s = (some (readReg link off s).1, (readReg link off s).2) := by
  simp [readWord, hw, hb]

/-- A read from byte `k` of a register's word on is a read of the register, and answers its bytes from there on (R377). -/
theorem doLoRegisterRead_of_reg {s : State} {link off k : Nat} (hup : barUp s link = true) (hw : windowOf off = 0)
    (hb : inBlock off = true) (hwk : windowOf (off + k) = 0) (hbk : inBlock (off + k) = true) (ha : off % 4 = 0) (hk : k < 4) :
    doLoRegisterRead link (off + k) s = (readReg link off s).2.emit (.window link [(readReg link off s).1 / 256 ^ k] false) := by
  have hmod : (off + k) % 4 = k := by omega
  simp [doLoRegisterRead, hup, hwk, hbk, hmod, readWord_of_reg hw hb]

/-- A read changes no register. -/
theorem readReg_regs (link off : Nat) (s : State) : (readReg link off s).2.regs = s.regs := by
  unfold readReg
  split
  · rfl
  · dsimp only
    split <;> split <;> rfl

/-- A register that no read latches answers its value. -/
theorem readReg_val {off : Nat} (h : latchedHi off = false) (link : Nat) (s : State) :
    (readReg link off s).1 = regVal s link off := by
  simp [readReg, h]

/-- A _LO register's read latches its _HI register (R373). -/
theorem readReg_latch {off : Nat} (h : latchedHi off = false) (hhi : latchedHi (off + 4) = true) (link : Nat) (s : State) :
    (readReg link off s).2.latch =
      SMap.set 0 (latchKey link (off + 4)) (regVal s link (off + 4) ^^^ regReset link (off + 4)) s.latch := by
  simp only [readReg, h, hhi, if_true, Bool.false_eq_true, if_false]
  split <;> rfl

/-- A _HI register answers its latch (R373). -/
theorem readReg_latched {off : Nat} (h : latchedHi off = true) (link : Nat) (s : State) :
    (readReg link off s).1 = SMap.get 0 (latchKey link off) s.latch ^^^ regReset link off := by
  simp [readReg, h]

/-- A _HI register read after its _LO register answers the value it had when the _LO register was read (R373). -/
theorem readReg_hi_after_lo {off : Nat} (h : latchedHi off = false) (hhi : latchedHi (off + 4) = true) (link : Nat) (s : State) :
    (readReg link (off + 4) (readReg link off s).2).1 = regVal s link (off + 4) := by
  rw [readReg_latched hhi, readReg_latch h hhi, SMap.get_set_same, Nat.xor_assoc, Nat.xor_self, Nat.xor_zero]

/-- Settles O30: each access is one branch of the write's and the read's case split, and a _LO register's read latches its _HI register. -/
theorem bar0AccessesAreServed : Obligations.Bar0AccessesAreServed := by
  refine ⟨?word, ?part, ?unmapped, ?requestIdle, ?requestBusy, ?down, ?reply, ?windsock, ?readWhole, ?readPart, ?latch⟩
  case word =>
    intro s link off v ha hup hb hw hal
    exact .of_live_eq (exec_bar0RegisterWrite link off 4 v s) ha (doBar0RegisterWrite_of_word hup hw hb hal v)
  case part =>
    intro s link off size v ha hup hb hw hsize hp
    exact .of_live_eq (exec_bar0RegisterWrite link off size v s) ha (doBar0RegisterWrite_of_partial hup hsize hw hb hp v)
  case unmapped =>
    intro s link off size v ha hup hsize hb hw
    exact .of_live_eq (exec_bar0RegisterWrite link off size v s) ha (doBar0RegisterWrite_of_unmapped hup hsize hw hb v)
  case requestIdle =>
    intro s link k size v ha hup hsize hk hbusy
    exact .of_live_eq (exec_bar0RegisterWrite link _ size v s) ha
      ((doBar0RegisterWrite_request hup hsize hk v).trans (writeWindow_request_idle hbusy k _))
  case requestBusy =>
    intro s link k size v ha hup hsize hk hbusy
    exact .of_live_eq (exec_bar0RegisterWrite link _ size v s) ha
      ((doBar0RegisterWrite_request hup hsize hk v).trans (writeWindow_request_busy hbusy _ _))
  case down =>
    intro s link off v hdown
    exact .of_live_same (exec_bar0RegisterWrite link off 4 v s) (doBar0RegisterWrite_of_down hdown off 4 v)
  case reply =>
    intro s link ha hup
    exact .of_live_eq (exec_mbxReplyBufferWrite link s) ha (if_pos hup)
  case windsock =>
    intro s link ha
    exact .of_live (exec_wskWindowWrite link s) ha
  case readWhole =>
    intro s link off ha hup hw hb hal
    exact .of_live_eq (exec_loRegisterRead link off s) ha
      ((doLoRegisterRead_of_reg (k := 0) hup hw hb hw hb hal (by decide)).trans (by rw [Nat.pow_zero, Nat.div_one]))
  case readPart =>
    intro s link off k ha hup hwk hbk hal hk hw hb
    exact .of_live_eq (exec_loRegisterRead link (off + k) s) ha (doLoRegisterRead_of_reg hup hw hb hwk hbk hal hk)
  case latch =>
    intro s link off h hhi _
    exact ⟨readReg_val h link s, readReg_hi_after_lo h hhi link s, readReg_regs link off s⟩

end Sys2Proof.Machine
end

section
/-! SUPPORT. The stripe engine's slices: what the retirement of a job and a failed residue check do (R18, R67, R68, R70). -/

namespace Sys2Proof.Machine

/-! ### The slices' queues -/

/-- The meaning of `ENGINE_JOB_RETIRE` (R18). -/
theorem exec_engineJobRetire (j : Nat) (s : State) : exec (.engineJobRetire j) s = live s (doEngineJobRetire j s) := rfl

/-- The meaning of `SLICE_RESIDUE_FAIL` (R70). -/
theorem exec_sliceResidueFail (j : Nat) (again : Bool) (s : State) :
    exec (.sliceResidueFail j again) s = live s (doSliceResidueFail j again s) := rfl

/-- A list of which nothing satisfies the test gives no first element. -/
theorem takeFirst_eq_none {α : Type} {p : α → Bool} {l : List α} (h : ∀ x ∈ l, p x = false) : takeFirst p l = none := by
  induction l with
  | nil => rfl
  | cons x xs ih =>
    obtain ⟨hx, hxs⟩ := List.forall_mem_cons.mp h
    simp [takeFirst, hx, ih hxs]

/-- `takeFirst` takes the element that `find?` finds. -/
theorem find?_of_takeFirst {α : Type} {p : α → Bool} {l r : List α} {x : α} (h : takeFirst p l = some (x, r)) :
    l.find? p = some x := by
  induction l generalizing r with
  | nil => cases h
  | cons y ys ih =>
    cases hy : p y with
    | true => simp_all [takeFirst]
    | false =>
      rw [takeFirst, hy] at h
      rw [List.find?_cons_of_neg (by simp [hy])]
      cases ht : takeFirst p ys with
      | none => simp [ht] at h
      | some q => simp [ht] at h; exact ih (r := q.2) (by rw [ht, ← h.1])

/-- A fold whose step keeps what it has or takes the next element ends with one of the list's elements. -/
theorem mem_of_foldl_choice {α : Type} {f : Option α → α → Option α} (hf : ∀ b x, f b x = some x ∨ f b x = b) {k : α} :
    ∀ {l : List α} {b : Option α}, l.foldl f b = some k → k ∈ l ∨ b = some k
  | [], _, h => .inr h
  | x :: l, b, h => by
    rcases mem_of_foldl_choice hf (l := l) h with hk | hk
    · exact .inl (List.mem_cons_of_mem _ hk)
    · rcases hf b x with e | e <;> rw [e] at hk
      · exact .inl (Option.some.inj hk ▸ List.mem_cons_self)
      · exact .inr hk

/-- A job is given to a slice that is online (R70). -/
theorem slicePick_online {p : Nat → Bool} {s : State} {k : Nat} (h : slicePick p s = some k) :
    bit (s.rd R.STR_ENG_STATUS_SLICE_OFF) k = false := by
  unfold slicePick at h
  have hk : k ∈ _ ∨ none = some k := mem_of_foldl_choice (fun b x => by
    cases b with
    | none => exact .inl rfl
    | some i => dsimp only; split <;> simp) h
  obtain ⟨_, ⟨_, hon⟩, _⟩ : k < 4 ∧ (p k = true ∧ bit (s.rd R.STR_ENG_STATUS_SLICE_OFF) k = false) ∧ _ := by simpa using hk
  exact hon

/-- Jobs that waited change nothing but the queues when they are admitted, and go to slices that are online (R67, R70). -/
theorem jobsAdmit_spec (n : Nat) (s : State) : ∃ js ws, jobsAdmit n s = { s with ce.jobs := js, ce.jobWait := ws } ∧
    ∀ x ∈ js, x ∈ s.ce.jobs ∨ bit (s.rd R.STR_ENG_STATUS_SLICE_OFF) x.slice = false := by
  induction n generalizing s with
  | zero => exact ⟨_, _, rfl, fun _ => .inl⟩
  | succ n ih =>
    unfold jobsAdmit
    split
    · exact ⟨_, _, rfl, fun _ => .inl⟩
    · next x xs _ =>
      split
      · next t ht =>
        obtain ⟨k, hk, rfl⟩ := Option.map_eq_some_iff.mp ht
        obtain ⟨js, ws, e, hjs⟩ := ih _
        refine ⟨js, ws, e, fun y hy => (hjs y hy).elim (fun h => ?_) .inr⟩
        rcases List.mem_append.mp h with h | h
        · exact .inl h
        · rw [List.mem_singleton.mp h]
          exact .inr (slicePick_online hk)
      · exact ⟨_, _, rfl, fun _ => .inl⟩

theorem bit_eq_testBit (v i : Nat) : bit v i = v.testBit i := (Nat.testBit_eq_decide_div_mod_eq).symm

/-- Or-ing the bits of a list of indexes into a mask sets those bits and keeps the others. -/
theorem testBit_foldl_or (l : List Nat) (m i : Nat) :
    (l.foldl (fun m j => m ||| 2 ^ j) m).testBit i = (m.testBit i || decide (i ∈ l)) := by
  induction l generalizing m with
  | nil => simp
  | cons j l ih => simp [ih, Nat.testBit_two_pow, Bool.or_assoc, eq_comm]

/-- SLICE_BUSY shows the slices with queued jobs (R67). -/
theorem bit_sliceBusy (s : State) {j : Nat} (hj : j < 4) :
    bit ((sliceBusy s).rd R.STR_ENG_STATUS_SLICE_BUSY) j = s.ce.jobs.any (fun x => x.slice = j) := by
  rw [sliceBusy, State.rd_wr_same, bit_eq_testBit, Nat.testBit_mod_two_pow, testBit_foldl_or]
  rw [Bool.eq_iff_iff]
  simp [hj]

/-! ### Retirement -/

/-- A slice's oldest job is retired where no job waits for room: its input is counted, and its operation may have come to its end. -/
theorem doEngineJobRetire_of_takeFirst {j : Nat} {x : Job} {rest : List Job} {s : State}
    (ht : takeFirst (fun x : Job => x.slice = j) s.ce.jobs = some (x, rest)) (hw : s.ce.jobWait = []) :
    doEngineJobRetire j s =
      engineEnd x.op (sliceBusy (State.incWrap { s with ce.jobs := rest } (R.STR_ENG_CNTj_INPUT_4K j) x.units)) := by
  simp only [doEngineJobRetire, ht, State.incWrap_ce, hw, List.length_nil, jobsAdmit]

/-- An operation with jobs left goes on waiting. -/
theorem engineEnd_of_busy {op : Nat} {s : State} (h : engineBusy s op = true) : engineEnd op s = s := if_pos h

/-- A step of the device's own gives up its lock entry with its last job (R68). -/
theorem engineEnd_of_own {op : Nat} {s : State} (h : engineBusy s op = false) (hop : 2 ^ 33 ≤ op) :
    engineEnd op s = unlockAll op s := by
  rw [engineEnd, h, if_neg Bool.false_ne_true, if_pos hop]

/-! ### Failed residue checks -/

/-- A failed check has been counted and its epoch noted (R70). -/
def residueCounted (j : Nat) (s : State) : State :=
  State.incSat { s with ce.sliceFails := s.ce.sliceFails ++ [(j, s.tet.epoch)] } R.STR_ENG_STATUS_FAULTS

/-- A slice has been taken off, which is raised and recorded (R70). -/
def sliceTakenOff (j : Nat) (s : State) : State :=
  let u := (s.raise R.STR_ENG_STATUS_SLICE_OFF (2 ^ j)).raise R.STR_INT_DEV_SLICE_FAIL (2 ^ j)
  u.event 0x8600 0 [j, u.rd R.STR_ENG_STATUS_FAULTS]

/-- Counting a failure changes FAULTS alone. -/
theorem residueCounted_rd {f : Fld} (h : f.key ≠ R.STR_ENG_STATUS_FAULTS.key) (j : Nat) (s : State) :
    (residueCounted j s).rd f = s.rd f := State.rd_incSat_ne _ h 1

theorem sliceTakenOff_off (j : Nat) (s : State) :
    (sliceTakenOff j s).rd R.STR_ENG_STATUS_SLICE_OFF = (s.rd R.STR_ENG_STATUS_SLICE_OFF ||| 2 ^ j) % 16 := by
  rw [sliceTakenOff, State.rd_event _ (by decide) (by decide), State.rd_raise_ne _ (by decide), State.rd_raise_same]
  rfl

theorem sliceTakenOff_fail (j : Nat) (s : State) :
    (sliceTakenOff j s).rd R.STR_INT_DEV_SLICE_FAIL = (s.rd R.STR_INT_DEV_SLICE_FAIL ||| 2 ^ j) % 16 := by
  rw [sliceTakenOff, State.rd_event _ (by decide) (by decide), State.rd_raise_same, State.rd_raise_ne _ (by decide)]
  rfl

theorem sliceTakenOff_bit {j : Nat} (hj : j < 4) (s : State) :
    bit ((sliceTakenOff j s).rd R.STR_ENG_STATUS_SLICE_OFF) j = true := by
  rw [sliceTakenOff_off, bit_eq_testBit, show 16 = 2 ^ 4 from rfl, Nat.testBit_mod_two_pow, Nat.testBit_or, Nat.testBit_two_pow_self]
  simp [hj]

@[simp] theorem sliceTakenOff_ce (j : Nat) (s : State) : (sliceTakenOff j s).ce = s.ce := by simp [sliceTakenOff]

/-- A slice that is emptied passes its jobs to the queues of the slices that are online, or they wait (R70). -/
theorem sliceEmpty_spec (j : Nat) (s : State) : ∃ js ws, sliceEmpty j s = sliceBusy { s with ce.jobs := js, ce.jobWait := ws } ∧
    ∀ x ∈ js, x.slice ≠ j ∨ bit (s.rd R.STR_ENG_STATUS_SLICE_OFF) x.slice = false := by
  obtain ⟨js, ws, e, hjs⟩ := jobsAdmit_spec _ { s with
    ce.jobs := s.ce.jobs.filter fun x => x.slice ≠ j,
    ce.jobWait := ((s.ce.jobs.filter fun x => x.slice = j).map fun x => (x.op, x.units)) ++ s.ce.jobWait }
  exact ⟨js, ws, congrArg sliceBusy e, fun x hx => (hjs x hx).imp_left fun h => by simpa using (List.mem_filter.mp h).2⟩

/-- A check that fails on the second slice takes its slice off; the device goes on with the others (R70). -/
theorem doSliceResidueFail_again {j : Nat} {s : State} (hj : j < 4) (hoff : bit (s.rd R.STR_ENG_STATUS_SLICE_OFF) j = false)
    (hleft : (s.rd R.STR_ENG_STATUS_SLICE_OFF ||| 2 ^ j) % 16 ≠ 15) :
    doSliceResidueFail j true s = sliceEmpty j (sliceTakenOff j (residueCounted j s)) := by
  have hon : (sliceTakenOff j (residueCounted j s)).rd R.STR_ENG_STATUS_SLICE_OFF ≠ 15 := by
    rwa [sliceTakenOff_off, residueCounted_rd (by decide)]
  have hin : ¬ (j ≥ 4 ∨ bit (s.rd R.STR_ENG_STATUS_SLICE_OFF) j = true) := by simp [hj, hoff]
  rw [doSliceResidueFail, if_neg hin]
  simp only [Bool.true_or, true_or, if_true]
  exact if_neg hon

/-- A check that fails for the first time leaves its slice on while the slice has failed less than twice in the last 1,024 epochs (R70). -/
theorem doSliceResidueFail_first {j : Nat} {s : State} (hj : j < 4) (hoff : bit (s.rd R.STR_ENG_STATUS_SLICE_OFF) j = false)
    (hrecent : (s.ce.sliceFails.filter fun p => p.1 = j && decide (s.tet.epoch < p.2 + 1024)).length < 2)
    (hfirst : ((s.ce.jobs.find? fun x => x.slice = j).map (·.tried)).getD false = false) :
    doSliceResidueFail j false s = jobRerun j (residueCounted j s) := by
  have hin : ¬ (j ≥ 4 ∨ bit (s.rd R.STR_ENG_STATUS_SLICE_OFF) j = true) := by simp [hj, hoff]
  rw [doSliceResidueFail, if_neg hin]
  simp only [State.incSat_ce, State.incSat_tet, hfirst, Bool.or_false, Bool.false_eq_true, false_or]
  exact if_neg (Nat.not_le_of_lt (Nat.succ_lt_succ hrecent))

/-- The choice of a slice looks at the queues and at the slices that are online. -/
theorem slicePick_congr {s t : State} (hj : t.ce.jobs = s.ce.jobs)
    (ho : t.rd R.STR_ENG_STATUS_SLICE_OFF = s.rd R.STR_ENG_STATUS_SLICE_OFF) (p : Nat → Bool) : slicePick p t = slicePick p s := by
  unfold slicePick
  rw [hj, ho]

/-- The oldest job of the slice goes to the end of another slice's queue, marked as tried (R70). -/
theorem jobRerun_of_takeFirst {j k : Nat} {x : Job} {rest : List Job} {s : State}
    (ht : takeFirst (fun x : Job => x.slice = j) s.ce.jobs = some (x, rest)) (hk : slicePick (fun i => i ≠ j) s = some k) :
    jobRerun j s = sliceBusy { s with ce.jobs := rest ++ [{ x with slice := k, tried := true }] } := by
  simp only [jobRerun, ht, hk, Option.getD_some]

/-- A slice without jobs has none to run again. -/
theorem jobRerun_of_empty {j : Nat} {s : State} (h : s.ce.jobs.all (fun x => x.slice ≠ j) = true) : jobRerun j s = s := by
  have ht : takeFirst (fun x : Job => x.slice = j) s.ce.jobs = none := takeFirst_eq_none fun x hx => by
    simpa using List.all_eq_true.mp h x hx
  simp only [jobRerun, ht]

/-- Settles O14: a retirement ends its operation with the last job, and a failed check either runs the job again or empties its slice. -/
theorem engineSlicesRetireOrFail : Obligations.EngineSlicesRetireOrFail := by
  refine ⟨?retire, ?retireLast, fun s j hj => bit_sliceBusy s hj, ?off, ?rerun, ?none⟩
  case retire =>
    intro s j x rest ha ht hw hmore
    refine .of_live_eq (exec_engineJobRetire j s) ha ((doEngineJobRetire_of_takeFirst ht hw).trans (engineEnd_of_busy ?_))
    exact Bool.or_eq_true_iff.mpr (.inl hmore)
  case retireLast =>
    intro s j x rest ha ht hw hlast hop
    refine .of_live_eq (exec_engineJobRetire j s) ha ((doEngineJobRetire_of_takeFirst ht hw).trans (engineEnd_of_own ?_ hop))
    exact Bool.or_eq_false_iff.mpr ⟨hlast, congrArg (fun l : List (Nat × Nat) => l.any fun y => y.1 = x.op) hw⟩
  case off =>
    intro s j ha hj hoff hleft
    refine .of_live (exec_sliceResidueFail j true s) ha ?_
    obtain ⟨js, ws, e, hjs⟩ := sliceEmpty_spec j (sliceTakenOff j (residueCounted j s))
    rw [doSliceResidueFail_again hj hoff hleft, e]
    have hgone : js.all (fun x => x.slice ≠ j) = true := by
      refine List.all_eq_true.mpr fun x hx => decide_eq_true fun hxj => ?_
      have hbit := hjs x hx
      rw [hxj, sliceTakenOff_bit hj] at hbit
      simp at hbit
    refine ⟨?_, ?_, ?_, hgone, by simp [SameStores, sliceBusy, sliceTakenOff, residueCounted],
      by simp [sliceBusy, sliceTakenOff, residueCounted]⟩
    · exact (State.rd_wr_ne _ (by decide) _).trans ((sliceTakenOff_off j _).trans (by rw [residueCounted_rd (by decide)]))
    · exact (State.rd_wr_ne _ (by decide) _).trans ((sliceTakenOff_fail j _).trans (by rw [residueCounted_rd (by decide)]))
    · exact congrArg Ce.sliceFails (sliceTakenOff_ce j (residueCounted j s))
  case rerun =>
    intro s j k x rest ha hj hoff hrecent ht htried hk
    have hfirst : ((s.ce.jobs.find? fun x => x.slice = j).map (·.tried)).getD false = false := by
      rw [find?_of_takeFirst ht]
      exact htried
    refine .of_live_eq (exec_sliceResidueFail j false s) ha ((doSliceResidueFail_first hj hoff hrecent hfirst).trans ?_)
    have hpick : slicePick (fun i => i ≠ j) (residueCounted j s) = some k :=
      (slicePick_congr (s := s) (t := residueCounted j s) rfl (residueCounted_rd (by decide) j s) _).trans hk
    exact jobRerun_of_takeFirst ht hpick
  case none =>
    intro s j ha hj hoff hempty hrecent
    have hfirst : ((s.ce.jobs.find? fun x => x.slice = j).map (·.tried)).getD false = false := by
      rw [List.find?_eq_none.mpr fun x hx => by simpa using List.all_eq_true.mp hempty x hx]
      rfl
    refine .of_live_eq (exec_sliceResidueFail j false s) ha ((doSliceResidueFail_first hj hoff hrecent hfirst).trans ?_)
    exact jobRerun_of_empty hempty

end Sys2Proof.Machine
end

section
/-! SUPPORT. Answers of the member drives: what a drive's media hold after a write, what a completion, an error, a timeout and a hedge
do (R17, R116 to R119). -/

namespace Sys2Proof.Machine

/-! ### Drives and their media -/

/-- The drive that is changed. -/
theorem driveAt_modDrive {s : State} {d : Nat} {x : Drive} (h : driveAt s d = some x) (f : Drive → Drive) :
    driveAt (s.modDrive d f) d = some (f x) := by
  simp only [State.modDrive, h]
  exact SMap.get_set_same none d (some (f x)) s.ext.drives

/-- What a drive holds depends on the drives alone. -/
theorem driveAt_congr {s t : State} (h : t.ext = s.ext) (d : Nat) : driveAt t d = driveAt s d := by rw [driveAt, h, driveAt]

theorem mediaRead_congr {s t : State} (h : t.ext = s.ext) (d lba : Nat) : mediaRead t d lba = mediaRead s d lba := by
  rw [mediaRead, driveAt_congr h, mediaRead]

/-- A block that has been written to a drive that is there reads back. -/
theorem mediaRead_mediaWrite {s : State} {d : Nat} {x : Drive} (h : driveAt s d = some x) (lba : Nat) (v : Block) :
    mediaRead (mediaWrite d lba v s) d lba = some v := by
  rw [mediaRead, mediaWrite, driveAt_modDrive h]
  simp [SMap.get_set_same]

theorem driveAnswers_of_drive {s : State} {d : Nat} {x : Drive} (h : driveAt s d = some x) :
    driveAt (driveAnswers d s) d = some { x with resetting := false } := driveAt_modDrive h _

theorem getD_modAt {α : Type} (f : α → α) (d : α) {i : Nat} {l : List α} (h : i < l.length) :
    (modAt i f l).getD i d = f (l.getD i d) := by
  induction l generalizing i with
  | nil => cases h
  | cons x l ih =>
    cases i with
    | zero => rfl
    | succ i => exact ih (Nat.lt_of_succ_lt_succ h)

/-- The array that is changed. -/
theorem arr_modArr {s : State} {a : Nat} (h : a < s.arrs.length) (f : Arr → Arr) : (s.modArr a f).arr a = f (s.arr a) :=
  getD_modAt f Arr.none h

/-- A change of a drive leaves the arrays alone. -/
@[simp] theorem modDrive_arr (s : State) (d : Nat) (f : Drive → Drive) (a : Nat) : (s.modDrive d f).arr a = s.arr a := by
  rw [State.arr, State.modDrive_arrs, State.arr]

/-! ### Member commands -/

/-- A member command that has been issued has its number. -/
theorem id_of_mcmdOf {s : State} {i : Nat} {m : MCmd} (h : mcmdOf s i = some m) : m.id = i := by
  have hm := List.find?_some h
  simp only [Bool.and_eq_true, decide_eq_true_eq] at hm
  exact hm.1

/-- Issuing the next command of a drive changes the commands alone, and keeps their numbers. -/
theorem issueNext_spec (d : Nat) (s : State) : ∃ ms, issueNext d s = { s with ce.mcmds := ms } ∧ ms.map (·.id) = s.ce.mcmds.map (·.id) := by
  unfold issueNext
  split
  · split
    · next x _ =>
      refine ⟨_, rfl, ?_⟩
      rw [List.map_map]
      refine List.map_congr_left fun m _ => ?_
      simp only [Function.comp]
      split <;> rfl
    · exact ⟨_, rfl, rfl⟩
  · exact ⟨_, rfl, rfl⟩

/-- A command taken off its queue is gone, and nothing but the commands changes. -/
theorem dropMCmd_spec (i d : Nat) (s : State) : ∃ ms, dropMCmd i d s = { s with ce.mcmds := ms } ∧ ∀ x ∈ ms, x.id ≠ i := by
  obtain ⟨ms, e, hids⟩ := issueNext_spec d { s with ce.mcmds := s.ce.mcmds.filter fun m => m.id ≠ i }
  refine ⟨ms, e, fun x hx => ?_⟩
  have hx' := List.mem_map_of_mem (f := (·.id)) hx
  rw [hids] at hx'
  obtain ⟨y, hy, hyx⟩ := List.mem_map.mp hx'
  rw [← hyx]
  simpa using (List.mem_filter.mp hy).2

/-! ### Completions -/

/-- The meanings of the drives' answers (R17, R116 to R119). -/
theorem exec_memberCompletion (i : Nat) (st : MStatus) (s : State) :
    exec (.memberCompletion i st) s = live s (doMemberCompletion i st s) := rfl

theorem exec_memberReadError (i : RdOf) (lbas : List Nat) (s : State) :
    exec (.memberReadError i lbas) s = live s (doMemberReadError i lbas s) := rfl

theorem exec_readRepair (a st : Nat) (ok : Bool) (s : State) : exec (.readRepair a st ok) s = live s (doReadRepair a st ok s) := rfl

theorem exec_hedgeExpire (i : Nat) (s : State) : exec (.hedgeExpire i) s = live s (doHedgeExpire i s) := rfl

theorem exec_memberTimeout (i : Nat) (s : State) : exec (.memberTimeout i) s = live s (doMemberTimeout i s) := rfl

theorem exec_memberControllerReadyTimeout (d : Nat) (s : State) :
    exec (.memberControllerReadyTimeout d) s = live s (doMemberControllerReadyTimeout d s) := rfl

theorem exec_memberMissing (ls : List Loss) (s : State) : exec (.memberMissing ls) s = live s (doMemberMissing ls s) := rfl

@[simp] theorem driveAnswers_pwr (d : Nat) (s : State) : (driveAnswers d s).pwr = s.pwr := State.modDrive_pwr s d _
@[simp] theorem driveAnswers_ce (d : Nat) (s : State) : (driveAnswers d s).ce = s.ce := State.modDrive_ce s d _
@[simp] theorem driveAnswers_bsk (d : Nat) (s : State) : (driveAnswers d s).bsk = s.bsk := State.modDrive_bsk s d _
@[simp] theorem driveAnswers_jrn (d : Nat) (s : State) : (driveAnswers d s).jrn = s.jrn := State.modDrive_jrn s d _

section
variable {s : State} {i : Nat} {m : MCmd} (hm : mcmdOf s i = some m) (hd : s.pwr.dumping = false)
include hm hd

theorem doMemberCompletion_write_ok (hw : m.wr = true) :
    doMemberCompletion i .ok s = wroteBack m (driveAnswers m.drv s) := by
  simp [doMemberCompletion, hm, hd, hw]

theorem doMemberCompletion_read_ok (hw : m.wr = false) :
    doMemberCompletion i .ok s = readBack m (driveAnswers m.drv s) := by
  simp [doMemberCompletion, hm, hd, hw]

theorem doMemberCompletion_read_failed (hw : m.wr = false) :
    doMemberCompletion i .failed s = eraseRead m (rangeFrom m.lba m.count) (dropMCmd i m.drv (driveAnswers m.drv s)) := by
  simp [doMemberCompletion, hm, hd, hw]

/-- A write that fails for the first time is issued again. -/
theorem doMemberCompletion_write_failed (hw : m.wr = true) (hr : m.reissued = false) :
    doMemberCompletion i .failed s = { driveAnswers m.drv s with
      ce.mcmds := s.ce.mcmds.map fun x => if x.id = i then { x with reissued := true } else x } := by
  simp [doMemberCompletion, hm, hd, hw, hr]

/-- Unreadable blocks of a read that its command asked for. -/
theorem cmdReadError_of_asked (hw : m.wr = false) {lba : Nat} (hlo : m.lba ≤ lba) (hhi : lba < m.lba + m.count) :
    cmdReadError i [lba] s = eraseRead m [lba] (noteBad m.array m.drv [lba] (driveAnswers m.drv (dropMCmd i m.drv s))) := by
  simp [cmdReadError, hm, hd, hw, hlo, hhi]

/-- A first timeout resets the drive's controller (R118). -/
theorem doMemberTimeout_first {d : Drive} (hdrv : driveAt s m.drv = some d) (hreset : d.resetAt = none) :
    doMemberTimeout i s = driveReset m.drv i s := by
  simp [doMemberTimeout, hm, hd, hdrv, hreset]

/-- A second timeout within 15,625 epochs of the reset loses the member (R118). -/
theorem doMemberTimeout_second {d : Drive} {e : Nat} (hdrv : driveAt s m.drv = some d) (hreset : d.resetAt = some e)
    (hsoon : s.tet.epoch ≤ e + 15625) (hplace : m.drv = memDrv s m.array m.member) :
    doMemberTimeout i s = loseMembers [⟨m.array, m.member, 3⟩] s := by
  simp [doMemberTimeout, hm, hd, hdrv, hreset, hsoon, ← hplace]

/-- A read that is slower than HEDGE_MS is counted and goes on from the survivors (R117). -/
theorem doHedgeExpire_of_slow (hw : m.wr = false) (hh : m.hedged = false) (hms : s.rd (R.STR_An_POLICY_HEDGE_MS m.array) ≠ 0)
    (hmiss : missCount s m.array ≤ 1) (her : erasable s m = true) :
    doHedgeExpire i s = readAway m (s.incSat (R.STR_An_REPAIR_HEDGED m.array)) := by
  simp [doHedgeExpire, hm, hd, hw, hh, hms, Nat.not_lt.mpr hmiss, her]

end

/-- A write of one block that belongs to no stripe operation: the drive answers, takes the block, and the command is gone. -/
theorem wroteBack_block {m : MCmd} {l : Nat} {v : Block} {s : State} (hd : m.dealloc = false) (hv : m.data = [(l, v)])
    (hs : (s.ce.sops.any fun o => o.id = m.sop) = false) :
    wroteBack m s = (dropMCmd m.id m.drv (repairsGone m.drv l 1 (mediaWrite m.drv l v s))).gaugeTime (48 + m.drv / 2) := by
  have happly : applyWrite m s = repairsGone m.drv l 1 (mediaWrite m.drv l v s) := by
    rw [applyWrite, hd, hv]
    rfl
  have hnone : ((dropMCmd m.id m.drv (repairsGone m.drv l 1 (mediaWrite m.drv l v s))).gaugeTime (48 + m.drv / 2)).ce.sops.find?
      (fun o => o.id = m.sop) = none := by
    obtain ⟨ms, e, _⟩ := dropMCmd_spec m.id m.drv (repairsGone m.drv l 1 (mediaWrite m.drv l v s))
    rw [State.gaugeTime_ce, e]
    exact List.find?_eq_none.mpr (by simpa [repairsGone, mediaWrite] using hs)
  simp only [wroteBack, happly, hnone]

/-- The reads outstanding on a drive whose controller is reset: where none is left for anybody, only the drive is told (R118). -/
theorem driveReset_of_no_reads {s : State} {d : Nat} (h : ∀ m ∈ s.ce.mcmds, m.drv ≠ d ∨ m.wr = true ∨ (m.owner = 0 ∧ m.sop = 0)) (i : Nat) :
    driveReset d i s = (s.modDrive d fun x => { x with resetAt := some s.tet.epoch, resetting := true }).emit (.drive d 1 [i]) := by
  have hnone : (s.ce.mcmds.filter fun m => m.drv = d && ¬ m.wr && (m.owner ≠ 0 || m.sop ≠ 0)) = [] := by
    refine List.filter_eq_nil_iff.mpr fun m hm => ?_
    rcases h m hm with hx | hx | ⟨ho, hp⟩ <;> simp_all
  simp only [driveReset, State.emit_ce, State.modDrive_ce, hnone, State.each, List.foldl_nil]

/-- A reset controller that is not ready in time loses its drive (R118). -/
theorem doMemberControllerReadyTimeout_of_resetting {s : State} {d : Nat} {x : Drive} (hx : driveAt s d = some x)
    (hr : x.resetting = true) (hd : s.pwr.dumping = false) : doMemberControllerReadyTimeout d s = loseDrive d 3 s := by
  simp [doMemberControllerReadyTimeout, hx, hr, hd]

/-- Losses of the rows of Table 5.1 that the device detects itself are taken together (R119). -/
theorem doMemberMissing_of_rows {ls : List Loss} (h : ∀ l ∈ ls, 1 ≤ l.row ∧ l.row ≤ 6) (s : State) :
    doMemberMissing ls s = loseMembers ls s := by
  rw [doMemberMissing, List.filter_eq_self.mpr fun l hl => by simpa using h l hl]

/-- Unreadable blocks that a background step meets on a drive that holds a place. -/
theorem doMemberReadError_of_step {s : State} {d a m : Nat} (hm : memberOf s d = some (a, m)) (hp : holdsPlace s d = true)
    (hd : s.pwr.dumping = false) (lba : Nat) : doMemberReadError (.step d) [lba] s = noteBad a d [lba] s := by
  simp [doMemberReadError, hm, hp, hd]

/-- What a drive holds of the blocks that it reports unreadable (R116). -/
theorem driveAt_noteBad {s : State} {d : Nat} {x : Drive} (h : driveAt s d = some x) (a lba : Nat) :
    driveAt (noteBad a d [lba] s) d = some { x with bad := insNat lba x.bad } := driveAt_modDrive h _

/-- A first unreadable block of an array is queued for repair with its epoch (R116). -/
theorem repairs_noteBad {s : State} {a : Nat} (ha : a < s.arrs.length) (hr : (s.arr a).repairs = []) (d lba : Nat) :
    ((noteBad a d [lba] s).arr a).repairs = [(d, lba, s.tet.epoch)] := by
  rw [noteBad, arr_modArr (by rwa [State.modDrive_arrs])]
  simp [hr]

/-- The repair of a stripe with one unreadable block whose column can be reconstructed (R116). -/
theorem doReadRepair_of_one {s : State} {a : Nat} {p : Nat × Nat × Nat} (hp : (s.arr a).repairs = [p]) (hs : arrServes s a = true)
    (hl : lockFree s a ((p.2.1 - dataLba) / strB s a) = true) (hd : s.pwr.dumping = false)
    (he : erasuresAt s a ((p.2.1 - dataLba) / strB s a) ((p.2.1 - dataLba) % strB s a) [] ≤ 2) :
    doReadRepair a ((p.2.1 - dataLba) / strB s a) true s = unlessShort s
      ((repairColumn a ((p.2.1 - dataLba) / strB s a) ((p.2.1 - dataLba) % strB s a)
        (engineStep a ((p.2.1 - dataLba) / strB s a) 1 (dataN s a) s)).modArr a fun r =>
        { r with repairs := r.repairs.filter fun q => (q.2.1 - dataLba) / strB s a ≠ (p.2.1 - dataLba) / strB s a }) := by
  have hcols : [(p.2.1 - dataLba) % strB s a].eraseDups = [(p.2.1 - dataLba) % strB s a] := by simp [List.eraseDups_cons]
  have hbound : ¬ 2 < erasuresAt s a ((p.2.1 - dataLba) / strB s a) ((p.2.1 - dataLba) % strB s a) [] := Nat.not_lt.mpr he
  simp [doReadRepair, hp, hs, hl, hd, hcols, hbound, State.each, repairColumn]

/-- Settles O13: each answer is one branch of its command's case split; a written block reads back, a noted block is bad and queued. -/
theorem membersAnswerOrAreLost : Obligations.MembersAnswerOrAreLost := by
  refine ⟨?writeOk, ?readOk, ?readFailed, ?writeFailed, ?readError, ?stepError, ?timeout, fun s d i h => driveReset_of_no_reads h i,
    ?written, ?timeoutAgain, ?notReady, ?missing, ?hedge, ?repair⟩
  case writeOk =>
    intro s i m ha hm hd hw
    exact .of_live_eq (exec_memberCompletion i .ok s) ha (doMemberCompletion_write_ok hm hd hw)
  case readOk =>
    intro s i m ha hm hd hw
    exact .of_live_eq (exec_memberCompletion i .ok s) ha (doMemberCompletion_read_ok hm hd hw)
  case readFailed =>
    intro s i m ha hm hd hw
    exact .of_live_eq (exec_memberCompletion i .failed s) ha (doMemberCompletion_read_failed hm hd hw)
  case writeFailed =>
    intro s i m ha hm hd hw hr
    exact .of_live_eq (exec_memberCompletion i .failed s) ha (doMemberCompletion_write_failed hm hd hw hr)
  case readError =>
    intro s i m lba n ha hm hd hw hlba hcount hn
    rw [hlba, hn]
    exact .of_live_eq (exec_memberReadError (.cmd i) [m.lba] s) ha (cmdReadError_of_asked hm hd hw (Nat.le_refl _) (by omega))
  case stepError =>
    intro s d a m lba x ha hm halen hp hd hx hr
    refine .of_live (exec_memberReadError (.step d) [lba] s) ha ?_
    rw [doMemberReadError_of_step hm hp hd]
    exact ⟨driveAt_noteBad hx a lba, repairs_noteBad halen hr d lba, State.modDrive_ce s d _, State.modDrive_bsk s d _,
      State.modDrive_jrn s d _, .of_regs (State.modDrive_regs s d _)⟩
  case timeout =>
    intro s i m d ha hm hd hdrv hreset
    exact .of_live_eq (exec_memberTimeout i s) ha (doMemberTimeout_first hm hd hdrv hreset)
  case written =>
    intro s i m l v ha hm hd hw hdealloc hv hs hdrv
    obtain ⟨x, hx⟩ := Option.isSome_iff_exists.mp hdrv
    refine .of_live (exec_memberCompletion i .ok s) ha ?_
    rw [doMemberCompletion_write_ok hm hd hw, wroteBack_block hdealloc hv (by simpa using hs)]
    obtain ⟨ms, e, hgone⟩ := dropMCmd_spec m.id m.drv (repairsGone m.drv l 1 (mediaWrite m.drv l v (driveAnswers m.drv s)))
    rw [id_of_mcmdOf hm] at hgone
    have hread : mediaRead (mediaWrite m.drv l v (driveAnswers m.drv s)) m.drv l = some v :=
      mediaRead_mediaWrite (driveAnswers_of_drive hx) l v
    rw [e]
    refine ⟨(mediaRead_congr (State.gaugeTime_ext _ _) _ _).trans hread, ?_, ?_, ?_, ?_, ?_⟩
    · simpa using hgone
    all_goals simp [repairsGone, mediaWrite]
  case timeoutAgain =>
    intro s i m d e ha hm hd hdrv hreset hsoon hplace
    exact .of_live_eq (exec_memberTimeout i s) ha (doMemberTimeout_second hm hd hdrv hreset hsoon hplace)
  case notReady =>
    intro s d x ha hx hr hd
    exact .of_live_eq (exec_memberControllerReadyTimeout d s) ha (doMemberControllerReadyTimeout_of_resetting hx hr hd)
  case missing =>
    intro s ls ha hrows
    exact .of_live_eq (exec_memberMissing ls s) ha (doMemberMissing_of_rows hrows s)
  case hedge =>
    intro s i m ha hm hw hh hms hmiss hd her
    exact .of_live_eq (exec_hedgeExpire i s) ha (doHedgeExpire_of_slow hm hd hw hh hms hmiss her)
  case repair =>
    intro s a st p ha hp hst hs hl hd he
    subst hst
    exact .of_live_eq (exec_readRepair a _ true s) ha (doReadRepair_of_one hp hs hl hd he)

end Sys2Proof.Machine
end

section
/-! SUPPORT. A write whose page cannot be staged: `PageReady` asks for caching off, but staging still uses lines then (R190), and an
allocation that would exceed the busy limit of its set waits (R174). -/

namespace Sys2Proof.Machine

/-- The meaning of `WRITE` (R13). -/
theorem exec_write (h : IoHdr) (nsid slba : Nat) (data : List Block) (f : IoFlags) (s : State) :
    exec (.write h nsid slba data f) s = live s (doWrite h nsid slba data f s) := rfl

/-- Namespace 1: stripes 0 to 1,023 of array 0. -/
def stagedNs : Ns := ⟨1, 1, 1, 0, 0, 1024, 32768, 0⟩

/-- Command 3 of queue 1 of controller 0. -/
def stagedHdr : IoHdr := ⟨0, 1, 3⟩

/-- A serving device with a 4-member array, its Basket in write-back, its cache DISABLED. Twelve writes of whole stripes are under way: of
stripe 64 × w a HELD line stands in way w of the set to which the line of Basket page 0 belongs, which is at its busy limit. -/
def stagedSet : State :=
  let s := ((State.reset.wr R.GLB_STATUS_READY 1).wr R.BSK_STATUS_MODE 1).wr R.ENV_STATUS_MODE 2
  let s := ((s.wr (R.STR_An_GEOM_EN 0) 1).wr (R.STR_An_GEOM_MEMBERS 0) 4).wr (R.STR_An_STATUS_STATE 0) aOptimal
  let s := s.modArr 0 fun r => { r with arrayId := 1, stripes := 1024 }
  { s with
    dwn.step := 17, ns := [stagedNs], bsk.w := 16 * gib,
    ce.ctrls := [⟨0, false, true, true, 0, false, false, 5, 6, 100, [], 0, none, [], false, [], 1, [], 0, 0, 0, 0, 32, 0⟩],
    ce.queues := [⟨0, 1, 8, 1, 2, 0, 0, 0, false, 0, 0, 0, false, 0, false⟩],
    env.lines := (List.range 12).map fun w =>
      let k := memKey 0 1 (memLba 16 (64 * w) (w ^^^ 1))
      ⟨envSet k, w, .held, k, false, 0⟩ }

/-- One block can be committed at once as far as `PageReady` asks. -/
theorem stagedSet_pageReady : PageReady stagedSet stagedNs 0 := by
  unfold PageReady
  decide

/-- The write waits for a line, and the write store holds nothing. -/
theorem doWrite_stagedSet_waits :
    (doWrite stagedHdr 1 0 [0] noFlags stagedSet).ce.ctxs.map (·.phase) = [.alloc] ∧
    (doWrite stagedHdr 1 0 [0] noFlags stagedSet).bsk.extents = [] := by decide

/-- Refutes O22: with the set of its page at the busy limit of R174, a write for which `PageReady` holds waits for a line. -/
theorem not_ioCommandsTakeTheSteps : ¬ Obligations.IoCommandsTakeTheSteps := by
  intro h
  obtain ⟨_, _, _, _, _, _, _, _, hwrite, _⟩ := h
  have hpage := hwrite stagedSet stagedHdr 1 0 noFlags stagedNs (by decide) (by decide) (by decide) stagedSet_pageReady (by decide)
    (by decide) (by decide)
  obtain ⟨t, ht, hread, _⟩ := (hpage.1 0 (by decide)).1
  rw [exec_write, live_on (by decide)] at ht
  injection ht with ht
  rw [← ht, bskRead, bskFind, settle_bsk, doWrite_stagedSet_waits.2] at hread
  cases hread

end Sys2Proof.Machine
end

section
/-! SUPPORT. The Tether's shared operations: what a measured offset, a lock, holdover and free-run write, and that none of them touches what
the device stores or works on (R33, R36, Table 2.2). -/

namespace Sys2Proof.Machine

/-! ### What no operation of the Tether touches -/

/-- What the device stores and what it works on is the same in both states. -/
def SameData (s t : State) : Prop := SameStores s t ∧ SameWork s t

theorem SameData.refl (s : State) : SameData s s := ⟨⟨rfl, rfl, rfl, rfl, rfl⟩, rfl, rfl, rfl, rfl⟩

section
variable {s t : State} (h : SameData s t)
include h

theorem SameData.trans {u : State} (h' : SameData t u) : SameData s u := by
  obtain ⟨⟨hbsk, hnv, hext, henv, hmbx⟩, harrs, hns, hjrn, hce⟩ := h
  obtain ⟨⟨hbsk', hnv', hext', henv', hmbx'⟩, harrs', hns', hjrn', hce'⟩ := h'
  exact ⟨⟨hbsk'.trans hbsk, hnv'.trans hnv, hext'.trans hext, henv'.trans henv, hmbx'.trans hmbx⟩,
    harrs'.trans harrs, hns'.trans hns, hjrn'.trans hjrn, hce'.trans hce⟩

theorem SameData.tet (x : Tether) : SameData s { t with tet := x } := h
theorem SameData.wr (f : Fld) (v : Nat) : SameData s (t.wr f v) := h
theorem SameData.raise (f : Fld) (m : Nat) : SameData s (t.raise f m) := h
theorem SameData.settle : SameData s (settle t) := h

theorem SameData.gauge (g v : Nat) : SameData s (t.gauge g v) := by
  simpa [SameData, SameStores, SameWork] using h

theorem SameData.event (c src : Nat) (pl : List Nat) : SameData s (t.event c src pl) := by
  simpa [SameData, SameStores, SameWork] using h

end

/-! ### The measured offset -/

@[simp] theorem tetOffset_tet (o : Int) (s : State) : (tetOffset o s).tet = s.tet := State.gauge_tet _ _ _

theorem sameData_tetOffset (o : Int) (s : State) : SameData s (tetOffset o s) := ((SameData.refl s).wr _ _).gauge _ _

/-- TET_OFFSET reads the offset saturated at ±(2^31 − 1), as two's complement (Table 2.9). -/
theorem rd_tetOffset_same (o : Int) (s : State) :
    (tetOffset o s).rd R.TET_OFFSET_OFFSET_NS = (max (-2147483647) (min 2147483647 o) % 4294967296).toNat := by
  have hsat : (if o > 2147483647 then 2147483647 else if o < -2147483647 then -2147483647 else o) =
      max (-2147483647) (min 2147483647 o) := by
    split
    · omega
    · split <;> omega
  simp only [tetOffset, State.rd_gauge, State.rd_wr_same, hsat, R.TET_OFFSET_OFFSET_NS_w]
  omega

theorem rd_tetOffset_ne {f : Fld} (h : f.key ≠ R.TET_OFFSET_OFFSET_NS.key) (o : Int) (s : State) : (tetOffset o s).rd f = s.rd f := by
  rw [tetOffset, State.rd_gauge, State.rd_wr_ne s h]

theorem regsBut_tetOffset (o : Int) (s : State) : RegsBut [R.TET_OFFSET_OFFSET_NS] s (tetOffset o s) := fun _ hf =>
  rd_tetOffset_ne (hf _ (List.mem_singleton_self _)) o s

/-- A measured offset changes nothing that a permission to step looks at. -/
theorem stepPermitted_tetOffset (o : Int) (s : State) : stepPermitted (tetOffset o s) = stepPermitted s := by
  simp (disch := decide) [stepPermitted, State.ready, State.on, rd_tetOffset_ne]

theorem stepLimitNs_tetOffset (o : Int) (s : State) : stepLimitNs (tetOffset o s) = stepLimitNs s := by
  rw [stepLimitNs, rd_tetOffset_ne (by decide), stepLimitNs]

theorem todGiven_tetOffset (o : Int) (s : State) (src : Nat) : todGiven (tetOffset o s) src = todGiven s src := by
  unfold todGiven
  rw [tetOffset_tet]

/-! ### Lock, holdover and free-run -/

theorem tetLock_tet (src : Nat) (s : State) : (tetLock src s).tet =
    { s.tet with measuring := none, awaiting := none, stepWaited := false, forceStep := false, frozen := false } := by
  unfold tetLock
  dsimp only
  split <;> rfl

theorem sameData_tetLock (src : Nat) (s : State) : SameData s (tetLock src s) := by
  unfold tetLock
  dsimp only
  split <;> exact SameData.refl s

/-- What TET_STATUS and the LOCKED cause read after a lock (Table 2.2). -/
theorem rd_tetLock (src : Nat) (s : State) :
    (tetLock src s).rd R.TET_STATUS_STATE = 2 ∧ (tetLock src s).rd R.TET_STATUS_SRC_ACT = src % 4 ∧
    (tetLock src s).rd R.TET_STATUS_TOD_VALID = (if todGiven s src then 1 else s.rd R.TET_STATUS_TOD_VALID) ∧
    (tetLock src s).rd R.TET_STATUS_EVER_LOCKED = 1 ∧ (tetLock src s).rd R.TET_STATUS_TIME_FAULT = 0 ∧
    (tetLock src s).rd R.TET_INT_STATUS_LOCKED = 1 := by
  unfold tetLock
  dsimp only
  split
  · next hg =>
    simp (disch := decide) [State.rd_wr_ne, State.rd_raise_ne, tLocked, show todGiven s src = true from hg]
  · next hg =>
    simp (disch := decide) [State.rd_wr_ne, State.rd_raise_ne, tLocked, show ¬ todGiven s src = true from hg]

theorem sameData_tetToHold (s : State) : SameData s (tetToHold s) := SameData.refl s

theorem rd_tetToHold (s : State) : (tetToHold s).rd R.TET_STATUS_STATE = 3 ∧ (tetToHold s).rd R.TET_INT_STATUS_HOLDOVER = 1 := by
  simp (disch := decide) [tetToHold, tHold, State.rd_raise_ne]

theorem tetToFree_tet (s : State) : (tetToFree s).tet =
    { s.tet with measuring := none, awaiting := none, stepWaited := false, forceStep := false } := State.event_tet _ _ _ _

theorem sameData_tetToFree (s : State) : SameData s (tetToFree s) := (((SameData.refl s).tet _).wr _ _ |>.wr _ _).event _ _ _

theorem rd_tetToFree (s : State) : (tetToFree s).rd R.TET_STATUS_STATE = 0 ∧ (tetToFree s).rd R.TET_STATUS_SRC_ACT = 3 := by
  simp (disch := decide) [tetToFree, tFree, State.rd_event, State.rd_wr_ne]

/-- Free-run writes the state, the source in use and the recorder's own two fields. -/
theorem rd_tetToFree_ne {f : Fld} (hst : f.key ≠ R.TET_STATUS_STATE.key) (hsrc : f.key ≠ R.TET_STATUS_SRC_ACT.key)
    (hpeak : f.key ≠ R.WSK_QUEUE_PEAK.key) (hwait : f.key ≠ R.WSK_INT_STATUS_QUEUE_WAIT.key) (s : State) :
    (tetToFree s).rd f = s.rd f := by
  rw [tetToFree, State.rd_event _ hpeak hwait, State.rd_wr_ne _ hsrc, State.rd_wr_ne _ hst, State.rd_mk, State.rd_fold]

/-- No source is measured and one is wanted: in FREE_RUN, or in ACQUIRING while none is measured (Table 2.2). -/
theorem wantsSource_iff (s : State) :
    wantsSource s = true ↔ s.rd R.TET_STATUS_STATE = 0 ∨ (s.rd R.TET_STATUS_STATE = 1 ∧ s.tet.measuring = none) := by
  rw [wantsSource, Bool.or_eq_true, Bool.and_eq_true, decide_eq_true_eq, decide_eq_true_eq, Option.isNone_iff_eq_none, tFree, tAcq]

end Sys2Proof.Machine
end

section
/-! SUPPORT. The Tether's sources: signals, the retry timer, ACQUIRE, PTP syncs and announces, 1PPS edges (R29 to R31, R33, Table 2.2). -/

namespace Sys2Proof.Machine

/-- The meanings of the sources' events (R29 to R31, R33). -/
theorem exec_sourceSignalPresent (src : Nat) (s : State) :
    exec (.sourceSignalPresent src) s = live s (doSourceSignalPresent src s) := rfl

theorem exec_sourceRetry (s : State) : exec .sourceRetry s = live s (doSourceRetry s) := rfl

theorem exec_acquire (s : State) : exec .acquire s = live s (doAcquire s) := rfl

theorem exec_ptpSync (o : Int) (s : State) : exec (.ptpSync o) s = live s (doPtpSync o s) := rfl

theorem exec_ptpAnnounce (rank utc : Nat) (leap : Bool) (s : State) :
    exec (.ptpAnnounce rank ⟨utc, leap⟩) s = live s (doPtpAnnounce rank utc leap s) := rfl

theorem exec_ppsEdge (s : State) : exec .ppsEdge s = live s (doPpsEdge s) := rfl

/-! ### Signals and the retry timer -/

section
variable {s : State} {src : Nat}

theorem doSourceSignalPresent_of_wanted (hw : wantsSource s = true) (hs : src ∈ tetSources s) :
    doSourceSignalPresent src s =
      State.wr { s with tet.signals := insNat src s.tet.signals, tet.measuring := some src } R.TET_STATUS_STATE tAcq :=
  if_pos ⟨hw, List.contains_iff_mem.mpr hs⟩

/-- A signal that is not wanted, or of a source that is not in effect, is only noted. -/
theorem doSourceSignalPresent_of_unwanted (h : wantsSource s = false ∨ src ∉ tetSources s) :
    doSourceSignalPresent src s = { s with tet.signals := insNat src s.tet.signals } := by
  refine if_neg fun ⟨hw, hs⟩ => ?_
  rcases h with h | h
  · exact Bool.false_ne_true (h.symm.trans hw)
  · exact h (List.contains_iff_mem.mp hs)

theorem doSourceRetry_of_wanted (hw : wantsSource s = true) (hp : tetPresent s 3 = some src) :
    doSourceRetry s = State.wr { s with tet.measuring := some src } R.TET_STATUS_STATE tAcq := by
  simp only [doSourceRetry, hp, hw, if_true]

theorem doSourceRetry_of_holdover (hst : s.rd R.TET_STATUS_STATE = 3) (hp : tetPresent s 3 = some src) :
    doSourceRetry s = { s with tet.measuring := some src } := by
  simp [doSourceRetry, hp, wantsSource, hst, tFree, tAcq, tHold]

end

/-! ### ACQUIRE -/

/-- The measurements are discarded and those of a source that is present begin anew. -/
def remeasured (s : State) : State := { s with
  tet.measuring := tetPresent s 3, tet.awaiting := none, tet.syncRun := 0, tet.stepWaited := false, tet.forceStep := false }

theorem doAcquire_eq (s : State) : doAcquire s =
    if s.rd R.TET_STATUS_STATE = 2 then tetToHold (remeasured s) else (remeasured s).wr R.TET_STATUS_STATE tAcq := rfl

/-! ### PTP -/

theorem doPtpSync_of_used {s : State} (h : s.tet.measuring = some 0 ∨ s.rd R.TET_STATUS_SRC_ACT = 0) (o : Int) :
    doPtpSync o s = tetOffset o { s with tet.syncRun := if o.natAbs ≤ 200 then s.tet.syncRun + 1 else 0 } := if_pos h

theorem doPtpAnnounce_of_better {s : State} {rank : Nat} (h : s.tet.ptpRank = 0 ∨ rank ≤ s.tet.ptpRank) (utc : Nat) (leap : Bool) :
    doPtpAnnounce rank utc leap s = { s with
      tet.ptpRank := rank, tet.ptpUtc := utc, tet.leapAt := if leap then some (leapSecond s utc) else none } := if_pos h

theorem doPtpAnnounce_of_worse {s : State} {rank : Nat} (h0 : 0 < s.tet.ptpRank) (h : s.tet.ptpRank < rank) (utc : Nat) (leap : Bool) :
    doPtpAnnounce rank utc leap s = s := if_neg (by omega)

/-! ### 1PPS -/

/-- The TAI seconds of an edge: those that are armed, or one more than at the last edge once they are known (R31). -/
def edgeSeconds (s : State) : Nat :=
  match s.tet.tod with
  | some t => t
  | none => if s.tet.ppsSeconds = 0 then 0 else s.tet.ppsSeconds + 1

section
variable {s : State} (ha : Alive s)
include ha

theorem doPpsEdge_on : doPpsEdge s =
    if edgeSeconds s ≠ 0 ∧ (s.tet.measuring = some 1 ∨ s.rd R.TET_STATUS_SRC_ACT = 1) then
      tetOffset ((edgeSeconds s : Int) * 1000000000 - (s.tet.epoch : Int) * 64000)
        { s with tet.ppsSeconds := edgeSeconds s, tet.tod := none }
    else { s with tet.ppsSeconds := edgeSeconds s, tet.tod := none } := by
  obtain ⟨_, _, _, hnight⟩ := (alive_iff s).mp ha
  rw [doPpsEdge, hnight]
  rfl

/-- An edge of a source that is neither measured nor in use only counts the seconds. -/
theorem doPpsEdge_of_unused (hm : s.tet.measuring ≠ some 1) (hs : s.rd R.TET_STATUS_SRC_ACT ≠ 1) :
    doPpsEdge s = { s with tet.ppsSeconds := edgeSeconds s, tet.tod := none } := by
  rw [doPpsEdge_on ha, if_neg fun ⟨_, h⟩ => h.elim hm hs]

theorem doPpsEdge_of_used (h0 : edgeSeconds s ≠ 0) (h : s.tet.measuring = some 1 ∨ s.rd R.TET_STATUS_SRC_ACT = 1) :
    doPpsEdge s = tetOffset ((edgeSeconds s : Int) * 1000000000 - (s.tet.epoch : Int) * 64000)
      { s with tet.ppsSeconds := edgeSeconds s, tet.tod := none } := by
  rw [doPpsEdge_on ha, if_pos ⟨h0, h⟩]

end

theorem edgeSeconds_of_armed {s : State} {sec : Nat} (h : s.tet.tod = some sec) : edgeSeconds s = sec := by
  rw [edgeSeconds, h]

theorem edgeSeconds_of_counting {s : State} (h : s.tet.tod = none) (h0 : s.tet.ppsSeconds ≠ 0) :
    edgeSeconds s = s.tet.ppsSeconds + 1 := by
  rw [edgeSeconds, h]
  exact if_neg h0

/-- Where no TAI seconds are armed, taking them changes nothing. -/
theorem tod_none_eq {s : State} (h : s.tet.tod = none) (sec : Nat) :
    { s with tet.ppsSeconds := sec, tet.tod := none } = { s with tet.ppsSeconds := sec } := by
  rw [← h]

/-- Settles O4: each event is one branch of its command's case split, by the Tether's state and the source that is measured. -/
theorem tetherMeasuresItsSources : Obligations.TetherMeasuresItsSources := by
  refine ⟨?signal, ?noted, ?retry, ?retryHoldover, ?acquireLocked, ?acquire, ?sync, ?announce, ?worse, ?armed, ?counted, ?measured⟩
  case signal =>
    intro s src ha hst hs
    exact .of_live_eq (exec_sourceSignalPresent src s) ha (doSourceSignalPresent_of_wanted ((wantsSource_iff s).mpr hst) hs)
  case noted =>
    intro s src ha h
    refine .of_live_eq (exec_sourceSignalPresent src s) ha (doSourceSignalPresent_of_unwanted (h.imp_left fun ⟨hfree, hacq⟩ => ?_))
    rw [Bool.eq_false_iff, Ne, wantsSource_iff]
    exact fun h => h.elim hfree fun ⟨hst, hm⟩ => hacq.elim (· hst) (· hm)
  case retry =>
    intro s src ha hst hp
    exact .of_live_eq (exec_sourceRetry s) ha (doSourceRetry_of_wanted ((wantsSource_iff s).mpr hst) hp)
  case retryHoldover =>
    intro s src ha hst hp
    exact .of_live_eq (exec_sourceRetry s) ha (doSourceRetry_of_holdover hst hp)
  case acquireLocked =>
    intro s ha hst
    exact .of_live_eq (exec_acquire s) ha ((doAcquire_eq s).trans (if_pos hst))
  case acquire =>
    intro s ha hst
    exact .of_live_eq (exec_acquire s) ha ((doAcquire_eq s).trans (if_neg hst))
  case sync =>
    intro s o ha hused
    refine .of_live (exec_ptpSync o s) ha ?_
    rw [doPtpSync_of_used hused]
    exact ⟨tetOffset_tet o _, rd_tetOffset_same o _, (regsBut_tetOffset o _).settle, (sameData_tetOffset o _).settle⟩
  case announce =>
    intro s rank utc leap ha h
    exact .of_live_eq (exec_ptpAnnounce rank utc leap s) ha (doPtpAnnounce_of_better h utc leap)
  case worse =>
    intro s rank utc leap ha h0 h
    exact .of_live_eq (exec_ptpAnnounce rank utc leap s) ha (doPtpAnnounce_of_worse h0 h utc leap)
  case armed =>
    intro s sec ha htod hm hs
    refine .of_live_eq (exec_ppsEdge s) ha ?_
    rw [doPpsEdge_of_unused ha hm hs, edgeSeconds_of_armed htod]
  case counted =>
    intro s ha htod h0 hm hs
    refine .of_live_eq (exec_ppsEdge s) ha ?_
    rw [doPpsEdge_of_unused ha hm hs, edgeSeconds_of_counting htod h0, tod_none_eq htod]
  case measured =>
    intro s sec ha htod h0 hused
    have hsec : edgeSeconds s = sec := edgeSeconds_of_armed htod
    refine .of_live_eq (exec_ppsEdge s) ha ?_
    rw [doPpsEdge_of_used ha (hsec ▸ h0) hused, hsec]

end Sys2Proof.Machine
end

section
/-! SUPPORT. The Tether's lock: what a source whose criterion holds does by its offset, and what ends a lock (R29, R33, R36, Table 2.2). -/

namespace Sys2Proof.Machine

/-- The meanings of the lock's events (R33, R36). -/
theorem exec_sourceLockCriterionMet (src : Nat) (o : Int) (s : State) :
    exec (.sourceLockCriterionMet src o) s = live s (doSourceLockCriterionMet src o s) := rfl

theorem exec_sourceLoss (src : Nat) (s : State) : exec (.sourceLoss src) s = live s (doSourceLoss src s) := rfl

theorem exec_holdMaxExpire (s : State) : exec .holdMaxExpire s = live s (doHoldMaxExpire s) := rfl

theorem exec_forceStep (s : State) : exec .forceStep s = live s (doForceStep s) := rfl

/-! ### The lock -/

/-- A source behind the counter: TIME_FAULT is set and raised (R36). -/
def timeFault (s : State) : State := (s.wr R.TET_STATUS_TIME_FAULT 1).raise R.TET_INT_STATUS_TIME_FAULT

theorem sameData_timeFault (s : State) : SameData s (timeFault s) := SameData.refl s

theorem rd_timeFault (s : State) : (timeFault s).rd R.TET_STATUS_TIME_FAULT = 1 ∧ (timeFault s).rd R.TET_INT_STATUS_TIME_FAULT = 1 := by
  simp (disch := decide) [timeFault, State.rd_raise_ne]

theorem rd_timeFault_state (s : State) : (timeFault s).rd R.TET_STATUS_STATE = s.rd R.TET_STATUS_STATE := by
  simp (disch := decide) only [timeFault, State.rd_raise_ne, State.rd_wr_ne]

/-- A source ahead of the counter that has no permission to step waits, and STEP_WAIT is raised (R36). -/
def stepWait (src n : Nat) (s : State) : State :=
  { s with tet.awaiting := some (src, n), tet.stepWaited := true }.raise R.TET_INT_STATUS_STEP_WAIT

theorem sameData_stepWait (src n : Nat) (s : State) : SameData s (stepWait src n s) := SameData.refl s

theorem rd_stepWait (src n : Nat) (s : State) : (stepWait src n s).rd R.TET_INT_STATUS_STEP_WAIT = 1 ∧
    (stepWait src n s).rd R.TET_STATUS_STATE = s.rd R.TET_STATUS_STATE := by
  simp (disch := decide) [stepWait, State.rd_raise_ne]

section
variable {s : State} {src : Nat} {o : Int} (hs : src ∈ tetSources s)
  (hst : s.rd R.TET_STATUS_STATE = 1 ∨ s.rd R.TET_STATUS_STATE = 3) (hc : criterionMet s src = true)
include hs hst hc

/-- A source in effect whose criterion holds while it can be locked is judged by its offset (R36). -/
theorem doSourceLockCriterionMet_judged : doSourceLockCriterionMet src o s =
    if o.natAbs ≤ stepLimitNs (tetOffset o s) then tetLock src (tetOffset o s)
    else if o < 0 then
      if s.rd R.TET_STATUS_STATE = 1 then tetToFree (timeFault (tetOffset o s)) else timeFault (tetOffset o s)
    else if stepPermitted (tetOffset o s) then
      tetLock src { tetOffset o s with tet.stepAhead := o.natAbs / 64000, tet.forceStep := false }
    else if (tetOffset o s).tet.stepWaited then { tetOffset o s with tet.awaiting := some (src, o.natAbs / 64000) }
    else stepWait src (o.natAbs / 64000) (tetOffset o s) := by
  refine if_neg ?_
  rintro (h | h | h)
  · exact h (List.contains_iff_mem.mpr hs)
  · exact h hst
  · exact h hc

theorem doSourceLockCriterionMet_near (h : o.natAbs ≤ stepLimitNs s) :
    doSourceLockCriterionMet src o s = tetLock src (tetOffset o s) := by
  rw [doSourceLockCriterionMet_judged hs hst hc, stepLimitNs_tetOffset, if_pos h]

theorem doSourceLockCriterionMet_behind (hneg : o < 0) (h : stepLimitNs s < o.natAbs) : doSourceLockCriterionMet src o s =
    if s.rd R.TET_STATUS_STATE = 1 then tetToFree (timeFault (tetOffset o s)) else timeFault (tetOffset o s) := by
  rw [doSourceLockCriterionMet_judged hs hst hc, stepLimitNs_tetOffset, if_neg (Nat.not_le.mpr h), if_pos hneg]

theorem doSourceLockCriterionMet_steps (hpos : 0 ≤ o) (h : stepLimitNs s < o.natAbs) (hp : stepPermitted s = true) :
    doSourceLockCriterionMet src o s =
      tetLock src { tetOffset o s with tet.stepAhead := o.natAbs / 64000, tet.forceStep := false } := by
  rw [doSourceLockCriterionMet_judged hs hst hc, stepLimitNs_tetOffset, stepPermitted_tetOffset,
    if_neg (Nat.not_le.mpr h), if_neg (Int.not_lt.mpr hpos), if_pos hp]

theorem doSourceLockCriterionMet_waits (hpos : 0 ≤ o) (h : stepLimitNs s < o.natAbs) (hp : stepPermitted s = false)
    (hw : s.tet.stepWaited = false) : doSourceLockCriterionMet src o s = stepWait src (o.natAbs / 64000) (tetOffset o s) := by
  rw [doSourceLockCriterionMet_judged hs hst hc, stepLimitNs_tetOffset, stepPermitted_tetOffset,
    if_neg (Nat.not_le.mpr h), if_neg (Int.not_lt.mpr hpos), if_neg (by simp [hp]), if_neg (by simp [hw])]

end

/-! ### The end of a lock -/

/-- What is known of a source that is lost goes: its signal, PTP's run of offsets and rank, and a step that it waits for (Table 2.2). -/
def forgetSource (src : Nat) (s : State) : State := { s with
  tet.signals := s.tet.signals.filter (· ≠ src)
  tet.syncRun := if src = 0 then 0 else s.tet.syncRun
  tet.ptpRank := if src = 0 then 0 else s.tet.ptpRank
  tet.awaiting := if s.tet.awaiting.map (·.1) = some src then none else s.tet.awaiting
  tet.forceStep := if s.tet.awaiting.map (·.1) = some src then false else s.tet.forceStep }

theorem sameData_forgetSource (src : Nat) (s : State) : SameData s (forgetSource src s) := SameData.refl s

theorem doSourceLoss_eq (src : Nat) (s : State) : doSourceLoss src s =
    if s.rd R.TET_STATUS_STATE = 2 ∧ s.rd R.TET_STATUS_SRC_ACT = src then tetToHold (forgetSource src s)
    else if s.rd R.TET_STATUS_STATE = 1 ∧ s.tet.measuring = some src then
      match tetPresent (forgetSource src s) src with
      | some x => { forgetSource src s with tet.measuring := some x }
      | none => tetToFree (forgetSource src s)
    else forgetSource src s := by
  by_cases h0 : src = 0
  · subst h0
    by_cases hw : s.tet.awaiting.map (·.1) = some 0 <;> simp only [doSourceLoss, forgetSource, hw, if_true, if_false] <;> rfl
  · by_cases hw : s.tet.awaiting.map (·.1) = some src <;> simp only [doSourceLoss, forgetSource, h0, hw, if_true, if_false] <;> rfl

/-- Whether another source is present does not depend on the one that is lost. -/
theorem tetPresent_forgetSource (src : Nat) (s : State) : tetPresent (forgetSource src s) src = tetPresent s src := by
  have hsources : tetSources (forgetSource src s) = tetSources s := rfl
  have hpresent : ∀ x, (x ≠ src && (forgetSource src s).tet.signals.contains x) = (x ≠ src && s.tet.signals.contains x) := by
    intro x
    by_cases h : x = src <;> simp [forgetSource, h]
  rw [tetPresent, hsources]
  simp only [hpresent]
  rfl

/-- A source whose signal is the only one leaves none present. -/
theorem tetPresent_of_only {s : State} {src : Nat} (h : s.tet.signals = [src]) : tetPresent s src = none :=
  List.find?_eq_none.mpr fun x _ => by simp [h]

theorem doSourceLoss_of_used {s : State} {src : Nat} (hst : s.rd R.TET_STATUS_STATE = 2) (hsrc : s.rd R.TET_STATUS_SRC_ACT = src) :
    doSourceLoss src s = tetToHold (forgetSource src s) := by
  rw [doSourceLoss_eq, if_pos ⟨hst, hsrc⟩]

section
variable {s : State} {src : Nat} (hst : s.rd R.TET_STATUS_STATE = 1) (hm : s.tet.measuring = some src)
include hst hm

theorem doSourceLoss_of_measured : doSourceLoss src s =
    match tetPresent s src with
    | some x => { forgetSource src s with tet.measuring := some x }
    | none => tetToFree (forgetSource src s) := by
  have hunlocked : ¬ (s.rd R.TET_STATUS_STATE = 2 ∧ s.rd R.TET_STATUS_SRC_ACT = src) := by
    rw [hst]
    exact fun h => absurd h.1 (by decide)
  rw [doSourceLoss_eq, if_neg hunlocked, if_pos ⟨hst, hm⟩, tetPresent_forgetSource]

theorem doSourceLoss_of_other {x : Nat} (hx : tetPresent s src = some x) :
    doSourceLoss src s = { forgetSource src s with tet.measuring := some x } := by
  rw [doSourceLoss_of_measured hst hm, hx]

theorem doSourceLoss_of_last (h : tetPresent s src = none) : doSourceLoss src s = tetToFree (forgetSource src s) := by
  rw [doSourceLoss_of_measured hst hm, h]

end

/-- A source without a signal that no step waits for leaves little to forget. -/
theorem forgetSource_of_silent {s : State} {src : Nat} (hs : src ∉ s.tet.signals) (hw : s.tet.awaiting = none) :
    forgetSource src s = { s with
      tet.syncRun := if src = 0 then 0 else s.tet.syncRun, tet.ptpRank := if src = 0 then 0 else s.tet.ptpRank } := by
  have hsignals : s.tet.signals.filter (· ≠ src) = s.tet.signals :=
    List.filter_eq_self.mpr fun x hx => by simpa using fun h : x = src => hs (h ▸ hx)
  have hwait : ¬ s.tet.awaiting.map (·.1) = some src := by simp [hw]
  rw [forgetSource, hsignals, if_neg hwait, if_neg hwait]

theorem doHoldMaxExpire_of_holdover {s : State} (h : s.rd R.TET_STATUS_STATE = 3) :
    doHoldMaxExpire s = (tetToFree s).raise R.TET_INT_STATUS_FREE_RUN := if_pos h

theorem doHoldMaxExpire_of_other {s : State} (h : s.rd R.TET_STATUS_STATE ≠ 3) : doHoldMaxExpire s = s := if_neg h

/-- Settles O5: a criterion that holds is judged by the source's offset, and each end of a lock is one branch of its command. -/
theorem tetherLocksAndLoses : Obligations.TetherLocksAndLoses := by
  refine ⟨?near, ?behind, ?steps, ?waits, ?lossUsed, ?lossOther, ?lossLast, ?holdMax, ?noHoldMax, ?force, ?noForce⟩
  case near =>
    intro s src o ha hsrc hs hst hc ho
    refine .of_live (exec_sourceLockCriterionMet src o s) ha ?_
    rw [doSourceLockCriterionMet_near hs hst hc ho]
    obtain ⟨hstate, hact, htod, hever, hfault, hlocked⟩ := rd_tetLock src (tetOffset o s)
    rw [rd_tetOffset_ne (by decide), todGiven_tetOffset] at htod
    rw [Nat.mod_eq_of_lt (Nat.lt_succ_of_lt hsrc)] at hact
    exact ⟨(tetLock_tet src _).trans (by rw [tetOffset_tet]), hstate, hact, htod, hever, hfault, hlocked,
      ((sameData_tetOffset o s).trans (sameData_tetLock src _)).settle⟩
  case behind =>
    intro s src o ha hs hst hc hneg ho
    refine .of_live (exec_sourceLockCriterionMet src o s) ha ?_
    rw [doSourceLockCriterionMet_behind hs hst hc hneg ho]
    obtain ⟨hfault, hcause⟩ := rd_timeFault (tetOffset o s)
    have hdata : SameData s (timeFault (tetOffset o s)) := (sameData_tetOffset o s).trans (sameData_timeFault _)
    have hepoch : (timeFault (tetOffset o s)).tet.epoch = s.tet.epoch := by simp [timeFault]
    split
    · refine ⟨?_, ?_, ?_, (rd_tetToFree _).1, (hdata.trans (sameData_tetToFree _)).settle⟩
      · rw [settle_tet, tetToFree_tet, hepoch]
      · rw [settle_rd, rd_tetToFree_ne (by decide) (by decide) (by decide) (by decide), hfault]
      · rw [settle_rd, rd_tetToFree_ne (by decide) (by decide) (by decide) (by decide), hcause]
    · next hne =>
      refine ⟨hepoch, hfault, hcause, ?_, hdata.settle⟩
      rw [settle_rd, rd_timeFault_state, rd_tetOffset_ne (by decide), hst.resolve_left hne]
  case steps =>
    intro s src o ha hsrc hs hst hc hpos ho hp
    refine .of_live (exec_sourceLockCriterionMet src o s) ha ?_
    rw [doSourceLockCriterionMet_steps hs hst hc hpos ho hp]
    obtain ⟨hstate, hact, -⟩ := rd_tetLock src { tetOffset o s with tet.stepAhead := o.natAbs / 64000, tet.forceStep := false }
    rw [Nat.mod_eq_of_lt (Nat.lt_succ_of_lt hsrc)] at hact
    refine ⟨?_, ?_, ?_, hstate, hact, (((sameData_tetOffset o s).tet _).trans (sameData_tetLock src _)).settle⟩
    all_goals simp only [settle_tet, tetLock_tet, tetOffset_tet]
  case waits =>
    intro s src o ha hs hst hc hpos ho hp hw
    refine .of_live (exec_sourceLockCriterionMet src o s) ha ?_
    rw [doSourceLockCriterionMet_waits hs hst hc hpos ho hp hw]
    obtain ⟨hcause, hstate⟩ := rd_stepWait src (o.natAbs / 64000) (tetOffset o s)
    rw [rd_tetOffset_ne (by decide)] at hstate
    exact ⟨rfl, rfl, hcause, hstate, by simp [stepWait], ((sameData_tetOffset o s).trans (sameData_stepWait src _ _)).settle⟩
  case lossUsed =>
    intro s src ha hst hsrc
    refine .of_live (exec_sourceLoss src s) ha ?_
    rw [doSourceLoss_of_used hst hsrc]
    obtain ⟨hstate, hcause⟩ := rd_tetToHold (forgetSource src s)
    have hregs : RegsBut [R.TET_STATUS_STATE, R.TET_INT_STATUS_HOLDOVER] s (tetToHold (forgetSource src s)) :=
      ((RegsBut.of_regs rfl).wr (by simp) _).wr (by simp) _
    exact ⟨hstate, hcause, rfl, rfl, hregs.settle, ((sameData_forgetSource src s).trans (sameData_tetToHold _)).settle⟩
  case lossOther =>
    intro s src x ha hst hm hs hx hw
    refine .of_live_eq (exec_sourceLoss src s) ha ?_
    rw [doSourceLoss_of_other hst hm hx, forgetSource_of_silent hs hw]
  case lossLast =>
    intro s src ha hst hm hs
    refine .of_live (exec_sourceLoss src s) ha ?_
    rw [doSourceLoss_of_last hst hm (tetPresent_of_only hs)]
    obtain ⟨hstate, hact⟩ := rd_tetToFree (forgetSource src s)
    refine ⟨hstate, hact, ?_, ?_, ((sameData_forgetSource src s).trans (sameData_tetToFree _)).settle⟩
    · rw [settle_tet, tetToFree_tet]
    · rw [settle_tet, tetToFree_tet]
      simp [forgetSource, hs]
  case holdMax =>
    intro s ha hst
    refine .of_live (exec_holdMaxExpire s) ha ?_
    rw [doHoldMaxExpire_of_holdover hst]
    obtain ⟨hstate, hact⟩ := rd_tetToFree s
    refine ⟨?_, ?_, ?_, ?_, ((sameData_tetToFree s).raise _ _).settle⟩
    · rw [settle_rd, State.rd_raise_ne _ (by decide), hstate]
    · rw [settle_rd, State.rd_raise_ne _ (by decide), hact]
    · simp
    · rw [settle_tet, State.raise_tet, tetToFree_tet]
  case noHoldMax =>
    intro s ha hst
    exact .of_live_eq (exec_holdMaxExpire s) ha (doHoldMaxExpire_of_other hst)
  case force =>
    intro s ha hw
    exact .of_live_eq (exec_forceStep s) ha (if_pos hw)
  case noForce =>
    intro s ha hw
    exact .of_live_eq (exec_forceStep s) ha (if_neg (by simp [hw]))

end Sys2Proof.Machine
end

section
/-! SUPPORT. Writes of the Tether's registers that act, and their rejections (R31, R41, R42, R47, R48). -/

namespace Sys2Proof.Machine

/-- The meanings of the Tether's writes (R31, R41, R42, R47). -/
theorem exec_todArm (v : Nat) (s : State) : exec (.todArm v) s = live s (doTodArm v s) := rfl

theorem exec_alarmArm (n reg v : Nat) (s : State) : exec (.alarmArm n reg v) s = live s (doAlarmArm n reg v s) := rfl

theorem exec_dayOverrideWrite (v : Nat) (s : State) : exec (.dayOverrideWrite v) s = live s (doDayOverrideWrite v s) := rfl

theorem exec_soloRateRefresh (a reb pat cb dst : Nat) (s : State) :
    exec (.soloRateRefresh a reb pat cb dst) s = live s (doSoloRateRefresh a reb pat cb dst s) := rfl

/-! ### Alarms -/

/-- TET_ALARMn_CTRL takes the fields of `v` (Table 2.14). -/
def alarmCtrlWrite (n v : Nat) (s : State) : State :=
  ((((s.wr (R.TET_ALARMn_CTRL_EN n) (bits v 0 1)).wr (R.TET_ALARMn_CTRL_T_INT n) (bits v 1 1)).wr
    (R.TET_ALARMn_CTRL_T_SPOOL n) (bits v 2 1)).wr (R.TET_ALARMn_CTRL_T_WAKE n) (bits v 3 1)).wr
    (R.TET_ALARMn_CTRL_PERIOD n) (bits v 4 24)

/-- Where alarm `n`'s fields stand in the register store: no two in one place. -/
theorem alarm_keys (n : Nat) :
    (R.TET_ALARMn_CTRL_EN n).key = 0x2000800 + 512 * n ∧ (R.TET_ALARMn_CTRL_T_INT n).key = 0x2000801 + 512 * n ∧
    (R.TET_ALARMn_CTRL_T_SPOOL n).key = 0x2000802 + 512 * n ∧ (R.TET_ALARMn_CTRL_T_WAKE n).key = 0x2000803 + 512 * n ∧
    (R.TET_ALARMn_CTRL_PERIOD n).key = 0x2000804 + 512 * n ∧
    (R.TET_ALARMn_EPOCH_LO_TARGET_LO n).key = 0x2000880 + 512 * n ∧
    (R.TET_ALARMn_EPOCH_HI_TARGET_HI n).key = 0x2000900 + 512 * n := by
  simp only [Fld.key, R.TET_ALARMn_CTRL_EN, R.TET_ALARMn_CTRL_T_INT, R.TET_ALARMn_CTRL_T_SPOOL, R.TET_ALARMn_CTRL_T_WAKE,
    R.TET_ALARMn_CTRL_PERIOD, R.TET_ALARMn_EPOCH_LO_TARGET_LO, R.TET_ALARMn_EPOCH_HI_TARGET_HI]
  omega

/-- Each field reads what was written to it. -/
theorem rd_alarmCtrlWrite (n v : Nat) (s : State) :
    (alarmCtrlWrite n v s).rd (R.TET_ALARMn_CTRL_EN n) = bits v 0 1 ∧
    (alarmCtrlWrite n v s).rd (R.TET_ALARMn_CTRL_T_INT n) = bits v 1 1 ∧
    (alarmCtrlWrite n v s).rd (R.TET_ALARMn_CTRL_T_SPOOL n) = bits v 2 1 ∧
    (alarmCtrlWrite n v s).rd (R.TET_ALARMn_CTRL_T_WAKE n) = bits v 3 1 ∧
    (alarmCtrlWrite n v s).rd (R.TET_ALARMn_CTRL_PERIOD n) = bits v 4 24 := by
  obtain ⟨hen, hint, hspool, hwake, hperiod, -⟩ := alarm_keys n
  refine ⟨?_, ?_, ?_, ?_, ?_⟩ <;>
    simp (disch := omega) only [alarmCtrlWrite, State.rd_wr_ne, State.rd_wr_same] <;> exact Nat.mod_mod _ _

/-- The control register's fields are not the target's. -/
theorem alarmTarget_alarmCtrlWrite (n v : Nat) (s : State) : alarmTarget (alarmCtrlWrite n v s) n = alarmTarget s n := by
  obtain ⟨hen, hint, hspool, hwake, hperiod, hlo, hhi⟩ := alarm_keys n
  simp (disch := omega) only [alarmTarget, alarmCtrlWrite, State.rd_wr_ne]

theorem sameData_alarmCtrlWrite (n v : Nat) (s : State) : SameData s (alarmCtrlWrite n v s) := SameData.refl s

section
variable {n : Nat} (hn : n < 8)
include hn

theorem doAlarmArm_ctrl (v : Nat) (s : State) : doAlarmArm n 0 v s =
    if bit v 0 ∧ (alarmTarget s n ≤ s.tet.epoch ∨ bits v 1 3 = 0) then tetReject eRange s else alarmCtrlWrite n v s :=
  if_neg (Nat.not_le.mpr hn)

/-- An alarm whose target is ahead and that has something to do is armed (R47). -/
theorem doAlarmArm_of_ahead {s : State} {v : Nat} (ht : s.tet.epoch < alarmTarget s n) (hv : bits v 1 3 ≠ 0) :
    doAlarmArm n 0 v s = alarmCtrlWrite n v s := by
  rw [doAlarmArm_ctrl hn, if_neg fun ⟨_, h⟩ => h.elim (Nat.not_le.mpr ht) hv]

theorem doAlarmArm_of_late {s : State} {v : Nat} (hen : bit v 0 = true) (h : alarmTarget s n ≤ s.tet.epoch ∨ bits v 1 3 = 0) :
    doAlarmArm n 0 v s = tetReject eRange s := by
  rw [doAlarmArm_ctrl hn, if_pos ⟨hen, h⟩]

theorem doAlarmArm_lo (v : Nat) (s : State) : doAlarmArm n 1 v s =
    if s.on (R.TET_ALARMn_CTRL_EN n) then tetReject eState s else s.wr (R.TET_ALARMn_EPOCH_LO_TARGET_LO n) v :=
  if_neg (Nat.not_le.mpr hn)

theorem doAlarmArm_hi (v : Nat) (s : State) : doAlarmArm n 2 v s =
    if s.on (R.TET_ALARMn_CTRL_EN n) then tetReject eState s else s.wr (R.TET_ALARMn_EPOCH_HI_TARGET_HI n) v :=
  if_neg (Nat.not_le.mpr hn)

end

/-- Settles O6: each write is rejected, or acts, by the condition of its rule; an armed alarm reads the fields written. -/
theorem tetherWritesActOrAreRejected : Obligations.TetherWritesActOrAreRejected := by
  refine ⟨?tod, ?todState, ?arm, ?armRange, ?target, ?targetState, ?day, ?dayRange, ?solo⟩
  case tod =>
    intro s v ha hsrc
    exact .of_live_eq (exec_todArm v s) ha (if_neg fun h => h hsrc)
  case todState =>
    intro s v ha hsrc
    exact .of_live_eq (exec_todArm v s) ha (if_pos hsrc)
  case arm =>
    intro s n v ha hn hen ht hv
    refine .of_live (exec_alarmArm n 0 v s) ha ?_
    rw [doAlarmArm_of_ahead hn ht hv]
    obtain ⟨hrdEn, hint, hspool, hwake, hperiod⟩ := rd_alarmCtrlWrite n v s
    have hone : bits v 0 1 = 1 := of_decide_eq_true hen
    exact ⟨hrdEn.trans hone, hint, hspool, hwake, hperiod, alarmTarget_alarmCtrlWrite n v s, rfl,
      (sameData_alarmCtrlWrite n v s).settle⟩
  case armRange =>
    intro s n v ha hn hen h
    exact .of_live_eq (exec_alarmArm n 0 v s) ha (doAlarmArm_of_late hn hen h)
  case target =>
    intro s n v ha hn hen
    have hoff : ¬ s.on (R.TET_ALARMn_CTRL_EN n) = true := by simp [State.on, hen]
    exact ⟨.of_live_eq (exec_alarmArm n 1 v s) ha ((doAlarmArm_lo hn v s).trans (if_neg hoff)),
      .of_live_eq (exec_alarmArm n 2 v s) ha ((doAlarmArm_hi hn v s).trans (if_neg hoff))⟩
  case targetState =>
    intro s n v ha hn hen
    have hon : s.on (R.TET_ALARMn_CTRL_EN n) = true := decide_eq_true hen
    exact ⟨.of_live_eq (exec_alarmArm n 1 v s) ha ((doAlarmArm_lo hn v s).trans (if_pos hon)),
      .of_live_eq (exec_alarmArm n 2 v s) ha ((doAlarmArm_hi hn v s).trans (if_pos hon))⟩
  case day =>
    intro s v ha h
    exact .of_live_eq (exec_dayOverrideWrite v s) ha (if_neg (Nat.not_lt.mpr h))
  case dayRange =>
    intro s v ha h
    exact .of_live_eq (exec_dayOverrideWrite v s) ha (if_pos h)
  case solo =>
    intro s a reb pat cb dst ha
    exact .of_live (exec_soloRateRefresh a reb pat cb dst s) ha

end Sys2Proof.Machine
end

section
/-! SUPPORT. The epoch boundary: the counter and its steps, work of skipped epochs, NIGHT, and the order of the actions (R34, R36 to R38). -/

namespace Sys2Proof.Machine

/-- The meaning of `EPOCH_BOUNDARY` (R38). -/
theorem exec_epochBoundary (s : State) : exec .epochBoundary s = fin (doEpochBoundary s) := rfl

/-! ### The counter (R36) -/

theorem stepCounter_tet (n : Nat) (s : State) : (stepCounter n s).tet =
    { s.tet with epoch := s.tet.epoch + 1 + n, stepAhead := 0, forceStep := false } := State.event_tet _ _ _ _

theorem rd_stepCounter_stepped (n : Nat) (s : State) : (stepCounter n s).rd R.TET_INT_STATUS_STEPPED = 1 := by
  rw [stepCounter, State.rd_event _ (by decide) (by decide), State.rd_raise_same]
  exact or_one_mod_two _

section
variable {s : State}

theorem counterAdvance_of_next (hw : s.tet.awaiting = none) (h : s.tet.stepAhead = 0) :
    counterAdvance s = { s with tet.epoch := s.tet.epoch + 1 } := by
  rw [counterAdvance, hw]
  exact if_pos h

theorem counterAdvance_of_ahead (hw : s.tet.awaiting = none) (h : s.tet.stepAhead ≠ 0) :
    counterAdvance s = stepCounter s.tet.stepAhead s := by
  rw [counterAdvance, hw]
  exact if_neg h

variable {src n : Nat} (hw : s.tet.awaiting = some (src, n))
include hw

theorem counterAdvance_of_permitted (hp : stepPermitted s = true) : counterAdvance s = tetLock src (stepCounter n s) := by
  rw [counterAdvance, hw]
  exact if_pos hp

theorem counterAdvance_of_waiting (hp : stepPermitted s = false) : counterAdvance s = { s with tet.epoch := s.tet.epoch + 1 } := by
  rw [counterAdvance, hw]
  exact if_neg (by simp [hp])

end

/-! ### Skipped epochs and NIGHT (R34, R37) -/

/-- A counter that takes one epoch skips none. -/
theorem skippedWork_of_next {s : State} {old : Nat} (h : s.tet.epoch ≤ old + 1) : skippedWork old s = s := if_pos h

/-- In NIGHT an alarm that is off, is no wake source or is not due wakes nothing. -/
theorem nightEpoch_of_no_wake {s : State} (h : ∀ n < 8, s.rd (R.TET_ALARMn_CTRL_EN n) = 0 ∨ s.rd (R.TET_ALARMn_CTRL_T_WAKE n) = 0 ∨
    s.tet.epoch + 1 < alarmTarget s n) : nightEpoch s = { s with tet.epoch := s.tet.epoch + 1 } := by
  refine if_neg ?_
  rw [List.any_eq_true]
  rintro ⟨n, hn, hwake⟩
  rw [Bool.and_eq_true, alarmDue, Bool.and_eq_true] at hwake
  obtain ⟨⟨hen, hdue⟩, hmark⟩ := hwake
  rcases h n (List.mem_range.mp hn) with hz | hz | hlater
  · exact of_decide_eq_true hen hz
  · exact of_decide_eq_true hmark hz
  · exact Nat.not_le.mpr hlater (of_decide_eq_true hdue)

/-! ### The boundary -/

section
variable {s : State} (hon : ¬ (¬ s.pwr.powered ∨ s.pwr.rstHeld ∨ s.pwr.tripHeld ∨ s.dwn.step = 0))
include hon

theorem doEpochBoundary_of_night (hn : s.pwr.inNight = true) : doEpochBoundary s = nightEpoch s := by
  rw [doEpochBoundary, if_neg hon, if_pos hn]

/-- With the device on, the boundary takes the actions of Table 2.3 in their order. -/
theorem doEpochBoundary_of_day (hn : s.pwr.inNight = false) {u v : State} (hu : u = counterAdvance (epochClose s))
    (hv : v = tailsForced ((if u.tet.epoch % 1024 = 0 then tailCheckpoint else id)
      (strBoundary (pairBoundary (helloBoundary (dayEvaluate (actSwitch (configBoundary (skippedWork s.tet.epoch u))))))))) :
    doEpochBoundary s = mbxPump (nsDeletePoll ((if s.tet.epoch / 1024 < u.tet.epoch / 1024 then gaugesCheckpoint else id)
      (gaugesEpoch (layoutBoundary (pfcBoundary (splBoundary (alarmsFire (budgetCompute v)))))))) := by
  rw [doEpochBoundary, if_neg hon, hn, hv]
  dsimp only
  rw [if_neg Bool.false_ne_true, ← hu, epochActions]
  by_cases hcheck : u.tet.epoch % 1024 = 0 <;> by_cases hcross : s.tet.epoch / 1024 < u.tet.epoch / 1024 <;>
    simp only [hcheck, hcross, decide_true, decide_false, if_true, if_false, id, Bool.false_eq_true]

end

/-- Settles O7: with the device on the boundary's composition is the table's order; the counter's four cases are those of `counterAdvance`. -/
theorem epochBoundaryOrder : Obligations.EpochBoundaryOrder := by
  refine ⟨?day, ?night, fun s old h => skippedWork_of_next h, fun s hw h => counterAdvance_of_next hw h, ?ahead, ?permitted,
    fun s src n hw hp => counterAdvance_of_waiting hw hp⟩
  case day =>
    intro s ha hstep u v hu hv
    obtain ⟨hpower, hrst, htrip, hnight⟩ := (alive_iff s).mp ha
    exact .of_fin_eq (exec_epochBoundary s) (doEpochBoundary_of_day (by simp [hpower, hrst, htrip, hstep]) hnight hu hv)
  case night =>
    intro s hpower hrst htrip hstep hnight h
    exact .of_fin_eq (exec_epochBoundary s)
      ((doEpochBoundary_of_night (by simp [hpower, hrst, htrip, hstep]) hnight).trans (nightEpoch_of_no_wake h))
  case ahead =>
    intro s hw h
    rw [counterAdvance_of_ahead hw h, stepCounter_tet]
    exact ⟨rfl, rd_stepCounter_stepped _ s⟩
  case permitted =>
    intro s src n hw hp
    rw [counterAdvance_of_permitted hw hp, tetLock_tet, stepCounter_tet]
    exact ⟨rfl, (rd_tetLock src _).1⟩

end Sys2Proof.Machine
end

section
/-! SUPPORT. Multiplication of blocks by constants of GF(2^8): what it does to each byte, that it is linear in the block and in the constant,
and that two multiplications are one by the product, so that a constant's inverse undoes it (R61). -/

namespace Sys2Proof.Machine

/-! ### The bytes of a doubled block -/

/-- Bits 0, 8, 16 and so on are those of the number whose `n` bytes are all 1. -/
theorem testBit_ones {w n : Nat} (hw : w = 8 * n) (i : Nat) : ((2 ^ w - 1) / 255).testBit i = decide (i < w ∧ i % 8 = 0) := by
  subst hw
  induction n generalizing i with
  | zero => simp
  | succ n ih =>
    have hmod : 2 ^ (8 * n) % 255 = 1 := by rw [Nat.pow_mul, Nat.pow_mod]; simp
    have hstep : (2 ^ (8 * (n + 1)) - 1) / 255 = 2 ^ 8 * ((2 ^ (8 * n) - 1) / 255) + 1 := by
      rw [Nat.mul_succ, Nat.pow_add]
      omega
    rw [hstep, Nat.testBit_two_pow_mul_add _ (by decide), ih]
    split
    · rw [Bool.eq_iff_iff, Nat.testBit_one_eq_true_iff_self_eq_zero, decide_eq_true_iff]
      omega
    · exact decide_eq_decide.mpr (by omega)

theorem getLsbD_onesBlock (i : Nat) : onesBlock.getLsbD i = decide (i < 32896 ∧ i % 8 = 0) := by
  rw [onesBlock, BitVec.getLsbD_ofNat, testBit_ones (w := 32896) (n := 4112) rfl, ← Bool.decide_and]
  exact decide_eq_decide.mpr (by omega)

theorem getLsbD_topBits (x : Block) (i : Nat) : (topBits x).getLsbD i = (x.getLsbD i && decide (i % 8 = 7)) := by
  rw [topBits, BitVec.getLsbD_and, BitVec.getLsbD_shiftLeft, getLsbD_onesBlock]
  by_cases h : i < 32896
  · congr 1
    grind
  · rw [BitVec.getLsbD_of_ge x i (Nat.le_of_not_lt h), Bool.false_and, Bool.false_and]

/-- Where no bit is set in both, a sum has no carry. -/
theorem add_eq_xor_of_disjoint {w : Nat} {x y : BitVec w} (h : ∀ i, x.getLsbD i = true → y.getLsbD i = true → False) :
    x + y = x ^^^ y := by
  have hbits : ∀ i, (x.getLsbD i && y.getLsbD i) = false ∧ (x.getLsbD i || y.getLsbD i) = (x.getLsbD i ^^ y.getLsbD i) := fun i => by
    have hi := h i
    cases hx : x.getLsbD i <;> cases hy : y.getLsbD i <;> simp_all
  rw [BitVec.add_eq_or_of_and_eq_zero x y]
  · exact BitVec.eq_of_getLsbD_eq fun i _ => by rw [BitVec.getLsbD_or, BitVec.getLsbD_xor, (hbits i).2]
  · exact BitVec.eq_of_getLsbD_eq fun i _ => by rw [BitVec.getLsbD_and, BitVec.getLsbD_zero, (hbits i).1]

theorem getLsbD_of_xor {w : Nat} {x y : BitVec w} {i : Nat} (h : (x ^^^ y).getLsbD i = true) :
    x.getLsbD i = true ∨ y.getLsbD i = true := by
  rw [BitVec.getLsbD_xor] at h
  cases hx : x.getLsbD i with
  | true => exact .inl rfl
  | false => exact .inr (by simpa [hx] using h)

/-- A word whose bits all stand at the bottom of a byte, times 0x1D: no two of the shifted copies meet. -/
theorem mul_reduction {w : Nat} {y : BitVec w} (h : ∀ i, y.getLsbD i = true → i % 8 = 0) :
    y * 0x1D#w = y ^^^ y <<< 2 ^^^ y <<< 3 ^^^ y <<< 4 := by
  have hpow (k : Nat) : BitVec.ofNat w (2 ^ k) = BitVec.twoPow w k :=
    BitVec.eq_of_toNat_eq (by rw [BitVec.toNat_ofNat, BitVec.toNat_twoPow])
  have hsum : y * 0x1D#w = y + y <<< 2 + y <<< 3 + y <<< 4 := by
    rw [show (0x1D : Nat) = 2 ^ 0 + 2 ^ 2 + 2 ^ 3 + 2 ^ 4 from rfl]
    simp only [BitVec.ofNat_add, hpow, BitVec.mul_add, BitVec.mul_twoPow_eq_shiftLeft, BitVec.shiftLeft_zero]
  have hplace (k : Nat) {i : Nat} (hi : (y <<< k).getLsbD i = true) : i % 8 = k % 8 := by
    simp only [BitVec.getLsbD_shiftLeft, Bool.and_eq_true, decide_eq_true_eq, Bool.not_eq_true', decide_eq_false_iff_not] at hi
    have := h (i - k) hi.2
    omega
  have h2 : y + y <<< 2 = y ^^^ y <<< 2 := add_eq_xor_of_disjoint fun i hi hi2 => by
    have := h i hi
    have := hplace 2 hi2
    omega
  have h3 : (y ^^^ y <<< 2) + y <<< 3 = y ^^^ y <<< 2 ^^^ y <<< 3 := add_eq_xor_of_disjoint fun i hi hi3 => by
    have := hplace 3 hi3
    obtain hi | hi := getLsbD_of_xor hi
    · have := h i hi; omega
    · have := hplace 2 hi; omega
  have h4 : (y ^^^ y <<< 2 ^^^ y <<< 3) + y <<< 4 = y ^^^ y <<< 2 ^^^ y <<< 3 ^^^ y <<< 4 := add_eq_xor_of_disjoint fun i hi hi4 => by
    have := hplace 4 hi4
    obtain hi | hi := getLsbD_of_xor hi
    · obtain hi | hi := getLsbD_of_xor hi
      · have := h i hi; omega
      · have := hplace 2 hi; omega
    · have := hplace 3 hi; omega
  rw [hsum, h2, h3, h4]

/-- One byte times g, with its reduction by 0x11D. -/
def byteDouble (b : BitVec 8) : BitVec 8 := b <<< 1 ^^^ (if b.getLsbD 7 then 0x1D#8 else 0)

section
variable {k j : Nat} (hk : k < 4112) (hj : j < 8)
include hk hj

/-- The top bit of each byte, brought down to the byte's bit `m`. -/
theorem getLsbD_topBits_at (x : Block) {m : Nat} (hm : m < 8) :
    ((topBits x >>> 7) <<< m).getLsbD (8 * k + j) = (x.getLsbD (8 * k + 7) && decide (j = m)) := by
  rw [BitVec.getLsbD_shiftLeft, BitVec.getLsbD_ushiftRight, getLsbD_topBits]
  by_cases h : j = m
  · subst h
    rw [show 7 + (8 * k + j - j) = 8 * k + 7 by omega]
    grind
  · grind

/-- The bits below a byte's top bit move up by one, none of them into the next byte. -/
theorem getLsbD_topFree_shiftLeft (x : Block) :
    ((x ^^^ topBits x) <<< 1).getLsbD (8 * k + j) = (decide (0 < j) && x.getLsbD (8 * k + (j - 1))) := by
  rw [BitVec.getLsbD_shiftLeft, BitVec.getLsbD_xor, getLsbD_topBits]
  by_cases h : 0 < j
  · rw [show 8 * k + j - 1 = 8 * k + (j - 1) by omega]
    grind
  · grind

theorem getLsbD_blkDouble (x : Block) : (blkDouble x).getLsbD (8 * k + j) =
    ((decide (0 < j) && x.getLsbD (8 * k + (j - 1))) ^^ (x.getLsbD (8 * k + 7) && (0x1D#8).getLsbD j)) := by
  have hbottom : ∀ i, (topBits x >>> 7).getLsbD i = true → i % 8 = 0 := fun i hi => by
    rw [BitVec.getLsbD_ushiftRight, getLsbD_topBits, Bool.and_eq_true, decide_eq_true_eq] at hi
    omega
  have hbit : (0x1D#8).getLsbD j = (decide (j = 0) ^^ decide (j = 2) ^^ decide (j = 3) ^^ decide (j = 4)) := by
    have hall : ∀ j < 8, (0x1D#8).getLsbD j = (decide (j = 0) ^^ decide (j = 2) ^^ decide (j = 3) ^^ decide (j = 4)) := by decide
    exact hall j hj
  have hzero := getLsbD_topBits_at hk hj x (m := 0) (by decide)
  rw [BitVec.shiftLeft_zero] at hzero
  rw [blkDouble, mul_reduction hbottom]
  simp only [BitVec.getLsbD_xor, getLsbD_topFree_shiftLeft hk hj, hzero, getLsbD_topBits_at hk hj x (show 2 < 8 by decide),
    getLsbD_topBits_at hk hj x (show 3 < 8 by decide), getLsbD_topBits_at hk hj x (show 4 < 8 by decide), hbit, Bool.and_xor_distrib_left]

end

/-- Doubling a block doubles each of its bytes. -/
theorem extractLsb'_blkDouble (x : Block) {k : Nat} (hk : k < 4112) :
    (blkDouble x).extractLsb' (8 * k) 8 = byteDouble (x.extractLsb' (8 * k) 8) := by
  refine BitVec.eq_of_getLsbD_eq fun j hj => ?_
  rw [BitVec.getLsbD_extractLsb', getLsbD_blkDouble hk hj, byteDouble, BitVec.getLsbD_xor, BitVec.getLsbD_shiftLeft,
    BitVec.getLsbD_extractLsb', BitVec.getLsbD_extractLsb']
  have hbelow : decide (0 < j) = (!decide (j < 1) && decide (j - 1 < 8)) := by grind
  cases ht : x.getLsbD (8 * k + 7) <;> simp [hj, hbelow, Bool.and_assoc]

/-- Blocks are equal when their 4,112 bytes are. -/
theorem eq_of_extractLsb'_eq {x y : Block} (h : ∀ k < 4112, x.extractLsb' (8 * k) 8 = y.extractLsb' (8 * k) 8) : x = y := by
  refine BitVec.eq_of_getLsbD_eq fun i hi => ?_
  have hbit : ∀ z : Block, z.getLsbD i = (z.extractLsb' (8 * (i / 8)) 8).getLsbD (i % 8) := fun z => by
    rw [BitVec.getLsbD_extractLsb', decide_eq_true (Nat.mod_lt i (by decide)), Bool.true_and, Nat.div_add_mod]
  rw [hbit x, hbit y, h (i / 8) (by omega)]

/-! ### Doubling is linear, and its eighth power -/

theorem byteDouble_xor (a b : BitVec 8) : byteDouble (a ^^^ b) = byteDouble a ^^^ byteDouble b := by
  have hred : (if (a ^^^ b).getLsbD 7 then 0x1D#8 else 0) = (if a.getLsbD 7 then 0x1D#8 else 0) ^^^ (if b.getLsbD 7 then 0x1D#8 else 0) := by
    rw [BitVec.getLsbD_xor]
    cases a.getLsbD 7 <;> cases b.getLsbD 7 <;> rfl
  rw [byteDouble, byteDouble, byteDouble, hred, BitVec.shiftLeft_xor_distrib]
  ac_rfl

theorem blkDouble_xor (x y : Block) : blkDouble (x ^^^ y) = blkDouble x ^^^ blkDouble y := by
  refine eq_of_extractLsb'_eq fun k hk => ?_
  simp only [extractLsb'_blkDouble _ hk, BitVec.extractLsb'_xor, byteDouble_xor]

/-! The model writes the zero block as `0` and the library's laws as `0#w`, which `rw` tells apart. -/

@[simp] theorem block_xor_zero (x : Block) : x ^^^ (0 : Block) = x := BitVec.xor_zero

@[simp] theorem block_zero_xor (x : Block) : (0 : Block) ^^^ x = x := BitVec.zero_xor

@[simp] theorem block_xor_self (x : Block) : x ^^^ x = (0 : Block) := BitVec.xor_self

theorem blkDouble_zero : blkDouble 0 = 0 := by
  rw [← block_xor_self 0, blkDouble_xor, block_xor_self, block_xor_self]

/-- The polynomial 0x11D in one byte: g^8 = 1 + g^2 + g^3 + g^4. -/
theorem byteDouble_repeat_eight : ∀ b : BitVec 8,
    Nat.repeat byteDouble 8 b = b ^^^ Nat.repeat byteDouble 2 b ^^^ Nat.repeat byteDouble 3 b ^^^ Nat.repeat byteDouble 4 b := by
  decide

theorem extractLsb'_repeat_blkDouble (n : Nat) (x : Block) {k : Nat} (hk : k < 4112) :
    (Nat.repeat blkDouble n x).extractLsb' (8 * k) 8 = Nat.repeat byteDouble n (x.extractLsb' (8 * k) 8) := by
  induction n with
  | zero => rfl
  | succ n ih => rw [Nat.repeat, Nat.repeat, extractLsb'_blkDouble _ hk, ih]

/-- The first doubling apart, where the definition takes the last. -/
theorem repeat_blkDouble_succ (n : Nat) (x : Block) : Nat.repeat blkDouble (n + 1) x = Nat.repeat blkDouble n (blkDouble x) := by
  induction n with
  | zero => rfl
  | succ n ih => rw [Nat.repeat, ih, Nat.repeat]

theorem blkDouble_repeat_eight (x : Block) :
    Nat.repeat blkDouble 8 x = x ^^^ Nat.repeat blkDouble 2 x ^^^ Nat.repeat blkDouble 3 x ^^^ Nat.repeat blkDouble 4 x := by
  refine eq_of_extractLsb'_eq fun k hk => ?_
  simp only [BitVec.extractLsb'_xor, extractLsb'_repeat_blkDouble _ _ hk, byteDouble_repeat_eight]

/-! ### Multiplication by a constant -/

@[simp] theorem blkMulN_zero (n c : Nat) : blkMulN n c 0 = 0 := by
  induction n generalizing c with
  | zero => rfl
  | succ n ih => rw [blkMulN, blkDouble_zero, ih, ite_self, block_xor_zero]

@[simp] theorem zero_blkMulN (n : Nat) (x : Block) : blkMulN n 0 x = 0 := by
  induction n generalizing x with
  | zero => rfl
  | succ n ih => rw [blkMulN, if_neg (by decide), Nat.zero_div, ih, block_zero_xor]

/-- Multiplication is linear in the block. -/
theorem blkMulN_xor (n c : Nat) (x y : Block) : blkMulN n c (x ^^^ y) = blkMulN n c x ^^^ blkMulN n c y := by
  induction n generalizing c x y with
  | zero => simp [blkMulN]
  | succ n ih =>
    rw [blkMulN, blkMulN, blkMulN, blkDouble_xor, ih]
    split
    · ac_rfl
    · simp

/-- Multiplication is linear in the constant. -/
theorem xor_blkMulN (n c d : Nat) (x : Block) : blkMulN n (c ^^^ d) x = blkMulN n c x ^^^ blkMulN n d x := by
  induction n generalizing c d x with
  | zero => simp [blkMulN]
  | succ n ih =>
    have hlow : (if (c ^^^ d) % 2 = 1 then x else 0) = (if c % 2 = 1 then x else 0) ^^^ (if d % 2 = 1 then x else 0) := by
      by_cases hc : c % 2 = 1 <;> by_cases hd : d % 2 = 1 <;>
        simp only [Nat.xor_mod_two_eq_one, hc, hd, not_true_eq_false, not_false_eq_true, iff_self, iff_false, false_iff, if_true, if_false,
          block_xor_zero, block_zero_xor, block_xor_self]
    rw [blkMulN, blkMulN, blkMulN, Nat.xor_div_two, ih, hlow]
    ac_rfl

/-- The constant's highest bit apart. -/
theorem blkMulN_succ_top (n c : Nat) (x : Block) :
    blkMulN (n + 1) c x = blkMulN n c x ^^^ (if c / 2 ^ n % 2 = 1 then Nat.repeat blkDouble n x else 0) := by
  induction n generalizing c x with
  | zero => rw [blkMulN, blkMulN, blkMulN, block_xor_zero, block_zero_xor, Nat.pow_zero, Nat.div_one, Nat.repeat]
  | succ n ih =>
    rw [blkMulN, ih, blkMulN, Nat.div_div_eq_div_mul, ← Nat.pow_succ', repeat_blkDouble_succ]
    ac_rfl

theorem blkMulN_blkDouble (n c : Nat) (x : Block) : blkMulN n c (blkDouble x) = blkDouble (blkMulN n c x) := by
  induction n generalizing c x with
  | zero => rw [blkMulN, blkMulN, blkDouble_zero]
  | succ n ih =>
    rw [blkMulN, blkMulN, ih, blkDouble_xor, apply_ite blkDouble, blkDouble_zero]

theorem zero_blkMul (x : Block) : blkMul 0 x = 0 := zero_blkMulN 8 x

theorem blkMul_xor (c : Nat) (x y : Block) : blkMul c (x ^^^ y) = blkMul c x ^^^ blkMul c y := blkMulN_xor 8 c x y

theorem xor_blkMul (c d : Nat) (x : Block) : blkMul (c ^^^ d) x = blkMul c x ^^^ blkMul d x := xor_blkMulN 8 c d x

theorem blkMul_one (x : Block) : blkMul 1 x = x := by
  simp [blkMul, blkMulN]

/-- On the low eight bits the polynomial acts as g^8. -/
theorem blkMul_polynomial (x : Block) : blkMul 0x11D x = Nat.repeat blkDouble 8 x := by
  rw [blkDouble_repeat_eight, blkMul]
  simp only [blkMulN, Nat.reduceDiv, Nat.reduceMod, if_true, if_false, Nat.zero_ne_one, block_xor_zero, block_zero_xor,
    Nat.repeat, BitVec.xor_assoc]

/-- The reduced double of a byte is a byte, its high and low half apart. -/
theorem gfDouble_lt_halves : ∀ h < 16, ∀ l < 16, gfDouble (16 * h + l) < 256 := by decide

theorem gfDouble_lt (a : Nat) : gfDouble a < 256 := by
  have hlt := gfDouble_lt_halves (a % 256 / 16) (by omega) (a % 256 % 16) (by omega)
  rwa [Nat.div_add_mod, gfDouble, Nat.mod_mod, ← gfDouble] at hlt

/-- An even constant is half of it on the doubled block. -/
theorem blkMulN_two_mul (n a : Nat) (x : Block) : blkMulN (n + 1) (2 * a) x = blkMulN n a (blkDouble x) := by
  rw [blkMulN, if_neg (by omega), Nat.mul_div_cancel_left a (by decide), block_zero_xor]

/-- Doubling the constant doubles the product. -/
theorem blkMul_gfDouble {a : Nat} (h : a < 256) (x : Block) : blkMul (gfDouble a) x = blkDouble (blkMul a x) := by
  have hdouble : blkDouble (blkMul a x) = blkMul (2 * a) x ^^^ (if a / 2 ^ 7 % 2 = 1 then blkMul 0x11D x else 0) := by
    rw [blkMul, ← blkMulN_blkDouble, blkMulN_succ_top, ← blkMulN_two_mul, ← repeat_blkDouble_succ, blkMul_polynomial, blkMul]
  rw [hdouble, gfDouble, Nat.mod_eq_of_lt h]
  by_cases ha : 128 ≤ a
  · rw [if_pos ha, if_pos (by omega), xor_blkMul]
  · rw [if_neg ha, if_neg (by omega), block_xor_zero]

theorem blkMul_gfMulN (n : Nat) {a : Nat} (h : a < 256) (b : Nat) (x : Block) : blkMul (gfMulN n a b) x = blkMulN n b (blkMul a x) := by
  induction n generalizing a b with
  | zero => exact zero_blkMul x
  | succ n ih =>
    rw [gfMulN, xor_blkMul, ih (gfDouble_lt a), blkMulN, blkMul_gfDouble h, Nat.mod_eq_of_lt h, apply_ite (blkMul · x), zero_blkMul]

theorem blkMul_gfMul {a : Nat} (h : a < 256) (b : Nat) (x : Block) : blkMul (gfMul a b) x = blkMul b (blkMul a x) :=
  blkMul_gfMulN 8 h b x

/-- Every constant but 0 has its inverse, high and low half of the byte apart. -/
theorem gfMul_gfInv_halves : ∀ h < 16, ∀ l < 16, 16 * h + l ≠ 0 → gfMul (16 * h + l) (gfInv (16 * h + l)) = 1 := by decide

/-- Multiplication by the inverse undoes multiplication by a constant. -/
theorem blkMul_gfInv_blkMul {a : Nat} (h : a < 256) (h0 : a ≠ 0) (x : Block) : blkMul (gfInv a) (blkMul a x) = x := by
  have hinv := gfMul_gfInv_halves (a / 16) (by omega) (a % 16) (by omega)
  rw [Nat.div_add_mod] at hinv
  rw [← blkMul_gfMul h, hinv h0, blkMul_one]

theorem gfPow_lt : ∀ k, gfPow k < 256
  | 0 => by decide
  | k + 1 => gfDouble_lt (gfPow k)

end Sys2Proof.Machine
end

section
/-! SUPPORT. Parity: the update by one strip's difference and by several (R63), and reconstruction of erased strips (R61, R64, Table 3.5). -/

namespace Sys2Proof.Machine

/-! ### Updates -/

theorem block_xor_cancel_left (x y : Block) : x ^^^ (x ^^^ y) = y := by
  rw [← BitVec.xor_assoc, block_xor_self, block_zero_xor]

theorem block_xor_cancel_middle (x y : Block) : x ^^^ y ^^^ x = y := by
  rw [BitVec.xor_comm, block_xor_cancel_left]

theorem xor_xor_head (x y r : Block) : x ^^^ r ^^^ (x ^^^ y) = y ^^^ r := by
  rw [← BitVec.xor_assoc, block_xor_cancel_middle, BitVec.xor_comm]

theorem xorAll_set {ds : List Block} {i : Nat} {old : Block} (h : ds[i]? = some old) (new : Block) :
    xorAll (ds.set i new) = xorAll ds ^^^ (old ^^^ new) := by
  induction ds generalizing i with
  | nil => cases h
  | cons x xs ih =>
    cases i with
    | zero =>
      obtain rfl : x = old := by simpa using h
      rw [List.set_cons_zero, xorAll, xorAll, xor_xor_head]
    | succ i =>
      rw [List.set_cons_succ, xorAll, xorAll, ih (by simpa using h), BitVec.xor_assoc]

theorem qSum_set {ds : List Block} {i : Nat} {old : Block} (h : ds[i]? = some old) (new : Block) (k : Nat) :
    qSum k (ds.set i new) = qSum k ds ^^^ blkMul (gfPow (k + i)) (old ^^^ new) := by
  induction ds generalizing i k with
  | nil => cases h
  | cons x xs ih =>
    cases i with
    | zero =>
      obtain rfl : x = old := by simpa using h
      rw [List.set_cons_zero, qSum, qSum, blkMul_xor, Nat.add_zero k, xor_xor_head]
    | succ i =>
      rw [List.set_cons_succ, qSum, qSum, ih (by simpa using h), BitVec.xor_assoc, Nat.add_right_comm, Nat.add_assoc]

theorem updateP_of_set {ds : List Block} {i : Nat} {old : Block} (h : ds[i]? = some old) (new : Block) :
    updateP (parityP ds) (old ^^^ new) = parityP (ds.set i new) := (xorAll_set h new).symm

theorem updateQ_of_set {ds : List Block} {i : Nat} {old : Block} (h : ds[i]? = some old) (new : Block) :
    updateQ (parityQ ds) i (old ^^^ new) = parityQ (ds.set i new) := by
  rw [updateQ, parityQ, parityQ, qSum_set h new, Nat.zero_add]

/-- The column in which the first `n` strips are those of `es` and the others those of `ds`. -/
def strips (n : Nat) (ds es : List Block) : List Block := es.take n ++ ds.drop n

section
variable {ds es : List Block} (hlen : ds.length = es.length) {n : Nat} (hn : n < ds.length)
include hlen hn

theorem strips_getElem? : (strips n ds es)[n]? = some (ds.getD n 0) := by
  rw [strips]
  grind

theorem strips_succ : (strips n ds es).set n (es.getD n 0) = strips (n + 1) ds es := by
  refine List.ext_getElem? fun k => ?_
  rw [strips, strips]
  grind

end

/-- Settles O11: one strip's difference by `xorAll_set` and `qSum_set`; several strips one after the other. -/
theorem parityUpdateEqualsRecompute : Obligations.ParityUpdateEqualsRecompute := by
  refine ⟨fun ds i old new h => ⟨updateP_of_set h new, updateQ_of_set h new⟩, fun ds es hlen => ?_⟩
  have hsteps : ∀ n ≤ ds.length,
      (List.range n).foldl (fun p i => updateP p (ds.getD i 0 ^^^ es.getD i 0)) (parityP ds) = parityP (strips n ds es) ∧
      (List.range n).foldl (fun q i => updateQ q i (ds.getD i 0 ^^^ es.getD i 0)) (parityQ ds) = parityQ (strips n ds es) := by
    intro n hn
    induction n with
    | zero => exact ⟨rfl, rfl⟩
    | succ n ih =>
      obtain ⟨hP, hQ⟩ := ih (Nat.le_of_succ_le hn)
      rw [List.range_succ, List.foldl_append, List.foldl_append, List.foldl_cons, List.foldl_nil, List.foldl_cons, List.foldl_nil, hP, hQ, ← strips_succ hlen hn]
      exact ⟨updateP_of_set (strips_getElem? hlen hn) _, updateQ_of_set (strips_getElem? hlen hn) _⟩
  have hall : strips ds.length ds es = es := by rw [strips, hlen, List.take_length, ← hlen, List.drop_length, List.append_nil]
  have hlast := hsteps ds.length (Nat.le_refl _)
  rwa [hall] at hlast

/-! ### The erased strips -/

theorem mem_erasedIdx {cs : List (Option Block)} {i k : Nat} : k ∈ erasedIdx i cs ↔ i ≤ k ∧ cs[k - i]? = some none := by
  induction cs generalizing i with
  | nil => simp [erasedIdx]
  | cons x xs ih =>
    have htail (h : i < k) : (x :: xs)[k - i]? = xs[k - (i + 1)]? := by
      rw [show k - i = k - (i + 1) + 1 by omega, List.getElem?_cons_succ]
    have hhead : (x :: xs)[i - i]? = some x := by rw [Nat.sub_self]; rfl
    cases x <;> grind [erasedIdx]

theorem erasedIdx_pairwise (i : Nat) (cs : List (Option Block)) : (erasedIdx i cs).Pairwise (· < ·) := by
  induction cs generalizing i with
  | nil => exact .nil
  | cons x xs ih =>
    cases x with
    | none => exact List.pairwise_cons.mpr ⟨fun k hk => (mem_erasedIdx.mp hk).1, ih (i + 1)⟩
    | some v => exact ih (i + 1)

theorem length_erasedIdx (i : Nat) (cs : List (Option Block)) : (erasedIdx i cs).length = (cs.filter (·.isNone)).length := by
  induction cs generalizing i with
  | nil => rfl
  | cons x xs ih =>
    cases x with
    | none => exact congrArg Nat.succ (ih (i + 1))
    | some v => exact ih (i + 1)

theorem fillData_getElem? (fills : List (Nat × Block)) (i : Nat) (cs : List (Option Block)) (k : Nat) :
    (fillData fills i cs)[k]? = cs[k]?.map fun o => o.getD (((fills.find? (·.1 = i + k)).map (·.2)).getD 0) := by
  induction cs generalizing i k with
  | nil => rfl
  | cons x xs ih =>
    cases k with
    | zero => cases x <;> rfl
    | succ k =>
      have htail : (fillData fills i (x :: xs))[k + 1]? = (fillData fills (i + 1) xs)[k]? := by cases x <;> rfl
      rw [htail, ih, List.getElem?_cons_succ, Nat.add_right_comm, Nat.add_assoc]

section
variable {ds : List Block} {cs : List (Option Block)} (hlen : cs.length = ds.length)
  (hagree : ∀ (i : Nat) (v : Block), cs[i]? = some (some v) → ds[i]? = some v)
include hlen

theorem erasedIdx_lt {k : Nat} (h : k ∈ erasedIdx 0 cs) : k < ds.length :=
  hlen ▸ (List.getElem?_eq_some_iff.mp (mem_erasedIdx.mp h).2).1

include hagree

/-- With the erased strips filled in as they were written, the column is whole. -/
theorem fillData_eq {fills : List (Nat × Block)}
    (h : ∀ k ∈ erasedIdx 0 cs, (fills.find? (·.1 = k)).map (·.2) = ds[k]?) : fillData fills 0 cs = ds := by
  refine List.ext_getElem? fun k => ?_
  rw [fillData_getElem?, Nat.zero_add]
  match hk : cs[k]? with
  | none =>
    rw [List.getElem?_eq_none_iff, hlen, ← List.getElem?_eq_none_iff] at hk
    exact hk.symm
  | some none =>
    have hlt : k < ds.length := hlen ▸ (List.getElem?_eq_some_iff.mp hk).1
    rw [h k (mem_erasedIdx.mpr ⟨Nat.zero_le k, hk⟩), List.getElem?_eq_getElem hlt]
    rfl
  | some (some v) => exact (hagree k v hk).symm

/-- An erased strip counts as 0. -/
theorem known_getElem? (k : Nat) : (cs.map (·.getD 0))[k]? = if k ∈ erasedIdx 0 cs then some 0 else ds[k]? := by
  rw [List.getElem?_map]
  match hk : cs[k]? with
  | none =>
    rw [if_neg fun hm => by simpa [hk] using (mem_erasedIdx.mp hm).2]
    rw [List.getElem?_eq_none_iff, hlen, ← List.getElem?_eq_none_iff] at hk
    exact hk.symm
  | some none => rw [if_pos (mem_erasedIdx.mpr ⟨Nat.zero_le k, hk⟩)]; rfl
  | some (some v) =>
    rw [if_neg fun hm => by simpa [hk] using (mem_erasedIdx.mp hm).2, hagree k v hk]; rfl

/-- One erased strip. -/
theorem known_of_one {x : Nat} (h : erasedIdx 0 cs = [x]) : cs.map (·.getD 0) = ds.set x 0 := by
  refine List.ext_getElem? fun k => ?_
  rw [known_getElem? hlen hagree, h, List.getElem?_set]
  have hx := erasedIdx_lt hlen (k := x) (by simp [h])
  grind

/-- Two erased strips. -/
theorem known_of_two {x y : Nat} (h : erasedIdx 0 cs = [x, y]) : cs.map (·.getD 0) = (ds.set x 0).set y 0 := by
  refine List.ext_getElem? fun k => ?_
  rw [known_getElem? hlen hagree, h, List.getElem?_set, List.getElem?_set]
  have hx := erasedIdx_lt hlen (k := x) (by simp [h])
  have hy := erasedIdx_lt hlen (k := y) (by simp [h])
  grind

end

/-! ### Reconstruction -/

theorem parityP_erase {ds : List Block} {x : Nat} {dx : Block} (h : ds[x]? = some dx) : parityP (ds.set x 0) = parityP ds ^^^ dx := by
  rw [← updateP_of_set h, block_xor_zero, updateP]

theorem parityQ_erase {ds : List Block} {x : Nat} {dx : Block} (h : ds[x]? = some dx) :
    parityQ (ds.set x 0) = parityQ ds ^^^ blkMul (gfPow x) dx := by
  rw [← updateQ_of_set h, block_xor_zero, updateQ]

/-- No coefficient of up to 30 data strips is 0. -/
theorem gfPow_ne_zero : ∀ x < 30, gfPow x ≠ 0 := by decide

/-- No two coefficients of up to 30 data strips are equal. -/
theorem gfPow_xor_ne_zero : ∀ y < 30, ∀ x < y, gfPow x ^^^ gfPow y ≠ 0 := by decide

/-- The solution of the two parity equations for the first of two strips (Table 3.5). -/
theorem solve_two_strips {a b : Nat} (ha : a < 256) (hb : b < 256) (hab : a ^^^ b ≠ 0) (dx dy : Block) :
    blkMul (gfInv (a ^^^ b)) (blkMul a dx ^^^ blkMul b dy ^^^ blkMul b (dx ^^^ dy)) = dx := by
  have hlhs : blkMul a dx ^^^ blkMul b dy ^^^ blkMul b (dx ^^^ dy) = blkMul (a ^^^ b) dx := by
    rw [blkMul_xor, xor_blkMul, BitVec.xor_comm (blkMul b dx), BitVec.xor_assoc, block_xor_cancel_left]
  rw [hlhs, blkMul_gfInv_blkMul (Nat.xor_lt_two_pow (n := 8) ha hb) hab]

/-- A column's erasures are its erased data strips, P and Q. -/
theorem erasures_eq (c : Column) :
    c.erasures = (erasedIdx 0 c.ds).length + (if c.p.isNone then 1 else 0) + (if c.q.isNone then 1 else 0) := by
  rw [Column.erasures, length_erasedIdx]

theorem recon_of_many {c : Column} (h : 2 < c.erasures) : c.recon = none := if_pos h

section
variable {ds : List Block} {c : Column} (hlen : c.ds.length = ds.length)
  (hagree : ∀ (i : Nat) (v : Block), c.ds[i]? = some (some v) → ds[i]? = some v)
  (hP : c.p = none ∨ c.p = some (parityP ds)) (hQ : c.q = none ∨ c.q = some (parityQ ds)) (htwo : c.erasures ≤ 2)
include hlen hagree hP hQ htwo

theorem recon_of_no_strip (h : erasedIdx 0 c.ds = []) : c.recon = some (ds, parityP ds, parityQ ds) := by
  have hfill : fillData [] 0 c.ds = ds := fillData_eq hlen hagree (by simp [h])
  rw [Column.recon, if_neg (Nat.not_lt.mpr htwo)]
  simp only [h, hfill]
  obtain hp | hp := hP <;> obtain hq | hq := hQ <;> simp [hp, hq]

/-- A strip from P, or from Q where P is erased too. -/
theorem recon_of_one_strip {x : Nat} (hsize : ds.length ≤ 30) (h : erasedIdx 0 c.ds = [x]) :
    c.recon = some (ds, parityP ds, parityQ ds) := by
  have hx : x < ds.length := erasedIdx_lt hlen (by simp [h])
  have hdx := List.getElem?_eq_getElem hx
  have hfill : fillData [(x, ds[x])] 0 c.ds = ds := fillData_eq hlen hagree (by simp [h, hx])
  have hmul : blkMul (gfInv (gfPow x)) (blkMul (gfPow x) ds[x]) = ds[x] :=
    blkMul_gfInv_blkMul (gfPow_lt x) (gfPow_ne_zero x (by omega)) ds[x]
  have hpk : parityP ds ^^^ parityP (c.ds.map (·.getD 0)) = ds[x] := by
    rw [known_of_one hlen hagree h, parityP_erase hdx, block_xor_cancel_left]
  have hqk : parityQ ds ^^^ parityQ (c.ds.map (·.getD 0)) = blkMul (gfPow x) ds[x] := by
    rw [known_of_one hlen hagree h, parityQ_erase hdx, block_xor_cancel_left]
  have hleft : c.p = some (parityP ds) ∨ c.q = some (parityQ ds) := by
    rw [erasures_eq, h] at htwo
    obtain hp | hp := hP <;> obtain hq | hq := hQ <;> simp_all
  rw [Column.recon, if_neg (Nat.not_lt.mpr htwo)]
  obtain hp | hp := hP
  · have hq := hleft.resolve_left (by simp [hp])
    simp only [h, hp, hq, Option.isSome_none, Bool.false_eq_true, if_false, Option.getD_some, Option.getD_none, hqk, hmul, hfill]
  · simp only [h, hp, Option.isSome_some, if_true, Option.getD_some, hpk, hfill]
    obtain hq | hq := hQ <;> rw [hq] <;> rfl

/-- Both strips of two from P and Q. -/
theorem recon_of_two_strips {x y : Nat} (hsize : ds.length ≤ 30) (h : erasedIdx 0 c.ds = [x, y]) :
    c.recon = some (ds, parityP ds, parityQ ds) := by
  have hx : x < ds.length := erasedIdx_lt hlen (by simp [h])
  have hy : y < ds.length := erasedIdx_lt hlen (by simp [h])
  have hxy : x < y := by simpa [h] using erasedIdx_pairwise 0 c.ds
  have hdx := List.getElem?_eq_getElem hx
  have hdy : (ds.set x 0)[y]? = some ds[y] := by rw [List.getElem?_set_ne (by omega), List.getElem?_eq_getElem hy]
  have hfill : fillData [(x, ds[x]), (y, ds[y])] 0 c.ds = ds := fillData_eq hlen hagree (by simp [h, hx, hy, Nat.ne_of_lt hxy])
  have hsolve := solve_two_strips (gfPow_lt x) (gfPow_lt y) (gfPow_xor_ne_zero y (by omega) x hxy) ds[x] ds[y]
  have hboth : c.p = some (parityP ds) ∧ c.q = some (parityQ ds) := by
    rw [erasures_eq, h] at htwo
    obtain hp | hp := hP <;> obtain hq | hq := hQ <;> simp_all
  obtain ⟨hp, hq⟩ := hboth
  have hpk : parityP ds ^^^ parityP (c.ds.map (·.getD 0)) = ds[x] ^^^ ds[y] := by
    rw [known_of_two hlen hagree h, parityP_erase hdy, parityP_erase hdx, BitVec.xor_assoc, block_xor_cancel_left]
  have hqk : parityQ ds ^^^ parityQ (c.ds.map (·.getD 0)) = blkMul (gfPow x) ds[x] ^^^ blkMul (gfPow y) ds[y] := by
    rw [known_of_two hlen hagree h, parityQ_erase hdy, parityQ_erase hdx, BitVec.xor_assoc, block_xor_cancel_left]
  rw [Column.recon, if_neg (Nat.not_lt.mpr htwo)]
  simp only [h, hp, hq, Option.getD_some, hpk, hqk, hsolve, block_xor_cancel_middle, hfill]

end

/-- Settles O12: the two syndromes are those of the erased strips alone, and the two equations have one solution. -/
theorem twoErasuresAreReconstructed : Obligations.TwoErasuresAreReconstructed := by
  intro ds c hsize hlen hagree hP hQ
  refine ⟨fun htwo => ?_, recon_of_many⟩
  match h : erasedIdx 0 c.ds with
  | [] => exact recon_of_no_strip hlen hagree hP hQ htwo h
  | [x] => exact recon_of_one_strip hlen hagree hP hQ htwo hsize h
  | [x, y] => exact recon_of_two_strips hlen hagree hP hQ htwo hsize h
  | x :: y :: z :: l =>
    rw [erasures_eq, h] at htwo
    simp only [List.length_cons] at htwo
    omega

end Sys2Proof.Machine
end

section
/-! SUPPORT. The layout of an array: the rotation of the roles (R56) and the places of a namespace's blocks (R57). -/

namespace Sys2Proof.Machine

/-! ### The rotation -/

/-- A remainder of less than two divisors. -/
theorem mod_of_lt_two_mul {x n : Nat} (h : x < 2 * n) : x % n = if x < n then x else x - n := by
  split
  · next hx => exact Nat.mod_eq_of_lt hx
  · next hx => rw [Nat.mod_eq_sub_mod (by omega), Nat.mod_eq_of_lt (by omega)]

theorem pMem_add (n st : Nat) : pMem n (st + n) = pMem n st := by rw [pMem, pMem, Nat.add_mod_right]

theorem qMem_add (n st : Nat) : qMem n (st + n) = qMem n st := by rw [qMem, qMem, pMem_add]

theorem dMem_add (n st i : Nat) : dMem n (st + n) i = dMem n st i := by rw [dMem, dMem, qMem_add]

section
variable {n : Nat} (hn : 4 ≤ n) (st : Nat)
include hn

theorem pMem_lt : pMem n st < n := by rw [pMem]; omega

theorem qMem_eq : qMem n st = if pMem n st + 1 < n then pMem n st + 1 else 0 := by
  have hp := pMem_lt hn st
  rw [qMem, mod_of_lt_two_mul (by omega)]
  split <;> omega

theorem qMem_lt : qMem n st < n := Nat.mod_lt _ (by omega)

theorem pMem_ne_qMem : pMem n st ≠ qMem n st := by
  rw [qMem_eq hn]
  split <;> omega

theorem dMem_eq {i : Nat} (hi : i < n - 2) :
    dMem n st i = if qMem n st + 1 + i < n then qMem n st + 1 + i else qMem n st + 1 + i - n := by
  have hq := qMem_lt hn st
  rw [dMem, mod_of_lt_two_mul (by omega)]

theorem dIdx_eq {m : Nat} (hm : m < n) :
    dIdx n st m = if m + n - qMem n st - 1 < n then m + n - qMem n st - 1 else m - qMem n st - 1 := by
  have hq := qMem_lt hn st
  rw [dIdx, show m + 2 * n - qMem n st - 1 = m + n - qMem n st - 1 + n by omega, Nat.add_mod_right, mod_of_lt_two_mul (by omega)]
  split <;> omega

/-- Data index `i` is on a member of its own, which holds nothing else. -/
theorem dMem_spec {i : Nat} (hi : i < n - 2) :
    dMem n st i < n ∧ dMem n st i ≠ pMem n st ∧ dMem n st i ≠ qMem n st ∧ dIdx n st (dMem n st i) = i := by
  have hp := pMem_lt hn st
  have hq := qMem_eq hn st
  have hd := dMem_eq hn st hi
  have hlt : dMem n st i < n := Nat.mod_lt _ (by omega)
  rw [dIdx_eq hn st hlt]
  grind

/-- A member that holds neither P nor Q holds one data index. -/
theorem dIdx_spec {m : Nat} (hm : m < n) (hp : m ≠ pMem n st) (hq : m ≠ qMem n st) :
    dIdx n st m < n - 2 ∧ dMem n st (dIdx n st m) = m ∧ (dIdx n st m + qMem n st + 1) % n = m := by
  have hplt := pMem_lt hn st
  have hqeq := qMem_eq hn st
  have hi := dIdx_eq hn st hm
  have hlt : dIdx n st m < n - 2 := by grind
  have hd : dMem n st (dIdx n st m) = m := by
    rw [dMem_eq hn st hlt]
    grind
  exact ⟨hlt, hd, by rw [show dIdx n st m + qMem n st + 1 = qMem n st + 1 + dIdx n st m by omega]; exact hd⟩

theorem pMem_eq_iff {m : Nat} (hm : m < n) : pMem n st = m ↔ st % n = n - 1 - m := by
  have hlt := Nat.mod_lt st (show 0 < n by omega)
  rw [pMem]
  omega

theorem qMem_eq_iff {m : Nat} (hm : m < n) : qMem n st = m ↔ st % n = if m = 0 then 0 else n - m := by
  have hlt := Nat.mod_lt st (show 0 < n by omega)
  rw [qMem_eq hn, pMem]
  split <;> split <;> omega

end

/-- In a run of `n` stripes each remainder comes once. -/
theorem exists_unique_mod_eq {n r : Nat} (hr : r < n) (a : Nat) : ∃ x < n, ∀ k < n, (a + k) % n = r ↔ k = x := by
  have ha := Nat.mod_lt a (show 0 < n by omega)
  have hmod (k : Nat) (hk : k < n) : (a + k) % n = if a % n + k < n then a % n + k else a % n + k - n := by
    rw [← Nat.mod_add_mod, mod_of_lt_two_mul (by omega)]
  refine ⟨if a % n ≤ r then r - a % n else r + n - a % n, by split <;> omega, fun k hk => ?_⟩
  rw [hmod k hk]
  split <;> split <;> omega

theorem length_filter_range_one {n x : Nat} {p : Nat → Bool} (hx : x < n) (hp : ∀ k < n, p k = true ↔ k = x) :
    ((List.range n).filter p).length = 1 := by
  have hfilter : (List.range n).filter p = (List.range n).filter (· == x) :=
    List.filter_congr fun k hk => by rw [Bool.eq_iff_iff, hp k (List.mem_range.mp hk), beq_iff_eq]
  rw [hfilter, ← List.count_eq_length_filter, List.count_range, if_pos hx]

theorem length_filter_range_ne_two {n x y : Nat} {p : Nat → Bool} (hx : x < n) (hy : y < n) (hxy : x ≠ y)
    (hp : ∀ k < n, p k = true ↔ k ≠ x ∧ k ≠ y) : ((List.range n).filter p).length = n - 2 := by
  have herase : (List.range n).filter p = ((List.range n).erase x).erase y := by
    rw [List.Nodup.erase_eq_filter (List.nodup_range.erase x), List.Nodup.erase_eq_filter List.nodup_range, List.filter_filter]
    exact List.filter_congr fun k hk => by rw [Bool.eq_iff_iff, hp k (List.mem_range.mp hk)]; simp [and_comm]
  rw [herase, List.length_erase_of_mem, List.length_erase_of_mem (List.mem_range.mpr hx), List.length_range]
  · omega
  · exact (List.mem_erase_of_ne hxy.symm).mpr (List.mem_range.mpr hy)

/-- The stripes of a run in which a member holds P and Q. -/
theorem exists_unique_roles {n m : Nat} (hn : 4 ≤ n) (hm : m < n) (a : Nat) : ∃ x < n, ∃ y < n, x ≠ y ∧
    (∀ k < n, pMem n (a + k) = m ↔ k = x) ∧ ∀ k < n, qMem n (a + k) = m ↔ k = y := by
  obtain ⟨x, hx, hP⟩ := exists_unique_mod_eq (show n - 1 - m < n by omega) a
  obtain ⟨y, hy, hQ⟩ := exists_unique_mod_eq (show (if m = 0 then 0 else n - m) < n by split <;> omega) a
  have hP' (k : Nat) (hk : k < n) : pMem n (a + k) = m ↔ k = x := (pMem_eq_iff hn _ hm).trans (hP k hk)
  have hQ' (k : Nat) (hk : k < n) : qMem n (a + k) = m ↔ k = y := (qMem_eq_iff hn _ hm).trans (hQ k hk)
  refine ⟨x, hx, y, hy, fun hxy => ?_, hP', hQ'⟩
  exact pMem_ne_qMem hn (a + x) (((hP' x hx).mpr rfl).trans ((hQ' x hx).mpr hxy).symm)

/-- Settles O8: the remainder of the stripe by `n` gives the members of P and Q, and each remainder comes once in a run. -/
theorem rolesRotateOverTheMembers : Obligations.RolesRotateOverTheMembers := by
  refine ⟨fun n st hn => ⟨rfl, rfl, pMem_lt hn st, qMem_lt hn st, pMem_ne_qMem hn st, pMem_add n st, qMem_add n st⟩,
    fun n st i hn hi => ?_, fun n st m hn hm hp hq => dIdx_spec hn st hm hp hq, fun n a m hn hm => ?_⟩
  · obtain ⟨hlt, hp, hq, hidx⟩ := dMem_spec hn st hi
    exact ⟨rfl, hlt, hp, hq, hidx, dMem_add n st i⟩
  · obtain ⟨x, hx, y, hy, hxy, hP, hQ⟩ := exists_unique_roles hn hm a
    refine ⟨length_filter_range_one hx fun k hk => ?_, length_filter_range_one hy fun k hk => ?_,
      length_filter_range_ne_two hx hy hxy fun k hk => ?_⟩
    · rw [decide_eq_true_iff, hP k hk]
    · rw [decide_eq_true_iff, hQ k hk]
    · rw [decide_eq_true_iff, Ne, Ne, hP k hk, hQ k hk]

/-! ### The places of a namespace's blocks -/

theorem strB_pos (s : State) (a : Nat) : 0 < strB s a := by
  rw [strB]
  exact Nat.mul_pos (by decide) (Nat.two_pow_pos _)

theorem perStripe_pos {s : State} {a : Nat} (hn : 3 ≤ memN s a) : 0 < perStripe s a :=
  Nat.mul_pos (strB_pos s a) (by rw [dataN]; omega)

section
variable {s : State} {ns : Ns} (hn : 3 ≤ memN s ns.array) (l : Nat)
include hn

/-- A block's place counted from the namespace's first stripe. -/
theorem placeOf_eq : placeOf s ns l = ⟨ns.base + l / perStripe s ns.array,
    l % perStripe s ns.array / strB s ns.array, l % perStripe s ns.array % strB s ns.array⟩ := by
  simp only [placeOf, Nat.mul_comm ns.base, Nat.mul_add_div (perStripe_pos hn), Nat.mul_add_mod]

/-- The offset within the stripe, from the data index and the column. -/
theorem placeOf_offset : (placeOf s ns l).idx * strB s ns.array + (placeOf s ns l).col = l % perStripe s ns.array := by
  rw [placeOf_eq hn, Nat.mul_comm, Nat.div_add_mod]

theorem placeOf_idx_lt : (placeOf s ns l).idx < dataN s ns.array := by
  rw [placeOf_eq hn]
  exact Nat.div_lt_of_lt_mul (Nat.mod_lt l (perStripe_pos hn))

/-- The place gives the block back. -/
theorem lbaOf_placeOf : lbaOf s ns (placeOf s ns l).stripe (placeOf s ns l).idx (placeOf s ns l).col = l := by
  rw [lbaOf, Nat.add_assoc, placeOf_offset hn, placeOf_eq hn, Nat.add_sub_cancel_left, Nat.div_add_mod']

/-- The stripe boundaries are the multiples of b × d. -/
theorem placeOf_first_iff : l % perStripe s ns.array = 0 ↔ (placeOf s ns l).idx = 0 ∧ (placeOf s ns l).col = 0 := by
  rw [← placeOf_offset hn, Nat.add_eq_zero_iff, Nat.mul_eq_zero, or_iff_left (Nat.ne_of_gt (strB_pos s ns.array))]

/-- A block below NSZE lies in one of the ceil(NSZE ÷ (b × d)) stripes (R59). -/
theorem placeOf_stripe_lt {z : Nat} (hz : l < z) :
    (placeOf s ns l).stripe < ns.base + (z + perStripe s ns.array - 1) / perStripe s ns.array := by
  have hceil : (l + perStripe s ns.array) / perStripe s ns.array ≤ (z + perStripe s ns.array - 1) / perStripe s ns.array :=
    Nat.div_le_div_right (by omega)
  rw [Nat.add_div_right l (perStripe_pos hn)] at hceil
  rw [placeOf_eq hn]
  exact Nat.add_lt_add_left hceil ns.base

end

/-- Settles O9: a block's offset in its stripe and the stripe give the block back. -/
theorem blocksMapToMembers : Obligations.BlocksMapToMembers := by
  refine ⟨fun s ns l hn b d p hb hd hp => ?_, fun s ns hn => ?_, fun s ns l l' hn h => ?_⟩
  · subst hb hd hp
    have hstripe : ns.base ≤ (placeOf s ns l).stripe := by
      rw [placeOf_eq hn]
      exact Nat.le_add_right _ _
    exact ⟨rfl, rfl, rfl, placeOf_idx_lt hn l, Nat.mod_lt _ (strB_pos s ns.array), hstripe, lbaOf_placeOf hn l, placeOf_first_iff hn l,
      placeOf_stripe_lt hn l, rfl, rfl⟩
  · rw [placeOf_eq hn, Nat.zero_div, Nat.zero_mod, Nat.zero_div, Nat.zero_mod, Nat.add_zero]
  · rw [← lbaOf_placeOf hn l, h, lbaOf_placeOf hn l']

end Sys2Proof.Machine
end

section
/-! SUPPORT. Namespaces: free indexes and stripes (R57, R59), and the mailbox commands that create and delete a namespace (R59, R60, R289). -/

namespace Sys2Proof.Machine

/-! ### Free indexes and stripes -/

/-- The lowest free index: no namespace has it, and one has each index below. -/
theorem freeIndex_spec {s : State} {x : Nat} (h : freeIndex s = some x) :
    x < nsMax ∧ (∀ n ∈ s.ns, n.idx ≠ x) ∧ ∀ y < x, ∃ n ∈ s.ns, n.idx = y := by
  obtain ⟨hfree, hx, hbelow⟩ := List.find?_range_eq_some.mp h
  refine ⟨List.mem_range.mp hx, by simpa using hfree, fun y hy => by simpa using hbelow y hy⟩

/-- Free stripes are in no namespace of the array. -/
theorem stripesFree_disjoint {s : State} {a b n : Nat} (h : stripesFree s a b n = true) {x : Ns} (hx : x ∈ s.ns) (hxa : x.array = a)
    {st : Nat} (hlo : x.base ≤ st) (hhi : st < x.base + x.stripes) : ¬ (b ≤ st ∧ st < b + n) := by
  simp only [stripesFree, Bool.and_eq_true, List.all_eq_true, Bool.or_eq_true, decide_eq_true_eq] at h
  obtain ⟨_, hall⟩ := h
  have := hall x hx
  omega

/-- The lowest BASE is one of those at which the stripes are free. -/
theorem stripesFree_of_lowestBase {s : State} {a n b : Nat} (h : lowestBase s a n = some b) : stripesFree s a b n = true := by
  refine (mem_of_foldl_choice (fun m x => ?_) h).elim (fun hmem => (List.mem_filter.mp hmem).2) fun hnone => nomatch hnone
  match m with
  | none => exact .inl rfl
  | some y =>
    obtain hle | hle := Nat.le_total y x
    · exact .inr (congrArg some (Nat.min_eq_left hle))
    · exact .inl (congrArg some (Nat.min_eq_right hle))

/-! ### Notices and replies -/

theorem State.each_field {α β : Type} (g : State → β) {f : State → α → State} (hf : ∀ s x, g (f s x) = g s) (s : State) (l : List α) :
    g (s.each l f) = g s := by
  induction l generalizing s with
  | nil => rfl
  | cons x xs ih => exact (ih (f s x)).trans (hf s x)

@[simp] theorem postAen_ns (c d : Nat) (s : State) : (postAen c d s).ns = s.ns := by
  unfold postAen
  split
  · split
    · rfl
    · split
      · rw [cqe_ns, State.modCtrl_ns]
      · rfl
  · rfl

@[simp] theorem postAen_nv (c d : Nat) (s : State) : (postAen c d s).nv = s.nv := by
  unfold postAen
  split
  · split
    · rfl
    · split
      · rw [cqe_nv, State.modCtrl_nv]
      · rfl
  · rfl

theorem noticeNs_ns (s : State) : (noticeNs s).ns = s.ns := by
  unfold noticeNs notice
  exact State.each_field State.ns (fun s (c : Ctrl) => postAen_ns c.id _ s) s _

theorem noticeNs_nv (s : State) : (noticeNs s).nv = s.nv := by
  unfold noticeNs notice
  exact State.each_field State.nv (fun s (c : Ctrl) => postAen_nv c.id _ s) s _

/-- A reply changes no namespace and nothing in the Gondola. -/
theorem replyTo_ns_nv (h : MbxHdr) (op code d : Nat) (pl : List Nat) (s : State) :
    (replyTo h op code d pl s).ns = s.ns ∧ (replyTo h op code d pl s).nv = s.nv := by
  unfold replyTo
  split
  · exact ⟨rfl, rfl⟩
  · cases h.src with
    | mctp ep l => exact ⟨rfl, rfl⟩
    | bank b => by_cases hc : code = eOk <;> simp [hc]

theorem mbxOk_ns_nv (h : MbxHdr) (op : Nat) (s : State) : (mbxOk h op s).ns = s.ns ∧ (mbxOk h op s).nv = s.nv :=
  replyTo_ns_nv h op eOk 0 [] _

/-- A header with a reader gets its reply. -/
theorem replied_mbxOk {h : MbxHdr} (hr : h.resvBad = false) (op : Nat) (s : State) : Replied h op eOk (mbxOk h op s) := by
  unfold Replied mbxOk mbxReply replyTo
  rw [hr]
  cases h.src with
  | mctp ep l => exact List.mem_cons_self
  | bank b => exact List.mem_cons_self

/-! ### Create -/

/-- The meanings of `NS_CREATE` and `NS_DELETE` (R59, R60). -/
theorem exec_nsCreate (h : MbxHdr) (a flags lbaf nsze base : Nat) (s : State) :
    exec (.nsCreate h a flags lbaf nsze base) s = live s (mbxArrive h (.nsCreate a flags lbaf nsze base) s) := rfl

theorem exec_nsDelete (h : MbxHdr) (nsid : Nat) (s : State) : exec (.nsDelete h nsid) s = live s (mbxArrive h (.nsDelete nsid) s) := rfl

/-- A namespace that has an index and a place is created. -/
theorem nsCreateGo_of_place {a flags lbaf nsze base x b n : Nat} {h : MbxHdr} {u : State} (hflags : flags ≤ 1)
    (hlbaf : lbaf = 0 ∨ (lbaf = 1 ∧ u.on (R.STR_An_GEOM_META a) = true)) (hon : arrOn u a = true) (hf : arrState u a ≠ aFailed)
    (ho : arrState u a ≠ aOffline) (hx : freeIndex u = some x) (hz : nsze ≠ 0) (hn : n = (nsze + perStripe u a - 1) / perStripe u a)
    (hb : flags = 1 ∧ base = b ∧ stripesFree u a b n = true ∨ flags = 0 ∧ lowestBase u a n = some b)
    {v : Ns} (hv : v = ⟨x, systemNsid u x, newNguid u x, a, b, n, nsze, lbaf⟩) {w : State} (hw : w = rangeGone a b n true u) :
    nsCreateGo a flags lbaf nsze base h u =
      mbxReply h 0x0201 eOk 0 (leBytes 2 x ++ [0, 0] ++ leBytes 4 v.nsid ++ (leBytes 16 v.nguid).reverse)
        (noticeNs { w with ns := w.ns ++ [v], nv.nsTable := w.nv.nsTable ++ [v] }) := by
  have hmeta : ¬ (lbaf = 1 ∧ ¬ u.on (R.STR_An_GEOM_META a) = true) := by grind
  have hplace : (if bit flags 0 then (if stripesFree u a base n then some base else none) else lowestBase u a n) = some b := by
    obtain ⟨rfl, rfl, hfree⟩ | ⟨rfl, hlow⟩ := hb
    · simp [bit, hfree]
    · simp [bit, hlow]
  subst hn hv hw
  unfold nsCreateGo
  simp only [hon, hf, ho, hx, hz, hmeta, hplace, not_true_eq_false, or_self, if_false]

/-! ### Delete -/

theorem nsDeleteGo_of_none {u : State} {nsid : Nat} (h : u.ns.find? (fun n => n.nsid = nsid) = none) (q : MbxHdr) :
    nsDeleteGo nsid q u = mbxErr q 0x0202 eField u := by
  rw [nsDeleteGo, h]

theorem nsDeleteGo_of_some {u : State} {nsid : Nat} {n : Ns} (h : u.ns.find? (fun n => n.nsid = nsid) = some n)
    (hf : formatting u n.idx = false) (hg : u.ce.nsGone.any (fun p => p.2 = n.idx) = false) (q : MbxHdr) :
    nsDeleteGo nsid q u = nsDeletePoll { u with ce.nsGone := u.ce.nsGone ++ [(q, n.idx)] } := by
  rw [nsDeleteGo, h]
  simp only [hf, hg]
  rfl

/-- A deletion that waits alone and finds nothing outstanding completes. -/
theorem nsDeletePoll_of_idle {s : State} {h : MbxHdr} {n : Ns} (hgone : s.ce.nsGone = [(h, n.idx)]) (hn : nsAt s n.idx = some n)
    (hc : s.ce.ctxs.any (fun c => c.ns = n.idx || c.nsid = 0xFFFFFFFF) = false) (hr : rangeIdle s n.array n.base n.stripes = true) :
    nsDeletePoll s = mbxOk h 0x0202 (nsRemove n { s with ce.nsGone := [] }) := by
  have hbusy : ¬ (s.ce.ctxs.any (fun c => c.ns = n.idx || c.nsid = 0xFFFFFFFF) = true ∨ ¬ rangeIdle s n.array n.base n.stripes = true) := by
    rw [hc, hr]
    decide
  have hnone : s.ce.nsGone.filter (· ≠ (h, n.idx)) = [] := by simp [hgone]
  rw [nsDeletePoll, hgone, State.each, List.foldl_cons, List.foldl_nil]
  simp only [hn, if_neg hbusy, hnone]

theorem nsRemove_ns_nv (n : Ns) (s : State) : (∀ x ∈ (nsRemove n s).ns, x.idx ≠ n.idx) ∧ ∀ x ∈ (nsRemove n s).nv.nsTable, x.idx ≠ n.idx := by
  rw [nsRemove, noticeNs_ns, noticeNs_nv]
  exact ⟨fun x hx => of_decide_eq_true (List.mem_filter.mp hx).2, fun x hx => of_decide_eq_true (List.mem_filter.mp hx).2⟩

theorem gives_nsDelete {s t : State} {h : MbxHdr} {nsid : Nat} (hr : MbxReady h s) (hlen : h.len = 4) (hact : notActive s = false)
    (hgo : nsDeleteGo nsid h (mbxTaken h 0x0202 s) = t) : Gives (.nsDelete h nsid) s t :=
  Gives.mbx hr (exec_nsDelete h nsid s) (fun _ => rfl) (by simp [plainSpec, hlen]) rfl rfl (fun ht => nomatch ht) rfl (fun _ => hact) hgo

/-- After a deletion has completed, its sender has its reply and no namespace has the index. -/
theorem deleted_settle {h : MbxHdr} (hr : h.resvBad = false) (n : Ns) (s : State) :
    Replied h 0x0202 eOk (settle (mbxOk h 0x0202 (nsRemove n s))) ∧
    (∀ x ∈ (settle (mbxOk h 0x0202 (nsRemove n s))).ns, x.idx ≠ n.idx) ∧
    ∀ x ∈ (settle (mbxOk h 0x0202 (nsRemove n s))).nv.nsTable, x.idx ≠ n.idx := by
  obtain ⟨hns, hnv⟩ := mbxOk_ns_nv h 0x0202 (nsRemove n s)
  rw [settle_ns, settle_nv, hns, hnv]
  exact ⟨settle_mem (replied_mbxOk hr 0x0202 _), nsRemove_ns_nv n s⟩

/-- Settles O59: both commands pass the mailbox's checks and are served in the state in which they have been taken. -/
theorem namespacesComeAndGo : Obligations.NamespacesComeAndGo := by
  refine ⟨fun s h a flags lbaf nsze base x b u hr hlen ha hflags hlbaf hact hu hon hf ho hx hz n hn hb v hv w hw => ?_,
    fun s x => freeIndex_spec, fun s a n b => stripesFree_of_lowestBase,
    fun s a b n hfree x hx hxa st hlo hhi => stripesFree_disjoint hfree hx hxa hlo hhi,
    fun s h nsid n u hr hlen hact hu hfind hf hg => ?_, fun s h nsid u hr hlen hact hu hfind => ?_,
    fun s h nsid n u hr hlen hact hu hfind hn hf hg hc hidle => ?_,
    fun s h n => nsDeletePoll_of_idle, fun s n => (nsRemove_ns_nv n s).2⟩
  · have hfield : (decide (1 < flags) || decide (1 < lbaf)) = false := by
      rw [Bool.or_eq_false_iff, decide_eq_false_iff_not, decide_eq_false_iff_not]
      omega
    exact Gives.mbx hr (exec_nsCreate h a flags lbaf nsze base s) (fun _ => rfl) (decide_eq_true hlen) hfield
      (decide_eq_false (Nat.not_lt.mpr ha)) (fun ht => nomatch ht) rfl (fun _ => hact)
      (hu ▸ nsCreateGo_of_place hflags hlbaf hon hf ho hx hz hn hb hv hw)
  · exact gives_nsDelete hr hlen hact (hu ▸ nsDeleteGo_of_some hfind hf hg h)
  · exact gives_nsDelete hr hlen hact (hu ▸ nsDeleteGo_of_none hfind h)
  · have ⟨_, _, hreader, _⟩ := hr
    have hpoll : nsDeleteGo nsid h u = mbxOk h 0x0202 (nsRemove n { u with ce.nsGone := [] }) := by
      rw [nsDeleteGo_of_some hfind hf (by rw [hg]; rfl)]
      exact nsDeletePoll_of_idle (by rw [hg]; rfl) hn hc hidle
    exact ⟨_, gives_nsDelete hr hlen hact (hu ▸ hpoll), deleted_settle hreader n _⟩

end Sys2Proof.Machine
end

section
/-! SUPPORT. A wait that ends in another one: a write that the dirty limit held back is admitted in a state in which `PageReady` holds,
and waits for a staging line (R174, R190, R205). -/

namespace Sys2Proof.Machine

/-- The meaning of `BASKET_ADMIT` (R205). -/
theorem exec_basketAdmit (s : State) : exec .basketAdmit s = live s (doBasketAdmit s) := rfl

/-- The write of block 0 whose page waited for the dirty limit. -/
def stagedCtx : Ctx :=
  ⟨3, stagedHdr, .write, 1, 1, 0, 1, [0], noFlags, .basket, [], [], false, [(0, 1)], [], [], [], [], false, 0, [], 0, [], some 0⟩

/-- The staging lines of `stagedSet` at their busy limit, with one write waiting for its page. -/
def stagedWait : State := { stagedSet with ce.ctxs := [stagedCtx] }

/-- One block can be committed at once as far as `PageReady` asks. -/
theorem stagedWait_pageReady : PageReady stagedWait stagedNs 0 := by
  unfold PageReady
  decide

theorem stagedWait_partLeft : PartLeft stagedWait stagedNs stagedCtx 0 0 :=
  ⟨rfl, rfl, rfl, rfl, rfl, rfl, rfl, rfl, rfl, rfl, rfl, rfl⟩

/-- Admitted, the write waits for a line, and the write store holds nothing. -/
theorem doBasketAdmit_stagedWait_waits :
    (doBasketAdmit stagedWait).ce.ctxs.map (·.phase) = [.alloc] ∧ (doBasketAdmit stagedWait).bsk.extents = [] := by decide

/-- Refutes O24: a write of which one part is left, admitted with the set of its page at the busy limit of R174, waits again for a line. -/
theorem not_waitsEndInOrder : ¬ Obligations.WaitsEndInOrder := by
  intro h
  obtain ⟨_, _, _, _, _, _, _, _, _, _, hpart, _⟩ := h
  have hadmit := (hpart stagedWait stagedCtx stagedNs 0 0 (by decide) stagedWait_pageReady stagedWait_partLeft _ rfl).1
  obtain ⟨t, ht, hread, _⟩ := hadmit rfl
  rw [exec_basketAdmit, live_on (by decide)] at ht
  injection ht with ht
  rw [← ht, bskRead, bskFind, settle_bsk, doBasketAdmit_stagedWait_waits.2] at hread
  cases hread

end Sys2Proof.Machine
end

section
/-! SUPPORT. Lists, arrays and drives under the named updates: folds that keep a part of the state, the array that is changed and the others,
the entries of a sparse map. -/

namespace Sys2Proof.Machine

/-! ### Folds -/

/-- A fold whose steps keep a part keeps the part. -/
theorem foldl_field {α β γ : Type} (g : β → γ) {f : β → α → β} (hf : ∀ b x, g (f b x) = g b) (b : β) (l : List α) :
    g (l.foldl f b) = g b := by
  induction l generalizing b with
  | nil => rfl
  | cons x l ih => exact (ih (f b x)).trans (hf b x)

/-- What one element's step establishes and every step keeps holds after the fold. -/
theorem foldl_of_mem {α β : Type} {Q : β → Prop} {f : β → α → β} (hkeep : ∀ b y, Q b → Q (f b y)) {x : α}
    (hset : ∀ b, Q (f b x)) {l : List α} (hx : x ∈ l) (b : β) : Q (l.foldl f b) := by
  induction l generalizing b with
  | nil => cases hx
  | cons y l ih =>
    rcases List.mem_cons.mp hx with rfl | hx
    · exact List.foldlRecOn l f (hset b) fun b h y _ => hkeep b y h
    · exact ih hx (f b y)

/-- A step that changes nothing for any element of the list changes nothing. -/
theorem State.each_of_fixed {α : Type} {s : State} {f : State → α → State} {l : List α} (h : ∀ x ∈ l, f s x = s) : s.each l f = s := by
  induction l with
  | nil => rfl
  | cons x l ih =>
    obtain ⟨hx, hl⟩ := List.forall_mem_cons.mp h
    exact (congrArg (fun t : State => t.each l f) hx).trans (ih hl)

/-! ### Arrays -/

theorem modAt_nil {α : Type} (i : Nat) (f : α → α) : modAt i f [] = [] := by
  cases i <;> rfl

theorem modAt_congr {α : Type} {f g : α → α} {d : α} {i : Nat} {l : List α} (h : f (l.getD i d) = g (l.getD i d)) :
    modAt i f l = modAt i g l := by
  induction l generalizing i with
  | nil => rw [modAt_nil, modAt_nil]
  | cons x l ih =>
    cases i with
    | zero => exact congrArg (· :: l) h
    | succ i => exact congrArg (x :: ·) (ih h)

theorem modAt_id {α : Type} (i : Nat) (l : List α) : modAt i id l = l := by
  induction l generalizing i with
  | nil => exact modAt_nil i id
  | cons x l ih =>
    cases i with
    | zero => rfl
    | succ i => exact congrArg (x :: ·) (ih i)

/-- What a change of one element keeps of it, it keeps of every element. -/
theorem getD_modAt_field {α β : Type} (g : α → β) {f : α → α} (hf : ∀ x, g (f x) = g x) (d : α) (i j : Nat) (l : List α) :
    g ((modAt i f l).getD j d) = g (l.getD j d) := by
  induction l generalizing i j with
  | nil => rw [modAt_nil]
  | cons x l ih =>
    cases i with
    | zero =>
      cases j with
      | zero => exact hf x
      | succ j => rfl
    | succ i =>
      cases j with
      | zero => rfl
      | succ j => exact ih i j

theorem getD_modAt_ne {α : Type} (f : α → α) (d : α) {i j : Nat} (h : j ≠ i) (l : List α) : (modAt i f l).getD j d = l.getD j d := by
  induction l generalizing i j with
  | nil => rw [modAt_nil]
  | cons x l ih =>
    cases i with
    | zero =>
      cases j with
      | zero => exact absurd rfl h
      | succ j => rfl
    | succ i =>
      cases j with
      | zero => rfl
      | succ j => exact ih fun e => h (congrArg Nat.succ e)

/-- What a change writes stands in the element, also where there is none to change and the default holds it. -/
theorem getD_modAt_of_default {α β : Type} (g : α → β) {f : α → α} {d : α} {v : β} (hf : ∀ x, g (f x) = v) (hd : g d = v) (i : Nat)
    (l : List α) : g ((modAt i f l).getD i d) = v := by
  induction l generalizing i with
  | nil => rw [modAt_nil]; exact hd
  | cons x l ih =>
    cases i with
    | zero => exact hf x
    | succ i => exact ih i

section
variable {s : State} {a : Nat}

/-- Two changes that agree on the array as it stands are one. -/
theorem State.modArr_congr {f g : Arr → Arr} (h : f (s.arr a) = g (s.arr a)) : s.modArr a f = s.modArr a g := by
  rw [State.modArr, modAt_congr (d := Arr.none) h, State.modArr]

/-- A change that leaves the array as it stands changes nothing. -/
theorem State.modArr_of_fixed {f : Arr → Arr} (h : f (s.arr a) = s.arr a) : s.modArr a f = s := by
  rw [State.modArr_congr (g := id) h, State.modArr, modAt_id]

/-- The arrays that are not changed. -/
theorem arr_modArr_ne {b : Nat} (h : b ≠ a) (f : Arr → Arr) : (s.modArr a f).arr b = s.arr b := getD_modAt_ne f Arr.none h s.arrs

/-- What a change keeps of the array that it changes, it keeps of every array. -/
theorem arr_modArr_field {β : Type} (g : Arr → β) {f : Arr → Arr} (hf : ∀ r, g (f r) = g r) (b : Nat) :
    g ((s.modArr a f).arr b) = g (s.arr b) := getD_modAt_field g hf Arr.none a b s.arrs

end

/-- What an array holds depends on the arrays alone. -/
theorem arr_congr {s t : State} (h : t.arrs = s.arrs) (a : Nat) : t.arr a = s.arr a := by rw [State.arr, h, State.arr]

/-! ### Entries of a sparse map -/

theorem SMap.mem_erase {α : Type} {k : Nat} {e : Nat × α} {m : SMap α} (h : e ∈ SMap.erase k m) : e ∈ m := by
  induction m with
  | nil => exact h
  | cons x m ih =>
    unfold SMap.erase at h
    split at h
    · exact List.mem_cons_of_mem _ (ih h)
    · rcases List.mem_cons.mp h with rfl | h
      · exact List.mem_cons_self
      · exact List.mem_cons_of_mem _ (ih h)

theorem SMap.mem_insert {α : Type} {k : Nat} {v : α} {e : Nat × α} {m : SMap α} (h : e ∈ SMap.insert k v m) : e = (k, v) ∨ e ∈ m := by
  induction m with
  | nil => exact .inl (List.mem_singleton.mp h)
  | cons x m ih =>
    unfold SMap.insert at h
    split at h
    · exact (List.mem_cons.mp h)
    · rcases List.mem_cons.mp h with rfl | h
      · exact .inr List.mem_cons_self
      · exact (ih h).imp_right (List.mem_cons_of_mem _)

/-- A write lists the entry that it writes and what was listed before. -/
theorem SMap.mem_set {α : Type} [DecidableEq α] {d : α} {k : Nat} {v : α} {e : Nat × α} {m : SMap α} (h : e ∈ SMap.set d k v m) :
    e = (k, v) ∨ e ∈ m := by
  unfold SMap.set at h
  split at h
  · exact .inr (SMap.mem_erase h)
  · exact (SMap.mem_insert h).imp_right SMap.mem_erase

end Sys2Proof.Machine
end

section
/-! SUPPORT. The Gondola: its checkpoints and SEALs, tail copies, the region map, MRAM errors (R81, R90, R107, R108). -/

namespace Sys2Proof.Machine

/-- The meanings of the Gondola's commands. -/
theorem exec_tailCopyCheckpoint (s : State) : exec .tailCopyCheckpoint s = live s (doTailCopyCheckpoint s) := rfl

theorem exec_tailCopyDone (a n : Nat) (s : State) : exec (.tailCopyDone a n) s = live s (doTailCopyDone a n s) := rfl

theorem exec_sealCheckpoint (s : State) : exec .sealCheckpoint s = live s (doSealCheckpoint s) := rfl

theorem exec_forceTail (s : State) : exec .forceTail s = live s (doForceTail s) := rfl

theorem exec_mramCe (n : Nat) (s : State) : exec (.mramCe n) s = live s (doMramCe n s) := rfl

theorem exec_mramUe (w : MramWhere) (s : State) : exec (.mramUe w) s = live s (doMramUe w s) := rfl

theorem exec_regionMapUpdateDone (a r : Nat) (s : State) :
    exec (.regionMapUpdateDone a r) s = live s (doRegionMapUpdateDone a r s) := rfl

/-! ### Records -/

theorem putRec_arrs (e : Nat) (b : RecBody) (c : Bool) (o : Nat) (s : State) : (putRec e b c o s).arrs = s.arrs := by
  unfold putRec
  dsimp only
  split <;> rfl

theorem putRec_jrn (e : Nat) (b : RecBody) (c : Bool) (o : Nat) (s : State) :
    (putRec e b c o s).jrn = { s.jrn with nextSeq := s.jrn.nextSeq + 1 } := by
  unfold putRec
  dsimp only
  split <;> rfl

/-- The records in the ring after one more: the new one, with the next SEQ, and records that were there. -/
theorem mem_ringRecs_putRec {e o : Nat} {b : RecBody} {c : Bool} {s : State} {r : Rec} (h : r ∈ ringRecs (putRec e b c o s)) :
    r.seq = s.jrn.nextSeq ∨ r ∈ ringRecs s := by
  have hring : (putRec e b c o s).nv.ring =
      SMap.set none (s.jrn.nextSeq % ringSlots) (some ⟨s.jrn.nextSeq, s.unit, e, c, false, o, true, b⟩) s.nv.ring := by
    unfold putRec
    dsimp only
    split <;> rfl
  rw [ringRecs, hring] at h
  obtain ⟨x, hx, hxr⟩ := List.mem_filterMap.mp h
  rcases SMap.mem_set hx with rfl | hx
  · exact .inl (congrArg Rec.seq (Option.some.inj hxr)).symm
  · exact .inr (List.mem_filterMap.mpr ⟨x, hx, hxr⟩)

/-- A needed record is a record of the ring (R84). -/
theorem mem_ringRecs_of_needed {s : State} {r : Rec} (h : r ∈ neededRecs s) : r ∈ ringRecs s := by
  refine List.foldlRecOn (motive := fun acc : List Rec => ∀ x ∈ acc, x ∈ ringRecs s) _ _ (List.forall_mem_nil _)
    (fun acc hacc y hy x hx => ?_) r h
  rcases List.mem_append.mp hx with hx | hx
  · exact hacc x (List.mem_filter.mp hx).1
  · rcases List.mem_cons.mp hx with rfl | hx
    · exact (List.mem_filter.mp hy).1
    · exact hacc x (List.mem_filter.mp hx).1

/-- With every record within 172,032 slots of the head none is carried (R85). -/
theorem carryOld_of_near {s : State} (h : ∀ r ∈ ringRecs s, s.jrn.nextSeq ≤ r.seq + 172032) : carryOld s = s :=
  State.each_of_fixed fun r hr => if_neg (by have := h r (mem_ringRecs_of_needed hr); omega)

theorem carryOld_arrs (s : State) : (carryOld s).arrs = s.arrs := by
  refine State.each_field State.arrs (fun s (r : Rec) => ?_) s _
  split
  · exact putRec_arrs _ _ _ _ s
  · rfl

theorem ringLowCheck_arrs (s : State) : (ringLowCheck s).arrs = s.arrs := by
  unfold ringLowCheck
  split
  · split <;> rfl
  · rfl

theorem ringLowCheck_seal (s : State) :
    (ringLowCheck s).jrn.sealUpto = s.jrn.sealUpto ∧ (ringLowCheck s).jrn.sealSeq = s.jrn.sealSeq := by
  unfold ringLowCheck
  split
  · split <;> exact ⟨rfl, rfl⟩
  · exact ⟨rfl, rfl⟩

/-- A record changes no array. -/
theorem record_arrs (b : RecBody) (s : State) : (record b s).arrs = s.arrs :=
  (ringLowCheck_arrs _).trans ((carryOld_arrs _).trans (putRec_arrs _ _ _ _ s))

/-- A record that makes the device carry none leaves the newest SEAL. -/
theorem record_seal_of_near {s : State} (h : ∀ r ∈ ringRecs s, s.jrn.nextSeq < r.seq + 172032) (b : RecBody) :
    (record b s).jrn.sealUpto = s.jrn.sealUpto ∧ (record b s).jrn.sealSeq = s.jrn.sealSeq := by
  have hnear : ∀ r ∈ ringRecs (putRec s.tet.epoch b false 0 s), (putRec s.tet.epoch b false 0 s).jrn.nextSeq ≤ r.seq + 172032 := by
    intro r hr
    rw [putRec_jrn]
    rcases mem_ringRecs_putRec hr with hr | hr
    · simp only [hr]
      omega
    · exact h r hr
  obtain ⟨hupto, hseq⟩ := ringLowCheck_seal (putRec s.tet.epoch b false 0 s)
  rw [record, carryOld_of_near hnear, hupto, hseq, putRec_jrn]
  exact ⟨rfl, rfl⟩

/-! ### SEALs -/

theorem sealDue_of_none {s : State} (he : s.tet.epoch % 16 = 0) (h : SMap.get none (s.jrn.sealSeq % ringSlots) s.nv.ring = none) :
    sealDue s = true := by
  simp [sealDue, h, he]

theorem sealDue_of_newest {s : State} {r : Rec} (h : SMap.get none (s.jrn.sealSeq % ringSlots) s.nv.ring = some r)
    (hr : r.seq = s.jrn.sealSeq) (he : r.epoch / 16 < s.tet.epoch / 16) : sealDue s = true := by
  simp [sealDue, h, Option.filter, hr, he]

theorem doSealCheckpoint_of_due {s : State} (hready : s.ready = true) (hj : journals s = true) (hdue : sealDue s = true) :
    doSealCheckpoint s = sealNow s := if_pos ⟨hready, hj, hdue⟩

theorem doSealCheckpoint_of_not_due {s : State} (h : sealDue s = false) : doSealCheckpoint s = s := by
  simp [doSealCheckpoint, h]

theorem bskRelease_jrn (e : Extent) (s : State) : (bskRelease e s).jrn = s.jrn := rfl

/-- The release of sealed extents changes nothing in the journal. -/
theorem releaseSealed_jrn (q : Nat) (s : State) : (releaseSealed q s).jrn = s.jrn :=
  State.each_field State.jrn (fun s e => bskRelease_jrn e s) s _

/-- The SEAL names the SEQs before it and is the newest one (R90). -/
theorem sealNow_seal {s : State} (h : ∀ r ∈ ringRecs s, r.seq < s.jrn.nextSeq ∧ s.jrn.nextSeq < r.seq + 172032) :
    (sealNow s).jrn.sealUpto = s.jrn.nextSeq - 1 ∧ (sealNow s).jrn.sealSeq = s.jrn.nextSeq := by
  have hrec := record_seal_of_near
    (s := { indexClean s with jrn.sealUpto := s.jrn.nextSeq - 1, jrn.sealSeq := s.jrn.nextSeq }) (fun r hr => (h r hr).2)
    (.ckpt 0 (s.jrn.nextSeq - 1) 0 0 0)
  have hjrn : (sealNow s).jrn = (record (.ckpt 0 (s.jrn.nextSeq - 1) 0 0 0)
      { indexClean s with jrn.sealUpto := s.jrn.nextSeq - 1, jrn.sealSeq := s.jrn.nextSeq }).jrn := releaseSealed_jrn _ _
  rw [hjrn]
  exact hrec

/-! ### Tail copies -/

theorem doTailCopyDone_of_job {s : State} {a : Nat} {t : Tail} {ms : List Nat} {sched : Bool}
    (h : (s.arr a).tailJob = some (t, ms, sched)) (hj : journals s = true) (n : Nat) :
    doTailCopyDone a n s = tailEnd a t (ms.take n) sched s := by
  simp [doTailCopyDone, h, hj]

/-- A tail copy that has ended is no longer in progress. -/
theorem tailEnd_tailJob (a : Nat) (t : Tail) (ms : List Nat) (sched : Bool) (s : State) :
    ((tailEnd a t ms sched s).arr a).tailJob = none := by
  unfold tailEnd
  dsimp only
  generalize State.each s ms _ = u
  have hend : ∀ b : RecBody, ((record b (u.modArr a fun r => { r with tailJob := none })).arr a).tailJob = none := fun b => by
    rw [arr_congr (record_arrs b _)]
    exact getD_modAt_of_default Arr.tailJob (v := none) (by exact fun _ => rfl) rfl a u.arrs
  split <;> split <;> exact hend _

/-! ### The region map -/

/-- The mark of a region in the array's own copy of the region map. -/
def regionNoted (a r : Nat) (s : State) : State := s.modArr a fun x =>
  { x with regionGen := (s.arr a).regionGen + 1, regions := (r, s.tet.epoch / 1024) :: x.regions.filter fun p => p.1 ≠ r }

/-- The header rewrites of a region's mark change the drives alone. -/
theorem regionSet_field {β : Type} (g : State → β) (hg : ∀ (s : State) d f, g (s.modDrive d f) = g s) (a r : Nat) (s : State) :
    g (regionSet a r s) = g (regionNoted a r s) := State.each_field g (fun s _ => hg s _ _) (regionNoted a r s) _

theorem regionSet_arr (a r : Nat) (s : State) (b : Nat) : (regionSet a r s).arr b = (regionNoted a r s).arr b :=
  regionSet_field (fun s => s.arr b) (fun s d f => modDrive_arr s d f b) a r s

@[simp] theorem regionSet_regs (a r : Nat) (s : State) : (regionSet a r s).regs = s.regs :=
  regionSet_field State.regs State.modDrive_regs a r s

@[simp] theorem regionSet_ce (a r : Nat) (s : State) : (regionSet a r s).ce = s.ce :=
  regionSet_field State.ce State.modDrive_ce a r s

@[simp] theorem regionSet_pair (a r : Nat) (s : State) : (regionSet a r s).pair = s.pair :=
  regionSet_field State.pair State.modDrive_pair a r s

theorem mirroring_congr {s t : State} (hr : t.regs = s.regs) (hp : t.pair = s.pair) : mirroring t = mirroring s := by
  rw [mirroring, State.pairState, State.rd_congr hr, hp, mirroring, State.pairState]

theorem mirroring_regionSet (a r : Nat) (s : State) : mirroring (regionSet a r s) = mirroring s :=
  mirroring_congr (regionSet_regs a r s) (regionSet_pair a r s)

/-- The region's mark stands in the array's copy of the map, with REGION_GEN one higher (R108). -/
theorem regionSet_marks {s : State} {a : Nat} (h : a < s.arrs.length) (r : Nat) :
    ((regionSet a r s).arr a).regionGen = (s.arr a).regionGen + 1 ∧ (r, s.tet.epoch / 1024) ∈ ((regionSet a r s).arr a).regions := by
  rw [regionSet_arr, regionNoted, arr_modArr h]
  exact ⟨rfl, List.mem_cons_self⟩

/-- A mark changes the map of its own array alone. -/
theorem regionSet_arr_ne {a b : Nat} (h : b ≠ a) (r : Nat) (s : State) : (regionSet a r s).arr b = s.arr b :=
  (regionSet_arr a r s b).trans (arr_modArr_ne h _)

theorem memDrv_congr {s t : State} (h : t.regs = s.regs) (a m : Nat) : memDrv t a m = memDrv s a m := by
  rw [memDrv, State.rd_congr h, State.rd_congr h, memDrv]

section
variable {s t : State} {a : Nat} (hregs : t.regs = s.regs) (h0 : (t.arr a).rb0 = (s.arr a).rb0) (h1 : (t.arr a).rb1 = (s.arr a).rb1)
include hregs h0 h1

/-- Which strips can be read follows from the registers and the rebuild slots. -/
theorem stripUp_congr (m st : Nat) : stripUp t a m st = stripUp s a m st := by
  rw [stripUp, missing, validTarget, State.rd_congr hregs, h0, h1, stripUp, missing, validTarget]

/-- The drives that a member write goes to follow from the registers, the rebuild slots and the copyback. -/
theorem writeDrvs_congr (hcb : (t.arr a).cb = (s.arr a).cb) (m st : Nat) : writeDrvs t a m st = writeDrvs s a m st := by
  rw [writeDrvs, stripUp_congr hregs h0 h1, memDrv_congr hregs, hcb, writeDrvs]

end

theorem writeDrvs_regionSet (a r m st : Nat) (s : State) : writeDrvs (regionSet a r s) a m st = writeDrvs s a m st := by
  refine writeDrvs_congr (regionSet_regs a r s) ?_ ?_ ?_ m st
  all_goals rw [regionSet_arr, regionNoted]
  · exact arr_modArr_field Arr.rb0 (by exact fun _ => rfl) a
  · exact arr_modArr_field Arr.rb1 (by exact fun _ => rfl) a
  · exact arr_modArr_field Arr.cb (by exact fun _ => rfl) a

/-- With one operation that waits for the region, the header is rewritten and the operation goes on. -/
theorem doRegionMapUpdateDone_of_one {s : State} {a r : Nat} {o : SOp}
    (hmine : s.ce.sops.filter (fun o => o.phase = .region && o.array = a && o.stripe / tailR s a = r) = [o])
    (hfind : s.ce.sops.find? (fun x => x.id = o.id) = some o) :
    doRegionMapUpdateDone a r s = sopMirror o (regionSet a r s) := by
  simp only [doRegionMapUpdateDone, hmine, List.isEmpty_cons, Bool.false_eq_true, if_false, State.each, List.foldl_cons, List.foldl_nil,
    regionSet_ce, hfind]

/-- The operation stands where it stood with what it now holds. -/
theorem mem_putSop {s : State} {o x : SOp} (hx : x ∈ s.ce.sops) (hid : x.id = o.id) : o ∈ (s.putSop o).ce.sops :=
  List.mem_map.mpr ⟨x, hx, if_pos hid⟩

/-- A write to drive `d` for operation `op` has been queued, and the numbers of what has been queued are noted. -/
def WriteIssued (op d : Nat) (acc : List Nat × State) : Prop :=
  acc.1 ≠ [] ∧ ∃ c ∈ acc.2.ce.mcmds, c.sop = op ∧ c.drv = d ∧ c.wr = true

theorem WriteIssued.queue {op d : Nat} {acc : List Nat × State} (h : WriteIssued op d acc) (i : Nat) (c : MCmd) :
    WriteIssued op d (acc.1 ++ [i], addMCmd c acc.2.fresh) := by
  obtain ⟨_, x, hx, hxc⟩ := h
  exact ⟨by simp, x, List.mem_append_left _ hx, hxc⟩

theorem writeIssued_queue {op d : Nat} {c : MCmd} (hs : c.sop = op) (hd : c.drv = d) (hw : c.wr = true) (acc : List Nat × State) (i : Nat) :
    WriteIssued op d (acc.1 ++ [i], addMCmd c acc.2.fresh) :=
  ⟨by simp, _, List.mem_append_right _ (List.mem_singleton_self _), hs, hd, hw⟩

/-- The member writes of an operation: for every drive of a member that it writes one is queued, and the operation waits for them
(R14, R15). -/
theorem sopWrites_spec {s : State} {o : SOp} {m d : Nat} (hm : m < memN s o.array) (hbit : bit o.wmask m = true)
    (hd : d ∈ writeDrvs s o.array m o.stripe) : ∃ (os : List Nat) (u : State),
      sopWrites o s = u.putSop { o with phase := .writes, outst := os } ∧
      u.ce.sops = s.ce.sops ∧ u.arrs = s.arrs ∧ ∃ c ∈ u.ce.mcmds, c.sop = o.id ∧ c.drv = d ∧ c.wr = true := by
  unfold sopWrites
  dsimp only
  generalize hr : List.foldl _ (([] : List Nat), s) _ = r
  have hissued : WriteIssued o.id d r := by
    rw [← hr]
    refine foldl_of_mem (fun acc m' h => ?_) (fun acc => ?_) (List.mem_filter.mpr ⟨List.mem_range.mpr hm, hbit⟩) _
    · exact List.foldlRecOn (motive := WriteIssued o.id d) _ _ h fun acc h d' _ => h.queue _ _
    · exact foldl_of_mem (fun acc d' h => h.queue _ _) (fun acc => writeIssued_queue rfl rfl rfl acc _) hd acc
  have hkept : (r.2.ce.sops, r.2.arrs) = (s.ce.sops, s.arrs) := by
    rw [← hr]
    refine foldl_field (fun acc : List Nat × State => (acc.2.ce.sops, acc.2.arrs)) (fun acc m' => ?_) _ _
    exact foldl_field (fun acc : List Nat × State => (acc.2.ce.sops, acc.2.arrs)) (by exact fun _ _ => rfl) acc _
  obtain ⟨hsops, harrs⟩ := Prod.mk.inj hkept
  exact ⟨r.1, r.2, if_neg fun h => hissued.1 (List.isEmpty_iff.mp h), hsops, harrs, hissued.2⟩

/-- In paired mode an operation waits for the mirror of its INTENT; else its member writes are issued (R14, R99). -/
theorem sopMirror_of_mirroring {s : State} {o : SOp} (hm : mirroring s = true) (he : o.mirEpoch ≠ 0) :
    sopMirror o s = s.putSop { o with phase := .mirror } := if_pos ⟨hm, he⟩

theorem sopMirror_of_alone {s : State} (h : mirroring s = false) (o : SOp) : sopMirror o s = sopWrites o s := by
  simp [sopMirror, h]

/-! ### MRAM errors -/

/-- An uncorrectable error has been counted and raised (R81). -/
theorem doMramUe_ring_of_none {k : Nat} {s : State} (h : SMap.get none (k % ringSlots) s.nv.ring = none) :
    doMramUe (.ring k) s = (s.incSat R.GON_MRAM_ERR_UE).raise R.GON_INT_STATUS_MRAM_UE := by
  simp [doMramUe, h]

/-- Settles O50: each command is one branch of its case split; a SEAL near its records carries none, and a marked region's operations go on. -/
theorem gondolaKeepsItsCheckpoints : Obligations.GondolaKeepsItsCheckpoints := by
  refine ⟨?checkpoint, ?noCheckpoint, ?tailDone, ?sealNone, ?sealNewest, ?noSeal, ?forceBusy, ?force, ?mramCe, ?mramUe, ?regionNone,
    ?regionMirror, ?regionWrites, ?tailEnded, fun s h => sealNow_seal h⟩
  case checkpoint =>
    intro s ha he
    exact .of_live_eq (exec_tailCopyCheckpoint s) ha (if_pos he)
  case noCheckpoint =>
    intro s ha he
    exact .of_live_eq (exec_tailCopyCheckpoint s) ha (if_neg he)
  case tailDone =>
    intro s a n t ms sched ha hjob hj
    exact .of_live_eq (exec_tailCopyDone a n s) ha (doTailCopyDone_of_job hjob hj n)
  case sealNone =>
    intro s ha he hready hj hnone
    exact .of_live_eq (exec_sealCheckpoint s) ha (doSealCheckpoint_of_due hready hj (sealDue_of_none he hnone))
  case sealNewest =>
    intro s q r ha hq hr hseq he hready hj
    subst hq
    exact .of_live_eq (exec_sealCheckpoint s) ha (doSealCheckpoint_of_due hready hj (sealDue_of_newest hr hseq he))
  case noSeal =>
    intro s ha hdue
    exact .of_live_eq (exec_sealCheckpoint s) ha (doSealCheckpoint_of_not_due hdue)
  case forceBusy =>
    intro s ha hjob
    exact .of_live_eq (exec_forceTail s) ha (if_pos hjob)
  case force =>
    intro s ha hjob
    exact .of_live_eq (exec_forceTail s) ha (if_neg (Bool.eq_false_iff.mp hjob))
  case mramCe =>
    intro s n ha
    exact .of_live (exec_mramCe n s) ha
  case mramUe =>
    intro s w ha u hu
    subst hu
    refine ⟨fun c hw hc => ?_, fun c hw hc => ?_, fun x hw => ?_, fun hw => ?_, fun x hw => ?_, fun k hw hk => ?_⟩
    all_goals subst hw; refine .of_live_eq (exec_mramUe _ s) ha ?_
    · exact if_pos hc
    · exact if_neg (by omega)
    · rfl
    · rfl
    · rfl
    · exact doMramUe_ring_of_none hk
  case regionNone =>
    intro s a r ha hmine
    exact .of_live_eq (exec_regionMapUpdateDone a r s) ha (if_pos (by rw [hmine]; rfl))
  case regionMirror =>
    intro s a r o ha hmine hfind hmir he
    refine .of_live (exec_regionMapUpdateDone a r s) ha ?_
    rw [doRegionMapUpdateDone_of_one hmine hfind, sopMirror_of_mirroring (by rwa [mirroring_regionSet]) he]
    refine ⟨mem_putSop (x := o) ?_ rfl, fun b hb => ⟨?_, fun hne => regionSet_arr_ne hne r s⟩⟩
    · rw [regionSet_ce]
      exact List.mem_of_find?_eq_some hfind
    · rintro rfl
      exact regionSet_marks hb r
  case regionWrites =>
    intro s a r o m d ha hmine hfind hmir hm hbit hd
    have hoa : o.array = a := by
      have ho : o ∈ s.ce.sops.filter fun o => o.phase = .region && o.array = a && o.stripe / tailR s a = r := by rw [hmine]; simp
      simp only [List.mem_filter, Bool.and_eq_true, decide_eq_true_eq] at ho
      exact ho.2.1.2
    refine .of_live (exec_regionMapUpdateDone a r s) ha ?_
    rw [doRegionMapUpdateDone_of_one hmine hfind, sopMirror_of_alone (by rwa [mirroring_regionSet])]
    subst hoa
    have hm' : m < memN (regionSet o.array r s) o.array := by rwa [memN, State.rd_congr (regionSet_regs _ r s)]
    obtain ⟨os, u, e, hsops, harrs, hissued⟩ := sopWrites_spec hm' hbit (by rwa [writeDrvs_regionSet])
    rw [e]
    refine ⟨⟨{ o with phase := .writes, outst := os }, mem_putSop (x := o) ?_ rfl, rfl, rfl⟩, hissued, fun hlen => ?_⟩
    · rw [hsops, regionSet_ce]
      exact List.mem_of_find?_eq_some hfind
    · have harr := arr_congr harrs o.array
      have hmarks := regionSet_marks hlen r
      rw [← harr] at hmarks
      exact hmarks
  case tailEnded =>
    intro s a t ms sched
    have hnone := tailEnd_tailJob a t ms sched s
    generalize (tailEnd a t ms sched s).arr a = x at hnone
    rw [← hnone]

end Sys2Proof.Machine
end

section
/-! SUPPORT. Destage of a stripe that the Basket covers whole: its lock, its COALESCE, the engine's jobs (R67, R68, R97, R207). -/

namespace Sys2Proof.Machine

/-! ### The engine -/

/-- A job's submission changes the queues alone. -/
theorem jobPlace_spec {op units : Nat} {tried : Bool} {s t : State} (h : jobPlace op units tried s = some t) :
    ∃ k, t = { s with ce.jobs := s.ce.jobs ++ [⟨k, units, op, tried⟩] } := by
  obtain ⟨k, _, hk⟩ := Option.map_eq_some_iff.mp h
  exact ⟨k, hk.symm⟩

/-- What neither the queues nor a register hold, an operation of the engine leaves. -/
theorem engine_field {β : Type} (g : State → β) (hwr : ∀ (s : State) f v, g (s.wr f v) = g s)
    (hjobs : ∀ (s : State) js ws, g { s with ce.jobs := js, ce.jobWait := ws } = g s) (op cols inputs : Nat) (s : State) :
    g (engine op cols inputs s) = g s := by
  unfold engine
  split
  · rfl
  · refine (hwr _ _ _).trans (State.each_field g (fun s j => ?_) s _)
    dsimp only
    split
    · next t ht =>
      split at ht
      · obtain ⟨k, rfl⟩ := jobPlace_spec ht
        exact hjobs s _ s.ce.jobWait
      · cases ht
    · exact hjobs s s.ce.jobs _

/-- What every step establishes holds after a fold that takes a step. -/
theorem foldl_of_step {α β : Type} {Q : β → Prop} {f : β → α → β} (hset : ∀ b y, Q (f b y)) {l : List α} (hl : l ≠ []) (b : β) :
    Q (l.foldl f b) := foldl_of_mem (fun b y _ => hset b y) (fun b => hset b (l.head hl)) (List.head_mem hl) b

/-- An operation over at least one column has jobs queued or waiting (R67). -/
theorem engineBusy_engine {op cols : Nat} {s : State} (hon : engineOn s = true) (hcols : 0 < cols) (inputs : Nat) :
    engineBusy (engine op cols inputs s) op = true := by
  unfold engine
  rw [if_neg (not_not_intro hon)]
  refine foldl_of_step (Q := fun t => engineBusy t op = true) (fun t j => ?_) (List.ne_nil_of_length_pos ?_) s
  · dsimp only
    split
    · next u hu =>
      split at hu
      · obtain ⟨k, rfl⟩ := jobPlace_spec hu
        simp [engineBusy]
      · cases hu
    · simp [engineBusy]
  · rw [List.length_range]
    omega

/-! ### Operations -/

/-- An operation that is replaced twice holds what it was replaced with last. -/
theorem putSop_putSop {o o' : SOp} (h : o'.id = o.id) (s : State) : (s.putSop o).putSop o' = s.putSop o' := by
  simp only [State.putSop, List.map_map]
  refine congrArg (fun l => { s with ce.sops := l }) (List.map_congr_left fun x _ => ?_)
  simp only [Function.comp, h]
  split
  · rw [if_pos rfl]
  · rfl

/-- Every column of a COALESCE can be computed. -/
theorem destageColumns_coalesce {o : SOp} (hk : o.kind = .coalesce) (s : State) (ks : List Nat) :
    ¬ (ks.map fun k => destageColumn s o k).any (·.isNone) = true := by
  simp [destageColumn, hk]

/-- With its columns computed a destage goes to the engine. -/
theorem destageCompute_coalesce {s : State} {o : SOp} (hk : o.kind = .coalesce) (hon : engineOn s = true) (hc : 0 < o.cols) :
    ∃ o' : SOp, destageCompute o s = engine (sopOwner o.id) o.cols (dataN s o.array) (s.putSop o') ∧
      o'.id = o.id ∧ o'.array = o.array ∧ o'.stripe = o.stripe ∧ o'.kind = .coalesce ∧ o'.phase = .engine := by
  have hrmw : ¬ o.kind = .rmw := by rw [hk]; decide
  unfold destageCompute
  dsimp only
  rw [if_neg (destageColumns_coalesce (o := { o with upto := stripeUpto s o.array o.stripe, outst := [] }) hk s _), if_neg hrmw,
     if_pos (engineBusy_engine (by exact hon) hc _)]
  exact ⟨_, rfl, rfl, rfl, rfl, hk, rfl⟩

/-- A COALESCE reads nothing. -/
theorem destageReads_coalesce (s : State) (a st first cols : Nat) (ex : List (Nat × Nat)) :
    destageReads s a st first cols .coalesce ex = [] := by
  simp [destageReads]

/-- A destage of a stripe that the Basket covers whole is a COALESCE, which goes to the engine at once (R97). -/
theorem destageRun_coalesce {s : State} {o : SOp} (hd : dirtyCols s o.array o.stripe ≠ []) (hcov : coversAll s o.array o.stripe = true)
    (hon : engineOn s = true) (hb : 0 < strB s o.array) (ho : o.outst = []) :
    ∃ o' : SOp, destageRun o s = engine (sopOwner o.id) (strB s o.array) (dataN s o.array) (s.putSop o') ∧
      o'.id = o.id ∧ o'.array = o.array ∧ o'.stripe = o.stripe ∧ o'.kind = .coalesce ∧ o'.phase = .engine := by
  obtain ⟨k, ks, hks⟩ := List.exists_cons_of_ne_nil hd
  have hkind : destageKind s o.array o.stripe = .coalesce := if_pos hcov
  unfold destageRun
  simp only [hks, hkind, destageReads_coalesce, if_true, readCols, ho, List.map_nil, List.eraseDups_nil, List.foldl_nil,
    List.append_nil, List.isEmpty_nil]
  obtain ⟨o', e, hid, ha, hst, hk, hph⟩ := destageCompute_coalesce (s := (s.putSop _).putSop _) (o := { o with
    kind := .coalesce, first := 0, cols := strB s o.array, phase := .reads, outst := [],
    erased := o.erased ++ (rangeFrom 0 (strB s o.array)).flatMap fun c => slowStrips s o.array o.stripe c o.erased }) rfl hon hb
  refine ⟨o', e.trans ?_, hid, ha, hst, hk, hph⟩
  rw [putSop_putSop, putSop_putSop]
  · rfl
  · exact hid
  · rfl

theorem exec_destageStep (a st : Nat) (s : State) : exec (.destageStep a st) s = live s (doDestageStep a st s) := rfl

/-- The only eligible stripe is the first in the order (R207). -/
theorem doDestageStep_of_only {s : State} {a st : Nat} (hbg : bgOk s = true)
    (hes : (dirtyStripes s).filter (fun p => eligible s p.1 p.2) = [(a, st)]) : doDestageStep a st s = destageStart a st s := by
  simp [doDestageStep, hbg, hes]

/-- A stripe's entry is free while the table holds none with its index. -/
theorem lockFree_iff {s : State} {a st : Nat} : lockFree s a st = true ↔ ∀ e ∈ s.ce.locks, e.idx ≠ lockIdx a st := by
  simp [lockFree]

/-- A free entry is granted at once (R94). -/
theorem lockReq_of_free {s : State} {a st : Nat} (h : lockFree s a st = true) (owner : Nat) (shared : Bool) :
    lockReq owner shared (lockIdx a st) s =
      (true, { s with ce.locks := s.ce.locks ++ [(⟨lockIdx a st, [(owner, shared)], []⟩ : LockE)] }) := by
  have hnone : s.ce.locks.find? (fun e => e.idx = lockIdx a st) = none := List.find?_eq_none.mpr fun e he => by
    simpa using lockFree_iff.mp h e he
  simp only [lockReq, hnone]

/-- The operation with which a destage starts. -/
def destageOp (a st : Nat) (s : State) : SOp :=
  ⟨s.ce.nextId, 0, .rcw, a, st, 0, 0, 0, 0, 0, 0, [], .lock, [], [], [], 0, 0⟩

/-- A destage has started and holds its lock entry. -/
def destageLocked (a st : Nat) (s : State) : State :=
  { s.fresh with
    ce.sops := s.ce.sops ++ [destageOp a st s],
    ce.locks := s.ce.locks ++ [(⟨lockIdx a st, [(sopOwner s.ce.nextId, false)], []⟩ : LockE)] }

theorem destageStart_of_free {s : State} {a st : Nat} (h : lockFree s a st = true) :
    destageStart a st s = destageGo (destageOp a st s) (destageLocked a st s) := by
  unfold destageStart
  dsimp only
  rw [lockReq_of_free (by exact h)]
  rfl

theorem destageGo_of_synced {s : State} {o : SOp} (h : synced s o.array o.stripe = true) : destageGo o s = destageRun o s := if_pos h

/-- A destage of a covered stripe holds its lock entry, its COALESCE is with the engine, and the Basket is as it was. -/
theorem destageStart_coalesce {s : State} {a st : Nat} (hlock : lockFree s a st = true) (hsync : synced s a st = true)
    (hcov : coversAll s a st = true) (hon : engineOn s = true) (hb : 0 < strB s a) (hd : dirtyCols s a st ≠ []) :
    lockFree (destageStart a st s) a st = false ∧
    ((destageStart a st s).ce.sops.any fun o => o.array = a && o.stripe = st && o.kind = .coalesce && o.phase = .engine) = true ∧
    (destageStart a st s).bsk = s.bsk := by
  obtain ⟨o, e, hid, ha, hst, hk, hph⟩ := destageRun_coalesce (s := destageLocked a st s) (o := destageOp a st s) hd hcov hon hb rfl
  rw [destageStart_of_free hlock, destageGo_of_synced (by exact hsync), e]
  have hkept := engine_field (fun t => (t.ce.locks, t.ce.sops, t.bsk)) (fun _ _ _ => rfl) (fun _ _ _ => rfl)
    (sopOwner (destageOp a st s).id) (strB (destageLocked a st s) a) (dataN (destageLocked a st s) a) ((destageLocked a st s).putSop o)
  obtain ⟨hlocks, hrest⟩ := Prod.mk.inj hkept
  obtain ⟨hsops, hbsk⟩ := Prod.mk.inj hrest
  refine ⟨?_, ?_, hbsk⟩
  · refine Bool.eq_false_iff.mpr fun hfree => lockFree_iff.mp hfree ⟨lockIdx a st, [(sopOwner s.ce.nextId, false)], []⟩ ?_ rfl
    exact hlocks ▸ List.mem_append_right _ (List.mem_singleton_self _)
  · have ho : o ∈ ((destageLocked a st s).putSop o).ce.sops :=
      mem_putSop (x := destageOp a st s) (List.mem_append_right _ (List.mem_singleton_self _)) hid.symm
    refine List.any_eq_true.mpr ⟨o, hsops ▸ ho, ?_⟩
    simp [ha, hst, hk, hph, destageOp]

end Sys2Proof.Machine
end

section
/-! SUPPORT. The device's own work on arrays, one stripe a step: rebuild, copyback, patrol, resync, map copies (R72, R110, R111, R123 to
R135). -/

namespace Sys2Proof.Machine

/-- The meanings of the background steps. -/
theorem exec_rebuildTargetAssign (a m d : Nat) (s : State) :
    exec (.rebuildTargetAssign a m d) s = live s (doRebuildTargetAssign a m d s) := rfl

theorem exec_rebuildStep (a i : Nat) (s : State) : exec (.rebuildStep a i) s = live s (doRebuildStep a i s) := rfl

theorem exec_rebuildComplete (a i : Nat) (s : State) : exec (.rebuildComplete a i) s = live s (doRebuildComplete a i s) := rfl

theorem exec_mapCopy (a m : Nat) (s : State) : exec (.mapCopy a m) s = live s (doMapCopy a m s) := rfl

theorem exec_copybackStep (a : Nat) (s : State) : exec (.copybackStep a) s = live s (doCopybackStep a s) := rfl

theorem exec_copybackSwap (a : Nat) (s : State) : exec (.copybackSwap a) s = live s (doCopybackSwap a s) := rfl

theorem exec_copybackAutoStart (a m : Nat) (s : State) :
    exec (.copybackAutoStart a m) s = live s (doCopybackAutoStart a m s) := rfl

theorem exec_patrolStep (a : Nat) (s : State) : exec (.patrolStep a) s = live s (doPatrolStep a s) := rfl

theorem exec_resyncStep (a : Nat) (s : State) : exec (.resyncStep a) s = live s (doResyncStep a s) := rfl

/-! ### Steps that journal, and watermarks -/

/-- With room in the ring a step of the device's own work runs (R86). -/
theorem unlessShort_of_room {s : State} (h : ringShort s = false) (t : State) : unlessShort s t = t := by
  simp [unlessShort, h]

/-- A step that writes no record runs, whatever room the ring has (R86). -/
theorem unlessShort_of_no_record {s t : State} (h : t.jrn.nextSeq = s.jrn.nextSeq) : unlessShort s t = t := by
  have hnone : intentSince s.jrn.nextSeq t = false := by simp [intentSince, h, rangeFrom]
  simp [unlessShort, hnone]

@[simp] theorem progressDue_arrs (k a m : Nat) (s : State) : (progressDue k a m s).arrs = s.arrs := by
  unfold progressDue
  split <;> rfl

@[simp] theorem progressDue_ext (k a m : Nat) (s : State) : (progressDue k a m s).ext = s.ext := by
  unfold progressDue
  split <;> rfl

/-- A PROGRESS record that is due is not written yet (R92). -/
theorem progressDue_nextSeq (k a m : Nat) (s : State) : (progressDue k a m s).jrn.nextSeq = s.jrn.nextSeq := by
  unfold progressDue
  split <;> rfl

/-! ### Rebuild slots -/

theorem slotAt_congr {s t : State} (h : t.arrs = s.arrs) (a i : Nat) : slotAt t a i = slotAt s a i := by
  rw [slotAt, arr_congr h, slotAt]

/-- The slot that is changed. -/
theorem slotAt_modSlot {s : State} {a : Nat} (h : a < s.arrs.length) (i : Nat) (f : Slot → Slot) :
    slotAt (modSlot a i f s) a i = f (slotAt s a i) := by
  rw [slotAt, modSlot, arr_modArr h, slotAt]
  split <;> rfl

/-- A change that leaves the slot as it stands changes nothing. -/
theorem modSlot_of_fixed {s : State} {a i : Nat} {f : Slot → Slot} (h : f (slotAt s a i) = slotAt s a i) : modSlot a i f s = s := by
  refine State.modArr_of_fixed ?_
  unfold slotAt at h
  split
  · next hi => rw [if_pos hi] at h; rw [h]
  · next hi => rw [if_neg hi] at h; rw [h]

theorem advanceWm_of_none {x : Slot} (h : x.ahead = []) : ∀ n, advanceWm n x = x
  | 0 => rfl
  | _ + 1 => by simp [advanceWm, h]

/-- A slot with nothing completed ahead of its watermark and no further valid range before it passes over nothing (R127). -/
theorem skipWm_of_none {x : Slot} (h : x.ahead = []) (hex : x.exHi ≤ x.wm) : skipWm x = x := by
  simp [skipWm, h, advanceWm, Nat.not_lt.mpr hex]

/-! ### Rebuild -/

theorem doRebuildTargetAssign_of_passes {s u : State} {a m d : Nat} (hw : (s.arr a).waiting.contains (m, d) = true)
    (hs : arrServes s a = true) (hst : arrState s a ≠ aResyncing) (hbg : bgOk s = true)
    (hu : u = s.modArr a fun r => { r with waiting := r.waiting.filter fun p => p.1 ≠ m })
    (hp : passesR55 u d (u.rd (R.STR_An_GEOM_META a)) = true) :
    doRebuildTargetAssign a m d s =
      arrUpdate a (relabel a (formSlot a m d 0 (mediaClear d dataLba ((u.arr a).stripes * strB u a) u))) := by
  have hno : ¬ (¬ (s.arr a).waiting.contains (m, d) = true ∨ ¬ arrServes s a = true ∨ arrState s a = aResyncing ∨ ¬ bgOk s = true) := by
    rw [hw, hs, hbg]
    simpa using hst
  subst hu
  rw [doRebuildTargetAssign, if_neg hno]
  exact if_pos hp

/-- The lowest free stripe of the window is rebuilt for the slot's own target (R125). -/
theorem doRebuildStep_of_next {s u : State} {a i st : Nat} (hi : i < 2) (hr : slotRuns s a i = true)
    (hy : (slotAt s a (1 - i)).act = false) (hu : u = modSlot a i skipWm s) (hj : (slotAt u a i).joined = false)
    (hn : slotNext u a (slotAt u a i) = some st)
    (hc : coalescing (rebuildStripe a st [(slotAt u a i).target] u) a st = false) :
    doRebuildStep a i s = unlessShort u (progressDue 0 a (slotAt u a i).target
      (modSlot a i (fun x => if st = x.wm then advanceWm 16 { x with wm := x.wm + 1 } else { x with ahead := insNat st x.ahead })
        (rebuildStripe a st [(slotAt u a i).target] u))) := by
  have hruns : ¬ (i ≥ 2 ∨ ¬ slotRuns s a i = true) := by simp [hr, hi]
  subst hu
  rw [doRebuildStep, if_neg hruns]
  simp only [hy, Bool.false_eq_true, false_and, if_false, hn, hj, hc]

/-- The same where the stripe belongs to no namespace: only the watermark moves (R125). -/
theorem doRebuildStep_of_unused {s : State} {a i : Nat} (hi : i < 2) (hr : slotRuns s a i = true)
    (hy : (slotAt s a (1 - i)).act = false) (hj : (slotAt s a i).joined = false) (hahead : (slotAt s a i).ahead = [])
    (hex : (slotAt s a i).exHi ≤ (slotAt s a i).wm) (hn : slotNext s a (slotAt s a i) = some (slotAt s a i).wm)
    (hns : nsOfStripe s a (slotAt s a i).wm = none) (hc : coalescing s a (slotAt s a i).wm = false) :
    doRebuildStep a i s = progressDue 0 a (slotAt s a i).target (modSlot a i (fun x =>
      if (slotAt s a i).wm = x.wm then advanceWm 16 { x with wm := x.wm + 1 } else { x with ahead := insNat (slotAt s a i).wm x.ahead }) s) := by
  have hskip : s = modSlot a i skipWm s := (modSlot_of_fixed (skipWm_of_none hahead hex)).symm
  have hnone : rebuildStripe a (slotAt s a i).wm [(slotAt s a i).target] s = s := if_pos hns
  rw [doRebuildStep_of_next hi hr hy hskip hj hn (by rwa [hnone]), hnone]
  exact unlessShort_of_no_record (progressDue_nextSeq _ _ _ _)

theorem doRebuildComplete_of_ended {s : State} {a i : Nat} (hi : i < 2) (hbg : bgOk s = true) (he : slotEnded s a i = true)
    (ho : slotEnded (completeSlot a i s) a (1 - i) = false) :
    doRebuildComplete a i s = arrUpdate a (relabel a (completeSlot a i s)) := by
  have hno : ¬ (i ≥ 2 ∨ ¬ bgOk s = true ∨ ¬ slotEnded s a i = true) := by simp [hi, hbg, he]
  rw [doRebuildComplete, if_neg hno]
  simp only [ho, Bool.false_eq_true, if_false]

theorem doMapCopy_of_wanted {s : State} {a m : Nat} (hbg : bgOk s = true) (hon : arrOn s a = true)
    (hw : (mapWanted s a).contains m = true) (hh : s.rd (R.STR_An_MEMBERk_MAPHOLD a m) = 0) :
    doMapCopy a m s = relabel a (progress 6 a m 2 (mapGive a m s)) := if_pos ⟨hbg, hon, hw, by simp [State.on, hh]⟩

/-! ### Copyback -/

section
variable {s : State} {a : Nat} {c : Copyback} (hcb : (s.arr a).cb = some c) (hr : cbRuns s a = true)
include hcb hr

theorem doCopybackStep_of_next (hwm : c.wm < (s.arr a).stripes) (hl : lockFree s a c.wm = true)
    (hc : coalescing (copyStripe a c.wm c.src c.dest s) a c.wm = false) :
    doCopybackStep a s = unlessShort s (progressDue 1 a c.src ((copyStripe a c.wm c.src c.dest s).modArr a fun r =>
      { r with cb := r.cb.map fun x => { x with wm := c.wm + 1 } })) := by
  have hno : ¬ (¬ cbRuns s a = true ∨ (s.arr a).stripes ≤ c.wm ∨ ¬ lockFree s a c.wm = true) := by simp [hr, hl, hwm]
  simp only [doCopybackStep, hcb, if_neg hno, hc, Bool.false_eq_true, if_false]

/-- The destination takes the member's place; no spare was taken for it that would be returned (R133). -/
theorem doCopybackSwap_of_done (hwm : (s.arr a).stripes ≤ c.wm)
    (hw : s.ce.mcmds.any (fun m => m.array = a && m.member = c.src && m.wr) = false) (ht : (s.arr a).taken = [])
    {u : State} (hu : u = State.event (setMember a c.src c.dest (entryKeep a ((progress 1 a c.src 2 s).modArr a fun r =>
      { r with cb := none }))) 0x0304 (srcArr a) (cbPayload c))
    (hm : u.rd (R.STR_An_MEMBERk_MAPHOLD a c.src) = 0) : doCopybackSwap a s = relabel a u := by
  have hno : ¬ (¬ cbRuns s a = true ∨ c.wm < (s.arr a).stripes ∨
      s.ce.mcmds.any (fun m => m.array = a && m.member = c.src && m.wr) = true) := by
    rw [hr, hw]
    simpa using hwm
  have htaken : ((progress 1 a c.src 2 s).arr a).taken = [] := by
    rw [progress, arr_congr (record_arrs _ s), ht]
  have hmod : (progress 1 a c.src 2 s).modArr a (fun r => { r with cb := none, taken := r.taken.filter fun p => ¬ [].contains p }) =
      (progress 1 a c.src 2 s).modArr a fun r => { r with cb := none } := State.modArr_congr (by simp)
  have hoff : u.on (R.STR_An_MEMBERk_MAPHOLD a c.src) = false := by simp [State.on, hm]
  simp only [doCopybackSwap, hcb, if_neg hno, htaken, List.filter_nil, State.each, List.foldl_nil, hmod, ← hu, hoff, Bool.false_eq_true,
    if_false]

end

section
variable {s : State} {a m : Nat} (hon : arrOn s a = true) (hm : m < memN s a) (hp : missing s a m = false) (hcb : (s.arr a).cb = none)
    (hr : cbRuns s a = true)
include hon hm hp hcb hr

/-- A drive that can take its place back gets it (R132). -/
theorem doCopybackAutoStart_of_return {d : Nat} (hd : returnPlace s a m = some d) :
    doCopybackAutoStart a m s = startCopyback a m d 1 s := by
  simp [doCopybackAutoStart, hon, Nat.not_le.mpr hm, hp, hcb, hr, hd]

/-- A member with a media warning is retired onto a spare (R132). -/
theorem doCopybackAutoStart_of_media {k : Nat} (hd : returnPlace s a m = none) (hmedia : s.rd (R.STR_An_POLICY_CB_MEDIA a) ≠ 0)
    (hwarn : bit (s.rd (R.STR_An_MEDIA_WARN_WARN a)) m = true) (hk : spareFor s a = some k) :
    doCopybackAutoStart a m s = startCopyback a m (spareDrv s k) 2 (takeSpare a m k
      (s.modArr a fun r => { r with places := (m, memDrv s a m) :: r.places.filter fun p => p.1 ≠ m })) := by
  have hgo : s.on (R.STR_An_POLICY_CB_MEDIA a) = true ∧ bit (s.rd (R.STR_An_MEDIA_WARN_WARN a)) m = true :=
    ⟨by simp [State.on, hmedia], hwarn⟩
  have hno : ¬ (¬ arrOn s a = true ∨ memN s a ≤ m ∨ missing s a m = true ∨ (s.arr a).cb.isSome = true ∨ ¬ cbRuns s a = true) := by
    simp [hon, Nat.not_le.mpr hm, hp, hcb, hr]
  rw [doCopybackAutoStart, if_neg hno]
  simp only [hd, if_pos hgo, hk]
  rfl

end

/-! ### Patrol and resync -/

/-- At the end of the array a cycle is counted and the next one begins (R135). -/
theorem doPatrolStep_of_end {s : State} {a : Nat} (hr : patrolRuns s a = true) (he : (s.arr a).stripes ≤ (s.arr a).pt) :
    doPatrolStep a s = progressDue 3 a 0 ((s.modArr a fun r => { r with pt := 0 }).incSat (R.STR_An_PT_HI_CYCLES a)) := by
  simp only [doPatrolStep, hr, not_true_eq_false, if_false, if_pos he]

/-- The next stripe is checked under its lock (R135). -/
theorem doPatrolStep_of_next {s u : State} {a : Nat} (hr : patrolRuns s a = true) (he : (s.arr a).pt < (s.arr a).stripes)
    (hns : nsOfStripe s a (s.arr a).pt ≠ none) (hlost : isLost s a (s.arr a).pt = false) (hl : lockFree s a (s.arr a).pt = true)
    (hu : u = State.modArr (State.modArr (patrolStripe a (s.arr a).pt s) a fun r => { r with patrolled := r.patrolled + 1 }) a
      (fun r => { r with pt := (s.arr a).pt + 1 })) :
    doPatrolStep a s = unlessShort s (progressDue 3 a 0 (if (u.arr a).stripes ≤ (s.arr a).pt + 1 then
      (u.modArr a fun r => { r with pt := 0 }).incSat (R.STR_An_PT_HI_CYCLES a) else u)) := by
  have hpass : ¬ (nsOfStripe s a (s.arr a).pt = none ∨ isLost s a (s.arr a).pt = true) := by simp [hns, hlost]
  have hgo : ¬ (¬ (nsOfStripe s a (s.arr a).pt = none ∨ isLost s a (s.arr a).pt = true) ∧ ¬ lockFree s a (s.arr a).pt = true) := by
    simp [hl]
  subst hu
  simp only [doPatrolStep, hr, not_true_eq_false, if_false, if_neg (Nat.not_le.mpr he), if_neg hpass, if_neg hgo]

section
variable {s : State} {a : Nat} {r : Resync} (hrs : (s.arr a).rs = some r) (hbg : bgOk s = true) (hs : arrServes s a = true)
    (hsh : shareOk (sharesFor s a).1 = true)
include hrs hbg hs hsh

theorem doResyncStep_of_end (he : (s.arr a).stripes ≤ r.wm) : doResyncStep a s = resyncEnd a r s := by
  simp [doResyncStep, hrs, hbg, hs, hsh, he]

/-- A stripe that is resynchronised already is passed over (R110). -/
theorem doResyncStep_of_synced (ha : a < s.arrs.length) (he : r.wm + 1 < (s.arr a).stripes) (hsync : synced s a r.wm = true) :
    doResyncStep a s = progressDue 2 a 0 (s.modArr a fun x => { x with
      rs := some { r with wm := r.wm + 1, verified := r.verified.filter (· ≠ r.wm) } }) := by
  have hno : ¬ (¬ bgOk s = true ∨ ¬ arrServes s a = true ∨ ¬ shareOk (sharesFor s a).1 = true) := by simp [hbg, hs, hsh]
  have hmid : ¬ (s.arr a).stripes ≤ r.wm := by omega
  have hmod : s.modArr a (fun x => { x with rs := x.rs.map fun y => { y with wm := r.wm + 1, verified := y.verified.filter (· ≠ r.wm) } }) =
      s.modArr a fun x => { x with rs := some { r with wm := r.wm + 1, verified := r.verified.filter (· ≠ r.wm) } } :=
    State.modArr_congr (by simp [hrs])
  have harr : (progressDue 2 a 0 (s.modArr a fun x => { x with
      rs := some { r with wm := r.wm + 1, verified := r.verified.filter (· ≠ r.wm) } })).arr a =
      { s.arr a with rs := some { r with wm := r.wm + 1, verified := r.verified.filter (· ≠ r.wm) } } := by
    rw [arr_congr (progressDue_arrs 2 a 0 _), arr_modArr ha]
  simp only [doResyncStep, hrs, if_neg hno, if_neg hmid, hsync, not_true_eq_false, false_and, if_false, if_true, hmod, harr,
    if_neg (Nat.not_le.mpr he)]
  exact unlessShort_of_no_record (progressDue_nextSeq 2 a 0 _)

end

/-- Settles O15: each step is one branch of its command's case split, and a covered stripe's destage is a COALESCE with the engine. -/
theorem backgroundWorkSteps : Obligations.BackgroundWorkSteps := by
  refine ⟨?coalesce, ?destage, ?assign, ?rebuild, ?rebuildUnused, ?complete, ?mapCopy, ?copyback, ?swap, ?returned, ?media, ?patrolEnd,
    ?patrol, ?resyncEnd, ?resync⟩
  case coalesce =>
    intro s a st ha hbg hes hcov hl hsync hon hb hd
    refine .of_live (exec_destageStep a st s) ha ?_
    rw [doDestageStep_of_only hbg hes]
    exact destageStart_coalesce hl hsync hcov hon hb hd
  case destage =>
    intro s a st ha hbg hes
    exact .of_live_eq (exec_destageStep a st s) ha (doDestageStep_of_only hbg hes)
  case assign =>
    intro s a m d u ha hw hs hst hbg hu hp
    exact .of_live_eq (exec_rebuildTargetAssign a m d s) ha (doRebuildTargetAssign_of_passes hw hs hst hbg hu hp)
  case rebuild =>
    intro s a i u st ha hi hr hy hu hj hn _ hroom hc
    refine .of_live_eq (exec_rebuildStep a i s) ha ((doRebuildStep_of_next hi hr hy hu hj hn hc).trans (unlessShort_of_room ?_ _))
    rw [hu]
    exact hroom
  case rebuildUnused =>
    intro s a i ha hi hlen hr hy hj hahead hex hn hns hc
    refine .of_live (exec_rebuildStep a i s) ha ?_
    rw [doRebuildStep_of_unused hi hr hy hj hahead hex hn hns hc]
    refine ⟨?_, progressDue_ext 0 a _ _⟩
    refine (slotAt_congr (progressDue_arrs 0 a _ _) a i).trans ((slotAt_modSlot hlen i _).trans ?_)
    rw [if_pos rfl]
    exact advanceWm_of_none (x := { slotAt s a i with wm := (slotAt s a i).wm + 1 }) hahead 16
  case complete =>
    intro s a i ha hi hbg he ho
    exact .of_live_eq (exec_rebuildComplete a i s) ha (doRebuildComplete_of_ended hi hbg he ho)
  case mapCopy =>
    intro s a m ha hbg hon hw hh
    exact .of_live_eq (exec_mapCopy a m s) ha (doMapCopy_of_wanted hbg hon hw hh)
  case copyback =>
    intro s a c ha hcb hr hwm hl hroom hc
    exact .of_live_eq (exec_copybackStep a s) ha ((doCopybackStep_of_next hcb hr hwm hl hc).trans (unlessShort_of_room hroom _))
  case swap =>
    intro s a c ha hcb hr hwm hw ht u hu hm _
    exact .of_live_eq (exec_copybackSwap a s) ha (doCopybackSwap_of_done hcb hr hwm hw ht hu hm)
  case returned =>
    intro s a m d ha hon hm hp hcb hr hd
    exact .of_live_eq (exec_copybackAutoStart a m s) ha (doCopybackAutoStart_of_return hon hm hp hcb hr hd)
  case media =>
    intro s a m k ha hon hm hp hcb hr hd hmedia hwarn hk
    exact .of_live_eq (exec_copybackAutoStart a m s) ha (doCopybackAutoStart_of_media hon hm hp hcb hr hd hmedia hwarn hk)
  case patrolEnd =>
    intro s a ha hr he
    exact .of_live_eq (exec_patrolStep a s) ha (doPatrolStep_of_end hr he)
  case patrol =>
    intro s a ha hr he hns hlost hl hroom u v hu hv
    subst hv
    exact .of_live_eq (exec_patrolStep a s) ha ((doPatrolStep_of_next hr he hns hlost hl hu).trans (unlessShort_of_room hroom _))
  case resyncEnd =>
    intro s a r ha hrs hbg hs hsh he
    exact .of_live_eq (exec_resyncStep a s) ha (doResyncStep_of_end hrs hbg hs hsh he)
  case resync =>
    intro s a r ha hrs hbg hs hlen hsh he hsync _
    exact .of_live_eq (exec_resyncStep a s) ha (doResyncStep_of_synced hrs hbg hs hsh hlen he hsync)

end Sys2Proof.Machine
end

section
/-! SUPPORT. The context pool: what a turn of a submission queue fetches, the credits of a fabric queue, grants of contexts (R141, R142, R144,
R146). -/

namespace Sys2Proof.Machine

/-- The meanings of the rows that take contexts. -/
theorem exec_sqFetch (c q avail : Nat) (s : State) : exec (.sqFetch c q avail) s = live s (doSqFetch c q avail s) := rfl

theorem exec_capsuleReceipt (c q bytes : Nat) (s : State) : exec (.capsuleReceipt c q bytes) s = live s (doCapsuleReceipt c q bytes s) := rfl

theorem exec_creditWithdraw (c q : Nat) (s : State) : exec (.creditWithdraw c q) s = live s (doCreditWithdraw c q s) := rfl

theorem exec_contextGrant (s : State) : exec .contextGrant s = live s (doContextGrant s) := rfl

theorem exec_adminContextGrant (s : State) : exec .adminContextGrant s = live s (doAdminContextGrant s) := rfl

/-! ### Queues under their updates -/

theorem queueOf_congr {s t : State} (h : t.ce.queues = s.ce.queues) (c q : Nat) : queueOf t c q = queueOf s c q := by
  rw [queueOf, h, queueOf]

/-- An update that keeps a queue's controller and number changes that queue. -/
theorem queueOf_modQueue {s : State} {c q : Nat} {x : Queue} (h : queueOf s c q = some x) {f : Queue → Queue}
    (hf : ∀ y, (f y).ctrl = y.ctrl ∧ (f y).qid = y.qid := by exact fun _ => ⟨rfl, rfl⟩) : queueOf (s.modQueue c q f) c q = some (f x) := by
  have hx := List.find?_some h
  simp only [Bool.and_eq_true, decide_eq_true_eq] at hx
  have hkeep : ((fun y : Queue => decide (y.ctrl = c) && decide (y.qid = q)) ∘ fun y => if y.ctrl = c ∧ y.qid = q then f y else y) =
      fun y : Queue => decide (y.ctrl = c) && decide (y.qid = q) := by
    funext y
    simp only [Function.comp]
    split
    · rw [(hf y).1, (hf y).2]
    · rfl
  simp only [queueOf, State.modQueue, List.find?_map, hkeep]
  rw [queueOf] at h
  rw [h, Option.map_some, if_pos hx]

theorem State.modQueue_modQueue (s : State) (c q : Nat) {f : Queue → Queue} (hf : ∀ y, (f y).ctrl = y.ctrl ∧ (f y).qid = y.qid)
    (g : Queue → Queue) : (s.modQueue c q f).modQueue c q g = s.modQueue c q fun y => g (f y) := by
  simp only [State.modQueue, List.map_map]
  congr 3
  funext y
  by_cases hy : y.ctrl = c ∧ y.qid = q
  · simp only [Function.comp, if_pos hy, (hf y).1, (hf y).2]
  · simp only [Function.comp, if_neg hy]

theorem State.modQueue_id (s : State) (c q : Nat) : s.modQueue c q (fun y => y) = s := by
  simp only [State.modQueue, ite_self, List.map_id']

/-! ### The pool's low mark -/

theorem lowCheck_ce (n : Nat) (s : State) : (lowCheck n s).ce = s.ce := by
  unfold lowCheck
  dsimp only
  split <;> rfl

theorem sameStores_lowCheck (n : Nat) (s : State) : SameStores s (lowCheck n s) := by
  unfold lowCheck
  dsimp only
  split <;> exact ⟨rfl, rfl, rfl, rfl, rfl⟩

/-! ### A turn of a submission queue (R141, R144) -/

/-- A turn takes no more commands than it is offered. -/
theorem fetchUpTo_le (c q : Nat) : ∀ (n k : Nat) (s : State), (fetchUpTo c q n k s).1 ≤ n
  | 0, _, _ => Nat.le_refl 0
  | n + 1, k, s => by
    unfold fetchUpTo
    split
    · dsimp only
      split
      · exact Nat.succ_le_succ (fetchUpTo_le c q n _ _)
      · exact Nat.zero_le _
    · exact Nat.zero_le _

/-- A queue that may hold no more contexts fetches nothing. -/
theorem fetchUpTo_of_full {s : State} {c q : Nat} {x : Queue} (h : queueOf s c q = some x) (hm : mayHold s x = false) (n k : Nat) :
    fetchUpTo c q n k s = (0, s) := by
  cases n with
  | zero => rfl
  | succ n => simp [fetchUpTo, h, hm]

/-- A queue below its reservation may hold one more context (R144 rule 1). -/
theorem mayHold_of_reserved {s : State} {x : Queue} (hr : heldBy s x < x.r) (hsize : x.r < x.size) : mayHold s x = true := by
  simp only [mayHold, Bool.and_eq_true, Bool.or_eq_true, decide_eq_true_eq]
  exact ⟨by omega, .inl hr⟩

/-- A command fetched is one more that its queue holds. -/
theorem heldBy_fetched (s : State) (c q n : Nat) (f : Queue → Queue) (x : Queue) :
    heldBy (s.modQueue c q f) { x with fetched := x.fetched + n } = heldBy s x + n :=
  (Nat.add_assoc _ x.fetched n).symm

/-- What the reservation covers is fetched whole, without a shared context (R144 rule 1). -/
theorem fetchUpTo_of_reserved (c q k : Nat) : ∀ (n : Nat) {s : State} {x : Queue}, queueOf s c q = some x → heldBy s x + n ≤ x.r →
    x.r < x.size → fetchUpTo c q n k s = (n, s.modQueue c q fun y => { y with fetched := y.fetched + n })
  | 0, s, _, _, _, _ => congrArg (Prod.mk 0) (State.modQueue_id s c q).symm
  | n + 1, s, x, h, hr, hsize => by
    have hown : heldBy s x < x.r := by omega
    have hnext := fetchUpTo_of_reserved c q k n (queueOf_modQueue (f := fun y => { y with fetched := y.fetched + 1 }) h)
      (by rw [heldBy_fetched]; dsimp only; omega) hsize
    rw [State.modQueue_modQueue s c q (f := fun y => { y with fetched := y.fetched + 1 }) fun _ => ⟨rfl, rfl⟩] at hnext
    simp only [fetchUpTo, h, mayHold_of_reserved hown hsize, hown, decide_true, true_or, and_self, if_true, hnext, Nat.add_assoc,
      Nat.add_comm 1]

section
variable {s : State} {c q avail : Nat} {x : Queue}

/-- A turn of a queue of a ready PCIe controller while commands are taken. -/
theorem doSqFetch_of_taking (ht : taking s = true) (hc : c < 2) (hq : queueOf s c q = some x) (hr : (ctrlOf s c).map (·.rdy) = some true)
    {k n : Nat} {u v : State} (hk : k = turnShare s c q) (hu : (n, u) = fetchUpTo c q (min 8 avail) k s)
    (hv : v = u.modQueue c q fun y => { y with
      waiting := if n < min 8 avail then avail - n else 0, throttledFull := y.throttledFull && n = 0 }) :
    doSqFetch c q avail s = lowCheck (sharedFree s)
      (if k = 0 then v else { v with ce.rr := (s.ce.queues.findIdx fun x => x.ctrl = c && x.qid = q) + 1 }) := by
  subst hk hv
  simp only [doSqFetch, hq, hr, ht, Nat.not_le.mpr hc, ← hu, Option.getD_some, not_true_eq_false, or_self, if_false]

/-- The round-robin pointer and the low mark touch no queue, no context and no store. -/
theorem turnEnd_spec (n k i : Nat) (v : State) : SameStores v (lowCheck n (if k = 0 then v else { v with ce.rr := i })) ∧
    (lowCheck n (if k = 0 then v else { v with ce.rr := i })).ce.ctxs = v.ce.ctxs ∧
    queueOf (lowCheck n (if k = 0 then v else { v with ce.rr := i })) c q = queueOf v c q := by
  refine ⟨?_, ?_, queueOf_congr ?_ c q⟩
  · split <;> exact sameStores_lowCheck n _
  · rw [lowCheck_ce]; split <;> rfl
  · rw [lowCheck_ce]; split <;> rfl

/-- A turn that the reservation covers takes every command it is offered. -/
theorem doSqFetch_of_reserved (ht : taking s = true) (hc : c < 2) (hq : queueOf s c q = some x) (hr : (ctrlOf s c).map (·.rdy) = some true)
    (hown : heldBy s x + min 8 avail ≤ x.r) (hsize : x.r < x.size) :
    SameStores s (doSqFetch c q avail s) ∧ (doSqFetch c q avail s).ce.ctxs = s.ce.ctxs ∧
    queueOf (doSqFetch c q avail s) c q = some { x with
      fetched := x.fetched + min 8 avail, waiting := 0, throttledFull := x.throttledFull && min 8 avail = 0 } := by
  obtain ⟨hstores, hctxs, hqueue⟩ := turnEnd_spec (c := c) (q := q) (sharedFree s) (turnShare s c q) _ _
  rw [doSqFetch_of_taking ht hc hq hr rfl (fetchUpTo_of_reserved c q _ _ hq hown hsize).symm rfl]
  refine ⟨hstores, hctxs, hqueue.trans ((queueOf_modQueue (queueOf_modQueue hq)).trans ?_)⟩
  rw [if_neg (Nat.lt_irrefl _)]

end

/-! ### Capsules, credits and grants (R142, R144) -/

section
variable {s : State} {c q bytes : Nat} {x : Queue}

/-- A capsule that finds a credit takes it. -/
theorem doCapsuleReceipt_of_credit (ht : taking s = true) (hc : 16 ≤ c) (hb : bytes ≤ 16384) (hq : queueOf s c q = some x)
    (hcr : 0 < x.credits) : doCapsuleReceipt c q bytes s = ackCredits c q (s.modQueue c q fun y => { y with
      credits := y.credits - 1, fetched := y.fetched + 1, idle := 0, usedLast := y.usedLast || decide (y.credits = 1) }) := by
  have hcap : ¬ (c < 16 ∨ capsuleMax < bytes) := by rw [capsuleMax]; omega
  simp only [doCapsuleReceipt, if_neg hcap, hq, ht, hcr, and_self, if_true]

/-- A SEND with more data than a capsule may hold is no capsule. -/
theorem doCapsuleReceipt_of_long (h : 16384 < bytes) : doCapsuleReceipt c q bytes s = s := if_pos (.inr h)

/-- A SEND beyond the credits is answered by RNR NAK. -/
theorem doCapsuleReceipt_of_no_credit (hc : 16 ≤ c) (hb : bytes ≤ 16384) (hq : queueOf s c q = some x) (hcr : x.credits = 0) :
    doCapsuleReceipt c q bytes s = rnrNak x.qp s := by
  have hcap : ¬ (c < 16 ∨ capsuleMax < bytes) := by rw [capsuleMax]; omega
  simp only [doCapsuleReceipt, if_neg hcap, hq, hcr, Nat.lt_irrefl, and_false, if_false]

theorem doCreditWithdraw_eq (hq : queueOf s c q = some x) : doCreditWithdraw c q s = if 16 ≤ x.idle ∧ x.r < heldBy s x then
    ackCredits c q (s.modQueue c q fun y => { y with credits := y.credits - min y.credits (heldBy s x - x.r), idle := 0 }) else s := by
  rw [doCreditWithdraw, hq]

/-- An acknowledgement on a PCIe queue sends nothing. -/
theorem ackCredits_of_pcie (hc : c < 16) : ackCredits c q s = s := by
  unfold ackCredits
  split
  · exact if_neg (Nat.not_le.mpr hc)
  · rfl

variable {i : Nat}

/-- The queue served next on a fabric gets a credit. -/
theorem doContextGrant_of_fabric (ht : taking s = true) (hn : nextQueue s = some (i, x)) (hc : 16 ≤ x.ctrl) :
    doContextGrant s = lowCheck (sharedFree s) (ackCredits x.ctrl x.qid (State.modQueue { s with ce.rr := i + 1 } x.ctrl x.qid fun y =>
      { y with credits := y.credits + 1, idle := 0 })) := by
  simp only [doContextGrant, ht, hn, hc, not_true_eq_false, if_false, if_true]

/-- The queue served next on PCIe fetches a command. -/
theorem doContextGrant_of_pcie (ht : taking s = true) (hn : nextQueue s = some (i, x)) (hc : x.ctrl < 16) :
    doContextGrant s = lowCheck (sharedFree s) (State.modQueue { s with ce.rr := i + 1 } x.ctrl x.qid fun y =>
      { y with fetched := y.fetched + 1, waiting := y.waiting - 1, throttledFull := false }) := by
  simp only [doContextGrant, ht, hn, Nat.not_le.mpr hc, ackCredits_of_pcie hc, not_true_eq_false, if_false]

end

/-- The admin command that arrived first gets the context that is free (R146). -/
theorem doAdminContextGrant_of_free {s : State} {i : Instr} {rest : List Instr} (ht : taking s = true) (hw : s.ce.adminWait = i :: rest)
    (hh : adminHeld s < 64) (hn : saniForbids i = false ∨ sanitizing s = false) :
    doAdminContextGrant s = adminDo i { s with ce.adminWait := rest } := by
  have hok : ¬ (saniForbids i = true ∧ sanitizing { s with ce.adminWait := rest } = true) := by
    rintro ⟨hf, hz⟩
    rcases hn with hn | hn
    · exact Bool.false_ne_true (hn.symm.trans hf)
    · exact Bool.false_ne_true (hn.symm.trans hz)
  rw [doAdminContextGrant, hw]
  exact (if_pos ⟨.inl hh, ht⟩).trans (if_neg hok)

/-- Settles O16: a turn by what it may fetch, which the reservation covers whole by an induction over the commands fetched; capsules, credits
and grants by what the queue holds. -/
theorem queuesTakeContexts : Obligations.QueuesTakeContexts := by
  refine ⟨?turn, ?reserved, fun s c q n k => fetchUpTo_le c q n k s, fun s c q n k x hq hm => fetchUpTo_of_full hq hm n k,
    ?capsule, ?long, ?nak, ?withdraw, ?keep, ?fabric, ?pcie, ?admin⟩
  case turn =>
    intro s c q avail x ha ht hc hq hr k n u v hk hu hv
    exact .of_live_eq (exec_sqFetch c q avail s) ha (doSqFetch_of_taking ht hc hq hr hk hu hv)
  case reserved =>
    intro s c q avail x ha ht hc hq hr hown hsize
    exact .of_live (exec_sqFetch c q avail s) ha (doSqFetch_of_reserved ht hc hq hr hown hsize)
  case capsule =>
    intro s c q bytes x ha ht hc hb hq hcr
    exact .of_live_eq (exec_capsuleReceipt c q bytes s) ha (doCapsuleReceipt_of_credit ht hc hb hq hcr)
  case long =>
    intro s c q bytes ha hb
    exact .of_live_eq (exec_capsuleReceipt c q bytes s) ha (doCapsuleReceipt_of_long hb)
  case nak =>
    intro s c q bytes x p ha hc hb hq hcr hp
    refine .of_live_eq (exec_capsuleReceipt c q bytes s) ha ((doCapsuleReceipt_of_no_credit hc hb hq hcr).trans ?_)
    rw [rnrNak, hp]
    rfl
  case withdraw =>
    intro s c q x ha hq hidle hr
    exact .of_live_eq (exec_creditWithdraw c q s) ha ((doCreditWithdraw_eq hq).trans (if_pos ⟨hidle, hr⟩))
  case keep =>
    intro s c q x ha hq h
    exact .of_live_eq (exec_creditWithdraw c q s) ha ((doCreditWithdraw_eq hq).trans (if_neg (by omega)))
  case fabric =>
    intro s i x ha ht hn hc
    exact .of_live_eq (exec_contextGrant s) ha (doContextGrant_of_fabric ht hn hc)
  case pcie =>
    intro s i x ha ht hn hc
    exact .of_live_eq (exec_contextGrant s) ha (doContextGrant_of_pcie ht hn hc)
  case admin =>
    intro s i rest ha ht hw hh hn
    exact .of_live_eq (exec_adminContextGrant s) ha (doAdminContextGrant_of_free ht hw hh hn)

end Sys2Proof.Machine
end

section
/-! SUPPORT. Admin commands that have their context: Identify, Get Log Page, features, Abort, Asynchronous Event Requests, opcodes outside the
table (R146, R151, R152, R164 to R167). -/

namespace Sys2Proof.Machine

/-! ### A command with a context (R146) -/

/-- With a context free, what an admin command does is its whole effect. -/
theorem gives_admin {c i : Instr} {h : IoHdr} {s t : State} (a : AdminFree h s) (e : exec c s = live s (adminGo h i s))
    (hn : saniForbids i = false ∨ sanitizing s = false) (hd : adminDo i s = t) : Gives c s t :=
  .of_live_eq e a.1 ((adminGo_free a hn).trans hd)

/-- With a context free, an admin command leaves what its effect leaves. -/
theorem runs_admin {c i : Instr} {h : IoHdr} {s : State} {P : State → Prop} (a : AdminFree h s) (e : exec c s = live s (adminGo h i s))
    (hn : saniForbids i = false ∨ sanitizing s = false) (hp : P (settle (adminDo i s))) : Runs c s P :=
  .of_live (e.trans (congrArg (live s) (adminGo_free a hn))) a.1 hp

/-- With no command that waits, no Abort waits (R152). -/
theorem doAbort_of_free {h : IoHdr} {s : State} (a : AdminFree h s) (sq cid : Nat) : doAbort h sq cid s = adminGo h (.abort h sq cid) s := by
  obtain ⟨_, _, _, hw, _⟩ := a
  simp [doAbort, hw]

theorem doInvalidOpcode_of_admin {h : IoHdr} (hq : h.q = 0) (opc : Nat) (s : State) :
    doInvalidOpcode h opc s = adminGo h (.invalidOpcode h opc) s := if_pos hq

/-! ### Identify and log pages (R164 to R167) -/

section
variable {s : State} {h : IoHdr} {c : Ctrl} (hc : ctrlOf s h.ctrl = some c)
include hc

theorem identifyGo_controller (nsid : Nat) : identifyGo h 1 nsid s = cqeInfo h (idCtrl s c) s := by
  simp only [identifyGo, hc]

theorem identifyGo_active (nsid : Nat) : identifyGo h 2 nsid s = cqeInfo h ((activeNs s nsid).take 1024) s := by
  simp only [identifyGo, hc]

theorem identifyGo_namespace {nsid : Nat} {n : Ns} (hn : nsById s nsid = some n) : identifyGo h 0 nsid s = cqeInfo h (idNs s n) s := by
  simp only [identifyGo, hc, hn]

theorem identifyGo_no_namespace {nsid : Nat} (hn : nsById s nsid = none) : identifyGo h 0 nsid s = cqeSt h stNs s := by
  simp only [identifyGo, hc, hn]

/-- The error log is returned from the offset asked for, and its event may be posted again. -/
theorem getLog_errors {nsid off len : Nat} {bs : List Nat} (hl : logOf s c nsid 1 off len = .page bs) (ho : off ≤ bs.length) :
    getLog h nsid 1 off len s =
      cqeInfo h ((bs.drop off).take len) (s.modCtrl h.ctrl fun x => { x with logs := x.logs.filter (· ≠ 1) }) := by
  simp [getLog, hc, hl, Nat.not_lt.mpr ho]

/-! ### Features -/

/-- A feature of Set Features takes effect on the controller of the header. -/
theorem adminDo_setFeatures (fid nsid v : Nat) (save : Bool) :
    adminDo (.setFeatures h fid nsid v save) s = setFeature h c fid nsid v save s := by
  simp only [adminDo, hc]

theorem adminDo_getFeatures (fid v : Nat) : adminDo (.getFeatures h fid v) s = getFeature h c fid v s := by
  simp only [adminDo, hc]

/-! ### Asynchronous Event Requests (R146) -/

/-- With no admin command in front of it a request takes effect at once. -/
theorem doAsynchronousEventRequest_of_first (ho : adminOpen s h = true) (hw : adminWaiting s h.ctrl = 0) :
    doAsynchronousEventRequest h s = aerGo h c s := by
  simp [doAsynchronousEventRequest, hc, ho, hw]

end

theorem setFeature_saved (h : IoHdr) (c : Ctrl) (fid nsid v : Nat) (s : State) : setFeature h c fid nsid v true s = cqeSt h (1, 0xD, true) s := rfl

/-- Arbitration keeps its value where the burst is the one of R165. -/
theorem setFeature_arbitration (h : IoHdr) (c : Ctrl) (nsid v : Nat) (s : State) :
    setFeature h c 1 nsid v false s = if bits v 0 3 = 3 then cqeSt h stOk (putFeat c.id 1 v s) else cqeSt h stField s := rfl

/-- A request that finds a slot and no event that waits is kept. -/
theorem aerGo_of_slot {c : Ctrl} (hl : c.aer.length < 4) (hp : c.aenPend = []) (h : IoHdr) (s : State) :
    aerGo h c s = s.modCtrl c.id fun x => { x with aer := x.aer ++ [h.cid] } := by
  simp only [aerGo, if_neg (Nat.not_le.mpr hl), hp]

theorem aerGo_of_full {c : Ctrl} (hl : 4 ≤ c.aer.length) (h : IoHdr) (s : State) : aerGo h c s = cqeSt h (1, 5, true) s := if_pos hl

/-- Settles O18: each command by what `adminDo` does once it has its context. -/
theorem adminCommandsAnswer : Obligations.AdminCommandsAnswer := by
  refine ⟨?identify, ?held, ?unheld, ?log, ?set, ?get, ?abort, ?event, ?fifth, ?opcode⟩
  case identify =>
    intro s h c nsid a hc
    exact ⟨gives_admin a rfl (.inl rfl) (identifyGo_controller hc nsid), gives_admin a rfl (.inl rfl) (identifyGo_active hc nsid)⟩
  case held =>
    intro s h c nsid n a hc hn
    exact gives_admin a rfl (.inl rfl) (identifyGo_namespace hc hn)
  case unheld =>
    intro s h c nsid a hc hn
    exact gives_admin a rfl (.inl rfl) (identifyGo_no_namespace hc hn)
  case log =>
    intro s h c nsid off len bs a hc hl ho
    exact gives_admin a rfl (.inl rfl) (getLog_errors hc hl ho)
  case set =>
    intro s h c nsid v a hc
    refine ⟨fun hv => gives_admin a rfl (.inl rfl) ?_, fun hv => gives_admin a rfl (.inl rfl) ?_, gives_admin a rfl (.inl rfl) ?_⟩
    · rw [adminDo_setFeatures hc, setFeature_arbitration, if_pos hv]
    · rw [adminDo_setFeatures hc, setFeature_arbitration, if_neg hv]
    · rw [adminDo_setFeatures hc, setFeature_saved]
  case get =>
    intro s h c v a hc
    exact ⟨gives_admin a rfl (.inl rfl) (adminDo_getFeatures hc 1 v), gives_admin a rfl (.inl rfl) (adminDo_getFeatures hc 0x0B v)⟩
  case abort =>
    intro s h sq cid a
    have e : exec (.abort h sq cid) s = live s (doAbort h sq cid s) := rfl
    rw [doAbort_of_free a] at e
    exact gives_admin a e (.inl rfl) rfl
  case event =>
    intro s h c ha ho hc hw hl hp
    have e : exec (.asynchronousEventRequest h) s = live s (doAsynchronousEventRequest h s) := rfl
    exact .of_live_eq e ha ((doAsynchronousEventRequest_of_first hc ho hw).trans (aerGo_of_slot hl hp h s))
  case fifth =>
    intro s h c ha ho hc hw hl
    have e : exec (.asynchronousEventRequest h) s = live s (doAsynchronousEventRequest h s) := rfl
    exact .of_live_eq e ha ((doAsynchronousEventRequest_of_first hc ho hw).trans (aerGo_of_full hl h s))
  case opcode =>
    intro s h opc a hq
    have e : exec (.invalidOpcode h opc) s = live s (doInvalidOpcode h opc s) := rfl
    rw [doInvalidOpcode_of_admin hq] at e
    exact gives_admin a e (.inl rfl) rfl

end Sys2Proof.Machine
end

section
/-! SUPPORT. Firmware: the image downloaded, the commit of an image, the boot record's preferred slot, and the phases of an activation (R156,
R314, Table 6.3). -/

namespace Sys2Proof.Machine

/-- The meanings of the rows of an activation. -/
theorem exec_flashWriteComplete (ok : Bool) (s : State) : exec (.flashWriteComplete ok) s = live s (mbxPump (flashWriteEnd ok s)) := rfl

theorem exec_fwActivationCheckDone (ok : Bool) (s : State) :
    exec (.fwActivationCheckDone ok) s = live s (doFwActivationCheckDone ok s) := rfl

theorem exec_fwActivationDrainDone (s : State) : exec .fwActivationDrainDone s = live s (doFwActivationDrainDone s) := rfl

theorem exec_fwActivationResume (ms : Nat) (s : State) : exec (.fwActivationResume ms) s = live s (doFwActivationResume ms s) := rfl

theorem exec_actDone (s : State) : exec .actDone s = live s (doActDone s) := rfl

/-! ### Completions -/

/-- A completion with a status is among the outputs. -/
theorem completed_cqeSt (h : IoHdr) (st : Status) (s : State) : Completed h st [] (cqeSt h st s) := ⟨_, cqe_mem h st.1 st.2.1 st.2.2 0 [] s⟩

/-- A completion stays among the outputs after the aggregation stage. -/
theorem Completed.settle {h : IoHdr} {st : Status} {data : List Block} {t : State} (hc : Completed h st data t) :
    Completed h st data (settle t) :=
  hc.imp fun _ hd => settle_mem hd

/-- Of the command engine a completion changes the controllers' counts and the error log alone. -/
theorem cqe_ce (h : IoHdr) (sct sc : Nat) (dnr : Bool) (d : Nat) (data : List Block) (s : State) :
    ∃ cs es, (cqe h sct sc dnr d data s).ce = { s.ce with ctrls := cs, errs := es } := by
  unfold cqe adminDone errLog
  dsimp only
  split <;> split <;> exact ⟨_, _, rfl⟩

/-! ### The boot record (R320, R322) -/

theorem prefer_preferred (i : Nat) (s : State) : (prefer i s).nv.preferred = i := by
  cases ha : s.nv.bootA with
  | none =>
    cases hb : s.nv.bootB with
    | none => simp [prefer, bootInForce, Nv.preferred, ha, hb]
    | some b => simp [prefer, bootInForce, Nv.preferred, ha, hb, Nat.not_lt.mpr (Nat.le_succ b.seq)]
  | some a =>
    cases hb : s.nv.bootB with
    | none => simp [prefer, bootInForce, Nv.preferred, ha, hb]
    | some b =>
      by_cases hab : a.seq < b.seq
      · simp [prefer, bootInForce, Nv.preferred, ha, hb, hab, Nat.not_lt.mpr (Nat.le_succ b.seq)]
      · simp [prefer, bootInForce, Nv.preferred, ha, hb, hab]

/-- Beside the clean start and the two copies of the boot record nothing changes. -/
theorem prefer_spec (i : Nat) (s : State) : ∃ a b, prefer i s = { s with nv.clearBoot := true, nv.bootA := a, nv.bootB := b } := by
  unfold prefer
  dsimp only
  split
  · exact ⟨s.nv.bootA, _, rfl⟩
  · exact ⟨_, s.nv.bootB, rfl⟩
  · exact ⟨_, s.nv.bootB, rfl⟩

theorem prefer_clearBoot (i : Nat) (s : State) : (prefer i s).nv.clearBoot = true := by
  obtain ⟨a, b, h⟩ := prefer_spec i s
  rw [h]

theorem prefer_regs (i : Nat) (s : State) : (prefer i s).regs = s.regs := by
  obtain ⟨a, b, h⟩ := prefer_spec i s
  rw [h]

theorem prefer_slotImg (i k : Nat) (s : State) : slotImg (prefer i s) k = slotImg s k := by
  obtain ⟨a, b, h⟩ := prefer_spec i s
  rw [h]
  rfl

theorem prefer_mbx (i : Nat) (s : State) : (prefer i s).mbx = s.mbx := by
  obtain ⟨a, b, h⟩ := prefer_spec i s
  rw [h]

theorem prefer_pair (i : Nat) (s : State) : (prefer i s).pair = s.pair := by
  obtain ⟨a, b, h⟩ := prefer_spec i s
  rw [h]

theorem prefer_ce (i : Nat) (s : State) : (prefer i s).ce = s.ce := by
  obtain ⟨a, b, h⟩ := prefer_spec i s
  rw [h]

/-! ### Download and commit -/

/-- The first piece of an image replaces what was downloaded. -/
theorem downloadGo_first {len : Nat} (h0 : 0 < len) (h4 : len % 4 = 0) (hmax : len ≤ 28 * 2 ^ 20) (h : IoHdr) (img : Image) (s : State) :
    downloadGo h 0 len img s = cqeSt h stOk { s with ce.download := [(0, len)], ce.dlImage := some img } := by
  have hok : ¬ (len = 0 ∨ 0 % 4 ≠ 0 ∨ len % 4 ≠ 0 ∨ 28 * 2 ^ 20 < 0 + len) := by omega
  rw [downloadGo, if_neg hok]
  simp

section
variable {s : State} {slot : Nat} {img : Image} (hslot : slot = 1 ∨ slot = 2) (hck : imageCheck s 0 img = none)
include hslot hck

/-- An image that its slot holds and that passes its checks becomes the preferred one. -/
theorem commitGo_prefer (himg : slotImg s (slot - 1) = some img) (h : IoHdr) :
    commitGo h slot 2 s = cqeSt h stOk ((prefer (slot - 1) s).wr R.HPT_CE_ACT_LAST_STATUS 0) := by
  have h2 : ¬ 2 < slot := by omega
  have h0 : slot ≠ 0 := by omega
  simp [commitGo, h2, h0, himg, hck, commitEnd, stOk]

/-- An image that was downloaded whole and passes its checks waits for its flash write. -/
theorem commitGo_write {action : Nat} (hact : action < 2) (hwhole : downloadWhole s = true) (himg : s.ce.dlImage = some img) (h : IoHdr) :
    commitGo h slot action s = { s with
      ce.download := [], ce.dlImage := none, ce.fwWrites := s.ce.fwWrites ++ [⟨some h, slot - 1, action, img⟩] } := by
  have h2 : ¬ 2 < slot := by omega
  have h0 : slot ≠ 0 := by omega
  have ha3 : ¬ 3 < action := by omega
  have hne3 : action ≠ 3 := by omega
  have hne2 : action ≠ 2 := by omega
  simp only [commitGo, ha3, h2, h0, hne3, hne2, hwhole, himg, hck, and_false, false_and, or_self, if_false, if_true]

end

theorem slotImg_putSlot {k : Nat} (hk : k < 2) (x : Option Image) (s : State) : slotImg (putSlot k x s) k = x := by
  obtain rfl | rfl : k = 0 ∨ k = 1 := by omega
  · rfl
  · rfl

theorem putSlot_mbx (k : Nat) (x : Option Image) (s : State) : (putSlot k x s).mbx = s.mbx := by
  unfold putSlot
  split <;> rfl

theorem slotImg_congr {s t : State} (h : t.nv = s.nv) (k : Nat) : slotImg t k = slotImg s k := by
  unfold slotImg
  rw [h]

/-- With no request that waits the mailbox starts none. -/
theorem mbxPump_of_idle {s : State} (h : s.mbx.wait = []) : mbxPump s = s := by
  rw [mbxPump, h]
  rfl

/-- Where no mailbox command writes the flash, the oldest write of a Firmware Commit has ended, and the mailbox goes on. -/
theorem flashWriteEnd_of_commit {s : State} {w : FwWrite} {ws : List FwWrite} (hop : s.dwn.flashOp = none) (hws : s.ce.fwWrites = w :: ws)
    (ok : Bool) : flashWriteEnd ok s = fwWritten w ok { s with ce.fwWrites := ws } := by
  rw [flashWriteEnd, hop, hws]

/-- A slot write that ends without an activation: the slot holds the image, which action 001b makes the preferred one, and the command
completes. -/
theorem fwWritten_spec {w : FwWrite} {h : IoHdr} (hh : w.h = some h) (hk : w.slot < 2) (ha : w.action ≠ 3) (s : State) :
    slotImg (fwWritten w true s) w.slot = some w.img ∧ (w.action ≠ 0 → (fwWritten w true s).nv.preferred = w.slot) ∧
    Completed h stOk [] (fwWritten w true s) ∧ (fwWritten w true s).mbx = s.mbx := by
  have hw : fwWritten w true s = cqeSt h stOk ((if w.action = 0 then putSlot w.slot (some w.img) s
      else prefer w.slot (putSlot w.slot (some w.img) s)).wr R.HPT_CE_ACT_LAST_STATUS stOk.2.1) := by
    simp only [fwWritten, not_true_eq_false, if_false, if_neg ha, commitEnd, hh]
  rw [hw]
  refine ⟨?_, fun h0 => ?_, completed_cqeSt h stOk _, ?_⟩
  · rw [slotImg_congr (cqeSt_nv _ h stOk), slotImg_congr (State.wr_nv _ _ _)]
    split
    · exact slotImg_putSlot hk _ s
    · exact (prefer_slotImg _ _ _).trans (slotImg_putSlot hk _ s)
  · rw [cqeSt_nv, State.wr_nv, if_neg h0]
    exact prefer_preferred _ _
  · rw [cqeSt_mbx, State.wr_mbx]
    split
    · exact putSlot_mbx _ _ s
    · exact (prefer_mbx _ _).trans (putSlot_mbx _ _ s)

/-! ### The phases of an activation (Table 6.3) -/

/-- The end of a commit writes LAST_STATUS alone among the registers. -/
theorem commitEnd_rd (h : Option IoHdr) (st : Status) (s : State) (f : Fld) :
    (commitEnd h st s).rd f = (s.wr R.HPT_CE_ACT_LAST_STATUS st.2.1).rd f := by
  cases h with
  | none => rfl
  | some h => exact cqeSt_rd _ h st f

theorem commitEnd_nv (h : Option IoHdr) (st : Status) (s : State) : (commitEnd h st s).nv = s.nv := by
  cases h with
  | none => rfl
  | some h => exact cqeSt_nv _ h st

theorem cqeSt_commit (h : IoHdr) (st : Status) (s : State) : (cqeSt h st s).ce.commit = s.ce.commit := by
  obtain ⟨cs, es, hce⟩ := cqe_ce h st.1 st.2.1 st.2.2 0 [] s
  rw [cqeSt, hce]

theorem commitEnd_commit (h : Option IoHdr) (st : Status) (s : State) : (commitEnd h st s).ce.commit = s.ce.commit := by
  cases h with
  | none => rfl
  | some h => exact cqeSt_commit h st _

/-- The command of a commit, where its controller still stands, completes. -/
theorem completed_commitEnd (h : IoHdr) (st : Status) (s : State) : Completed h st [] (commitEnd (some h) st s) := completed_cqeSt h st _

section
variable {s : State} {c : Commit}

/-- The check ends well outside a pair: the drain begins. -/
theorem doFwActivationCheckDone_of_alone (hc : s.ce.commit = some c) (hp : s.rd R.HPT_CE_ACT_PHASE = 1)
    (hw : s.rd R.HPT_CE_ACT_PAIR_WAIT = 0) (h2 : s.pairState ≠ 2) (h3 : s.pairState ≠ 3) : doFwActivationCheckDone true s = actDrain s := by
  simp [doFwActivationCheckDone, hc, hp, State.on, hw, h2, h3]

/-- The check fails: the commit ends with Invalid Firmware Image. -/
theorem doFwActivationCheckDone_of_failed (hc : s.ce.commit = some c) (hp : s.rd R.HPT_CE_ACT_PHASE = 1)
    (hw : s.rd R.HPT_CE_ACT_PAIR_WAIT = 0) :
    doFwActivationCheckDone false s = commitBad c.h ({ s with ce.commit := none }.wr R.HPT_CE_ACT_PHASE 0) := by
  simp [doFwActivationCheckDone, hc, hp, State.on, hw]

/-- In the drain PHASE reads 2, fetching is stopped and ACT_START is raised. -/
theorem rd_actDrain (s : State) : (actDrain s).rd R.HPT_CE_ACT_PHASE = 2 ∧ (actDrain s).rd R.HPT_CE_STATUS_FETCH_STOPPED = 1 ∧
    (actDrain s).rd R.HPT_CE_INT_STATUS_ACT_START = 1 := by
  unfold actDrain
  generalize noticeFw (setPp true s) = u
  refine ⟨?_, ?_, ?_⟩
  · show (State.raise _ R.HPT_CE_INT_STATUS_ACT_START).rd R.HPT_CE_ACT_PHASE = 2
    rw [State.rd_raise_ne _ (by decide), State.rd_wr_ne _ (by decide), State.rd_wr_same]
    rfl
  · show (State.raise _ R.HPT_CE_INT_STATUS_ACT_START).rd R.HPT_CE_STATUS_FETCH_STOPPED = 1
    rw [State.rd_raise_ne _ (by decide), State.rd_wr_same]
    rfl
  · exact (State.rd_raise_same _ _ _).trans (or_one_mod_two _)

/-- Nothing is in execution any more: the switch follows at the next boundary. -/
theorem doFwActivationDrainDone_of_drained (hp : s.rd R.HPT_CE_ACT_PHASE = 2) (hd : drained s = true) :
    doFwActivationDrainDone s = { s with ce.actReady := true } := if_pos ⟨hp, hd⟩

/-- The state in which service resumes: the image of the slot preferred, PHASE and FETCH_STOPPED 0, the pause kept. -/
def serviceResumed (slot ms : Nat) (s : State) : State :=
  ((((setPp false (prefer slot s)).wr R.HPT_CE_ACT_PHASE 0).wr R.HPT_CE_STATUS_FETCH_STOPPED 0).raise R.HPT_CE_INT_STATUS_ACT_DONE).wr
    R.HPT_CE_ACT_LAST_PAUSE_MS (min 65535 ms)

theorem serviceResumed_rd_ne {f : Fld} (hph : f.key ≠ R.HPT_CE_ACT_PHASE.key) (hst : f.key ≠ R.HPT_CE_STATUS_FETCH_STOPPED.key)
    (hdone : f.key ≠ R.HPT_CE_INT_STATUS_ACT_DONE.key) (hms : f.key ≠ R.HPT_CE_ACT_LAST_PAUSE_MS.key) (slot ms : Nat) (s : State) :
    (serviceResumed slot ms s).rd f = s.rd f := by
  rw [serviceResumed, State.rd_wr_ne _ hms, State.rd_raise_ne _ hdone, State.rd_wr_ne _ hst, State.rd_wr_ne _ hph]
  exact State.rd_congr (prefer_regs slot s) f

theorem serviceResumed_rd (slot ms : Nat) (s : State) : (serviceResumed slot ms s).rd R.HPT_CE_ACT_PHASE = 0 ∧
    (serviceResumed slot ms s).rd R.HPT_CE_STATUS_FETCH_STOPPED = 0 ∧
    (serviceResumed slot ms s).rd R.HPT_CE_ACT_LAST_PAUSE_MS = min 65535 ms ∧
    (serviceResumed slot ms s).rd R.HPT_CE_INT_STATUS_ACT_DONE = 1 := by
  unfold serviceResumed
  refine ⟨?_, ?_, ?_, ?_⟩
  · rw [State.rd_wr_ne _ (by decide), State.rd_raise_ne _ (by decide), State.rd_wr_ne _ (by decide), State.rd_wr_same]
    rfl
  · rw [State.rd_wr_ne _ (by decide), State.rd_raise_ne _ (by decide), State.rd_wr_same]
    rfl
  · rw [State.rd_wr_same]
    exact Nat.mod_eq_of_lt (by rw [R.HPT_CE_ACT_LAST_PAUSE_MS_w]; omega)
  · rw [State.rd_wr_ne _ (by decide), State.rd_raise_same]
    exact or_one_mod_two _

theorem serviceResumed_commit (slot ms : Nat) (s : State) : (serviceResumed slot ms s).ce.commit = s.ce.commit := by
  show (prefer slot s).ce.commit = s.ce.commit
  rw [prefer_ce]

theorem serviceResumed_preferred (slot ms : Nat) (s : State) : (serviceResumed slot ms s).nv.preferred = slot := prefer_preferred slot s

theorem serviceResumed_pairState (slot ms : Nat) (s : State) : (serviceResumed slot ms s).pairState = s.pairState :=
  serviceResumed_rd_ne (by decide) (by decide) (by decide) (by decide) slot ms s

theorem serviceResumed_linkUp (slot ms : Nat) (s : State) : (serviceResumed slot ms s).rd R.SPR_LINK_UP = s.rd R.SPR_LINK_UP :=
  serviceResumed_rd_ne (by decide) (by decide) (by decide) (by decide) slot ms s

theorem serviceResumed_pair (slot ms : Nat) (s : State) : (serviceResumed slot ms s).pair = s.pair := prefer_pair slot s

/-- The first unit of a pair reports its activation and asks for the switchover; its commit waits (R314 steps 3 and 4). -/
theorem doFwActivationResume_of_first (hc : s.ce.commit = some c) (hp : 3 ≤ s.rd R.HPT_CE_ACT_PHASE) (h2 : s.pairState = 2)
    (hup : s.rd R.SPR_LINK_UP = 1) (hsec : s.pair.second = false) (ms : Nat) :
    doFwActivationResume ms s = ((serviceResumed c.slot ms s).emit (.spar 9 [5])).emit (.spar 9 [1]) := by
  have hon : (serviceResumed c.slot ms s).on R.SPR_LINK_UP = true := by simp [State.on, serviceResumed_linkUp, hup]
  have hst := (serviceResumed_pairState c.slot ms s).trans h2
  have hfirst : s.pairState = 2 ∧ s.on R.SPR_LINK_UP ∧ ¬ s.pair.second := ⟨h2, by simp [State.on, hup], by simp [hsec]⟩
  have hpair : ((serviceResumed c.slot ms s).emit (.spar 9 [5])).pair.second = false :=
    (congrArg Pair.second (serviceResumed_pair c.slot ms s)).trans hsec
  rw [doFwActivationResume, hc]
  refine (if_neg (Nat.not_lt.mpr hp)).trans ((if_pos hfirst).trans ((if_pos ⟨hst, hon⟩).trans (if_neg ?_)))
  exact fun h => Bool.false_ne_true (hpair.symm.trans h)

/-- A unit on its own ends its commit with the resume. -/
theorem doFwActivationResume_of_alone (hc : s.ce.commit = some c) (hp : 3 ≤ s.rd R.HPT_CE_ACT_PHASE) (h2 : s.pairState ≠ 2) (ms : Nat) :
    doFwActivationResume ms s = commitEnd c.h stOk { serviceResumed c.slot ms s with pair.second := false, ce.commit := none } := by
  have hst : ¬ ((serviceResumed c.slot ms s).pairState = 2 ∧ (serviceResumed c.slot ms s).on R.SPR_LINK_UP = true) :=
    fun h => h2 ((serviceResumed_pairState c.slot ms s).symm.trans h.1)
  rw [doFwActivationResume, hc]
  refine (if_neg (Nat.not_lt.mpr hp)).trans ((if_neg fun h => h2 h.1).trans ?_)
  refine congrArg (fun t : State => commitEnd c.h stOk { t with pair.second := false, ce.commit := none }) (if_neg hst)

/-- The peer has activated too: the commit that waited for it ends (R314 step 6). -/
theorem doActDone_of_waiting (hc : s.ce.commit = some c) (hp : s.rd R.HPT_CE_ACT_PHASE = 0) (h3 : s.pairState = 3)
    (hup : s.rd R.SPR_LINK_UP = 1) :
    doActDone s = commitEnd c.h stOk { State.wr { s with pair.actUntil := 0, pair.lastRx := s.tet.epoch } R.HPT_CE_ACT_PAIR_WAIT 0 with
      ce.commit := none } := by
  have hok : ¬ (¬ sparUp s = true ∨ s.pairState ≠ 3) := by simp [sparUp, State.on, hup, h3]
  have hphase : State.rd (State.wr { s with pair.actUntil := 0, pair.lastRx := s.tet.epoch } R.HPT_CE_ACT_PAIR_WAIT 0)
      R.HPT_CE_ACT_PHASE = 0 := (State.rd_wr_ne _ (by decide) _).trans hp
  have hend : ∀ u : State, u.ce.commit = some c → u.rd R.HPT_CE_ACT_PHASE = 0 →
      pairCommitEnd u = commitEnd c.h stOk { u with ce.commit := none } := by
    intro u hu hp
    rw [pairCommitEnd, hu]
    exact if_pos hp
  rw [doActDone, if_neg hok]
  exact (if_neg fun h => h.2 hp).trans (hend _ hc hphase)

end

/-- Settles O19: the commits by `commitGo`, the slot write by `fwWritten_spec`, the phases by what each row of Table 6.3 writes. -/
theorem firmwareActivatesInPhases : Obligations.FirmwareActivatesInPhases := by
  refine ⟨?download, ?prefer, fun s i => ⟨prefer_preferred i s, prefer_clearBoot i s⟩, ?write, ?drain, rd_actDrain, ?failed, ?drained, ?first,
    ?peer, ?alone⟩
  case download =>
    intro s h len img a hz h0 h4 hmax
    exact gives_admin a rfl (.inr hz) (downloadGo_first h0 h4 hmax h img s)
  case prefer =>
    intro s h slot img a hz hslot himg hck
    exact gives_admin a rfl (.inr hz) (commitGo_prefer hslot hck himg h)
  case write =>
    intro s h slot action img a hz hslot hact hwhole himg hck
    have hgo := commitGo_write hslot hck hact hwhole himg h
    refine ⟨gives_admin a rfl (.inr hz) hgo, fun hws hop hwait => runs_admin a rfl (.inr hz) ?_⟩
    rw [adminDo, hgo, hws]
    generalize hu : settle _ = u
    have hend : flashWriteEnd true u = fwWritten ⟨some h, slot - 1, action, img⟩ true { u with ce.fwWrites := [] } :=
      flashWriteEnd_of_commit (by rw [← hu]; exact hop) (by rw [← hu]; rfl) true
    obtain ⟨himg', hpref, hdone, hmbx⟩ := fwWritten_spec (w := ⟨some h, slot - 1, action, img⟩) (s := { u with ce.fwWrites := [] }) rfl
      (by dsimp only; omega) (by dsimp only; omega)
    have hidle : (fwWritten ⟨some h, slot - 1, action, img⟩ true { u with ce.fwWrites := [] }).mbx.wait = [] := by
      rw [hmbx, ← hu]
      exact hwait
    refine .of_live (exec_flashWriteComplete true u) (by rw [← hu]; exact a.1) ?_
    rw [hend, mbxPump_of_idle hidle]
    exact ⟨himg', fun h1 => hpref (by dsimp only; omega), hdone.settle⟩
  case drain =>
    intro s c ha hc hp hw h2 h3
    exact .of_live_eq (exec_fwActivationCheckDone true s) ha (doFwActivationCheckDone_of_alone hc hp hw h2 h3)
  case failed =>
    intro s c ha hc hp hw
    refine .of_live (exec_fwActivationCheckDone false s) ha ?_
    rw [doFwActivationCheckDone_of_failed hc hp hw, commitBad]
    refine ⟨commitEnd_commit _ _ _, ?_, ?_, ?_⟩ <;> rw [settle_rd, commitEnd_rd]
    · rw [State.rd_wr_ne _ (by decide), State.rd_raise_ne _ (by decide), State.rd_wr_same]
      rfl
    · exact State.rd_wr_same _ _ _
    · rw [State.rd_wr_ne _ (by decide), State.rd_raise_same]
      exact or_one_mod_two _
  case drained =>
    intro s ha hp hd
    exact .of_live_eq (exec_fwActivationDrainDone s) ha (doFwActivationDrainDone_of_drained hp hd)
  case first =>
    intro s c ms ha hc hp h2 hup hsec
    refine .of_live (exec_fwActivationResume ms s) ha ?_
    rw [doFwActivationResume_of_first hc hp h2 hup hsec]
    obtain ⟨hphase, hfetch, -⟩ := serviceResumed_rd c.slot ms s
    exact ⟨(serviceResumed_commit c.slot ms s).trans hc, hphase, hfetch, settle_mem (.tail _ (.head _)), settle_mem (.head _)⟩
  case peer =>
    intro s c ha hc hp h3 hup
    refine .of_live (exec_actDone s) ha ?_
    rw [doActDone_of_waiting hc hp h3 hup]
    refine ⟨commitEnd_commit _ _ _, ?_, fun h hh => ?_⟩
    · rw [settle_rd, commitEnd_rd]
      exact State.rd_wr_same _ _ _
    · rw [hh]
      exact (completed_commitEnd h stOk _).settle
  case alone =>
    intro s c ms ha hc hp h2
    refine .of_live (exec_fwActivationResume ms s) ha ?_
    rw [doFwActivationResume_of_alone hc hp h2]
    obtain ⟨hphase, hfetch, hms, hdone⟩ := serviceResumed_rd c.slot ms s
    refine ⟨commitEnd_commit _ _ _, ?_, ?_, ?_, ?_, ?_, ?_, fun h hh => ?_⟩
    · exact (congrArg Nv.preferred (commitEnd_nv _ _ _)).trans (serviceResumed_preferred c.slot ms s)
    · rw [settle_rd, commitEnd_rd, State.rd_wr_ne _ (by decide)]
      exact hphase
    · rw [settle_rd, commitEnd_rd, State.rd_wr_ne _ (by decide)]
      exact hfetch
    · rw [settle_rd, commitEnd_rd, State.rd_wr_ne _ (by decide)]
      exact hms
    · rw [settle_rd, commitEnd_rd]
      exact State.rd_wr_same _ _ _
    · rw [settle_rd, commitEnd_rd, State.rd_wr_ne _ (by decide)]
      exact hdone
    · rw [hh]
      exact (completed_commitEnd h stOk _).settle

end Sys2Proof.Machine
end

section
/-! SUPPORT. Format NVM: what a Format takes, its steps over the stripes of a namespace, and its end (R157). -/

namespace Sys2Proof.Machine

theorem exec_formatProgressStep (s : State) : exec .formatProgressStep s = live s (doFormatProgressStep s) := rfl

/-! ### What a Format works on -/

/-- The namespaces, the long operations under way and the Format commands in execution. -/
def formatWork (s : State) : List Ns × List Prog × List FmtJob := (s.ns, s.nv.progs, s.ce.formats)

theorem formatWork_modDrive (s : State) (d : Nat) (f : Drive → Drive) : formatWork (s.modDrive d f) = formatWork s := by
  simp only [formatWork, State.modDrive_ns, State.modDrive_nv, State.modDrive_ce]

/-- A record changes the ring alone of what the Gondola keeps. -/
theorem formatWork_putRec (e : Nat) (b : RecBody) (c : Bool) (o : Nat) (s : State) : formatWork (putRec e b c o s) = formatWork s := by
  unfold putRec
  dsimp only
  split <;> rfl

theorem formatWork_record (b : RecBody) (s : State) : formatWork (record b s) = formatWork s := by
  have hcarry : ∀ u, formatWork (carryOld u) = formatWork u := fun u => by
    refine State.each_field formatWork (fun s (r : Rec) => ?_) u _
    split
    · exact formatWork_putRec _ _ _ _ s
    · rfl
  have hlow : ∀ u, formatWork (ringLowCheck u) = formatWork u := fun u => by
    unfold ringLowCheck
    split
    · split <;> rfl
    · rfl
  exact (hlow _).trans ((hcarry _).trans (formatWork_putRec _ _ _ _ s))

theorem formatWork_progressDue (k a m : Nat) (s : State) : formatWork (progressDue k a m s) = formatWork s := by
  unfold progressDue
  split <;> rfl

/-! ### Notices -/

/-- What neither a completion nor a controller holds, a notice leaves. -/
theorem postAen_field {β : Type} (g : State → β) (hcqe : ∀ h d s, g (cqe h 0 0 false d [] s) = g s)
    (hctrl : ∀ (s : State) c f, g (s.modCtrl c f) = g s) (c d : Nat) (s : State) : g (postAen c d s) = g s := by
  unfold postAen
  split
  · split
    · rfl
    · split
      · exact (hcqe _ _ _).trans (hctrl _ _ _)
      · exact hctrl _ _ _
  · rfl

theorem cqe_formats (h : IoHdr) (sct sc : Nat) (dnr : Bool) (d : Nat) (data : List Block) (s : State) :
    (cqe h sct sc dnr d data s).ce.formats = s.ce.formats := by
  obtain ⟨cs, es, hce⟩ := cqe_ce h sct sc dnr d data s
  rw [hce]

theorem noticeNs_formats (s : State) : (noticeNs s).ce.formats = s.ce.formats :=
  State.each_field (fun s => s.ce.formats) (fun s (c : Ctrl) => postAen_field (fun s => s.ce.formats) (fun h d s => cqe_formats h 0 0 false d [] s)
    (fun _ _ _ => rfl) c.id _ s) s _

theorem noticeNs_regs (s : State) : (noticeNs s).regs = s.regs :=
  State.each_field State.regs (fun s (c : Ctrl) => postAen_field State.regs (fun h d s => cqe_regs s h 0 0 false d [])
    (fun s c f => State.modCtrl_regs s c f) c.id _ s) s _

/-! ### The command -/

theorem formatTargets_of_one {s : State} {nsid : Nat} {n : Ns} (hall : nsid ≠ 0xFFFFFFFF) (hn : nsById s nsid = some n) :
    formatTargets s nsid = [n] := by
  rw [formatTargets, if_neg hall, hn]
  rfl

/-- The job of a Format of one namespace, and the long operation that it is. -/
def formatJob (h : IoHdr) (lbaf : Nat) (n : Ns) (s : State) : FmtJob :=
  ⟨some h, [n.idx], lbaf, (s.ce.ctxs.filter fun c => [n.idx].contains c.ns || c.nsid = 0xFFFFFFFF).map (·.id)⟩

/-- A Format of one namespace that nothing refuses waits for the commands outstanding. -/
theorem formatGo_of_one {s : State} {h : IoHdr} {nsid lbaf ses : Nat} {n : Ns} (hses : ses ≤ 1) (hall : nsid ≠ 0xFFFFFFFF)
    (hn : nsById s nsid = some n) (hok : formatRefusal s h n lbaf = none) :
    formatGo h nsid lbaf ses s = { s with
      ce.formats := s.ce.formats ++ [formatJob h lbaf n s], nv.progs := s.nv.progs ++ [⟨4, n.idx, 0, n.stripes, lbaf⟩] } := by
  simp [formatGo, formatTargets_of_one hall hn, Nat.not_lt.mpr hses, hok, formatJob]

/-! ### The steps -/

theorem doFormatProgressStep_of_found {s : State} {p : Prog} (hbg : bgOk s = true)
    (hp : s.nv.progs.find? (fun p => p.kind = 4 && formatMay s p) = some p) : doFormatProgressStep s = formatRun p s := by
  simp only [doFormatProgressStep, hbg, hp, not_true_eq_false, if_false]

/-- A Format whose command is the only one, with no command outstanding, may run. -/
theorem formatMay_of_only {s : State} {j : FmtJob} {p : Prog} (hj : s.ce.formats = [j]) (ht : j.todo = [p.ns]) (hc : s.ce.ctxs = []) :
    formatMay s p = true := by
  simp [formatMay, hj, ht, hc]

/-- What neither drives nor pending read repairs hold, deallocation leaves. -/
theorem stripesClear_field {β : Type} (g : State → β) (hdrive : ∀ (s : State) d f, g (s.modDrive d f) = g s)
    (hrep : ∀ (s : State) d lba n, g (repairsGone d lba n s) = g s) (a st cnt : Nat) (s : State) : g (stripesClear a st cnt s) = g s := by
  unfold stripesClear
  dsimp only
  refine (State.each_field g (fun s m => ?_) _ _).trans ?_
  · split
    · rfl
    · exact (hrep _ _ _ _).trans (hdrive _ _ _)
  · split
    · exact hdrive _ _ _
    · rfl

theorem repairsGone_lost (s : State) (d lba n a : Nat) : ((repairsGone d lba n s).arr a).lost = (s.arr a).lost := by
  simp only [repairsGone, State.arr, List.getD_eq_getElem?_getD, List.getElem?_map]
  cases s.arrs[a]? <;> rfl

/-- With an empty write store and no lost mark, giving up stripes clears media and cached copies alone. -/
theorem formatWork_rangeGone {s : State} {a : Nat} (hext : s.bsk.extents = []) (hlost : (s.arr a).lost = []) (st cnt : Nat) :
    formatWork (rangeGone a st cnt true s) = formatWork s := by
  unfold rangeGone
  dsimp only
  generalize hu : keysGone _ s = u
  have hextents : (stripesClear a st cnt u).bsk.extents = [] :=
    (stripesClear_field (fun s => s.bsk.extents) (fun s d f => congrArg Bsk.extents (State.modDrive_bsk s d f)) (fun _ _ _ _ => rfl) a st cnt u).trans
      (by rw [← hu]; exact hext)
  have hmarks : ((stripesClear a st cnt u).arr a).lost = [] :=
    (stripesClear_field (fun s => (s.arr a).lost) (fun s d f => congrArg Arr.lost (modDrive_arr s d f a)) (fun s d l n => repairsGone_lost s d l n a)
      a st cnt u).trans (by rw [← hu]; exact hlost)
  have hwork : formatWork (stripesClear a st cnt u) = formatWork s :=
    (stripesClear_field formatWork formatWork_modDrive (fun _ _ _ _ => rfl) a st cnt u).trans (by rw [← hu]; rfl)
  simpa only [hextents, List.filter_nil, State.each, List.foldl_nil, if_true, hmarks] using hwork

/-- A namespace's place in the list stands when its Format ends. -/
theorem find?_reformatted (l : List Ns) (i lbaf : Nat) :
    (l.map fun n => if n.idx = i then { n with lbaf := lbaf } else n).find? (fun n => n.idx = i) =
      (l.find? fun n => n.idx = i).map fun n => { n with lbaf := lbaf } := by
  induction l with
  | nil => rfl
  | cons n l ih =>
    by_cases hn : n.idx = i
    · simp [hn]
    · simpa [hn] using ih

/-- The namespaces with a new LBA format for one of them. -/
def reformatted (p : Prog) (l : List Ns) : List Ns := l.map fun n => if n.idx = p.ns then { n with lbaf := p.lbaf } else n

/-- A Format's last record is written, its namespace has the LBA format, and FORMAT_DONE is raised. -/
def formatClosed (p : Prog) (s : State) : State :=
  let u := progress 4 ((nsAt s p.ns).map (·.array) |>.getD 0) p.ns 2 s
  State.raise { u with
    nv.progs := u.nv.progs.filter (fun x => ¬ (x.kind = 4 && x.ns = p.ns)), ns := reformatted p u.ns,
    nv.nsTable := reformatted p u.nv.nsTable } R.HPT_CE_INT_STATUS_FORMAT_DONE

theorem formatClosed_spec (p : Prog) (s : State) : (formatClosed p s).ns = reformatted p s.ns ∧
    (formatClosed p s).nv.progs = s.nv.progs.filter (fun x => ¬ (x.kind = 4 && x.ns = p.ns)) ∧
    (formatClosed p s).ce.formats = s.ce.formats ∧ (formatClosed p s).rd R.HPT_CE_INT_STATUS_FORMAT_DONE = 1 := by
  obtain ⟨hns, hrest⟩ := Prod.mk.inj (formatWork_record (.progress 4 ((nsAt s p.ns).map (·.array) |>.getD 0) p.ns
    (progressOf s 4 ((nsAt s p.ns).map (·.array) |>.getD 0) p.ns).1 (progressOf s 4 ((nsAt s p.ns).map (·.array) |>.getD 0) p.ns).2 2) s)
  obtain ⟨hprogs, hformats⟩ := Prod.mk.inj hrest
  refine ⟨congrArg (reformatted p) hns, congrArg (List.filter _) hprogs, hformats, (State.rd_raise_same _ _ _).trans (or_one_mod_two _)⟩

/-- A Format of a namespace has ended: the commands that have no other namespace complete, the others go on. -/
def formatCommandsGoOn (p : Prog) (u : State) : State :=
  State.each { u with ce.formats := (u.ce.formats.filter fun j => j.todo ≠ [p.ns]).map fun j =>
      if j.todo.head? = some p.ns then { j with todo := j.todo.tail } else j }
    (u.ce.formats.filter fun j => j.todo = [p.ns]) fun s j => match j.h with
      | some h => cqeSt h stOk s
      | none => s

theorem formatEnd_eq (p : Prog) (s : State) : formatEnd p s = formatCommandsGoOn p (noticeNs (formatClosed p s)) := rfl

/-- The only Format command completes with its last namespace. -/
theorem formatCommandsGoOn_of_last {u : State} {p : Prog} {j : FmtJob} {h : IoHdr} (hj : u.ce.formats = [j]) (ht : j.todo = [p.ns])
    (hh : j.h = some h) : formatCommandsGoOn p u = cqeSt h stOk { u with ce.formats := [] } := by
  simp [formatCommandsGoOn, hj, ht, State.each, hh]

/-- The end of a Format that was its command's last: the LBA format in force, nothing left under way, FORMAT_DONE raised, the command
completed. -/
theorem formatEnd_spec {s : State} {p q : Prog} {j : FmtJob} {h : IoHdr} {n : Ns} (hn : nsAt s p.ns = some n) (hp : s.nv.progs = [q])
    (hkind : q.kind = 4) (hq : q.ns = p.ns) (hj : s.ce.formats = [j]) (ht : j.todo = [p.ns]) (hh : j.h = some h) :
    (nsAt (formatEnd p s) p.ns).map (·.lbaf) = some p.lbaf ∧ (formatEnd p s).nv.progs = [] ∧ (formatEnd p s).ce.formats = [] ∧
    (formatEnd p s).rd R.HPT_CE_INT_STATUS_FORMAT_DONE = 1 ∧ Completed h stOk [] (formatEnd p s) := by
  obtain ⟨hns, hprogs, hformats, hdone⟩ := formatClosed_spec p s
  rw [formatEnd_eq, formatCommandsGoOn_of_last ((noticeNs_formats _).trans (hformats.trans hj)) ht hh]
  refine ⟨?_, ?_, cqe_formats _ _ _ _ _ _ _, ?_, completed_cqeSt h stOk _⟩
  · rw [nsAt, cqeSt_ns]
    show Option.map _ (List.find? _ (noticeNs (formatClosed p s)).ns) = _
    rw [noticeNs_ns, hns, reformatted, find?_reformatted]
    rw [nsAt] at hn
    rw [hn]
    rfl
  · rw [cqeSt_nv]
    show (noticeNs (formatClosed p s)).nv.progs = []
    rw [noticeNs_nv, hprogs, hp]
    simp [hkind, hq]
  · rw [cqeSt_rd]
    exact (State.rd_congr (noticeNs_regs _) _).trans hdone

/-- A step that covers all the stripes left ends the Format. -/
theorem formatRun_of_last {s : State} {p : Prog} {n : Ns} (hn : nsAt s p.ns = some n) (hs : arrServes s n.array = true)
    (hidle : rangeIdle s n.array (n.base + p.done) (p.total - p.done) = true) (hle : p.done ≤ p.total) (hstep : p.total - p.done ≤ 1024) :
    formatRun p s = formatEnd { p with done := p.total } (progressDue 4 n.array p.ns
      { rangeGone n.array (n.base + p.done) (p.total - p.done) true s with
        nv.progs := (rangeGone n.array (n.base + p.done) (p.total - p.done) true s).nv.progs.map fun (x : Prog) =>
          if x.kind = 4 ∧ x.ns = p.ns then { p with done := p.total } else x }) := by
  have hcnt : min formatStep (p.total - p.done) = p.total - p.done := Nat.min_eq_right hstep
  have hsum : p.done + (p.total - p.done) = p.total := Nat.add_sub_cancel' hle
  simp only [formatRun, hn, hs, hcnt, hidle, hsum, not_true_eq_false, or_self, if_false, Nat.le_refl, if_true]

/-- Where one step covers a namespace on which no command is outstanding, it ends the namespace's Format. -/
theorem doFormatProgressStep_of_whole {s : State} {j : FmtJob} {h : IoHdr} {n : Ns} {lbaf : Nat} (hbg : bgOk s = true)
    (hp : s.nv.progs = [⟨4, n.idx, 0, n.stripes, lbaf⟩]) (hj : s.ce.formats = [j]) (ht : j.todo = [n.idx]) (hh : j.h = some h)
    (hctxs : s.ce.ctxs = []) (hsops : s.ce.sops = []) (hext : s.bsk.extents = []) (hlost : (s.arr n.array).lost = [])
    (hn : nsAt s n.idx = some n) (hs : arrServes s n.array = true) (hstep : n.stripes ≤ 1024) :
    (nsAt (doFormatProgressStep s) n.idx).map (·.lbaf) = some lbaf ∧ (doFormatProgressStep s).nv.progs = [] ∧
    (doFormatProgressStep s).ce.formats = [] ∧ (doFormatProgressStep s).rd R.HPT_CE_INT_STATUS_FORMAT_DONE = 1 ∧
    Completed h stOk [] (doFormatProgressStep s) := by
  have hfind : s.nv.progs.find? (fun p => p.kind = 4 && formatMay s p) = some ⟨4, n.idx, 0, n.stripes, lbaf⟩ := by
    rw [hp]
    exact List.find?_cons_of_pos (by simp [formatMay_of_only (p := ⟨4, n.idx, 0, n.stripes, lbaf⟩) hj ht hctxs])
  have hidle : rangeIdle s n.array (n.base + 0) (n.stripes - 0) = true := by simp [rangeIdle, hsops]
  rw [doFormatProgressStep_of_found hbg hfind, formatRun_of_last (p := ⟨4, n.idx, 0, n.stripes, lbaf⟩) hn hs hidle (Nat.zero_le _) hstep]
  generalize hu : rangeGone n.array _ _ true s = u
  obtain ⟨huns, hurest⟩ := Prod.mk.inj (hu ▸ formatWork_rangeGone hext hlost (n.base + 0) (n.stripes - 0) : formatWork u = formatWork s)
  obtain ⟨huprogs, huformats⟩ := Prod.mk.inj hurest
  generalize hv : progressDue 4 n.array n.idx _ = v
  obtain ⟨hvns, hvrest⟩ := Prod.mk.inj (hv ▸ formatWork_progressDue 4 n.array n.idx _)
  obtain ⟨hvprogs, hvformats⟩ := Prod.mk.inj hvrest
  refine formatEnd_spec (p := ⟨4, n.idx, n.stripes, n.stripes, lbaf⟩) (q := ⟨4, n.idx, n.stripes, n.stripes, lbaf⟩) (n := n) ?_ ?_ rfl rfl
    (hvformats.trans (huformats.trans hj)) ht hh
  · rw [nsAt, hvns.trans huns]
    exact hn
  · rw [hvprogs, huprogs, hp]
    simp

end Sys2Proof.Machine
end

section
/-! SUPPORT. Sanitize: its start, its steps over arrays and stripes, its end and failure mode (R158). -/

namespace Sys2Proof.Machine

theorem exec_sanitizeProgressStep (s : State) : exec .sanitizeProgressStep s = live s (doSanitizeProgressStep s) := rfl

/-! ### The registers -/

theorem saniRegs_nv (s : State) : (saniRegs s).nv = s.nv := by
  unfold saniRegs
  dsimp only
  split <;> rfl

/-- SANITIZING, SSTAT and ACTION read what the Gondola keeps. -/
theorem rd_saniRegs (s : State) : (saniRegs s).rd R.HPT_CE_STATUS_SANITIZING = b2n (s.nv.sani.isSome || s.nv.saniFail) % 2 ∧
    (saniRegs s).rd R.HPT_CE_SANI_SSTAT = s.nv.saniStat % 8 ∧ (saniRegs s).rd R.HPT_CE_SANI_ACTION = s.nv.saniAct % 8 := by
  have hprog : ∀ f : Fld, f.key ≠ R.HPT_CE_SANI_SPROG.key → (saniRegs s).rd f =
      (((s.wr R.HPT_CE_STATUS_SANITIZING (b2n (s.nv.sani.isSome || s.nv.saniFail))).wr R.HPT_CE_SANI_SSTAT s.nv.saniStat).wr
        R.HPT_CE_SANI_ACTION s.nv.saniAct).rd f := by
    intro f hf
    unfold saniRegs
    dsimp only
    split
    · exact State.rd_wr_ne _ hf _
    · rfl
  refine ⟨?_, ?_, ?_⟩ <;> rw [hprog _ (by decide)]
  · rw [State.rd_wr_ne _ (by decide), State.rd_wr_ne _ (by decide), State.rd_wr_same]
    rfl
  · rw [State.rd_wr_ne _ (by decide), State.rd_wr_same]
    rfl
  · exact State.rd_wr_same _ _ _

/-! ### Start and failure mode -/

/-- The Sanitize that starts stands in the Gondola, in progress, with its long operation. -/
def saniBegun (x : Sani) (s : State) : State := { s with
  nv.sani := some x, nv.saniStat := 2, nv.saniAct := x.action, nv.saniFail := false,
  nv.progs := (s.nv.progs ++ [(⟨5, 0, 0, 0, 0⟩ : Prog)]).map fun (p : Prog) => if p.kind = 5 then { p with total := saniTotal s x } else p }

/-- A Sanitize that nothing refuses starts, with no I/O command outstanding that it could end. -/
theorem saniStart_of_free {s : State} (hnone : s.nv.sani = none) (hseq : saniSeqErr s = false) (hctxs : s.ce.ctxs = []) (h : IoHdr)
    (x : Sani) : saniStart h x s = cqeSt h stOk (saniRegs (saniBegun x s)) := by
  simp only [saniStart, hnone, hseq, hctxs, State.each, List.foldl_nil, Option.isSome_none, Bool.false_eq_true, if_false]
  rfl

/-- After its start SANITIZING reads 1, SSTAT 2 and ACTION the action, and its command has completed. -/
theorem saniStart_spec {s : State} (hnone : s.nv.sani = none) (hseq : saniSeqErr s = false) (hctxs : s.ce.ctxs = []) (h : IoHdr)
    (x : Sani) : (saniStart h x s).nv.sani = some x ∧ (saniStart h x s).rd R.HPT_CE_STATUS_SANITIZING = 1 ∧
    (saniStart h x s).rd R.HPT_CE_SANI_SSTAT = 2 ∧ (saniStart h x s).rd R.HPT_CE_SANI_ACTION = x.action % 8 ∧
    Completed h stOk [] (saniStart h x s) := by
  obtain ⟨hsani, hstat, hact⟩ := rd_saniRegs (saniBegun x s)
  rw [saniStart_of_free hnone hseq hctxs]
  refine ⟨?_, (cqeSt_rd _ _ _ _).trans hsani, (cqeSt_rd _ _ _ _).trans hstat, (cqeSt_rd _ _ _ _).trans hact, completed_cqeSt h stOk _⟩
  rw [cqeSt_nv, saniRegs_nv]
  rfl

theorem saniExit_of_failed {s : State} (hf : s.nv.saniFail = true) (h : IoHdr) :
    saniExit h s = cqeSt h stOk (saniRegs { s with nv.saniFail := false }) := if_pos hf

theorem saniExit_of_well {s : State} (hf : s.nv.saniFail = false) (h : IoHdr) : saniExit h s = cqeSt h (0, 0xC, false) s := by
  rw [saniExit, hf]
  rfl

/-! ### The steps -/

section
variable {s : State} {x : Sani} (hbg : bgOk s = true) (hx : s.nv.sani = some x)
include hbg hx

/-- A Block Erase passes over an array that is not enabled. -/
theorem doSanitizeProgressStep_of_absent (hact : x.action = 2) (harr : x.arr < 16) (hon : arrOn s x.arr = false) :
    doSanitizeProgressStep s = saniKeep { x with arr := x.arr + 1 } (if x.arr = 0 then eraseDrives s else s) := by
  simp only [doSanitizeProgressStep, hx, hbg, hact, Nat.not_le.mpr harr, hon, not_true_eq_false, Bool.false_eq_true, if_false, if_true]

/-- Past the last array a Block Erase ends. -/
theorem doSanitizeProgressStep_of_past (hact : x.action = 2) (harr : 16 ≤ x.arr) : doSanitizeProgressStep s = saniEnd s := by
  simp only [doSanitizeProgressStep, hx, hbg, hact, harr, not_true_eq_false, if_false, if_true]

/-- An Overwrite fills the next stripe with its pattern, inverted on every other pass where that is asked for. -/
theorem doSanitizeProgressStep_of_overwrite {a st : Nat} (hact : x.action = 3) (hst : nthStripe s.ns x.st = some (a, st))
    (hs : arrServes s a = true) (hl : lockFree s a st = true) : doSanitizeProgressStep s = saniKeep { x with st := x.st + 1 }
      (fillStripe a st (patternBlock (if x.invert = true ∧ x.pass % 2 = 1 then 2 ^ 32 - 1 - x.pattern % 2 ^ 32 else x.pattern)) s) := by
  have hne : x.action ≠ 2 := by omega
  simp only [doSanitizeProgressStep, hx, hbg, hne, hst, hs, hl, not_true_eq_false, or_self, if_false]

end

/-- Settles O20: Formats by `formatGo` and the step that covers a whole namespace, Sanitizes by their start, their steps and their end. -/
theorem formatAndSanitizeRun : Obligations.FormatAndSanitizeRun := by
  refine ⟨?format, ?step, ?whole, ?erase, ?refused, ?overwrite, ?exit, ?noExit, ?absent, ?past, ?fill⟩
  case format =>
    intro s h nsid lbaf ses n a hz hses hall hn hok
    exact gives_admin a rfl (.inr hz) (formatGo_of_one hses hall hn hok)
  case step =>
    intro s p ha hbg hp
    exact .of_live_eq (exec_formatProgressStep s) ha (doFormatProgressStep_of_found hbg hp)
  case whole =>
    intro s h nsid lbaf ses n a hz hses hall hn hok hbg hprogs hformats hctxs hsops hext hlost hat hs hstep
    have hgo := formatGo_of_one hses hall hn hok
    rw [hprogs, hformats] at hgo
    refine runs_admin a rfl (.inr hz) (.of_live (exec_formatProgressStep _) ?_ ?_)
    · rw [adminDo, hgo]
      exact a.1
    · rw [adminDo, hgo]
      obtain ⟨hlbaf, hprogs', hformats', hrd, hdone⟩ := doFormatProgressStep_of_whole (lbaf := lbaf) (j := formatJob h lbaf n s) (h := h)
        (s := settle { s with ce.formats := [formatJob h lbaf n s], nv.progs := [⟨4, n.idx, 0, n.stripes, lbaf⟩] })
        hbg rfl rfl rfl rfl hctxs hsops hext hlost hat hs hstep
      exact ⟨hlbaf, hprogs', hformats', hrd, hdone.settle⟩
  case erase =>
    intro s h a hok hnone hseq hctxs
    refine runs_admin a rfl (.inl rfl) ?_
    have hdo : adminDo (.sanitizeBlockErase ⟨h, 2⟩) s = saniStart h ⟨2, 1, false, 0, 0, 0, 0⟩ s := by simp [adminDo, saniErase, hok]
    obtain ⟨hsani, hrd, hstat, hact, hdone⟩ := saniStart_spec hnone hseq hctxs h ⟨2, 1, false, 0, 0, 0, 0⟩
    rw [hdo]
    exact ⟨hsani, hrd, hstat, hact, hdone.settle⟩
  case refused =>
    intro s h act a hno
    refine gives_admin a rfl (.inl rfl) (if_pos ?_)
    rcases hno with hact | hok
    · simp [hact]
    · simp [hok]
  case overwrite =>
    intro s h owpass inv pat a how hnone hseq hctxs
    refine runs_admin a rfl (.inl rfl) ?_
    have hdo : adminDo (.sanitizeOverwrite h owpass inv pat) s =
        saniStart h ⟨3, if owpass = 0 then 16 else owpass, inv, pat, 0, 0, 0⟩ s := if_neg (Nat.not_lt.mpr how)
    obtain ⟨hsani, hrd, hstat, -, hdone⟩ := saniStart_spec hnone hseq hctxs h ⟨3, if owpass = 0 then 16 else owpass, inv, pat, 0, 0, 0⟩
    rw [hdo]
    exact ⟨hsani, hrd, hstat, hdone.settle⟩
  case exit =>
    intro s h a hf
    exact gives_admin a rfl (.inl rfl) (saniExit_of_failed hf h)
  case noExit =>
    intro s h a hf
    exact gives_admin a rfl (.inl rfl) (saniExit_of_well hf h)
  case absent =>
    intro s x ha hbg hx hact harr hon
    exact .of_live_eq (exec_sanitizeProgressStep s) ha (doSanitizeProgressStep_of_absent hbg hx hact harr hon)
  case past =>
    intro s x ha hbg hx hact harr
    exact .of_live_eq (exec_sanitizeProgressStep s) ha (doSanitizeProgressStep_of_past hbg hx hact harr)
  case fill =>
    intro s a st x ha hbg hx hact hst hs hl
    exact .of_live_eq (exec_sanitizeProgressStep s) ha (doSanitizeProgressStep_of_overwrite hbg hx hact hst hs hl)

end Sys2Proof.Machine
end

section
/-! SUPPORT. Reservation commands on a namespace that serves: the completion within one step, and what register, acquire, release and report do
(R163). -/

namespace Sys2Proof.Machine

/-- The meanings of the reservation commands. -/
theorem exec_reservationRegister (h : IoHdr) (nsid act : Nat) (iekey : Bool) (crkey nrkey cptpl : Nat) (s : State) :
    exec (.reservationRegister h nsid act iekey crkey nrkey cptpl) s = live s (doReservationRegister h nsid act iekey crkey nrkey cptpl s) := rfl

theorem exec_reservationAcquire (h : IoHdr) (nsid act rtype crkey prkey : Nat) (iekey : Bool) (s : State) :
    exec (.reservationAcquire h nsid act rtype crkey prkey iekey) s = live s (doReservationAcquire h nsid act rtype crkey prkey iekey s) := rfl

theorem exec_reservationRelease (h : IoHdr) (nsid act rtype crkey : Nat) (iekey : Bool) (s : State) :
    exec (.reservationRelease h nsid act rtype crkey iekey) s = live s (doReservationRelease h nsid act rtype crkey iekey s) := rfl

theorem exec_reservationReport (h : IoHdr) (nsid : Nat) (s : State) :
    exec (.reservationReport h nsid) s = live s (doReservationReport h nsid s) := rfl

/-! ### The reservation of a namespace -/

theorem resvOf_congr {s t : State} (h : t.ce.resvs = s.ce.resvs) (i : Nat) : resvOf t i = resvOf s i := by rw [resvOf, h, resvOf]

@[simp] theorem resvOf_ns (s : State) (i : Nat) : (resvOf s i).ns = i := by
  rw [resvOf]
  cases hr : s.ce.resvs.find? fun r => r.ns = i with
  | none => rfl
  | some r => simpa using List.find?_some hr

theorem resvOf_putResv {r : NsResv} {i : Nat} (h : r.ns = i) (s : State) : resvOf (putResv r s) i = r := by
  simp [resvOf, putResv, h]

theorem cqeSt_resvs (h : IoHdr) (st : Status) (s : State) : (cqeSt h st s).ce.resvs = s.ce.resvs := by
  obtain ⟨cs, es, hce⟩ := cqe_ce h st.1 st.2.1 st.2.2 0 [] s
  rw [cqeSt, hce]

/-! ### Completion within one step -/

/-- What a reservation command leaves alone: the stores and the arrays. -/
def SameMedia (s t : State) : Prop := SameStores s t ∧ t.arrs = s.arrs

theorem SameMedia.trans {s t u : State} (hst : SameMedia s t) (htu : SameMedia t u) : SameMedia s u := by
  obtain ⟨⟨hbsk, hnv, hext, henv, hmbx⟩, harrs⟩ := hst
  obtain ⟨⟨hbsk', hnv', hext', henv', hmbx'⟩, harrs'⟩ := htu
  exact ⟨⟨hbsk'.trans hbsk, hnv'.trans hnv, hext'.trans hext, henv'.trans henv, hmbx'.trans hmbx⟩, harrs'.trans harrs⟩

theorem sameMedia_cqeSt (h : IoHdr) (st : Status) (s : State) : SameMedia s (cqeSt h st s) :=
  ⟨⟨cqeSt_bsk s h st, cqeSt_nv s h st, cqeSt_ext s h st, cqeSt_env s h st, cqeSt_mbx s h st⟩, cqeSt_arrs s h st⟩

theorem cqeInfo_spec (h : IoHdr) (vals : List Nat) (s : State) : SameMedia s (cqeInfo h vals s) ∧
    (cqeInfo h vals s).ce.resvs = s.ce.resvs ∧ OutEv.cqeInfo h.ctrl h.q h.cid vals (sqHead s h) ∈ (cqeInfo h vals s).out := by
  unfold cqeInfo adminDone
  split <;> exact ⟨⟨⟨rfl, rfl, rfl, rfl, rfl⟩, rfl⟩, rfl, List.mem_cons_self⟩

/-- The command has arrived on its queue and will complete in this step. -/
def ioTaken (h : IoHdr) (s : State) : State := s.modQueue h.ctrl h.q fun q => { q with
  fetched := q.fetched - 1, arrivals := q.arrivals + 1, completed := q.completed + 1 }

/-- The command has completed: it is counted, and its context returns. -/
def ioEnded (h : IoHdr) (s : State) : State := creditBack h { s with ce.cmdsEpoch := s.ce.cmdsEpoch + 1 }

/-- The context's return touches no store, no array and no reservation, and keeps what was sent. -/
theorem ioEnded_spec (h : IoHdr) (s : State) : SameMedia s (ioEnded h s) ∧ (ioEnded h s).ce.resvs = s.ce.resvs ∧
    ∀ e ∈ s.out, e ∈ (ioEnded h s).out := by
  unfold ioEnded creditBack
  split
  · split
    · unfold ackCredits
      split
      · split
        · exact ⟨⟨⟨rfl, rfl, rfl, rfl, rfl⟩, rfl⟩, rfl, fun _ he => .tail _ he⟩
        · exact ⟨⟨⟨rfl, rfl, rfl, rfl, rfl⟩, rfl⟩, rfl, fun _ he => he⟩
      · exact ⟨⟨⟨rfl, rfl, rfl, rfl, rfl⟩, rfl⟩, rfl, fun _ he => he⟩
    · exact ⟨⟨⟨rfl, rfl, rfl, rfl, rfl⟩, rfl⟩, rfl, fun _ he => he⟩
  · exact ⟨⟨⟨rfl, rfl, rfl, rfl, rfl⟩, rfl⟩, rfl, fun _ he => he⟩

section
variable {s : State} {h : IoHdr} {nsid : Nat} {n : Ns} (ho : ioOpen s h = true) (hn : nsById s nsid = some n)
  (hana : anaState s n.array = 1) (hfmt : formatting s n.idx = false) (hz : sanitizing s = false)
include ho hn hana hfmt hz

/-- A command that no check refuses acts on its namespace and completes. -/
theorem ioNow_of_serving {bad : Bool} {conflict : NsResv → Nat → Bool} {f : Ns → State → State} {v : State} (hbad : bad = false)
    (hconf : conflict (resvOf s n.idx) (hostOf s h.ctrl) = false) (hv : f n (ioTaken h s) = v) :
    ioNow h nsid bad conflict f s = ioEnded h v := by
  have hn' : nsById (ioTaken h s) nsid = some n := hn
  have hana' : anaState (ioTaken h s) n.array = 1 := hana
  have hfmt' : formatting (ioTaken h s) n.idx = false := hfmt
  have hz' : sanitizing (ioTaken h s) = false := hz
  have hconf' : conflict (resvOf (ioTaken h s) n.idx) (hostOf (ioTaken h s) h.ctrl) = false := hconf
  rw [ioTaken] at hn' hana' hfmt' hz' hconf' hv
  simp only [ioNow, ho, hbad, hn', hana', hconf', hfmt', hz', hv, not_true_eq_false, Bool.false_eq_true, if_false]
  rfl

/-- A host without a key registers one. -/
theorem doReservationRegister_of_new {key : Nat} (hkey : keyOf (resvOf s n.idx) (hostOf s h.ctrl) = none) :
    doReservationRegister h nsid 0 true 0 key 0 s = ioEnded h (cqeSt h stOk (putResv { resvOf s n.idx with
      gen := (resvOf s n.idx).gen + 1, regs := (resvOf s n.idx).regs ++ [(hostOf s h.ctrl, key)] } (ioTaken h s))) := by
  unfold doReservationRegister
  refine ioNow_of_serving ho hn hana hfmt hz rfl ?_ ?_
  · simp only [hkey]
  · have hkey' : keyOf (resvOf (ioTaken h s) n.idx) (hostOf (ioTaken h s) h.ctrl) = none := hkey
    simp only [hkey', Option.isSome_none, Bool.false_eq_true, if_false]
    rfl

/-- A registered host acquires a reservation that is free. -/
theorem doReservationAcquire_of_free {key rtype : Nat} (h1 : 1 ≤ rtype) (h6 : rtype ≤ 6) (hfree : (resvOf s n.idx).rtype = 0)
    (hkey : keyOf (resvOf s n.idx) (hostOf s h.ctrl) = some key) (prkey : Nat) :
    doReservationAcquire h nsid 0 rtype key prkey false s = ioEnded h (cqeSt h stOk (putResv { resvOf s n.idx with
      holder := hostOf s h.ctrl, rtype := rtype } (ioTaken h s))) := by
  unfold doReservationAcquire
  refine ioNow_of_serving ho hn hana hfmt hz ?_ ?_ (if_pos hfree)
  · simp [Nat.not_lt.mpr h6, Nat.ne_of_gt h1]
  · simp [hkey, hfree]

/-- The holder releases a Write Exclusive reservation. -/
theorem doReservationRelease_of_holder {key : Nat} (htype : (resvOf s n.idx).rtype = 1) (hhold : (resvOf s n.idx).holder = hostOf s h.ctrl)
    (hkey : keyOf (resvOf s n.idx) (hostOf s h.ctrl) = some key) :
    doReservationRelease h nsid 0 1 key false s = ioEnded h (cqeSt h stOk (putResv { resvOf s n.idx with
      holder := 0, rtype := 0 } (ioTaken h s))) := by
  refine ioNow_of_serving ho hn hana hfmt hz rfl ?_ ?_
  · simp [hkey]
  · have hheld : holdsResv (resvOf (ioTaken h s) n.idx) (hostOf (ioTaken h s) h.ctrl) = true := by
      show holdsResv (resvOf s n.idx) (hostOf s h.ctrl) = true
      simp [holdsResv, htype, hhold]
    exact (if_neg (not_not_intro hheld)).trans (if_neg (not_not_intro htype))

/-- The report gives generation, type and registrants first. -/
theorem doReservationReport_of_serving : ∃ rows, doReservationReport h nsid s = ioEnded h (cqeInfo h
    ([(resvOf s n.idx).gen, (resvOf s n.idx).rtype, (resvOf s n.idx).regs.length, 0] ++ rows) (ioTaken h s)) :=
  ⟨_, ioNow_of_serving ho hn hana hfmt hz rfl rfl rfl⟩

end

/-- A command that keeps a new reservation and completes with Success. -/
theorem ioEnded_putResv {h : IoHdr} {s : State} {i : Nat} {r : NsResv} (hr : r.ns = i) :
    let t := settle (ioEnded h (cqeSt h stOk (putResv r (ioTaken h s))))
    resvOf t i = r ∧ Completed h stOk [] t ∧ SameStores s t ∧ t.arrs = s.arrs := by
  obtain ⟨hmedia, hresvs, hout⟩ := ioEnded_spec h (cqeSt h stOk (putResv r (ioTaken h s)))
  refine ⟨(resvOf_congr (hresvs.trans (cqeSt_resvs _ _ _)) i).trans (resvOf_putResv hr _), ?_,
    (sameMedia_cqeSt h stOk (putResv r (ioTaken h s))).trans hmedia⟩
  exact (completed_cqeSt h stOk _).imp fun _ hd => settle_mem (hout _ hd)

/-- A report completes with its values and changes no reservation. -/
theorem ioEnded_cqeInfo (h : IoHdr) (vals : List Nat) (s : State) :
    let t := settle (ioEnded h (cqeInfo h vals (ioTaken h s)))
    t.ce.resvs = s.ce.resvs ∧ SameMedia s t ∧ ∃ d, OutEv.cqeInfo h.ctrl h.q h.cid vals d ∈ t.out := by
  obtain ⟨hinfo, hresvs, hmem⟩ := cqeInfo_spec h vals (ioTaken h s)
  obtain ⟨hend, hresvs', hout⟩ := ioEnded_spec h (cqeInfo h vals (ioTaken h s))
  exact ⟨hresvs'.trans hresvs, SameMedia.trans hinfo hend, _, settle_mem (hout _ hmem)⟩

/-- Settles O21: each command is one that no check refuses (`ioNow_of_serving`), and what it puts is the namespace's reservation after it. -/
theorem reservationsAreKept : Obligations.ReservationsAreKept := by
  refine ⟨?register, ?acquire, ?release, ?report⟩
  case register =>
    intro s h nsid n key ha ho hn hana hfmt hz hkey
    refine .of_live (exec_reservationRegister h nsid 0 true 0 key 0 s) ha ?_
    rw [doReservationRegister_of_new ho hn hana hfmt hz hkey]
    obtain ⟨hresv, hrest⟩ := ioEnded_putResv (h := h) (s := s) (r := { resvOf s n.idx with
      gen := (resvOf s n.idx).gen + 1, regs := (resvOf s n.idx).regs ++ [(hostOf s h.ctrl, key)] }) (resvOf_ns s n.idx)
    exact ⟨hresv.trans (by simp), hrest⟩
  case acquire =>
    intro s h nsid n key rtype prkey ha ho hn hana hfmt hz h1 h6 hfree hkey
    refine .of_live (exec_reservationAcquire h nsid 0 rtype key prkey false s) ha ?_
    rw [doReservationAcquire_of_free ho hn hana hfmt hz h1 h6 hfree hkey]
    obtain ⟨hresv, hrest⟩ := ioEnded_putResv (h := h) (s := s) (r := { resvOf s n.idx with
      holder := hostOf s h.ctrl, rtype := rtype }) (resvOf_ns s n.idx)
    exact ⟨hresv.trans (by simp), hrest⟩
  case release =>
    intro s h nsid n key ha ho hn hana hfmt hz htype hhold hkey
    refine .of_live (exec_reservationRelease h nsid 0 1 key false s) ha ?_
    rw [doReservationRelease_of_holder ho hn hana hfmt hz htype hhold hkey]
    obtain ⟨hresv, hrest⟩ := ioEnded_putResv (h := h) (s := s) (r := { resvOf s n.idx with holder := 0, rtype := 0 }) (resvOf_ns s n.idx)
    exact ⟨hresv.trans (by simp), hrest⟩
  case report =>
    intro s h nsid n ha ho hn hana hfmt hz
    obtain ⟨rows, hrep⟩ := doReservationReport_of_serving ho hn hana hfmt hz
    refine .of_live (exec_reservationReport h nsid s) ha ?_
    rw [hrep]
    obtain ⟨hresvs, ⟨hstores, harrs⟩, hmem⟩ := ioEnded_cqeInfo h
      ([(resvOf s n.idx).gen, (resvOf s n.idx).rtype, (resvOf s n.idx).regs.length, 0] ++ rows) s
    exact ⟨hresvs, hstores, harrs, rows, hmem⟩

end Sys2Proof.Machine
end

section
/-! SUPPORT. Envelope lines and Skirt fills: eviction buffer entries, offers, fills that return, streams, and SRAM errors by the kind of line
(R180 to R182, R184, R194, Table 7.7). -/

namespace Sys2Proof.Machine

/-! ### What the commands mean -/

/-- The meaning of `ENV_EVICTION_CONFIRM` (R180). -/
theorem exec_envEvictionConfirm (k : Nat) (s : State) : exec (.envEvictionConfirm k) s = live s (doEnvEvictionConfirm k s) := rfl

/-- The meaning of `ENV_OFFER` (R181). -/
theorem exec_envOffer (k : Nat) (s : State) : exec (.envOffer k) s = live s (doEnvOffer k s) := rfl

/-- The meaning of `SKIRT_FILL_RETURN` (R184). -/
theorem exec_skirtFillReturn (k : Nat) (s : State) : exec (.skirtFillReturn k) s = live s (doSkirtFillReturn k s) := rfl

/-- The meaning of `SKIRT_STREAM_EXPIRE` (R182). -/
theorem exec_skirtStreamExpire (ns next : Nat) (s : State) :
    exec (.skirtStreamExpire ns next) s = live s (doSkirtStreamExpire ns next s) := rfl

/-- The meaning of `SRAM_CE` (R194). -/
theorem exec_sramCe (n : Nat) (s : State) : exec (.sramCe n) s = live s (doSramCe n s) := rfl

/-- The meaning of `SRAM_UE` (R194). -/
theorem exec_sramUe (k : SramLine) (s : State) : exec (.sramUe k) s = live s (doSramUe k s) := rfl

/-! ### The eviction buffer -/

/-- The oldest dirty entry of a key is freed when Basket confirms its write (R180). -/
theorem doEnvEvictionConfirm_of_takeFirst {k : Nat} {e : Nat × Bool} {q : List (Nat × Bool)} {s : State}
    (h : takeFirst (fun e : Nat × Bool => e.1 = k && ¬ e.2) s.env.evb = some (e, q)) :
    doEnvEvictionConfirm k s = { s with env.evb := q } := by
  simp only [doEnvEvictionConfirm, h]

/-- The contents that Basket would keep of an offered line: the block as its stripe gives it, or as it stands on the member (R181). -/
def offeredBlock (s : State) (k : Nat) : Block :=
  (dataAt s (bits k 45 4) ((bits k 0 40 - dataLba) / strB s (bits k 45 4)) ((bits k 0 40 - dataLba) % strB s (bits k 45 4))
    (dIdx (memN s (bits k 45 4)) ((bits k 0 40 - dataLba) / strB s (bits k 45 4)) (bits k 40 5)) []).getD (memberBlock s k)

section
variable {k : Nat} {e : Nat × Bool} {q : List (Nat × Bool)} {s : State}
  (h : takeFirst (fun e : Nat × Bool => e.1 = k && e.2) s.env.evb = some (e, q))
include h

/-- An offer that Basket declines leaves the eviction buffer and is counted (R181). -/
theorem doEnvOffer_of_declined (hd : acceptsOffer { s with env.evb := q } k = false) :
    doEnvOffer k s = State.incWrap { s with env.evb := q } (R.ENV_CNTj_COUNT 7) := by
  simp only [doEnvOffer, h, hd, Bool.false_eq_true, if_false]

/-- An offer that Basket accepts becomes a clean entry on a free page (R181, R208). -/
theorem doEnvOffer_of_accepted (hacc : acceptsOffer { s with env.evb := q } k = true) {p : Nat}
    (hp : freeRun { s with env.evb := q } 1 = some p) :
    doEnvOffer k s = { s with
      env.evb := q
      bsk.clean := s.bsk.clean ++ [(k, p, s.tet.epoch)]
      bsk.pages := SMap.set 0 p (offeredBlock { s with env.evb := q } k) s.bsk.pages } := by
  simp only [doEnvOffer, h, hacc, hp, if_true]
  rfl

end

/-! ### Skirt fills -/

section
variable {k : Nat} {l : SkirtLine} {s : State} (h : s.env.skirt.find? (fun l => l.key = k && ¬ l.filled) = some l)
include h

/-- A fill whose generation still holds fills its line (R184). -/
theorem doSkirtFillReturn_of_valid (hv : l.valid = true) :
    doSkirtFillReturn k s = State.incWrap { s with env.skirt := s.env.skirt.map fun (x : SkirtLine) =>
      if x.key = k then { x with filled := true } else x } (R.ENV_CNTj_COUNT 3) := by
  simp only [doSkirtFillReturn, h, hv, if_true]

/-- A fill that was voided is discarded with its line (R184). -/
theorem doSkirtFillReturn_of_voided (hv : l.valid = false) :
    doSkirtFillReturn k s = { s with env.skirt := s.env.skirt.filter fun x => ¬ (x.key = k && ¬ x.filled) } := by
  simp only [doSkirtFillReturn, h, hv, Bool.false_eq_true, if_false]

end

/-! ### SRAM errors -/

/-- A HELD line of a client write that has written nothing yet fails the command with Internal Error (Table 7.7). -/
theorem doSramUe_heldBefore {s : State} {i : Nat} {c : Ctx} (hc : ctxOf s i = some c) (hop : c.op ≠ .read)
    (hown : ∀ o ∈ s.ce.sops, o.owner ≠ c.id) (hseq : c.seqs = []) :
    doSramUe (.heldBefore i) s = finishCtx c stInternal [] ((s.incSat R.ENV_ECC_UE).raise R.ENV_INT_STATUS_ECC_UE) := by
  have hc' : ctxOf ((s.incSat R.ENV_ECC_UE).raise R.ENV_INT_STATUS_ECC_UE) i = some c := hc
  have hmine : s.ce.sops.filter (fun o => o.owner = c.id) = [] := by simpa using hown
  simp only [doSramUe, hc', State.raise_ce, State.incSat_ce, hmine, hseq, List.isEmpty_nil, List.all_nil, and_self, if_true]
  rfl

/-- Settles O25: each row is one branch of its command, and an SRAM error is counted and raised before the kind of line decides. -/
theorem envelopeLinesComeAndGo : Obligations.EnvelopeLinesComeAndGo := by
  refine ⟨?confirm, ?offer, ?fill, ?expire, ?corrected, ?uncorrectable⟩
  case confirm =>
    intro s k e q ha h
    exact .of_live_eq (exec_envEvictionConfirm k s) ha (doEnvEvictionConfirm_of_takeFirst h)
  case offer =>
    rintro s k e q _ ha h rfl
    exact ⟨fun hd => .of_live_eq (exec_envOffer k s) ha (doEnvOffer_of_declined h hd),
      fun p hacc hp => .of_live_eq (exec_envOffer k s) ha (doEnvOffer_of_accepted h hacc hp)⟩
  case fill =>
    intro s k l ha h
    exact ⟨fun hv => .of_live_eq (exec_skirtFillReturn k s) ha (doSkirtFillReturn_of_valid h hv),
      fun hv => .of_live_eq (exec_skirtFillReturn k s) ha (doSkirtFillReturn_of_voided h hv)⟩
  case expire =>
    intro s ns next ha
    exact .of_live (exec_skirtStreamExpire ns next s) ha
  case corrected =>
    intro s n ha
    exact .of_live (exec_sramCe n s) ha
  case uncorrectable =>
    rintro s _ ha rfl
    refine ⟨?clean, ?skirt, ?evbOffer, ?reloaded, ?bitmap, ?held, ?scratch⟩
    case clean => exact fun k => .of_live (exec_sramUe (.clean k) s) ha
    case skirt => exact fun k => .of_live (exec_sramUe (.skirt k) s) ha
    case evbOffer => exact fun k => .of_live (exec_sramUe (.evbOffer k) s) ha
    case reloaded => exact fun k => ⟨.of_live (exec_sramUe (.dirtyIndex k) s) ha, .of_live (exec_sramUe (.dirtyLostMap k) s) ha⟩
    case bitmap => exact fun k => .of_live (exec_sramUe (.dirtyBitmap k) s) ha
    case held =>
      intro i c hc hop hown hseq
      exact .of_live_eq (exec_sramUe (.heldBefore i) s) ha (doSramUe_heldBefore hc hop hown hseq)
    case scratch =>
      exact fun k o => ⟨.of_live (exec_sramUe (.scratch k o false) s) ha, .of_live (exec_sramUe (.scratch k o true) s) ha⟩

end Sys2Proof.Machine
end

section
/-! SUPPORT. Envelope maintenance, the scratch window and caching off: what a write of ENV_MAINT starts, how an operation ends, what the window
holds, and the writes of ENV_DISABLE (R185 to R191, R421, Tables 7.4 to 7.6). -/

namespace Sys2Proof.Machine

/-! ### What the commands mean -/

/-- The meaning of `MAINT_DONE` (R185, R188). -/
theorem exec_maintDone (s : State) : exec .maintDone s = live s (doMaintDone s) := rfl

/-- The meaning of `SCRATCH_WINDOW_ACCESS` (R189). -/
theorem exec_scratchWindowAccess (link off : Nat) (bytes : List Nat) (wr : Bool) (len : Nat) (s : State) :
    exec (.scratchWindowAccess link off bytes wr len) s = live s (doScratchWindowAccess link off bytes wr len s) := rfl

/-- The meaning of `ENV_DISABLE_WRITE` (R191). -/
theorem exec_envDisableWrite (v : Nat) (s : State) : exec (.envDisableWrite v) s = live s (doEnvDisableWrite v s) := rfl

/-- The meaning of `ENV_CLEAN_FIRST_DONE` (R191). -/
theorem exec_envCleanFirstDone (s : State) : exec .envCleanFirstDone s = live s (doEnvCleanFirstDone s) := rfl

/-- The five rows of Table 7.4 are `envMaint` of their OP. -/
theorem gives_envMaint {s t : State} {op v : Nat} (ha : Alive s) (h : op < 5 → envMaint op v s = t) :
    (op = 0 → Gives (.envMaintClean v) s t) ∧ (op = 1 → Gives (.envMaintInvalidate v) s t) ∧ (op = 2 → Gives (.envMaintCleanInval v) s t) ∧
    (op = 3 → Gives (.scratchOn v) s t) ∧ (op = 4 → Gives (.scratchOff v) s t) := by
  refine ⟨?_, ?_, ?_, ?_, ?_⟩ <;> (rintro rfl; exact .of_live_eq rfl ha (h (by decide)))

/-! ### Writes of ENV_MAINT -/

/-- The fields that a write of ENV_MAINT with operation `op` stores. -/
def maintStored (op v : Nat) (s : State) : State :=
  (((s.wr R.ENV_MAINT_OP op).wr R.ENV_MAINT_FORM (bits v 4 1)).wr R.ENV_MAINT_ALL_SETS (bits v 5 1)).wr R.ENV_MAINT_COUNT (bits v 8 17)

/-- The operation of a write of ENV_MAINT runs: its fields are stored and MAINT_BUSY is 1. -/
def maintStarted (op v : Nat) (s : State) : State :=
  let u := (maintStored op v s).wr R.ENV_STATUS_MAINT_BUSY 1
  { u with env.maint := some (op, bits v 4 1, bits v 5 1, bits v 8 17, maintKey u) }

section
variable {s : State} {op v : Nat}

/-- A start that Table 7.5 rejects records its code alone (R186). -/
theorem envMaint_of_refused {c : Nat} (hstart : bit v 31 = true) (h : maintRefusal s op (bits v 4 1) (bits v 8 17) = some c) :
    envMaint op v s = s.wr R.ENV_STATUS_LAST_ERR c := by
  simp only [envMaint, hstart, not_true_eq_false, if_false, h, envReject]

/-- A start that Table 7.5 does not reject; SCRATCH_ON takes the ways of the window out of the cache at once (R188). -/
theorem envMaint_of_accepted (hstart : bit v 31 = true) (h : maintRefusal s op (bits v 4 1) (bits v 8 17) = none) :
    envMaint op v s =
      if op = 3 then
        dropLines (fun l => decide (8 ≤ l.way) && ¬ l.st.busy)
          (maintCount (s.env.lines.filter fun l => decide (8 ≤ l.way) && l.st = .dirty).length 0
            { maintStarted op v s with env.scratchOn := true })
      else if op = 4 then maintCount 0 0 (maintStarted op v s)
      else maintStarted op v s := by
  simp only [envMaint, hstart, not_true_eq_false, if_false, h]
  rfl

/-- A write without START whose COUNT by address is out of range is rejected (R421). -/
theorem envMaint_of_count_out_of_range (hstart : bit v 31 = false) (hop : op < 5) (hform : bits v 4 1 = 0)
    (hcount : bits v 8 17 = 0 ∨ 65536 < bits v 8 17) : envMaint op v s = s.wr R.ENV_STATUS_LAST_ERR eRange := by
  simp [envMaint, hstart, Nat.not_le.mpr hop, hform, hcount, envReject]

/-- Any other write without START stores its fields (R421). -/
theorem envMaint_of_stored (hstart : bit v 31 = false) (hop : op < 5)
    (hcount : bits v 4 1 = 1 ∨ (1 ≤ bits v 8 17 ∧ bits v 8 17 ≤ 65536)) : envMaint op v s = maintStored op v s := by
  have hrange : ¬ (bits v 4 1 = 0 ∧ (bits v 8 17 = 0 ∨ 65536 < bits v 8 17)) := by omega
  simp only [envMaint, hstart, Nat.not_le.mpr hop, hrange, Bool.false_eq_true, not_false_eq_true, if_true, if_false]
  rfl

end

/-- By address, over MEMBER keys of one member, only the last row of Table 7.5 is left. -/
theorem maintRefusal_of_member_range {s : State} {op count : Nat} (hop : op < 5) (h1 : 1 ≤ count) (hmax : count ≤ 65536)
    (hclass : maintKey s / 2 ^ 62 = 0) (hmember : maintKey s / 2 ^ 40 = (maintKey s + count - 1) / 2 ^ 40)
    (hon : op = 3 → s.on R.ENV_STATUS_SCRATCH = false) (hoff : op = 4 → s.on R.ENV_STATUS_SCRATCH = true) :
    maintRefusal s op 0 count =
      if s.on R.ENV_STATUS_MAINT_BUSY = true ∨ s.rd R.ENV_STATUS_MODE = 1 ∨ s.on R.ENV_STATUS_INIT = true then some eBusy else none := by
  have hfield : ¬ (5 ≤ op ∨ (0 = 0 ∧ 2 ≤ maintKey s / 2 ^ 62)) := by omega
  have hcount : ¬ (0 = 0 ∧ (count = 0 ∨ 65536 < count)) := by omega
  have hpage : ¬ (0 = 0 ∧ maintKey s / 2 ^ 62 = 1 ∧ 2 ^ 24 ≤ bits (maintKey s) 0 62 + count - 1) := by omega
  have hscratch : ¬ (op = 3 ∧ s.on R.ENV_STATUS_SCRATCH = true ∨ op = 4 ∧ ¬ s.on R.ENV_STATUS_SCRATCH = true) := by
    rintro (⟨h, hs⟩ | ⟨h, hs⟩)
    · rw [hon h] at hs; contradiction
    · exact hs (hoff h)
  rw [maintRefusal, if_neg hfield, if_neg hcount, if_neg (fun h => h.2.2 hmember), if_neg hpage, if_neg (fun h => absurd h.1 (by decide)),
    if_neg (fun h => absurd h.1 (by decide)), if_neg hscratch]

/-! ### The end of an operation -/

/-- A maintenance operation has ended: MAINT_BUSY is 0 and MAINT_DONE is raised (R185). -/
def maintEnded (s : State) : State :=
  (State.wr { s with env.maint := none } R.ENV_STATUS_MAINT_BUSY 0).raise R.ENV_INT_STATUS_MAINT_DONE

/-- The lines that an operation covers are cleaned; those it cleans and those it skips are counted (R185). -/
def maintCleaned (cov : Line → Bool) (s : State) : State :=
  envClean cov (maintCount (s.env.lines.filter fun l => cov l && l.st = .dirty).length (s.env.lines.filter fun l => cov l && l.st.busy).length s)

section
variable {s : State} {op form all count k : Nat}

/-- CLEAN ends with its lines cleaned. -/
theorem doMaintDone_of_clean (h : s.env.maint = some (0, form, all, count, k)) :
    doMaintDone s = maintEnded (maintCleaned (maintCovers form all count k) s) := by
  simp only [doMaintDone, h]
  rfl

/-- INVALIDATE and CLEAN_INVAL drop what they cleaned, and the Skirt lines of the same keys. -/
theorem doMaintDone_of_invalidate (h : s.env.maint = some (op, form, all, count, k)) (hop : op = 1 ∨ op = 2) :
    doMaintDone s = maintEnded { dropLines (fun l => maintCovers form all count k l && ¬ l.st.busy)
      (maintCleaned (maintCovers form all count k) s) with
      env.skirt := s.env.skirt.filter fun l => ¬ maintSkirt form all count k l.key } := by
  rcases hop with rfl | rfl <;> simp only [doMaintDone, h] <;> rfl

/-- SCRATCH_ON ends once no line is left in the ways of the window, which is zero and on (R188). -/
theorem doMaintDone_of_scratchOn (h : s.env.maint = some (3, form, all, count, k)) (hfree : ∀ l ∈ s.env.lines, l.way < 8) :
    doMaintDone s = maintEnded (State.wr { s with env.scratch := [] } R.ENV_STATUS_SCRATCH 1) := by
  have hnone : (s.env.lines.any fun l => 8 ≤ l.way) = false := by simpa using hfree
  simp only [doMaintDone, h, hnone, if_true, Bool.false_eq_true, if_false]
  rfl

/-- SCRATCH_OFF ends with the window off and its contents discarded (R188). -/
theorem doMaintDone_of_scratchOff (h : s.env.maint = some (4, form, all, count, k)) :
    doMaintDone s = maintEnded (State.wr { s with env.scratch := [], env.scratchOn := false } R.ENV_STATUS_SCRATCH 0) := by
  simp only [doMaintDone, h]
  rfl

end

theorem mem_dropLines {p : Line → Bool} {s : State} {l : Line} :
    l ∈ (dropLines p s).env.lines ↔ l ∈ s.env.lines ∧ p l = false := by
  simp [dropLines]

/-- Cleaning leaves the lines that it does not cover. -/
theorem mem_envClean_of_uncovered {p : Line → Bool} {s : State} {l : Line} (hl : l ∈ s.env.lines) (hp : p l = false) :
    l ∈ (envClean p s).env.lines :=
  List.mem_map.mpr ⟨l, hl, by simp [hp]⟩

theorem maintEnded_rd_busy (s : State) : (maintEnded s).rd R.ENV_STATUS_MAINT_BUSY = 0 := by
  rw [maintEnded, State.rd_raise_ne _ (by decide), State.rd_wr_same, Nat.zero_mod]

theorem maintEnded_rd_done (s : State) : (maintEnded s).rd R.ENV_INT_STATUS_MAINT_DONE = 1 := by
  rw [maintEnded, State.rd_raise_same]
  exact or_one_mod_two _

/-! ### The scratch window -/

/-- A write of several values leaves the addresses outside them. -/
theorem SMap.get_write_outside {α : Type} [DecidableEq α] (d : α) {a : Nat} : ∀ {k : Nat} {vs : List α} (m : SMap α),
    a < k ∨ k + vs.length ≤ a → SMap.get d a (SMap.write d k vs m) = SMap.get d a m
  | _, [], _, _ => rfl
  | k, v :: vs, m, h => by
    rw [List.length_cons] at h
    rw [SMap.write, SMap.get_write_outside d _ (by omega), SMap.get_set_ne d (by omega)]

/-- A read of as many values as were written answers them. -/
theorem SMap.read_write {α : Type} [DecidableEq α] (d : α) : ∀ (k : Nat) (vs : List α) (m : SMap α),
    SMap.read d k vs.length (SMap.write d k vs m) = vs
  | _, [], _ => rfl
  | k, v :: vs, m => by
    rw [SMap.write, List.length_cons, SMap.read, SMap.get_write_outside d _ (by omega), SMap.get_set_same, SMap.read_write d (k + 1) vs]

/-- Bytes that lie in the window are stored as they are. -/
theorem scratchWrite_of_bytes {off : Nat} {bytes : List Nat} (hb : ∀ b ∈ bytes, b < 256) (hlen : off + bytes.length ≤ scratchSize)
    (s : State) : scratchWrite off bytes s = { s with env.scratch := SMap.write 0 off bytes s.env.scratch } := by
  have hbytes : bytes.map (· % 256) = bytes := (List.map_congr_left fun b h => Nat.mod_eq_of_lt (hb b h)).trans bytes.map_id'
  rw [scratchWrite, List.take_of_length_le (by omega), hbytes]

theorem scratchRead_scratchWrite {off : Nat} {bytes : List Nat} (hb : ∀ b ∈ bytes, b < 256) (hlen : off + bytes.length ≤ scratchSize)
    (s : State) : scratchRead (scratchWrite off bytes s) off bytes.length = bytes := by
  rw [scratchWrite_of_bytes hb hlen, scratchRead, Nat.min_eq_left (by omega), SMap.read_write]

theorem doScratchWindowAccess_of_mapped {s : State} (h : scratchMapped s = true) (link off : Nat) (bytes : List Nat) (wr : Bool) (len : Nat) :
    doScratchWindowAccess link off bytes wr len s =
      if wr then scratchWrite off bytes s else s.emit (.window link (scratchRead s off len) false) := if_pos h

theorem doScratchWindowAccess_of_unmapped {s : State} (h : scratchMapped s = false) (link off : Nat) (bytes : List Nat) (wr : Bool)
    (len : Nat) : doScratchWindowAccess link off bytes wr len s =
      if wr then s.raise R.ENV_INT_STATUS_WIN_OFF
      else (s.raise R.ENV_INT_STATUS_WIN_OFF).emit (.window link (List.replicate len 0) false) :=
  if_neg (by rw [h]; exact Bool.false_ne_true)

/-! ### Caching off -/

/-- While an operation runs, ENV_DISABLE takes no write (Table 7.6). -/
theorem doEnvDisableWrite_of_busy {s : State} (h : s.on R.ENV_STATUS_MAINT_BUSY = true) (v : Nat) :
    doEnvDisableWrite v s = s.wr R.ENV_STATUS_LAST_ERR eBusy := if_pos h

section
variable {s : State} {v : Nat} (hfree : s.on R.ENV_STATUS_MAINT_BUSY = false)
include hfree

/-- ENABLED with DIRTY lines: caching is not switched off without CLEAN_FIRST. -/
theorem doEnvDisableWrite_of_dirty (hmode : s.rd R.ENV_STATUS_MODE = 0) (hdis : bit v 0 = true) (hfirst : bit v 1 = false)
    (hdirty : dirtyLines s ≠ 0) : doEnvDisableWrite v s = s.wr R.ENV_STATUS_LAST_ERR eDirty := by
  simp [doEnvDisableWrite, hfree, hmode, hdis, hfirst, hdirty, envReject]

/-- ENABLED without a DIRTY line: caching is off at once. -/
theorem doEnvDisableWrite_of_clean (hmode : s.rd R.ENV_STATUS_MODE = 0) (hdis : bit v 0 = true) (hfirst : bit v 1 = false)
    (hclean : dirtyLines s = 0) : doEnvDisableWrite v s =
      dropLines (fun l => ¬ l.st.busy) { (s.wr R.ENV_DISABLE_DISABLE 1).wr R.ENV_STATUS_MODE 2 with env.skirt := [] } := by
  simp [doEnvDisableWrite, hfree, hmode, hdis, hfirst, hclean]

/-- ENABLED with CLEAN_FIRST: MODE becomes CLEANING. -/
theorem doEnvDisableWrite_of_cleanFirst (hmode : s.rd R.ENV_STATUS_MODE = 0) (hdis : bit v 0 = true) (hfirst : bit v 1 = true) :
    doEnvDisableWrite v s = (s.wr R.ENV_DISABLE_DISABLE 1).wr R.ENV_STATUS_MODE 1 := by
  simp [doEnvDisableWrite, hfree, hmode, hdis, hfirst]

/-- CLEANING is not taken back. -/
theorem doEnvDisableWrite_of_cleaning (hmode : s.rd R.ENV_STATUS_MODE = 1) (hdis : bit v 0 = false) :
    doEnvDisableWrite v s = s.wr R.ENV_STATUS_LAST_ERR eState := by
  simp [doEnvDisableWrite, hfree, hmode, hdis, envReject]

/-- DISABLED with DISABLE 0: caching is on again. -/
theorem doEnvDisableWrite_of_enable (hmode : s.rd R.ENV_STATUS_MODE = 2) (hdis : bit v 0 = false) :
    doEnvDisableWrite v s = (s.wr R.ENV_DISABLE_DISABLE 0).wr R.ENV_STATUS_MODE 0 := by
  simp [doEnvDisableWrite, hfree, hmode, hdis]

/-- DISABLED with DISABLE 1: no effect. -/
theorem doEnvDisableWrite_of_disabled (hmode : s.rd R.ENV_STATUS_MODE = 2) (hdis : bit v 0 = true) : doEnvDisableWrite v s = s := by
  simp [doEnvDisableWrite, hfree, hmode, hdis]

end

/-! ### The obligation -/

/-- Settles O26: a write of ENV_MAINT is refused, stored or started, an operation's end is one branch for each OP, the window reads what was
written, and each row of Table 7.6 is one branch of the write of ENV_DISABLE. -/
theorem envelopeIsMaintained : Obligations.EnvelopeIsMaintained := by
  refine ⟨?start, ?countRefused, ?stored, ?refusal, ?done, ?window, ?readBack, ?disable, ?cleanFirst⟩
  case start =>
    rintro s op v _ ha hstart rfl
    refine ⟨fun c hc w hw => gives_envMaint ha fun _ => (envMaint_of_refused hstart hc).trans hw.symm, ?_⟩
    rintro hn _ rfl
    obtain ⟨clean, invalidate, cleanInval, on, off⟩ := gives_envMaint ha fun _ => envMaint_of_accepted hstart hn
    refine ⟨?_, ?_, ?_, ?_, ?_⟩ <;> rintro rfl
    · exact clean rfl
    · exact invalidate rfl
    · exact cleanInval rfl
    · exact on rfl
    · exact off rfl
  case countRefused =>
    rintro s op v ha hstart hform hcount _ rfl
    exact gives_envMaint ha fun hop => envMaint_of_count_out_of_range hstart hop hform hcount
  case stored =>
    rintro s op v ha hstart hcount _ rfl
    exact gives_envMaint ha fun hop => envMaint_of_stored hstart hop hcount
  case refusal =>
    rintro s op _ count hop h1 hmax rfl hclass hmember hon hoff
    exact maintRefusal_of_member_range hop h1 hmax hclass hmember hon hoff
  case done =>
    rintro s op form all count k _ _ ha hm rfl rfl
    refine ⟨fun h => ?clean, fun h hfree => ?on, fun h => ?off, fun h => ?invalidate⟩
    case clean =>
      subst h
      exact .of_live_eq (exec_maintDone s) ha (doMaintDone_of_clean hm)
    case on =>
      subst h
      exact .of_live_eq (exec_maintDone s) ha (doMaintDone_of_scratchOn hm hfree)
    case off =>
      subst h
      exact .of_live_eq (exec_maintDone s) ha (doMaintDone_of_scratchOff hm)
    case invalidate =>
      refine .of_live (exec_maintDone s) ha ?_
      rw [doMaintDone_of_invalidate hm h]
      refine ⟨fun l hl hcov => ?_, fun l hl hcov => ?_, fun l hl => ?_, maintEnded_rd_busy _, maintEnded_rd_done _, rfl, rfl, rfl⟩
      · simpa [hcov] using (mem_dropLines.mp hl).2
      · exact mem_dropLines.mpr ⟨mem_envClean_of_uncovered hl hcov, by simp [hcov]⟩
      · simpa using (List.mem_filter.mp hl).2
  case window =>
    intro s link off bytes len ha
    refine ⟨fun h => ⟨?_, ?_⟩, fun h => ⟨?_, ?_⟩⟩
    · exact .of_live_eq (exec_scratchWindowAccess link off bytes true len s) ha (doScratchWindowAccess_of_mapped h ..)
    · exact .of_live_eq (exec_scratchWindowAccess link off bytes false len s) ha (doScratchWindowAccess_of_mapped h ..)
    · exact .of_live_eq (exec_scratchWindowAccess link off bytes true len s) ha (doScratchWindowAccess_of_unmapped h ..)
    · exact .of_live_eq (exec_scratchWindowAccess link off bytes false len s) ha (doScratchWindowAccess_of_unmapped h ..)
  case readBack =>
    intro s off bytes hb hlen
    refine ⟨scratchRead_scratchWrite hb hlen s, fun a hout => ?_⟩
    rw [scratchWrite_of_bytes hb hlen]
    exact SMap.get_write_outside 0 _ hout
  case disable =>
    intro s v ha
    refine ⟨fun hbusy => .of_live_eq (exec_envDisableWrite v s) ha (doEnvDisableWrite_of_busy hbusy v), fun hfree => ?_⟩
    have gives := fun {t : State} (h : doEnvDisableWrite v s = t) => Gives.of_live_eq (exec_envDisableWrite v s) ha h
    exact ⟨fun hm hd hf hdirty => gives (doEnvDisableWrite_of_dirty hfree hm hd hf hdirty),
      fun hm hd hf hclean => gives (doEnvDisableWrite_of_clean hfree hm hd hf hclean),
      fun hm hd hf => gives (doEnvDisableWrite_of_cleanFirst hfree hm hd hf),
      fun hm hd => gives (doEnvDisableWrite_of_cleaning hfree hm hd),
      fun hm hd => gives (doEnvDisableWrite_of_enable hfree hm hd),
      fun hm hd => gives (doEnvDisableWrite_of_disabled hfree hm hd)⟩
  case cleanFirst =>
    intro s ha hmode
    exact .of_live_eq (exec_envCleanFirstDone s) ha (if_neg (not_not_intro hmode))

end Sys2Proof.Machine
end

section
/-! SUPPORT. Basket errors and care: corrected beats by lane, uncorrectable beats by channel and by the region of their page, a channel that
fails, and the rows of scrub, refresh and calibration (R198, R200, R201, Table 8.3). -/

namespace Sys2Proof.Machine

/-! ### What the commands mean -/

/-- The meaning of `BASKET_ECC_ERROR` (R201). -/
theorem exec_basketEccError (c l p : Nat) (k : EccKind) (s : State) :
    exec (.basketEccError c l p k) s = live s (doBasketEccError c l p k s) := rfl

/-- The meaning of `COMMAND_PARITY_ERROR` (R198). -/
theorem exec_commandParityError (c p : Nat) (second : Bool) (s : State) :
    exec (.commandParityError c p second) s = live s (doCommandParityError c p second s) := rfl

/-- The meaning of `SCRUB_PASS` (R201). -/
theorem exec_scrubPass (s : State) : exec .scrubPass s = live s (doScrubPass s) := rfl

/-- The meaning of `SCRUB_NOW` (R201). -/
theorem exec_scrubNow (s : State) : exec .scrubNow s = live s (doScrubNow s) := rfl

/-- The meaning of `BANK_REFRESH` (R198). -/
theorem exec_bankRefresh (s : State) : exec .bankRefresh s = live s (doBankRefresh s) := rfl

/-- The meaning of `CALIBRATE` (R198). -/
theorem exec_calibrate (s : State) : exec .calibrate s = live s (doCalibrate s) := rfl

/-! ### Corrected beats -/

/-- A corrected beat is counted and raised (R200). -/
def eccCounted (c : Nat) (s : State) : State := ((s.incSat R.BSK_ECC_CE).incSat (R.BSK_CHc_CE c)).raise R.BSK_INT_STATUS_ECC_CE

/-- The corrected beats that count against lanes once one of lane `l` of channel `c` is noted: those of the last 15,625 epochs (R200). -/
def laneNoted (c l : Nat) (s : State) : List (Nat × Nat × Nat) :=
  (s.bsk.laneCe.filter fun x => decide (s.tet.epoch < x.2.2 + 15625)) ++ [(c, l, s.tet.epoch)]

/-- Counting a corrected beat leaves the failed lane that a channel names. -/
theorem eccCounted_rd_lane (c d : Nat) (s : State) : (eccCounted c s).rd (R.BSK_CHc_LANE d) = s.rd (R.BSK_CHc_LANE d) := by
  have hraise : (R.BSK_CHc_LANE d).key ≠ R.BSK_INT_STATUS_ECC_CE.key := by
    simp only [Fld.key, R.BSK_CHc_LANE, R.BSK_INT_STATUS_ECC_CE]; omega
  have hchannel : (R.BSK_CHc_LANE d).key ≠ (R.BSK_CHc_CE c).key := by
    simp only [Fld.key, R.BSK_CHc_LANE, R.BSK_CHc_CE]; omega
  have hall : (R.BSK_CHc_LANE d).key ≠ R.BSK_ECC_CE.key := by
    simp only [Fld.key, R.BSK_CHc_LANE, R.BSK_ECC_CE]; omega
  rw [eccCounted, State.rd_raise_ne _ hraise, State.rd_incSat_ne _ hchannel, State.rd_incSat_ne _ hall]

/-- What a corrected beat does, by the beats noted against its lane and the failed lane that the channel already names (R200). -/
theorem eccCorrected_eq (c l : Nat) (s : State) : eccCorrected c l s =
    let u := { eccCounted c s with bsk.laneCe := laneNoted c l s }
    if ((laneNoted c l s).filter fun x => x.1 = c && x.2.1 = l).length < 8 ∨ s.rd (R.BSK_CHc_LANE c) = l then u
    else if s.rd (R.BSK_CHc_LANE c) = 127 then (u.wr (R.BSK_CHc_LANE c) l).raise R.BSK_INT_STATUS_LANE_FAIL
    else channelFail c u := by
  rw [← eccCounted_rd_lane c c s]
  rfl

section
variable {c l : Nat} {s : State}

/-- Below the 8th beat, or on the lane that is already replaced, a corrected beat is noted alone. -/
theorem eccCorrected_of_noted
    (h : ((laneNoted c l s).filter fun x => x.1 = c && x.2.1 = l).length < 8 ∨ s.rd (R.BSK_CHc_LANE c) = l) :
    eccCorrected c l s = { eccCounted c s with bsk.laneCe := laneNoted c l s } :=
  (eccCorrected_eq c l s).trans (if_pos h)

variable (h8 : 8 ≤ ((laneNoted c l s).filter fun x => x.1 = c && x.2.1 = l).length) (hlane : s.rd (R.BSK_CHc_LANE c) ≠ l)
include h8 hlane

/-- The 8th beat fails the lane of a channel without a failed lane. -/
theorem eccCorrected_of_first_lane (hfree : s.rd (R.BSK_CHc_LANE c) = 127) : eccCorrected c l s =
    (State.wr { eccCounted c s with bsk.laneCe := laneNoted c l s } (R.BSK_CHc_LANE c) l).raise R.BSK_INT_STATUS_LANE_FAIL :=
  (eccCorrected_eq c l s).trans ((if_neg (not_or.mpr ⟨Nat.not_lt.mpr h8, hlane⟩)).trans (if_pos hfree))

/-- A second failed lane fails the channel. -/
theorem eccCorrected_of_second_lane (hfailed : s.rd (R.BSK_CHc_LANE c) ≠ 127) :
    eccCorrected c l s = channelFail c { eccCounted c s with bsk.laneCe := laneNoted c l s } :=
  (eccCorrected_eq c l s).trans ((if_neg (not_or.mpr ⟨Nat.not_lt.mpr h8, hlane⟩)).trans (if_neg hfailed))

end

/-! ### Uncorrectable beats -/

/-- An uncorrectable beat is counted, raised and recorded with its page, channel and region (R201). -/
def ueRecorded (c p : Nat) (s : State) : State :=
  (((((s.incSat R.BSK_ECC_UE).raise R.BSK_INT_STATUS_ECC_UE).wr R.BSK_UE_ADDR_PAGE p).wr R.BSK_UE_ADDR_CHANNEL c).wr
    R.BSK_UE_ADDR_REGION (pageRegion s p)).wr R.BSK_UE_ADDR_VALID 1

/-- The uncorrectable beats that count against channels once one of channel `c` is noted: those of the last 15,625 epochs (R200). -/
def channelNoted (c : Nat) (s : State) : List (Nat × Nat) :=
  (s.bsk.chanUe.filter fun x => decide (s.tet.epoch < x.2 + 15625)) ++ [(c, s.tet.epoch)]

/-- What an uncorrectable beat does: its page is handled by its region, and the channel fails at the 16th (R200, R201). -/
theorem eccUe_eq (c p : Nat) (both : Bool) (s : State) : eccUe c p both s =
    let u := pageUe p both { ueRecorded c p s with bsk.chanUe := channelNoted c s }
    if ((channelNoted c s).filter fun x => x.1 = c).length < 16 then u else channelFail c u := rfl

theorem doBasketEccError_uncorrectable (c l p : Nat) (both : Bool) (s : State) :
    doBasketEccError c l p (if both then .uncorrectableBothIndex else .uncorrectable) s = eccUe c p both s := by
  cases both <;> rfl

/-! ### An uncorrectable page, by its region -/

/-- A clean entry on an uncorrectable page goes, with the lines of the page (Table 8.3). -/
def cleanGone (p : Nat) (s : State) : State :=
  if s.bsk.clean.any (fun c => c.2.1 = p) then pagesGone p 1 { s with bsk.clean := s.bsk.clean.filter fun c => c.2.1 ≠ p } else s

/-- Nothing but the Envelope's lines and the clean entries changes with it. -/
theorem cleanGone_spec (p : Nat) (s : State) : ∃ e cs, cleanGone p s = { s with env := e, bsk.clean := cs } := by
  unfold cleanGone
  split
  · exact ⟨_, _, rfl⟩
  · exact ⟨s.env, s.bsk.clean, rfl⟩

@[simp] theorem cleanGone_pageRegion (p : Nat) (s : State) (q : Nat) : pageRegion (cleanGone p s) q = pageRegion s q := by
  obtain ⟨e, cs, h⟩ := cleanGone_spec p s
  rw [h]; rfl

@[simp] theorem cleanGone_extentsAt (p : Nat) (s : State) (lo n : Nat) : extentsAt (cleanGone p s) lo n = extentsAt s lo n := by
  obtain ⟨e, cs, h⟩ := cleanGone_spec p s
  rw [h]; rfl

@[simp] theorem cleanGone_pairedCopy (p : Nat) (s : State) : pairedCopy (cleanGone p s) = pairedCopy s := by
  obtain ⟨e, cs, h⟩ := cleanGone_spec p s
  rw [h]; rfl

@[simp] theorem cleanGone_saved (p : Nat) (s : State) : (cleanGone p s).bsk.saved = s.bsk.saved := by
  obtain ⟨e, cs, h⟩ := cleanGone_spec p s
  rw [h]

section
variable {p : Nat} {s : State} {both : Bool}

/-- Pages of the lost-stripe map cache, the device reserve and the user region lose the clean entry alone. -/
theorem pageUe_of_no_content (h : pageRegion s p = 3 ∨ 6 ≤ pageRegion s p) : pageUe p both s = cleanGone p s := by
  unfold pageUe
  rw [← cleanGone]
  dsimp only
  rw [cleanGone_pageRegion]
  split
  case h_6 => rfl
  all_goals omega

/-- A page of the write store: free, it loses the clean entry alone; held, it comes from the other unit or is lost. -/
theorem pageUe_of_store (h : pageRegion s p = 0) : pageUe p both s =
    if extentsAt s p 1 = [] ∧ ∀ x ∈ s.bsk.saved, p < x.addr ∨ x.addr + x.count ≤ p then cleanGone p s
    else if pairedCopy s then fetchPage p (cleanGone p s) else pageLost p both (cleanGone p s) := by
  unfold pageUe
  rw [← cleanGone]
  simp only [cleanGone_pageRegion, h, cleanGone_pairedCopy]
  refine ite_congr (propext ?_) (fun _ => rfl) (fun _ => rfl)
  simp [Decidable.imp_iff_not_or]

/-- A page of the index: where both copies are gone, it comes from the other unit or the marked regions are lost; else the other copy serves. -/
theorem pageUe_of_index (h : pageRegion s p = 1) : pageUe p both s =
    if both = true ∧ pairedCopy s = true then fetchPage p (cleanGone p s)
    else if both then regionsLost 2 (cleanGone p s) else cleanGone p s := by
  unfold pageUe
  rw [← cleanGone]
  simp [h, pageLost]

end

/-! ### A failed channel -/

/-- Before service, with the Ballast not armed, a channel that fails sets FAILED and raises CH_FAIL (R200). -/
theorem channelFail_of_not_serving {c : Nat} {s : State} (hf : s.on (R.BSK_CHc_FAILED c) = false) (hr : s.ready = false)
    (hb : s.rd R.BAL_STATUS_STATE ≠ 1) : channelFail c s = (s.wr (R.BSK_CHc_FAILED c) 1).raise R.BSK_INT_STATUS_CH_FAIL := by
  have hstate : R.BAL_STATUS_STATE.key ≠ (R.BSK_CHc_FAILED c).key := by
    simp only [Fld.key, R.BSK_CHc_FAILED, R.BAL_STATUS_STATE]; omega
  have hready : R.GLB_STATUS_READY.key ≠ (R.BSK_CHc_FAILED c).key := by
    simp only [Fld.key, R.BSK_CHc_FAILED, R.GLB_STATUS_READY]; omega
  have hunarmed : ((s.wr (R.BSK_CHc_FAILED c) 1).raise R.BSK_INT_STATUS_CH_FAIL).rd R.BAL_STATUS_STATE ≠ 1 := by
    rwa [State.rd_raise_ne _ (by decide), State.rd_wr_ne _ hstate]
  have hclosed : ((s.wr (R.BSK_CHc_FAILED c) 1).raise R.BSK_INT_STATUS_CH_FAIL).ready = false := by
    rwa [State.ready, State.on, State.rd_raise_ne _ (by decide), State.rd_wr_ne _ hready]
  simp only [channelFail, hf, balDisarm, hunarmed, wtServe, hclosed, Bool.false_eq_true, if_false]

/-! ### The obligation -/

/-- Settles O27: a corrected beat by the beats noted against its lane, an uncorrectable beat by those noted against its channel, its page by
its region, and the rows of scrub, refresh and calibration as they stand. -/
theorem basketErrorsAreHandled : Obligations.BasketErrorsAreHandled := by
  refine ⟨?corrected, ?uncorrectable, ?parity, ?page, ?channel, ?scrubPass, ?scrubNow, ?refresh, ?calibrate⟩
  case corrected =>
    rintro s c l p _ ha rfl _ rfl
    have gives := fun {t : State} (h : eccCorrected c l s = t) => Gives.of_live_eq (exec_basketEccError c l p .corrected s) ha h
    exact ⟨fun h => gives (eccCorrected_of_noted h),
      fun h8 hfree hl => gives (eccCorrected_of_first_lane h8 (fun h => hl (h.symm.trans hfree)) hfree),
      fun h8 hfailed hlane => gives (eccCorrected_of_second_lane h8 hlane hfailed)⟩
  case uncorrectable =>
    rintro s c l p b _ ha rfl _ _ rfl rfl
    have heq := (doBasketEccError_uncorrectable c l p b s).trans (eccUe_eq c p b s)
    refine ⟨fun h => ?below, fun h => ?sixteenth, fun hb h => ?secondParity⟩
    case below => exact .of_live_eq (exec_basketEccError ..) ha (heq.trans (if_pos h))
    case sixteenth => exact .of_live_eq (exec_basketEccError ..) ha (heq.trans (if_neg (Nat.not_lt.mpr h)))
    case secondParity => exact .of_live_eq (exec_commandParityError c p true s) ha ((eccUe_eq c p false s).trans (if_pos h))
  case parity => exact fun s c p ha => .of_live (exec_commandParityError c p false s) ha
  case page =>
    rintro s p b _ rfl
    refine ⟨pageUe_of_no_content, fun h hext hsaved => ?free, fun h hext hpair => ?fetched, fun h hb => ?oneCopy, fun h hb hpair => ?lost⟩
    case free => exact (pageUe_of_store h).trans (if_pos ⟨hext, hsaved⟩)
    case fetched => exact (pageUe_of_store h).trans ((if_neg fun hfree => hext hfree.1).trans (if_pos hpair))
    case oneCopy => subst hb; exact pageUe_of_index h
    case lost => subst hb; exact (pageUe_of_index h).trans (if_neg (by simp [hpair]))
  case channel => exact fun s c => channelFail_of_not_serving
  case scrubPass => exact fun s ha => .of_live (exec_scrubPass s) ha
  case scrubNow =>
    exact fun s ha => ⟨fun h => .of_live_eq (exec_scrubNow s) ha (if_pos h),
      fun h => .of_live_eq (exec_scrubNow s) ha (if_neg (ne_true_of_eq_false h))⟩
  case refresh => exact fun s ha h => .of_live_eq (exec_bankRefresh s) ha (if_neg (ne_true_of_eq_false h))
  case calibrate => exact fun s ha => .of_live (exec_calibrate s) ha

end Sys2Proof.Machine
end

section
/-! SUPPORT. Fabric ports: connect requests, the rate of a queue pair under congestion, priority flow control of both directions, and the
events of a subport (R236, R237, R242 to R244). -/

namespace Sys2Proof.Machine

/-! ### What the commands mean -/

/-- The meaning of `CM_CONNECT_REQUEST` (R237). -/
theorem exec_cmConnectRequest (host p sub : Nat) (s : State) :
    exec (.cmConnectRequest host p sub) s = live s (doCmConnectRequest host p sub s) := rfl

/-- The meaning of `QP_RETRY_EXHAUSTED` (R237). -/
theorem exec_qpRetryExhausted (q : Nat) (s : State) : exec (.qpRetryExhausted q) s = live s (doQpRetryExhausted q s) := rfl

/-- The meaning of `ECN_CE_RECEIVED` (R242). -/
theorem exec_ecnCeReceived (q : Nat) (s : State) : exec (.ecnCeReceived q) s = live s (doEcnCeReceived q s) := rfl

/-- The meaning of `CNP_RECEIVED` (R242). -/
theorem exec_cnpReceived (q : Nat) (s : State) : exec (.cnpReceived q) s = live s (doCnpReceived q s) := rfl

/-- The meaning of `CC_RECOVER` (R242). -/
theorem exec_ccRecover (q : Nat) (s : State) : exec (.ccRecover q) s = live s (doCcRecover q s) := rfl

/-- The meaning of `PFC_XOFF` (R243). -/
theorem exec_pfcXoff (p sub prio : Nat) (s : State) : exec (.pfcXoff p sub prio) s = live s (doPfcXoff p sub prio s) := rfl

/-- The meaning of `PFC_XON` (R243). -/
theorem exec_pfcXon (p sub prio : Nat) (s : State) : exec (.pfcXon p sub prio) s = live s (doPfcXon p sub prio s) := rfl

/-- The meaning of `PFC_PAUSE_REFRESH` (R243). -/
theorem exec_pfcPauseRefresh (p sub prio : Nat) (s : State) :
    exec (.pfcPauseRefresh p sub prio) s = live s (doPfcPauseRefresh p sub prio s) := rfl

/-- The meaning of `PFC_STORM` (R244). -/
theorem exec_pfcStorm (p sub prio : Nat) (s : State) : exec (.pfcStorm p sub prio) s = live s (doPfcStorm p sub prio s) := rfl

/-- The meaning of `PFC_STORM_END` (R244). -/
theorem exec_pfcStormEnd (p sub prio : Nat) (s : State) : exec (.pfcStormEnd p sub prio) s = live s (doPfcStormEnd p sub prio s) := rfl

/-- The meaning of `PAUSE_RECEIVED` (R244). -/
theorem exec_pauseReceived (p sub prio quanta : Nat) (s : State) :
    exec (.pauseReceived p sub prio quanta) s = live s (doPauseReceived p sub prio quanta s) := rfl

/-- The meaning of `FABRIC_LINK_EVENT` (R236). -/
theorem exec_fabricLinkEvent (p sub : Nat) (ev : FabEvent) (s : State) :
    exec (.fabricLinkEvent p sub ev) s = live s (doFabricLinkEvent p sub ev s) := rfl

/-- The meaning of `FEC_UNCORRECTABLE` (R236). -/
theorem exec_fecUncorrectable (p : Nat) (s : State) : exec (.fecUncorrectable p) s = live s (doFecUncorrectable p s) := rfl

/-! ### Connect requests -/

section
variable {s : State} {p sub : Nat} (ht : taking s = true) (hup : fabUp s p sub = true)
include ht hup

/-- With a queue pair free, a connect request takes it and is accepted (R237). -/
theorem doCmConnectRequest_of_room (hroom : s.fab.qps.length < 4096) (host : Nat) {q : Qp}
    (hq : q = ⟨s.fab.nextQp, host, 0xFFFF, 0, 4 * p + sub, fabRate s p * 65536, fabRate s p * 65536, 0, 0, 0, 0, false⟩) :
    doCmConnectRequest host p sub s =
      { s.emit (.eth p sub 4 [host, q.id]) with fab.qps := s.fab.qps ++ [q], fab.nextQp := s.fab.nextQp + 1 } := by
  subst hq
  simp [doCmConnectRequest, ht, hup, Nat.not_le.mpr hroom]

/-- With all queue pairs taken, a connect request is refused (R237). -/
theorem doCmConnectRequest_of_full (hfull : 4096 ≤ s.fab.qps.length) (host : Nat) :
    doCmConnectRequest host p sub s = s.emit (.eth p sub 3 [host]) := by
  simp [doCmConnectRequest, ht, hup, hfull]

end

/-! ### A queue pair under congestion -/

/-- An update of a queue pair changes each pair of its number. -/
theorem mem_modQp {s : State} {y : Qp} (hy : y ∈ s.fab.qps) (f : Qp → Qp) : f y ∈ (s.modQp y.id f).fab.qps :=
  List.mem_map.mpr ⟨y, hy, if_pos rfl⟩

section
variable {s : State} {q : Nat} {x : Qp} (hx : qpOf s q = some x)
include hx

theorem qpOf_mem : x ∈ s.fab.qps := List.mem_of_find?_eq_some hx

theorem qpOf_id : x.id = q := of_decide_eq_true (List.find?_some (p := fun y : Qp => decide (y.id = q)) hx)

/-- A queue pair that gives up retrying ends the association that it serves (R154). -/
theorem doQpRetryExhausted_of_serving (herr : x.err = false) (hctrl : x.ctrl ≠ 0xFFFF) : doQpRetryExhausted q s =
    endAssociation x.ctrl ((s.modQp q fun y => { y with err := true }).raise R.FAB_INT_STATUS_QP_ERROR) := by
  simp only [doQpRetryExhausted, hx, herr, hctrl, Bool.false_eq_true, if_false]

/-- A marked packet sends a notification where ECN is on and CNP_GAP epochs have passed since the last (R242). -/
theorem doEcnCeReceived_of_some : doEcnCeReceived q s =
    if ¬ s.on (R.FAB_Pp_CFG_ECN_EN (x.port / 4)) ∨ (x.lastCnp ≠ 0 ∧ s.tet.epoch + 1 < x.lastCnp + s.rd R.FAB_CC_CNP_GAP) then s
    else ((s.modQp q fun y => { y with lastCnp := s.tet.epoch + 1 }).incSat (R.FAB_Pp_CNP_TX (x.port / 4))).emit
      (.eth (x.port / 4) (x.port % 4) 1 [q]) := by
  simp only [doEcnCeReceived, hx]

/-- A notification cuts the rate, once per epoch (R242). -/
theorem doCnpReceived_of_ecn {u : State} (hu : u = s.incSat (R.FAB_Pp_CNP_RX (x.port / 4)))
    (hecn : u.on (R.FAB_Pp_CFG_ECN_EN (x.port / 4)) = true) : doCnpReceived q s =
    u.modQp q fun y => { y with
      lastRx := s.tet.epoch + 1, lastCut := s.tet.epoch + 1,
      rate := if y.lastCut = s.tet.epoch + 1 then y.rate else y.rate * (256 - u.rd R.FAB_CC_CUT) / 256 } := by
  subst hu
  simp only [doCnpReceived, hx, hecn, not_true_eq_false, if_false]

/-- The rate rises where ECN is on, RECOVER epochs have passed since the last notification, and it has not risen in this epoch (R242). -/
theorem doCcRecover_of_quiet (hecn : s.on (R.FAB_Pp_CFG_ECN_EN (x.port / 4)) = true)
    (hquiet : x.lastRx + s.rd R.FAB_CC_RECOVER ≤ s.tet.epoch + 1) (hnew : x.lastUp ≠ s.tet.epoch + 1) : doCcRecover q s =
    s.modQp q fun y => { y with lastUp := s.tet.epoch + 1, rate := min y.full (y.rate + s.rd R.FAB_CC_STEP * 65536) } := by
  simp only [doCcRecover, hx, hecn, hnew, Nat.not_lt.mpr hquiet, not_true_eq_false, or_self, if_false]

end

/-! ### Pause that is sent -/

/-- XOFF on a lossless priority of a subport that is up: a storm notes the time, and without one pause is sent once (R243, R244). -/
theorem doPfcXoff_of_lossless {s : State} {p sub prio : Nat} (hup : fabUp s p sub = true)
    (hpfc : bit (s.rd (R.FAB_Pp_CFG_PFC_MASK p)) prio = true) : doPfcXoff p sub prio s =
    if (pfcOf s p sub prio).storm then putPfc { pfcOf s p sub prio with lastXoff := s.tet.epoch } s
    else if (pfcOf s p sub prio).sending then s
    else (pauseTx p (putPfc { pfcOf s p sub prio with sending := true, since := s.tet.epoch } s)).emit (.eth p sub 0 [prio, 0xFFFF]) := by
  simp [doPfcXoff, hup, hpfc]

/-! ### Pause that is received -/

section
variable {s : State} {p sub prio : Nat} (hup : fabUp s p sub = true) (hprio : prio < 8) (hdrop : (pfcOf s p sub prio).drop = false)
include hup hprio hdrop

/-- Quanta 0 ends a hold (R244). -/
theorem doPauseReceived_zero : doPauseReceived p sub prio 0 s = putPfc { pfcOf s p sub prio with held := false } s := by
  simp [doPauseReceived, hup, hdrop, Nat.not_le.mpr hprio]

/-- A pause on a priority that is not held begins a hold of its quanta (R244). -/
theorem doPauseReceived_of_free (hheld : (pfcOf s p sub prio).held = false) {quanta : Nat} (hq : quanta ≠ 0) :
    doPauseReceived p sub prio quanta s = pauseRx p (putPfc { pfcOf s p sub prio with
      lastRx := s.tet.epoch, held := true, heldFrom := s.tet.epoch, heldTo := s.tet.epoch + quantaEpochs s p quanta } s) := by
  simp [doPauseReceived, hup, hdrop, hheld, hq, Nat.not_le.mpr hprio]

end

/-! ### The obligation -/

/-- Settles O33: each clause is one branch of its command, taken in the state that its hypotheses name; a notification cuts the rate of the
pair that `qpOf` finds, which is still among the pairs under its number. -/
theorem fabricPortsFollowCongestion : Obligations.FabricPortsFollowCongestion := by
  refine ⟨?connect, ?full, ?retry, ?notify, ?gap, ?cut, ?recover, ?xoff, ?sending, ?stormEnd, ?holdEnd, ?hold, ?link, ?fec⟩
  case connect =>
    exact fun s host p sub ha ht hup hroom q hq =>
      .of_live_eq (exec_cmConnectRequest host p sub s) ha (doCmConnectRequest_of_room ht hup hroom host hq)
  case full =>
    exact fun s host p sub ha ht hup hfull =>
      .of_live_eq (exec_cmConnectRequest host p sub s) ha (doCmConnectRequest_of_full ht hup hfull host)
  case retry =>
    exact fun s q x ha hx herr hctrl => .of_live_eq (exec_qpRetryExhausted q s) ha (doQpRetryExhausted_of_serving hx herr hctrl)
  case notify =>
    intro s q x ha hx hecn hgap
    have hsends : ¬ (¬ s.on (R.FAB_Pp_CFG_ECN_EN (x.port / 4)) = true ∨
        (x.lastCnp ≠ 0 ∧ s.tet.epoch + 1 < x.lastCnp + s.rd R.FAB_CC_CNP_GAP)) := by
      rintro (hoff | ⟨hne, hlt⟩)
      · exact hoff hecn
      · exact hgap.elim hne (Nat.not_le.mpr hlt)
    exact .of_live_eq (exec_ecnCeReceived q s) ha ((doEcnCeReceived_of_some hx).trans (if_neg hsends))
  case gap =>
    exact fun s q x ha hx hne hlt =>
      .of_live_eq (exec_ecnCeReceived q s) ha ((doEcnCeReceived_of_some hx).trans (if_pos (.inr ⟨hne, hlt⟩)))
  case cut =>
    intro s q x ha hx hecn hcut
    have gives := (exec_cnpReceived q s).trans (live_on ha _)
    rw [doCnpReceived_of_ecn hx rfl hecn] at gives
    obtain rfl := qpOf_id hx
    exact ⟨_, gives, _, mem_modQp (qpOf_mem hx) _, rfl, if_neg hcut, rfl⟩
  case recover =>
    exact fun s q x ha hx hecn hquiet hnew => .of_live_eq (exec_ccRecover q s) ha (doCcRecover_of_quiet hx hecn hquiet hnew)
  case xoff =>
    rintro s p sub prio ha hup hpfc _ rfl
    have gives := fun {t : State} (h : _ = t) =>
      Gives.of_live_eq (exec_pfcXoff p sub prio s) ha ((doPfcXoff_of_lossless hup hpfc).trans h)
    refine ⟨fun hstorm hsending => gives ?_, fun hstorm => gives (if_pos hstorm)⟩
    rw [if_neg (ne_true_of_eq_false hstorm), if_neg (ne_true_of_eq_false hsending)]
  case sending =>
    rintro s p sub prio _ ha rfl hsending
    exact ⟨.of_live_eq (exec_pfcXon p sub prio s) ha (if_pos hsending),
      .of_live_eq (exec_pfcPauseRefresh p sub prio s) ha (if_pos hsending),
      fun hlong => .of_live_eq (exec_pfcStorm p sub prio s) ha (if_pos ⟨hsending, hlong⟩)⟩
  case stormEnd =>
    rintro s p sub prio _ ha rfl hstorm hquiet
    exact .of_live_eq (exec_pfcStormEnd p sub prio s) ha (if_pos ⟨hstorm, hquiet⟩)
  case holdEnd =>
    rintro s p sub prio _ ha hup hprio rfl hdrop
    exact .of_live_eq (exec_pauseReceived p sub prio 0 s) ha (doPauseReceived_zero hup hprio hdrop)
  case hold =>
    rintro s p sub prio _ quanta ha hup hprio rfl hdrop hheld hq
    exact .of_live_eq (exec_pauseReceived p sub prio quanta s) ha (doPauseReceived_of_free hup hprio hdrop hheld hq)
  case link =>
    intro s p sub ha hp hsub hpower
    have htaken : ¬ (4 ≤ p ∨ fabSubs s p ≤ sub ∨ deviceOff s = true ∨ groupDead s (4 + p) = true) := by
      simp [Nat.not_le.mpr hp, Nat.not_le.mpr hsub, show deviceOff s = false from ha, hpower]
    exact ⟨.of_live_eq (exec_fabricLinkEvent p sub .up s) ha (if_neg htaken),
      .of_live_eq (exec_fabricLinkEvent p sub .localFault s) ha (if_neg htaken),
      .of_live_eq (exec_fabricLinkEvent p sub .remoteFault s) ha (if_neg htaken),
      .of_live_eq (exec_fabricLinkEvent p sub .down s) ha (if_neg htaken)⟩
  case fec => exact fun s p ha hp => .of_live_eq (exec_fecUncorrectable p s) ha (if_neg (Nat.not_le.mpr hp))

end Sys2Proof.Machine
end

section
/-! SUPPORT. Spool channels under their controls: start, stop, resume and abort, triggers and timers (R247, R257, R258, R260, R263, R264,
R267, R268), and the turns of the serial channels (R262). -/

namespace Sys2Proof.Machine

/-! ### What the commands mean -/

/-- The meaning of `SPL_START` (R257). -/
theorem exec_splStart (c : Nat) (s : State) : exec (.splStart c) s = live s (doSplStart c s) := rfl

/-- The meaning of `SPL_STOP` (R264). -/
theorem exec_splStop (c : Nat) (s : State) : exec (.splStop c) s = live s (doSplStop c s) := rfl

/-- The meaning of `SPL_RESUME` (R267). -/
theorem exec_splResume (c : Nat) (s : State) : exec (.splResume c) s = live s (doSplResume c s) := rfl

/-- The meaning of `SPL_ABORT` (Table 10.5). -/
theorem exec_splAbort (c : Nat) (s : State) : exec (.splAbort c) s = live s (doSplAbort c s) := rfl

/-- The meaning of `SPL_TRIGGER` (R258). -/
theorem exec_splTrigger (c : Nat) (s : State) : exec (.splTrigger c) s = live s (doSplTrigger c s) := rfl

/-- The meaning of `SPL_TIMER_TICK` (R258). -/
theorem exec_splTimerTick (k : Nat) (s : State) : exec (.splTimerTick k) s = live s (doSplTimerTick k s) := rfl

/-- The meaning of `SPL_TIMER_WRITE` (Table 10.9). -/
theorem exec_splTimerWrite (k v : Nat) (s : State) : exec (.splTimerWrite k v) s = live s (doSplTimerWrite k v s) := rfl

/-- The meaning of `SPL_SERIAL_TURN` (R262). -/
theorem exec_splSerialTurn (s : State) : exec .splSerialTurn s = live s (doSplSerialTurn s) := rfl

/-! ### The STATE of a channel -/

@[simp] theorem State.modCh_chState (s : State) (c : Nat) (f : SplCh → SplCh) (d : Nat) : (s.modCh c f).chState d = s.chState d := rfl

@[simp] theorem settle_chState (s : State) (c : Nat) : (settle s).chState c = s.chState c := rfl

theorem chState_wr_same (s : State) (c : Nat) {v : Nat} (hv : v < 8) : (s.wr (R.SPL_CHc_STATUS_STATE c) v).chState c = v :=
  (State.rd_wr_same s _ v).trans (Nat.mod_eq_of_lt hv)

/-- Each channel has a STATE field of its own. -/
theorem stateField_key_ne {c d : Nat} (h : d ≠ c) : (R.SPL_CHc_STATUS_STATE d).key ≠ (R.SPL_CHc_STATUS_STATE c).key := by
  simp only [Fld.key, R.SPL_CHc_STATUS_STATE]
  omega

theorem chState_wr_ne (s : State) {c d : Nat} (h : d ≠ c) (v : Nat) : (s.wr (R.SPL_CHc_STATUS_STATE c) v).chState d = s.chState d :=
  State.rd_wr_ne s (stateField_key_ne h) v

/-! ### The serial channels (R262) -/

/-- Another serial channel holds the turn where one of the channels 56 to 63 is RUNNING or HALTED. -/
theorem serialTaken_iff {s : State} {c : Nat} : serialTaken s c = true ↔
    ∃ d, 56 ≤ d ∧ d < 64 ∧ d ≠ c ∧ (s.chState d = chRunning ∨ s.chState d = chHalted) := by
  simp only [serialTaken, List.any_eq_true, List.mem_range, Bool.and_eq_true, Bool.or_eq_true, decide_eq_true_eq]
  constructor
  · rintro ⟨i, hi, hne, hst⟩
    exact ⟨56 + i, by omega, by omega, hne, hst⟩
  · rintro ⟨d, hlo, hhi, hne, hst⟩
    obtain ⟨i, rfl⟩ := Nat.exists_eq_add_of_le hlo
    exact ⟨i, by omega, hne, hst⟩

theorem splSerial_of_range {c : Nat} (hlo : 56 ≤ c) (hhi : c < 64) : splSerial c = true := by
  simp [splSerial, hlo, hhi]

/-- The serial channels but 63 belong to hosts (R247). -/
theorem splDevice_of_host_serial {c : Nat} (hlo : 56 ≤ c) (hhi : c < 63) : splDevice c = false := by
  simp [splDevice, show ¬ c ≤ 55 by omega, show c ≠ 63 by omega]

/-- A channel that starts is QUEUED where it is serial and the turn is held, else RUNNING. -/
theorem splRun_chState (c : Nat) (s : State) :
    (splRun c s).chState c = if splSerial c && serialTaken s c then chQueued else chRunning := by
  refine (chState_wr_same _ c ?_).trans rfl
  split <;> decide

theorem splRun_chState_ne {c d : Nat} (h : d ≠ c) (s : State) : (splRun c s).chState d = s.chState d := chState_wr_ne _ h _

/-- A start changes no register but the channel's STATE. -/
theorem splRun_regsBut (c : Nat) (s : State) : RegsBut [R.SPL_CHc_STATUS_STATE c] s (splRun c s) :=
  (RegsBut.of_regs (t := s.modCh c _) rfl).wr (List.mem_singleton.mpr rfl) _

/-- A serial channel that starts while no other is RUNNING or HALTED runs. -/
theorem splRun_of_free {s : State} {c : Nat} (h : ∀ d, 56 ≤ d → d < 64 → d ≠ c → s.chState d ≠ chRunning ∧ s.chState d ≠ chHalted) :
    (splRun c s).chState c = chRunning := by
  have hfree : serialTaken s c = false := by
    refine Bool.eq_false_iff.mpr fun ht => ?_
    obtain ⟨d, hd, hd', hne, hst⟩ := serialTaken_iff.mp ht
    exact hst.elim (h d hd hd' hne).1 (h d hd hd' hne).2
  simp [splRun_chState, hfree]

section
variable {s : State} {c : Nat} (hlo : 56 ≤ c) (hhi : c < 64)
include hlo hhi

/-- A serial channel that starts while another is RUNNING or HALTED waits for its turn and leaves the other as it is. -/
theorem splRun_of_taken {d : Nat} (hd : 56 ≤ d) (hd' : d < 64) (hne : d ≠ c) (hst : s.chState d = chRunning ∨ s.chState d = chHalted) :
    (splRun c s).chState c = chQueued ∧ (splRun c s).chState d = s.chState d := by
  have htaken : serialTaken s c = true := serialTaken_iff.mpr ⟨d, hd, hd', hne, hst⟩
  exact ⟨by simp [splRun_chState, splSerial_of_range hlo hhi, htaken], splRun_chState_ne hne s⟩

/-- With the turn free, the QUEUED channel with the lowest number runs. -/
theorem doSplSerialTurn_of_lowest (hfree : serialTaken s 64 = false) (hq : s.chState c = chQueued)
    (hmin : ∀ d, 56 ≤ d → d < c → s.chState d ≠ chQueued) :
    doSplSerialTurn s = s.wr (R.SPL_CHc_STATUS_STATE c) chRunning := by
  obtain ⟨i, rfl⟩ := Nat.exists_eq_add_of_le hlo
  have hfind : ((List.range 8).map (56 + ·)).find? (fun c => decide (s.chState c = chQueued)) = some (56 + i) := by
    have hfirst : (List.range 8).find? ((fun c => decide (s.chState c = chQueued)) ∘ (56 + ·)) = some i :=
      List.find?_range_eq_some.mpr ⟨decide_eq_true hq, List.mem_range.mpr (by omega),
        fun j hj => by simpa using hmin (56 + j) (by omega) (by omega)⟩
    rw [List.find?_map, hfirst, Option.map_some]
  simp only [doSplSerialTurn, hfree, hfind, Bool.false_eq_true, if_false]

end

/-- While a serial channel holds the turn, no other's comes. -/
theorem doSplSerialTurn_of_taken {s : State} (h : serialTaken s 64 = true) : doSplSerialTurn s = s := if_pos h

/-! ### Control writes -/

/-- The counts and the latched error of a channel that is started from IDLE are cleared, and no chain's CRC goes on (R257). -/
def splCleared (c : Nat) (s : State) : State :=
  State.modCh (((s.wr (R.SPL_CHc_DONE_DESC_COUNT c) 0).wr (R.SPL_CHc_STATUS_MISSED c) 0).wr (R.SPL_CHc_ERR_INFO_VALID c) 0) c
    fun x => { x with prevMode := none }

theorem splCleared_rd {c : Nat} {g : Fld} (hdone : g.key ≠ (R.SPL_CHc_DONE_DESC_COUNT c).key)
    (hmissed : g.key ≠ (R.SPL_CHc_STATUS_MISSED c).key) (hvalid : g.key ≠ (R.SPL_CHc_ERR_INFO_VALID c).key) (s : State) :
    (splCleared c s).rd g = s.rd g := by
  rw [splCleared, State.modCh_rd, State.rd_wr_ne _ hvalid, State.rd_wr_ne _ hmissed, State.rd_wr_ne _ hdone]

@[simp] theorem splCleared_trigSrc (c : Nat) (s : State) :
    (splCleared c s).rd (R.SPL_CHc_CFG_TRIG_SRC c) = s.rd (R.SPL_CHc_CFG_TRIG_SRC c) := by
  apply splCleared_rd <;>
  · simp only [Fld.key, R.SPL_CHc_CFG_TRIG_SRC, R.SPL_CHc_DONE_DESC_COUNT, R.SPL_CHc_STATUS_MISSED, R.SPL_CHc_ERR_INFO_VALID]
    omega

@[simp] theorem splCleared_chState (c : Nat) (s : State) (d : Nat) : (splCleared c s).chState d = s.chState d := by
  apply splCleared_rd <;>
  · simp only [Fld.key, R.SPL_CHc_STATUS_STATE, R.SPL_CHc_DONE_DESC_COUNT, R.SPL_CHc_STATUS_MISSED, R.SPL_CHc_ERR_INFO_VALID]
    omega

/-- A control write to a channel that belongs to the device is rejected (R247). -/
theorem splHost_of_device {c : Nat} (hc : c < 64) (hd : splDevice c = true) (f : State → State) (s : State) :
    splHost c f s = s.wr R.SPL_STATUS_LAST_ERR eAuth := by
  simp only [splHost, Nat.not_le.mpr hc, hd, if_false, if_true, splReject]

section
variable {s : State} {c : Nat} (hc : c < 64) (hd : splDevice c = false)
include hc hd

theorem splHost_of_host (f : State → State) : splHost c f s = f s := by
  simp only [splHost, Nat.not_le.mpr hc, hd, Bool.false_eq_true, if_false]

/-- A start from IDLE runs where no trigger source is set, and else waits for its trigger. -/
theorem doSplStart_of_idle (hst : s.chState c = chIdle) : doSplStart c s =
    if s.rd (R.SPL_CHc_CFG_TRIG_SRC c) = 0 then splRun c (splCleared c s)
    else ((splCleared c s).modCh c fun x => { x with desc := none, phase := .fetch, stopReq := false }).wr
      (R.SPL_CHc_STATUS_STATE c) chWaiting := by
  rw [doSplStart, splHost_of_host hc hd, if_pos hst]
  exact if_congr (by rw [← splCleared_trigSrc c s]; rfl) rfl rfl

/-- A start in WAITING runs the next descriptor. -/
theorem doSplStart_of_waiting (hst : s.chState c = chWaiting) : doSplStart c s = splRun c s := by
  rw [doSplStart, splHost_of_host hc hd]
  simp [hst, chWaiting, chIdle]

/-- A start in any other state is rejected. -/
theorem doSplStart_of_busy (hst : s.chState c = chQueued ∨ s.chState c = chRunning ∨ s.chState c = chHalted) :
    doSplStart c s = s.wr R.SPL_STATUS_LAST_ERR eState := by
  rw [doSplStart, splHost_of_host hc hd]
  rcases hst with h | h | h <;> simp [h, chQueued, chRunning, chHalted, chWaiting, chIdle, splReject]

theorem doSplStop_of_idle (hst : s.chState c = chIdle) : doSplStop c s = s := by
  rw [doSplStop, splHost_of_host hc hd, if_pos hst]

/-- A stop of a channel that has not begun a descriptor's data ends it with status 5. -/
theorem doSplStop_of_not_begun (hst : s.chState c = chQueued ∨ s.chState c = chWaiting) : doSplStop c s = splDone c (splIdle c 5 s) := by
  rw [doSplStop, splHost_of_host hc hd]
  rcases hst with h | h <;> simp [h, chQueued, chRunning, chHalted, chWaiting, chIdle]

/-- A stop of a RUNNING channel drops a serial one, and ends another at its next descriptor boundary. -/
theorem doSplStop_of_running (hst : s.chState c = chRunning) : doSplStop c s =
    if splSerial c then splDrop true c s
    else if (s.splCh c).phase = .fetch then splDone c (splIdle c 5 s)
    else s.modCh c fun x => { x with stopReq := true } := by
  rw [doSplStop, splHost_of_host hc hd]
  simp [hst, chRunning, chHalted, chIdle]

theorem doSplStop_of_halted (hst : s.chState c = chHalted) : doSplStop c s = s.wr R.SPL_STATUS_LAST_ERR eState := by
  rw [doSplStop, splHost_of_host hc hd]
  simp [hst, chHalted, chIdle, splReject]

/-- An abort ends a HALTED channel with the status of its halt. -/
theorem doSplAbort_of_halted (hst : s.chState c = chHalted) : doSplAbort c s =
    splIdle c (s.rd (R.SPL_CHc_STATUS_STATUS c)) (s.wr (R.SPL_CHc_STATUS_PENDING c) 0) := by
  rw [doSplAbort, splHost_of_host hc hd, if_neg (not_not_intro hst)]

theorem doSplAbort_of_not_halted (hst : s.chState c ≠ chHalted) : doSplAbort c s = s.wr R.SPL_STATUS_LAST_ERR eState := by
  rw [doSplAbort, splHost_of_host hc hd, if_pos hst, splReject]

theorem doSplResume_of_not_halted (hst : s.chState c ≠ chHalted) : doSplResume c s = s.wr R.SPL_STATUS_LAST_ERR eState := by
  rw [doSplResume, splHost_of_host hc hd, if_pos hst, splReject]

/-- A resume lets a HALTED channel run again, with a fresh budget where the budget had halted it (R260, R267). -/
theorem doSplResume_of_halted (hst : s.chState c = chHalted) {u : State}
    (hu : u = ((s.wr (R.SPL_CHc_STATUS_STATE c) chRunning).modCh c fun x => { x with desc := if x.phase = .fetch then none else x.desc })) :
    doSplResume c s = splIssue (if s.rd (R.SPL_CHc_STATUS_STATUS c) = 3 then u.modCh c fun x => { x with budget := 0 } else u) := by
  have hkey : (R.SPL_CHc_STATUS_STATUS c).key ≠ (R.SPL_CHc_STATUS_STATE c).key := by
    simp only [Fld.key, R.SPL_CHc_STATUS_STATUS, R.SPL_CHc_STATUS_STATE]
    omega
  have hstatus : u.rd (R.SPL_CHc_STATUS_STATUS c) = s.rd (R.SPL_CHc_STATUS_STATUS c) := by
    rw [hu, State.modCh_rd, State.rd_wr_ne s hkey]
  rw [doSplResume, splHost_of_host hc hd, if_neg (not_not_intro hst), ← hstatus, hu]

end

/-! ### Triggers (R258) -/

/-- A trigger of a channel that names a source reaches the channel. -/
theorem doSplTrigger_of_source {s : State} {c : Nat} (hc : c < 64) (hsrc : s.rd (R.SPL_CHc_CFG_TRIG_SRC c) ≠ 0) :
    doSplTrigger c s = splTrig c s := if_neg (not_or_intro (Nat.not_le.mpr hc) hsrc)

theorem splTrig_of_idle {s : State} {c : Nat} (hst : s.chState c = chIdle) : splTrig c s = s := if_pos hst

theorem doSplTrigger_of_idle {s : State} {c : Nat} (hst : s.chState c = chIdle) : doSplTrigger c s = s :=
  (if_congr Iff.rfl rfl (splTrig_of_idle hst)).trans (ite_self s)

/-- A trigger in WAITING runs the next descriptor. -/
theorem splTrig_of_waiting {s : State} {c : Nat} (hst : s.chState c = chWaiting) : splTrig c s = splRun c s := by
  simp [splTrig, hst, chWaiting, chIdle]

/-- A trigger of a channel at work stands over as PENDING, and one more is counted in MISSED. -/
theorem splTrig_of_busy {s : State} {c : Nat} (hst : s.chState c = chQueued ∨ s.chState c = chRunning ∨ s.chState c = chHalted) :
    splTrig c s = if s.rd (R.SPL_CHc_STATUS_PENDING c) = 0 then s.wr (R.SPL_CHc_STATUS_PENDING c) 1
      else s.incSat (R.SPL_CHc_STATUS_MISSED c) := by
  rcases hst with h | h | h <;>
    simp only [splTrig, h, chQueued, chRunning, chHalted, chWaiting, chIdle, State.on] <;> simp

/-! ### Timers -/

/-- A timer that runs and is not waiting for its first tick triggers its channels (R258, R265). -/
theorem doSplTimerTick_of_running {s : State} {k : Nat} (hk : k < 16) (hper : s.rd (R.SPL_TMRk_PERIOD k) ≠ 0)
    (hnight : s.pwr.inNight = false) (halign : s.spl.align.contains k = false) : doSplTimerTick k s = splTrigAll 1 k s := by
  refine if_neg ?_
  rintro (h | h | h | h)
  · exact Nat.not_le.mpr hk h
  · exact hper h
  · exact Bool.false_ne_true (hnight.symm.trans h)
  · exact Bool.false_ne_true (halign.symm.trans h)

/-- The parts of a word written to SPL_TMRk: PERIOD and ALIGN. -/
theorem timerWord {p a : Nat} (hp : p < 2 ^ 31) (ha : a < 2) : bits (p + 2 ^ 31 * a) 0 31 = p ∧ bits (p + 2 ^ 31 * a) 31 1 = a ∧
    bit (p + 2 ^ 31 * a) 31 = decide (a = 1) := by
  simp only [bits, bit]
  have h31 : (p + 2 ^ 31 * a) / 2 ^ 31 = a := by omega
  refine ⟨by omega, by rw [h31]; omega, ?_⟩
  rw [h31, Nat.mod_eq_of_lt ha]

/-- Periods of 1 to 99 are out of range (Table 10.9). -/
theorem doSplTimerWrite_of_short {s : State} {k v : Nat} (hk : k < 16) (h1 : 1 ≤ v % 2 ^ 31) (h99 : v % 2 ^ 31 ≤ 99) :
    doSplTimerWrite k v s = s.wr R.SPL_STATUS_LAST_ERR eRange := by
  have hp : bits v 0 31 = v % 2 ^ 31 := by rw [bits, Nat.pow_zero, Nat.div_one]
  rw [doSplTimerWrite, if_neg (Nat.not_le.mpr hk), hp, if_pos ⟨h1, h99⟩, splReject]

/-- A period in range is taken, with its alignment; an aligned timer that runs waits for the epoch boundary. -/
theorem doSplTimerWrite_of_period {s : State} {k p a : Nat} (hk : k < 16) (hp : p < 2 ^ 31) (ha : a < 2) (hper : p = 0 ∨ 100 ≤ p) :
    doSplTimerWrite k (p + 2 ^ 31 * a) s =
      { (s.wr (R.SPL_TMRk_PERIOD k) p).wr (R.SPL_TMRk_ALIGN k) a with
        spl.align := if a = 1 ∧ p ≠ 0 then insNat k (s.spl.align.filter (· ≠ k)) else s.spl.align.filter (· ≠ k) } := by
  obtain ⟨hlow, hhigh, hbit⟩ := timerWord hp ha
  have hrange : ¬ (1 ≤ p ∧ p ≤ 99) := by omega
  simp only [doSplTimerWrite, hlow, hhigh, hbit, hrange, Nat.not_le.mpr hk, if_false, decide_eq_true_eq, State.wr_spl]

/-! ### The obligations -/

/-- Settles O10: a start is `splRun`, which looks at the other serial channels' states, and the clearing of a start from IDLE changes none
of them. -/
theorem serialChannelsTakeTurns : Obligations.SerialChannelsTakeTurns := by
  refine ⟨?held, ?free, ?next⟩
  case held =>
    intro s c d ha hlo hhi hd hd' hne hst
    have hc : c < 64 := Nat.lt_succ_of_lt hhi
    have hhost := splDevice_of_host_serial hlo hhi
    refine ⟨fun hidle hsrc => .of_live (exec_splStart c s) ha ?_, fun hwait => ⟨.of_live (exec_splStart c s) ha ?_, fun hsrc =>
      .of_live (exec_splTrigger c s) ha ?_⟩, .of_live_eq (exec_splSerialTurn s) ha ?_⟩
    · rw [doSplStart_of_idle hc hhost hidle, if_pos hsrc, settle_chState, settle_chState, ← splCleared_chState c s d]
      exact splRun_of_taken hlo hc hd hd' hne (by rwa [splCleared_chState])
    · rw [doSplStart_of_waiting hc hhost hwait, settle_chState, settle_chState]
      exact splRun_of_taken hlo hc hd hd' hne hst
    · rw [doSplTrigger_of_source hc hsrc, splTrig_of_waiting hwait, settle_chState, settle_chState]
      exact splRun_of_taken hlo hc hd hd' hne hst
    · exact doSplSerialTurn_of_taken (serialTaken_iff.mpr ⟨d, hd, hd', Nat.ne_of_lt hd', hst⟩)
  case free =>
    intro s c ha hlo hhi hfree
    have hc : c < 64 := Nat.lt_succ_of_lt hhi
    have hhost := splDevice_of_host_serial hlo hhi
    refine ⟨fun hidle hsrc => .of_live (exec_splStart c s) ha ?_, fun hwait => .of_live (exec_splStart c s) ha ?_⟩
    · rw [doSplStart_of_idle hc hhost hidle, if_pos hsrc, settle_chState]
      exact splRun_of_free (by simpa using hfree)
    · rw [doSplStart_of_waiting hc hhost hwait, settle_chState]
      exact splRun_of_free hfree
  case next =>
    intro s c ha hlo hhi hq hmin hnone
    have hfree : serialTaken s 64 = false := by
      refine Bool.eq_false_iff.mpr fun ht => ?_
      obtain ⟨d, hd, hd', -, hst⟩ := serialTaken_iff.mp ht
      exact hst.elim (hnone d hd hd').1 (hnone d hd hd').2
    exact .of_live_eq (exec_splSerialTurn s) ha (doSplSerialTurn_of_lowest hlo hhi hfree hq hmin)

/-- Settles O34: each clause is one row of Table 10.5, the branch of its command in the state that its hypotheses name. -/
theorem spoolChannelsFollowTheirControls : Obligations.SpoolChannelsFollowTheirControls := by
  refine ⟨?device, ?idle, ?waiting, ?busy, ?stop, ?tick, ?timer, ?turn, ?taken, ?run⟩
  case device =>
    rintro s c ha hc hdev _ rfl
    exact ⟨.of_live_eq (exec_splStart c s) ha (splHost_of_device hc hdev _ s), .of_live_eq (exec_splStop c s) ha (splHost_of_device hc hdev _ s),
      .of_live_eq (exec_splResume c s) ha (splHost_of_device hc hdev _ s), .of_live_eq (exec_splAbort c s) ha (splHost_of_device hc hdev _ s)⟩
  case idle =>
    intro s c ha hc hdev hst
    refine ⟨?_, .of_live_eq (exec_splStop c s) ha (doSplStop_of_idle hc hdev hst),
      .of_live_eq (exec_splTrigger c s) ha (doSplTrigger_of_idle hst)⟩
    rintro _ rfl
    have gives := fun {t : State} (h : _ = t) => Gives.of_live_eq (exec_splStart c s) ha ((doSplStart_of_idle hc hdev hst).trans h)
    exact ⟨fun hsrc => gives (if_pos hsrc), fun hsrc => gives (if_neg hsrc)⟩
  case waiting =>
    exact fun s c ha hc hdev hst => ⟨.of_live_eq (exec_splStart c s) ha (doSplStart_of_waiting hc hdev hst), fun hsrc =>
      .of_live_eq (exec_splTrigger c s) ha ((doSplTrigger_of_source hc hsrc).trans (splTrig_of_waiting hst))⟩
  case busy =>
    intro s c ha hc hdev hst
    have trig := fun {t : State} (hsrc : s.rd (R.SPL_CHc_CFG_TRIG_SRC c) ≠ 0) (h : _ = t) =>
      Gives.of_live_eq (exec_splTrigger c s) ha ((doSplTrigger_of_source hc hsrc).trans ((splTrig_of_busy hst).trans h))
    exact ⟨.of_live_eq (exec_splStart c s) ha (doSplStart_of_busy hc hdev hst), fun hsrc hpend => trig hsrc (if_pos hpend),
      fun hsrc hpend => trig hsrc (if_neg hpend)⟩
  case stop =>
    intro s c ha hc hdev
    have stop := fun {t : State} (h : doSplStop c s = t) => Gives.of_live_eq (exec_splStop c s) ha h
    refine ⟨fun hst => stop (doSplStop_of_not_begun hc hdev hst), fun hst hser hph => stop ?_, fun hst hser hph => stop ?_,
      fun hst hser => stop ?_, fun hst => stop (doSplStop_of_halted hc hdev hst),
      fun hst => .of_live_eq (exec_splAbort c s) ha (doSplAbort_of_halted hc hdev hst), fun hst =>
      ⟨.of_live_eq (exec_splAbort c s) ha (doSplAbort_of_not_halted hc hdev hst),
        .of_live_eq (exec_splResume c s) ha (doSplResume_of_not_halted hc hdev hst)⟩, fun hst u hu => ?_⟩
    · rw [doSplStop_of_running hc hdev hst, if_neg (ne_true_of_eq_false hser), if_neg hph]
    · rw [doSplStop_of_running hc hdev hst, if_neg (ne_true_of_eq_false hser), if_pos hph]
    · rw [doSplStop_of_running hc hdev hst, if_pos hser]
    · have resume := fun {t : State} (h : _ = t) =>
        Gives.of_live_eq (exec_splResume c s) ha ((doSplResume_of_halted hc hdev hst hu).trans (congrArg splIssue h))
      exact ⟨fun hne => resume (if_neg hne), fun he => resume (if_pos he)⟩
  case tick =>
    exact fun s k ha hk hper hnight halign =>
      .of_live_eq (exec_splTimerTick k s) ha (doSplTimerTick_of_running hk hper hnight halign)
  case timer =>
    intro s k v ha hk
    refine ⟨fun h1 h99 => .of_live_eq (exec_splTimerWrite k v s) ha (doSplTimerWrite_of_short hk h1 h99), fun hv hper => ?_, fun hv hper => ?_⟩
    · exact .of_live_eq (exec_splTimerWrite k v s) ha (doSplTimerWrite_of_period (a := 0) hk hv (by decide) hper)
    · refine .of_live_eq (exec_splTimerWrite k (v + 2 ^ 31) s) ha ((doSplTimerWrite_of_period (a := 1) hk hv (by decide) (.inr hper)).trans ?_)
      rw [if_pos ⟨rfl, by omega⟩]
  case turn =>
    exact fun s c ha hfree hlo hhi hq hmin => .of_live_eq (exec_splSerialTurn s) ha (doSplSerialTurn_of_lowest hlo hhi hfree hq hmin)
  case taken => exact fun s ha htaken => .of_live_eq (exec_splSerialTurn s) ha (doSplSerialTurn_of_taken htaken)
  case run =>
    rintro s c _ _ rfl
    exact ⟨splRun_chState c s, splRun_regsBut c s, ⟨rfl, rfl, rfl, rfl, rfl⟩, rfl, rfl, rfl, rfl⟩

end Sys2Proof.Machine
end

section
/-! SUPPORT. Host links and the vectors and masters of function 1 (R222 to R227, R249, R384); drives and vault drives that come, train, join
and leave (Table 9.4, R228 to R235). -/

namespace Sys2Proof.Machine

/-! ### What the commands mean -/

/-- The meaning of `MSIX_UNMASK` (R384). -/
theorem exec_msixUnmask (l v : Nat) (s : State) : exec (.msixUnmask l v) s = live s (doMsixUnmask l v s) := rfl

/-- The meaning of `BUS_MASTER_ENABLE` (R249). -/
theorem exec_busMasterEnable (l : Nat) (v : Bool) (s : State) : exec (.busMasterEnable l v) s = live s (doBusMasterEnable l v s) := rfl

/-- The meaning of `FLR_FUNCTION1` (R226). -/
theorem exec_flrFunction1 (l : Nat) (s : State) : exec (.flrFunction1 l) s = live s (doFlrFunction1 l s) := rfl

/-- The meaning of `HOST_LINK_UP` (R225). -/
theorem exec_hostLinkUp (l speed width : Nat) (flit : Bool) (s : State) :
    exec (.hostLinkUp l speed width flit) s = live s (doHostLinkUp l speed width flit s) := rfl

/-- The meaning of `HOST_LINK_RESET` (R226). -/
theorem exec_hostLinkReset (l : Nat) (k : LinkReset) (s : State) : exec (.hostLinkReset l k) s = live s (doHostLinkReset l k s) := rfl

/-- The meaning of `HOST_COMPLETION_TIMEOUT` (R227). -/
theorem exec_hostCompletionTimeout (h : IoHdr) (s : State) : exec (.hostCompletionTimeout h) s = live s (hostReadFails h s) := rfl

/-- The meaning of `HOST_COMPLETION_ERROR` (R227). -/
theorem exec_hostCompletionError (h : IoHdr) (s : State) : exec (.hostCompletionError h) s = live s (hostReadFails h s) := rfl

/-- The meaning of `DRIVE_PRESENCE` (Table 9.4). -/
theorem exec_drivePresence (p sub : Nat) (x : DriveDesc) (s : State) :
    exec (.drivePresence p sub x) s = fin (doDrivePresence p sub x s) := rfl

/-- The meaning of `DRIVE_BRINGUP_TIMER` (Table 9.4). -/
theorem exec_driveBringupTimer (p sub : Nat) (s : State) : exec (.driveBringupTimer p sub) s = live s (doDriveBringupTimer p sub s) := rfl

/-- The meaning of `DRIVE_LINK_UP` (Table 9.4). -/
theorem exec_driveLinkUp (p sub speed width : Nat) (s : State) :
    exec (.driveLinkUp p sub speed width) s = live s (doDriveLinkUp p sub speed width s) := rfl

/-- The meaning of `DRIVE_READY` (R235). -/
theorem exec_driveReady (p sub : Nat) (s : State) : exec (.driveReady p sub) s = live s (doDriveReady p sub s) := rfl

/-- The meaning of `DRIVE_OFF` (R233). -/
theorem exec_driveOff (p sub : Nat) (s : State) : exec (.driveOff p sub) s = live s (doDriveOff p sub s) := rfl

/-- The meaning of `DRIVE_ON` (R233). -/
theorem exec_driveOn (p sub : Nat) (s : State) : exec (.driveOn p sub) s = live s (doDriveOn p sub s) := rfl

/-- The meaning of `DRIVE_LINK_EVENT` (R234). -/
theorem exec_driveLinkEvent (p sub : Nat) (k : LinkEvent) (s : State) :
    exec (.driveLinkEvent p sub k) s = live s (doDriveLinkEvent p sub k s) := rfl

/-- The meaning of `DRIVE_LINK_RETRAIN_TIMEOUT` (R234). -/
theorem exec_driveLinkRetrainTimeout (p sub : Nat) (s : State) :
    exec (.driveLinkRetrainTimeout p sub) s = live s (doDriveLinkRetrainTimeout p sub s) := rfl

/-- The meaning of `DRIVE_REMOVAL` (R232). -/
theorem exec_driveRemoval (p sub : Nat) (s : State) : exec (.driveRemoval p sub) s = fin (doDriveRemoval p sub s) := rfl

/-! ### Vectors of function 1 (R384) -/

/-- A link of which the host has unmasked a vector: MSI-X is enabled and the vector no longer pending. -/
def msixOpened (l v : Nat) (s : State) : State :=
  s.modLink l fun y => { y with
    vmask := if y.msixEn then y.vmask.filter (· ≠ v) else (List.range 64).filter (· ≠ v),
    msixEn := true, fmask := false, pend := y.pend.filter (· ≠ v) }

section
variable {s : State} {l v : Nat} {x : HLink} (hl : s.links[l]? = some x) (hup : x.up = true) (hv : v < 64)
include hl hup hv

/-- A pending vector whose level is still 1 sends its message. -/
theorem doMsixUnmask_of_pending (hen : x.msixEn = true) (hpend : v ∈ x.pend) (hlevel : v ∈ x.levels) :
    doMsixUnmask l v s = (msixOpened l v s).emit (.msix l v) := by
  simp [doMsixUnmask, msixOpened, hl, hup, hen, hpend, hlevel, Nat.not_le.mpr hv]

/-- A vector that is not pending sends nothing. -/
theorem doMsixUnmask_of_not_pending (hpend : v ∉ x.pend) : doMsixUnmask l v s = msixOpened l v s := by
  simp [doMsixUnmask, msixOpened, hl, hup, hpend, Nat.not_le.mpr hv]

end

/-! ### Host links -/

section
variable {s : State} {l : Nat} (ha : Alive s) (hex : hostLinkExists s l = true)
include ha hex

theorem doFlrFunction1_of_exists : doFlrFunction1 l s = fn1Reset l s := by
  simp [doFlrFunction1, hex, ha]

/-- A link that trains is up; one that is narrower or slower than it may be is degraded (R225). -/
theorem doHostLinkUp_of_exists (hstep : 3 ≤ s.dwn.step) (hpower : groupDead s (l / 2) = false) (speed width : Nat) (flit : Bool) {u : State}
    (hu : u = (linkRegs l 1 speed width flit (s.modLink l fun x => { x with up := true })).raise (R.HPT_INT_STATUS_LINK_UP (l / 2))) :
    doHostLinkUp l speed width flit s =
      if width < (if s.on (R.HPT_Pn_CFG_BIF (l / 2)) then 8 else 16) ∨ speed < u.rd (R.HPT_Pn_CFG_MAX_SPEED (l / 2))
      then u.raise (R.HPT_INT_STATUS_DEGRADED (l / 2)) else u := by
  subst hu
  simp only [doHostLinkUp, hex, hpower, ha, Nat.not_lt.mpr hstep, not_true_eq_false, Bool.false_eq_true,
    false_and, or_self, if_false]

section
variable (hodd : l % 2 = 1) {u : State} (hu : u = fn1Reset l (linkRegs l 0 0 0 false (s.modLink l fun x => { x with up := false })))
include hodd hu

/-- The reset of a link without function 0: its registers and function 1 return to reset, and the kind of reset is noted (R226). -/
theorem doHostLinkReset_hot : doHostLinkReset l .hotReset s = u.raise (R.HPT_INT_STATUS_PERST (l / 2)) := by
  simp [doHostLinkReset, hex, hodd, hu, ha]

theorem doHostLinkReset_perst : doHostLinkReset l .perst s =
    (u.incSat (R.HPT_Pn_CNT_PERST (l / 2))).raise (R.HPT_INT_STATUS_PERST (l / 2)) := by
  simp [doHostLinkReset, hex, hodd, hu, ha]

theorem doHostLinkReset_down {k : LinkReset} (hk : k = .linkDisable ∨ k = .linkDown) : doHostLinkReset l k s =
    (u.incSat (R.HPT_Pn_CNT_LINK_DOWN (l / 2))).raise (R.HPT_INT_STATUS_LINK_DOWN (l / 2)) := by
  rcases hk with rfl | rfl <;> simp [doHostLinkReset, hex, hodd, hu, ha]

end

end

/-- A read of host memory that fails ends its command, where no stripe work of it is under way (R227). -/
theorem hostReadFails_of_idle {s : State} {h : IoHdr} {c : Ctx} (hctrl : h.ctrl < 2) (hc : s.ce.ctxs.find? (fun c => c.h = h) = some c)
    (hsops : c.sops = []) (hseqs : c.seqs = []) : hostReadFails h s =
    finishCtx c (0, 4, false) [] ((s.incSat (R.HPT_Pn_ERR_UNCORR h.ctrl)).raise (R.HPT_INT_STATUS_UNCORR h.ctrl)) := by
  simp [hostReadFails, Nat.not_le.mpr hctrl, hc, hsops, hseqs]

/-! ### The mailbox bank of a link that is reset (R226) -/

/-- The reset of a bank writes the first fields of its STATUS, BUSY and DONE, once. -/
theorem mbxBankReset_rd {l : Nat} {f : Fld} (hoff : f.off = bankOff l + 0x1100004) (hlo : f.lo < 8) (s : State) :
    (mbxBankReset l s).rd f = ((s.wr (R.MBX_STATUS_BUSY l) 0).wr (R.MBX_STATUS_DONE l) 0).rd f := by
  have hkeys : f.key ≠ (R.MBX_STATUS_LAST_ERR l).key ∧ f.key ≠ (R.MBX_STATUS_LAST_CODE l).key ∧ f.key ≠ (R.MBX_INT_STATUS_DONE l).key ∧
      f.key ≠ (R.MBX_INT_STATUS_FAILED l).key ∧ f.key ≠ (R.MBX_INT_ENABLE_DONE l).key ∧ f.key ≠ (R.MBX_INT_ENABLE_FAILED l).key := by
    simp only [Fld.key, R.MBX_STATUS_LAST_ERR, R.MBX_STATUS_LAST_CODE, R.MBX_INT_STATUS_DONE, R.MBX_INT_STATUS_FAILED,
      R.MBX_INT_ENABLE_DONE, R.MBX_INT_ENABLE_FAILED]
    omega
  obtain ⟨herr, hcode, hdone, hfailed, henDone, henFailed⟩ := hkeys
  simp only [mbxBankReset]
  rw [State.rd_wr_ne _ henFailed, State.rd_wr_ne _ henDone, State.rd_wr_ne _ hfailed, State.rd_wr_ne _ hdone, State.rd_wr_ne _ hcode,
    State.rd_wr_ne _ herr]
  exact State.rd_congr rfl f

theorem mbxBankReset_busy (l : Nat) (s : State) : (mbxBankReset l s).rd (R.MBX_STATUS_BUSY l) = 0 := by
  have hkey : (R.MBX_STATUS_BUSY l).key ≠ (R.MBX_STATUS_DONE l).key := by
    simp only [Fld.key, R.MBX_STATUS_BUSY, R.MBX_STATUS_DONE]
    omega
  rw [mbxBankReset_rd rfl (Nat.zero_lt_succ 7), State.rd_wr_ne _ hkey, State.rd_wr_same, Nat.zero_mod]

theorem mbxBankReset_done (l : Nat) (s : State) : (mbxBankReset l s).rd (R.MBX_STATUS_DONE l) = 0 := by
  rw [mbxBankReset_rd rfl (Nat.one_lt_succ_succ 6), State.rd_wr_same, Nat.zero_mod]

/-- No command of the bank waits any more. -/
theorem mbxBankReset_wait (l : Nat) (s : State) : ∀ q ∈ (mbxBankReset l s).mbx.wait, q.h.src ≠ .bank l :=
  fun _ hq => of_decide_eq_true (List.mem_filter.mp hq).2

/-! ### Subports -/

/-- The subports of the drive ports hold the drives 0 to 63 (Table 9.17). -/
theorem drvNo_lt {p sub : Nat} (hp : p < 32) (hsub : sub ≤ 1) : drvNo p sub < 64 := by
  rw [drvNo, if_pos hp]
  omega

theorem le_one_of_subExists {s : State} {p sub : Nat} (hp : p < 32) (h : subExists s p sub = true) : sub ≤ 1 := by
  simp only [subExists, hp, if_true, Bool.or_eq_true, Bool.and_eq_true, decide_eq_true_eq] at h
  omega

/-- A drive that has never been seen starts its debounce, or waits for DAWN_S11 (Table 9.4). -/
theorem doDrivePresence_of_new {s : State} {p sub : Nat} {x : DriveDesc} (hex : subExists s p sub = true) (hp : p < 32)
    (hcome : comingAt s (drvNo p sub) = none) (hdrv : driveAt s (drvNo p sub) = none)
    (hnew : s.ext.loose.find? (fun y => y.desc.nguid = x.nguid) = none) : doDrivePresence p sub x s = { s with
      ext.loose := s.ext.loose.filter fun y => y.desc.nguid ≠ x.nguid,
      ext.coming := s.ext.coming ++
        [(⟨drvNo p sub, if deviceOff s ∨ s.dwn.step < 11 ∨ s.safe then 0 else 1, blankDrive x⟩ : Coming)] } := by
  have hd := drvNo_lt hp (le_one_of_subExists hp hex)
  simp [doDrivePresence, hex, hcome, hdrv, hnew, hd, Nat.not_le.mpr hd]

/-! ### Drives that are coming up (Table 9.4) -/

section
variable {s : State} {p sub : Nat} {c : Coming} (ha : Alive s) (hc : comingAt s (drvNo p sub) = some c)
include ha hc

/-- The debounce ends: the drive's power comes on. -/
theorem doDriveBringupTimer_of_debounce (h : c.phase = 1) : doDriveBringupTimer p sub s =
    (((setPhase (drvNo p sub) 2 s).wr (drvFld (drvNo p sub) 0 1) 1).wr (drvFld (drvNo p sub) 1 1) 1).emit
      (.drive (drvNo p sub) 6 [1, 0]) := by
  simp [doDriveBringupTimer, hc, h, ha]

/-- The drive leaves its reset, and its link trains. -/
theorem doDriveBringupTimer_of_powered (h : c.phase = 2) :
    doDriveBringupTimer p sub s = (setPhase (drvNo p sub) 3 s).emit (.drive (drvNo p sub) 6 [1, 1]) := by
  simp [doDriveBringupTimer, hc, h, ha]

/-- The first two tries of training are followed by another. -/
theorem doDriveBringupTimer_of_training (h : c.phase = 3 ∨ c.phase = 4) :
    doDriveBringupTimer p sub s = setPhase (drvNo p sub) (c.phase + 1) s := by
  rcases h with h | h <;> simp [doDriveBringupTimer, hc, h, ha]

/-- A link that reaches L0 in one of its three tries has trained. -/
theorem doDriveLinkUp_of_training (hpower : groupDead s (if p < 32 then 10 + p else p - 30) = false) (h3 : 3 ≤ c.phase) (h5 : c.phase ≤ 5)
    (speed width : Nat) : doDriveLinkUp p sub speed width s = drvTrained (drvNo p sub) speed width (setPhase (drvNo p sub) 6 s) := by
  simp [doDriveLinkUp, hc, hpower, h3, h5, ha]

end

/-- The drive of a subport has joined the device's drives; NOFENCE shows one that is used without reservations (R235). -/
def drvJoined (d : Nat) (x : Drive) (s : State) : State :=
  (takeComing d { s with ext.drives := SMap.set none d (some x) s.ext.drives }).wr (drvFld d 12 1) (b2n (! x.desc.resvOk))

section
variable {s : State} {p sub : Nat} {c : Coming} (ha : Alive s) (hc : comingAt s (drvNo p sub) = some c) (hph : c.phase = 6)
include ha hc hph

/-- A drive that is ready joins: none of the spare entries names it and it is not of a reservation's drives. -/
theorem doDriveReady_of_drive (hd : drvNo p sub < 64) (hspare : sparesOn (drvJoined (drvNo p sub) c.drive s) (drvNo p sub) = []) {u : State}
    (hu : u = drvInt R.DRV_INT_ADD_PORTS (drvNo p sub) (drvJoined (drvNo p sub) c.drive s))
    (hresv : (resvDrives u).contains (drvNo p sub) = false) : doDriveReady p sub s = u := by
  subst hu
  have hwp : b2n (decide ¬ c.drive.desc.resvOk = true) = b2n (! c.drive.desc.resvOk) := by cases c.drive.desc.resvOk <;> rfl
  rw [drvJoined] at hspare hresv ⊢
  simp only [doDriveReady, hc, hph, hwp, hspare, hresv, ha, Nat.not_le.mpr hd, ne_eq, not_true_eq_false,
    Bool.false_eq_true, or_self, if_false, State.each, List.foldl_nil]

/-- A vault drive that is ready counts from then on, and after a wake the Ballast may be armed again (R211, R366). -/
theorem doDriveReady_of_vault {n : Nat} (hd : drvNo p sub = 64 + n) :
    doDriveReady p sub s = rearmCheck (vaultReady n (vaultFits c.drive.desc) s) := by
  rw [hd] at hc
  simp [doDriveReady, hd, hc, hph, ha]

end

/-! ### Power of a subport (R233) -/

section
variable {s : State} {p sub : Nat} (hp : p < 32) (hex : subExists s p sub = true)
include hp hex

theorem doDriveOff_of_held (hheld : driveHeld s (drvNo p sub) = true) : doDriveOff p sub s = s.wr R.DRV_STATUS_LAST_ERR eState := by
  simp [doDriveOff, hex, hheld, drvReject, Nat.not_le.mpr hp]

/-- A drive that is coming up and holds nothing goes off. -/
theorem doDriveOff_of_coming (hheld : driveHeld s (drvNo p sub) = false) (hdrv : driveAt s (drvNo p sub) = none) : doDriveOff p sub s =
    (drvInt R.DRV_INT_REMOVE_PORTS (drvNo p sub) (attn (drvNo p sub) (drvDark (drvNo p sub) (setPhase (drvNo p sub) 8 s)))).emit
      (.drive (drvNo p sub) 6 [0, 0]) := by
  simp [doDriveOff, hex, hheld, hdrv, Nat.not_le.mpr hp]

/-- A drive whose link failed or that is off goes through Table 9.4 anew. -/
theorem doDriveOn_of_down {c : Coming} (hc : comingAt s (drvNo p sub) = some c) (h7 : 7 ≤ c.phase) :
    doDriveOn p sub s = (setPhase (drvNo p sub) 1 s).wr (drvFld (drvNo p sub) 14 1) 0 := by
  simp [doDriveOn, hex, hc, h7, Nat.not_le.mpr hp]

theorem doDriveOn_of_empty (hc : comingAt s (drvNo p sub) = none) (hdrv : driveAt s (drvNo p sub) = none) :
    doDriveOn p sub s = s.wr R.DRV_STATUS_LAST_ERR eState := by
  simp [doDriveOn, hex, hc, hdrv, drvReject, Nat.not_le.mpr hp]

end

/-! ### Drives that are ready: link events and removal (R232, R234) -/

/-- The drive of a subport that is no longer ready is not among the drives. -/
theorem driveAt_unready (d : Nat) (s : State) : driveAt (unready d s) d = none := SMap.get_set_same none d none s.ext.drives

section
variable {s : State} {p sub : Nat} {x : Drive} (hd : drvNo p sub < 64) (hdrv : driveAt s (drvNo p sub) = some x)
include hd hdrv

/-- An uncorrectable error or a lost link retrains the link, and the drive's commands wait. -/
theorem doDriveLinkEvent_of_retrain (ha : Alive s) (hc : comingAt s (drvNo p sub) = none) {k : LinkEvent} (hk : k ≠ .correctable) :
    doDriveLinkEvent p sub k s = drvInt R.DRV_INT_LINK_PORTS (drvNo p sub)
      ((s.modDrive (drvNo p sub) fun x => { x with resetting := true }).wr (drvFld (drvNo p sub) 2 1) 0) := by
  cases k with
  | correctable => exact absurd rfl hk
  | down | uncorrectable => simp [doDriveLinkEvent, hc, hdrv, ha, Nat.not_le.mpr hd]

/-- A link that is not back in time loses its drive's member, and the drive is brought up anew. -/
theorem doDriveLinkRetrainTimeout_of_down (hlink : s.rd (drvFld (drvNo p sub) 2 1) = 0) (hdump : s.pwr.dumping = false) :
    doDriveLinkRetrainTimeout p sub s = driveLost (drvNo p sub) 2 { unready (drvNo p sub) s with
      ext.coming := s.ext.coming ++ [(⟨drvNo p sub, 3, { x with resetting := false }⟩ : Coming)] } := by
  simp [doDriveLinkRetrainTimeout, hdrv, hdump, State.on, hlink, Nat.not_le.mpr hd]

/-- A drive that is taken out leaves with what it holds; its member or spare goes, but not during a dump (R232). -/
theorem doDriveRemoval_of_drive (ha : Alive s) (hc : comingAt s (drvNo p sub) = none) {u v : State}
    (hu : u = { unready (drvNo p sub) s with ext.loose := { x with resetting := false } :: s.ext.loose })
    (hv : v = if s.pwr.dumping then u else driveLost (drvNo p sub) 1 u) :
    doDriveRemoval p sub s = (drvInt R.DRV_INT_REMOVE_PORTS (drvNo p sub) (attn (drvNo p sub)
      ((drvDark (drvNo p sub) (v.wr (drvFld (drvNo p sub) 0 1) 0)).wr (drvFld (drvNo p sub) 14 1) 0))).emit
      (.drive (drvNo p sub) 6 [0, 0]) := by
  subst hu hv
  simp only [doDriveRemoval, hc, hdrv, ha, Nat.not_le.mpr hd, Bool.false_eq_true, if_false]
  rfl

end

/-- A correctable error of a drive's link is counted (R234). -/
theorem doDriveLinkEvent_correctable {s : State} (ha : Alive s) (p sub : Nat) :
    doDriveLinkEvent p sub .correctable s = s.modDrive (drvNo p sub) fun x => { x with corr := x.corr + 1 } := by
  simp [doDriveLinkEvent, ha]

/-! ### The functions of a link (R223 to R225) -/

/-- What answers on a link: function 1, or, on HPn.0 once it is up, function 0 (Table 9.2). -/
theorem linkAnswers_identity {s : State} {l : Nat} {f : PciFn} (hf : f ∈ linkAnswers s l) : f.vendor = 0x1F3D ∧
    (f.fn = 1 ∧ f.device = 0x9601 ∧ f.classCode = 0x088000 ∧ f.bar0 = 2 ^ 26 ∧ f.vectors = 64 ∨
      f.fn = 0 ∧ l % 2 = 0 ∧ fn0Up s (l / 2) = true ∧ f.classCode = 0x010802 ∧ f.bar0 = 2 ^ 16 ∧ f.vectors = 1025) := by
  unfold linkAnswers at hf
  split at hf
  case isFalse => cases hf
  case isTrue =>
    obtain ⟨hmem, hup⟩ := List.mem_filter.mp hf
    simp only [linkFunctions] at hmem
    split at hmem
    case isTrue => cases hmem
    case isFalse =>
      split at hmem
      case isTrue heven =>
        rcases List.mem_pair.mp hmem with rfl | rfl
        · exact ⟨rfl, .inr ⟨rfl, heven, by simpa using hup, rfl, rfl, rfl⟩⟩
        · exact ⟨rfl, .inl ⟨rfl, rfl, rfl, rfl, rfl⟩⟩
      case isFalse =>
        obtain rfl := List.mem_singleton.mp hmem
        exact ⟨rfl, .inl ⟨rfl, rfl, rfl, rfl, rfl⟩⟩

/-! ### The obligation -/

/-- Settles O32: each clause is one branch of its command, taken in the state that its hypotheses name; a reset of function 1 is a reset of
the link's bank. -/
theorem linksAndDrivesComeAndGo : Obligations.LinksAndDrivesComeAndGo := by
  refine ⟨?unmaskPending, ?unmask, ?busMaster, ?flr, ?linkUp, ?linkReset, ?hostRead, ?fn1, ?presence, ?timer, ?training, ?ready, ?vault,
    ?offHeld, ?off, ?on, ?onEmpty, ?event, ?retrain, ?removal, fun s d => driveAt_unready d s, fun s l f hf => linkAnswers_identity hf⟩
  case unmaskPending =>
    exact fun s l v x ha hl hup hv hen hpend hlevel =>
      .of_live_eq (exec_msixUnmask l v s) ha (doMsixUnmask_of_pending hl hup hv hen hpend hlevel)
  case unmask =>
    exact fun s l v x ha hl hup hv hpend => .of_live_eq (exec_msixUnmask l v s) ha (doMsixUnmask_of_not_pending hl hup hv hpend)
  case busMaster => exact fun s l v ha hup => .of_live_eq (exec_busMasterEnable l v s) ha (if_pos hup)
  case flr => exact fun s l ha hex => .of_live_eq (exec_flrFunction1 l s) ha (doFlrFunction1_of_exists ha hex)
  case linkUp =>
    rintro s l speed width flit _ _ ha hex hstep hpower rfl rfl u hu
    have gives := fun {t : State} (h : _ = t) =>
      Gives.of_live_eq (exec_hostLinkUp l speed width flit s) ha ((doHostLinkUp_of_exists ha hex hstep hpower speed width flit hu).trans h)
    refine ⟨fun hwide hfast hkeep => gives (if_neg ?_), fun hnarrow => gives (if_pos (.inl hnarrow))⟩
    rw [hkeep]
    exact not_or_intro (Nat.not_lt.mpr hwide) (Nat.not_lt.mpr hfast)
  case linkReset =>
    intro s l ha hex hodd u hu
    exact ⟨.of_live_eq (exec_hostLinkReset l .hotReset s) ha (doHostLinkReset_hot ha hex hodd hu),
      .of_live_eq (exec_hostLinkReset l .perst s) ha (doHostLinkReset_perst ha hex hodd hu),
      fun k hk => .of_live_eq (exec_hostLinkReset l k s) ha (doHostLinkReset_down ha hex hodd hu hk)⟩
  case hostRead =>
    rintro s h c ha hctrl hc hsops hseqs _ rfl
    have fails := hostReadFails_of_idle hctrl hc hsops hseqs
    exact ⟨.of_live_eq (exec_hostCompletionTimeout h s) ha fails, .of_live_eq (exec_hostCompletionError h s) ha fails⟩
  case fn1 => exact fun s l => ⟨mbxBankReset_busy l _, mbxBankReset_done l _, mbxBankReset_wait l _, rfl, rfl⟩
  case presence =>
    exact fun s p sub x hex hp hcome hdrv hnew =>
      .of_fin_eq (exec_drivePresence p sub x s) (doDrivePresence_of_new hex hp hcome hdrv hnew)
  case timer =>
    intro s p sub c ha hc
    have gives := fun {t : State} => Gives.of_live_eq (t := doDriveBringupTimer p sub s) (u := t) (exec_driveBringupTimer p sub s) ha
    exact ⟨fun h1 => gives (doDriveBringupTimer_of_debounce ha hc h1), fun h2 => gives (doDriveBringupTimer_of_powered ha hc h2),
      fun h => gives (doDriveBringupTimer_of_training ha hc h)⟩
  case training =>
    exact fun s p sub speed width c ha hpower hc h3 h5 =>
      .of_live_eq (exec_driveLinkUp p sub speed width s) ha (doDriveLinkUp_of_training ha hc hpower h3 h5 speed width)
  case ready =>
    rintro s p sub c _ u ha hp hsub rfl hc hph hu hspare hresv
    exact .of_live_eq (exec_driveReady p sub s) ha (doDriveReady_of_drive ha hc hph (drvNo_lt hp hsub) hspare hu hresv)
  case vault =>
    rintro s p sub c ha (rfl | rfl) rfl hc hph
    · exact .of_live_eq (exec_driveReady 32 0 s) ha (doDriveReady_of_vault (n := 0) ha hc hph rfl)
    · exact .of_live_eq (exec_driveReady 33 0 s) ha (doDriveReady_of_vault (n := 1) ha hc hph rfl)
  case offHeld => exact fun s p sub ha hp _ hex hheld => .of_live_eq (exec_driveOff p sub s) ha (doDriveOff_of_held hp hex hheld)
  case off =>
    exact fun s p sub c ha hp hex hheld hdrv _ => .of_live_eq (exec_driveOff p sub s) ha (doDriveOff_of_coming hp hex hheld hdrv)
  case on => exact fun s p sub c ha hp hex hc h7 => .of_live_eq (exec_driveOn p sub s) ha (doDriveOn_of_down hp hex hc h7)
  case onEmpty => exact fun s p sub ha hp hex hc hdrv => .of_live_eq (exec_driveOn p sub s) ha (doDriveOn_of_empty hp hex hc hdrv)
  case event =>
    exact fun s p sub k x ha hp hsub hc hdrv =>
      ⟨fun hk => .of_live_eq (exec_driveLinkEvent p sub k s) ha (doDriveLinkEvent_of_retrain (drvNo_lt hp hsub) hdrv ha hc hk),
        .of_live_eq (exec_driveLinkEvent p sub .correctable s) ha (doDriveLinkEvent_correctable ha p sub)⟩
  case retrain =>
    exact fun s p sub x ha hp hsub hdrv hlink hdump =>
      .of_live_eq (exec_driveLinkRetrainTimeout p sub s) ha (doDriveLinkRetrainTimeout_of_down (drvNo_lt hp hsub) hdrv hlink hdump)
  case removal =>
    exact fun s p sub x ha hp hsub hc hdrv u v hu hv =>
      .of_fin_eq (exec_driveRemoval p sub s) (doDriveRemoval_of_drive (drvNo_lt hp hsub) hdrv ha hc hu hv)

end Sys2Proof.Machine
end

section
/-! SUPPORT. Frames of the String: what a device does with a frame that it receives, and where it sends one on (R275, R276, R282). -/

namespace Sys2Proof.Machine

/-- The meaning of `STRING_FRAME_FORWARD` (R275, R276). -/
theorem exec_stringFrameForward (h : StrHdr) (ty : Nat) (s : State) :
    exec (.stringFrameForward h ty) s = live s (doStringFrameForward h ty s) := rfl

/-! ### A frame that is received -/

/-- A closed bypass takes no frame. -/
theorem strRx_of_closed {s : State} (hc : s.str.bypassClosed = true) (h : StrHdr) (ty : Nat) (vals : List Nat) (act : State → State) :
    strRx h ty vals act s = s := if_pos (.inl hc)

/-- A port is closed to frames neither by the bypass nor by a link that is down. -/
theorem not_closed_or_down {s : State} {p : Nat} (hc : s.str.bypassClosed = false) (hp : strPortUp s p = true) :
    ¬ (s.str.bypassClosed = true ∨ ¬ strPortUp s p = true) := by simp [hc, hp]

section
variable {s : State} {h : StrHdr} (hc : s.str.bypassClosed = false) (hp : strPortUp s h.port = true)
include hc hp

/-- A frame that fails its CRC is dropped and counted. -/
theorem strRx_of_bad_crc (hcrc : h.crcOk = false) (ty : Nat) (vals : List Nat) (act : State → State) :
    strRx h ty vals act s = s.incSat (portCrc h.port) := by
  rw [strRx, if_neg (not_closed_or_down hc hp), if_pos (by simp [hcrc])]

/-- A frame for this device alone is acted on. -/
theorem strRx_of_own (hcrc : h.crcOk = true) (hd : h.dst = s.unit) (hu : s.unit ≠ 0xFFFF) (ty : Nat) (vals : List Nat) (act : State → State) :
    strRx h ty vals act s = act s := by
  rw [strRx, if_neg (not_closed_or_down hc hp), if_neg (by simp [hcrc]), if_neg (hd ▸ hu), if_pos hd]

/-- A frame for another device alone is forwarded. -/
theorem strRx_of_other (hcrc : h.crcOk = true) (hd : h.dst ≠ s.unit) (hb : h.dst ≠ 0xFFFF) (ty : Nat) (vals : List Nat)
    (act : State → State) : strRx h ty vals act s = strForward h ty vals s := by
  rw [strRx, if_neg (not_closed_or_down hc hp), if_neg (by simp [hcrc]), if_neg hb, if_neg hd]

/-- A broadcast of this device itself, and a copy of one that has been seen, is dropped. -/
theorem strRx_of_seen {ty : Nat} (hcrc : h.crcOk = true) (hb : h.dst = 0xFFFF) (hs : h.src = s.unit ∨ (h.src, ty, h.seq) ∈ s.str.seen)
    (vals : List Nat) (act : State → State) : strRx h ty vals act s = s := by
  rw [strRx, if_neg (not_closed_or_down hc hp), if_neg (by simp [hcrc]), if_pos hb, if_pos (by simpa using hs)]

/-- The first copy of another device's broadcast is remembered, passed on and acted on. -/
theorem strRx_of_first {ty : Nat} (hcrc : h.crcOk = true) (hb : h.dst = 0xFFFF) (hsrc : h.src ≠ s.unit)
    (hs : (h.src, ty, h.seq) ∉ s.str.seen) (vals : List Nat) (act : State → State) :
    strRx h ty vals act s = act (strPass h ty vals (strSee h ty s)) := by
  rw [strRx, if_neg (not_closed_or_down hc hp), if_neg (by simp [hcrc]), if_pos hb, if_neg (by simpa using ⟨hsrc, hs⟩)]

theorem doStringFrameForward_of_bad_crc (hcrc : h.crcOk = false) (ty : Nat) :
    doStringFrameForward h ty s = s.incSat (portCrc h.port) := by
  rw [doStringFrameForward, if_neg (not_closed_or_down hc hp), if_pos (by simp [hcrc])]

/-- A unicast frame for another device goes on. -/
theorem doStringFrameForward_of_other (hcrc : h.crcOk = true) (hsrc : h.src ≠ s.unit) (hb : h.dst ≠ 0xFFFF) (hd : h.dst ≠ s.unit) (ty : Nat) :
    doStringFrameForward h ty s = strPass h ty [] s := by
  rw [doStringFrameForward, if_neg (not_closed_or_down hc hp), if_neg (by simp [hcrc]), if_neg hsrc, if_neg hb, if_neg fun x => hd x.1]

end

/-- A broadcast that has been seen is remembered. -/
theorem mem_seen_strSee (h : StrHdr) (ty : Nat) (s : State) : (h.src, ty, h.seq) ∈ (strSee h ty s).str.seen :=
  List.mem_append_left _ List.mem_cons_self

/-- A frame leaves in its direction of travel where the port there is up, its HOPS one more. -/
theorem strForward_of_up {s : State} {h : StrHdr} (hp : strPortUp s (1 - h.port) = true) (ty : Nat) (vals : List Nat) :
    strForward h ty vals s = s.emit (.string (1 - h.port) ty
      ([h.src, h.dst, h.seq, h.hops + 1, b2n (h.west ≠ false), b2n (h.wrapped || false), b2n h.uncal] ++ vals)) := by
  simp [strForward, hp]

/-! ### The obligation -/

/-- Settles O36: each clause is one branch of the reception of a frame, by its CRC, its destination and what has been seen. -/
theorem stringFramesAreForwarded : Obligations.StringFramesAreForwarded := by
  refine ⟨fun s h ty vals act hc => strRx_of_closed hc h ty vals act,
    fun s h ty vals act hc hp hcrc => strRx_of_bad_crc hc hp hcrc ty vals act,
    fun s h ty vals act hc hp hcrc hd hu => strRx_of_own hc hp hcrc hd hu ty vals act,
    fun s h ty vals act hc hp hcrc hd hb => strRx_of_other hc hp hcrc hd hb ty vals act, ?broadcast, ?forward, ?badCrc,
    fun s h ty vals hp => ⟨_, strForward_of_up hp ty vals, rfl⟩⟩
  case broadcast =>
    exact fun s h ty vals act hc hp hcrc hb => ⟨fun hs => strRx_of_seen hc hp hcrc hb hs vals act,
      fun hsrc hs => ⟨strRx_of_first hc hp hcrc hb hsrc hs vals act, mem_seen_strSee h ty s⟩⟩
  case forward =>
    exact fun s h ty ha hc hp hcrc hsrc hb hd =>
      .of_live_eq (exec_stringFrameForward h ty s) ha (doStringFrameForward_of_other hc hp hcrc hsrc hb hd ty)
  case badCrc =>
    exact fun s h ty ha hc hp hcrc => .of_live_eq (exec_stringFrameForward h ty s) ha (doStringFrameForward_of_bad_crc hc hp hcrc ty)

end Sys2Proof.Machine
end

section
/-! SUPPORT. Links, time and delays of the String: ports that come up and go down, LINK, EPOCH, the delay measurement (R272, R278, R279,
R281). -/

namespace Sys2Proof.Machine

/-! ### What the commands mean -/

/-- The meaning of `STRING_LINK_UP` (R281). -/
theorem exec_stringLinkUp (port : Nat) (s : State) : exec (.stringLinkUp port) s = live s (doStringLinkUp port s) := rfl

/-- The meaning of `STRING_LINK_DOWN` (R272, R281). -/
theorem exec_stringLinkDown (port : Nat) (foreign : Bool) (s : State) :
    exec (.stringLinkDown port foreign) s = live s (doStringLinkDown port foreign s) := rfl

/-- The meaning of `LINK_FRAME` (R272). -/
theorem exec_linkFrame (h : StrHdr) (id x y : Nat) (s : State) : exec (.linkFrame h id x y) s = live s (doLinkFrame h id s) := rfl

/-- The meaning of `EPOCH_FRAME` (R278, R279). -/
theorem exec_epochFrame (h : StrHdr) (f : EpochFrame) (s : State) : exec (.epochFrame h f) s = live s (doEpochFrame h f s) := rfl

/-- The meaning of `DELAY_MEASURE` (R278). -/
theorem exec_delayMeasure (s : State) : exec .delayMeasure s = live s (doDelayMeasure s) := rfl

/-- The meaning of `DELAY_REQ` (R278). -/
theorem exec_delayReq (h : StrHdr) (t1 : Nat) (s : State) : exec (.delayReq h t1) s = live s (doDelayReq h t1 s) := rfl

/-- The meaning of `DELAY_RESP` (R278). -/
theorem exec_delayResp (h : StrHdr) (t1 t2 t3 t4 : Nat) (s : State) :
    exec (.delayResp h t1 t2 t3 t4) s = live s (doDelayResp h t1 t2 t3 t4 s) := rfl

/-! ### Links -/

section
variable {s : State} {port : Nat} (hport : port ≤ 1) (hc : s.str.bypassClosed = false)
include hport hc

/-- A port whose SerDes group works comes up: LINK is UP, LOCK both, its delay is measured anew, and a training device notes the first. -/
theorem doStringLinkUp_of_down (hp : strPortUp s port = false) (hg : groupDead s 8 = false) {u : State}
    (hu : u = delayClear port ((s.wr (portLink port) 2).wr (portLock port) 3)) :
    doStringLinkUp port s = portReport port true { u with
      str.firstUp := if strState u = sTraining ∧ u.str.firstUp.isNone then some u.tet.epoch else u.str.firstUp } := by
  subst hu
  rw [doStringLinkUp, if_neg (by simp [Nat.not_lt.mpr hport, hc, hp, hg])]

/-- A port that was up and loses its lock is counted and told of. -/
theorem doStringLinkDown_of_up (hp : strPortUp s port = true) {u : State}
    (hu : u = delayClear port ((s.wr (portLink port) 1).wr (portLock port) 0)) :
    doStringLinkDown port false s = portReport port false (u.incSat (portDown port)) := by
  subst hu
  rw [doStringLinkDown, if_neg (by simp [Nat.not_lt.mpr hport, hc])]
  exact if_pos hp

end

section
variable {s : State} {h : StrHdr} (hport : h.port ≤ 1) (hc : s.str.bypassClosed = false) (hcrc : h.crcOk = true)
  (hl : s.rd (portLink h.port) = 3)
include hport hc hcrc hl

/-- A partner that is FOREIGN already stays so under another STRING_ID. -/
theorem doLinkFrame_of_foreign {id : Nat} (hid : id ≠ s.rd R.STG_STRING_ID_STRING_ID) : doLinkFrame h id s = s := by
  rw [doLinkFrame, if_neg (by simp [Nat.not_lt.mpr hport, hc]), if_neg (by simp [hcrc]), if_pos hid, if_pos hl]

/-- A FOREIGN partner that shows this device's STRING_ID lets the port train. -/
theorem doLinkFrame_of_matching : doLinkFrame h (s.rd R.STG_STRING_ID_STRING_ID) s = s.wr (portLink h.port) 1 := by
  rw [doLinkFrame, if_neg (by simp [Nat.not_lt.mpr hport, hc]), if_neg (by simp [hcrc]), if_neg (not_not_intro rfl), if_pos hl]

end

/-! ### EPOCH frames -/

section
variable {s : State} {h : StrHdr} (hc : s.str.bypassClosed = false) (hp : strPortUp s h.port = true) (hcrc : h.crcOk = true)
include hc hp hcrc

/-- This device's own EPOCH frame has come round. -/
theorem doEpochFrame_of_own (hsrc : h.src = s.unit) (f : EpochFrame) : doEpochFrame h f s = s := by
  rw [doEpochFrame, if_neg (not_closed_or_down hc hp), if_neg (by simp [hcrc]), if_pos hsrc]

/-- A joined device passes its Reel's EPOCH frame on, takes it for its time and learns from it. -/
theorem doEpochFrame_of_reel (hsrc : h.src ≠ s.unit) {f : EpochFrame} {u : State} (hu : u = epochPass h f s) (hr : isReel u = false)
    (hst : strState u = sJoined) (hun : reelUnit u = h.src) (hb : h.src ≠ 0xFFFF) :
    doEpochFrame h f s = epochLearn f (epochTake h f { u with str.lastRx := u.tet.epoch, str.reelKey := f.reelKey }) := by
  rw [doEpochFrame, if_neg (not_closed_or_down hc hp), if_neg (by simp [hcrc]), if_neg hsrc, ← hu]
  have hstays : (strState u = sTraining || strState u = sElecting || reelUnit u = 0xFFFF ||
      (reelUnit u ≠ h.src && decide (u.str.reelKey < f.reelKey))) = false := by
    rw [hst, hun]
    simp [hb, sJoined, sTraining, sElecting]
  simp only [hr, hstays, Bool.false_eq_true, if_false]
  exact if_neg (not_not_intro hun)

end

/-- The better of two copies is one of them. -/
theorem copyBetter_mem (a b : EpochCopy) : copyBetter a b = a ∨ copyBetter a b = b := by
  unfold copyBetter
  split
  · exact .inl rfl
  · exact .inr rfl

/-- The better of two copies has come over no more devices than either. -/
theorem copyBetter_hops_le (a b : EpochCopy) : (copyBetter a b).hops ≤ a.hops ∧ (copyBetter a b).hops ≤ b.hops := by
  unfold copyBetter
  split <;> omega

/-! ### Delays -/

/-- With the bypass open, a DELAY_REQ goes out of each port that is up at the eighth epoch of sixteen. -/
theorem doDelayMeasure_of_due {s : State} (he : s.tet.epoch % 16 = 8) (hc : s.str.bypassClosed = false) :
    doDelayMeasure s = s.each (strPorts s) fun s p => (s.emit (.string p 2 [s.freeNat 64])).useFree := by
  rw [doDelayMeasure, if_neg (by simp [he, hc])]

section
variable {s : State} {h : StrHdr} (hc : s.str.bypassClosed = false) (hp : strPortUp s h.port = true) (hcrc : h.crcOk = true)
include hc hp hcrc

/-- A DELAY_REQ is answered with its own timestamp and two of this device. -/
theorem doDelayReq_of_up (t1 : Nat) : doDelayReq h t1 s =
    (s.useFree.emit (.string h.port 3 [t1, s.freeNat 64, s.useFree.freeNat 64])).useFree := by
  rw [doDelayReq, if_neg (not_closed_or_down hc hp), if_neg (by simp [hcrc])]

/-- A DELAY_RESP adds its measurement to the port's samples, and DELAY_NS follows. -/
theorem doDelayResp_of_up {t1 t2 t3 t4 : Nat} {l : List Nat} (hl : l = (delayOf t1 t2 t3 t4 :: delaySamples s h.port).take 16) {u : State}
    (hu : u = { s with str.delays := (h.port, l) :: s.str.delays.filter fun d => d.1 ≠ h.port }) :
    doDelayResp h t1 t2 t3 t4 s = u.wr (portDelay h.port) (delayPs u h.port / 1000) := by
  subst hl hu
  rw [doDelayResp, if_neg (not_closed_or_down hc hp), if_neg (by simp [hcrc])]

end

/-- Where both directions take the same time, the measurement is that time, whatever the two clocks differ by. -/
theorem delayOf_symmetric (t1 t3 d : Nat) : delayOf t1 (t1 + d) t3 (t3 + d) = d := by
  unfold delayOf
  omega

/-! ### The obligation -/

/-- Settles O37: links and frames by the branches of their commands, the delay by the arithmetic of its four timestamps. -/
theorem stringLinksAndTime : Obligations.StringLinksAndTime := by
  refine ⟨?linkUp, ?linkDown, ?foreign, ?matching, ?own, ?reel, copyBetter_mem, copyBetter_hops_le, ?measure, ?request, ?response, ?delay⟩
  case linkUp =>
    exact fun s port ha hport hc hp hg u hu => .of_live_eq (exec_stringLinkUp port s) ha (doStringLinkUp_of_down hport hc hp hg hu)
  case linkDown =>
    exact fun s port ha hport hc hp u hu => .of_live_eq (exec_stringLinkDown port false s) ha (doStringLinkDown_of_up hport hc hp hu)
  case foreign =>
    exact fun s h id x y ha hport hc hcrc hid hl => .of_live_eq (exec_linkFrame h id x y s) ha (doLinkFrame_of_foreign hport hc hcrc hl hid)
  case matching =>
    exact fun s h x y ha hport hc hcrc hl => .of_live_eq (exec_linkFrame h _ x y s) ha (doLinkFrame_of_matching hport hc hcrc hl)
  case own =>
    exact fun s h f ha hc hp hcrc hsrc => .of_live_eq (exec_epochFrame h f s) ha (doEpochFrame_of_own hc hp hcrc hsrc f)
  case reel =>
    exact fun s h f u ha hc hp hcrc hsrc hu hr hst hun hb =>
      .of_live_eq (exec_epochFrame h f s) ha (doEpochFrame_of_reel hc hp hcrc hsrc hu hr hst hun hb)
  case measure => exact fun s ha he hc => .of_live_eq (exec_delayMeasure s) ha (doDelayMeasure_of_due he hc)
  case request =>
    exact fun s h t1 ha hc hp hcrc => ⟨_, _, _, .of_live_eq (exec_delayReq h t1 s) ha (doDelayReq_of_up hc hp hcrc t1), rfl, rfl, rfl⟩
  case response =>
    exact fun s h t1 t2 t3 t4 l ha hc hp hcrc hl u hu =>
      .of_live_eq (exec_delayResp h t1 t2 t3 t4 s) ha (doDelayResp_of_up hc hp hcrc hl hu)
  case delay =>
    rintro t1 _ t3 _ d rfl rfl
    exact delayOf_symmetric t1 t3 d

end Sys2Proof.Machine
end

section
/-! SUPPORT. What the String's shared operations change: broadcasts, the directory, the closing of the bypass, a new Reel (R276, R280, R283,
R288). -/

namespace Sys2Proof.Machine

/-! ### Broadcasts -/

/-- Events sent one after another stand newest first. -/
theorem each_emit {α : Type} (f : α → OutEv) (s : State) (l : List α) :
    (s.each l fun s x => s.emit (f x)) = { s with out := (l.map f).reverse ++ s.out } := by
  induction l generalizing s with
  | nil => rfl
  | cons x l ih =>
    refine (ih (s.emit (f x))).trans ?_
    simp [State.emit]

/-- A broadcast sends its frame out of every port that is up and counts the SEQ of its type. -/
theorem strBroadcast_eq (ty : Nat) (vals : List Nat) (s : State) : strBroadcast ty vals s =
    strSeqUp ty { s with out := ((strPorts s).map fun p => OutEv.string p ty (0xFFFF :: strSeq s ty :: vals)).reverse ++ s.out } :=
  congrArg (strSeqUp ty) (each_emit _ s _)

/-- A broadcast changes only the outputs and the SEQs. -/
theorem strBroadcast_spec (ty : Nat) (vals : List Nat) (s : State) :
    ∃ out seqs, strBroadcast ty vals s = { s with out := out, str.seqs := seqs } := ⟨_, _, strBroadcast_eq ty vals s⟩

/-! ### Notices -/

/-- A completion changes only the command engine and the outputs. -/
theorem cqe_spec (h : IoHdr) (sct sc : Nat) (dnr : Bool) (d : Nat) (data : List Block) (s : State) :
    ∃ ce out, cqe h sct sc dnr d data s = { s with ce := ce, out := out } := by
  unfold cqe adminDone errLog
  dsimp only
  split <;> split <;> exact ⟨_, _, rfl⟩

/-- A notice to one controller changes only the command engine and the outputs. -/
theorem postAen_spec (c d : Nat) (s : State) : ∃ ce out, postAen c d s = { s with ce := ce, out := out } := by
  unfold postAen
  split
  · split
    · exact ⟨_, _, rfl⟩
    · split
      · exact (cqe_spec _ _ _ _ _ _ _).imp fun _ => Exists.imp fun _ h => h
      · exact ⟨_, _, rfl⟩
  · exact ⟨_, _, rfl⟩

/-- A notice to all controllers changes only the command engine and the outputs. -/
theorem notice_spec (b i p : Nat) (s : State) : ∃ ce out, notice b i p s = { s with ce := ce, out := out } := by
  refine List.foldlRecOn (motive := fun t => ∃ ce out, t = { s with ce := ce, out := out }) _ _ ⟨s.ce, s.out, rfl⟩ ?_
  rintro _ ⟨ce, out, rfl⟩ c -
  exact postAen_spec c.id _ _

/-- A changed discovery list is counted, raised and noticed. -/
theorem discChanged_spec (s : State) :
    ∃ regs fab ce out, discChanged s = { s with regs := regs, fab := fab, ce := ce, out := out } := by
  obtain ⟨ce, out, h⟩ := notice_spec 31 0xF0 0x70 ({ s with fab.discGen := s.fab.discGen + 1 }.raise R.FAB_INT_STATUS_DISC_CHG)
  exact ⟨_, _, _, _, h⟩

@[simp] theorem discChanged_str (s : State) : (discChanged s).str = s.str := by
  obtain ⟨_, _, _, _, h⟩ := discChanged_spec s
  rw [h]

@[simp] theorem discChanged_arrs (s : State) : (discChanged s).arrs = s.arrs := by
  obtain ⟨_, _, _, _, h⟩ := discChanged_spec s
  rw [h]

/-! ### The directory -/

/-- A change that may touch the discovery list leaves in the String's state what it put there. -/
@[simp] theorem withDisc_str (f : State → State) (s : State) : (withDisc f s).str = (f s).str := by
  unfold withDisc
  dsimp only
  split
  · rfl
  · exact discChanged_str _

@[simp] theorem withDisc_arrs (f : State → State) (s : State) : (withDisc f s).arrs = (f s).arrs := by
  unfold withDisc
  dsimp only
  split
  · rfl
  · exact discChanged_arrs _

/-- A change of an entry puts it into the directory, raises DIR_GEN and is broadcast; the rest of the String's state stays. -/
theorem dirChange_str (e : DirEntry) (s : State) : ∃ seqs, (dirChange e s).str =
    { s.str with dir := dirPut e s.str.dir, dirGen := s.str.dirGen + 1, seqs := seqs } := by
  unfold dirChange
  dsimp only
  obtain ⟨_, seqs, h⟩ := strBroadcast_spec 0x0B
    [e.slot, e.unit, e.flags, (withDisc (fun s => { s with str.dir := dirPut e s.str.dir, str.dirGen := s.str.dirGen + 1 }) s).str.dirGen]
    ((withDisc (fun s => { s with str.dir := dirPut e s.str.dir, str.dirGen := s.str.dirGen + 1 }) s).raise R.STG_INT_STATUS_DIR_CHG)
  refine ⟨seqs, ?_⟩
  rw [h, State.raise_str, withDisc_str]

@[simp] theorem dirChange_arrs (e : DirEntry) (s : State) : (dirChange e s).arrs = s.arrs := by
  unfold dirChange
  dsimp only
  rw [strBroadcast_eq]
  exact withDisc_arrs _ s

/-- The directory with an entry put in holds it, and no other entry of its SLOT. -/
theorem mem_dirPut (e : DirEntry) (l : List DirEntry) : e ∈ dirPut e l := List.mem_append_right _ List.mem_cons_self

theorem eq_of_mem_dirPut {e x : DirEntry} {l : List DirEntry} (hx : x ∈ dirPut e l) (hslot : x.slot = e.slot) : x = e := by
  unfold dirPut at hx
  rcases List.mem_append.mp hx with hx | hx
  · exact absurd (of_decide_eq_true (List.mem_filter.mp hx).2) (by omega)
  · rcases List.mem_cons.mp hx with hx | hx
    · exact hx
    · exact absurd (of_decide_eq_true (List.mem_filter.mp hx).2) (by omega)

/-! ### States -/

@[simp] theorem strGo_str (v : Nat) (s : State) : (strGo v s).str = s.str := by
  unfold strGo
  dsimp only
  split <;> rfl

/-- With the bypass closed the String's state is that after reset, but for the SEQs. -/
theorem bypassClose_str (st : Nat) (s : State) : ∃ seqs, (bypassClose st s).str = { Str.reset with seqs := seqs } := by
  refine ⟨(pubReply eState s).str.seqs, ?_⟩
  simp only [bypassClose, State.each, List.foldl_cons, List.foldl_nil, State.wr_str, strGo_str, withDisc_str, id_eq]
  rfl

@[simp] theorem ringSend_members (s : State) : (ringSend s).str.members = s.str.members := by
  rw [ringSend, strBroadcast_eq]
  rfl

@[simp] theorem epochSend_members (s : State) : (epochSend s).str.members = s.str.members := by
  rw [epochSend, strBroadcast_eq]
  rfl

@[simp] theorem dirChange_members (e : DirEntry) (s : State) : (dirChange e s).str.members = s.str.members := by
  obtain ⟨_, h⟩ := dirChange_str e s
  rw [h]

/-- A new Reel knows no member yet. -/
theorem becomeReel_members (s : State) : (becomeReel s).str.members = [] := by
  unfold becomeReel
  refine (ringSend_members _).trans ((epochSend_members _).trans ((dirChange_members _ _).trans ?_))
  exact congrArg Str.members (strGo_str _ _)

end Sys2Proof.Machine
end

section
/-! SUPPORT. Elections, joining and leaving: training that ends, candidates, the loss of the Reel, the census, the answers to reports (R280,
R283 to R286). -/

namespace Sys2Proof.Machine

/-! ### What the commands mean -/

/-- The meanings of `TRAINING_TIMEOUT` and `ELECTION_END` (R280, R283). -/
theorem exec_trainingTimeout (s : State) : exec .trainingTimeout s = live s (doTrainingTimeout s) := rfl

theorem exec_electionEnd (s : State) : exec .electionEnd s = live s (doElectionEnd s) := rfl

/-- The meaning of `CANDIDATE` (R283). -/
theorem exec_candidate (h : StrHdr) (key unit : Nat) (s : State) : exec (.candidate h key unit) s = live s (doCandidate h key unit s) := rfl

/-- The meanings of `REEL_LOST`, `REELECT` and `CENSUS_END` (R283, R284). -/
theorem exec_reelLost (s : State) : exec .reelLost s = live s (doReelLost s) := rfl

theorem exec_reelect (s : State) : exec .reelect s = live s (doReelect s) := rfl

theorem exec_censusEnd (s : State) : exec .censusEnd s = live s (doCensusEnd s) := rfl

/-- The meaning of `RING_STATE` (R281). -/
theorem exec_ringState (h : StrHdr) (size : Nat) (bs : List Nat) (s : State) :
    exec (.ringState h size bs) s = live s (doRingState h size bs s) := rfl

/-- The meanings of `ACK` and `REPORT_RETRY` (R286). -/
theorem exec_ack (h : StrHdr) (acked result : Nat) (s : State) : exec (.ack h acked result) s = live s (doAck h acked result s) := rfl

theorem exec_reportRetry (s : State) : exec .reportRetry s = live s (doReportRetry s) := rfl

/-- The meaning of `LEAVE_TIMEOUT` (R280). -/
theorem exec_leaveTimeout (s : State) : exec .leaveTimeout s = live s (doLeaveTimeout s) := rfl

/-! ### Training and elections -/

section
variable {s : State}

/-- Training ends in an election 64 epochs after the first link came up, or after training began where none did. -/
theorem doTrainingTimeout_of_due (hst : strState s = sTraining) (he : s.str.firstUp.getD s.str.trainFrom + 64 ≤ s.tet.epoch) :
    doTrainingTimeout s = electionStart s := if_pos ⟨hst, he⟩

theorem doTrainingTimeout_of_early (he : s.tet.epoch < s.str.firstUp.getD s.str.trainFrom + 64) : doTrainingTimeout s = s :=
  if_neg fun h => Nat.not_le.mpr he h.2

/-- An election is over after 32 election epochs. -/
theorem not_electing_or_early (hst : strState s = sElecting) (he : s.str.electFrom + 33 ≤ s.tet.epoch) :
    ¬ (strState s ≠ sElecting ∨ s.tet.epoch < s.str.electFrom + 33) :=
  not_or.mpr ⟨not_not_intro hst, Nat.not_lt.mpr he⟩

/-- The device with the highest key becomes the Reel. -/
theorem doElectionEnd_of_won (hst : strState s = sElecting) (he : s.str.electFrom + 33 ≤ s.tet.epoch) (hk : s.str.best ≤ ownKey s) :
    doElectionEnd s = becomeReel s := by
  rw [doElectionEnd, if_neg (not_electing_or_early hst he), if_pos hk]

/-- A device that saw a higher key joins. -/
theorem doElectionEnd_of_lost (hst : strState s = sElecting) (he : s.str.electFrom + 33 ≤ s.tet.epoch) (hk : ownKey s < s.str.best) :
    doElectionEnd s = joinAdd (strGo sJoining { s with str.lastRx := s.tet.epoch }) := by
  rw [doElectionEnd, if_neg (not_electing_or_early hst he), if_neg (Nat.not_le.mpr hk)]

/-- Sixteen epochs without a valid copy of the Reel's EPOCH frame start an election. -/
theorem doReelLost_of_silent (hst : strState s = sJoined) (hu : reelUnit s ≠ 0xFFFF) (hr : isReel s = false)
    (he : s.str.lastRx + 16 ≤ s.tet.epoch) :
    doReelLost s = electionStart (doSourceLoss 2 (s.raise R.STG_INT_STATUS_REEL_LOST)) := by
  rw [doReelLost, if_neg (by simp [hst, hu, hr, Nat.not_lt.mpr he])]

theorem doReelect_of_reel (hr : isReel s = true) : doReelect s = electionStart s := if_pos hr

theorem doReelect_of_other (hr : isReel s = false) : doReelect s = s.wr R.STG_STATUS_LAST_ERR eState := if_neg (Bool.eq_false_iff.mp hr)

/-! ### The census -/

/-- A census runs on until its last epoch while a joined unit of the directory has not reported. -/
theorem doCensusEnd_of_early {d : Nat} (hc : s.str.census = some d) (he : s.tet.epoch < d) (hf : censusFull s = false) :
    doCensusEnd s = s := by
  simp [doCensusEnd, hc, he, hf]

/-- The joined units of the directory that have not reported. -/
def lateEntries (s : State) : List DirEntry := s.str.dir.filter fun e => bit e.flags 0 && ¬ s.str.heard.contains e.unit

/-- The entry of a joined unit becomes ABSENT. -/
def absentPut (s : State) (e : DirEntry) : State := dirChange { e with flags := e.flags - 1 + 4 } s

/-- A census that ends marks the joined units that did not report ABSENT. -/
theorem doCensusEnd_of_due {d : Nat} (hc : s.str.census = some d) (hr : isReel s = true) (he : d ≤ s.tet.epoch ∨ censusFull s = true) :
    doCensusEnd s = { s.each (lateEntries s) absentPut with str.census := none } := by
  have hdue : ¬ (¬ isReel s = true ∨ (s.tet.epoch < d ∧ ¬ censusFull s = true)) := by
    rintro (h | ⟨hlt, hf⟩)
    · exact h hr
    · exact he.elim (Nat.not_le.mpr hlt) hf
  simp only [doCensusEnd, hc]
  exact if_neg hdue

theorem absentPut_arrs (s : State) (e : DirEntry) : (absentPut s e).arrs = s.arrs := dirChange_arrs _ s

/-- The entry of a joined unit that is marked ABSENT stands in the directory with JOINED taken and ABSENT given. -/
theorem mem_dir_absentPut {e : DirEntry} (hj : bit e.flags 0 = true) (s : State) :
    { e with flags := e.flags + 3 } ∈ (absentPut s e).str.dir := by
  have hpos : 1 ≤ e.flags := by
    simp only [bit, Nat.pow_zero, Nat.div_one, decide_eq_true_eq] at hj
    omega
  obtain ⟨_, h⟩ := dirChange_str { e with flags := e.flags - 1 + 4 } s
  rw [absentPut, h, show e.flags - 1 + 4 = e.flags + 3 by omega]
  exact mem_dirPut _ _

/-! ### Reports -/

/-- A report without an answer for 256 epochs is sent again with its SEQ. -/
theorem doReportRetry_of_due {r : Report} {rs : List Report} {e : Nat} (hrs : s.str.reports = r :: rs) (hs : r.sent = some e)
    (he : e + 256 ≤ s.tet.epoch) (hu : reelUnit s ≠ 0xFFFF) {u : State}
    (hsent : u = strSendSeq (reelUnit s) 6 r.seq (r.sub :: r.vals) s) :
    doReportRetry s = { u with str.reports := { r with sent := some u.tet.epoch } :: rs } := by
  subst hsent
  simp only [doReportRetry, hrs, hs]
  exact if_neg (not_or.mpr ⟨Nat.not_lt.mpr he, hu⟩)

theorem doLeaveTimeout_of_due {e : Nat} (hl : s.str.leaveAt = some e) (he : e ≤ s.tet.epoch) : doLeaveTimeout s = bypassClose sBypassed s := by
  simp [doLeaveTimeout, hl, he]

/-- A refused JOIN closes the bypass and shows the reason. -/
theorem joinAnswer_of_refused {result : Nat} (hr : result ≠ 0) (s : State) :
    joinAnswer result s = ((bypassClose sRefused s).wr R.STG_STATUS_REFUSE result).raise R.STG_INT_STATUS_REFUSED := if_neg hr

end

/-! ### Frames of the Reel -/

section
variable {s : State} {h : StrHdr} (hc : s.str.bypassClosed = false) (hp : strPortUp s h.port = true) (hcrc : h.crcOk = true)
  (hd : h.dst = s.unit) (hu : s.unit ≠ 0xFFFF)
include hc hp hcrc hd hu

/-- An electing device keeps the highest key that it has seen. -/
theorem doCandidate_of_electing (hst : strState s = sElecting) (key unit : Nat) :
    doCandidate h key unit s = { s with str.best := max s.str.best key } := by
  rw [doCandidate, strRx_of_own hc hp hcrc hd hu, if_pos hst]

/-- A joined device takes SIZE and the breaks of its Reel's RING_STATE; a frame that was turned round gives no POS. -/
theorem doRingState_of_wrapped (hr : isReel s = false) (hsrc : h.src = reelUnit s) (hst : strState s = sJoined) (hw : h.wrapped = true)
    (size : Nat) (bs : List Nat) : doRingState h size bs s = breaksSet bs (s.wr R.STG_RING_SIZE size) := by
  rw [doRingState, strRx_of_own hc hp hcrc hd hu, if_neg (by simp [hr, hsrc, hst])]
  simp only [hw, if_true]

section
variable {r : Report} {rs : List Report} (hrs : s.str.reports = r :: rs) (hs : r.sent.isSome = true)
include hrs hs

/-- The answer to the report that is outstanding, before what its SUB does. -/
theorem doAck_of_sent (result : Nat) : doAck h r.seq result s =
    if r.sub = subJoin then joinAnswer result { s with str.reports := rs }
    else
      let u : State := if r.sub = subLeave then { s with str.reports := rs, str.leaveAcked := true } else { s with str.reports := rs }
      reportNext (if r.sub = subPublish ∧ result ≠ 0 then pubReply result u else u) := by
  rw [doAck, strRx_of_own hc hp hcrc hd hu]
  simp only [hrs]
  exact if_neg (by simpa using Option.isSome_iff_ne_none.mp hs)

theorem doAck_of_join (hsub : r.sub = subJoin) (result : Nat) :
    doAck h r.seq result s = joinAnswer result { s with str.reports := rs } :=
  (doAck_of_sent hc hp hcrc hd hu hrs hs result).trans (if_pos hsub)

/-- The Reel knows that this device leaves. -/
theorem doAck_of_leave (hsub : r.sub = subLeave) (result : Nat) :
    doAck h r.seq result s = reportNext { s with str.reports := rs, str.leaveAcked := true } := by
  simp [doAck_of_sent hc hp hcrc hd hu hrs hs result, hsub, subLeave, subJoin, subPublish]

/-- A PUBLISH that the Reel does not take ends with its code. -/
theorem doAck_of_publish (hsub : r.sub = subPublish) {result : Nat} (hres : result ≠ 0) :
    doAck h r.seq result s = reportNext (pubReply result { s with str.reports := rs }) := by
  simp [doAck_of_sent hc hp hcrc hd hu hrs hs result, hsub, hres, subLeave, subJoin, subPublish]

end
end

/-! ### The obligation -/

/-- Settles O38: each clause is one branch of its command; the census by what a change of an entry does to the directory. -/
theorem stringElectsAndJoins : Obligations.StringElectsAndJoins := by
  refine ⟨?trained, ?training, ?won, ?lost, ?candidate, ?silent, ?reelect, ?notReel, ?ring, ?ack,
    fun s result hr => joinAnswer_of_refused hr s, ?leave, ?retry, ?censusOn, ?censusEnd, ?closed, becomeReel_members⟩
  case trained => exact fun s ha hst he => .of_live_eq (exec_trainingTimeout s) ha (doTrainingTimeout_of_due hst he)
  case training => exact fun s ha _ he => .of_live_eq (exec_trainingTimeout s) ha (doTrainingTimeout_of_early he)
  case won => exact fun s ha hst he hk => .of_live_eq (exec_electionEnd s) ha (doElectionEnd_of_won hst he hk)
  case lost => exact fun s ha hst he hk => .of_live_eq (exec_electionEnd s) ha (doElectionEnd_of_lost hst he hk)
  case candidate =>
    exact fun s h key unit ha hc hp hcrc hd hu hst =>
      .of_live_eq (exec_candidate h key unit s) ha (doCandidate_of_electing hc hp hcrc hd hu hst key unit)
  case silent => exact fun s ha hst hu hr he => .of_live_eq (exec_reelLost s) ha (doReelLost_of_silent hst hu hr he)
  case reelect => exact fun s ha hr => .of_live_eq (exec_reelect s) ha (doReelect_of_reel hr)
  case notReel => exact fun s ha hr => .of_live_eq (exec_reelect s) ha (doReelect_of_other hr)
  case ring =>
    exact fun s h size bs ha hc hp hcrc hd hu hr hsrc hst hw =>
      .of_live_eq (exec_ringState h size bs s) ha (doRingState_of_wrapped hc hp hcrc hd hu hr hsrc hst hw size bs)
  case ack =>
    intro s h r rs result ha hc hp hcrc hd hu hrs hs
    have gives := fun {t : State} (he : _ = t) => Gives.of_live_eq (exec_ack h r.seq result s) ha he
    exact ⟨fun hsub => gives (doAck_of_join hc hp hcrc hd hu hrs hs hsub result),
      fun hsub => gives (doAck_of_leave hc hp hcrc hd hu hrs hs hsub result),
      fun hsub hres => gives (doAck_of_publish hc hp hcrc hd hu hrs hs hsub hres)⟩
  case leave => exact fun s e ha hl he => .of_live_eq (exec_leaveTimeout s) ha (doLeaveTimeout_of_due hl he)
  case retry =>
    exact fun s r rs e ha hrs hs he hu u hsent => .of_live_eq (exec_reportRetry s) ha (doReportRetry_of_due hrs hs he hu hsent)
  case censusOn => exact fun s d ha hc _ he hf => .of_live_eq (exec_censusEnd s) ha (doCensusEnd_of_early hc he hf)
  case censusEnd =>
    intro s d ha hc hr he
    refine .of_live ((exec_censusEnd s).trans (congrArg (live s) (doCensusEnd_of_due hc hr he))) ha
      ⟨rfl, State.each_field State.arrs absentPut_arrs s _, fun e (hlate : lateEntries s = [e]) _ => ?_⟩
    have hmem : e ∈ lateEntries s := hlate ▸ List.mem_cons_self
    have hj : bit e.flags 0 = true := (Bool.and_eq_true_iff.mp (List.mem_filter.mp hmem).2).1
    rw [hlate]
    exact mem_dir_absentPut hj s
  case closed =>
    intro s st
    obtain ⟨_, h⟩ := bypassClose_str st s
    rw [h]
    exact ⟨rfl, rfl, rfl⟩

end Sys2Proof.Machine
end

section
/-! SUPPORT. What the String shares: distributions of configuration, summaries, claims, the directory and wakes (R287, R288, R290, R291). -/

namespace Sys2Proof.Machine

/-! ### What the commands mean -/

/-- The meanings of `OFFER` and `CONFIG` (R290). -/
theorem exec_offer (h : StrHdr) (gen size at_ : Nat) (ok : Bool) (s : State) :
    exec (.offer h gen size at_ ok) s = live s (doOffer h gen size at_ ok s) := rfl

theorem exec_config (h : StrHdr) (gen chunk : Nat) (items : List CfgItem) (tables : List (Nat × List Nat)) (s : State) :
    exec (.config h gen chunk items tables) s = live s (doConfig h gen chunk items tables s) := rfl

/-- The meanings of `STRING_CLAIM` and `DIRECTORY` (R288). -/
theorem exec_stringClaim (h : StrHdr) (role cause clm prev peer : Nat) (s : State) :
    exec (.stringClaim h role cause clm prev peer) s = live s (doStringClaim h role cause clm prev peer s) := rfl

theorem exec_directory (h : StrHdr) (e : DirEntry) (gen : Nat) (s : State) :
    exec (.directory h e gen) s = live s (doDirectory h e gen s) := rfl

/-- The meanings of `STG_WAKE` and `WAKE_SEQUENCE_SEND` (R291). -/
theorem exec_stgWake (target : Nat) (s : State) : exec (.stgWake target) s = live s (doStgWake target s) := rfl

theorem exec_wakeSequenceSend (target : Nat) (s : State) :
    exec (.wakeSequenceSend target) s = live s (doWakeSequenceSend target s) := rfl

/-- The meaning of `SUMMARY_DUE` (R287). -/
theorem exec_summaryDue (s : State) : exec .summaryDue s = live s (doSummaryDue s) := rfl

/-! ### Frames of the Reel -/

/-- The Reel's own frames of a set count. -/
theorem setSource_of_reel {s : State} {u : Nat} (h : u = reelUnit s) (gen : Nat) : setSource s u gen = true := by
  simp [setSource, h]

section
variable {s : State} {h : StrHdr} (hc : s.str.bypassClosed = false) (hp : strPortUp s h.port = true) (hcrc : h.crcOk = true)
  (hd : h.dst = s.unit) (hu : s.unit ≠ 0xFFFF)
include hc hp hcrc hd hu

/-- A joined device notes the offer of a newer generation, of which it holds no chunk yet. -/
theorem doOffer_of_newer (hst : strState s = sJoined) (hsrc : h.src = reelUnit s) {gen : Nat} (hgen : sysGen s < gen)
    (hpub : s.str.pub = none) (size at_ : Nat) (ok : Bool) :
    doOffer h gen size at_ ok s = { s with str.offer := some ⟨gen, size, at_, ok, [], [], [], 0⟩ } := by
  rw [doOffer, strRx_of_own hc hp hcrc hd hu, if_neg (by simp [hst, setSource_of_reel hsrc, hgen])]
  simp only [hpub, Option.map_none]

/-- A generation that the device has is not offered to it. -/
theorem doOffer_of_older {gen : Nat} (hgen : gen ≤ sysGen s) (size at_ : Nat) (ok : Bool) : doOffer h gen size at_ ok s = s := by
  rw [doOffer, strRx_of_own hc hp hcrc hd hu, if_pos (.inr (.inr hgen))]

/-- The first chunk of an offered set is kept, and no chunk below it is missing. -/
theorem doConfig_of_first {gen : Nat} {o : Offer} (ho : s.str.offer = some o) (hgen : o.gen = gen) (hsrc : h.src = reelUnit s)
    (hch : o.chunks = []) (items : List CfgItem) (tables : List (Nat × List Nat)) :
    doConfig h gen 0 items tables s =
      offerCheck { s with str.offer := some { o with chunks := [0], items := o.items ++ items, tables := tables ++ o.tables } } := by
  rw [doConfig, strRx_of_own hc hp hcrc hd hu]
  simp [ho, hgen, setSource_of_reel hsrc, hch, insNat]

/-- A claim below that of the directory's entry is stale. -/
theorem doStringClaim_of_stale {e : DirEntry} (he : dirOf s h.src = some e) {clm : Nat} (hclm : clm < e.claim) (role cause prev peer : Nat) :
    doStringClaim h role cause clm prev peer s = s := by
  rw [doStringClaim, strRx_of_own hc hp hcrc hd hu]
  simp [he, dirClaim, hclm]

/-- An entry of the Reel's directory that brings no newer generation enters the device's own. -/
theorem doDirectory_of_known (hr : isReel s = false) (hsrc : h.src = reelUnit s) {gen : Nat} (hgen : gen ≤ s.str.dirGen) (e : DirEntry) :
    doDirectory h e gen s = withDisc (fun s => { s with str.dir := dirPut e s.str.dir, str.dirGen := max s.str.dirGen gen }) s := by
  rw [doDirectory, strRx_of_own hc hp hcrc hd hu, if_neg (by simp [hr, hsrc])]
  exact if_neg (by simpa using hgen)

end

/-! ### Wakes -/

section
variable {s : State} {target : Nat}

theorem doStgWake_of_apart (hst : strState s ≠ sJoined) : doStgWake target s = s.wr R.STG_STATUS_LAST_ERR eState := if_pos hst

theorem doStgWake_of_awake (hst : strState s = sJoined) (hn : inNightDir s target = false) :
    doStgWake target s = s.wr R.STG_STATUS_LAST_ERR eField := by
  simp [doStgWake, hst, hn]

theorem doStgWake_of_night (hst : strState s = sJoined) (hn : inNightDir s target = true) :
    doStgWake target s = strBroadcast 0 [target] s := by
  simp [doStgWake, hst, hn]

/-- The wake sequence leaves on one of the two ports. -/
theorem doWakeSequenceSend_of_night (hst : strState s = sJoined) (hn : inNightDir s target = true) :
    doWakeSequenceSend target s = (s.emit (.string (s.freeNat 1) 0xFF (wakeCells target))).useFree := by
  simp [doWakeSequenceSend, hst, hn]

/-- A wake sequence has 8 cells of preamble and two for each of UNIT's 16 bits. -/
theorem length_wakeCells (u : Nat) : (wakeCells u).length = 40 := by
  have htwo : ∀ i, (if bit u (15 - i) then [1, 0] else [0, 1]).length = 2 := fun i => by split <;> rfl
  simp only [wakeCells, List.length_append, List.length_flatMap, htwo]
  decide

end

/-! ### Summaries and distributions -/

/-- The Reel keeps its own summary, in place of the one before. -/
theorem doSummaryDue_of_reel {s : State} (hst : strState s = sJoined) (hr : isReel s = true) (hd : s.str.summaryBy.isSome = true) :
    doSummaryDue s = { s with
      str.newRecs := 0, str.summaryBy := none, wsk.worst := 0, wsk.worstSeq := 0,
      str.summaries := summaryOf s :: s.str.summaries.filter fun x => x.unit ≠ (summaryOf s).unit } := by
  rw [doSummaryDue, if_neg (by simp [hst, hd])]
  exact if_pos hr

theorem doSummaryDue_of_apart {s : State} (hst : strState s ≠ sJoined) : doSummaryDue s = s := if_pos (.inl hst)

/-- A set applies at the first multiple of 16 that lies 1,024 epochs ahead or more. -/
theorem applyAt_spec (e : Nat) : applyAt e % 16 = 0 ∧ e + 1024 ≤ applyAt e ∧ applyAt e < e + 1040 := by
  unfold applyAt
  omega

/-! ### The obligation -/

/-- Settles O40: frames of the Reel by the branches of their commands, the directory by what putting an entry in gives. -/
theorem stringSharesTheConfiguration : Obligations.StringSharesTheConfiguration := by
  refine ⟨?offer, ?older, ?config, ?claim, ?directory, ?wakeApart, ?wakeAwake, ?wake, ?summary, ?summaryApart, applyAt_spec,
    fun e l => ⟨mem_dirPut e l, fun x hx hs => eq_of_mem_dirPut hx hs⟩, length_wakeCells⟩
  case offer =>
    exact fun s h gen size at_ ok ha hc hp hcrc hd hu hst hsrc hgen hpub =>
      .of_live_eq (exec_offer h gen size at_ ok s) ha (doOffer_of_newer hc hp hcrc hd hu hst hsrc hgen hpub size at_ ok)
  case older =>
    exact fun s h gen size at_ ok ha hc hp hcrc hd hu hgen =>
      .of_live_eq (exec_offer h gen size at_ ok s) ha (doOffer_of_older hc hp hcrc hd hu hgen size at_ ok)
  case config =>
    exact fun s h gen items tables o ha hc hp hcrc hd hu ho hgen hsrc hch =>
      .of_live_eq (exec_config h gen 0 items tables s) ha (doConfig_of_first hc hp hcrc hd hu ho hgen hsrc hch items tables)
  case claim =>
    exact fun s h role cause clm prev peer e ha hc hp hcrc hd hu he hclm =>
      .of_live_eq (exec_stringClaim h role cause clm prev peer s) ha (doStringClaim_of_stale hc hp hcrc hd hu he hclm role cause prev peer)
  case directory =>
    exact fun s h e gen ha hc hp hcrc hd hu hr hsrc hgen =>
      .of_live_eq (exec_directory h e gen s) ha (doDirectory_of_known hc hp hcrc hd hu hr hsrc hgen e)
  case wakeApart => exact fun s target ha hst => .of_live_eq (exec_stgWake target s) ha (doStgWake_of_apart hst)
  case wakeAwake => exact fun s target ha hst hn => .of_live_eq (exec_stgWake target s) ha (doStgWake_of_awake hst hn)
  case wake =>
    exact fun s target ha hst hn => ⟨.of_live_eq (exec_stgWake target s) ha (doStgWake_of_night hst hn),
      s.freeNat 1, (Config.freeValue 1 s.freeCtr).isLt,
      .of_live_eq (exec_wakeSequenceSend target s) ha (doWakeSequenceSend_of_night hst hn)⟩
  case summary => exact fun s ha hst hr hd => .of_live_eq (exec_summaryDue s) ha (doSummaryDue_of_reel hst hr hd)
  case summaryApart => exact fun s ha hst => .of_live_eq (exec_summaryDue s) ha (doSummaryDue_of_apart hst)

end Sys2Proof.Machine
end

section
/-! SUPPORT. Dawn at DAWN_S12 after a loss of MRAM: the epoch counter is raised before the role is chosen, in a restart after NIGHT as in a
whole Dawn. -/

namespace Sys2Proof.Machine

/-- The meaning of `PAIR_NEGOTIATE` (R315). -/
theorem exec_pairNegotiate (s : State) : exec .pairNegotiate s = live s (doPairNegotiate s) := rfl

/-- A restart after NIGHT stands at DAWN_S12 with the steps from DAWN_S13 before it; DAWN_S07 found MRAM bad, so the epoch counter has not
been raised yet, and the unit has no pair. -/
def restartAtS12 : State := { State.reset with dwn.step := 12, dwn.redo := [13, 14, 15, 16, 17, 18], dwn.rawEpoch := true }

/-- The command raises the counter, which the step's end alone does not. -/
theorem doPairNegotiate_restartAtS12 :
    (doPairNegotiate restartAtS12).dwn.rawEpoch = false ∧ (stepPass 12 restartAtS12).dwn.rawEpoch = true := by decide

/-- Refutes O45: in a restart after NIGHT that found MRAM bad, `PAIR_NEGOTIATE` raises the epoch counter before it ends DAWN_S12. -/
theorem not_dawnGoesOnToService : ¬ Obligations.DawnGoesOnToService := by
  intro h
  obtain ⟨_, _, _, _, _, hrestart, _⟩ := h
  have hgives := hrestart restartAtS12 (by decide) (by decide) (by decide) (by decide) (by decide)
  rw [Gives, exec_pairNegotiate, live_on (by decide)] at hgives
  injection hgives with heq
  obtain ⟨hraised, hraw⟩ := doPairNegotiate_restartAtS12
  have hsame := congrArg (fun t : State => t.dwn.rawEpoch) heq
  simp only [settle_dwn, hraised, hraw] at hsame
  cases hsame

end Sys2Proof.Machine
end

section
/-! SUPPORT. Images that go to the flash: the chunks of an upload, what the end of a flash write does, and the replies of the mailbox (R327,
R332, R389). -/

namespace Sys2Proof.Machine

/-- The meanings of `PERSIST` and `IMAGE_WRITE` (R332). -/
theorem exec_persist (h : MbxHdr) (total off len : Nat) (img : Image) (s : State) :
    exec (.persist h total off len img) s = live s (mbxArrive h (.persist total off len img) s) := rfl

theorem exec_imageWrite (h : MbxHdr) (slot pref total off len : Nat) (img : Image) (s : State) :
    exec (.imageWrite h slot pref total off len img) s = live s (mbxArrive h (.imageWrite slot pref total off len img) s) := rfl

/-! ### Replies -/

/-- A field of the global blocks is none of a bank's block. -/
theorem global_key_ne {f g : Fld} (ho : f.off < 0x10000000) (hl : f.lo < 32) (hg : 0x10000000 ≤ g.off) : f.key ≠ g.key := by
  simp only [Fld.key]
  omega

/-- A reply writes no register outside its bank's block. -/
theorem replyTo_rd (h : MbxHdr) (op code d : Nat) (pl : List Nat) (s : State) {f : Fld} (ho : f.off < 0x10000000) (hl : f.lo < 32) :
    (replyTo h op code d pl s).rd f = s.rd f := by
  have hne : ∀ {b : Nat} {g : Fld}, bankOff b ≤ g.off → f.key ≠ g.key := fun {b} _ hg =>
    global_key_ne ho hl (le_trans (by simp only [bankOff]; omega) hg)
  unfold replyTo
  split
  · rfl
  cases h.src with
  | mctp ep l => rfl
  | bank b =>
    have hdone : f.key ≠ (R.MBX_INT_STATUS_DONE b).key := hne (b := b) (Nat.le_add_right _ _)
    have hfailed : f.key ≠ (R.MBX_INT_STATUS_FAILED b).key := hne (b := b) (Nat.le_add_right _ _)
    have hcode : f.key ≠ (R.MBX_STATUS_LAST_CODE b).key := hne (b := b) (Nat.le_add_right _ _)
    dsimp only
    split
    · rw [State.rd_raise_ne _ hdone, State.rd_wr_ne _ hcode, State.rd_wr_ne _ (done_key b f ho hl), State.rd_wr_ne _ (busy_key b f ho hl)]
      rfl
    · rw [State.rd_raise_ne _ hfailed, State.rd_raise_ne _ hdone, State.rd_wr_ne _ hcode, State.rd_wr_ne _ (done_key b f ho hl),
        State.rd_wr_ne _ (busy_key b f ho hl)]
      rfl

theorem mbxOk_rd (h : MbxHdr) (op : Nat) (s : State) {f : Fld} (ho : f.off < 0x10000000) (hl : f.lo < 32) : (mbxOk h op s).rd f = s.rd f :=
  replyTo_rd h op eOk 0 [] _ ho hl

/-- A reply lets no request wait and starts none. -/
theorem replyTo_wait (h : MbxHdr) (op code d : Nat) (pl : List Nat) (s : State) : (replyTo h op code d pl s).mbx.wait = s.mbx.wait := by
  unfold replyTo
  split
  · rfl
  · cases h.src with
    | mctp ep l => rfl
    | bank b => by_cases hc : code = eOk <;> simp [hc]

theorem mbxOk_wait (h : MbxHdr) (op : Nat) (s : State) : (mbxOk h op s).mbx.wait = s.mbx.wait := replyTo_wait h op eOk 0 [] _

/-- A header with a reader gets its rejection. -/
theorem mem_mbxErr {h : MbxHdr} (hr : h.resvBad = false) (op code : Nat) (s : State) :
    OutEv.reply h.src op code h.tag 0 [] ∈ (mbxErr h op code s).out := by
  unfold mbxErr mbxReply replyTo
  rw [hr]
  cases h.src with
  | mctp ep l => exact List.mem_cons_self
  | bank b =>
    by_cases hc : code = eOk
    · simp [hc]
    · simp [hc]

/-! ### Chunks -/

section
variable {s : State} {h : MbxHdr} {op key total off len : Nat} {act : State → State}

/-- The first chunk of several is kept. -/
theorem uploadChunk_of_first (hlt : len < total) :
    uploadChunk h op key total 0 len act s = mbxOk h op { s with dwn.upload := some (key, total, len) } := by
  simp [uploadChunk, hlt]

/-- The last chunk, where it goes on from the one before, acts. -/
theorem uploadChunk_of_last (hnext : off = 0 ∨ s.dwn.upload = some (key, total, off)) (hlast : off + len = total) :
    uploadChunk h op key total off len act s = act { s with dwn.upload := none } := by
  have hgoes : ¬ (off ≠ 0 ∧ s.dwn.upload ≠ some (key, total, off)) := fun ⟨h0, hu⟩ => hnext.elim h0 hu
  rw [uploadChunk, if_neg hgoes, if_neg (by omega)]

end

/-! ### The end of a flash write -/

theorem slotImg_putSlot_same {k : Nat} (hk : k < 4) (x : Option Image) (s : State) : slotImg (putSlot k x s) k = x := by
  obtain hlow | rfl | rfl : k < 2 ∨ k = 2 ∨ k = 3 := by omega
  · exact slotImg_putSlot hlow x s
  · rfl
  · rfl

/-- The half to which `PERSIST` writes is one of the shadow slot's. -/
theorem oldHalf_lt (s : State) : oldHalf s < 4 := by
  have hmem : oldHalf s = 2 ∨ oldHalf s = 3 := by
    unfold oldHalf
    dsimp only
    split
    · split
      · exact .inl rfl
      · exact .inr rfl
    · exact .inr rfl
    · exact .inl rfl
  omega

/-- What a flash write that was read back leaves, before its reply: the place holds the image, `PERSIST` raises its cause, and `IMAGE_WRITE`
with PREFER makes the slot the preferred one. -/
def flashHeld (n : Nat) (img : Image) (k : Nat) (s : State) : State :=
  let s := putSlot k (some img) { s with dwn.flashOp := none }
  let s := if n = 0 then s.raise R.DWN_INT_STATUS_PERSIST_DONE else s
  let s := if n = 2 then prefer k s else s
  if 2 ≤ k then measChanged s else s

theorem flashEnd_true (n : Nat) (h : MbxHdr) (img : Image) (k : Nat) (s : State) :
    flashEnd (n, h, img, k) true s = mbxOk h (if n = 0 then 0x0107 else 0x0108) (flashHeld n img k s) := rfl

/-- A change of a measurement touches neither the Gondola nor the mailbox. -/
theorem ite_measChanged_nv_mbx (c : Prop) [Decidable c] (s : State) :
    (if c then measChanged s else s).nv = s.nv ∧ (if c then measChanged s else s).mbx = s.mbx := by
  split <;> exact ⟨rfl, rfl⟩

theorem flashHeld_slotImg {k : Nat} (hk : k < 4) (n : Nat) (img : Image) (s : State) : slotImg (flashHeld n img k s) k = some img := by
  rw [flashHeld, slotImg_congr (ite_measChanged_nv_mbx _ _).1]
  by_cases h2 : n = 2
  · simpa [h2, prefer_slotImg] using slotImg_putSlot_same hk (some img) _
  · rw [if_neg h2]
    split
    · exact slotImg_putSlot_same hk (some img) _
    · exact slotImg_putSlot_same hk (some img) _

/-- `IMAGE_WRITE` with PREFER makes the slot the preferred one. -/
theorem flashHeld_preferred (img : Image) (k : Nat) (s : State) : (flashHeld 2 img k s).nv.preferred = k := by
  rw [flashHeld, (ite_measChanged_nv_mbx _ _).1]
  exact prefer_preferred k _

/-- `PERSIST` raises its cause. -/
theorem flashHeld_persistDone (img : Image) (k : Nat) (s : State) : (flashHeld 0 img k s).rd R.DWN_INT_STATUS_PERSIST_DONE = 1 := by
  have hraised : ∀ t : State, (t.raise R.DWN_INT_STATUS_PERSIST_DONE).rd R.DWN_INT_STATUS_PERSIST_DONE = 1 := fun t => by simp
  have hkeep : ∀ t : State, (measChanged t).rd R.DWN_INT_STATUS_PERSIST_DONE = t.rd R.DWN_INT_STATUS_PERSIST_DONE := fun t =>
    State.rd_raise_ne t (by decide) 1
  unfold flashHeld
  dsimp only
  rw [if_pos rfl, if_neg (show ¬ (0 : Nat) = 2 by decide)]
  split
  · rw [hkeep, hraised]
  · exact hraised _

theorem flashHeld_mbx (n : Nat) (img : Image) (k : Nat) (s : State) : (flashHeld n img k s).mbx = s.mbx := by
  rw [flashHeld, (ite_measChanged_nv_mbx _ _).2]
  have hput := putSlot_mbx k (some img) { s with dwn.flashOp := none }
  by_cases h2 : n = 2
  · simpa [h2, prefer_mbx] using hput
  · rw [if_neg h2]
    split
    · exact hput
    · exact hput

theorem flashEnd_slotImg {k : Nat} (hk : k < 4) (n : Nat) (h : MbxHdr) (img : Image) (s : State) :
    slotImg (flashEnd (n, h, img, k) true s) k = some img := by
  rw [flashEnd_true, slotImg_congr (mbxOk_ns_nv _ _ _).2, flashHeld_slotImg hk]

theorem flashEnd_persistDone (h : MbxHdr) (img : Image) (k : Nat) (s : State) :
    (flashEnd (0, h, img, k) true s).rd R.DWN_INT_STATUS_PERSIST_DONE = 1 := by
  rw [flashEnd_true, mbxOk_rd _ _ _ (by decide) (by decide), flashHeld_persistDone]

theorem flashEnd_preferred (h : MbxHdr) (img : Image) (k : Nat) (s : State) : (flashEnd (2, h, img, k) true s).nv.preferred = k := by
  rw [flashEnd_true, (mbxOk_ns_nv _ _ _).2, flashHeld_preferred]

theorem flashEnd_wait (n : Nat) (h : MbxHdr) (img : Image) (k : Nat) (s : State) :
    (flashEnd (n, h, img, k) true s).mbx.wait = s.mbx.wait := by
  rw [flashEnd_true, mbxOk_wait, flashHeld_mbx]

/-- The flash write of a mailbox command ends before any of a Firmware Commit. -/
theorem flashWriteEnd_of_command {s : State} {p : Nat × MbxHdr × Image × Nat} (hop : s.dwn.flashOp = some p) (ok : Bool) :
    flashWriteEnd ok s = flashEnd p ok s := by
  rw [flashWriteEnd, hop]

/-- A flash write that ends well while no request waits. -/
theorem runs_flashWriteComplete {t : State} {n : Nat} {h : MbxHdr} {img : Image} {k : Nat} {P : State → Prop} (ha : Alive t)
    (hop : t.dwn.flashOp = some (n, h, img, k)) (hw : t.mbx.wait = []) (hP : P (settle (flashEnd (n, h, img, k) true t))) :
    Runs (.flashWriteComplete true) t P := by
  refine Runs.of_live (exec_flashWriteComplete true t) ha ?_
  rwa [flashWriteEnd_of_command hop, mbxPump_of_idle ((flashEnd_wait n h img k t).trans hw)]

/-- A request that is served at once leaves the device alive and no request waiting. -/
theorem MbxReady.taken {h : MbxHdr} {s : State} (r : MbxReady h s) (op : Nat) :
    Alive (mbxTaken h op s) ∧ (mbxTaken h op s).mbx.wait = [] := by
  obtain ⟨ha, _, _, hw, _⟩ := r
  refine ⟨?_, by rw [mbxTaken_run, hw]⟩
  unfold mbxTaken
  cases h.src with
  | bank b => exact ha
  | mctp ep l => exact ha

/-! ### PERSIST and IMAGE_WRITE -/

theorem uploadFits_of_le {m total off len : Nat} (htot : total ≤ m) (hfit : off + len ≤ total) : uploadFits m total off len = true :=
  (Bool.and_eq_true _ _).mpr ⟨decide_eq_true htot, decide_eq_true hfit⟩

section
variable {s r : State} {h : MbxHdr} {total off len : Nat} {img : Image} (hr : MbxReady h s) (hact : notActive s = false)
  (hfit : off + len ≤ total)
include hr hact hfit

/-- `PERSIST` with a chunk within its image passes the mailbox's checks. -/
theorem gives_persist (hlen : h.len = 8 + len) (htot : total ≤ 2 * 2 ^ 20)
    (hgo : persistGo total off len img h (mbxTaken h 0x0107 s) = r) : Gives (.persist h total off len img) s r := by
  have hfits := uploadFits_of_le htot hfit
  exact Gives.mbx hr (exec_persist h total off len img s) (fun _ => rfl) (decide_eq_true hlen) rfl
    (decide_eq_false (not_not_intro hfits)) (by simp [plainSpec]) rfl (fun _ => hact) hgo

/-- `IMAGE_WRITE` with a chunk within its image passes the mailbox's checks. -/
theorem gives_imageWrite {slot pref : Nat} (hlen : h.len = 12 + len) (hslot : slot < 2) (hpref : pref < 2) (htot : total ≤ 28 * 2 ^ 20)
    (hgo : imageWriteGo slot pref total off len img h (mbxTaken h 0x0108 s) = r) :
    Gives (.imageWrite h slot pref total off len img) s r := by
  have hne : slot ≠ 2 := by omega
  have hfield : (decide (2 < slot) || decide (1 < pref) || (slot = 2 && pref = 1)) = false := by simp [hne]; omega
  have hfits : uploadFits ((if slot = 2 then 2 else 28) * 2 ^ 20) total off len = true := by
    rw [if_neg hne]
    exact uploadFits_of_le htot hfit
  exact Gives.mbx hr (exec_imageWrite h slot pref total off len img s) (fun _ => rfl) (decide_eq_true hlen) hfield
    (decide_eq_false (not_not_intro hfits)) (by simp [safeSpec, plainSpec]) rfl (fun _ => hact) hgo

end

section
variable {u : State} {total off len : Nat} {img : Image} {h : MbxHdr} (hl : u.dwn.launch = none) (hf : flashBusy u = false)
include hl hf

/-- The first chunk of several of `PERSIST` is kept. -/
theorem persistGo_of_first (hlt : len < total) :
    persistGo total 0 len img h u = mbxOk h 0x0107 { u with dwn.upload := some (0x0107, total, len) } := by
  rw [persistGo, if_neg (by simp [hl, hf]), uploadChunk_of_first hlt]

variable (hnext : off = 0 ∨ u.dwn.upload = some (0x0107, total, off)) (hlast : off + len = total)
include hnext hlast

/-- An image that fails a check is rejected with its last chunk. -/
theorem persistGo_of_failed {c : Nat × Nat} (hck : imageCheck u 1 img = some c) :
    persistGo total off len img h u = mbxErr h 0x0107 c.2 (imageFail c.1 { u with dwn.upload := none }) := by
  have hck' : imageCheck { u with dwn.upload := none } 1 img = some c := hck
  rw [persistGo, if_neg (by simp [hl, hf]), uploadChunk_of_last hnext hlast, hck']

/-- A checked image of the configuration in force waits for its flash write. -/
theorem persistGo_of_checked (hck : imageCheck u 1 img = none) (hsame : sameSet u img = true) :
    persistGo total off len img h u = { u with dwn.upload := none, dwn.flashOp := some (0, h, img, oldHalf u) } := by
  have hck' : imageCheck { u with dwn.upload := none } 1 img = none := hck
  rw [persistGo, if_neg (by simp [hl, hf]), uploadChunk_of_last hnext hlast, hck']
  exact if_neg (not_not_intro hsame)

end

/-- A checked image for a firmware slot waits for its flash write. -/
theorem imageWriteGo_of_checked {u : State} {slot : Nat} {img : Image} (hf : flashBusy u = false) (hslot : slot < 2)
    (hck : imageCheck u 0 img = none) (pref total : Nat) (h : MbxHdr) :
    imageWriteGo slot pref total 0 total img h u = { u with dwn.upload := none, dwn.flashOp := some (1 + pref, h, img, slot) } := by
  have hne : slot ≠ 2 := by omega
  have hck' : imageCheck { u with dwn.upload := none } (if slot = 2 then 1 else 0) img = none := by
    rw [if_neg hne]
    exact hck
  rw [imageWriteGo, if_neg (by simp [hf]), uploadChunk_of_last (.inl rfl) (Nat.zero_add _), hck', if_neg hne]

/-- A command that leaves an image to be written, and the end of that write. -/
theorem runs_flash_write {c : Instr} {s u : State} {h : MbxHdr} {op : Nat} (hr : MbxReady h s) (hu : u = mbxTaken h op s) {n k : Nat} {img : Image}
    (hg : Gives c s { u with dwn.upload := none, dwn.flashOp := some (n, h, img, k) }) (hk : k < 4) :
    Runs c s fun t => Runs (.flashWriteComplete true) t fun w =>
      slotImg w k = some img ∧ (n = 0 → w.rd R.DWN_INT_STATUS_PERSIST_DONE = 1) ∧ (n = 2 → w.nv.preferred = k) ∧
      Replied h (if n = 0 then 0x0107 else 0x0108) eOk w := by
  obtain ⟨ha, hw⟩ := hr.taken op
  subst hu
  refine ⟨_, hg, runs_flashWriteComplete (n := n) (h := h) (img := img) (k := k) ha rfl hw ⟨?slot, ?done, ?pref, ?reply⟩⟩
  case slot => exact flashEnd_slotImg hk n h img _
  case done => rintro rfl; exact flashEnd_persistDone h img k _
  case pref => rintro rfl; exact flashEnd_preferred h img k _
  case reply => exact settle_mem (replied_mbxOk hr.2.2.1 _ _)

end Sys2Proof.Machine
end

section
/-! SUPPORT. PUBLISH on the Reel: the checks of the published sections, and the distribution that starts there (R288, R290). -/

namespace Sys2Proof.Machine

/-- The meaning of `PUBLISH` (R290). -/
theorem exec_publish (h : MbxHdr) (total off len : Nat) (img : Image) (s : State) :
    exec (.publish h total off len img) s = live s (mbxArrive h (.publish total off len img) s) := rfl

/-- `PUBLISH` with a chunk within its image passes the mailbox's checks while time is shared. -/
theorem gives_publish {s r : State} {h : MbxHdr} {total off len : Nat} {img : Image} (hr : MbxReady h s) (hact : notActive s = false)
    (hfit : off + len ≤ total) (hlen : h.len = 8 + len) (htot : total ≤ 327680) (htime : timeShared s = true)
    (hgo : publishGo total off len img h (mbxTaken h 0x0109 s) = r) : Gives (.publish h total off len img) s r := by
  have hfits := uploadFits_of_le htot hfit
  exact Gives.mbx hr (exec_publish h total off len img s) (fun _ => rfl) (decide_eq_true hlen) rfl (decide_eq_false (not_not_intro hfits))
    (fun _ => htime) rfl (fun _ => hact) hgo

/-! ### The checks of a published set -/

section
variable {u : State} {h : MbxHdr} {img : Image} (hst : strState u = sJoined) (hpub : u.str.pub = none)
include hst hpub

/-- Sections that fail their checks are rejected. -/
theorem publishGo_of_failed {c : Nat} (hck : sectionsErr systemScope img.items img.tables = some c) (total : Nat) :
    publishGo total 0 total img h u = mbxErr h 0x0109 c { u with dwn.upload := none } := by
  rw [publishGo, if_neg (not_not_intro hst), if_neg (by simp [hpub]), uploadChunk_of_last (.inl rfl) (Nat.zero_add _), hck]

/-- On the Reel a checked set whose distribution can start is distributed. -/
theorem publishGo_of_reel {r : State} {total : Nat} (hck : sectionsErr systemScope img.items img.tables = none) (hreel : isReel u = true)
    (hgo : reelPublish total img.items img.tables { u with dwn.upload := none, str.pub := some (h, sysGen u + 1) } = (true, r)) :
    publishGo total 0 total img h u = r := by
  have hreel' : isReel { u with dwn.upload := none } = true := hreel
  have hgo' : reelPublish total img.items img.tables
      { ({ u with dwn.upload := none } : State) with str.pub := some (h, sysGen { u with dwn.upload := none } + 1) } = (true, r) := hgo
  rw [publishGo, if_neg (not_not_intro hst), if_neg (by simp [hpub]), uploadChunk_of_last (.inl rfl) (Nat.zero_add _), hck]
  simp only [hreel', if_true, hgo']

end

/-! ### The distribution -/

/-- Whether a set is valid does not turn on the outputs, the String or an upload. -/
theorem systemFail_congr (items : List CfgItem) (tables : List (Nat × List Nat)) (s : State) (out : List OutEv) (str : Str)
    (up : Option (Nat × Nat × Nat)) : systemFail items tables { s with out := out, str := str, dwn.upload := up } = systemFail items tables s :=
  rfl

/-- A free Reel starts the distribution of the next generation. -/
theorem reelPublish_of_free {s : State} (hd : s.str.dist = none) (hc : s.str.census = none) (size : Nat) (items : List CfgItem)
    (tables : List (Nat × List Nat)) :
    reelPublish size items tables s = (true, distStart (sysGen s + 1) size (applyAt s.tet.epoch) items tables s) := by
  rw [reelPublish, if_neg (by simp [hd, hc])]

/-- The Reel offers itself a newer set that is valid here, and accepts it; the publishing command goes on waiting. -/
theorem distStart_of_valid {s : State} {gen : Nat} {items : List CfgItem} {tables : List (Nat × List Nat)} (hgen : sysGen s < gen)
    (hv : systemFail items tables s = none) (size at_ : Nat) :
    (distStart gen size at_ items tables s).str.pub = s.str.pub ∧
    (distStart gen size at_ items tables s).str.offer = some ⟨gen, size, at_, true, List.range (chunksOf size), items, tables, 1⟩ := by
  unfold distStart
  dsimp only
  obtain ⟨out, seqs, hb⟩ := strBroadcast_spec 8 [gen, size, at_] { s with str.dist := some ⟨gen, size, at_, items, tables, 0, [], [], [], 0⟩ }
  have hnew : ¬ gen ≤ sysGen s := Nat.not_le.mpr hgen
  rw [hb]
  simp only [show ∀ str : Str, sysGen { s with out := out, str := str } = sysGen s from fun _ => rfl, if_neg hnew]
  rw [systemFail_congr items tables s, hv]
  exact ⟨rfl, rfl⟩

theorem mbxTaken_tet (h : MbxHdr) (op : Nat) (s : State) : (mbxTaken h op s).tet = s.tet := by
  unfold mbxTaken
  cases h.src <;> rfl

end Sys2Proof.Machine
end

section
/-! SUPPORT. What the rest of the device does leaves the String's state: finished commands, records, arrays, reservations, the Basket. -/

namespace Sys2Proof.Machine

/-- A loop of steps that leave the String leaves it. -/
theorem State.each_str {α : Type} {f : State → α → State} (hf : ∀ s x, (f s x).str = s.str) (s : State) (l : List α) :
    (s.each l f).str = s.str := State.each_field State.str hf s l

/-! ### Notices and states -/

@[simp] theorem notice_str (b i p : Nat) (s : State) : (notice b i p s).str = s.str := by
  obtain ⟨ce, out, h⟩ := notice_spec b i p s
  rw [h]

@[simp] theorem noticeAna_str (s : State) : (noticeAna s).str = s.str := notice_str _ _ _ _

@[simp] theorem setPair_str (v : Nat) (s : State) : (setPair v s).str = s.str := by simp [setPair, apply_ite State.str]

@[simp] theorem separate_str (r : Nat) (s : State) : (separate r s).str = s.str := by simp [separate]

@[simp] theorem entryKeep_str (a : Nat) (s : State) : (entryKeep a s).str = s.str := rfl

@[simp] theorem resyncStarts_str (a : Nat) (s : State) : (resyncStarts a s).str = s.str := State.event_str _ _ _ _

@[simp] theorem setArr_str (a v r : Nat) (s : State) : (setArr a v r s).str = s.str := by simp [setArr, apply_ite State.str]

/-! ### Commands that end -/

@[simp] theorem dropLines_str (p : Line → Bool) (s : State) : (dropLines p s).str = s.str := rfl

@[simp] theorem envSettle_str (ks : List Nat) (g : Bool) (s : State) : (envSettle ks g s).str = s.str := by
  simp [envSettle, apply_ite State.str]

@[simp] theorem unlockAll_str (o : Nat) (s : State) : (unlockAll o s).str = s.str := rfl

@[simp] theorem jobsAdmit_str (n : Nat) (s : State) : (jobsAdmit n s).str = s.str := by
  obtain ⟨js, ws, h, _⟩ := jobsAdmit_spec n s
  rw [h]

@[simp] theorem jobsDrop_str (op : Nat) (s : State) : (jobsDrop op s).str = s.str := by
  simp [jobsDrop, sliceBusy, apply_ite State.str]

@[simp] theorem ackCredits_str (c q : Nat) (s : State) : (ackCredits c q s).str = s.str := by
  unfold ackCredits
  split
  · simp [apply_ite State.str]
  · rfl

@[simp] theorem creditBack_str (h : IoHdr) (s : State) : (creditBack h s).str = s.str := by
  unfold creditBack
  split
  · simp [apply_ite State.str]
  · rfl

@[simp] theorem tally_str (c : Ctx) (st : Status) (s : State) : (tally c st s).str = s.str := by
  cases ht : s.pair.takeFrom <;> cases hop : c.op <;> simp [tally, ht, hop, apply_ite State.str]

@[simp] theorem finishCtx_str (c : Ctx) (st : Status) (data : List Block) (s : State) : (finishCtx c st data s).str = s.str := by
  simp [finishCtx]

@[simp] theorem sopDrop_str (o : SOp) (s : State) : (sopDrop o s).str = s.str := by simp [sopDrop, apply_ite State.str]

/-! ### Records -/

@[simp] theorem putRec_str (e : Nat) (b : RecBody) (c : Bool) (o : Nat) (s : State) : (putRec e b c o s).str = s.str := by
  simp [putRec, apply_ite State.str]

@[simp] theorem carryOld_str (s : State) : (carryOld s).str = s.str :=
  State.each_str (fun t r => by simp [carryRec, apply_ite State.str]) s _

@[simp] theorem ringLowCheck_str (s : State) : (ringLowCheck s).str = s.str := by simp [ringLowCheck, apply_ite State.str]

@[simp] theorem record_str (b : RecBody) (s : State) : (record b s).str = s.str := by simp [record]

@[simp] theorem closeStripe_str (a st q v : Nat) (s : State) : (closeStripe a st q v s).str = s.str := by simp [closeStripe]

@[simp] theorem releaseSaved_str (q : Nat) (s : State) : (releaseSaved q s).str = s.str := rfl

@[simp] theorem releaseCompanion_str (q : Nat) (s : State) : (releaseCompanion q s).str = s.str :=
  State.each_str (f := fun t e => bskRelease e t) (fun _ _ => rfl) s _

/-- The commands of an array that halt, halt without the String. -/
@[simp] theorem haltArray_str (a : Nat) (st : Status) (s : State) : (haltArray a st s).str = s.str := by
  unfold haltArray
  dsimp only
  rw [State.each_str fun t c => by simp, State.each_str fun t p => by simp, State.each_str fun t o => by simp]

/-! ### Claims and reservations -/

@[simp] theorem memberStop_str (s : State) : (memberStop s).str = s.str := State.each_str (fun t o => sopDrop_str o t) s _

@[simp] theorem fenceOut_str (s : State) : (fenceOut s).str = s.str :=
  (memberStop_str _).trans (State.each_str (fun t c => finishCtx_str c _ [] t) s _)

@[simp] theorem claimLost_str (s : State) : (claimLost s).str = s.str := by
  unfold claimLost
  split
  · rfl
  · simp only [apply_ite State.str, separate_str, setPair_str, fenceOut_str, memberStop_str, ite_self, State.event_str,
      State.raise_str, State.wr_str]

@[simp] theorem resvRegister_str (d : Nat) (s : State) : (resvRegister d s).str = s.str := by
  simp [resvRegister, apply_ite State.str]

@[simp] theorem resvAcquire_str (d : Nat) (s : State) : (resvAcquire d s).2.str = s.str := by
  unfold resvAcquire
  split
  · rfl
  · simp [apply_ite Prod.snd, apply_ite State.str]

@[simp] theorem resvJoinGo_str (d : Nat) (s : State) : (resvJoinGo d s).str = s.str := by
  simp [resvJoinGo, resvJoin, apply_ite Prod.snd, apply_ite State.str]

/-! ### Arrays, spares and drives -/

@[simp] theorem arrFresh_str (a : Nat) (s : State) : (arrFresh a s).str = s.str := by
  unfold arrFresh
  dsimp only
  rw [State.each_str fun t k => by simp]
  simp

@[simp] theorem mapGive_str (a m : Nat) (s : State) : (mapGive a m s).str = s.str := by simp [mapGive]

@[simp] theorem mediaClear_str (d lba n : Nat) (s : State) : (mediaClear d lba n s).str = s.str := by simp [mediaClear]

@[simp] theorem repairsGone_str (d lba n : Nat) (s : State) : (repairsGone d lba n s).str = s.str := rfl

@[simp] theorem stripesClear_str (a st cnt : Nat) (s : State) : (stripesClear a st cnt s).str = s.str := by
  unfold stripesClear
  dsimp only
  rw [State.each_str fun t m => by simp [apply_ite State.str]]
  split
  · exact mediaClear_str _ _ _ s
  · rfl

@[simp] theorem relabel_str (a : Nat) (s : State) : (relabel a s).str = s.str :=
  State.each_str (fun t m => by simp [apply_ite State.str]) _ _

@[simp] theorem soloDerive_str (a : Nat) (s : State) : (soloDerive a s).str = s.str := rfl

@[simp] theorem statusBits_str (a : Nat) (s : State) : (statusBits a s).str = s.str := rfl

@[simp] theorem stripesRegs_str (a : Nat) (s : State) : (stripesRegs a s).str = s.str := rfl

@[simp] theorem createArray_str (a : Nat) (s : State) : (createArray a s).str = s.str := by
  unfold createArray
  dsimp only
  rw [setArr_str, statusBits_str, soloDerive_str, relabel_str, State.each_str fun t m => mapGive_str a m t, stripesClear_str,
    stripesRegs_str, State.each_str fun t m => resvJoinGo_str _ t, arrFresh_str]
  rfl

@[simp] theorem disableArray_str (a : Nat) (old s : State) : (disableArray a old s).str = s.str := by
  unfold disableArray
  dsimp only
  rw [setArr_str, statusBits_str, stripesRegs_str, arrFresh_str, State.modArr_str, State.each_str fun t m => State.modDrive_str _ _ _,
    haltArray_str]

@[simp] theorem applySpare_str (k : Nat) (s : State) : (applySpare k s).str = s.str := by simp [applySpare, apply_ite State.str]

/-! ### What the parts of a new set do -/

theorem applySources_str (s t : State) : (applySources s t).str = t.str := by simp [applySources, tetToHold, apply_ite State.str]

theorem applyArrays_str (s t : State) : (applyArrays s t).str = t.str := by
  unfold applyArrays
  dsimp only
  rw [State.each_str fun t a => createArray_str a t, State.each_str fun t k => applySpare_str k t,
    State.each_str fun t a => disableArray_str a s t]

@[simp] theorem needSet_str (s : State) : (needSet s).str = s.str := State.wr_str _ _ _

@[simp] theorem layoutConfigured_str (s : State) : (layoutConfigured s).str = s.str := State.wr_str _ _ _

@[simp] theorem balDisarm_str (r : Nat) (s : State) : (balDisarm r s).str = s.str := by
  simp [balDisarm, wtServe, wtUpdate, apply_ite State.str]

theorem applyBasket_str (s t : State) : (applyBasket s t).str = t.str := by
  simp only [applyBasket, apply_ite State.str, balDisarm_str, needSet_str, layoutConfigured_str, ite_self]

@[simp] theorem pfcRegs_str (s : State) : (pfcRegs s).str = s.str := by
  unfold pfcRegs
  exact State.each_str (fun t p => (State.wr_str _ _ _).trans (State.wr_str _ _ _)) s _

@[simp] theorem aclSet_str (s : State) : (aclSet s).str = s.str := rfl

theorem applyFabric_str (s t : State) : (applyFabric s t).str = t.str := by
  unfold applyFabric
  dsimp only
  rw [apply_ite State.str, discChanged_str, ite_self, aclSet_str, pfcRegs_str]
  refine State.each_str (fun t p => ?_) t _
  split
  · rfl
  · rfl

theorem applyDrives_str (s t : State) : (applyDrives s t).str = t.str := by
  refine State.each_str (fun t p => State.each_str (fun t d => ?_) t _) t _
  split
  · split <;> rfl
  · split <;> rfl

theorem applyPair_str (s t : State) : (applyPair s t).str = t.str := by simp [applyPair, apply_ite State.str]

theorem dayEdited_str (s t : State) : (dayEdited s t).str = t.str := by simp [dayEdited, apply_ite State.str]

end Sys2Proof.Machine
end

section
/-! SUPPORT. A system generation at its APPLY_EPOCH: what the new set does leaves the publishing command that waits, which gets its reply
(R290). -/

namespace Sys2Proof.Machine

/-- The command that waits for its published set, and the generation that the Reel fetches, are the same in both states. -/
def SamePublishing (s t : State) : Prop := t.str.pub = s.str.pub ∧ t.str.fetch = s.str.fetch

theorem SamePublishing.trans {s t u : State} (h : SamePublishing s t) (h' : SamePublishing t u) : SamePublishing s u :=
  ⟨h'.1.trans h.1, h'.2.trans h.2⟩

theorem SamePublishing.of_str_eq {s t : State} {x : Str} (h : t.str = x) (hp : x.pub = s.str.pub) (hf : x.fetch = s.str.fetch) :
    SamePublishing s t := ⟨(congrArg Str.pub h).trans hp, (congrArg Str.fetch h).trans hf⟩

theorem SamePublishing.of_str {s t : State} (h : t.str = s.str) : SamePublishing s t := .of_str_eq h rfl rfl

/-! ### The String's own part of a new set -/

/-- Training sets when it began, and takes the links up anew. -/
theorem strTrain_samePublishing (s : State) : SamePublishing s (strTrain s) := by
  have hstr : (strTrain s).str =
      { s.str with bypassClosed := false, trainFrom := s.tet.epoch, firstUp := none, lastRx := s.tet.epoch } := by
    unfold strTrain
    dsimp only
    rw [State.each_str fun t p => State.wr_str _ _ _, State.wr_str, strGo_str]
  exact .of_str_eq hstr rfl rfl

@[simp] theorem strSendSeq_str (d ty q : Nat) (vs : List Nat) (s : State) : (strSendSeq d ty q vs s).str = s.str := by
  simp [strSendSeq, apply_ite State.str]

/-- A report that is sent changes the reports and the SEQs. -/
theorem reportNext_samePublishing (s : State) : SamePublishing s (reportNext s) := by
  unfold reportNext
  split
  · exact ⟨rfl, rfl⟩
  · split
    · exact ⟨rfl, rfl⟩
    · have hcount : ∀ t : State, SamePublishing t (strSeqUp 6 t) := fun _ => ⟨rfl, rfl⟩
      refine SamePublishing.trans ?_ (hcount _)
      exact .of_str_eq (strSendSeq_str _ _ _ _ _) rfl rfl

theorem strLeave_samePublishing (night : Bool) (s : State) : SamePublishing s (strLeave night s) := by
  unfold strLeave
  split
  · exact ⟨rfl, rfl⟩
  · split
    · exact reportNext_samePublishing _
    · exact ⟨rfl, rfl⟩

theorem applyString_samePublishing (s t : State) : SamePublishing t (applyString s t) := by
  have hlinks : ∀ (c : Prop) [Decidable c], (if c then
      t.each [0, 1] fun t p => if t.rd (portLink p) = 3 then t.wr (portLink p) 1 else t else t).str = t.str := by
    intro c _
    split
    · exact State.each_str (fun t p => by simp [apply_ite State.str]) t _
    · rfl
  have hb : ∀ u : State, SamePublishing u ((strGo sBypassed u).wr R.STG_STATUS_REFUSE 0) := fun u => .of_str (strGo_str _ u)
  unfold applyString
  dsimp only
  refine (SamePublishing.of_str (hlinks (changes s t 0xB00010 = true))).trans ?_
  generalize (if changes s t 0xB00010 = true then
      t.each [0, 1] fun t p => if t.rd (portLink p) = 3 then t.wr (portLink p) 1 else t else t) = u
  split
  · split
    · split
      · exact (hb u).trans (strTrain_samePublishing _)
      · exact hb u
    · exact ⟨rfl, rfl⟩
  · split
    · exact strTrain_samePublishing u
    · split
      · exact strLeave_samePublishing false u
      · exact ⟨rfl, rfl⟩

/-- A new set leaves the publishing command and the fetched generation. -/
theorem applyEffects_samePublishing (s t : State) : SamePublishing t (applyEffects s t) := by
  have hbefore : (applyDrives s (applyFabric s (applyBasket s (applyArrays s (applySources s t))))).str = t.str := by
    rw [applyDrives_str, applyFabric_str, applyBasket_str, applyArrays_str, applySources_str]
  refine (SamePublishing.of_str hbefore).trans ((applyString_samePublishing s _).trans (.of_str ?_))
  exact (dayEdited_str s _).trans (applyPair_str s _)

/-! ### The Reel's part -/

theorem distEnd_samePublishing (s : State) : SamePublishing s (distEnd s) := by
  unfold distEnd
  split
  · split <;> exact ⟨rfl, rfl⟩
  · exact ⟨rfl, rfl⟩

theorem dirReady_samePublishing (gen : Nat) (us : List Nat) (s : State) : SamePublishing s (dirReady gen us s) := by
  refine List.foldlRecOn (motive := fun t => SamePublishing s t) _ _ ⟨rfl, rfl⟩ fun t ht e _ => ht.trans ?_
  obtain ⟨seqs, h⟩ := dirChange_str { e with configGen := gen * 2 ^ 32 } t
  exact .of_str_eq h rfl rfl

/-- With no set fetched nothing follows on the Reel. -/
theorem fetchDone_of_none {s : State} (h : s.str.fetch = none) (gen : Nat) : fetchDone gen s = s := by
  rw [fetchDone, if_neg (by simp [h])]

/-- A reply changes neither Dawn's state nor the String. -/
theorem replyTo_dwn_str (h : MbxHdr) (op code d : Nat) (pl : List Nat) (s : State) :
    (replyTo h op code d pl s).dwn = s.dwn ∧ (replyTo h op code d pl s).str = s.str := by
  unfold replyTo
  split
  · exact ⟨rfl, rfl⟩
  · cases h.src with
    | mctp ep l => exact ⟨rfl, rfl⟩
    | bank b => by_cases hc : code = eOk <;> simp [hc]

/-- The publishing command that waits is answered once the measurements have changed; the generation and its cause stay. -/
theorem pubReply_ok {s : State} {h : MbxHdr} {g : Nat} (hp : s.str.pub = some (h, g)) (hr : h.resvBad = false) :
    Replied h 0x0109 eOk (pubReply eOk (measChanged s)) ∧ (pubReply eOk (measChanged s)).str.pub = none ∧
    (pubReply eOk (measChanged s)).dwn = s.dwn ∧
    (pubReply eOk (measChanged s)).rd R.STG_INT_STATUS_GEN_APPLIED = s.rd R.STG_INT_STATUS_GEN_APPLIED := by
  have hp' : (measChanged s).str.pub = some (h, g) := hp
  have hreply : pubReply eOk (measChanged s) = mbxOk h 0x0109 { measChanged s with str.pub := none } := by
    rw [pubReply, hp']
    rfl
  rw [hreply]
  refine ⟨replied_mbxOk hr _ _, congrArg Str.pub (replyTo_dwn_str h 0x0109 eOk 0 [] _).2, (replyTo_dwn_str h 0x0109 eOk 0 [] _).1, ?_⟩
  rw [mbxOk_rd _ _ _ (by decide) (by decide)]
  exact State.rd_raise_ne s (by decide) 1

/-! ### The boundary -/

/-- The Reel's state when a generation's APPLY_EPOCH has come: the offer is gone, the directory of the devices that were ready follows. -/
def offerTaken (o : Offer) (s : State) : State :=
  distEnd (dirReady o.gen (((s.str.dist.filter fun d => d.gen = o.gen).map (·.ready)).getD []) { s with str.offer := none })

/-- Generation `gen` is in force in a state that has its set. -/
def genMarked (gen : Nat) (s : State) : State :=
  ((shadowSystem (setGen (gen * 2 ^ 32) s)).wr R.STG_STATUS_GEN_BEHIND 0).raise R.STG_INT_STATUS_GEN_APPLIED

theorem sysBoundary_of_valid {s : State} {o : Offer} (ho : s.str.offer = some o) (he : o.applyEpoch ≤ s.tet.epoch) (hv : o.verdict = 1) :
    sysBoundary s = pubReply eOk (measChanged (fetchDone o.gen
      (genMarked o.gen (applyEffects (offerTaken o s) (withSystem o.items o.tables (offerTaken o s)))))) := by
  have hdue : ¬ (s.tet.epoch < o.applyEpoch ∨ o.verdict = 0) := by omega
  rw [sysBoundary, ho]
  dsimp only
  rw [if_neg hdue, if_neg (not_not_intro hv)]
  rfl

theorem offerTaken_samePublishing (o : Offer) (s : State) : SamePublishing s (offerTaken o s) :=
  SamePublishing.trans (t := { s with str.offer := none }) ⟨rfl, rfl⟩ ((dirReady_samePublishing _ _ _).trans (distEnd_samePublishing _))

/-- The shadow follows the active set's system scope; the generation and the String stay. -/
theorem shadowSystem_str_configGen (s : State) :
    (shadowSystem s).str = s.str ∧ (shadowSystem s).dwn.configGen = s.dwn.configGen := ⟨rfl, rfl⟩

theorem setGen_str (g : Nat) (s : State) : (setGen g s).str = s.str := by
  rw [setGen, State.wr_str, State.wr_str]

theorem genMarked_str (gen : Nat) (s : State) : (genMarked gen s).str = s.str := by
  rw [genMarked, State.raise_str, State.wr_str, (shadowSystem_str_configGen _).1, setGen_str]

theorem setGen_configGen (g : Nat) (s : State) : (setGen g s).dwn.configGen = g % 2 ^ 64 := by
  rw [setGen, State.wr_dwn, State.wr_dwn]

/-- The generation in force has bits [31:0] 0. -/
theorem genMarked_configGen {gen : Nat} (hgen : gen < 2 ^ 32) (s : State) : (genMarked gen s).dwn.configGen = gen * 2 ^ 32 := by
  have hlt : gen * 2 ^ 32 < 2 ^ 64 := by omega
  rw [genMarked, State.raise_dwn, State.wr_dwn, (shadowSystem_str_configGen _).2, setGen_configGen, Nat.mod_eq_of_lt hlt]

theorem genMarked_cause (gen : Nat) (s : State) : (genMarked gen s).rd R.STG_INT_STATUS_GEN_APPLIED = 1 :=
  (State.rd_raise_same _ _ _).trans (or_one_mod_two _)

/-- A valid generation that no fetch concerns comes into force, and the command that published it is answered. -/
theorem sysBoundary_replies {s : State} {o : Offer} {h : MbxHdr} {g : Nat} (ho : s.str.offer = some o) (he : o.applyEpoch ≤ s.tet.epoch)
    (hv : o.verdict = 1) (hgen : o.gen < 2 ^ 32) (hp : s.str.pub = some (h, g)) (hf : s.str.fetch = none) (hr : h.resvBad = false) :
    Replied h 0x0109 eOk (sysBoundary s) ∧ (sysBoundary s).str.pub = none ∧ (sysBoundary s).dwn.configGen = o.gen * 2 ^ 32 ∧
    (sysBoundary s).rd R.STG_INT_STATUS_GEN_APPLIED = 1 := by
  have hsame := (offerTaken_samePublishing o s).trans (applyEffects_samePublishing (offerTaken o s) (withSystem o.items o.tables _))
  rw [sysBoundary_of_valid ho he hv]
  generalize applyEffects (offerTaken o s) (withSystem o.items o.tables (offerTaken o s)) = t at hsame ⊢
  obtain ⟨hpub, hfetch⟩ := hsame
  have hstr := genMarked_str o.gen t
  rw [fetchDone_of_none (by rw [hstr, hfetch, hf])]
  obtain ⟨hreply, hnone, hdwn, hrd⟩ := pubReply_ok (s := genMarked o.gen t) (by rw [hstr, hpub, hp]) hr
  exact ⟨hreply, hnone, (congrArg Dwn.configGen hdwn).trans (genMarked_configGen hgen t), hrd.trans (genMarked_cause o.gen t)⟩

end Sys2Proof.Machine
end

section
/-! SUPPORT. Images and published sets: each command's chunks, its checks, its end (R288, R290, R327, R332). -/

namespace Sys2Proof.Machine

/-- A set that the Reel, in the state `v` in which the publishing command waits, can distribute is offered to itself and accepted. -/
theorem runs_distribution {c : Instr} {s v : State} {h : MbxHdr} {total : Nat} {img : Image}
    (hg : ∀ r, reelPublish total img.items img.tables v = (true, r) → Gives c s r) (hp : v.str.pub = some (h, sysGen s + 1))
    (hgen : sysGen v = sysGen s) (htet : v.tet = s.tet) (hd : v.str.dist = none) (hc : v.str.census = none)
    (hv : systemFail img.items img.tables v = none) :
    Runs c s fun t => t.str.pub = some (h, sysGen s + 1) ∧
      ∃ o, t.str.offer = some o ∧ o.gen = sysGen s + 1 ∧ o.verdict = 1 ∧ o.items = img.items ∧ o.applyEpoch = applyAt s.tet.epoch := by
  obtain ⟨hpub, hoffer⟩ := distStart_of_valid (Nat.lt_succ_self (sysGen v)) hv total (applyAt v.tet.epoch)
  exact ⟨_, hg _ (reelPublish_of_free hd hc total img.items img.tables), hpub.trans hp, _, hoffer, congrArg (· + 1) hgen, rfl, rfl,
    by rw [htet]⟩

/-- Settles O56, by the chunks of an upload, the end of a flash write, and the String's state being left alone by a new set. -/
theorem imagesGoToFlash : Obligations.ImagesGoToFlash := by
  unfold Obligations.ImagesGoToFlash
  refine ⟨?persist, ?image, ?publishFailed, ?publish, ?offered, ?boundary, ?command, ?commit, ?written, ?failed⟩
  case persist =>
    intro s h total off len img u hr hlen htot hact hu hl hf
    subst hu
    refine ⟨?first, fun hnext hlast => ⟨fun c hck => ?bad, fun hck hsame => ?good⟩⟩
    case first =>
      rintro rfl hlt
      exact gives_persist hr hact (by omega) hlen htot (persistGo_of_first hl hf hlt)
    case bad => exact gives_persist hr hact hlast.le hlen htot (persistGo_of_failed hl hf hnext hlast hck)
    case good =>
      have hg := gives_persist hr hact hlast.le hlen htot (persistGo_of_checked hl hf hnext hlast hck hsame)
      refine ⟨hg, ?_⟩
      obtain ⟨t, ht, w, hw, hslot, hdone, _, hreply⟩ := runs_flash_write hr rfl hg (oldHalf_lt _)
      exact ⟨t, ht, w, hw, hslot, hdone rfl, hreply⟩
  case image =>
    intro s h slot pref total len img u hr hlen hslot hpref htot hact hu hf hlast hck
    subst hu hlast
    have hg := gives_imageWrite hr hact (Nat.zero_add len).le hlen hslot hpref htot (imageWriteGo_of_checked hf hslot hck pref len h)
    refine ⟨hg, ?_⟩
    obtain ⟨t, ht, w, hw, himg, _, hpreferred, hreply⟩ := runs_flash_write hr rfl hg (by omega)
    exact ⟨t, ht, w, hw, himg, fun h1 => hpreferred (by omega), by rwa [if_neg (by omega)] at hreply⟩
  case publishFailed =>
    intro s h total len img u c hr hlen htot hact htime hu hst hpub hlast hck
    subst hu hlast
    exact gives_publish hr hact (Nat.zero_add len).le hlen htot htime (publishGo_of_failed hst hpub hck len)
  case publish =>
    intro s h total len img u r hr hlen htot hact htime hu hst hpub hlast hck hreel hgo
    subst hu hlast
    exact gives_publish hr hact (Nat.zero_add len).le hlen htot htime (publishGo_of_reel hst hpub hck hreel hgo)
  case offered =>
    intro s h total len img u hr hlen htot hact htime hu hst hpub hlast hck hreel hd hc hv
    subst hlast
    have hgen : sysGen u = sysGen s := by rw [sysGen, sysGen, hu, mbxTaken_dwn]
    refine runs_distribution (total := len) (v := { u with dwn.upload := none, str.pub := some (h, sysGen u + 1) }) (fun r hgo => ?_)
      (congrArg (fun g => some (h, g + 1)) hgen) hgen (hu ▸ mbxTaken_tet h 0x0109 s) hd hc hv
    subst hu
    exact gives_publish hr hact (Nat.zero_add len).le hlen htot htime (publishGo_of_reel hst hpub hck hreel hgo)
  case boundary =>
    intro s o h g u t ho he hv hgen hu ht hp hf hr
    obtain ⟨hpub, hfetch⟩ := (SamePublishing.trans (s := s) (t := { s with str.offer := none }) ⟨rfl, rfl⟩
      (hu ▸ distEnd_samePublishing { s with str.offer := none })).trans (applyEffects_samePublishing u (withSystem o.items o.tables u))
    rw [← ht] at hpub hfetch
    exact sysBoundary_replies ho he hv hgen (hpub ▸ hp) (hfetch ▸ hf) hr
  case command =>
    exact fun s p ok ha hop => .of_live_eq (exec_flashWriteComplete ok s) ha (by rw [flashWriteEnd_of_command hop])
  case commit =>
    exact fun s w ws ok ha hop hws => .of_live_eq (exec_flashWriteComplete ok s) ha (by rw [flashWriteEnd_of_commit hop hws])
  case written =>
    exact fun s h img k hk => ⟨flashEnd_slotImg hk 0 h img s, flashEnd_persistDone h img k s⟩
  case failed =>
    exact fun s h img k hr => mem_mbxErr hr 0x0107 eInternal _

end Sys2Proof.Machine
end

section
/-! SUPPORT. The interrupt aggregation: what its stage leaves on each link, and that every command ends in it (R383, R384). -/

namespace Sys2Proof.Machine

/-! ### What the stage leaves on a link -/

theorem mem_insNat {v n : Nat} {l : List Nat} : v ∈ insNat n l ↔ v = n ∨ v ∈ l := by
  induction l with
  | nil => simp [insNat]
  | cons x xs ih =>
    unfold insNat
    split
    · simp
    · split
      · next h => subst h; simp
      · simp only [List.mem_cons, ih]; exact or_left_comm

theorem mem_foldl_insNat {v : Nat} (vs : List Nat) {l : List Nat} (h : v ∈ vs.foldl (fun a x => insNat x a) l) : v ∈ l ∨ v ∈ vs := by
  induction vs generalizing l with
  | nil => exact .inl h
  | cons x xs ih =>
    rcases ih h with h | h
    · rcases mem_insNat.mp h with rfl | h
      · exact .inr (by simp)
      · exact .inl h
    · exact .inr (List.mem_cons_of_mem _ h)

/-- The vectors that a W1C write sends again have level 1. -/
theorem mem_levels_of_mem_kickVecs {s : State} {link v : Nat} {levels : List Nat} (h : v ∈ kickVecs s link levels) : v ∈ levels := by
  unfold kickVecs at h
  refine List.foldlRecOn (motive := fun l => v ∈ l → v ∈ levels) _ _ (fun h => absurd h List.not_mem_nil) (fun l ih n _ hv => ?_) h
  split at hv
  · next hc =>
    rcases mem_insNat.mp hv with rfl | hv
    · simpa using hc
    · exact ih hv
  · exact ih hv

/-- A vector that the stage leaves pending is one of those whose level is 1 now (R384). -/
theorem settleLink_settled (s : State) (out : List OutEv) (link : Nat) (l : HLink) : HLink.settled s link (settleLink s out link l).1 := by
  have hpend {v : Nat} (h : v ∈ l.pend.filter fun v => (vecLevels s link).contains v) : v ∈ vecLevels s link := by
    simpa using (List.mem_filter.mp h).2
  have hsend {v : Nat} (h : v ∈ (kickVecs s link (vecLevels s link)).foldl (fun a v => insNat v a)
      ((vecLevels s link).filter fun v => ¬ l.levels.contains v)) : v ∈ vecLevels s link :=
    (mem_foldl_insNat _ h).elim (fun h => (List.mem_filter.mp h).1) mem_levels_of_mem_kickVecs
  unfold settleLink
  dsimp only
  split
  · exact ⟨rfl, fun v hv => (mem_foldl_insNat _ hv).elim hpend fun h => hsend (List.mem_filter.mp h).1⟩
  · exact ⟨rfl, fun v hv => hpend hv⟩

theorem settleLinks_settled (s : State) {ls : List HLink} {k i : Nat} {out : List OutEv} {l : HLink}
    (h : (settleLinks s ls k out).1[i]? = some l) : HLink.settled s (k + i) l := by
  induction ls generalizing k i out with
  | nil => exact nomatch h
  | cons x xs ih =>
    cases i with
    | zero => exact Option.some.inj h ▸ settleLink_settled s out k x
    | succ i => exact Nat.add_right_comm k 1 i ▸ ih h

/-- The levels are read from the registers alone, which the stage does not change. -/
theorem settle_settled (s : State) : Settled (settle s) := by
  refine ⟨rfl, fun i l h => ?_⟩
  have := settleLinks_settled s h
  rwa [Nat.zero_add] at this

/-! ### Every command ends in the stage -/

theorem exec_jtagInstruction_powered {s : State} (h : s.pwr.powered = true) (i : JtagIns) :
    exec (.jtagInstruction i) s = fin (doJtag i s) := if_neg (not_not_intro h)

theorem exec_jtagInstruction_off {s : State} (h : s.pwr.powered = false) (i : JtagIns) : exec (.jtagInstruction i) s = fin s :=
  if_pos (by simp [h])

/-- An outcome that is a next state is one that the aggregation stage has left. -/
def EndsSettled (o : Out) : Prop := ∀ t, o = .next t → Settled t

theorem endsSettled_fin (s : State) : EndsSettled (fin s) := fun _ h => Host.Outcome.next.inj h ▸ settle_settled s

theorem endsSettled_fault (f : Fault) : EndsSettled (.fault f) := fun _ => by simp

/-- All commands end in `live` or `fin`; POWER_ON beyond the ratings faults (R400). -/
theorem exec_endsSettled (c : Instr) (s : State) : EndsSettled (exec c s) := by
  cases c with
  | powerOn beyond straps =>
    cases beyond
    · exact endsSettled_fin _
    · exact endsSettled_fault _
  | jtagInstruction i =>
    by_cases hp : s.pwr.powered = true
    · rw [exec_jtagInstruction_powered hp]; exact endsSettled_fin _
    · rw [exec_jtagInstruction_off (by simpa using hp)]; exact endsSettled_fin _
  | _ => exact endsSettled_fin _

/-- Settles O3: an idle step changes nothing, and every command ends in the aggregation stage. -/
theorem everyStepKeepsTheAggregationSettled : Obligations.EveryStepKeepsTheAggregationSettled := by
  unfold Obligations.EveryStepKeepsTheAggregationSettled
  intro s t hs hstep
  unfold step at hstep
  split at hstep
  · exact Host.Outcome.next.inj hstep ▸ hs
  · exact exec_endsSettled _ _ t hstep

end Sys2Proof.Machine
end

section
/-! SUPPORT. The queue of waiting commands, CLR_ERR of each block, and the test port (R379, R416, R9; log entries 1, 2, 66 and 67). -/

namespace Sys2Proof.Machine

/-! ### A device that takes part in nothing -/

/-- A command whose meaning is `live s t` changes nothing while the device takes part in nothing (R358, R371). -/
theorem Gives.of_live_off {c : Instr} {s t : State} (e : exec c s = live s t) (h : deviceOff s = true) : Gives c s s :=
  e.trans (live_off h t)

/-- Settles O1: a step is its definition's equation, and each command named is one that `live` guards. -/
theorem stepRunsTheFrontCommand : Obligations.StepRunsTheFrontCommand := by
  unfold Obligations.StepRunsTheFrontCommand
  refine ⟨fun c s rest => rfl, fun s h => ?_, fun s off => ?_⟩
  · unfold step; rw [h]
  · exact ⟨fun _ _ _ _ => .of_live_off rfl off, fun _ _ => .of_live_off rfl off, fun _ => .of_live_off rfl off, .of_live_off rfl off,
      .of_live_off rfl off, fun _ _ => .of_live_off rfl off, fun _ => .of_live_off rfl off⟩

/-! ### CLR_ERR -/

/-- A register write touches one field, and no store or work of the device. -/
theorem wr_frame (s : State) (f : Fld) (v : Nat) : RegsBut [f] s (s.wr f v) ∧ SameStores s (s.wr f v) ∧ SameWork s (s.wr f v) :=
  ⟨(RegsBut.refl [f] s).wr (List.mem_singleton_self f) v, ⟨rfl, rfl, rfl, rfl, rfl⟩, ⟨rfl, rfl, rfl, rfl⟩⟩

theorem exec_mbxClrErr {link : Nat} (h : link < 4) (s : State) :
    exec (.mbxClrErr link) s = live s (s.wr (R.MBX_STATUS_LAST_ERR link) 0) :=
  congrArg (live s) (if_pos h)

/-- Settles O29: each CLR_ERR is one register write, and a register write leaves everything else. -/
theorem clrErrClearsLastErr : Obligations.ClrErrClearsLastErr := by
  unfold Obligations.ClrErrClearsLastErr
  intro s a
  exact ⟨.of_live rfl a, .of_live rfl a, .of_live rfl a, .of_live rfl a, .of_live rfl a, .of_live rfl a, .of_live rfl a, .of_live rfl a,
    .of_live rfl a, .of_live rfl a, .of_live rfl a, .of_live rfl a, .of_live rfl a, .of_live rfl a, .of_live rfl a, .of_live rfl a,
    .of_live rfl a, .of_live rfl a, fun link h => .of_live (exec_mbxClrErr h s) a, wr_frame s⟩

/-! ### The test port -/

theorem gives_jtag {s : State} (h : s.pwr.powered = true) {i : JtagIns} {t : State} (e : doJtag i s = t) : Gives (.jtagInstruction i) s t :=
  .of_fin_eq (exec_jtagInstruction_powered h i) e

/-- Settles O51: each instruction is one branch of the test logic, which works while the device has power. -/
theorem testPortTakesItsInstructions : Obligations.TestPortTakesItsInstructions := by
  unfold Obligations.TestPortTakesItsInstructions
  refine ⟨fun s h => ?_, fun s i h => exec_jtagInstruction_off h i⟩
  exact ⟨gives_jtag h rfl, gives_jtag h rfl, gives_jtag h rfl, gives_jtag h rfl, gives_jtag h rfl, fun _ => gives_jtag h rfl, gives_jtag h rfl,
    fun _ => gives_jtag h rfl⟩

end Sys2Proof.Machine
end

section
/-! SUPPORT. Replies of the mailbox and the order of its checks (R386, R388, R389, R391, R392, R394). -/

namespace Sys2Proof.Machine

/-! ### Replies -/

/-- A byte of a buffer that has been written. -/
theorem SMap.get_write_inside {α : Type} [DecidableEq α] (d : α) : ∀ {k i : Nat} {vs : List α} (m : SMap α), i < vs.length →
    SMap.get d (k + i) (SMap.write d k vs m) = vs.getD i d
  | k, 0, v :: vs, m, _ => by
    rw [SMap.write, Nat.add_zero, SMap.get_write_outside d _ (.inl (Nat.lt_succ_self k)), SMap.get_set_same]; rfl
  | k, i + 1, v :: vs, m, h => by
    rw [SMap.write, Nat.add_left_comm, Nat.add_comm i, SMap.get_write_inside d _ (Nat.lt_of_succ_lt_succ h)]; rfl

/-- The fields of a bank that a reply writes. -/
theorem bank_reply_keys_nodup (b : Nat) : ([R.MBX_STATUS_BUSY b, R.MBX_STATUS_DONE b, R.MBX_STATUS_LAST_CODE b, R.MBX_INT_STATUS_DONE b,
    R.MBX_INT_STATUS_FAILED b].map Fld.key).Nodup := by
  simp [Fld.key, R.MBX_STATUS_BUSY, R.MBX_STATUS_DONE, R.MBX_STATUS_LAST_CODE, R.MBX_INT_STATUS_DONE, R.MBX_INT_STATUS_FAILED]
  omega

/-- A reply without a reader is none (R386). -/
theorem mbxReply_of_resvBad {h : MbxHdr} (hr : h.resvBad = true) (op code d : Nat) (p : List Nat) (s : State) :
    (mbxReply h op code d p s).out = s.out ∧ (mbxReply h op code d p s).regs = s.regs := by
  simp [mbxReply, replyTo, hr]

/-- A reply to an MCTP endpoint is a message alone. -/
theorem replyTo_mctp {h : MbxHdr} {e l : Nat} (hs : h.src = .mctp e l) (hr : h.resvBad = false) (op code d : Nat) (p : List Nat) (s : State) :
    replyTo h op code d p s = s.emit (.reply (.mctp e l) op code h.tag d p) := by
  simp [replyTo, hs, hr]

section
variable {h : MbxHdr} {b : Nat} (hs : h.src = .bank b) (hr : h.resvBad = false) (op code d : Nat) (p : List Nat) (s : State)
include hs hr

/-- What a reply writes in the registers of its sender's bank. -/
theorem replyTo_bank_rd (hc : code < 256) :
    (replyTo h op code d p s).rd (R.MBX_STATUS_BUSY b) = 0 ∧ (replyTo h op code d p s).rd (R.MBX_STATUS_DONE b) = 1 ∧
    (replyTo h op code d p s).rd (R.MBX_STATUS_LAST_CODE b) = code ∧ (replyTo h op code d p s).rd (R.MBX_INT_STATUS_DONE b) = 1 ∧
    (code ≠ eOk → (replyTo h op code d p s).rd (R.MBX_INT_STATUS_FAILED b) = 1) := by
  have hk := bank_reply_keys_nodup b
  simp only [List.map_cons, List.map_nil, List.nodup_cons, List.mem_cons, List.not_mem_nil, or_false, not_or] at hk
  by_cases he : code = eOk
  · simp [replyTo, hs, hr, he, State.rd_raise_ne, State.rd_wr_ne, hk]; decide
  · simp [replyTo, hs, hr, he, State.rd_raise_ne, State.rd_wr_ne, hk]; omega

/-- A reply to a bank goes to its buffer, and to the outside under its name. -/
theorem replyTo_bank_rep : (replyTo h op code d p s).mbx.rep = SMap.write 0 (b * mbxBuf) (replyBytes op code h.tag d p) s.mbx.rep ∧
    OutEv.reply (.bank b) op code h.tag d p ∈ (replyTo h op code d p s).out := by
  by_cases he : code = eOk <;> simp [replyTo, hs, hr, he]

end

/-- A reply changes no array, namespace or command, nor the journal, the Basket and the Gondola. -/
theorem replyTo_work (h : MbxHdr) (op code d : Nat) (p : List Nat) (s : State) :
    SameWork s (replyTo h op code d p s) ∧ (replyTo h op code d p s).bsk = s.bsk ∧ (replyTo h op code d p s).nv = s.nv := by
  unfold replyTo
  split
  · exact ⟨⟨rfl, rfl, rfl, rfl⟩, rfl, rfl⟩
  · cases h.src with
    | mctp e l => exact ⟨⟨rfl, rfl, rfl, rfl⟩, rfl, rfl⟩
    | bank b => by_cases he : code = eOk <;> simp [he, SameWork]

/-- Settles O52: a reply is the end of `mbxReply`, which before it frees the command's place and nothing else. -/
theorem mailboxRepliesToItsSender : Obligations.MailboxRepliesToItsSender := by
  unfold Obligations.MailboxRepliesToItsSender
  refine ⟨?bank, ?mctp, ?none⟩
  case bank =>
    rintro s h b op code d p hs hr hc t rfl
    obtain ⟨hbusy, hdone, hcode, hcause, hfailed⟩ := replyTo_bank_rd hs hr op code d p _ hc
    obtain ⟨hrep, hout⟩ := replyTo_bank_rep hs hr op code d p _
    obtain ⟨hwork, hbsk, hnv⟩ := replyTo_work h op code d p _
    refine ⟨hbusy, hdone, hcode, hcause, hfailed, hout, fun i hi => ?_, fun k hk => ?_,
      fun f ho hl => replyTo_rd h op code d p _ ho hl, hwork, hbsk, hnv⟩
    · exact (congrArg _ hrep).trans (SMap.get_write_inside 0 _ hi)
    · exact (congrArg _ hrep).trans (SMap.get_write_outside 0 _ hk)
  case mctp =>
    rintro s h e l op code d p hs hr t rfl
    rw [mbxReply, replyTo_mctp hs hr]
    exact ⟨List.mem_cons_self, rfl, rfl⟩
  case none => exact fun s h op code d p hr => mbxReply_of_resvBad hr op code d p s

/-! ### The order of the checks -/

section
variable {h : MbxHdr} {m : MbxSpec} {s : State} (act : MbxHdr → State → State)

theorem mbxRunCmd_length (hl : 4080 < h.len ∨ m.lenOk = false) :
    mbxRunCmd h m act s = mbxErr { h with resvBad := false } m.op eRange s := by
  rw [mbxRunCmd, if_pos (by simpa using hl)]

variable (hl : h.len ≤ 4080) (hm : m.lenOk = true)
include hl hm

theorem mbxRunCmd_field (hf : h.resvBad = true ∨ m.fieldBad = true) :
    mbxRunCmd h m act s = mbxErr { h with resvBad := false } m.op eField s := by
  rw [mbxRunCmd, if_neg (by simp [hl, hm]), if_pos hf]

variable (hr : h.resvBad = false) (hf : m.fieldBad = false)
include hr hf

theorem mbxRunCmd_range (hb : m.rangeBad = true) : mbxRunCmd h m act s = mbxErr { h with resvBad := false } m.op eRange s := by
  rw [mbxRunCmd, if_neg (by simp [hl, hm]), if_neg (by simp [hr, hf]), if_pos hb]

variable (hb : m.rangeBad = false)
include hb

theorem mbxRunCmd_time (ht : m.time = true) (hs : timeShared s = false) :
    mbxRunCmd h m act s = mbxErr { h with resvBad := false } m.op eTime s := by
  rw [mbxRunCmd, if_neg (by simp [hl, hm]), if_neg (by simp [hr, hf]), if_neg (by simp [hb]), if_pos (by simp [ht, hs])]

variable (ht : m.time = true → timeShared s = true)
include ht

/-- A token that fails is used up all the same (R335). -/
theorem mbxRunCmd_token {t : Token} (hk : m.tok = some t) (hbad : tokenOk s m.op t = false) :
    mbxRunCmd h m act s = mbxErr { h with resvBad := false } m.op eAuth (State.raise { s with dwn.nonce := none } R.SEC_INT_STATUS_AUTH_FAIL) := by
  rw [mbxRunCmd, if_neg (by simp [hl, hm]), if_neg (by simp [hr, hf]), if_neg (by simp [hb]), if_neg (by simpa using ht)]
  simp [hk, tokenUse, hbad]

/-- A command that has used its token, or carries none, goes on in a state without the nonce, or in its own. -/
theorem mbxRunCmd_authorized {u : State} (hu : u = match m.tok with | none => s | some _ => { s with dwn.nonce := none })
    (hk : ∀ t, m.tok = some t → tokenOk s m.op t = true) :
    mbxRunCmd h m act s = if mbxRestricted s ∧ ¬ m.safe then mbxErr { h with resvBad := false } m.op eState u
      else if claimed m.op ∧ notActive s then mbxErr { h with resvBad := false } m.op eClaim u else act { h with resvBad := false } u := by
  rw [mbxRunCmd, if_neg (by simp [hl, hm]), if_neg (by simp [hr, hf]), if_neg (by simp [hb]), if_neg (by simpa using ht)]
  subst hu
  cases htok : m.tok with
  | none => exact if_neg (by simp)
  | some t => simp only [tokenUse, hk t htok, not_true_eq_false, if_false, if_true]; rfl

end

/-- Settles O53: each check is one branch of `mbxRunCmd`, whose earlier branches the hypotheses exclude. -/
theorem mailboxChecksInOrder : Obligations.MailboxChecksInOrder := by
  unfold Obligations.MailboxChecksInOrder
  rintro s h m act _ rfl
  refine ⟨mbxRunCmd_length act, mbxRunCmd_field act, fun hl hm hr hf => ⟨mbxRunCmd_range act hl hm hr hf, fun hb =>
    ⟨mbxRunCmd_time act hl hm hr hf hb, fun ht => ⟨fun t => mbxRunCmd_token act hl hm hr hf hb ht, fun u hu hk => ?_⟩⟩⟩⟩
  rw [mbxRunCmd_authorized act hl hm hr hf hb ht hu hk]
  refine ⟨fun hres hsafe => if_pos (by simp [hres, hsafe]), fun hsafe => ?_⟩
  rw [if_neg (by simpa using hsafe)]
  exact ⟨fun hc hn => if_pos ⟨hc, hn⟩, fun hn => if_neg (by simpa using hn)⟩

end Sys2Proof.Machine
end

section
/-! SUPPORT. SPDM: what an answer sends and counts, and the answer of each request (R338, R339; log entry 62). -/

namespace Sys2Proof.Machine

/-- No answer goes to a bank. -/
theorem spdmAnswer_bank {r : SpdmReq} {b : Nat} (h : r.src = .bank b) (res : Nat × List Nat) (s : State) : spdmAnswer r res s = s := by
  rw [spdmAnswer, h]

/-- Before the end of DAWN_S05 nothing answers. -/
theorem spdmAnswer_early {s : State} (h : s.dwn.step < 6) (r : SpdmReq) (res : Nat × List Nat) : spdmAnswer r res s = s := by
  unfold spdmAnswer
  split
  · rfl
  · exact if_pos h

section
variable {r : SpdmReq} {e l : Nat} {s : State} (hr : r.src = .mctp e l) (hs : 6 ≤ s.dwn.step) (hv : r.verOk = true)
include hr hs hv

/-- A request of the version that is spoken is counted and answered, and an error is counted as well. -/
theorem spdmAnswer_mctp (code : Nat) (body : List Nat) : spdmAnswer r (code, body) s =
    if code = 0x7F then ((s.incSat R.SEC_SPDM_REQUESTS).emit (.spdm r.src code body)).incSat R.SEC_SPDM_ERRORS
    else (s.incSat R.SEC_SPDM_REQUESTS).emit (.spdm r.src code body) := by
  simp [spdmAnswer, hr, hv, Nat.not_lt.2 hs]

theorem spdmAnswer_out (code : Nat) (body : List Nat) : OutEv.spdm r.src code body ∈ (spdmAnswer r (code, body) s).out := by
  rw [spdmAnswer_mctp hr hs hv]
  split
  · exact List.mem_cons_self
  · exact List.mem_cons_self

theorem spdmAnswer_requests (code : Nat) (body : List Nat) :
    (spdmAnswer r (code, body) s).rd R.SEC_SPDM_REQUESTS = (s.incSat R.SEC_SPDM_REQUESTS).rd R.SEC_SPDM_REQUESTS := by
  rw [spdmAnswer_mctp hr hs hv]
  split
  · rw [State.rd_incSat_ne _ (by decide), State.rd_emit]
  · rfl

end

/-- Free values used up after an answer leave what it sent. -/
theorem spdmFree_out (r : SpdmReq) (n : Nat) (s : State) : (spdmFree r n s).out = s.out := by
  unfold spdmFree
  split
  · rfl
  · split
    · rfl
    · rfl

theorem doGetCertificate_slot0 {s : State} {off : Nat} (h : off ≤ s.nv.certChain.length) (r : SpdmReq) (len : Nat) :
    doGetCertificate r 0 off len s = spdmAnswer r (0x02, [((s.nv.certChain.drop off).take len).length,
      s.nv.certChain.length - off - ((s.nv.certChain.drop off).take len).length] ++ (s.nv.certChain.drop off).take len) s :=
  if_neg (by omega)

theorem doGetCertificate_slot {slot : Nat} (h : slot ≠ 0) (r : SpdmReq) (off len : Nat) (s : State) :
    doGetCertificate r slot off len s = spdmAnswer r (0x7F, [spdmInvalid, 0]) s :=
  if_pos (.inl h)

theorem doGetMeasurements_one {k : Nat} (h1 : 1 ≤ k) (h7 : k ≤ 7) (r : SpdmReq) (s : State) :
    doGetMeasurements r k false s = spdmFree r 1 (spdmAnswer r (0x60, 1 :: measBlock s k ++ [freeAt s 0 256]) s) := by
  unfold doGetMeasurements
  dsimp only
  rw [if_neg (by omega), if_neg (by omega), if_pos h7]
  rfl

/-- Settles O46: what an answer sends and counts, and each request's answer by its branch. -/
theorem spdmRequestsAreAnswered : Obligations.SpdmRequestsAreAnswered := by
  unfold Obligations.SpdmRequestsAreAnswered
  refine ⟨?answer, ?requests, fun s r res b h => spdmAnswer_bank h res s, fun s r res h => spdmAnswer_early h r res⟩
  case answer =>
    rintro s r e l code body hr hs hv t rfl
    exact ⟨spdmAnswer_out hr hs hv code body, spdmAnswer_requests hr hs hv code body,
      fun h => (spdmAnswer_mctp hr hs hv code body).trans (if_neg h), fun h => (spdmAnswer_mctp hr hs hv code body).trans (if_pos h)⟩
  case requests =>
    intro s r e l a hr hs hv
    refine ⟨.of_live rfl a, .of_live rfl a, .of_live rfl a, .of_live rfl a, ?cert, ?slot, ?challenge, ?meas, .of_live rfl a, fun _ => .of_live rfl a⟩
    case cert =>
      rintro off len hoff p rfl
      exact .of_live_eq rfl a (doGetCertificate_slot0 hoff r len)
    case slot => exact fun slot off len h => .of_live_eq rfl a (doGetCertificate_slot h r off len s)
    case challenge =>
      exact .of_live rfl a ⟨_, _, settle_mem ((spdmFree_out r 2 _).symm ▸ spdmAnswer_out hr hs hv _ _)⟩
    case meas =>
      intro k h1 h7
      refine .of_live (t := doGetMeasurements r k false s) rfl a ⟨freeAt s 0 256, settle_mem ?_⟩
      rw [doGetMeasurements_one h1 h7, spdmFree_out]
      exact spdmAnswer_out hr hs hv _ _

end Sys2Proof.Machine
end

section
/-! SUPPORT. The recorder: words of the store, what an event and a commit do, the queue (R345 to R347, R349 to R351; log entry 65). -/

namespace Sys2Proof.Machine

/-! ### The commit word -/

theorem wskGet_wskSet_ne {w w' : Nat} (h : w' ≠ w) (v : Nat) (s : State) : wskGet (wskSet w v s) w' = wskGet s w' := by
  simp only [wskGet, wskSet, SMap.get_set_ne 0 h]

/-- A rewrite of REPEAT leaves NEXT_SEQ: no record lies in the header. -/
theorem wskNext_recRepeat (r : WStage) (s : State) : wskNext (recRepeat r s) = wskNext s := by
  have hne : wskHdr + 1 ≠ unitWord r.unit + 1 := by simp only [wskHdr, unitWord]; omega
  exact congrArg (· % 2 ^ 32) (wskGet_wskSet_ne hne _ s)

/-! ### Events -/

/-- An event that matches the staged record counts up its REPEAT (R350). -/
theorem wskTake_of_staged {s : State} {e : WEv} {r : WStage} (h : s.wsk.staged = some r) (hm : recMatches e r = true) (hc : r.count < 65535) :
    wskTake e s = { recRepeat { r with count := r.count + 1 } s with wsk.staged := some { r with count := r.count + 1 } } := by
  have hs : (recRepeat { r with count := r.count + 1 } s).wsk.staged.isSome = true := congrArg Option.isSome h
  simp only [wskTake, h, hm, hc, hs, if_true]

/-- An event that does not match the last record opens its own. -/
theorem wskTake_of_last {s : State} {e : WEv} {r : WStage} (h : s.wsk.staged = none) (hl : s.wsk.last = some r)
    (hm : recMatches e r = false) : wskTake e s = recOpen e.code e.source 0 e.epoch e.payload s := by
  simp only [wskTake, h, hl, hm, Bool.false_eq_true, if_false]

section
variable {s : State} (hd : s.pwr.dumping = false) (code src : Nat) (p : List Nat)
include hd

theorem event_queue (h : s.wsk.queue.length < wskQueueMax) :
    (s.event code src p).wsk.queue = s.wsk.queue ++ [⟨code, src, p, s.tet.epoch⟩] := by
  simp [State.event, hd, h]

/-- With the queue full the producer waits. -/
theorem event_of_full (h : wskQueueMax ≤ s.wsk.queue.length) : s.event code src p =
    State.raise { s with wsk.blocked := s.wsk.blocked ++ [⟨code, src, p, s.tet.epoch⟩] } R.WSK_INT_STATUS_QUEUE_WAIT := by
  simp [State.event, hd, Nat.not_lt.2 h]

end

/-! ### The rows of the recorder -/

theorem doGaugeStoreWrite_due {s : State} (h : s.tet.epoch % 16 = 0) (hc : s.wsk.clearing = none) : doGaugeStoreWrite s = gaugeStore s :=
  if_pos ⟨h, by rw [hc]; rfl⟩

theorem doGaugeStoreWrite_early {s : State} (h : s.tet.epoch % 16 ≠ 0) : doGaugeStoreWrite s = s := if_neg fun hc => h hc.1

theorem doWskEvent_of_queue {s : State} {e : WEv} {q : List WEv} (h : s.wsk.queue = e :: q) :
    doWskEvent s = if wskCanTake s e then wskTake e { s with wsk.queue := q } else s := by
  rw [doWskEvent, h]

theorem doWskQueueRoom_of_blocked {s : State} {e : WEv} {q : List WEv} (h : s.wsk.blocked = e :: q) (hr : s.wsk.queue.length < wskQueueMax) :
    doWskQueueRoom s = State.wr { s with wsk.queue := s.wsk.queue ++ [e], wsk.blocked := q } R.WSK_QUEUE_PEAK
      (max (s.rd R.WSK_QUEUE_PEAK) (s.wsk.queue.length + 1)) := by
  rw [doWskQueueRoom, h]
  dsimp only
  rw [if_pos hr, List.length_append]
  rfl

/-! ### Commits -/

/-- Where the newest code is remembered touches neither the records nor the registers. -/
theorem wskWorst_frame (code seq : Nat) (s : State) : (wskWorst code seq s).wsk.staged = s.wsk.staged ∧
    (wskWorst code seq s).wsk.last = s.wsk.last ∧ (wskWorst code seq s).regs = s.regs := by
  unfold wskWorst
  split
  · exact ⟨rfl, rfl, rfl⟩
  · split
    · exact ⟨rfl, rfl, rfl⟩
    · exact ⟨rfl, rfl, rfl⟩

theorem wskCommit_wsk (n h t : Nat) (s : State) : (wskCommit n h t s).wsk.staged = s.wsk.staged ∧ (wskCommit n h t s).wsk.last = s.wsk.last := by
  simp [wskCommit, wskRegs, wskSet]

/-- The last number that has committed, and its cause. -/
def recNumbered (seq : Nat) (s : State) : State := (s.wr R.WSK_LAST_SEQ_SEQ seq).raise R.WSK_INT_STATUS_RECORD

theorem recNumbered_spec (seq : Nat) (s : State) : (recNumbered seq s).wsk = s.wsk ∧
    (recNumbered seq s).rd R.WSK_LAST_SEQ_SEQ = seq % 2 ^ 32 ∧ (recNumbered seq s).rd R.WSK_INT_STATUS_RECORD = 1 := by
  refine ⟨rfl, ?_, ?_⟩
  · rw [recNumbered, State.rd_raise_ne _ (by decide), State.rd_wr_same, R.WSK_LAST_SEQ_SEQ_w]
  · rw [recNumbered, State.rd_raise_same]; exact or_one_mod_two _

/-- A commit: the commit word, the number, then the cause of an error, the summary that is due, the worst code. -/
theorem recCommit_eq (r : WStage) (s : State) : ∃ c u n b, c.wsk.staged = none ∧ c.wsk.last = some r ∧
    (u = recNumbered (wskNext s) c ∨ u = (recNumbered (wskNext s) c).raise R.WSK_INT_STATUS_ERROR_RECORD) ∧
    recCommit r s = wskWorst r.code (wskNext s) { u with str.newRecs := n, str.summaryBy := b } := by
  let v : State := { s with wsk.staged := none, wsk.last := some r }
  have ⟨hstaged, hlast⟩ := wskCommit_wsk (wskNext s + 1) (wskHead v + r.units) (wskTail v) v
  refine ⟨wskCommit (wskNext s + 1) (wskHead v + r.units) (wskTail v) v, if r.code / 2 ^ 14 = 3 then _ else _, _, _, hstaged, hlast, ?_, rfl⟩
  split
  · exact .inr rfl
  · exact .inl rfl

/-- A record that commits is the last one, and its number is the NEXT_SEQ that it found (R347, R351). -/
theorem recCommit_spec (r : WStage) (s : State) : (recCommit r s).wsk.staged = none ∧ (recCommit r s).wsk.last = some r ∧
    (recCommit r s).rd R.WSK_LAST_SEQ_SEQ = wskNext s % 2 ^ 32 ∧ (recCommit r s).rd R.WSK_INT_STATUS_RECORD = 1 := by
  obtain ⟨c, u, n, b, hs, hl, hu, he⟩ := recCommit_eq r s
  obtain ⟨hstaged, hlast, hregs⟩ := wskWorst_frame r.code (wskNext s) { u with str.newRecs := n, str.summaryBy := b }
  rw [he, hstaged, hlast, State.rd_congr (t := wskWorst _ _ _) (s := u) hregs, State.rd_congr (t := wskWorst _ _ _) (s := u) hregs]
  obtain ⟨hwsk, hseq, hrec⟩ := recNumbered_spec (wskNext s) c
  obtain rfl | rfl := hu
  · exact ⟨hwsk ▸ hs, hwsk ▸ hl, hseq, hrec⟩
  · exact ⟨hwsk ▸ hs, hwsk ▸ hl, (State.rd_raise_ne _ (by decide) 1).trans hseq, (State.rd_raise_ne _ (by decide) 1).trans hrec⟩

/-- Settles O49: each row is one branch of its command, an event by the record it meets, a commit by what it writes. -/
theorem windsockRecordsInOrder : Obligations.WindsockRecordsInOrder := by
  unfold Obligations.WindsockRecordsInOrder
  refine ⟨fun s a h hc => .of_live_eq rfl a (doGaugeStoreWrite_due h hc), fun s a h => .of_live_eq rfl a (doGaugeStoreWrite_early h),
    fun s e q a hq ht => .of_live_eq rfl a ((doWskEvent_of_queue hq).trans (if_pos ht)),
    fun s e q a hq ht => .of_live_eq rfl a ((doWskEvent_of_queue hq).trans (if_neg (by simp [ht]))),
    fun s e q a hb hr => .of_live_eq rfl a (doWskQueueRoom_of_blocked hb hr), fun s e r hs hm hc => ⟨_, wskTake_of_staged hs hm hc, rfl, ?_⟩,
    fun s e r hs hl hm => wskTake_of_last hs hl hm, fun s r => recCommit_spec r s, fun s code src p hd h => event_queue hd code src p h,
    fun s code src p hd h => ?_⟩
  · exact wskNext_recRepeat _ s
  · rw [event_of_full hd code src p h]
    exact ⟨rfl, (State.rd_raise_same _ _ _).trans (or_one_mod_two _)⟩

end Sys2Proof.Machine
end

section
/-! SUPPORT. Keys: nonces, the checks of each privileged command, and the end of an OTP programming (R333 to R335; log entry 61). -/

namespace Sys2Proof.Machine

/-! ### Tokens and slots -/

theorem tokenOk_spec {s : State} {opcode : Nat} {t : Token} (h : tokenOk s opcode t = true) :
    1 ≤ t.slot ∧ t.slot ≤ 3 ∧ t.device = s.nv.deviceId ∧ t.opcode = opcode ∧ t.sigOk = true ∧ (keySlot s t.slot).ok = true ∧
    ∃ n, s.dwn.nonce = some n ∧ t.nonce = n / 2 ^ 48 ∧ s.tet.epoch ≤ n % 2 ^ 48 + 15625 := by
  simp only [tokenOk, Bool.and_eq_true, decide_eq_true_eq] at h
  obtain ⟨⟨⟨⟨⟨⟨h1, h3⟩, hok⟩, hsig⟩, hdev⟩, hop⟩, hn⟩ := h
  refine ⟨h1, h3, hdev, hop, hsig, hok, ?_⟩
  split at hn
  · next n hnonce =>
    rw [Bool.and_eq_true, decide_eq_true_eq, decide_eq_true_eq] at hn
    exact ⟨n, hnonce, hn⟩
  · exact nomatch hn

theorem keySlot_putKey {slot : Nat} {s : State} (h : slot < s.nv.slots.length) (k : KeySlot) : keySlot (putKey slot k s) slot = k :=
  getD_modAt (fun _ => k) _ h

/-- The slot that is programmed holds its key (R334). -/
theorem keySlot_otpApply_provision {slot : Nat} {s : State} (h : slot < s.nv.slots.length) (key : Nat) :
    keySlot (otpApply 0 slot key s) slot = ⟨true, false, false, key⟩ := keySlot_putKey h _

theorem keySlot_otpApply_revoke {slot : Nat} {s : State} (h4 : slot < 4) (h : slot < s.nv.slots.length) :
    (keySlot (otpApply 1 slot 0 s) slot).revoked = true := by
  have hput : revoked slot s = putKey slot { keySlot s slot with revoked := true } s := if_neg (by omega)
  show (keySlot (revoked slot s) slot).revoked = true
  rw [hput, keySlot_putKey h]

/-! ### The end of a programming -/

/-- The field takes its value, and the measurements have changed (R333, R334). -/
def otpHeld (k slot v : Nat) (s : State) : State :=
  ((otpApply k slot v { s with dwn.otpOp := none }).raise R.SEC_INT_STATUS_OTP_WRITE).raise R.SEC_INT_STATUS_MEAS_CHG

theorem otpProgramEnd_true {s : State} {k slot v : Nat} {h : MbxHdr} (ho : s.dwn.otpOp = some (k, h, slot, v)) :
    otpProgramEnd true s = mbxOk h (0x0402 + k) (otpHeld k slot v s) := by
  rw [otpProgramEnd, ho]
  rfl

theorem exec_otpProgramComplete (ok : Bool) (s : State) : exec (.otpProgramComplete ok) s = live s (mbxPump (otpProgramEnd ok s)) := rfl

theorem otpApply_mbx (k slot v : Nat) (s : State) : (otpApply k slot v s).mbx = s.mbx := by
  unfold otpApply
  split
  · rfl
  · show (revoked slot s).mbx = s.mbx
    unfold revoked
    split
    · rfl
    · rfl
  · rfl
  · rfl

/-- REVOKE raises its cause. -/
theorem otpHeld_revoked (slot v : Nat) (s : State) : (otpHeld 1 slot v s).rd R.SEC_INT_STATUS_REVOKED = 1 := by
  rw [otpHeld, State.rd_raise_ne _ (by decide), State.rd_raise_ne _ (by decide)]
  exact (State.rd_raise_same _ _ _).trans (or_one_mod_two _)

/-- A command that has started a programming, and the programming's end: the field of the OTP, the causes and the reply. -/
theorem runs_otp {c : Instr} {s u : State} {k slot v : Nat} {h : MbxHdr} (hr : h.resvBad = false) (ha : Alive u) (hw : u.mbx.wait = [])
    (hg : Gives c s { u with dwn.otpOp := some (k, h, slot, v) }) {P : State → Prop}
    (hP : ∀ w, w.nv = (otpApply k slot v u).nv → (k = 1 → w.rd R.SEC_INT_STATUS_REVOKED = 1) → Replied h (0x0402 + k) eOk w → P w) :
    Runs c s fun t => Runs (.otpProgramComplete true) t P := by
  refine ⟨_, hg, Runs.of_live (exec_otpProgramComplete true _) ha ?_⟩
  generalize ht : settle { u with dwn.otpOp := some (k, h, slot, v) } = t
  have hnv : (otpHeld k slot v t).nv = (otpApply k slot v u).nv := by
    subst ht
    unfold otpHeld otpApply
    split
    · rfl
    · simp only [revoked]; split <;> rfl
    · rfl
    · rfl
  have hwait : (otpHeld k slot v t).mbx.wait = [] := by
    subst ht
    exact (congrArg Mbx.wait (otpApply_mbx k slot v _)).trans hw
  have hop : t.dwn.otpOp = some (k, h, slot, v) := ht ▸ rfl
  rw [otpProgramEnd_true hop, mbxPump_of_idle ((mbxOk_wait h _ _).trans hwait)]
  refine hP _ ((mbxOk_ns_nv h _ _).2.trans hnv) ?_ (settle_mem (replied_mbxOk hr _ _))
  rintro rfl
  exact (mbxOk_rd h _ _ (by decide) (by decide)).trans (otpHeld_revoked slot v t)

/-! ### The commands -/

theorem mbxTaken_nv (h : MbxHdr) (op : Nat) (s : State) : (mbxTaken h op s).nv = s.nv := by
  unfold mbxTaken; cases h.src <;> rfl

theorem otpStart_of_idle {s : State} (h : s.dwn.otpOp = none) (k op : Nat) (q : MbxHdr) (slot v : Nat) :
    otpStart k op q slot v s = { s with dwn.otpOp := some (k, q, slot, v) } := by
  simp [otpStart, h]

section
variable {u : State} (ho : u.dwn.otpOp = none) (h : MbxHdr)
include ho

theorem keyProvisionGo_of_free {slot : Nat} (hp : (keySlot u slot).programmed = false) (hd : (keySlot u slot).damaged = false) (key : Nat) :
    keyProvisionGo slot key h u = { u with dwn.otpOp := some (0, h, slot, key) } := by
  rw [keyProvisionGo, if_neg (by simp [hp, hd]), otpStart_of_idle ho]

theorem keyRevokeGo_of_unused {slot : Nat} (h0 : slot ≠ 0)
    (hi : (bootImages u).any (fun i => keyCheck u i && ! keyCheck (revoked slot u) i) = false) :
    keyRevokeGo slot h u = { u with dwn.otpOp := some (1, h, slot, 0) } := by
  rw [keyRevokeGo, if_neg h0, if_neg (by simpa using hi), otpStart_of_idle ho]

theorem hostkeyEnrollGo_of_free (hm : u.nv.persistMode = true) (hp : u.nv.hostKey.programmed = false) (key : Nat) :
    hostkeyEnrollGo key h u = { u with dwn.otpOp := some (2, h, 4, key) } := by
  rw [hostkeyEnrollGo, if_neg (by simp [hm]), if_neg (by simp [hp]), otpStart_of_idle ho]

/-- SVN_ADVANCE goes to the SVN of the image that runs, where the other slot's image is not behind it. -/
theorem svnAdvanceGo_of_image {i : Image} (hi : u.dwn.image = some i) (hj : ∀ j, otherImage u = some j → i.svn ≤ j.svn)
    (hlt : u.nv.fwSvn < i.svn) : svnAdvanceGo h u = { u with dwn.otpOp := some (3, h, 0, i.svn) } := by
  have hother : ((otherImage u).map fun j => decide (j.svn < i.svn)).getD false = false := by
    cases hj' : otherImage u with
    | none => rfl
    | some j => exact decide_eq_false (Nat.not_lt.2 (hj j hj'))
  simp only [svnAdvanceGo, hi, Option.map_some, Option.getD_some, hother, Bool.false_eq_true, if_false, if_neg (Nat.not_le.2 hlt),
    otpStart_of_idle ho]

end

theorem mbxTaken_customerSet (h : MbxHdr) (op : Nat) (s : State) : customerSet (mbxTaken h op s) = customerSet s := by
  simp only [customerSet, keySlot, mbxTaken_nv]

/-- A command outside R394 asks for no active unit. -/
theorem of_claimed_false {m : MbxSpec} {n : Nat} {P : Prop} (hm : m.op = n) (hn : claimed n = false) (h : claimed m.op = true) : P := by
  rw [hm, hn] at h
  exact nomatch h

/-- KEY_PROVISION while no customer slot is programmed carries no token. -/
theorem gives_keyProvision {s r : State} {h : MbxHdr} {slot key : Nat} {t : Token} (hr : MbxReady h s) (hc : customerSet s = false)
    (hlen : h.len = 120) (hslot : slot ≤ 3) (hgo : keyProvisionGo slot key h (mbxTaken h 0x0402 s) = r) :
    Gives (.keyProvision h slot key t) s r := by
  refine Gives.of_live_eq (t := mbxArrive h (.keyProvision slot key t) s) rfl hr.1 ?_
  have ⟨_, hl, hrb, _⟩ := hr
  rw [mbxArrive_ready hr]
  show mbxRunCmd _ _ _ (mbxTaken h 0x0402 s) = r
  rw [mbxTaken_customerSet, hc]
  refine (mbxRunCmd_pass hl hrb (decide_eq_true hlen) rfl (decide_eq_false (Nat.not_lt.2 hslot)) ?_ rfl
    (.inr rfl) (of_claimed_false (n := 0x0402) rfl rfl)).trans hgo
  exact fun ht => nomatch ht

/-- A privileged command whose token authorizes it starts its programming, and the programming ends. -/
theorem gives_otp_token {c : Instr} {s u : State} {h : MbxHdr} {op k slot v : Nat} (hr : MbxReady h s)
    (hu : u = { mbxTaken h op s with dwn.nonce := none }) (hg : Gives c s { u with dwn.otpOp := some (k, h, slot, v) }) {P : State → Prop}
    (hP : ∀ w, w.nv = (otpApply k slot v u).nv → (k = 1 → w.rd R.SEC_INT_STATUS_REVOKED = 1) → Replied h (0x0402 + k) eOk w → P w) :
    Runs c s fun t => Runs (.otpProgramComplete true) t P := by
  obtain ⟨ha, hw⟩ : Alive u ∧ u.mbx.wait = [] := by rw [hu]; exact hr.taken op
  exact runs_otp hr.2.2.1 ha hw hg hP

/-- Settles O57: nonces and the checks of each command by its branches, the end of a programming by the field that takes its value. -/
theorem keysAreProgrammed : Obligations.KeysAreProgrammed := by
  unfold Obligations.KeysAreProgrammed
  refine ⟨?nonce, ?provision, ?revoke, ?enroll, ?svn, ?complete, fun s slot key h => keySlot_otpApply_provision h key,
    fun s slot h4 h => keySlot_otpApply_revoke h4 h, fun s v => ⟨rfl, rfl⟩, fun s opcode t => tokenOk_spec⟩
  case nonce =>
    rintro s h u hr hlen rfl
    exact ⟨_, (Config.freeValue 128 (mbxTaken h 0x0401 s).freeCtr).isLt, Gives.mbx (o := .getNonce) hr rfl (fun _ => rfl)
      (decide_eq_true hlen) rfl rfl (fun ht => nomatch ht) rfl (of_claimed_false (n := 0x0401) rfl rfl) rfl⟩
  case provision =>
    intro s h slot key t u hr hc hlen hslot hu hp hd ho
    have hg := gives_keyProvision (t := t) hr hc hlen hslot
      ((congrArg (keyProvisionGo slot key h) hu.symm).trans (keyProvisionGo_of_free ho h hp hd key))
    obtain ⟨ha, hw⟩ := hr.taken 0x0402
    refine ⟨hg, fun hs => runs_otp hr.2.2.1 (hu ▸ ha) (hu ▸ hw) hg fun w hnv _ hrep => ⟨?_, hrep⟩⟩
    have hs' : slot < u.nv.slots.length := by rwa [hu, mbxTaken_nv]
    exact (congrArg (fun n : Nv => n.slots.getD slot _) hnv).trans (keySlot_otpApply_provision hs' key)
  case revoke =>
    intro s h slot t u hr hlen h4 h0 hu htok hi ho
    have hg := Gives.mbxTok (c := .keyRevoke h slot t) (o := .keyRevoke slot t) t hr rfl (fun _ => rfl) (decide_eq_true hlen) rfl
      (decide_eq_false (Nat.not_lt.2 h4)) rfl rfl htok (of_claimed_false (n := 0x0403) rfl rfl)
      ((congrArg _ hu.symm).trans (keyRevokeGo_of_unused ho h h0 hi))
    refine ⟨hg, fun hlt hs => gives_otp_token hr hu hg fun w hnv hrev hrep => ⟨?_, hrev rfl, hrep⟩⟩
    have hs' : slot < u.nv.slots.length := by rw [hu]; exact (mbxTaken_nv h 0x0403 s).symm ▸ hs
    exact (congrArg (fun n : Nv => (n.slots.getD slot _).revoked) hnv).trans (keySlot_otpApply_revoke hlt hs')
  case enroll =>
    intro s h key t u hr hlen hu htok hm hp ho
    have hg := Gives.mbxTok (c := .hostkeyEnroll h key t) (o := .hostkeyEnroll key t) t hr rfl (fun _ => rfl) (decide_eq_true hlen) rfl rfl rfl
      rfl htok (of_claimed_false (n := 0x0404) rfl rfl) ((congrArg _ hu.symm).trans (hostkeyEnrollGo_of_free ho h hm hp key))
    exact ⟨hg, gives_otp_token hr hu hg fun w hnv _ hrep => ⟨congrArg Nv.hostKey hnv, hrep⟩⟩
  case svn =>
    intro s h t u i hr hlen hu htok hi hj hlt ho
    have hg := Gives.mbxTok (c := .svnAdvance h t) (o := .svnAdvance t) t hr rfl (fun _ => rfl) (decide_eq_true hlen) rfl rfl rfl
      rfl htok (of_claimed_false (n := 0x0405) rfl rfl) ((congrArg _ hu.symm).trans (svnAdvanceGo_of_image ho h hi hj hlt))
    exact ⟨hg, gives_otp_token hr hu hg fun w hnv _ hrep => ⟨congrArg Nv.fwSvn hnv, hrep⟩⟩
  case complete =>
    exact fun s k h slot v a ho => .of_live_eq (exec_otpProgramComplete true s) a (congrArg mbxPump (otpProgramEnd_true ho))

end Sys2Proof.Machine
end

section
/-! SUPPORT. What the pair's shared operations leave alone: notices, records and frames, claims, registrations, commands that end (R288,
R294, R298, R305, R306). -/

namespace Sys2Proof.Machine

/-! ### Registers but a few -/

theorem RegsBut.trans {fs : List Fld} {s t u : State} (h : RegsBut fs s t) (h' : RegsBut fs t u) : RegsBut fs s u :=
  fun f hf => (h' f hf).trans (h f hf)

theorem RegsBut.mono {fs gs : List Fld} {s t : State} (h : RegsBut fs s t) (hs : fs ⊆ gs) : RegsBut gs s t :=
  fun f hf => h f fun g hg => hf g (hs hg)

/-- A loop of steps that leave the registers leaves them. -/
theorem RegsBut.each {α : Type} {fs : List Fld} {f : State → α → State} (hf : ∀ s x, RegsBut fs s (f s x)) (s : State) (l : List α) :
    RegsBut fs s (s.each l f) :=
  List.foldlRecOn (motive := fun t => RegsBut fs s t) _ _ (.refl fs s) fun t ht x _ => ht.trans (hf t x)

/-- The recorder's two registers, which an event writes. -/
def eventFields : List Fld := [R.WSK_QUEUE_PEAK, R.WSK_INT_STATUS_QUEUE_WAIT]

theorem event_regsBut (code src : Nat) (p : List Nat) (s : State) : RegsBut eventFields s (s.event code src p) :=
  fun _ hf => s.rd_event (hf _ (by simp [eventFields])) (hf _ (by simp [eventFields])) code src p

/-! ### Notices and the pair's state -/

/-- A new state of the pair is written to its register, and the hosts are told of changed groups. -/
theorem setPair_spec (v : Nat) (s : State) : ∃ ce out, setPair v s = { s.wr R.SPR_STATUS_STATE v with ce := ce, out := out } := by
  unfold setPair
  dsimp only
  split
  · exact ⟨_, _, rfl⟩
  · obtain ⟨ce, out, h⟩ := notice_spec 11 3 0xC { s.wr R.SPR_STATUS_STATE v with ce.anaGen := s.ce.anaGen + 1 }
    exact ⟨ce, out, h⟩

theorem setPair_pair (v : Nat) (s : State) : (setPair v s).pair = s.pair := by
  obtain ⟨ce, out, h⟩ := setPair_spec v s
  rw [h]; rfl

theorem setPair_jrn (v : Nat) (s : State) : (setPair v s).jrn = s.jrn := by
  obtain ⟨ce, out, h⟩ := setPair_spec v s
  rw [h]; rfl

theorem setPair_rd (v : Nat) (s : State) (f : Fld) : (setPair v s).rd f = (s.wr R.SPR_STATUS_STATE v).rd f := by
  obtain ⟨ce, out, h⟩ := setPair_spec v s
  rw [h]; rfl

theorem setPair_regsBut (v : Nat) (s : State) : RegsBut [R.SPR_STATUS_STATE] s (setPair v s) := fun f hf =>
  (setPair_rd v s f).trans (State.rd_wr_ne s (hf _ (by simp)) v)

theorem pairState_setPair {v : Nat} (h : v < 8) (s : State) : (setPair v s).pairState = v := by
  rw [State.pairState, setPair_rd, State.rd_wr_same]
  exact Nat.mod_eq_of_lt h

/-! ### Records and frames -/

/-- The causes that records raise. -/
def recordFields : List Fld := [R.GON_INT_STATUS_CARRY, R.GON_INT_STATUS_RING_LOW]

/-- What records and frames change: the ring, the SEQs that a carried record takes along, what a delta counts, the outputs. -/
def Logged (s t : State) : Prop :=
  ∃ regs out ring jrn sops saved recs bytes seqs, t = { s with
      regs := regs, out := out, nv.ring := ring, jrn := jrn, ce.sops := sops, bsk.saved := saved, pair.deltaRecs := recs,
      pair.deltaBytes := bytes, str.seqs := seqs } ∧ RegsBut recordFields s t

theorem Logged.refl (s : State) : Logged s s :=
  ⟨s.regs, s.out, s.nv.ring, s.jrn, s.ce.sops, s.bsk.saved, s.pair.deltaRecs, s.pair.deltaBytes, s.str.seqs, rfl, .refl _ s⟩

theorem Logged.trans {s t u : State} (h : Logged s t) (h' : Logged t u) : Logged s u := by
  obtain ⟨_, _, _, _, _, _, _, _, _, rfl, hr⟩ := h
  obtain ⟨_, _, _, _, _, _, _, _, _, rfl, hr'⟩ := h'
  exact ⟨_, _, _, _, _, _, _, _, _, rfl, hr.trans hr'⟩

theorem Logged.each {α : Type} {f : State → α → State} (hf : ∀ s x, Logged s (f s x)) (s : State) (l : List α) : Logged s (s.each l f) :=
  List.foldlRecOn (motive := fun t => Logged s t) _ _ (.refl s) fun t ht x _ => ht.trans (hf t x)

theorem putRec_logged (e : Nat) (b : RecBody) (c : Bool) (o : Nat) (s : State) : Logged s (putRec e b c o s) := by
  unfold putRec
  dsimp only
  split
  · exact ⟨_, _, _, _, _, _, _, _, _, rfl, .of_regs rfl⟩
  · exact ⟨_, _, _, _, _, _, _, _, _, rfl, .of_regs rfl⟩

theorem carryRec_logged (r : Rec) (s : State) : Logged s (carryRec r s) := by
  refine (putRec_logged r.epoch r.body true r.seq s).trans ?_
  exact ⟨_, _, _, _, _, _, _, _, _, rfl, (RegsBut.refl _ _).wr (by simp [recordFields]) _⟩

theorem carryOld_logged (s : State) : Logged s (carryOld s) :=
  Logged.each (fun t r => by split; exacts [carryRec_logged r t, .refl t]) s _

theorem ringLowCheck_logged (s : State) : Logged s (ringLowCheck s) := by
  unfold ringLowCheck
  split
  · split
    · exact .refl s
    · exact ⟨_, _, _, _, _, _, _, _, _, rfl, (RegsBut.of_regs rfl : RegsBut _ s { s with jrn.low := true }).wr (by simp [recordFields]) _⟩
  · exact ⟨_, _, _, _, _, _, _, _, _, rfl, .of_regs rfl⟩

theorem record_logged (b : RecBody) (s : State) : Logged s (record b s) :=
  ((putRec_logged _ b false 0 s).trans (carryOld_logged _)).trans (ringLowCheck_logged _)

theorem sparSend_logged (ty : Nat) (vals : List Nat) (s : State) : Logged s (sparSend ty vals s) := by
  unfold sparSend
  split
  · exact ⟨_, _, _, _, _, _, _, _, _, rfl, .of_regs rfl⟩
  · exact .refl s

theorem strBroadcast_logged (ty : Nat) (vals : List Nat) (s : State) : Logged s (strBroadcast ty vals s) := by
  obtain ⟨out, seqs, h⟩ := strBroadcast_spec ty vals s
  rw [h]
  exact ⟨_, _, _, _, _, _, _, _, _, rfl, .of_regs rfl⟩

section
variable {s t : State} (h : Logged s t)
include h

theorem Logged.regsBut : RegsBut recordFields s t := by
  obtain ⟨_, _, _, _, _, _, _, _, _, _, hr⟩ := h
  exact hr

theorem Logged.pair : ∃ recs bytes, t.pair = { s.pair with deltaRecs := recs, deltaBytes := bytes } := by
  obtain ⟨_, _, _, _, _, _, recs, bytes, _, rfl, _⟩ := h
  exact ⟨recs, bytes, rfl⟩

theorem Logged.arrs_ext : t.arrs = s.arrs ∧ t.ext = s.ext := by
  obtain ⟨_, _, _, _, _, _, _, _, _, rfl, _⟩ := h
  exact ⟨rfl, rfl⟩

end

/-! ### Claims (R294) -/

/-- The registers that show the claims. -/
def claimFields : List Fld :=
  [R.SPR_CLAIM_LO_CLAIM_LO, R.SPR_CLAIM_HI_CLAIM_HI, R.SPR_PEER_CLAIM_LO_CLAIM_LO, R.SPR_PEER_CLAIM_HI_CLAIM_HI]

theorem claimRegs_regsBut (s : State) : RegsBut claimFields s (claimRegs s) :=
  ((((RegsBut.refl _ s).wr (by simp [claimFields]) _).wr (by simp [claimFields]) _).wr (by simp [claimFields]) _).wr (by simp [claimFields]) _

/-- The state in which a unit has its next claim, before it tells it. -/
def claimSet (s : State) : State :=
  (claimRegs { s with pair.claim := nextClaim s, pair.lastClaim := nextClaim s }).wr R.SPR_STATUS_CLAIM_LOST 0

/-- A claim is told in a record and in frames (R288, R294, R298). -/
theorem takeClaim_logged (role cause : Nat) (s : State) : Logged (claimSet s) (takeClaim role cause s) := by
  have hrec : ∀ t vals, Logged t (if role = 2 then t else record vals t) := fun t vals => by
    split
    · exact .refl t
    · exact record_logged vals t
  have htold : ∀ t vals, Logged t (if strJoined t then strBroadcast 0x0A vals t else t) := fun t vals => by
    split
    · exact strBroadcast_logged _ vals t
    · exact .refl t
  exact ((hrec _ _).trans (sparSend_logged _ _ _)).trans (htold _ _)

/-- The fields that a unit's own claim writes. -/
def takeFields : List Fld := R.SPR_STATUS_CLAIM_LOST :: claimFields ++ recordFields

theorem claimSet_regsBut (s : State) : RegsBut takeFields s (claimSet s) :=
  ((RegsBut.of_regs (t := { s with pair.claim := nextClaim s, pair.lastClaim := nextClaim s }) rfl).trans
    ((claimRegs_regsBut _).mono (by simp [takeFields]))).wr (by simp [takeFields]) 0

theorem takeClaim_regsBut (role cause : Nat) (s : State) : RegsBut takeFields s (takeClaim role cause s) :=
  (claimSet_regsBut s).trans ((takeClaim_logged role cause s).regsBut.mono (by simp [takeFields]))

/-- A claim is the pair's change, beside what a delta counts. -/
theorem takeClaim_pair (role cause : Nat) (s : State) : ∃ recs bytes, (takeClaim role cause s).pair =
    { s.pair with claim := nextClaim s, lastClaim := nextClaim s, deltaRecs := recs, deltaBytes := bytes } :=
  (takeClaim_logged role cause s).pair

/-- A unit that takes a claim has lost none (R306). -/
theorem takeClaim_claimLost (role cause : Nat) (s : State) : (takeClaim role cause s).rd R.SPR_STATUS_CLAIM_LOST = 0 := by
  rw [(takeClaim_logged role cause s).regsBut R.SPR_STATUS_CLAIM_LOST (by decide), claimSet, State.rd_wr_same, Nat.zero_mod]

/-! ### Registrations (R305) -/

theorem resvRegister_regs_pair (d : Nat) (s : State) : (resvRegister d s).regs = s.regs ∧ (resvRegister d s).pair = s.pair := by
  unfold resvRegister
  split
  · exact ⟨rfl, rfl⟩
  · simp

theorem registerAll_regs_pair (s : State) : (registerAll s).regs = s.regs ∧ (registerAll s).pair = s.pair :=
  ⟨State.each_field State.regs (fun t d => (resvRegister_regs_pair d t).1) s _,
    State.each_field State.pair (fun t d => (resvRegister_regs_pair d t).2) s _⟩

/-! ### Taking over (R308) -/

/-- A unit that starts to take over has its epoch D, and has preempted no one yet. -/
theorem startTaking_spec (cause : Nat) (s : State) : (startTaking cause s).pair.preempted = false ∧
    (startTaking cause s).pair.dEpoch = s.tet.epoch := by
  let u : State := { s with
    pair.stagedP := [], pair.stagedR := [], pair.dEpoch := s.tet.epoch, pair.cause := cause, pair.preempted := false, pair.readySince := none }
  obtain ⟨recs, bytes, hclaim⟩ := takeClaim_pair 1 cause u
  have hp := (registerAll_regs_pair (setPair 4 (takeClaim 1 cause u))).2.trans ((setPair_pair 4 _).trans hclaim)
  exact ⟨congrArg Pair.preempted hp, congrArg Pair.dEpoch hp⟩

/-! ### Commands that end (R306, R309) -/

/-- The fields that the end of a command writes. -/
def endFields : List Fld := [R.STR_ENG_STATUS_SLICE_BUSY, R.SPR_LAST_TAKEOVER_EPOCHS, R.HPT_CE_CNT_ORDERED_ORDERED]

/-- What commands that end leave: every other register, and of the pair all but the takeover whose first command they were. -/
def Ended (s t : State) : Prop := RegsBut endFields s t ∧ ∃ d, t.pair = { s.pair with takeFrom := d }

theorem Ended.of_same {s t : State} (hr : t.regs = s.regs) (hp : t.pair = s.pair) : Ended s t := ⟨.of_regs hr, s.pair.takeFrom, hp⟩

theorem Ended.refl (s : State) : Ended s s := .of_same rfl rfl

theorem Ended.trans {s t u : State} (h : Ended s t) (h' : Ended t u) : Ended s u := by
  obtain ⟨hr, d, hp⟩ := h
  obtain ⟨hr', d', hp'⟩ := h'
  exact ⟨hr.trans hr', d', by rw [hp', hp]⟩

theorem Ended.each {α : Type} {f : State → α → State} (hf : ∀ s x, Ended s (f s x)) (s : State) (l : List α) : Ended s (s.each l f) :=
  List.foldlRecOn (motive := fun t => Ended s t) _ _ (.refl s) fun t ht x _ => ht.trans (hf t x)

theorem Ended.wr {s t : State} (h : Ended s t) {f : Fld} (hf : f ∈ endFields) (v : Nat) : Ended s (t.wr f v) := ⟨h.1.wr hf v, h.2⟩

theorem jobsDrop_ended (op : Nat) (s : State) : Ended s (jobsDrop op s) := by
  unfold jobsDrop
  split
  · exact .refl s
  · obtain ⟨js, ws, h, -⟩ := jobsAdmit_spec (s.ce.jobWait.filter fun x => x.1 ≠ op).length
      { s with ce.jobs := s.ce.jobs.filter fun x => x.op ≠ op, ce.jobWait := s.ce.jobWait.filter fun x => x.1 ≠ op }
    dsimp only
    rw [h]
    exact Ended.wr (.of_same rfl rfl) (by simp [endFields]) _

theorem envSettle_ended (ks : List Nat) (g : Bool) (s : State) : Ended s (envSettle ks g s) := by
  unfold envSettle
  dsimp only
  split
  · exact .of_same rfl rfl
  · exact .of_same rfl rfl

theorem creditBack_ended (h : IoHdr) (s : State) : Ended s (creditBack h s) := by
  unfold creditBack ackCredits
  split
  · split
    · split
      · split
        · exact .of_same rfl rfl
        · exact .of_same rfl rfl
      · exact .of_same rfl rfl
    · exact .refl s
  · exact .refl s

theorem gaugeTime_ended (g : Nat) (s : State) : Ended s (s.gaugeTime g) := .of_same (by simp) (by simp)

/-- Before its gauges, a tally counts the command, and a takeover's first command gives the takeover's epochs. -/
theorem tally_ended (c : Ctx) (st : Status) (s : State) : Ended s (tally c st s) := by
  have hcount : ∀ t : State, Ended t (if c.ordered then t.incWrap R.HPT_CE_CNT_ORDERED_ORDERED else t) := fun t => by
    split
    · exact (Ended.refl t).wr (by simp [endFields]) _
    · exact .refl t
  have hgauge : ∀ (p : Prop) [Decidable p] (g : Nat) (t : State), Ended t (if p then t.gaugeTime g else t) := fun p _ g t => by
    split
    · exact gaugeTime_ended g t
    · exact .refl t
  have hkind : ∀ t : State, Ended t (if st ≠ stOk then t else
      match c.op with
      | .read => (fun u : State => if c.nlb = 1 then u.gaugeTime (if c.h.ctrl < 16 then 0 else 2) else u)
          (t.modCtrl c.h.ctrl fun x => { x with rdBlk := x.rdBlk + c.nlb, rdCmd := x.rdCmd + 1 })
      | .write => (fun u : State => if c.nlb = 1 then u.gaugeTime ((if c.h.ctrl < 16 then 0 else 2) + 1) else u)
          (t.modCtrl c.h.ctrl fun x => { x with wrBlk := x.wrBlk + c.nlb, wrCmd := x.wrCmd + 1 })
      | .flush => t.gaugeTime 4
      | _ => t) := fun t => by
    split
    · exact .refl t
    · split
      · exact (Ended.of_same rfl rfl).trans (hgauge _ _ _)
      · exact (Ended.of_same rfl rfl).trans (hgauge _ _ _)
      · exact gaugeTime_ended 4 t
      · exact .refl t
  refine Ended.trans ?_ (hkind _)
  refine Ended.trans ?_ (hcount _)
  dsimp only
  split
  · exact ⟨(RegsBut.of_regs rfl : RegsBut endFields s { s with ce.cmdsEpoch := s.ce.cmdsEpoch + 1 }).wr (by simp [endFields]) _, none, rfl⟩
  · exact .of_same rfl rfl

theorem finishCtx_ended (c : Ctx) (st : Status) (data : List Block) (s : State) : Ended s (finishCtx c st data s) := by
  refine Ended.trans ?_ (creditBack_ended c.h _)
  refine Ended.trans ?_ (tally_ended c st _)
  refine Ended.trans ?_ (Ended.of_same (cqe_regs _ _ _ _ _ _ _) (cqe_pair _ _ _ _ _ _ _))
  refine Ended.trans ?_ (envSettle_ended _ _ _)
  have hjobs : ∀ t, Ended t (unlockAll c.id (jobsDrop c.id t)) := fun t => (jobsDrop_ended c.id t).trans (.of_same rfl rfl)
  exact Ended.trans (.of_same rfl rfl) (hjobs _)

theorem sopDrop_ended (o : SOp) (s : State) : Ended s (sopDrop o s) := by
  unfold sopDrop
  dsimp only
  refine Ended.trans (Ended.trans ?_ (jobsDrop_ended _ _)) (.of_same rfl rfl)
  split
  · exact Ended.trans (.of_same rfl rfl) (envSettle_ended _ _ _)
  · exact .of_same rfl rfl

theorem memberStop_ended (s : State) : Ended s (memberStop s) := (Ended.each (fun t o => sopDrop_ended o t) s _).trans (.of_same rfl rfl)

theorem fenceOut_ended (s : State) : Ended s (fenceOut s) :=
  ((Ended.each (fun t c => finishCtx_ended c _ [] t) s _).trans (memberStop_ended _)).trans (.of_same rfl rfl)

end Sys2Proof.Machine
end

section
/-! SUPPORT. The mirror: the Spar link, deltas, confirmations, fetches and the bulk copy (R296 to R302; log entry 54). -/

namespace Sys2Proof.Machine

/-! ### The link -/

theorem doSparLinkUp_of_trained {s : State} {lanes : Nat} (hl : lanes = 8 ∨ lanes = 4) (a : Alive s) (hd : 11 ≤ s.dwn.step)
    (hg : groupDead s 9 = false) : doSparLinkUp lanes s =
      (fun t : State => if lanes = 4 then t.raise R.SPR_INT_STATUS_DEGRADED_LINK else t)
        ((((s.wr R.SPR_LINK_UP 1).wr R.SPR_LINK_LANES lanes).wr R.SPR_LINK_CAP_GBS (if lanes = 8 then 80 else 40)).raise R.SPR_INT_STATUS_SPAR_UP) :=
  if_neg (by simp [a, hg]; omega)

/-- A lost link takes the delta that has not been cut with it (R299). -/
theorem doSparLinkDown_of_up {s : State} (h : sparUp s = true) : doSparLinkDown s =
    { (((s.wr R.SPR_LINK_UP 0).wr R.SPR_LINK_LANES 0).wr R.SPR_LINK_CAP_GBS 0).raise R.SPR_INT_STATUS_SPAR_DOWN with
      pair.stagedP := [], pair.stagedR := [] } :=
  if_neg (by simp [h])

theorem sparLinkDown_rd (s : State) :
    let u := (((s.wr R.SPR_LINK_UP 0).wr R.SPR_LINK_LANES 0).wr R.SPR_LINK_CAP_GBS 0).raise R.SPR_INT_STATUS_SPAR_DOWN
    u.rd R.SPR_LINK_UP = 0 ∧ u.rd R.SPR_LINK_LANES = 0 ∧ u.rd R.SPR_LINK_CAP_GBS = 0 ∧ u.rd R.SPR_INT_STATUS_SPAR_DOWN = 1 := by
  refine ⟨?_, ?_, ?_, (State.rd_raise_same _ _ _).trans (or_one_mod_two _)⟩
  · rw [State.rd_raise_ne _ (by decide), State.rd_wr_ne _ (by decide), State.rd_wr_ne _ (by decide), State.rd_wr_same, Nat.zero_mod]
  · rw [State.rd_raise_ne _ (by decide), State.rd_wr_ne _ (by decide), State.rd_wr_same, Nat.zero_mod]
  · rw [State.rd_raise_ne _ (by decide), State.rd_wr_same, Nat.zero_mod]

/-! ### Deltas -/

section
variable {s : State} (hu : sparUp s = true) (hb : standingBy s = true)
include hu hb

theorem doPage_of_standingBy {addr : Nat} (ha : addr < s.bsk.w) (blk : Block) (sync : Bool) : doPage addr blk sync s =
    if sync then { s with bsk.pages := SMap.set 0 addr blk s.bsk.pages } else { s with pair.stagedP := s.pair.stagedP ++ [(addr, blk)] } :=
  if_neg (by simp [hu, hb, ha])

theorem doRecords_of_standingBy {rs : List Rec} (hr : rs.length ≤ 64) (sync : Bool) : doRecords rs sync s =
    if sync then rs.foldl mirrorRec s else { s with pair.stagedR := s.pair.stagedR ++ rs } :=
  if_neg (by simp [hu, hb, hr])

/-- A cut takes the whole delta, or discards it (R299). -/
theorem doCut_of_standingBy (h5 : s.pairState ≠ 5) (e f l pages recs : Nat) (crcOk : Bool) :
    doCut e f l pages recs crcOk s =
      if s.pair.stagedP.length = pages ∧ s.pair.stagedR.length = recs ∧ crcOk then
        sparSend 4 [e, l] (State.wr { deltaApply { s with pair.lastCutRx := s.tet.epoch } with pair.confirmed := e } R.SPR_MIRROR_CONFIRMED e)
      else control opNak [] { s with pair.lastCutRx := s.tet.epoch, pair.stagedP := [], pair.stagedR := [] } := by
  have hback : ¬ (s.pairState = 5 ∧ s.pair.released ∧ s.pair.claim < s.pair.peerClaim) := fun h => h5 h.1
  rw [doCut, if_neg (by simp [hu])]
  simp only [hback, if_false]
  exact if_neg (by simp [hb])

end

/-- The page that a delta holds last stands in the Basket. -/
theorem deltaApply_pages {s : State} (hr : s.pair.stagedR = []) : (deltaApply s).pair.stagedP = [] ∧
    ∀ p q b, s.pair.stagedP = q ++ [(p, b)] → SMap.get 0 p (deltaApply s).bsk.pages = b := by
  unfold deltaApply
  rw [hr]
  refine ⟨rfl, fun p q b hp => ?_⟩
  rw [hp]
  simp only [List.foldl_append, List.foldl_cons, List.foldl_nil]
  exact SMap.get_set_same _ _ _ _

/-! ### Confirmations -/

theorem mirrorDone_of_idle {s : State} (hc : s.ce.ctxs = []) (ho : s.ce.sops = []) (upto : Nat) : mirrorDone upto s = s := by
  have hs : ({ s with ce.ctxs := [], ce.sops := [] } : State) = s := by rw [← hc, ← ho]
  simp [mirrorDone, hc, ho, hs, State.each]

/-- What waited for the cut goes on; a unit that does not hand over releases nothing (R299, R312). -/
theorem doConfirm_of_serving {s u : State} {e : Nat} (hu : sparUp s = true) (hm : mirroring s = true)
    (hc : s.pair.unconf.any (fun u => u.1 = e) = true) (he : u = mirrorDone e ((State.wr { s with
      pair.unconf := s.pair.unconf.filter (fun u => e < u.1), pair.confirmed := e, pair.naks := 0, pair.lastRx := s.tet.epoch }
      R.SPR_MIRROR_CONFIRMED e).gaugeTime 10)) (h5 : u.pairState ≠ 5) (l : Nat) : doConfirm e l s = u := by
  subst he
  rw [doConfirm, if_neg (by simp only [hu, hm, hc]; simp)]
  exact if_neg fun h => h5 h.1

theorem doDeltaNak_of_unconf {s : State} {u : Nat × Nat × Nat × List Nat} {us : List (Nat × Nat × Nat × List Nat)}
    (h : s.pair.unconf = u :: us) (hu : sparUp s = true) (hm : mirroring s = true) : doDeltaNak s =
      if 3 ≤ s.pair.naks + 1 then doSparLinkDown { s with pair.naks := 0 } else resend u { s with pair.naks := s.pair.naks + 1 } := by
  rw [doDeltaNak, h]
  exact if_neg (by simp [hu, hm])

/-! ### The bulk copy -/

theorem recsSend_spec (n : Nat) (rs : List Rec) (s : State) : ∃ out, recsSend n rs s = { s with out := out } := by
  induction n generalizing rs s with
  | zero => exact ⟨_, rfl⟩
  | succ n ih =>
    unfold recsSend
    split
    · exact ⟨_, rfl⟩
    · exact ih _ _

theorem each_emits {α : Type} (g : State → α → OutEv) (l : List α) (s : State) :
    ∃ out, (s.each l fun t x => t.emit (g t x)) = { s with out := out } :=
  List.foldlRecOn (motive := fun t : State => ∃ out : List OutEv, t = { s with out := out }) _ _ ⟨s.out, rfl⟩
    fun t ⟨out, h⟩ x _ => ⟨g t x :: out, by subst h; rfl⟩

/-- The check of R293 that keeps a pair from forming, as REASON; 0 where none does. -/
def syncRefuse (s : State) : Nat :=
  match s.pair.helloRx with
  | some h => helloRefuse s h
  | none => if noFence s then 4 else 0

/-- The active, before the records and pages of the bulk copy go out (R302). -/
def syncStarted (seq : Nat) (s : State) : State :=
  let s := { s with jrn.nextSeq := max s.jrn.nextSeq (seq + 1) }
  let s' := setPair 3 { s with
    pair.deltaFirst := s.jrn.nextSeq, pair.lastRx := s.tet.epoch, pair.unconf := [],
    pair.bulk := ((bulkPages s).length, (bulkPages s).length), pair.health := 0 }
  ((s'.wr R.SPR_STATUS_REASON 0).wr R.SPR_SYNC_PCT 0).wr R.SPR_STATUS_READY 0

section
variable {s : State} (hu : sparUp s = true) (hen : s.rd R.SPR_CFG_EN = 1)
include hu hen

theorem doSyncBegin_of_refused (h0 : s.pairState = 0) (hr : syncRefuse s ≠ 0) (seq : Nat) :
    doSyncBegin seq s = s.wr R.SPR_STATUS_REASON (syncRefuse s) := by
  rw [doSyncBegin, if_neg (by simp [hu, State.on, hen, h0])]
  exact if_pos hr

theorem doSyncBegin_of_accepted (h0 : s.pairState = 0) (hr : syncRefuse s = 0) (seq : Nat) :
    ∃ out, doSyncBegin seq s = { syncStarted seq s with out := out } := by
  have hout : ∀ rs ps, ∃ out, (State.each (recsSend rs.length rs (syncStarted seq s)) ps fun t p => t.emit (.sparBlock 1 p (pageAt t p))) =
      { syncStarted seq s with out := out } := fun rs ps => by
    obtain ⟨out, h⟩ := recsSend_spec rs.length rs (syncStarted seq s)
    rw [h]
    exact each_emits _ ps _
  obtain ⟨out, h⟩ := hout (neededRecs (syncStarted seq s)) (bulkPages { s with jrn.nextSeq := max s.jrn.nextSeq (seq + 1) })
  rw [doSyncBegin, if_neg (by simp [hu, State.on, hen, h0])]
  exact ⟨out, (if_neg (not_not_intro hr)).trans h⟩

end

theorem syncStarted_spec (seq : Nat) (s : State) : seq + 1 ≤ (syncStarted seq s).jrn.nextSeq ∧ (syncStarted seq s).rd R.SPR_SYNC_PCT = 0 ∧
    (syncStarted seq s).pair.unconf = [] ∧ (syncStarted seq s).pairState = 3 := by
  unfold syncStarted
  dsimp only
  refine ⟨?_, ?_, ?_, ?_⟩
  · show seq + 1 ≤ (setPair 3 _).jrn.nextSeq
    rw [setPair_jrn]
    exact Nat.le_max_right _ _
  · rw [State.rd_wr_ne _ (by decide), State.rd_wr_same, Nat.zero_mod]
  · exact congrArg Pair.unconf (setPair_pair 3 _)
  · rw [State.pairState, State.rd_wr_ne _ (by decide), State.rd_wr_ne _ (by decide), State.rd_wr_ne _ (by decide)]
    exact pairState_setPair (by decide) _

/-- Settles O41: each frame's branch of the mirror, on a link that is up. -/
theorem mirrorTakesWholeDeltas : Obligations.MirrorTakesWholeDeltas := by
  unfold Obligations.MirrorTakesWholeDeltas
  refine ⟨?linkUp, ?linkDown, ?page, ?records, ?cut, fun s => deltaApply_pages, ?confirm, ?confirmIdle, ?nak, ?nakLast, ?fetchReq, ?fetchData,
    ?refusedUnfenced, ?refusedHello, ?accepted, ?copied, ?synced⟩
  case linkUp =>
    intro s a hd hg
    exact ⟨.of_live_eq rfl a (doSparLinkUp_of_trained (.inl rfl) a hd hg), .of_live_eq rfl a (doSparLinkUp_of_trained (.inr rfl) a hd hg)⟩
  case linkDown =>
    intro s a hu
    obtain ⟨hup, hlanes, hcap, hcause⟩ := sparLinkDown_rd s
    exact .of_live (congrArg (live s) (doSparLinkDown_of_up hu)) a ⟨rfl, hup, hlanes, hcap, hcause, rfl, rfl⟩
  case page =>
    intro s addr blk a hu hb ha
    exact ⟨.of_live_eq rfl a (doPage_of_standingBy hu hb ha blk true), .of_live_eq rfl a (doPage_of_standingBy hu hb ha blk false)⟩
  case records =>
    intro s rs a hu hb hr
    exact ⟨.of_live_eq rfl a (doRecords_of_standingBy hu hb hr true), .of_live_eq rfl a (doRecords_of_standingBy hu hb hr false)⟩
  case cut =>
    rintro s e f l a hu hb h5 u rfl
    exact ⟨.of_live_eq rfl a ((doCut_of_standingBy hu hb h5 e f l _ _ true).trans (if_pos ⟨rfl, rfl, rfl⟩)),
      .of_live_eq rfl a ((doCut_of_standingBy hu hb h5 e f l _ _ false).trans (if_neg (by simp)))⟩
  case confirm =>
    intro s e l a hu hm hc h5 u he hst
    exact .of_live_eq rfl a (doConfirm_of_serving hu hm hc he (hst ▸ h5) l)
  case confirmIdle =>
    intro s e l a hu hm hc h5 hctxs hsops
    refine .of_live_eq rfl a (doConfirm_of_serving hu hm hc (mirrorDone_of_idle ?_ ?_ e).symm ?_ l)
    · exact (congrArg Ce.ctxs (State.gaugeTime_ce _ 10)).trans hctxs
    · exact (congrArg Ce.sops (State.gaugeTime_ce _ 10)).trans hsops
    · rwa [State.pairState, State.rd_gaugeTime, State.rd_wr_ne _ (by decide)]
  case nak =>
    intro s u us a hs hu hm hn
    exact .of_live_eq rfl a ((doDeltaNak_of_unconf hs hu hm).trans (if_neg (by omega)))
  case nakLast =>
    intro s u us a hs hu hm hn
    exact .of_live_eq rfl a ((doDeltaNak_of_unconf hs hu hm).trans (if_pos (by omega)))
  case fetchReq =>
    intro s addr a hu h3 hcap hf
    exact .of_live_eq rfl a (if_neg (by simp [hu, h3, hcap, hf]))
  case fetchData =>
    intro s addr blk a hu hf
    exact .of_live_eq rfl a (if_neg (by simp [hu, hf]))
  case refusedUnfenced =>
    intro s seq a hu hen h0 hh hf
    have hr : syncRefuse s = 4 := by simp [syncRefuse, hh, hf]
    exact .of_live_eq rfl a (hr ▸ doSyncBegin_of_refused hu hen h0 (by omega) seq)
  case refusedHello =>
    intro s seq h a hu hen h0 hh hne
    have hr : syncRefuse s = helloRefuse s h := by simp [syncRefuse, hh]
    exact .of_live_eq rfl a (hr ▸ doSyncBegin_of_refused hu hen h0 (hr ▸ hne) seq)
  case accepted =>
    intro s seq a hu hen h0 hf hh
    have hr : syncRefuse s = 0 := by
      cases hx : s.pair.helloRx with
      | none => simp [syncRefuse, hx, hf]
      | some h => simpa [syncRefuse, hx] using hh h hx
    obtain ⟨out, h⟩ := doSyncBegin_of_accepted hu hen h0 hr seq
    obtain ⟨hseq, hpct, hunconf, hst⟩ := syncStarted_spec seq s
    exact .of_live (congrArg (live s) h) a ⟨hseq, hpct, hunconf, hst⟩
  case copied =>
    intro s a hu h3
    exact .of_live_eq rfl a (if_neg (by simp [hu, h3]))
  case synced =>
    intro s a hu h1
    exact .of_live_eq rfl a (if_neg (by simp [hu, h1]))

end Sys2Proof.Machine
end

section
/-! SUPPORT. The pair hands control over: a lost active, preemption, the split, hand-back, health, rejoining (R303 to R314; log entries 55
and 88). -/

namespace Sys2Proof.Machine

/-! ### A lost active (R307, R312) -/

section
variable {s : State} (h2 : s.pairState = 2)
include h2

theorem standingBy_of_standby : standingBy s = true := by simp [standingBy, h2]

theorem activeLost_of_ready (hr : bit s.pair.health 8 = true) : activeLost s = takeover s := if_pos ⟨h2, hr⟩

theorem activeLost_of_unready (hr : bit s.pair.health 8 = false) : activeLost s = separate 5 s :=
  (if_neg (by simp [hr])).trans (if_pos (standingBy_of_standby h2))

theorem doActiveLostDetect_of_late (hl : s.pair.lastCutRx + s.rd R.SPR_TIMING_DETECT_EPOCHS + 1 ≤ s.tet.epoch) :
    doActiveLostDetect s = activeLost s :=
  if_pos ⟨standingBy_of_standby h2, decide_eq_true hl⟩

end

theorem doActiveLostDetect_of_early {s : State} (h5 : s.pairState ≠ 5)
    (hl : s.tet.epoch < s.pair.lastCutRx + s.rd R.SPR_TIMING_DETECT_EPOCHS + 1) : doActiveLostDetect s = s :=
  (if_neg (by simp; omega)).trans (if_neg fun h => h5 h.1)

theorem doActiveLostDetect_of_released {s : State} (h5 : s.pairState = 5) (hr : s.pair.released = true)
    (hl : s.pair.lastRx + s.rd R.SPR_TIMING_DETECT_EPOCHS + 1 ≤ s.tet.epoch) (hc : s.pair.peerClaim < s.pair.claim) :
    doActiveLostDetect s = takeover (memberStop s) :=
  (if_neg (by simp [standingBy, h5])).trans (if_pos ⟨h5, hr, decide_eq_true hl, hc⟩)

/-! ### Preemption (R308) -/

theorem fetchFail_of_idle {s : State} (h : s.bsk.fetching = []) : fetchFail s = s := by rw [fetchFail, h]; rfl

theorem pairReply_of_none {s : State} (h : s.pair.mbxWait = none) (code : Nat) : pairReply code s = s := by rw [pairReply, h]

/-- The unit that a takeover has made active, before it repairs and reports (R308). -/
def preempted (s : State) : State :=
  State.wr (setPair 3 { s with
    pair.preempting := [], pair.lastRx := s.tet.epoch, pair.takeFrom := some s.pair.dEpoch,
    pair.deltaFirst := s.jrn.nextSeq, pair.unconf := [], pair.released := false, pair.handing := false }) R.SPR_STATUS_READY 0

/-- A takeover without open INTENTs and fetches is reported at once. -/
theorem doPreemptComplete_of_clean {s u : State} (h4 : s.pairState = 4) (hp : s.pair.preempted = true) (hu : u = preempted s)
    (ho : u.jrn.opens = []) (hf : u.bsk.fetching = []) (hc : u.pair.cause = 1) : doPreemptComplete s =
      pairReply eOk (u.event 0x4400 0 (leBytes 8 u.pair.claim ++ [min 255 (u.tet.epoch - u.pair.dEpoch)])) := by
  have hrep : u.each u.jrn.opens (fun s r => repairIntent r s) = u := by rw [ho]; rfl
  have hcause : u.pair.cause ≠ 2 := by omega
  rw [doPreemptComplete, if_neg (by simp [h4, hp])]
  unfold preempted at hu
  simp only [← hu, hrep, fetchFail_of_idle hf, hcause, if_false]

/-! ### The split and hand-back (R310 to R314) -/

theorem doSoloWaitExpire_of_lost {s : State} (h3 : s.pairState = 3) (hl : s.pair.lastRx + s.rd R.SPR_TIMING_SOLO_WAIT ≤ s.tet.epoch)
    (ha : s.pair.actUntil ≤ s.tet.epoch) (hd : sparUp s = false) : doSoloWaitExpire s = splitNow 2 s := by
  rw [doSoloWaitExpire, if_pos ⟨h3, hl, ha⟩, hd]
  rfl

theorem doHoldoffExpire_of_ready {s : State} {e : Nat} (hr : s.pair.readySince = some e) (h2 : s.pairState = 2) (hh : s.rd R.SPR_CFG_HOME = 1)
    (hb : s.rd R.SPR_CFG_AUTO_BACK = 1) (hf : s.rd R.SPR_STATUS_FLAPPING = 0)
    (he : e + s.rd R.SPR_CFG_HOLDOFF_S * 15625 ≤ s.tet.epoch) : doHoldoffExpire s = control opHandback [] s := by
  rw [doHoldoffExpire, hr]
  exact if_pos ⟨h2, by simp [State.on, hh], by simp [State.on, hb], by simp [State.on, hf], he⟩

/-- A pair whose active has no commit ends the other unit's activation there (R314). -/
theorem doActDone_of_idle {s : State} (hu : sparUp s = true) (h3 : s.pairState = 3) (hc : s.ce.commit = none) :
    doActDone s = State.wr { s with pair.actUntil := 0, pair.lastRx := s.tet.epoch } R.HPT_CE_ACT_PAIR_WAIT 0 := by
  rw [doActDone, if_neg (by simp [hu, h3])]
  dsimp only
  rw [if_neg (by simp [hc]), pairCommitEnd]
  simp only [State.wr_ce, hc]

theorem doHealth_of_unready {s : State} {w : Nat} (hu : sparUp s = true) (h3 : s.pairState = 3) (hr : s.rd R.SPR_STATUS_READY = 0)
    (hw : w < 2 ^ 64) : doHealth w s =
      State.wr (State.wr (State.wr { s with pair.lastRx := s.tet.epoch, pair.health := w } R.SPR_HEALTH_LO_HEALTH_LO w)
        R.SPR_HEALTH_HI_HEALTH_HI (w / 2 ^ 32)) R.SPR_STATUS_READY (b2n (bit w 8)) := by
  rw [doHealth, if_neg (by simp [hu, h3])]
  simp only [Nat.mod_eq_of_lt hw]
  exact if_neg (by simp [State.on, hr])

/-- Settles O42: each event's branch of the pair. -/
theorem pairHandsControlOver : Obligations.PairHandsControlOver := by
  unfold Obligations.PairHandsControlOver
  refine ⟨?lostReady, ?lostUnready, ?early, ?released, ?relinquish, ?notPreempted, ?preempted, ?deadline, ?solo, ?soloEarly, ?handback, ?drained,
    ?release, ?timeout, ?holdoff, ?rearm, ?rearmIdle, ?act, ?health, ?rejoin, ?notFenced, ?taking⟩
  case lostReady =>
    exact fun s a h2 hl hr => .of_live_eq rfl a ((doActiveLostDetect_of_late h2 hl).trans (activeLost_of_ready h2 hr))
  case lostUnready =>
    exact fun s a h2 hl hr => .of_live_eq rfl a ((doActiveLostDetect_of_late h2 hl).trans (activeLost_of_unready h2 hr))
  case early => exact fun s a h5 hl => .of_live_eq rfl a (doActiveLostDetect_of_early h5 hl)
  case released => exact fun s a h5 hr hl hc => .of_live_eq rfl a (doActiveLostDetect_of_released h5 hr hl hc)
  case relinquish =>
    exact fun s a hu h2 hr => .of_live_eq rfl a ((if_pos ⟨hu, standingBy_of_standby h2⟩).trans (activeLost_of_ready h2 hr))
  case notPreempted => exact fun s a h => .of_live_eq rfl a (if_pos (by simpa using h))
  case preempted =>
    intro s a h4 hp _ _ _ _ u hu ho hf hc hw
    refine .of_live_eq rfl a ((doPreemptComplete_of_clean h4 hp hu ho hf hc).trans (pairReply_of_none ?_ _))
    exact (congrArg Pair.mbxWait (State.event_pair _ _ _ _)).trans hw
  case deadline => exact fun s a h4 hp hl => .of_live_eq rfl a (if_pos ⟨h4, by simp [hp], hl⟩)
  case solo => exact fun s a h3 hl ha hd => .of_live_eq rfl a (doSoloWaitExpire_of_lost h3 hl ha hd)
  case soloEarly => exact fun s a _ hl => .of_live_eq rfl a (if_neg (by omega))
  case handback => exact fun s a hu h3 => .of_live_eq rfl a (if_pos ⟨hu, h3⟩)
  case drained => exact fun s a h5 hh hc => .of_live_eq rfl a (if_pos ⟨h5, by simp [hh], by simp [hc]⟩)
  case release => exact fun s c a hu h2 => .of_live_eq rfl a (if_pos ⟨hu, h2⟩)
  case timeout => exact fun s a h5 hr hl hc => .of_live_eq rfl a (if_pos ⟨h5, hr, hl, hc⟩)
  case holdoff => exact fun s e a hr h2 hh hb hf he => .of_live_eq rfl a (doHoldoffExpire_of_ready hr h2 hh hb hf he)
  case rearm => exact fun s a hf => .of_live_eq rfl a (if_pos (by simp [State.on, hf]))
  case rearmIdle => exact fun s a hf => .of_live_eq rfl a (if_neg (by simp [State.on, hf]))
  case act => exact fun s a hu h3 => ⟨.of_live_eq rfl a (if_neg (by simp [hu, h3])), fun hc => .of_live_eq rfl a (doActDone_of_idle hu h3 hc)⟩
  case health => exact fun s w a hu h3 hr hw => .of_live_eq rfl a (doHealth_of_unready hu h3 hr hw)
  case rejoin =>
    intro s a h6 hu hm hen hh
    have hhome : s.on R.SPR_CFG_HOME = false := by simp [State.on, hh]
    refine .of_live_eq rfl a ((if_pos ⟨h6, hu, by simp [State.on, hm], by simp [State.on, hen]⟩).trans ?_)
    simp [hhome]
  case notFenced => exact fun s a h6 => .of_live_eq rfl a (if_neg fun h => h6 h.1)
  case taking => exact fun s cause => startTaking_spec cause s

end Sys2Proof.Machine
end

section
/-! SUPPORT. Claims and conflicts: what a peer's claim and HELLO start, a lost claim, and the order of claims (R294, R298, R306, R315; log
entry 56). -/

namespace Sys2Proof.Machine

/-! ### The peer's claim -/

theorem claimRegs_pairState (s : State) : (claimRegs s).pairState = s.pairState := claimRegs_regsBut s R.SPR_STATUS_STATE (by decide)

theorem record_pairState (b : RecBody) (s : State) : (record b s).pairState = s.pairState :=
  (record_logged b s).regsBut R.SPR_STATUS_STATE (by decide)

/-- The unit that has kept a claim of its peer. -/
def claimKept (c : Nat) (s : State) : State := claimRegs { s with pair.peerClaim := max s.pair.peerClaim c }

theorem claimKept_pairState (c : Nat) (s : State) : (claimKept c s).pairState = s.pairState := claimRegs_pairState _

theorem mirroring_claimKept (c : Nat) (s : State) : mirroring (claimKept c s) = mirroring s := by
  rw [mirroring, claimKept_pairState]
  rfl

theorem standingBy_congr {s t : State} (h : t.pairState = s.pairState) : standingBy t = standingBy s := by
  rw [standingBy, h, standingBy]

section
variable {s : State} (hu : sparUp s = true) (role cause c prev peer : Nat)
include hu

/-- A claim is kept, and a unit that serves sequences it (R298). -/
theorem doSparClaim_of_up : doSparClaim role cause c prev peer s =
    (fun t : State => if ¬ (role = 0 ∧ cause = 3) then t else if standingBy t then goSolo 0 (setSynced false t)
      else if t.pairState = 3 then splitNow 0 t else t)
    (if mirroring (claimKept c s) ∨ (claimKept c s).pairState = 0 then record (.clm role cause c prev peer) (claimKept c s)
      else claimKept c s) :=
  if_neg (by simp [hu])

theorem doSparClaim_of_told (hm : mirroring (claimKept c s) = true ∨ (claimKept c s).pairState = 0) (hr : role ≠ 0 ∨ cause ≠ 3) :
    doSparClaim role cause c prev peer s = record (.clm role cause c prev peer) (claimKept c s) := by
  rw [doSparClaim_of_up hu, if_pos hm]
  exact if_pos (by omega)

theorem doSparClaim_of_unserving (hm : mirroring s = false) (h0 : s.pairState ≠ 0) (hr : role ≠ 0 ∨ cause ≠ 3) :
    doSparClaim role cause c prev peer s = claimKept c s := by
  rw [doSparClaim_of_up hu, if_neg (by simp [mirroring_claimKept, claimKept_pairState, hm, h0])]
  exact if_pos (by omega)

/-- The standby of a unit that unpairs goes on alone (R316). -/
theorem doSparClaim_of_standingBy (hb : standingBy s = true) :
    doSparClaim 0 3 c prev peer s = goSolo 0 (setSynced false (claimKept c s)) := by
  have hst : s.pairState = 1 ∨ s.pairState = 2 := by simpa [standingBy] using hb
  have hm : mirroring s = false := by simp only [mirroring]; rcases hst with h | h <;> simp [h]
  rw [doSparClaim_of_up hu, if_neg (by simp [mirroring_claimKept, claimKept_pairState, hm]; omega)]
  exact (if_neg (by simp)).trans (if_pos ((standingBy_congr (claimKept_pairState c s)).trans hb))

theorem doSparClaim_of_active (h3 : s.pairState = 3) :
    doSparClaim 0 3 c prev peer s = splitNow 0 (record (.clm 0 3 c prev peer) (claimKept c s)) := by
  have hst : (record (.clm 0 3 c prev peer) (claimKept c s)).pairState = 3 :=
    (record_pairState _ _).trans ((claimKept_pairState c s).trans h3)
  rw [doSparClaim_of_up hu, if_pos (.inl ((mirroring_claimKept c s).trans (by simp [mirroring, h3])))]
  exact (if_neg (by simp)).trans ((if_neg (by simp [standingBy, hst])).trans (if_pos hst))

end

/-! ### A lost claim (R306, R309) -/

/-- What a SEPARATED unit writes. -/
def separateFields : List Fld := R.SPR_STATUS_STATE :: R.SPR_STATUS_REASON :: R.SPR_INT_STATUS_SEPARATED :: eventFields

theorem separate_spec (reason : Nat) (s : State) : (separate reason s).pairState = 7 ∧ (separate reason s).pair = s.pair ∧
    RegsBut separateFields s (separate reason s) := by
  have hev : RegsBut eventFields (((setPair 7 s).wr R.SPR_STATUS_REASON reason).raise R.SPR_INT_STATUS_SEPARATED) (separate reason s) :=
    event_regsBut _ _ _ _
  have hraise : RegsBut [R.SPR_STATUS_REASON, R.SPR_INT_STATUS_SEPARATED] (setPair 7 s)
      (((setPair 7 s).wr R.SPR_STATUS_REASON reason).raise R.SPR_INT_STATUS_SEPARATED) :=
    ((RegsBut.refl _ _).wr (by simp) _).wr (by simp) _
  refine ⟨?_, ?_, ?_⟩
  · exact (hev _ (by decide)).trans ((hraise _ (by decide)).trans (pairState_setPair (by decide) s))
  · rw [separate, State.event_pair]
    exact setPair_pair 7 s
  · exact ((setPair_regsBut 7 s).mono (by simp [separateFields])).trans
      ((hraise.mono (by simp [separateFields])).trans (hev.mono (by simp [separateFields, eventFields])))

/-- The unit that has lost its claim, before it stops. -/
def claimGone (s : State) : State :=
  ((s.wr R.SPR_STATUS_CLAIM_LOST 1).raise R.SPR_INT_STATUS_FENCED).event 0x8401 0 (leBytes 8 s.pair.claim ++ [s.pair.fenceMember])

theorem claimGone_spec (s : State) : (claimGone s).rd R.SPR_STATUS_CLAIM_LOST = 1 ∧ (claimGone s).rd R.SPR_INT_STATUS_FENCED = 1 ∧
    (claimGone s).pairState = s.pairState ∧ (claimGone s).pair = s.pair := by
  have hev : RegsBut eventFields ((s.wr R.SPR_STATUS_CLAIM_LOST 1).raise R.SPR_INT_STATUS_FENCED) (claimGone s) := event_regsBut _ _ _ _
  refine ⟨(hev _ (by decide)).trans ?_, (hev _ (by decide)).trans ?_, (hev _ (by decide)).trans ?_, State.event_pair _ _ _ _⟩
  · exact (State.rd_raise_ne _ (by decide) _).trans (State.rd_wr_same _ _ _)
  · exact (State.rd_raise_same _ _ _).trans (or_one_mod_two _)
  · exact (State.rd_raise_ne _ (by decide) _).trans (State.rd_wr_ne _ (by decide) _)

/-- An active unit without its claim stops, and is FENCED, or SEPARATED where it was splitting (R310). -/
theorem claimLost_of_active {s : State} (hl : s.rd R.SPR_STATUS_CLAIM_LOST = 0) (h3 : s.pairState = 3) : claimLost s =
    if (memberStop (claimGone s)).pair.preempting.isEmpty then setPair 6 (fenceOut (memberStop (claimGone s)))
    else separate 6 (fenceOut { memberStop (claimGone s) with pair.preempting := [] }) := by
  have hst : (claimGone s).pairState = 3 := (claimGone_spec s).2.2.1.trans h3
  have hgone : claimLost s = (fun (st : Nat) (t : State) =>
      if st = 4 then separate 6 { t with pair.preempting := [] }
      else if st = 0 ∨ st = 3 ∨ st = 5 then
        if t.pair.preempting.isEmpty then setPair 6 (fenceOut t) else separate 6 (fenceOut { t with pair.preempting := [] })
      else t) (claimGone s).pairState
      (if (claimGone s).pairState = 1 ∨ (claimGone s).pairState = 2 then claimGone s else memberStop (claimGone s)) :=
    if_neg (by simp [State.on, hl])
  rw [hgone, hst]
  rfl

/-- What every end of an active unit's claim shows. -/
theorem claimLost_active_spec {s : State} (hl : s.rd R.SPR_STATUS_CLAIM_LOST = 0) (h3 : s.pairState = 3) :
    (claimLost s).rd R.SPR_STATUS_CLAIM_LOST = 1 ∧ (claimLost s).rd R.SPR_INT_STATUS_FENCED = 1 ∧
    (claimLost s).pair.fenceMember = s.pair.fenceMember ∧ (s.pair.preempting = [] → (claimLost s).pairState = 6) ∧
    (s.pair.preempting ≠ [] → (claimLost s).pairState = 7) := by
  obtain ⟨hlost, hfenced, -, hpair⟩ := claimGone_spec s
  obtain ⟨hregs, d, hp⟩ := memberStop_ended (claimGone s)
  rw [hpair] at hp
  have hend : ∀ v : State, RegsBut endFields (claimGone s) v → v.rd R.SPR_STATUS_CLAIM_LOST = 1 ∧ v.rd R.SPR_INT_STATUS_FENCED = 1 :=
    fun v hv => ⟨(hv _ (by decide)).trans hlost, (hv _ (by decide)).trans hfenced⟩
  rw [claimLost_of_active hl h3, hp]
  by_cases he : s.pair.preempting = []
  · obtain ⟨hregs', d', hp'⟩ := fenceOut_ended (memberStop (claimGone s))
    obtain ⟨h1, h2⟩ := hend _ (hregs.trans hregs')
    simp only [he, List.isEmpty_nil, if_true]
    refine ⟨?_, ?_, ?_, fun _ => pairState_setPair (by decide) _, fun h => absurd rfl h⟩
    · exact (setPair_regsBut 6 _ _ (by decide)).trans h1
    · exact (setPair_regsBut 6 _ _ (by decide)).trans h2
    · rw [setPair_pair, hp', hp]
  · obtain ⟨hregs', d', hp'⟩ := fenceOut_ended { memberStop (claimGone s) with pair.preempting := [] }
    obtain ⟨h1, h2⟩ := hend _ (hregs.trans (RegsBut.trans (.of_regs rfl) hregs'))
    obtain ⟨hst, hpair', hsep⟩ := separate_spec 6 (fenceOut { memberStop (claimGone s) with pair.preempting := [] })
    rw [if_neg (by simp [he])]
    refine ⟨?_, ?_, ?_, fun h => absurd h he, fun _ => hst⟩
    · exact (hsep _ (by decide)).trans h1
    · exact (hsep _ (by decide)).trans h2
    · rw [hpair', hp']
      have hmem := congrArg Pair.fenceMember hp
      exact hmem

/-! ### A conflict (R306) -/

/-- A drive that another unit's claim holds: this unit's keys on it have gone. -/
def lostTo (unit holder : Nat) (x : Drive) : Drive :=
  { x with holder := holder, keys := holder :: x.keys.filter fun k => claimUnit k ≠ unit && k ≠ holder }

/-- The unit notes the member and the claim that it has met. -/
def conflictNoted (m holder : Nat) (s : State) : State :=
  claimRegs { s with
    pair.fenceMember := m, pair.peerClaim := if claimUnit holder = s.unit then s.pair.peerClaim else max s.pair.peerClaim holder }

theorem conflictNoted_pair (m holder : Nat) (s : State) : (conflictNoted m holder s).pair = { s.pair with
    fenceMember := m, peerClaim := if claimUnit holder = s.unit then s.pair.peerClaim else max s.pair.peerClaim holder } := rfl

/-- The state in which a unit knows whose reservation its member command has met. -/
def conflictMet (a m holder : Nat) (s : State) : State :=
  drvInt R.DRV_INT_FENCE_PORTS (memDrv s a m) (conflictNoted m holder (s.modDrive (memDrv s a m) (lostTo s.unit holder)))

theorem drvInt_spec (f : Fld) (d : Nat) (s : State) : RegsBut [f] s (drvInt f d s) ∧ (drvInt f d s).pair = s.pair ∧ (drvInt f d s).ext = s.ext := by
  unfold drvInt
  split
  · exact ⟨(RegsBut.refl _ s).wr (by simp) _, rfl, rfl⟩
  · exact ⟨.refl _ s, rfl, rfl⟩

theorem conflictMet_pair (a m holder : Nat) (s : State) : (conflictMet a m holder s).pair = { s.pair with
    fenceMember := m, peerClaim := if claimUnit holder = s.unit then s.pair.peerClaim else max s.pair.peerClaim holder } := by
  have hunit : (s.modDrive (memDrv s a m) (lostTo s.unit holder)).unit = s.unit := State.modDrive_rd _ _ _ _
  rw [conflictMet, (drvInt_spec _ _ _).2.1, conflictNoted_pair, State.modDrive_pair, hunit]

theorem conflictMet_regsBut (a m holder : Nat) (s : State) : RegsBut (R.DRV_INT_FENCE_PORTS :: claimFields) s (conflictMet a m holder s) := by
  refine RegsBut.trans ?_ ((drvInt_spec _ _ _).1.mono (by simp))
  exact RegsBut.trans (.of_regs (State.modDrive_regs _ _ _))
    (RegsBut.trans (.of_regs rfl) ((claimRegs_regsBut _).mono (List.subset_cons_self _ _)))

theorem driveAt_conflictMet {s : State} {a m : Nat} {x : Drive} (h : driveAt s (memDrv s a m) = some x) (holder : Nat) :
    driveAt (conflictMet a m holder s) (memDrv s a m) = some (lostTo s.unit holder x) :=
  (driveAt_congr (drvInt_spec _ _ _).2.2 _).trans (driveAt_modDrive h _)

/-- A unit that is not home loses its claim, and no pair flaps. -/
theorem doReservationConflict_of_away {s : State} {a m : Nat} (ha : arrOn s a = true) (hm : m < memN s a)
    (hh : s.rd R.SPR_CFG_HOME = 0) (holder : Nat) : doReservationConflict a m holder s = claimLost (conflictMet a m holder s) := by
  have hhome : (conflictMet a m holder s).on R.SPR_CFG_HOME = false := by
    simp [State.on, conflictMet_regsBut a m holder s R.SPR_CFG_HOME (by decide), hh]
  have hmet : doReservationConflict a m holder s = (fun (home : Bool) (t : State) => if home then flapCheck t else t)
      ((conflictMet a m holder s).on R.SPR_CFG_HOME && ((conflictMet a m holder s).pairState = 3 || (conflictMet a m holder s).pairState = 5))
      (claimLost (conflictMet a m holder s)) := if_neg (by simp [ha, hm])
  rw [hmet, hhome]
  rfl

/-! ### The order of claims (R294) -/

/-- The epoch above the own one and above those of the keys that a claim must supersede. -/
def claimEpoch (ks : List Nat) (e : Nat) : Nat := ks.foldl (fun m k => if k = 0 then m else max m (k / 65536 + 1)) e

theorem nextClaim_eq (s : State) : nextClaim s = claimEpoch (s.pair.peerClaim :: foreignKeys s)
    (if max s.pair.claim s.pair.lastClaim = 0 then s.tet.epoch else max s.tet.epoch (max s.pair.claim s.pair.lastClaim / 65536 + 1)) %
      2 ^ 48 * 65536 + s.unit := rfl

theorem claimEpoch_bounds (ks : List Nat) (e : Nat) : e ≤ claimEpoch ks e ∧ (∀ k ∈ ks, k ≠ 0 → k / 65536 + 1 ≤ claimEpoch ks e) ∧
    (e < 2 ^ 48 → (∀ k ∈ ks, k < (2 ^ 48 - 1) * 65536) → claimEpoch ks e < 2 ^ 48) := by
  induction ks generalizing e with
  | nil => exact ⟨Nat.le_refl _, fun _ hk => absurd hk List.not_mem_nil, fun h _ => h⟩
  | cons k ks ih =>
    obtain ⟨hge, hks, hlt⟩ := ih (if k = 0 then e else max e (k / 65536 + 1))
    have hstep : claimEpoch (k :: ks) e = claimEpoch ks (if k = 0 then e else max e (k / 65536 + 1)) := rfl
    rw [hstep]
    refine ⟨?_, ?_, fun he hall => hlt ?_ fun x hx => hall x (List.mem_cons_of_mem _ hx)⟩
    · exact Nat.le_trans (by split <;> omega) hge
    · intro x hx h0
      rcases List.mem_cons.mp hx with rfl | hx
      · exact Nat.le_trans (by rw [if_neg h0]; exact Nat.le_max_right _ _) hge
      · exact hks x hx h0
    · have hk := hall k List.mem_cons_self
      split <;> omega

/-- A claim is its epoch and its unit; it is above every key whose epoch is lower. -/
theorem lt_claim {k e unit : Nat} (he : 0 < e) (hk : k ≠ 0 → k / 65536 + 1 ≤ e) : k < e * 65536 + unit := by
  by_cases h : k = 0
  · omega
  · have := hk h
    omega

/-- Settles O43: the branches of a claim, a HELLO and a conflict, the end of a lost claim, and the epoch of the next claim. -/
theorem claimsAreKept : Obligations.ClaimsAreKept := by
  unfold Obligations.ClaimsAreKept
  refine ⟨?told, ?unserving, ?unpairs, ?hello, ?helloOff, ?noMember, ?conflict, ?lost, ?taken, ?order⟩
  case told =>
    rintro s role cause c prev peer a hu - hr u rfl hm
    exact .of_live_eq rfl a (doSparClaim_of_told hu role cause c prev peer hm hr)
  case unserving =>
    exact fun s role cause c prev peer a hu hm h0 hr => .of_live_eq rfl a (doSparClaim_of_unserving hu role cause c prev peer hm h0 hr)
  case unpairs =>
    rintro s c prev peer u a hu rfl
    exact ⟨fun hb => .of_live_eq rfl a (doSparClaim_of_standingBy hu c prev peer hb),
      fun h3 => .of_live_eq rfl a (doSparClaim_of_active hu c prev peer h3)⟩
  case hello =>
    rintro s h a hu hen u rfl
    exact .of_live_eq rfl a (if_neg (by simp [hu, State.on, hen]))
  case helloOff => exact fun s h a hen => .of_live_eq rfl a (if_pos (.inr (by simp [State.on, hen])))
  case noMember =>
    exact fun s a m holder hs h => .of_live_eq rfl hs (if_pos (by simpa using h))
  case conflict =>
    intro s a m holder hs ha hm hh
    have hpair := conflictMet_pair a m holder s
    refine ⟨conflictMet a m holder s, .of_live_eq rfl hs (doReservationConflict_of_away ha hm hh holder), by rw [hpair], fun hne => ?_, ?_⟩
    · rw [hpair]
      exact if_neg hne
    · exact fun x hx => ⟨_, driveAt_conflictMet hx holder, rfl, List.mem_cons_self⟩
  case lost =>
    intro s a m holder hs ha hm hh hl h3
    have hpair := conflictMet_pair a m holder s
    have hregs := conflictMet_regsBut a m holder s
    obtain ⟨hlost, hfenced, hmem, h6, h7⟩ := claimLost_active_spec ((hregs _ (by decide)).trans hl) ((hregs R.SPR_STATUS_STATE (by decide)).trans h3)
    rw [hpair] at hmem h6 h7
    exact .of_live (congrArg (live s) (doReservationConflict_of_away ha hm hh holder)) hs ⟨hlost, hfenced, hmem, h6, h7⟩
  case taken =>
    intro s role cause
    obtain ⟨recs, bytes, h⟩ := takeClaim_pair role cause s
    exact ⟨congrArg Pair.claim h, congrArg Pair.lastClaim h⟩
  case order =>
    intro s hunit hepoch hclaim hlast hkeys hown
    have hstart : (if max s.pair.claim s.pair.lastClaim = 0 then s.tet.epoch
        else max s.tet.epoch (max s.pair.claim s.pair.lastClaim / 65536 + 1)) =
        max s.tet.epoch (max s.pair.claim s.pair.lastClaim / 65536 + 1) := if_neg (by omega)
    obtain ⟨hge, hall, hlt⟩ := claimEpoch_bounds (s.pair.peerClaim :: foreignKeys s)
      (max s.tet.epoch (max s.pair.claim s.pair.lastClaim / 65536 + 1))
    have hbound := hlt (by omega) hkeys
    rw [nextClaim_eq, hstart, Nat.mod_eq_of_lt hbound]
    refine ⟨?_, lt_claim (by omega) fun _ => by omega, lt_claim (by omega) fun _ => by omega, fun k hk => lt_claim (by omega) (hall k hk)⟩
    simp only [claimUnit]
    omega

end Sys2Proof.Machine
end

section
/-! SUPPORT. DUSK and NIGHT: requests, the steps of a stop, commit, wake and exit (R359 to R366; log entries 18 to 21). -/

namespace Sys2Proof.Machine

/-- A reply leaves the power control and the pair alone. -/
theorem replyTo_pwr_pair (h : MbxHdr) (op code d : Nat) (p : List Nat) (s : State) :
    (replyTo h op code d p s).pwr = s.pwr ∧ (replyTo h op code d p s).pair = s.pair := by
  unfold replyTo
  split
  · exact ⟨rfl, rfl⟩
  · cases h.src with
    | mctp e l => exact ⟨rfl, rfl⟩
    | bank b => by_cases he : code = eOk <;> simp [he]

/-! ### Requests (R360) -/

theorem doPwrCtrlNight_of_accepted {s : State} (h : nightCheck s = none) : doPwrCtrlNight s = nightAccept noHdr s := by
  rw [doPwrCtrlNight, h]

theorem doPwrCtrlNight_of_refused {s : State} {c : Nat} (h : nightCheck s = some c) : doPwrCtrlNight s = s.wr R.PWR_STATUS_LAST_ERR c := by
  rw [doPwrCtrlNight, h]

/-- An accepted request: preparation runs its first step, the wake latch is armed. -/
theorem nightAccept_spec (s : State) (h : MbxHdr) : (nightAccept h s).rd R.PWR_STATUS_STATE = 2 ∧ (nightAccept h s).rd R.PWR_STATUS_PREP_STEP = 1 ∧
    (nightAccept h s).pwr.latch = 0 ∧ (nightAccept h s).pwr.nightReq = some h := by
  refine ⟨?_, State.rd_wr_same _ _ _, rfl, rfl⟩
  exact (State.rd_wr_ne _ (by decide) _).trans (State.rd_wr_same _ _ _)

/-! ### Preparation (R361) and its end -/

section
variable {s : State} {h : MbxHdr} (hn : s.pwr.nightReq = some h)
include hn

theorem doNightPreparationStep_of_night (h2 : s.rd R.PWR_STATUS_STATE = 2) (hp : s.pwr.prepDone = false) :
    doNightPreparationStep s = if (nightBad s).isSome then nightAbortNow s
      else if ¬ (stopStep (s.rd R.PWR_STATUS_PREP_STEP) s).1 then (stopStep (s.rd R.PWR_STATUS_PREP_STEP) s).2
      else if s.rd R.PWR_STATUS_PREP_STEP = 6 then { (stopStep (s.rd R.PWR_STATUS_PREP_STEP) s).2 with pwr.prepDone := true }
      else (stopStep (s.rd R.PWR_STATUS_PREP_STEP) s).2.wr R.PWR_STATUS_PREP_STEP (s.rd R.PWR_STATUS_PREP_STEP + 1) := by
  rw [doNightPreparationStep, hn]
  exact if_neg (by simp [h2, hp])

theorem nightAbortNow_of_requested : nightAbortNow s = mbxErr h opNight eState (State.raise (State.wr (State.wr (State.wr
    { s with pwr.nightReq := none, pwr.latch := 0, pwr.prepDone := false } R.PWR_STATUS_STATE 0) R.PWR_STATUS_PREP_STEP 0) R.PWR_STATUS_LAST_ERR eState)
    R.PWR_INT_STATUS_NIGHT_ABORT) := by
  rw [nightAbortNow, hn]

/-- A NIGHT that is aborted leaves the device at NOON. -/
theorem nightAbortNow_spec : (nightAbortNow s).pwr.nightReq = none ∧ (nightAbortNow s).rd R.PWR_STATUS_STATE = 0 ∧
    (nightAbortNow s).rd R.PWR_INT_STATUS_NIGHT_ABORT = 1 := by
  rw [nightAbortNow_of_requested hn]
  refine ⟨congrArg Pwr.nightReq (replyTo_pwr_pair _ _ _ _ _ _).1, ?_, ?_⟩
  · refine (replyTo_rd _ _ _ _ _ _ (by decide) (by decide)).trans ?_
    refine (State.rd_raise_ne _ (by decide) _).trans ?_
    rw [State.rd_wr_ne _ (by decide), State.rd_wr_ne _ (by decide), State.rd_wr_same, Nat.zero_mod]
  · refine (replyTo_rd _ _ _ _ _ _ (by decide) (by decide)).trans ?_
    exact (State.rd_raise_same _ _ _).trans (or_one_mod_two _)

end

/-- The last step of a shutdown reports it (R420). -/
theorem doNightPreparationStep_of_shutdown {s : State} {h : MbxHdr} (hn : s.pwr.nightReq = none) (hs : s.pwr.shutdownReq = some h)
    (h5 : s.pwr.shutStep = 5) : doNightPreparationStep s = shutdownEnd h (stopStep 5 s).2 := by
  rw [doNightPreparationStep, hn, hs, h5]
  rfl

/-! ### Entry, wake and exit (R362 to R366) -/

/-- The device enters NIGHT: nothing is served, the memory refreshes itself. -/
theorem doNightCommit_spec {s : State} (hp : s.pwr.prepDone = true) (hq : s.wsk.queue = []) (hs : s.wsk.staged = none) :
    (doNightCommit s).pwr.inNight = true ∧ (doNightCommit s).pwr.nightReq = none ∧ (doNightCommit s).pwr.prepDone = false ∧
    (doNightCommit s).bsk.selfRefresh = true ∧ (doNightCommit s).rd R.PWR_STATUS_STATE = 3 ∧ (doNightCommit s).rd R.PWR_STATUS_PREP_STEP = 0 := by
  rw [doNightCommit, if_neg (by simp [hp, hq, hs])]
  dsimp only
  refine ⟨rfl, rfl, rfl, rfl, ?_, ?_⟩
  · rw [State.rd_wr_ne _ (by decide), State.rd_wr_same]
    rfl
  · rw [State.rd_wr_same, Nat.zero_mod]

section
variable {s : State} (h3 : s.rd R.PWR_STATUS_STATE = 3) (hi : s.pwr.inNight = true)
include h3 hi

theorem doNightEntryComplete_of_entering (us : Nat) : doNightEntryComplete us s = if s.pwr.latch ≠ 0 then
    wakeStart ((s.wr R.PWR_TIMES_ENTRY_US (min us 65535)).wr R.PWR_STATUS_STATE 4)
    else (s.wr R.PWR_TIMES_ENTRY_US (min us 65535)).wr R.PWR_STATUS_STATE 4 :=
  if_neg (by simp [h3, hi])

end

section
variable {s : State} {src : Nat} (hp : s.pwr.powered = true) (h4 : src < 4) (he : bit (wakeEn s) src = true)
include hp h4 he

theorem doWakeEvent_of_enabled : doWakeEvent src s =
    if s.pwr.nightReq.isSome ∨ (s.pwr.inNight ∧ s.rd R.PWR_STATUS_STATE = 3) then { s with pwr.latch := s.pwr.latch ||| 2 ^ src }
    else if s.pwr.inNight ∧ s.rd R.PWR_STATUS_STATE = 4 then wakeStart { s with pwr.latch := 2 ^ src } else s :=
  if_neg (by simp [hp, h4, he])

end

/-- An exit runs: the wake's sources are shown, and the latch is free. -/
theorem wakeStart_spec (s : State) : (wakeStart s).rd R.PWR_STATUS_STATE = 5 ∧ (wakeStart s).pwr.latch = 0 ∧
    (wakeStart s).rd R.PWR_RET_STATUS_VALID = 1 := by
  have hvalid : (wakeCount s.pwr.latch s).rd R.PWR_RET_STATUS_VALID = 1 := State.rd_wr_same _ _ _
  exact ⟨State.rd_wr_same _ _ _, rfl, (State.rd_wr_ne _ (by decide) _).trans hvalid⟩

/-- The mask of the failed banks has 24 bits. -/
theorem doNightExitComplete_of_leaving {s : State} {m : Nat} (h5 : s.rd R.PWR_STATUS_STATE = 5) (hi : s.pwr.inNight = true) (hm : m < 2 ^ 24)
    (us : Nat) : doNightExitComplete us m s = (fun u : State => if bit m 13 then retRestart 1 m u
      else if bit m 0 ∨ bit m 1 then retRestart 5 m u else noon (u.rd R.PWR_WAKE_SRC_SRC) m u) (s.wr R.PWR_TIMES_EXIT_US (min us 65535)) := by
  rw [doNightExitComplete, if_neg (by simp [h5, hi]), Nat.mod_eq_of_lt hm]

/-- Settles O48: each row is one branch of its command. -/
theorem nightIsEnteredAndLeft : Obligations.NightIsEnteredAndLeft := by
  unfold Obligations.NightIsEnteredAndLeft
  refine ⟨?enter, ?exit, ?accepted, ?refused, nightAccept_spec, ?step, ?stopped, ?shutdown, ?abort, ?commit, ?entered, ?enteredWoken, ?latched, ?woken,
    ?left, wakeStart_spec⟩
  case enter => exact fun s a hr h0 hd hi => .of_live_eq rfl a (if_pos ⟨hr, h0, hd, hi⟩)
  case exit => exact fun s a h1 => .of_live_eq rfl a (if_pos h1)
  case accepted => exact fun s a h => .of_live_eq rfl a (doPwrCtrlNight_of_accepted h)
  case refused => exact fun s c a h => .of_live_eq rfl a (doPwrCtrlNight_of_refused h)
  case step =>
    rintro s h k a hn h2 hp rfl hb
    have hrun := doNightPreparationStep_of_night hn h2 hp
    rw [hb, if_neg (by simp)] at hrun
    refine ⟨fun hdone h6 => .of_live_eq rfl a ?_, fun h6 => .of_live_eq rfl a ?_, fun hnot => .of_live_eq rfl a ?_⟩
    · rw [hrun, if_neg (by simp [hdone]), if_neg h6]
    · rw [h6] at hrun
      exact hrun
    · rw [hrun, if_pos (by simp [hnot])]
  case stopped =>
    intro s h c a hn h2 hp hb
    have hrun : doNightPreparationStep s = nightAbortNow s := (doNightPreparationStep_of_night hn h2 hp).trans (if_pos (by simp [hb]))
    exact .of_live (congrArg (live s) hrun) a (nightAbortNow_spec hn)
  case shutdown => exact fun s h a hn hs h5 => .of_live_eq rfl a (doNightPreparationStep_of_shutdown hn hs h5)
  case abort =>
    intro s h cause a hn hp hc
    have hrun : doNightAbort cause s = nightAbortNow s := (if_neg (by simp [hn, hp])).trans (if_neg fun h => hc h.1)
    exact .of_live_eq rfl a (hrun.trans (nightAbortNow_of_requested hn))
  case commit => exact fun s a hp hq hs => Runs.of_live rfl a (doNightCommit_spec hp hq hs)
  case entered => exact fun s us h3 hi hl => .of_fin_eq rfl ((doNightEntryComplete_of_entering h3 hi us).trans (if_neg (not_not_intro hl)))
  case enteredWoken => exact fun s us h3 hi hl => .of_fin_eq rfl ((doNightEntryComplete_of_entering h3 hi us).trans (if_pos hl))
  case latched => exact fun s src hp h4 he hn => .of_fin_eq rfl ((doWakeEvent_of_enabled hp h4 he).trans (if_pos (.inl hn)))
  case woken =>
    intro s src hp h4 he hn hi hst
    refine .of_fin_eq rfl ((doWakeEvent_of_enabled hp h4 he).trans ((if_neg ?_).trans (if_pos ⟨hi, hst⟩)))
    simp [hn, hst]
  case left =>
    rintro s us m h5 hi hm u rfl
    have hrun := doNightExitComplete_of_leaving h5 hi hm us
    refine ⟨fun h13 => .of_fin_eq rfl (hrun.trans (if_pos h13)), fun h13 h01 => .of_fin_eq rfl (hrun.trans ?_),
      fun h13 h0 h1 => .of_fin_eq rfl (hrun.trans ?_)⟩
    · exact (if_neg (by simp [h13])).trans (if_pos h01)
    · exact (if_neg (by simp [h13])).trans (if_neg (by simp [h0, h1]))

end Sys2Proof.Machine
end

section
/-! SUPPORT. The mailbox's reads, SHUTDOWN and unknown opcodes (R388, R392, R420; log entries 11 and 60). -/

namespace Sys2Proof.Machine

/-! ### Requests that ask for no active unit -/

/-- A command outside R394 that carries no token and needs no shared time: its own action, past its checks, is its whole effect. -/
theorem Gives.mbxAny {h : MbxHdr} {m : MbxSpec} {act : MbxHdr → State → State} {s r : State} {c : Instr} {o : MbxOp} {k : Nat}
    (hm : MbxReady h s) (he : exec c s = live s (mbxArrive h o s)) (hd : ∀ x, mbxDo h o x = mbxRunCmd h m act x) (hop : m.op = k)
    (hc : claimed k = false) (ht : m.time = false)
    (hk : m.tok = none) (hl : m.lenOk = true) (hf : m.fieldBad = false) (hb : m.rangeBad = false) (hr : act h (mbxTaken h (opOf o) s) = r) :
    Gives c s r :=
  Gives.mbx hm he hd hl hf hb (fun h => absurd (ht.symm.trans h) Bool.false_ne_true) hk (of_claimed_false hop hc) hr

theorem countOk_of_le {n m : Nat} (h1 : 1 ≤ n) (hm : n ≤ m) : countOk n m = true := by simp [countOk, h1, hm]

theorem lenOk_of_count {l k n m : Nat} (hl : l = k) (h1 : 1 ≤ n) (hm : n ≤ m) : (decide (l = k) && countOk n m) = true := by
  rw [countOk_of_le h1 hm, decide_eq_true hl]
  rfl

/-! ### Reads -/

theorem regReadGo_of_words {h : MbxHdr} {off n : Nat} {u v : State} {vs : List Nat} (hr : readWords (actLink h) off n u = (some vs, v)) :
    regReadGo off n h u = mbxReply h 1 eOk 0 (vs.flatMap (leBytes 4)) v := by
  rw [regReadGo, hr]

theorem regWriteGo_of_block {off : Nat} (hw : windowOf off = 0) (hb : inBlock off = true) (v : Nat) (h : MbxHdr) (u : State) :
    regWriteGo off v h u = mbxReply h 2 (writeReg (actLink h) off v u).1 0 [] (writeReg (actLink h) off v u).2 :=
  (if_neg (not_not_intro hw)).trans (if_neg (not_not_intro hb))

/-- The bytes that SUMMARY_READ gives. -/
def summariesRead (first n : Nat) (s : State) : List Nat := (rangeFrom first n).flatMap fun p : Nat =>
  match (unitAt s p).bind fun x => s.str.summaries.find? fun b => b.unit = x with
  | some b => summaryBytes b
  | none => List.replicate 32 0

theorem summaryReadGo_of_reel {u : State} {first n : Nat} (hr : isReel u = true) (hn : first + n ≤ strSize u) (h : MbxHdr) :
    summaryReadGo first n h u = mbxReply h 0x0304 eOk 0 (summariesRead first n u) u :=
  (if_neg (not_not_intro hr)).trans (if_neg (Nat.not_lt.2 hn))

theorem wskReadGo_of_open {u : State} {off len : Nat} (ho : wskIsOpen u = true) (hl : len ≤ 4080) (hend : off + len ≤ 2 ^ 20)
    (hb : wskBad u off len = false) (h : MbxHdr) : wskReadGo off len h u = mbxReply h 0x0501 eOk 0 (wskBytes u off len) u :=
  (if_neg (by simp [ho])).trans ((if_neg (by omega)).trans (if_neg (by simp [hb])))

/-! ### SHUTDOWN (R420) -/

section
variable {u : State} (hr : u.ready = true) (hs : u.safe = false) (h : MbxHdr)
include hr hs

theorem shutdownGo_of_done (hd : u.pwr.shutdownDone = true) : shutdownGo h u = mbxOk h 4 u :=
  (if_neg (by simp [hr, hs])).trans (if_pos hd)

theorem shutdownGo_of_running (hd : u.pwr.shutdownDone = false) (hq : u.pwr.shutdownReq = none) (hn : u.pwr.nightReq = none) :
    shutdownGo h u = { u with pwr.shutdownReq := some h, pwr.shutStep := 1 } :=
  (if_neg (by simp [hr, hs])).trans ((if_neg (by simp [hd])).trans (if_neg (by simp [hq, hn])))

end

/-- A step that has ended starts the next one. -/
theorem doNightPreparationStep_of_shutting {s : State} {h : MbxHdr} (hn : s.pwr.nightReq = none) (hq : s.pwr.shutdownReq = some h)
    (h5 : s.pwr.shutStep < 5) (he : (stopStep s.pwr.shutStep s).1 = true) :
    doNightPreparationStep s = { (stopStep s.pwr.shutStep s).2 with pwr.shutStep := s.pwr.shutStep + 1 } := by
  rw [doNightPreparationStep, hn, hq]
  exact (if_neg (by simp [he])).trans (if_neg (by omega))

/-- The end of a shutdown is reported in every controller of the hosts, and replied. -/
theorem shutdownEnd_spec {h : MbxHdr} (hr : h.resvBad = false) (s : State) : (shutdownEnd h s).pwr.shutdownDone = true ∧
    (shutdownEnd h s).pwr.shutdownReq = none ∧ Replied h 4 eOk (shutdownEnd h s) ∧
    ∀ c ∈ (shutdownEnd h s).ce.ctrls, c.fabric = false → c.shst = 2 := by
  unfold shutdownEnd
  dsimp only
  refine ⟨congrArg Pwr.shutdownDone (replyTo_pwr_pair _ _ _ _ _ _).1, congrArg Pwr.shutdownReq (replyTo_pwr_pair _ _ _ _ _ _).1,
    replied_mbxOk hr _ _, fun c hc hf => ?_⟩
  obtain ⟨⟨-, -, -, hce⟩, -⟩ := replyTo_work h opShutdown eOk 0 [] _
  rw [mbxOk, mbxReply, hce, List.mem_map] at hc
  obtain ⟨x, -, rfl⟩ := hc
  by_cases hx : x.fabric = true
  · rw [if_pos hx] at hf
    exact absurd (hx.symm.trans hf) (by decide)
  · rw [if_neg hx]

/-! ### Unknown opcodes -/

theorem doMbxUnsupportedOpcode_of_unknown {s : State} {h : MbxHdr} {opc : Nat} (hm : MbxReady h s) (ho : opc ∉ mbxCodes) :
    doMbxUnsupportedOpcode h opc s = mbxErr h opc eUnsup (mbxTaken h opc s) := by
  have ⟨_, hlen, hresv, _⟩ := hm
  have hh : ({ h with resvBad := false } : MbxHdr) = h := by rw [← hresv]
  rw [doMbxUnsupportedOpcode, if_neg (by simpa using ho), mbxArrive_ready hm]
  show mbxErr { h with resvBad := false } opc (if 4080 < h.len then eRange else eUnsup) (mbxTaken h opc s) = _
  rw [hh, if_neg (by omega)]

/-- Settles O54: each read passes the checks of its row, and its reply carries what it reads. -/
theorem mailboxReadsAnswer : Obligations.MailboxReadsAnswer := by
  unfold Obligations.MailboxReadsAnswer
  refine ⟨?regRead, ?regWrite, ?stepLog, ?shutdown, ?shutdownDone, ?steps, ?summary, ?directory, ?windsock, ?namespaces, ?unknown, ?known⟩
  case regRead =>
    rintro s h off n vs v u hm hl h1 hn ho rfl hr
    exact .mbxAny (o := .regRead off n) (k := 1) hm rfl (fun _ => rfl) rfl rfl rfl rfl (lenOk_of_count hl h1 hn) (by simp [ho]) rfl
      (regReadGo_of_words hr)
  case regWrite =>
    rintro s h off v u hm hl ho hw hb rfl
    exact .mbxAny (o := .regWrite off v) (k := 2) hm rfl (fun _ => rfl) rfl rfl rfl rfl (decide_eq_true hl) (by simp [ho]) rfl
      (regWriteGo_of_block hw hb v h _)
  case stepLog =>
    rintro s h first n u hm hl h1 hn hf rfl
    exact .mbxAny (o := .stepLogRead first n) (k := 3) hm rfl (fun _ => rfl) rfl rfl rfl rfl (lenOk_of_count hl h1 hn) rfl
      (decide_eq_false (Nat.not_lt.2 hf)) rfl
  case shutdown =>
    intro s h u hm hl hu hr hs hd hq hn
    exact .mbxAny (o := .shutdown) (k := 4) hm rfl (fun _ => rfl) rfl rfl rfl rfl (decide_eq_true hl) rfl rfl
      ((congrArg _ hu.symm).trans (shutdownGo_of_running hr hs h hd hq hn))
  case shutdownDone =>
    intro s h u hm hl hu hr hs hd
    exact .mbxAny (o := .shutdown) (k := 4) hm rfl (fun _ => rfl) rfl rfl rfl rfl (decide_eq_true hl) rfl rfl
      ((congrArg _ hu.symm).trans (shutdownGo_of_done hr hs h hd))
  case steps =>
    intro s h a hn hq
    refine ⟨fun h5 he => .of_live_eq rfl a (doNightPreparationStep_of_shutting hn hq h5 he), fun h5 hr => ?_⟩
    obtain ⟨hdone, hreq, hrep, hctrls⟩ := shutdownEnd_spec hr (stopStep 5 s).2
    exact .of_live (congrArg (live s) (doNightPreparationStep_of_shutdown hn hq h5)) a ⟨hdone, hreq, settle_mem hrep, hctrls⟩
  case summary =>
    rintro s h first n u hm hl h1 hn hreel hsize rfl
    have hr : isReel (mbxTaken h 0x0304 s) = true := by
      simpa only [isReel, State.on, mbxTaken_rd h 0x0304 s R.STG_STATUS_REEL (by decide) (by decide)] using hreel
    have hz : strSize (mbxTaken h 0x0304 s) = strSize s := mbxTaken_rd h 0x0304 s R.STG_RING_SIZE (by decide) (by decide)
    exact ⟨_, .mbxAny (o := .summaryRead first n) (k := 0x0304) hm rfl (fun _ => rfl) rfl rfl rfl rfl (lenOk_of_count hl h1 hn) rfl rfl
      (summaryReadGo_of_reel hr (hz ▸ hsize) h), rfl⟩
  case directory =>
    rintro s h first n u hm hl h1 hn hend hj rfl
    have hst : strState (mbxTaken h 0x0305 s) = sJoined := (mbxTaken_rd h 0x0305 s R.STG_STATUS_STATE (by decide) (by decide)).trans hj
    exact ⟨_, .mbxAny (o := .directoryRead first n) (k := 0x0305) hm rfl (fun _ => rfl) rfl rfl rfl rfl (lenOk_of_count hl h1 hn) rfl
      (decide_eq_false (Nat.not_lt.2 hend)) (if_neg (not_not_intro hst)), rfl⟩
  case windsock =>
    rintro s h off len u hm hl rfl ho hlen hend hb
    have hopen : wskIsOpen (mbxTaken h 0x0501 s) = true := by
      simpa only [wskIsOpen, State.on, mbxTaken_rd h 0x0501 s R.WSK_CFG_ACCESS (by decide) (by decide)] using ho
    exact .mbxAny (o := .wskRead off len) (k := 0x0501) hm rfl (fun _ => rfl) rfl rfl rfl rfl (decide_eq_true hl) rfl rfl
      (wskReadGo_of_open hopen hlen hend hb h)
  case namespaces =>
    rintro s h first n u hm hl h1 hn hend rfl
    exact ⟨_, .mbxAny (o := .nsList first n) (k := 0x0203) hm rfl (fun _ => rfl) rfl rfl rfl rfl (lenOk_of_count hl h1 hn) rfl rfl
      (if_neg (Nat.not_lt.2 hend)), rfl⟩
  case unknown =>
    rintro s h opc u hm ho rfl
    exact .of_live_eq rfl hm.1 (doMbxUnsupportedOpcode_of_unknown hm ho)
  case known => exact fun s h opc ho => .of_live_same rfl (if_pos (by simpa using ho))

end Sys2Proof.Machine
end

section
/-! SUPPORT. PAIR_UNPAIR where a register reads more than its width holds: a member entry beyond the array's sixteen shows SPR_STATUS, so
that a claim, which clears CLAIM_LOST, moves a member to a drive that another unit holds (R306, R310, R316). -/

namespace Sys2Proof.Machine

/-! ### The drives of a unit -/

/-- The places of members, spares and copyback destinations, as they are listed. -/
def resvPlaces (s : State) : List Nat :=
  ((List.range 16).flatMap fun a => if arrOn s a then
      ((List.range (memN s a)).filter fun m => ¬ missing s a m || hasTarget s a m).map (memDrv s a) else []) ++
    ((List.range 8).filter fun k => s.on (R.STR_SPAREk_VALID k)).map (spareDrv s) ++
    (List.range 16).filterMap fun a => (s.arr a).cb.map (·.dest)

theorem resvDrives_eq (s : State) : resvDrives s = ((resvPlaces s).eraseDups).filter fun d => (driveAt s d).isSome := rfl

theorem memDrv_mem_resvPlaces {s : State} {a m : Nat} (ha : a < 16) (hon : arrOn s a = true) (hm : m < memN s a)
    (hp : missing s a m = false) : memDrv s a m ∈ resvPlaces s := by
  refine List.mem_append_left _ (List.mem_append_left _ (List.mem_flatMap.mpr ⟨a, List.mem_range.mpr ha, ?_⟩))
  rw [if_pos hon]
  exact List.mem_map_of_mem (List.mem_filter.mpr ⟨List.mem_range.mpr hm, by simp [hp]⟩)

/-- Of a list whose one good element is `a`, dropping repetitions and bad elements leaves `a`. -/
theorem filter_eraseDups_eq_singleton {p : Nat → Bool} {a : Nat} (l : List Nat) (hall : ∀ x ∈ l, p x = true → x = a) (hp : p a = true)
    (ha : a ∈ l) : l.eraseDups.filter p = [a] := by
  match l with
  | [] => exact absurd ha List.not_mem_nil
  | x :: xs =>
    rw [List.eraseDups_cons]
    by_cases hx : x = a
    · subst hx
      rw [List.filter_cons_of_pos hp, List.filter_eq_nil_iff.mpr fun y hy hpy => ?_]
      rw [List.mem_eraseDups, List.mem_filter] at hy
      have := hall y (List.mem_cons_of_mem _ hy.1) hpy
      simp [this] at hy
    · rw [List.filter_cons_of_neg fun hpx => hx (hall x List.mem_cons_self hpx)]
      refine filter_eraseDups_eq_singleton _ (fun y hy => hall y (List.mem_cons_of_mem _ (List.mem_filter.mp hy).1)) hp ?_
      exact List.mem_filter.mpr ⟨(List.mem_cons.mp ha).resolve_left fun h => hx h.symm, by simpa using fun h => hx h.symm⟩
termination_by l.length
decreasing_by
  have := List.length_filter_le (fun b => !b == x) xs
  simp only [List.length_cons]
  omega

/-! ### Reservation commands at a drive that another unit holds -/

section
variable {s : State} {d : Nat} {x : Drive} (hx : driveAt s d = some x) (hr : x.desc.resvOk = true)
include hx hr

/-- A registration leaves another unit's reservation. -/
theorem driveAt_resvRegister (hu : claimUnit x.holder ≠ s.unit) (hk : x.keys = []) :
    driveAt (resvRegister d s) d = some { x with keys := [s.pair.claim] } := by
  have hf : fenced s d = true := by simp [fenced, hx, hr]
  rw [resvRegister, if_neg (not_not_intro hf)]
  refine (driveAt_modDrive hx _).trans ?_
  simp [hu, hk]

/-- A preemption of a drive that holds this unit's key alone changes nothing in it. -/
theorem driveAt_resvPreempt (hh : x.holder ≠ 0) (hk : x.keys = [s.pair.claim]) : driveAt (resvPreempt d s) d = some x := by
  have hpre : resvPreempt d s = s.modDrive d fun y => { y with
      keys := y.keys.filter (fun k => ¬ [].contains k), holder := if y.holder = 0 ∨ [].contains y.holder then s.pair.claim else y.holder } := by
    have hks : x.keys.filter (fun k => claimUnit k ≠ s.unit && decide (k < s.pair.claim)) = [] := by simp [hk]
    rw [resvPreempt, hx]
    dsimp only
    rw [if_neg (not_not_intro hr), hks]
    rfl
  rw [hpre, driveAt_modDrive hx]
  simp [hh]

/-- A reservation of another unit cannot be acquired (R306). -/
theorem resvAcquire_of_foreign (hh : x.holder ≠ 0) (hu : claimUnit x.holder ≠ s.unit) :
    resvAcquire d s = (false, s.emit (.drive d 3 [s.pair.claim])) := by
  rw [resvAcquire, hx]
  exact (if_neg (not_not_intro hr)).trans (if_pos ⟨hh, hu⟩)

end

theorem resvPreempt_regs_pair (d : Nat) (s : State) : (resvPreempt d s).regs = s.regs ∧ (resvPreempt d s).pair = s.pair := by
  unfold resvPreempt
  split
  · exact ⟨rfl, rfl⟩
  · split
    · exact ⟨rfl, rfl⟩
    · rw [each_emit]
      exact ⟨State.modDrive_regs _ _ _, State.modDrive_pair _ _ _⟩

/-! ### The state -/

/-- A drive that unit 5 holds. -/
def foreignDrive : Drive := { blankDrive ⟨1, 300000, 0, true, true, true, true, 0⟩ with holder := 5 }

/-- An active home unit of a pair that has lost its claim, with one array whose member count reads 2,620,402 (six bits hold 63): the
field of member entry 2,620,401 is SPR_STATUS. -/
def wideUnit : State := { State.reset with
  regs := [((R.STR_An_GEOM_MEMBERS 0).key, 2620402), ((R.STR_An_GEOM_EN 0).key, 1), (R.SPR_STATUS_STATE.key, 3),
    (R.SPR_STATUS_CLAIM_LOST.key, 1), (R.SPR_CFG_HOME.key, 1)],
  dwn.step := 17, ext.drives := [(6, some foreignDrive)] }

/-- A request of MCTP endpoint 8. -/
def unpairRequest : MbxHdr := ⟨.mctp 8 0, 1, 0, false⟩

theorem wideUnit_ready : MbxReady unpairRequest wideUnit :=
  ⟨by decide, by decide, by decide, by decide, by decide, by decide, by decide, by change mctpOpen _ _ = false; decide⟩

/-- No member entry names the drive yet. -/
theorem memDrv_wideUnit_ne (m : Nat) : memDrv wideUnit 0 m ≠ 6 := by
  simp only [memDrv, State.rd, wideUnit, SMap.get, Fld.key, R.STR_An_MEMBERk_PORT, R.STR_An_MEMBERk_SUB, R.STR_An_GEOM_MEMBERS,
    R.STR_An_GEOM_EN, R.SPR_STATUS_STATE, R.SPR_STATUS_CLAIM_LOST, R.SPR_CFG_HOME, Nat.xor_zero]
  split_ifs <;> omega

theorem driveAt_wideUnit {d : Nat} (h : (driveAt wideUnit d).isSome = true) : d = 6 := by
  by_contra hne
  have : driveAt wideUnit d = none := by
    simp only [driveAt, wideUnit, SMap.get]
    rw [if_neg (Ne.symm hne)]
  simp [this] at h

theorem arrOn_wideUnit {a : Nat} (h : a < 16) (hon : arrOn wideUnit a = true) : a = 0 := by
  have : ∀ a < 16, arrOn wideUnit a = true → a = 0 := by decide
  exact this a h hon

section
variable {u : State} (hregs : u.regs = wideUnit.regs)
include hregs

/-- Before its claim the unit has no drive. -/
theorem resvDrives_of_wide (harrs : u.arrs = wideUnit.arrs) (hext : u.ext = wideUnit.ext) : resvDrives u = [] := by
  have hspare : ∀ k < 8, wideUnit.on (R.STR_SPAREk_VALID k) = false := by decide
  have hcb : ∀ a < 16, ((wideUnit.arr a).cb.map (·.dest)) = none := by decide
  rw [resvDrives_eq, List.filter_eq_nil_iff]
  intro d hd hsome
  rw [driveAt_congr hext] at hsome
  obtain rfl := driveAt_wideUnit hsome
  rw [List.mem_eraseDups, resvPlaces, List.mem_append, List.mem_append] at hd
  rcases hd with (hd | hd) | hd
  · obtain ⟨a, ha, hd⟩ := List.mem_flatMap.mp hd
    have hon : arrOn u a = arrOn wideUnit a := by simp only [arrOn, State.on, State.rd_congr hregs]
    split at hd
    · next h =>
      obtain rfl := arrOn_wideUnit (List.mem_range.mp ha) (hon.symm.trans h)
      obtain ⟨m, -, hm⟩ := List.mem_map.mp hd
      exact memDrv_wideUnit_ne m ((memDrv_congr hregs 0 m).symm.trans hm)
    · exact absurd hd List.not_mem_nil
  · obtain ⟨k, hk, -⟩ := List.mem_map.mp hd
    rw [List.mem_filter, List.mem_range, State.on, State.rd_congr hregs] at hk
    exact absurd (hk.2.symm.trans (hspare k hk.1)) (by decide)
  · obtain ⟨a, ha, hd⟩ := List.mem_filterMap.mp hd
    rw [State.arr, harrs] at hd
    exact absurd ((hcb a (List.mem_range.mp ha)).symm.trans hd) (by simp)

end

/-- With CLAIM_LOST cleared, a member entry names the drive. -/
theorem resvDrives_of_claimed {t : State} (hon : arrOn t 0 = true) (hn : memN t 0 = 2620402) (hm : t.rd (R.STR_An_MISSMAP_MISS 0) = 0)
    (h3 : t.pairState = 3) (hl : t.rd R.SPR_STATUS_CLAIM_LOST = 0) (hext : t.ext = wideUnit.ext) : resvDrives t = [6] := by
  have hdrv : memDrv t 0 2620401 = 6 := by
    have hp : t.rd (R.STR_An_MEMBERk_PORT 0 2620401) = 3 := h3
    have hs : t.rd (R.STR_An_MEMBERk_SUB 0 2620401) = 0 := hl
    rw [memDrv, hp, hs]
  have hhere : (driveAt t 6).isSome = true := by rw [driveAt_congr hext]; rfl
  refine filter_eraseDups_eq_singleton _ (fun x _ hx => driveAt_wideUnit ?_) hhere ?_
  · rwa [driveAt_congr hext] at hx
  · rw [← hdrv]
    exact memDrv_mem_resvPlaces (by omega) hon (by omega) (by rw [missing, hm, bit, Nat.zero_div]; rfl)

/-- A unit that finds its one drive held by another loses the claim that it has taken: it is SEPARATED. -/
theorem splitDrives_of_foreign {w : State} (hds : resvDrives w = [6]) (hx : driveAt w 6 = some foreignDrive) (hu : w.unit = 0)
    (h3 : w.pairState = 3) (hl : w.rd R.SPR_STATUS_CLAIM_LOST = 0) (hp : w.pair.preempting = [6]) :
    (splitDrives w).rd R.SPR_STATUS_CLAIM_LOST = 1 ∧ (splitDrives w).pairState = 7 := by
  obtain ⟨hrr, hrp⟩ := resvRegister_regs_pair 6 w
  obtain ⟨hpr, hpp⟩ := resvPreempt_regs_pair 6 (resvRegister 6 w)
  have hregs := hpr.trans hrr
  have hpair := hpp.trans hrp
  have hheld : foreignDrive.holder ≠ 0 ∧ claimUnit foreignDrive.holder ≠ 0 := by decide
  have hunit : (resvPreempt 6 (resvRegister 6 w)).unit = 0 := (State.rd_congr hregs _).trans hu
  have hreg := driveAt_resvRegister hx rfl (hu ▸ hheld.2) rfl
  have hpre := driveAt_resvPreempt hreg rfl hheld.1 (by rw [hrp])
  have hacq := resvAcquire_of_foreign hpre rfl hheld.1 (hunit ▸ hheld.2)
  have hsplit : splitDrives w = claimLost ((resvPreempt 6 (resvRegister 6 w)).emit (.drive 6 3 [(resvPreempt 6 (resvRegister 6 w)).pair.claim])) := by
    simp [splitDrives, registerAll, hds, State.each, hacq]
  obtain ⟨hlost, -, -, -, h7⟩ := claimLost_active_spec (s := (resvPreempt 6 (resvRegister 6 w)).emit _)
    ((State.rd_congr hregs _).trans hl) ((State.rd_congr hregs _).trans h3)
  rw [hsplit]
  exact ⟨hlost, h7 (by rw [State.emit_pair, hpair, hp]; simp)⟩

/-- The split of the unit ends SEPARATED, not SOLO. -/
theorem splitNow_of_wide {u : State} (hregs : u.regs = wideUnit.regs) (hext : u.ext = wideUnit.ext) :
    (splitNow 0 u).pairState = 7 := by
  have hv : RegsBut takeFields wideUnit (takeClaim 0 3 u) := RegsBut.trans (.of_regs hregs) (takeClaim_regsBut 0 3 u)
  obtain ⟨-, hvext⟩ := (takeClaim_logged 0 3 u).arrs_ext
  have hv' : (takeClaim 0 3 u).ext = wideUnit.ext := hvext.trans hext
  have h3 : (takeClaim 0 3 u).pairState = 3 := hv _ (by decide)
  have hl := takeClaim_claimLost 0 3 u
  have hon : arrOn (takeClaim 0 3 u) 0 = true := by
    rw [arrOn, State.on, hv _ (by decide)]
    decide
  have hds : resvDrives (takeClaim 0 3 u) = [6] := resvDrives_of_claimed hon (hv _ (by decide)) (hv _ (by decide)) h3 hl hv'
  generalize hw : ({ takeClaim 0 3 u with pair.preempting := resvDrives (takeClaim 0 3 u) } : State) = w
  have hwr : w.regs = (takeClaim 0 3 u).regs := by rw [← hw]
  have hwe : w.ext = wideUnit.ext := by rw [← hw]; exact hv'
  have hwp : w.pair.preempting = [6] := by rw [← hw]; exact hds
  have hrd : ∀ f, w.rd f = (takeClaim 0 3 u).rd f := State.rd_congr hwr
  have hwd : resvDrives w = [6] := resvDrives_of_claimed (by rw [arrOn, State.on, hrd]; exact hon) ((hrd _).trans (hv _ (by decide)))
    ((hrd _).trans (hv _ (by decide))) ((hrd _).trans h3) ((hrd _).trans hl) hwe
  obtain ⟨hlost, h7⟩ := splitDrives_of_foreign hwd ((driveAt_congr hwe 6).trans rfl) ((hrd _).trans (hv _ (by decide))) ((hrd _).trans h3)
    ((hrd _).trans hl) hwp
  have hsplit : splitNow 0 u = if (splitDrives w).on R.SPR_STATUS_CLAIM_LOST then splitDrives w else
      ((goSolo 0 (splitDrives w)).raise R.SPR_INT_STATUS_SPLIT).event 0x4403 0 (leBytes 8 (splitDrives w).pair.claim) := by
    rw [← hw]
    rfl
  rw [hsplit, if_pos (by simp [State.on, hlost])]
  exact h7

/-- Refutes O60, in its clause that a home unit without drives and commands goes SOLO at PAIR_UNPAIR: `wideUnit`, whose registers hold what
no run of the model writes (a member count beyond its six bits), has no drive before the claim, one of unit 5 after it, and ends SEPARATED. -/
theorem not_unitCommandsAct : ¬ Obligations.UnitCommandsAct := by
  unfold Obligations.UnitCommandsAct
  rintro ⟨-, -, -, -, hunpair, -⟩
  obtain ⟨hgives, t, ht, -, hsolo⟩ := (hunpair wideUnit unpairRequest _ wideUnit_ready rfl rfl (by decide)).1 (by decide)
  obtain ⟨h0, -⟩ := hsolo (resvDrives_of_wide rfl rfl rfl) rfl rfl rfl
  have h7 : t.pairState = 7 := by
    rw [← Host.Outcome.next.inj (hgives.symm.trans ht)]
    refine (State.rd_congr (settle_regs _) R.SPR_STATUS_STATE).trans ?_
    rw [mbxOk_rd _ _ _ (by decide) (by decide)]
    exact splitNow_of_wide rfl rfl
  exact absurd (h0.symm.trans h7) (by decide)

end Sys2Proof.Machine
end
